-- ==== Sys2Proof/Word.lean ====
section
/-! DEFINITION. The word types of the model and their plainest arithmetic. -/

namespace Sys2Proof

/-- One byte (R7). -/
abbrev Byte := BitVec 8

/-- One 64-bit register or structure word (R9, R10). -/
abbrev Word := BitVec 64

/-- Bits `[lo + w - 1 : lo]` of a 64-bit word, as a number (R7). -/
def bits (v : Word) (lo w : Nat) : Nat := v.toNat >>> lo % 2 ^ w

/-- One bit of a 64-bit word (R7). -/
def bit (v : Word) (i : Nat) : Bool := v.getLsbD i

end Sys2Proof
end

