-- ==== Sys2Proof/Syntax.lean ====
section
/-! DEFINITION. The commands of the block: one constructor of `Instr` for every row of spec/opcode_table.json, with the
operands that the outside world contributes to it: who asks, which object is meant, what a host read returned, which
packet arrived. A link-control block is given as its 32 bytes and, after them, one byte, a lane number, for each of its
blocks that the lane layer marked errored (R271). Numbers that are counts, indexes or identifiers are `Nat`; words of registers and structures are
`Word`; bytes are `Byte`. -/

namespace Sys2Proof

/-- The requesters of a register access (R476, R477): a host function by its device-wide number `256 * link + f`, a
keeper core, the SMBus target, or a forager thread by its device-wide number `128 * hive + 8 * forager + thread`. A host
function reaches its BAR0, or its BAR4 (R473). -/
inductive Requester where
  | host (fn : Nat)
  | bar4 (fn : Nat)
  | keeper (core : Nat)
  | smbus
  | thread (t : Nat)
  deriving DecidableEq, Repr

/-- How a read that the device sent to a host link ends (R492): with data, with an error completion or an unsupported
request, with poisoned data, which are discarded (R402), or without an answer by the link's completion timeout. -/
inductive HostRes where
  | data (bytes : List Byte)
  | error
  | poisoned
  | timeout
  deriving DecidableEq, Repr

/-- What the reader makes of an answer: poisoned data fail it as an error completion does (R492). -/
def HostRes.plain (r : HostRes) : HostRes :=
  match r with
  | .poisoned => .error
  | _ => r

/-- The 16-byte network header (R194). -/
structure NetHeader where
  version : Nat := 2
  kind : Nat := 0
  tc : Nat := 0
  vl : Nat := 0
  colour : Nat := 0
  phase : Bool := false
  ordered : Bool := false
  detoursLeft : Nat := 0
  hops : Nat := 0
  destHost : Nat := 0
  destCoord : Nat := 0
  destEid : Nat := 0
  srcEid : Nat := 0
  flowHash : Nat := 0
  deriving DecidableEq, Repr

/-- The WT header (R71). `reserved` says that some reserved bit is 1. `word32` stands for no bit of it: it says that an ATOMIC_REQ
has 32-bit operands (R82), for which R71 has no field (log entry 45). -/
structure WtHeader where
  version : Nat := 2
  ext : Nat := 0
  opcode : Nat := 0
  destQpn : Nat := 0
  srcQpn : Nat := 0
  psn : Nat := 0
  lowPsn : Nat := 0
  first : Bool := false
  last : Bool := false
  ordered : Bool := false
  solicitAck : Bool := false
  sync : Bool := false
  code : Nat := 0
  address : Nat := 0
  key : Nat := 0
  length : Nat := 0
  operand0 : Nat := 0
  operand1 : Nat := 0
  reserved : Bool := false
  word32 : Bool := false
  deriving DecidableEq, Repr

/-- What the undervoltage monitors and the straps show as main rails return: the rails that are back above their thresholds, one bit each
in the order of GLB_RAIL_STATUS, and the BOARD_ID that is latched when the hold ends (R462, R437). -/
structure RailsBack where
  rails : BitVec 5
  boardId : Byte
  deriving DecidableEq, Repr

/-- The 24-byte swarm header (R168). -/
structure SwarmHeader where
  version : Nat := 2
  kind : Nat := 0
  op : Nat := 0
  gid : Nat := 0
  epoch : Nat := 0
  dtype : Nat := 0
  rop : Nat := 0
  exact : Bool := false
  lastSeg : Bool := false
  lastPkt : Bool := false
  reason : Nat := 0
  segment : Nat := 0
  firstElement : Nat := 0
  elementCount : Nat := 0
  length : Nat := 0
  rootEid : Nat := 0
  reserved : Bool := false
  deriving DecidableEq, Repr

/-- The 48-byte management header (R222). -/
structure MgmtHeader where
  mversion : Nat := 1
  mop : Nat := 0
  seq : Nat := 0
  directed : Bool := false
  response : Bool := false
  hopCount : Nat := 0
  hopPtr : Nat := 0
  status : Nat := 0
  token : Nat := 0
  outHops : List Nat := []
  returnHops : List Nat := []
  deriving DecidableEq, Repr

/-- What follows the network header of a packet: a WT, swarm or management header, or bytes of a reserved kind. -/
inductive Body where
  | wt (h : WtHeader)
  | swarm (h : SwarmHeader)
  | mgmt (h : MgmtHeader)
  | raw
  deriving DecidableEq, Repr

/-- One packet: network header, the header of its kind, payload. `stomped` marks a copy whose CRC is inverted (R230).
`unread` are the reserved bits of its headers that are 1, byte by byte (none when all are 0), which travel with it (R334, R338);
`short` is by how many bytes its LENGTH falls short of its headers; `arrived` is the fabric time at its first header byte (R334), which is
no part of its bytes. -/
structure Packet where
  net : NetHeader := {}
  body : Body := .raw
  payload : List Byte := []
  stomped : Bool := false
  unread : List Byte := []
  short : Nat := 0
  arrived : Nat := 0
  deriving DecidableEq, Repr

/-- One frame as it arrives on a link (R228): the 8 bytes of the link header, the packet bytes, the 4-byte link CRC,
the lane of each of its blocks that the lane layer marked errored (R271), and whether the copy that a router forwards had begun to
leave before the frame's CRC arrived (R230). -/
structure LinkFrame where
  header : List Byte
  bytes : List Byte
  crc : BitVec 32
  errored : List Nat := []
  begun : Bool := false
  deriving DecidableEq, Repr

/-- What the lichen monitor measures for one re-plan (R417): the largest slowdown in 0.1 % and its pair, the highest
SRAM probe voltage in mV, and the SRAM rows with their corrected errors since the last re-plan. -/
structure Measurement where
  d : Nat := 0
  pair : Nat := 0
  sramVmin : Nat := 0
  rows : List (Nat × Nat × Nat) := []
  deriving DecidableEq, Repr

/-- The JTAG instructions of R447 and R448, and any other. -/
inductive JtagInstr where
  | idcode | bypass | sample | highz | extest | extestPulse | extestTrain | dbgChallenge | dbgResponse | other
  deriving DecidableEq, Repr

/-- A five-bit register number of a thread (R316). -/
abbrev GReg := BitVec 5

/-- The commands, one constructor per row of spec/opcode_table.json, the Chrohus
instructions first (compiled code builds only the first constructors of a type as large as this one), then the others,
each part in the order of the table. -/
inductive Instr where
  /-- R325: ALU FN 0 adds ra and rb. -/
  | add (t : Nat) (rd : GReg) (ra : GReg) (rb : GReg)
  /-- R325: ALU FN 1 subtracts rb from ra. -/
  | sub (t : Nat) (rd : GReg) (ra : GReg) (rb : GReg)
  /-- R325: ALU FN 2 ANDs ra and rb. -/
  | and (t : Nat) (rd : GReg) (ra : GReg) (rb : GReg)
  /-- R325: ALU FN 3 ORs ra and rb. -/
  | or (t : Nat) (rd : GReg) (ra : GReg) (rb : GReg)
  /-- R325: ALU FN 4 XORs ra and rb. -/
  | xor (t : Nat) (rd : GReg) (ra : GReg) (rb : GReg)
  /-- R325: ALU FN 5 shifts ra left. -/
  | sll (t : Nat) (rd : GReg) (ra : GReg) (rb : GReg)
  /-- R325: ALU FN 6 shifts ra right with zero fill. -/
  | srl (t : Nat) (rd : GReg) (ra : GReg) (rb : GReg)
  /-- R325: ALU FN 7 shifts ra right with sign fill. -/
  | sra (t : Nat) (rd : GReg) (ra : GReg) (rb : GReg)
  /-- R325: ALU FN 8 sets rd when ra is signed-less than rb. -/
  | slt (t : Nat) (rd : GReg) (ra : GReg) (rb : GReg)
  /-- R325: ALU FN 9 sets rd when ra is unsigned-less than rb. -/
  | sltu (t : Nat) (rd : GReg) (ra : GReg) (rb : GReg)
  /-- R325: ALU FN 10 gives the low 64 bits of the product. -/
  | mul (t : Nat) (rd : GReg) (ra : GReg) (rb : GReg)
  /-- R325: ALU FN 11 gives the high 64 bits of the unsigned product. -/
  | mulhu (t : Nat) (rd : GReg) (ra : GReg) (rb : GReg)
  /-- R325: ALU FN 12 gives the high 64 bits of the signed product. -/
  | mulh (t : Nat) (rd : GReg) (ra : GReg) (rb : GReg)
  /-- R325: ALU FN 13 divides unsigned. -/
  | divu (t : Nat) (rd : GReg) (ra : GReg) (rb : GReg)
  /-- R325: ALU FN 14 gives the unsigned remainder. -/
  | remu (t : Nat) (rd : GReg) (ra : GReg) (rb : GReg)
  /-- R325: ALU FN 15 gives the signed lesser. -/
  | min (t : Nat) (rd : GReg) (ra : GReg) (rb : GReg)
  /-- R325: ALU FN 16 gives the signed greater. -/
  | max (t : Nat) (rd : GReg) (ra : GReg) (rb : GReg)
  /-- R325: ALU FN 17 gives the unsigned lesser. -/
  | minu (t : Nat) (rd : GReg) (ra : GReg) (rb : GReg)
  /-- R325: ALU FN 18 gives the unsigned greater. -/
  | maxu (t : Nat) (rd : GReg) (ra : GReg) (rb : GReg)
  /-- R325: ALU FN 19 counts leading zero bits. -/
  | clz (t : Nat) (rd : GReg) (ra : GReg) (rb : GReg)
  /-- R325: ALU FN 20 counts trailing zero bits. -/
  | ctz (t : Nat) (rd : GReg) (ra : GReg) (rb : GReg)
  /-- R325: ALU FN 21 counts one bits. -/
  | popc (t : Nat) (rd : GReg) (ra : GReg) (rb : GReg)
  /-- R325: ALU FN 22 reverses the eight bytes of ra. -/
  | bswap (t : Nat) (rd : GReg) (ra : GReg) (rb : GReg)
  /-- R325: ALU FN 23 reverses the low four bytes of ra. -/
  | bswap4 (t : Nat) (rd : GReg) (ra : GReg) (rb : GReg)
  /-- R325: ALU FN 24 continues a CRC-32C over the 8 bytes of rb. -/
  | crc8 (t : Nat) (rd : GReg) (ra : GReg) (rb : GReg)
  /-- R326: Adds a sign-extended immediate. -/
  | addi (t : Nat) (rd : GReg) (ra : GReg) (imm : BitVec 16)
  /-- R326: ANDs a zero-extended immediate. -/
  | andi (t : Nat) (rd : GReg) (ra : GReg) (imm : BitVec 16)
  /-- R326: ORs a zero-extended immediate. -/
  | ori (t : Nat) (rd : GReg) (ra : GReg) (imm : BitVec 16)
  /-- R326: XORs a zero-extended immediate. -/
  | xori (t : Nat) (rd : GReg) (ra : GReg) (imm : BitVec 16)
  /-- R326: Signed compare with a sign-extended immediate. -/
  | slti (t : Nat) (rd : GReg) (ra : GReg) (imm : BitVec 16)
  /-- R326: Unsigned compare with a zero-extended immediate. -/
  | sltiu (t : Nat) (rd : GReg) (ra : GReg) (imm : BitVec 16)
  /-- R326: Shifts or rotates by an immediate amount. -/
  | shifti (t : Nat) (rd : GReg) (ra : GReg) (imm : BitVec 16)
  /-- R326: Loads a sign-extended 21-bit immediate shifted left by 16. -/
  | lih (t : Nat) (rd : GReg) (imm : BitVec 21)
  /-- R328: Loads a sign-extended byte. -/
  | lb (t : Nat) (rd : GReg) (ra : GReg) (imm : BitVec 16)
  /-- R328: Loads a zero-extended byte. -/
  | lbu (t : Nat) (rd : GReg) (ra : GReg) (imm : BitVec 16)
  /-- R328: Loads a sign-extended halfword. -/
  | lh (t : Nat) (rd : GReg) (ra : GReg) (imm : BitVec 16)
  /-- R328: Loads a zero-extended halfword. -/
  | lhu (t : Nat) (rd : GReg) (ra : GReg) (imm : BitVec 16)
  /-- R328: Loads a sign-extended word. -/
  | lw (t : Nat) (rd : GReg) (ra : GReg) (imm : BitVec 16)
  /-- R328: Loads a zero-extended word. -/
  | lwu (t : Nat) (rd : GReg) (ra : GReg) (imm : BitVec 16)
  /-- R328: Loads 8 bytes. -/
  | ld (t : Nat) (rd : GReg) (ra : GReg) (imm : BitVec 16)
  /-- R328: Stores a byte. -/
  | sb (t : Nat) (rb : GReg) (ra : GReg) (imm : BitVec 16)
  /-- R328: Stores a halfword. -/
  | sh (t : Nat) (rb : GReg) (ra : GReg) (imm : BitVec 16)
  /-- R328: Stores a word. -/
  | sw (t : Nat) (rb : GReg) (ra : GReg) (imm : BitVec 16)
  /-- R328: Stores 8 bytes. -/
  | sd (t : Nat) (rb : GReg) (ra : GReg) (imm : BitVec 16)
  /-- R329: Loads 8 bytes and sets a reservation on their 128-byte granule. -/
  | lr (t : Nat) (rd : GReg) (ra : GReg) (imm : BitVec 16)
  /-- R329: Stores only if the reservation still holds and clears it. -/
  | sc (t : Nat) (rd : GReg) (ra : GReg) (rb : GReg)
  /-- R330: ATOM FN6 0 performs an indivisible fetch-and-add. -/
  | atomFadd (t : Nat) (rd : GReg) (ra : GReg) (rb : GReg) (rc : GReg) (fnHi : BitVec 3)
  /-- R330: ATOM FN6 1 performs an indivisible compare-and-swap. -/
  | atomCswap (t : Nat) (rd : GReg) (ra : GReg) (rb : GReg) (rc : GReg) (fnHi : BitVec 3)
  /-- R330: ATOM FN6 2 performs an indivisible swap. -/
  | atomSwap (t : Nat) (rd : GReg) (ra : GReg) (rb : GReg) (rc : GReg) (fnHi : BitVec 3)
  /-- R330: ATOM FN6 3 performs an indivisible AND. -/
  | atomAnd (t : Nat) (rd : GReg) (ra : GReg) (rb : GReg) (rc : GReg) (fnHi : BitVec 3)
  /-- R330: ATOM FN6 4 performs an indivisible OR. -/
  | atomOr (t : Nat) (rd : GReg) (ra : GReg) (rb : GReg) (rc : GReg) (fnHi : BitVec 3)
  /-- R330: ATOM FN6 5 performs an indivisible XOR. -/
  | atomXor (t : Nat) (rd : GReg) (ra : GReg) (rb : GReg) (rc : GReg) (fnHi : BitVec 3)
  /-- R330: ATOM FN6 6 performs an indivisible signed minimum. -/
  | atomSmin (t : Nat) (rd : GReg) (ra : GReg) (rb : GReg) (rc : GReg) (fnHi : BitVec 3)
  /-- R330: ATOM FN6 7 performs an indivisible signed maximum. -/
  | atomSmax (t : Nat) (rd : GReg) (ra : GReg) (rb : GReg) (rc : GReg) (fnHi : BitVec 3)
  /-- R327: Branches when ra equals rb. -/
  | beq (t : Nat) (rb : GReg) (ra : GReg) (imm : BitVec 16)
  /-- R327: Branches when ra differs from rb. -/
  | bne (t : Nat) (rb : GReg) (ra : GReg) (imm : BitVec 16)
  /-- R327: Branches when ra is signed-less than rb. -/
  | blt (t : Nat) (rb : GReg) (ra : GReg) (imm : BitVec 16)
  /-- R327: Branches when ra is signed greater or equal to rb. -/
  | bge (t : Nat) (rb : GReg) (ra : GReg) (imm : BitVec 16)
  /-- R327: Branches when ra is unsigned-less than rb. -/
  | bltu (t : Nat) (rb : GReg) (ra : GReg) (imm : BitVec 16)
  /-- R327: Branches when ra is unsigned greater or equal to rb. -/
  | bgeu (t : Nat) (rb : GReg) (ra : GReg) (imm : BitVec 16)
  /-- R327: Writes the return address and jumps PC-relative. -/
  | jal (t : Nat) (rd : GReg) (imm : BitVec 21)
  /-- R327: Writes the return address and jumps to ra plus an immediate. -/
  | jalr (t : Nat) (rd : GReg) (ra : GReg) (imm : BitVec 16)
  /-- R332: FENCE FN 0 orders every earlier access before every later one and reports a fault flag. -/
  | fenceFull (t : Nat) (rd : GReg)
  /-- R332: FENCE FN 1 orders earlier loads before later accesses. -/
  | fenceAcquire (t : Nat) (rd : GReg)
  /-- R332: FENCE FN 2 orders earlier accesses before later stores. -/
  | fenceRelease (t : Nat) (rd : GReg)
  /-- R332: FENCE FN 3 also waits for every earlier device store's acknowledgement. -/
  | fenceDevice (t : Nat) (rd : GReg)
  /-- R317: Reads a control register, trapping where the privilege forbids. -/
  | csrr (t : Nat) (rd : GReg) (csr : BitVec 16)
  /-- R317: Writes a control register, trapping where the privilege forbids. -/
  | csrw (t : Nat) (ra : GReg) (csr : BitVec 16)
  /-- R335: Reads bytes of the inbound packet window. -/
  | pwld (t : Nat) (rd : GReg) (ra : GReg) (imm : BitVec 16)
  /-- R335: Writes bytes of the outbound packet window. -/
  | pwst (t : Nat) (rb : GReg) (ra : GReg) (imm : BitVec 16)
  /-- R336: Ends the current packet and waits for the hive to hand over the next one. -/
  | pnext (t : Nat) (rd : GReg)
  /-- R338: Sends the outbound headers and payload through the injection path. -/
  | psend (t : Nat) (rd : GReg) (ra : GReg) (rb : GReg) (rc : GReg)
  /-- R336: Ends processing of the current packet and frees its credit or SCRATCH space. -/
  | pdone (t : Nat) (rd : GReg)
  /-- R336: Returns the EID table entry of an EID. -/
  | eidlk (t : Nat) (rd : GReg) (ra : GReg)
  /-- R339: Copies bytes between forager addresses and returns its outcome. -/
  | copy (t : Nat) (rd : GReg) (ra : GReg) (rb : GReg) (rc : GReg)
  /-- R339: Copies payload bytes of the current packet to a forager address through the placement write queue. -/
  | place (t : Nat) (rd : GReg) (ra : GReg) (rb : GReg) (rc : GReg)
  /-- R340: Performs a message arrival match or enters the message into the unexpected lists. -/
  | arrive (t : Nat) (rd : GReg) (ra : GReg)
  /-- R340: Posts a receive with a posting sequence number or takes an unexpected record. -/
  | post (t : Nat) (rd : GReg) (ra : GReg)
  /-- R340: Unlinks every posted entry and unexpected record of a queue pair. -/
  | cancel (t : Nat) (rd : GReg) (ra : GReg)
  /-- R341: Claims a native lock word with the thread's identity. -/
  | lclaim (t : Nat) (rd : GReg) (ra : GReg)
  /-- R341: Releases a native lock word the thread holds. -/
  | lrel (t : Nat) (rd : GReg) (ra : GReg)
  /-- R378: Claims a compatibility-mode lock word in the store. -/
  | lclaimw (t : Nat) (rd : GReg) (ra : GReg)
  /-- R378: Releases a compatibility-mode lock word in the store. -/
  | lrelw (t : Nat) (rd : GReg) (ra : GReg)
  /-- R342: Raises a firmware event source, or writes a HANDLER_EVENT record at handler privilege. -/
  | evraise (t : Nat) (ra : GReg) (rb : GReg)
  /-- R343: SYS FN 0 does nothing. -/
  | sysNop (t : Nat)
  /-- R343: Gives the issue slot to the next ready thread and clears the reservation. -/
  | yieldSlot (t : Nat)
  /-- R343: Traps SOFTWARE with TRAP_INFO from ra. -/
  | trap (t : Nat) (ra : GReg)
  /-- R347: Performs a FULL fence and ends the program, writing a handler's receive completion. -/
  | exit (t : Nat)
  /-- R343: Returns from a firmware trap routine and clears IN_TRAP. -/
  | xret (t : Nat) (ra : GReg)
  /-- R343: Waits for the hive to signal a doorbell, timer or management packet. -/
  | wait (t : Nat) (rd : GReg)
  /-- R6: A write to a register that has no row of its own takes effect field by field after the range, related-field and enable checks, or raises the block's configuration-error event. -/
  | registerWrite (req : Requester) (off : Nat) (size : Nat) (v : Word)
  /-- R11: An 8-byte read of a register holding RC fields returns their values and clears them in the same access. -/
  | registerReadClear (req : Requester) (off : Nat) (size : Nat)
  /-- R23: Writing QUIESCE 1 to a crossing stops its data face from admitting new work and starts the drain. -/
  | quiesce (req : Requester) (n : Nat) (v : Word)
  /-- R23: Writing QUIESCE 0 restarts admission at once and abandons any drain without loss. -/
  | resume (req : Requester) (n : Nat) (v : Word)
  /-- R23: The last admitted work of a quiesced block completes and QUIESCED is set. -/
  | quiesceDrained (n : Nat)
  /-- R24: The drain timeout expires with work held; DRAIN_TIMED_OUT is set, a contained event is raised and the block stays quiesced. -/
  | quiesceTimeout (n : Nat)
  /-- R26: A domain controller fails to answer within the register-access timeout; reads return all ones, writes are discarded and REG_TIMEOUT is raised. -/
  | registerAccessTimeout (req : Requester) (off : Nat) (write : Bool)
  /-- R32: A 10 µs monitor window ends and REFCLK_B is compared against REFCLK_A, raising a clock fault when it is out of tolerance. -/
  | refbMonitorWindow (offset : Int) (absent : Bool)
  /-- R33: The root PLL loses lock, every derived clock is held stopped and ROOT_UNLOCK_SEEN is set. -/
  | rootUnlock
  /-- R33: The root PLL regains lock, the clocks run again and the clock fault is raised. -/
  | rootRelock
  /-- R33: REFCLK_B stops and the transmitters of ports 36 to 71 stop. -/
  | refclkBStop
  /-- R37: A write to GLB_RES_RELEASE returns a shared resource to owner code 0, or is refused with CONFLICT while its owner is enabled. -/
  | resRelease (req : Requester) (v : Word)
  /-- R40: Setting LOOP_EN claims spare crossbar ports 94 and 95 and starts the crossbar loopback test. -/
  | loopEn (req : Requester) (v : Word)
  /-- R40: Writing LOOP_EN 0 stops the loopback generator after the packet in progress. -/
  | loopDisable (req : Requester) (v : Word)
  /-- R40: After LOOP_GAP crossbar cycles the generator sends the next loopback packet into crossbar port 95. -/
  | loopPacketGenerate
  /-- R40: The checker at port 94 receives a loopback packet, compares it and counts it in LOOP_PACKETS and, on mismatch, LOOP_ERRORS. -/
  | loopPacketCheck (rx : List Byte)
  /-- R41: Setting MIRROR_EN claims spare crossbar ports 94 and 95 and starts packet mirror after checking MIRROR_OUT. -/
  | mirrorEn (req : Requester) (v : Word)
  /-- R41: Writing MIRROR_EN 0 stops packet mirror. -/
  | mirrorDisable (req : Requester) (v : Word)
  /-- R43: Writing TPT_ABI_REQUEST.GO submits a queue ABI version request that firmware grants or rejects in TPT_ABI_STATUS. -/
  | abiRequest (req : Requester) (fn : Nat) (v : Word)
  /-- R46: The 64-byte command block read from host memory returns, or fails, and the command is judged. -/
  | cmdBlockReadDone (fn : Nat) (r : HostRes)
  /-- R46: The 1 ms command time of a command waiting on a drain or read ends and the command completes with INVALID_STATE or REMOTE_OP_ERROR. -/
  | commandTimeExpiry (fn : Nat)
  /-- R46: Command 0x01 creates a protection domain. -/
  | createPd (fn : Nat)
  /-- R45: Command 0x02 destroys a protection domain that nothing belongs to. -/
  | destroyPd (fn : Nat)
  /-- R47: Command 0x03 creates a completion queue ring. -/
  | createCq (fn : Nat)
  /-- R46: Command 0x04 destroys a completion queue that no queue pair names. -/
  | destroyCq (fn : Nat)
  /-- R493: Command 0x05 creates the function's event queue. -/
  | createEq (fn : Nat)
  /-- R46: Command 0x06 creates a queue pair in INIT and returns its device QPN. -/
  | createQp (fn : Nat) (qpn : Nat)
  /-- R63: MODIFY_QP with TARGET_STATE INIT moves a queue pair from RESET to INIT. -/
  | modifyQpInit (fn : Nat)
  /-- R63: MODIFY_QP with TARGET_STATE READY loads peer and PSNs from INIT, or resumes from PAUSED, after the own-EID and peer EID checks. -/
  | modifyQpReady (fn : Nat)
  /-- R63: MODIFY_QP with TARGET_STATE PAUSED stops new send descriptors from starting. -/
  | modifyQpPaused (fn : Nat)
  /-- R64: MODIFY_QP with TARGET_STATE ERROR puts the queue pair into ERROR and starts its flush. -/
  | modifyQpError (fn : Nat)
  /-- R63: MODIFY_QP with TARGET_STATE RESET performs a queue-pair reset, flushing every descriptor and clearing the context. -/
  | modifyQpReset (fn : Nat)
  /-- R63: Command 0x08 destroys a queue pair in RESET or ERROR. -/
  | destroyQp (fn : Nat)
  /-- R46: Command 0x09 returns a queue pair's state and next send PSN. -/
  | queryQp (fn : Nat)
  /-- R88: Command 0x0A registers a region and returns its key. -/
  | regMr (fn : Nat)
  /-- R89: Command 0x0B judges a region key, raises its generation and waits for its in-use count to drain before freeing it. -/
  | deregMr (fn : Nat)
  /-- R88: Command 0x0C allocates an unbound window entry and returns its key. -/
  | allocWindow (fn : Nat)
  /-- R89: Command 0x0D frees an unbound, drained window entry and raises its generation. -/
  | freeWindow (fn : Nat)
  /-- R351: Command 0x0E reads, checks and copies a handler image and registers it. -/
  | regHandler (fn : Nat) (image : HostRes)
  /-- R352: Command 0x0F removes a handler and invalidates its instruction-cache lines. -/
  | deregHandler (fn : Nat)
  /-- R293: Command 0x10 sets a queue pair's shaper rate, burst and pre-colour. -/
  | setShaper (fn : Nat)
  /-- R296: Command 0x11 sets a protection domain's two-rate three-colour policer. -/
  | setPolicer (fn : Nat)
  /-- R399: INV_XLT with SCOPE CONTEXT removes every cached entry of a context and starts waiting for accesses that hold them. -/
  | invXltContext (fn : Nat)
  /-- R399: INV_XLT with SCOPE RANGE removes overlapping leaf entries and all pointer entries of a context and starts waiting for accesses that hold them. -/
  | invXltRange (fn : Nat)
  /-- R399: The last access holding a removed translation ends at the host link and INV_XLT completes with SUCCESS. -/
  | xltInvalidationDrain (fn : Nat)
  /-- R48: An 8-byte send doorbell write makes descriptors visible, is ignored, or puts the queue pair into ERROR with DOORBELL_OVERRUN. -/
  | sendDoorbell (fn : Nat) (q : Nat) (size : Nat) (v : Word)
  /-- R48: An 8-byte receive doorbell write makes receive descriptors visible for posting, or is ignored. -/
  | recvDoorbell (fn : Nat) (q : Nat) (size : Nat) (v : Word)
  /-- R58: A completion-queue doorbell reports consumed entries and, with ARM, requests one MSI-X message. -/
  | cqDoorbell (fn : Nat) (c : Nat) (size : Nat) (v : Word)
  /-- R493: The event-queue doorbell reports consumed event records and frees room. -/
  | eqDoorbell (fn : Nat) (size : Nat) (v : Word)
  /-- R52: A send descriptor read from the ring returns, is copied and checked, and the consumer record advances. -/
  | sendDescriptorRead (fn : Nat) (q : Nat) (r : HostRes)
  /-- R54: A receive descriptor read from the ring returns, is checked, gets a posting sequence number and is posted or matched. -/
  | recvDescriptorRead (fn : Nat) (q : Nat) (r : HostRes)
  /-- R51: Send opcode 0x00 transfers nothing and completes in queue order. -/
  | nop (fn : Nat) (q : Nat)
  /-- R53: Send opcode 0x01 reads the local buffer and sends it as PUT packets split at 4 KiB boundaries. -/
  | put (fn : Nat) (q : Nat)
  /-- R53: Send opcode 0x03 sends GET_REQ packets of up to 65,536 B for a remote range. -/
  | get (fn : Nat) (q : Nat)
  /-- R82: Send opcode 0x10 requests a remote fetch-and-add. -/
  | atomicFadd (fn : Nat) (q : Nat)
  /-- R82: Send opcode 0x11 requests a remote compare-and-swap. -/
  | atomicCswap (fn : Nat) (q : Nat)
  /-- R82: Send opcode 0x12 requests a remote swap. -/
  | atomicSwap (fn : Nat) (q : Nat)
  /-- R82: Send opcode 0x13 requests a remote AND. -/
  | atomicAnd (fn : Nat) (q : Nat)
  /-- R82: Send opcode 0x14 requests a remote OR. -/
  | atomicOr (fn : Nat) (q : Nat)
  /-- R82: Send opcode 0x15 requests a remote XOR. -/
  | atomicXor (fn : Nat) (q : Nat)
  /-- R82: Send opcode 0x16 requests a remote signed minimum. -/
  | atomicSmin (fn : Nat) (q : Nat)
  /-- R82: Send opcode 0x17 requests a remote signed maximum. -/
  | atomicSmax (fn : Nat) (q : Nat)
  /-- R126: Send opcode 0x20 sends a matched message eagerly or by rendezvous according to the eager threshold. -/
  | sendTagged (fn : Nat) (q : Nat)
  /-- R92: Send opcode 0x30 checks and binds a window in queue order. -/
  | bindWindow (fn : Nat) (q : Nat)
  /-- R93: Send opcode 0x31 raises a window's generation, clears BOUND and waits for its drain. -/
  | unbindWindow (fn : Nat) (q : Nat)
  /-- R156: Collective opcode 0x40 joins a barrier on a group's frond. -/
  | barrier (fn : Nat) (q : Nat)
  /-- R156: Collective opcode 0x41 contributes to a reduction whose result only the root member writes. -/
  | reduce (fn : Nat) (q : Nat)
  /-- R156: Collective opcode 0x42 contributes to a reduction whose result every member writes. -/
  | allreduce (fn : Nat) (q : Nat)
  /-- R156: Collective opcode 0x43 supplies or receives the root member's data. -/
  | broadcast (fn : Nat) (q : Nat)
  /-- R120: Receive opcode 0x80 is posted by searching its class's unexpected list or appending to its posted list. -/
  | recvTagged (fn : Nat) (q : Nat)
  /-- R73: Send processing builds the next request packet once a tracker entry, PSN window room and an unthrottled group allow it. -/
  | sendPacketBuild (fn : Nat) (q : Nat)
  /-- R62: A per-peer state becomes allocatable and a descriptor waiting for one proceeds. -/
  | peerStateFreed (fn : Nat) (q : Nat)
  /-- R62: A descriptor waiting for a per-peer state reaches the state-miss deadline and completes RESOURCE_EXHAUSTED. -/
  | contextWaitDeadline (fn : Nat) (q : Nat)
  /-- R61: A per-peer state idle for IDLE_MS is reclaimed and POOL_USED falls. -/
  | seStateIdleExpiry (qpn : Nat) (peerEid : Nat) (peerQpn : Nat)
  /-- R94: An arriving WT PUT packet is classified by PSN, checked against its key and placed. -/
  | wtPut (port : Nat) (p : Packet)
  /-- R94: An arriving GET_REQ is classified, checked and its range read for GET_RESP packets. -/
  | getReq (port : Nat) (p : Packet)
  /-- R76: An arriving GET_RESP is placed once per PSN and acknowledges its request. -/
  | getResp (port : Nat) (p : Packet)
  /-- R78: An arriving ATOMIC_REQ is checked, given a result-cache entry and performed, or answered from the cache. -/
  | atomicReq (port : Nat) (p : Packet)
  /-- R77: An arriving ATOMIC_RESP returns the old value and retires the request. -/
  | atomicResp (port : Nat) (p : Packet)
  /-- R77: An arriving WT ACK retires acknowledged packets and writes the completions that become due. -/
  | ack (port : Nat) (p : Packet)
  /-- R69: An arriving WT NAK pauses for a STATE_MISS or RECEIVER_FULL hint or puts the queue pair into ERROR. -/
  | nak (port : Nat) (p : Packet)
  /-- R131: An arriving EAGER packet is matched, placed into a receive buffer or written into an unexpected record, or refused RECEIVER_FULL. -/
  | eager (port : Nat) (p : Packet)
  /-- R137: An arriving RTS is matched and starts a rendezvous fetch, or becomes an unexpected record. -/
  | rts (port : Nat) (p : Packet)
  /-- R139: An arriving FIN completes the sender's rendezvous SEND_TAGGED or is counted as stray. -/
  | fin (port : Nat) (p : Packet)
  /-- R67: A store fetch of a connection context and key entry completes and the waiting packets are processed in arrival order. -/
  | contextFetchDone (qpn : Nat) (peerEid : Nat) (peerQpn : Nat) (uncorrected : Bool)
  /-- R75: TPT_ACK.DELAY passes since the first unacknowledged request and the responder sends an ACK. -/
  | ackDelayExpiry (qpn : Nat) (peerEid : Nat) (peerQpn : Nat)
  /-- R76: A request packet's retransmit timer expires and the packet is resent or the descriptor completes RETRY_EXCEEDED. -/
  | retransmitTimeout (qpn : Nat) (peerEid : Nat) (peerQpn : Nat) (psn : Nat)
  /-- R69: The STATE_MISS retry hint passes and the packet is resent with the same PSN. -/
  | stateMissHintExpiry (qpn : Nat) (peerEid : Nat) (peerQpn : Nat) (psn : Nat)
  /-- R70: The STATE_MISS deadline passes and the descriptor completes RETRY_EXCEEDED with DETAIL 1. -/
  | stateMissDeadline (qpn : Nat) (peerEid : Nat) (peerQpn : Nat) (psn : Nat)
  /-- R78: A result-cache entry held for HOLD_US is freed. -/
  | resultHoldExpiry (qpn : Nat) (peerEid : Nat) (peerQpn : Nat) (psn : Nat)
  /-- R75: A PUT packet's last placement write is issued, its in-use reference is released and it becomes acknowledgeable. -/
  | placementIssued (id : Nat)
  /-- R109: Read data for a GET_REQ or local buffer returns from the host link or store, or ends with an error. -/
  | hostReadDataReturn (id : Nat) (r : HostRes)
  /-- R102: A PCIe AtomicOp completes and the atomic returns its old value or the emulation retries its CAS. -/
  | hostAtomicResponse (id : Nat) (r : HostRes)
  /-- R103: The store atomic unit completes a read-modify-write and the result is entered in the result cache. -/
  | storeAtomicDone (id : Nat)
  /-- R111: A revoked key's in-use count reaches 0 and its waiting unbind or deregistration completes. -/
  | keyDrainComplete (idx : Nat)
  /-- R112: A drain exceeds KEY_DRAIN.TIMEOUT_US, STALLED is set and DRAIN_STALL is raised. -/
  | keyDrainStall (idx : Nat)
  /-- R108: A host CXL.mem read of the CXL_MEM range returns the line, poisoned when it holds an uncorrected error. -/
  | cxlMemRead (link : Nat) (addr : Nat)
  /-- R108: A host CXL.mem write stores a line and a full-line write clears poison. -/
  | cxlMemWrite (link : Nat) (addr : Nat) (bytes : List (Option Byte))
  /-- R124: Matches free posted entries and reading of receive descriptors resumes in ring order. -/
  | postingResume
  /-- R129: The unexpected pool empties and a pending POOL_KIB value takes effect. -/
  | poolResizeApply
  /-- R134: The RECEIVER_FULL hint passes and the refused packets are resent. -/
  | fullHintExpiry (qpn : Nat) (peerEid : Nat) (peerQpn : Nat)
  /-- R135: The RECEIVER_FULL deadline passes and the descriptor completes RETRY_EXCEEDED with DETAIL 2. -/
  | receiverFullDeadline (qpn : Nat) (peerEid : Nat) (peerQpn : Nat) (psn : Nat)
  /-- R140: The rendezvous wait passes without a FIN and the descriptor completes RETRY_EXCEEDED with DETAIL 3. -/
  | rndvWaitExpiry (qpn : Nat) (peerEid : Nat) (peerQpn : Nat) (psn : Nat)
  /-- R147: A handler thread becomes free for a receive whose placement completed and the handler starts with its entry registers. -/
  | handlerStart (fn : Nat) (q : Nat) (t : Nat)
  /-- R153: Writing SWM_FROND_CTRL.WRITE checks and installs a frond entry, aborting any epoch in progress. -/
  | frondCtrlWrite (req : Requester) (v : Word)
  /-- R153: Writing SWM_FROND_CTRL.READ copies a frond and its runtime state into the data registers. -/
  | frondCtrlRead (req : Requester) (v : Word)
  /-- R163: Setting SWM_CONFIG.ENABLE claims the staging partition and enables the swarm. -/
  | swarmEnable (req : Requester) (v : Word)
  /-- R164: An UP swarm packet arrives, is checked against the epoch and window and combined into its segment. -/
  | swarmUpPacket (port : Nat) (p : Packet)
  /-- R165: A DOWN swarm packet arrives, is forwarded to every child and written to the member. -/
  | swarmDownPacket (port : Nat) (p : Packet)
  /-- R183: An ABORT swarm packet arrives and the frond aborts the epoch and floods ABORT onward. -/
  | swarmAbortPacket (port : Nat) (p : Packet)
  /-- R166: A staging cell's downward forwarding ends and the next-epoch packet waiting at port 88 proceeds. -/
  | stagingCellFree (gid : Nat) (cell : Nat)
  /-- R181: A frond's epoch timer expires and the frond aborts the epoch with REASON TIMEOUT. -/
  | epochTimeout (gid : Nat)
  /-- R195: A packet arriving at a router is checked for hop limit, turn violation, phase and local delivery. -/
  | routerArrival (port : Nat) (lane : Nat)
  /-- R205: A packet header reaches the head of its lane and the router chooses an output, or discards it. -/
  | routingDecision (port : Nat) (lane : Nat)
  /-- R305: At a packet boundary the egress scheduler chooses the next link-control block, replay or data packet. -/
  | egressSelect (port : Nat)
  /-- R208: The waggle period passes and a summary snapshot is sent to each neighbour. -/
  | wagglePeriod
  /-- R218: Writing RTE_SWAP.GO checks the shadow set and makes it active, or schedules it for RTE_SWAP_TIME. -/
  | routeSwap (req : Requester) (v : Word)
  /-- R218: Fabric time reaches RTE_SWAP_TIME and the pending swap is checked and made active. -/
  | timedSwap
  /-- R218: Writing RTE_SWAP.CANCEL ends a pending swap without effect. -/
  | swapCancel (req : Requester) (v : Word)
  /-- R215: An injection queue falls below LO_CELLS and its group stops being throttled. -/
  | throttleRelease (group : Nat)
  /-- R223: The keeper records the arrival port of a directed management packet and forwards it or takes it. -/
  | mgmtDirectedForward
  /-- R225: Management operation 0x01 takes ownership with a new token. -/
  | claim
  /-- R224: Management operation 0x02 clears ownership. -/
  | release
  /-- R224: Management operation 0x03 returns up to 64 register words. -/
  | readReg
  /-- R224: Management operation 0x04 writes up to 64 register words as keeper accesses. -/
  | writeReg
  /-- R224: Management operation 0x05 writes the shadow shape and own EIDs, swaps and sets JOINED. -/
  | assign
  /-- R224: Management operation 0x06 writes EID table entries. -/
  | eidWrite
  /-- R153: Management operation 0x07 writes a frond entry as SWM_FROND_CTRL does. -/
  | frondWrite
  /-- R224: Management operation 0x08 requests a routing swap at once or at a fabric time. -/
  | swap
  /-- R224: Management operation 0x0A returns its payload unchanged. -/
  | echo
  /-- R225: Writing RTE_MGMT.RELEASE clears ownership from the host side. -/
  | rteMgmtRelease (req : Requester) (v : Word)
  /-- R235: A packet arrives on a link and is classified by CRC and LSN, accepted, discarded or NAKed, with credit returned. -/
  | linkPacketReceive (port : Nat) (f : LinkFrame)
  /-- R239: An ACK_CREDIT block releases replay-buffer packets, returns credits and, with NAK, starts a replay. -/
  | ackCredit (port : Nat) (b : List Byte)
  /-- R243: A RESYNC_MARK block arrives and the receiver snapshots its free cells into a RESYNC_REPORT. -/
  | resyncMark (port : Nat) (b : List Byte)
  /-- R243: A RESYNC_REPORT block arrives and the sender recomputes AVAIL for every lane. -/
  | resyncReport (port : Nat) (b : List Byte)
  /-- R298: A TIME request block arrives and the parent answers at once with its timestamps. -/
  | timeRequest (port : Nat) (b : List Byte)
  /-- R299: A TIME response arrives, the child computes θ and the servo steps or slews fabric time. -/
  | timeResponse (port : Nat) (b : List Byte)
  /-- R232: A WAGGLE fragment arrives and is assembled; fragment 11 puts the summary into use. -/
  | waggle (port : Nat) (b : List Byte)
  /-- R247: A TRAIN block arrives, versions are agreed, READY is exchanged and far-end values are latched. -/
  | train (port : Nat) (b : List Byte)
  /-- R254: A FAILOVER request arrives on a partner link and the far side takes the named port down and answers LAST_LSN or REFUSED. -/
  | failoverRequest (port : Nat) (b : List Byte)
  /-- R254: A FAILOVER response arrives and the failed link's unacknowledged packets are released or handed to the partner. -/
  | failoverResponse (port : Nat) (b : List Byte)
  /-- R236: The ACK interval or the 1 µs keepalive passes and an ACK_CREDIT block is sent. -/
  | linkAckTimer (port : Nat)
  /-- R240: The replay timer expires and the sender replays from the oldest unacknowledged packet. -/
  | replayTimeout (port : Nat)
  /-- R243: The resynchronisation period passes and the sender sends a new RESYNC_MARK. -/
  | resyncPeriod (port : Nat)
  /-- R247: 1 µs passes during training and a TRAIN block is sent. -/
  | trainTimer (port : Nat)
  /-- R251: A lane stays without block lock for LOCK_LOSS_US and the link goes down with cause 2. -/
  | lockLossTimeout (port : Nat)
  /-- R253: HOLDOFF_US passes and a port with AUTO_RETRAIN 1 starts training again. -/
  | holdoffExpiry (port : Nat)
  /-- R256: No FAILOVER response arrives within FAILOVER_US and the unacknowledged packets are discarded. -/
  | failoverTimeout (port : Nat)
  /-- R281: The link is not up 10 ms after training began and the port enters HOLDOFF. -/
  | trainingTimeout (port : Nat)
  /-- R280: Writing LNK_CFG.ENABLE 1 starts training when LOADED and RATE allow. -/
  | linkEnable (req : Requester) (port : Nat) (v : Word)
  /-- R251: Writing LNK_CFG.ENABLE 0 takes the link down with cause 5. -/
  | linkDisable (req : Requester) (port : Nat) (v : Word)
  /-- R259: Writing LNK_EXER_CFG.ENABLE 1 checks ownership, claims the gate timer and starts link exercise mode. -/
  | exerciseEnable (req : Requester) (port : Nat) (v : Word)
  /-- R260: A REORDER-held packet is released after the next packet of its lane or after 1 µs and takes its LSN. -/
  | reorderRelease (port : Nat)
  /-- R280: Signal is detected on a lane during training. -/
  | signalDetect (port : Nat) (lane : Nat)
  /-- R280: Clock recovery locks on a lane during training. -/
  | cdrLock (port : Nat) (lane : Nat)
  /-- R270: 64 consecutive valid sync headers set BLOCK_LOCK on a lane. -/
  | blockLockAcquired (port : Nat) (lane : Nat)
  /-- R270: 16 of the last 64 headers are invalid and the lane loses block lock and hunts again. -/
  | blockLockLoss (port : Nat) (lane : Nat)
  /-- R267: After 16,383 stream blocks each lane inserts an alignment marker carrying its BIP. -/
  | alignmentMarkerInsert (port : Nat)
  /-- R269: A received alignment marker is removed, its BIP compared and mismatches counted. -/
  | alignmentMarkerReceive (port : Nat) (lane : Nat) (marker : List Byte) (bip : Byte)
  /-- R272: Three consecutive markers of one MARK give AM_LOCK and the lane's logical number. -/
  | amLockAcquired (port : Nat) (lane : Nat) (logical : Nat) (skew : Nat)
  /-- R272: Four consecutive missed markers end AM_LOCK and restart the marker hunt. -/
  | amLockLoss (port : Nat) (lane : Nat)
  /-- R283: A pattern checker predicts or matches enough bits and locks. -/
  | checkerLock (port : Nat) (lane : Nat)
  /-- R283: 32 of 128 bits mismatch and the checker loses lock and sets CHK_LOSS_SEEN. -/
  | checkerLockLoss (port : Nat) (lane : Nat)
  /-- R284: Writing INJECT_ONE inverts the next BURST_LEN generator bits. -/
  | injectOne (req : Requester) (port : Nat) (lane : Nat) (v : Word)
  /-- R284: INJECT_INTERVAL × 1,024 generator bits pass and a burst is injected. -/
  | injectIntervalBurst (port : Nat) (lane : Nat)
  /-- R287: Every 1 ms a locked lane's eye monitor updates EYE_MV and EYE_UI. -/
  | eyeMonitorUpdate (port : Nat) (lane : Nat) (mv : Nat) (ui : Nat)
  /-- R288: Writing RETIRED 1 takes the port down or stops training and holds it OFF. -/
  | portRetire (req : Requester) (port : Nat) (v : Word)
  /-- R288: Writing RETIRED 0 returns the port to service and lets it train. -/
  | portUnretire (req : Requester) (port : Nat) (v : Word)
  /-- R290: A send queue's bucket fills to the waiting packet's LENGTH and the packet leaves stage 2. -/
  | shaperRelease (fn : Nat) (q : Nat)
  /-- R298: SYNC_US passes and a child sends a TIME request on its parent port. -/
  | timeSyncTimer
  /-- R300: A rising TIMEPULSE edge marks a whole second and gives a ROOT_PULSE device its θ. -/
  | timepulseEdge
  /-- R300: Setting PULSE_IN claims TIMEPULSE as an input. -/
  | pulseInClaim (req : Requester) (v : Word)
  /-- R300: Setting DEBUG_OUT claims TIMEPULSE as the gate-debug output. -/
  | debugOutClaim (req : Requester) (v : Word)
  /-- R303: Writing SCH_GATE_CTRL.GO checks the admin list and schedules it for a cycle start. -/
  | gateGo (req : Requester) (port : Nat) (v : Word)
  /-- R303: Setting SCH_GATE_CTRL.ENABLE claims the gate timer and enables gates. -/
  | gateEnable (req : Requester) (port : Nat) (v : Word)
  /-- R303: Writing ENABLE 0 opens every gate at once. -/
  | gateDisable (req : Requester) (port : Nat) (v : Word)
  /-- R303: A cycle start arrives and the accepted admin list becomes operational. -/
  | gateListActivate (port : Nat)
  /-- R301: An entry's interval ends and the gate list moves to its next entry or cycle. -/
  | gateEntryAdvance (port : Nat)
  /-- R311: A comb arbiter picks the next requester by lottery, class or forced grant. -/
  | arbiterDecision (u : Nat) (cycle : Nat) (reqs : List (Nat × Nat))
  /-- R309: A losing requester's backoff ends and it becomes a candidate again. -/
  | backoffExpiry (u : Nat) (r : Nat)
  /-- R343: The hive signals a waiting thread and it returns from WAIT with the reason. -/
  | threadWake (t : Nat) (reason : Word)
  /-- R336: The hive hands a packet to a thread waiting in PNEXT and fills its inbound window. -/
  | packetHandoff (t : Nat) (p : Packet) (port : Nat) (handle : Nat) (fromMiss : Bool) (verified : Bool)
  /-- R337: A handed packet's CRC verdict arrives; waiting instructions proceed or trap DISCARDED and queued PLACE writes are cancelled. -/
  | crcVerdict (t : Nat) (ok : Bool)
  /-- R357: A forager memory access is performed or its data returns, letting waiting instructions and fences proceed. -/
  | foragerAccessResponse (t : Nat) (k : Nat) (r : HostRes)
  /-- R346: BUDGET_LEFT reaches 0 and the next handler instruction traps BUDGET. -/
  | handlerBudgetExhausted (t : Nat)
  /-- R358: A device store's acknowledgement arrives and the store counts as performed. -/
  | deviceStoreAck (t : Nat) (k : Nat)
  /-- R369: A device access's response timeout passes or an error completion arrives and it retires as failed. -/
  | deviceAccessTimeout (t : Nat) (k : Nat) (err : Bool)
  /-- R372: A nonzero write to LCK_WORD_w claims a free native lock word. -/
  | lckWordClaim (req : Requester) (w : Nat) (v : Word)
  /-- R372: A zero write to LCK_WORD_w frees the word when the writer holds it. -/
  | lckWordRelease (req : Requester) (w : Nat) (v : Word)
  /-- R376: Writing LCK_FORCE.GO frees a native lock word whatever its holder and logs the force. -/
  | lckForce (req : Requester) (v : Word)
  /-- R380: A write to LCK_COMPAT_FORCE frees a compatibility lock word and logs the force. -/
  | lckCompatForce (req : Requester) (v : Word)
  /-- R379: Setting LCK_COMPAT_n ENABLE enables a compatibility range inside a NEAR_NETWORK partition. -/
  | compatRangeEnable (req : Requester) (n : Nat) (v : Word)
  /-- R387: A page-table entry read returns and the walk proceeds, faults or issues a CAS. -/
  | walkReadResponse (id : Nat) (r : HostRes)
  /-- R391: An accessed-dirty CAS returns and the entry is used or read again. -/
  | adCasResponse (id : Nat) (r : HostRes)
  /-- R390: A walk read or CAS has no answer within WALK_TIMEOUT_US and the walk ends with WALK_ACCESS_FAULT. -/
  | walkTimeout (id : Nat)
  /-- R383: A write to XLT_CTX_n changes a translation context and discards its cached entries. -/
  | xltCtxWrite (req : Requester) (n : Nat) (v : Word)
  /-- R393: The translation unit walks ahead of a sequential access without setting accessed or dirty bits. -/
  | prefetchWalk (fn : Nat) (va : Nat)
  /-- R408: Within 10 µs of a STATUS change the configured reactions are sent in order, then block and chip resets start. -/
  | reactionDispatch
  /-- R404: Writing 1 to EVT_STATUS bits clears sources whose causes are gone and may leave the fatal state. -/
  | evtStatusClear (req : Requester) (k : Nat) (v : Word)
  /-- R416: Writing FLT_INJECT.GO in factory test mode raises a source as if it occurred. -/
  | faultInject (req : Requester) (v : Word)
  /-- R413: Firmware writes FLT_ALIVE.START and ALIVE begins toggling. -/
  | aliveStart (req : Requester) (v : Word)
  /-- R410: Writing FLT_CTRL.LOCK freezes every EVT_SRC_CFG reaction bit until a chip-level reset. -/
  | fltLock (req : Requester) (v : Word)
  /-- R479: Writing FGR_HANDLER_POLICY.LOCK freezes REQUIRE_SIGNED and the site key hash. -/
  | handlerPolicyLock (req : Requester) (v : Word)
  /-- R479: Writing GLB_ADMIN.LOCK freezes WRITE_LINKS until a chip-level reset. -/
  | adminLock (req : Requester) (v : Word)
  /-- R418: Writing LCH_CTRL.REPLAN starts a re-plan of the core-voltage target. -/
  | replan (req : Requester) (v : Word) (m : Measurement)
  /-- R418: 24 power-on hours pass and the lichen monitor re-plans. -/
  | replanTimer (m : Measurement)
  /-- R419: At least 10 µs after the last, the monitor moves the core rail one 2.5 mV step toward the target. -/
  | vcoreStep
  /-- R460: An AVSBus response confirms a voltage write or reports a failure that leads to a retry or FAIL_SEEN. -/
  | avsResponse (ok : Bool) (readMv : Nat)
  /-- R460: 10 µs after a failed voltage write the device retries it. -/
  | avsRetryTimer
  /-- R422: Writing APPROVE with the shown ID approves a retirement proposal and writes a RETIRE record. -/
  | proposalApprove (req : Requester) (v : Word)
  /-- R422: Writing DECLINE with the shown ID declines a retirement proposal. -/
  | proposalDecline (req : Requester) (v : Word)
  /-- R429: Writing LCH_CALENDAR.SECONDS sets the calendar, clears HOLDOVER and writes a CALENDAR_SET record. -/
  | calendarSet (req : Requester) (v : Word)
  /-- R426: A power-on hour passes, POH advances and the HOURLY record is written. -/
  | pohHour
  /-- R428: Every 1 ms Tj is sampled, thermal cycles are counted and THERMAL_HIGH is judged. -/
  | thermalSample (tj : Nat)
  /-- R427: Keeper firmware programs a record from the retained buffer into the lifetime log ring. -/
  | logRecordProgram (ok : Bool)
  /-- R456: A die sensor reaches the trip temperature; THERMTRIP_N falls and the device is held in chip reset. -/
  | thermalTrip (tj : Nat)
  /-- R430: VDD_STBY rises into tolerance and the whole device resets. -/
  | powerOnReset
  /-- R465: CHIP_RESET_N held low for 1 µs resets everything except the standby domain and runs the boot sequence on release. -/
  | chipReset (lowNs : Nat) (taken : Bool)
  /-- R430: Writing BOOT_RESET_CTRL.WARM with the key performs a warm chip reset. -/
  | warmChipReset (req : Requester) (v : Word)
  /-- R436: Writing BOOT_RESET_CTRL.BLOCK_GO block resets the unit named in UNIT. -/
  | blockGo (req : Requester) (v : Word)
  /-- R436: A reset unit runs again and BUSY clears. -/
  | blockResetComplete (unit : Nat)
  /-- R435: PERST#[h] low resets the PCIe state of host port h and applies a function-level reset to its functions. -/
  | hostPortReset (h : Nat)
  /-- R438: PERST#[h] is released and the port answers configuration requests from 100 ms later. -/
  | perstRelease (h : Nat)
  /-- R434: A PCIe FLR destroys a function's objects, revokes its keys and disables its translation context. -/
  | functionLevelReset (fn : Nat)
  /-- R442: Writing SVN_COMMIT with the key raises the fused minimum SVN to the running release's. -/
  | svnCommit (req : Requester) (v : Word)
  /-- R444: BOOT_FLASH OP 1 erases a 4 KiB sector outside the log and running slot. -/
  | flashErase (req : Requester) (v : Word)
  /-- R444: BOOT_FLASH OP 2 programs 8 bytes at an aligned address. -/
  | flashProgram (req : Requester) (v : Word)
  /-- R444: BOOT_FLASH OP 3 reads 8 bytes into DATA. -/
  | flashRead (req : Requester) (v : Word)
  /-- R444: BOOT_FLASH OP 4 runs the boot checks on a slot and sets RESULT. -/
  | flashVerify (req : Requester) (v : Word)
  /-- R444: A flash command ends and BUSY clears with its STATUS. -/
  | flashCommandDone (ok : Bool)
  /-- R448: The JTAG DBG_CHALLENGE instruction shifts out the serial and a fresh nonce. -/
  | dbgChallenge (nonce : List Byte)
  /-- R448: The JTAG DBG_RESPONSE instruction verifies a signed scope and opens debug scopes with a warm chip reset. -/
  | dbgResponse (scope : Byte) (key : List Byte) (sig : List Byte)
  /-- R448: 1 s after a failed response the device answers challenges again. -/
  | dbgLockoutExpiry
  /-- R447: A JTAG instruction is loaded, isolating the core for boundary scan or causing a warm chip reset on leaving it. -/
  | jtagInstructionLoad (i : JtagInstr)
  /-- R462: A main rail falls below its threshold and the device is held in chip reset. -/
  | railUndervoltage (rail : Nat) (lowNs : Nat)
  /-- R462: 1 ms after every main rail returns above its threshold the undervoltage hold ends. -/
  | railRestored (back : RailsBack) (mode : BitVec 2) (sensorTj : Nat)
  /-- R467: SMBus command 0x10 sets the BAR0 offset for following reads and writes. -/
  | setOffset (bytes : List Byte) (pecOk : Bool)
  /-- R467: SMBus command 0x11 returns the 8 bytes at the offset. -/
  | read (pecOk : Bool)
  /-- R467: SMBus command 0x12 writes 8 bytes at the offset. -/
  | write (bytes : List Byte) (pecOk : Bool)
  /-- R481: A write to CTR_COUNT_n.VALUE sets the counter and drops that cycle's increment. -/
  | counterSet (req : Requester) (n : Nat) (v : Word)
  /-- R481: Writing CTR_CTRL.CLEAR_ALL zeroes every counter VALUE and OVF in one cycle. -/
  | clearAll (req : Requester) (v : Word)
  /-- R481: Writing CTR_CTRL.FREEZE stops or restarts all 512 counters in one cycle. -/
  | freeze (req : Requester) (v : Word)
  /-- R486: Setting CTR_SAMPLE_CFG.ENABLE claims the sample ring partition and starts tagging. -/
  | samplerEnable (req : Requester) (v : Word)
  /-- R485: HOLD_US passes for a tagged item and its record is written with TRUNCATED 1. -/
  | sampleHoldExpiry (tag : Nat)
  /-- R487: A write to CTR_SAMPLE_INDEX copies a sample record into the DATA registers. -/
  | sampleIndexCopy (req : Requester) (v : Word)
  /-- R437: CHIP_RESET_N rises with rails and clocks stable and the boot sequence starts from step 1. -/
  | chipResetNRelease (boardId : Byte) (mode : BitVec 2) (sensorTj : Nat)
  /-- R402: A host link leaves L0 other than by a requested power state and HOST_LINK_DOWN is raised. -/
  | hostLinkDown (link : Nat)
  /-- R469: A host link trains back to L0 and can carry requests and MSI-X messages again. -/
  | hostLinkUp (link : Nat) (cxl : Bool)
  /-- R33: REFCLK_B runs again and the transmit PLLs of ports 36 to 71 restart. -/
  | refclkBRestore
  /-- R402: A store stack stops answering its controller and the fatal STACK_FAIL source is raised. -/
  | stackFail (st : Nat)
  /-- R402: An uncorrected error occurs in keeper core c and the fatal KEEPER_CORE_c source is raised. -/
  | keeperCoreError (core : Nat)
  /-- R402: A store stack raises its refresh rate for temperature and STORE_TEMP_HIGH is raised. -/
  | storeTempHigh (st : Nat) (temp : Nat)
  /-- R280: A lane loses signal detect or recovered clock, clearing SIGNAL or CDR_LOCK. -/
  | signalLoss (port : Nat) (lane : Nat) (cdrOnly : Bool)
  /-- R462: VDD_STBY falls below 2.9 V, the standby domain and retained record buffer are lost and the next rise is a power-on reset. -/
  | standbyPowerLoss
  /-- R413: Each half period of the 1 kHz ALIVE square wave ends and ALIVE toggles. -/
  | aliveEdge
  /-- R411: Software unmasks an MSI-X vector whose pending bit is set and the held message is sent. -/
  | msixVectorUnmask (fn : Nat) (vec : Nat)
  /-- R412: An SMBus Host Notify transfer ends and the next waiting notify, up to 16, is sent when the bus is free. -/
  | hostNotifySent
  deriving DecidableEq, Repr

end Sys2Proof
end

