-- ==== Sys2Proof/Decode.lean ====
section
/-! DEFINITION. Decoding. No row of spec/opcode_table.json gives bits: a command has no word of its own, so no word
spells one. -/

namespace Sys2Proof

/-- The command that a word spells by the table's bits: none, for the table gives no row any bits (log entry 1). -/
def decodeTableWord (_nbits _w : Nat) : Option Instr := none

end Sys2Proof
end

