-- ==== Sys2Proof/Machine/Chrohus.lean ====
section
/-! DEFINITION. The Chrohus instruction words: the formats, the encoder, the decoder, and what handler privilege allows
(R322 to R343). -/

namespace Sys2Proof.Machine

/-! ### Formats (R322) -/

/-- Format A: OP, rd, ra, rb, FN. -/
def fmtA (op : BitVec 6) (rd ra rb : GReg) (fn : BitVec 11) : BitVec 32 := fn ++ rb ++ ra ++ rd ++ op

/-- Formats I and S: OP, rd or rb, ra, IMM16. -/
def fmtI (op : BitVec 6) (rd ra : GReg) (imm : BitVec 16) : BitVec 32 := imm ++ ra ++ rd ++ op

/-- Format J: OP, rd, IMM21. -/
def fmtJ (op : BitVec 6) (rd : GReg) (imm : BitVec 21) : BitVec 32 := imm ++ rd ++ op

/-- Format X: OP, rd, ra, rb, rc, FN6. -/
def fmtX (op : BitVec 6) (rd ra rb rc : GReg) (fn : BitVec 6) : BitVec 32 := fn ++ rc ++ rb ++ ra ++ rd ++ op

def opOf (w : BitVec 32) : BitVec 6 := w.extractLsb' 0 6
def rdOf (w : BitVec 32) : GReg := w.extractLsb' 6 5
def raOf (w : BitVec 32) : GReg := w.extractLsb' 11 5
def rbOf (w : BitVec 32) : GReg := w.extractLsb' 16 5
def rcOf (w : BitVec 32) : GReg := w.extractLsb' 21 5
def fnOf (w : BitVec 32) : BitVec 11 := w.extractLsb' 21 11
def fn6Of (w : BitVec 32) : BitVec 6 := w.extractLsb' 26 6
def immOf (w : BitVec 32) : BitVec 16 := w.extractLsb' 16 16
def immJ (w : BitVec 32) : BitVec 21 := w.extractLsb' 11 21

/-- The word of an instruction (R322, R323); none for a command that is no instruction. Fields that R324 requires to be 0
are encoded as they are given. -/
def encodeWord (i : Instr) : Option (BitVec 32) :=
  match i with
  | .add _ rd ra rb => some (fmtA 0x01 rd ra rb 0)
  | .sub _ rd ra rb => some (fmtA 0x01 rd ra rb 1)
  | .and _ rd ra rb => some (fmtA 0x01 rd ra rb 2)
  | .or _ rd ra rb => some (fmtA 0x01 rd ra rb 3)
  | .xor _ rd ra rb => some (fmtA 0x01 rd ra rb 4)
  | .sll _ rd ra rb => some (fmtA 0x01 rd ra rb 5)
  | .srl _ rd ra rb => some (fmtA 0x01 rd ra rb 6)
  | .sra _ rd ra rb => some (fmtA 0x01 rd ra rb 7)
  | .slt _ rd ra rb => some (fmtA 0x01 rd ra rb 8)
  | .sltu _ rd ra rb => some (fmtA 0x01 rd ra rb 9)
  | .mul _ rd ra rb => some (fmtA 0x01 rd ra rb 10)
  | .mulhu _ rd ra rb => some (fmtA 0x01 rd ra rb 11)
  | .mulh _ rd ra rb => some (fmtA 0x01 rd ra rb 12)
  | .divu _ rd ra rb => some (fmtA 0x01 rd ra rb 13)
  | .remu _ rd ra rb => some (fmtA 0x01 rd ra rb 14)
  | .min _ rd ra rb => some (fmtA 0x01 rd ra rb 15)
  | .max _ rd ra rb => some (fmtA 0x01 rd ra rb 16)
  | .minu _ rd ra rb => some (fmtA 0x01 rd ra rb 17)
  | .maxu _ rd ra rb => some (fmtA 0x01 rd ra rb 18)
  | .clz _ rd ra rb => some (fmtA 0x01 rd ra rb 19)
  | .ctz _ rd ra rb => some (fmtA 0x01 rd ra rb 20)
  | .popc _ rd ra rb => some (fmtA 0x01 rd ra rb 21)
  | .bswap _ rd ra rb => some (fmtA 0x01 rd ra rb 22)
  | .bswap4 _ rd ra rb => some (fmtA 0x01 rd ra rb 23)
  | .crc8 _ rd ra rb => some (fmtA 0x01 rd ra rb 24)
  | .addi _ rd ra imm => some (fmtI 0x04 rd ra imm)
  | .andi _ rd ra imm => some (fmtI 0x05 rd ra imm)
  | .ori _ rd ra imm => some (fmtI 0x06 rd ra imm)
  | .xori _ rd ra imm => some (fmtI 0x07 rd ra imm)
  | .slti _ rd ra imm => some (fmtI 0x08 rd ra imm)
  | .sltiu _ rd ra imm => some (fmtI 0x09 rd ra imm)
  | .lb _ rd ra imm => some (fmtI 0x10 rd ra imm)
  | .lbu _ rd ra imm => some (fmtI 0x11 rd ra imm)
  | .lh _ rd ra imm => some (fmtI 0x12 rd ra imm)
  | .lhu _ rd ra imm => some (fmtI 0x13 rd ra imm)
  | .lw _ rd ra imm => some (fmtI 0x14 rd ra imm)
  | .lwu _ rd ra imm => some (fmtI 0x15 rd ra imm)
  | .ld _ rd ra imm => some (fmtI 0x16 rd ra imm)
  | .jalr _ rd ra imm => some (fmtI 0x27 rd ra imm)
  | .pwld _ rd ra imm => some (fmtI 0x30 rd ra imm)
  | .shifti _ rd ra imm => some (fmtI 0x0A rd ra imm)
  | .lih _ rd imm => some (fmtJ 0x0B rd imm)
  | .sb _ rb ra imm => some (fmtI 0x18 rb ra imm)
  | .sh _ rb ra imm => some (fmtI 0x19 rb ra imm)
  | .sw _ rb ra imm => some (fmtI 0x1a rb ra imm)
  | .sd _ rb ra imm => some (fmtI 0x1b rb ra imm)
  | .beq _ rb ra imm => some (fmtI 0x20 rb ra imm)
  | .bne _ rb ra imm => some (fmtI 0x21 rb ra imm)
  | .blt _ rb ra imm => some (fmtI 0x22 rb ra imm)
  | .bge _ rb ra imm => some (fmtI 0x23 rb ra imm)
  | .bltu _ rb ra imm => some (fmtI 0x24 rb ra imm)
  | .bgeu _ rb ra imm => some (fmtI 0x25 rb ra imm)
  | .pwst _ rb ra imm => some (fmtI 0x31 rb ra imm)
  | .lr _ rd ra imm => some (fmtI 0x1C rd ra imm)
  | .sc _ rd ra rb => some (fmtA 0x1D rd ra rb 0)
  | .atomFadd _ rd ra rb rc hi => some (fmtX 0x1E rd ra rb rc (hi ++ 0#3))
  | .atomCswap _ rd ra rb rc hi => some (fmtX 0x1E rd ra rb rc (hi ++ 1#3))
  | .atomSwap _ rd ra rb rc hi => some (fmtX 0x1E rd ra rb rc (hi ++ 2#3))
  | .atomAnd _ rd ra rb rc hi => some (fmtX 0x1E rd ra rb rc (hi ++ 3#3))
  | .atomOr _ rd ra rb rc hi => some (fmtX 0x1E rd ra rb rc (hi ++ 4#3))
  | .atomXor _ rd ra rb rc hi => some (fmtX 0x1E rd ra rb rc (hi ++ 5#3))
  | .atomSmin _ rd ra rb rc hi => some (fmtX 0x1E rd ra rb rc (hi ++ 6#3))
  | .atomSmax _ rd ra rb rc hi => some (fmtX 0x1E rd ra rb rc (hi ++ 7#3))
  | .jal _ rd imm => some (fmtJ 0x26 rd imm)
  | .fenceFull _ rd => some (fmtA 0x28 rd 0 0 0)
  | .fenceAcquire _ rd => some (fmtA 0x28 rd 0 0 1)
  | .fenceRelease _ rd => some (fmtA 0x28 rd 0 0 2)
  | .fenceDevice _ rd => some (fmtA 0x28 rd 0 0 3)
  | .csrr _ rd csr => some (fmtI 0x2C rd 0 csr)
  | .csrw _ ra csr => some (fmtI 0x2D 0 ra csr)
  | .pnext _ rd => some (fmtX 0x32 rd 0 0 0 0)
  | .psend _ rd ra rb rc => some (fmtX 0x32 rd ra rb rc 1)
  | .pdone _ rd => some (fmtX 0x32 rd 0 0 0 2)
  | .eidlk _ rd ra => some (fmtX 0x32 rd ra 0 0 3)
  | .copy _ rd ra rb rc => some (fmtX 0x34 rd ra rb rc 0)
  | .place _ rd ra rb rc => some (fmtX 0x34 rd ra rb rc 1)
  | .arrive _ rd ra => some (fmtX 0x36 rd ra 0 0 0)
  | .post _ rd ra => some (fmtX 0x36 rd ra 0 0 1)
  | .cancel _ rd ra => some (fmtX 0x36 rd ra 0 0 2)
  | .lclaim _ rd ra => some (fmtA 0x38 rd ra 0 0)
  | .lrel _ rd ra => some (fmtA 0x38 rd ra 0 1)
  | .lclaimw _ rd ra => some (fmtA 0x38 rd ra 0 2)
  | .lrelw _ rd ra => some (fmtA 0x38 rd ra 0 3)
  | .evraise _ ra rb => some (fmtA 0x3A 0 ra rb 0)
  | .sysNop _ => some (fmtA 0x3C 0 0 0 0)
  | .yieldSlot _ => some (fmtA 0x3C 0 0 0 1)
  | .trap _ ra => some (fmtA 0x3C 0 ra 0 2)
  | .exit _ => some (fmtA 0x3C 0 0 0 3)
  | .xret _ ra => some (fmtA 0x3C 0 ra 0 4)
  | .wait _ rd => some (fmtA 0x3C rd 0 0 5)
  | _ => none

/-! ### The decoder (R323, R324) -/

/-- The ALU functions (R325): a unary one requires rb to be 0. -/
def decodeAlu (t : Nat) (rd ra rb : GReg) (fn : Nat) : Option Instr :=
  match fn with
  | 0 => some (.add t rd ra rb)
  | 1 => some (.sub t rd ra rb)
  | 2 => some (.and t rd ra rb)
  | 3 => some (.or t rd ra rb)
  | 4 => some (.xor t rd ra rb)
  | 5 => some (.sll t rd ra rb)
  | 6 => some (.srl t rd ra rb)
  | 7 => some (.sra t rd ra rb)
  | 8 => some (.slt t rd ra rb)
  | 9 => some (.sltu t rd ra rb)
  | 10 => some (.mul t rd ra rb)
  | 11 => some (.mulhu t rd ra rb)
  | 12 => some (.mulh t rd ra rb)
  | 13 => some (.divu t rd ra rb)
  | 14 => some (.remu t rd ra rb)
  | 15 => some (.min t rd ra rb)
  | 16 => some (.max t rd ra rb)
  | 17 => some (.minu t rd ra rb)
  | 18 => some (.maxu t rd ra rb)
  | 19 => if rb = 0 then some (.clz t rd ra rb) else none
  | 20 => if rb = 0 then some (.ctz t rd ra rb) else none
  | 21 => if rb = 0 then some (.popc t rd ra rb) else none
  | 22 => if rb = 0 then some (.bswap t rd ra rb) else none
  | 23 => if rb = 0 then some (.bswap4 t rd ra rb) else none
  | 24 => some (.crc8 t rd ra rb)
  | _ => none

/-- The atomics (R330). -/
def decodeAtom (t : Nat) (rd ra rb rc : GReg) (hi : BitVec 3) (fn : BitVec 3) : Option Instr :=
  match fn.toNat with
  | 0 => some (.atomFadd t rd ra rb rc hi)
  | 1 => some (.atomCswap t rd ra rb rc hi)
  | 2 => some (.atomSwap t rd ra rb rc hi)
  | 3 => some (.atomAnd t rd ra rb rc hi)
  | 4 => some (.atomOr t rd ra rb rc hi)
  | 5 => some (.atomXor t rd ra rb rc hi)
  | 6 => some (.atomSmin t rd ra rb rc hi)
  | 7 => some (.atomSmax t rd ra rb rc hi)
  | _ => none

/-- The fences (R332). -/
def decodeFence (t : Nat) (rd : GReg) (fn : Nat) : Option Instr :=
  match fn with
  | 0 => some (.fenceFull t rd)
  | 1 => some (.fenceAcquire t rd)
  | 2 => some (.fenceRelease t rd)
  | 3 => some (.fenceDevice t rd)
  | _ => none

/-- The packet calls (R336). -/
def decodePkt (t : Nat) (rd ra rb rc : GReg) (fn : Nat) : Option Instr :=
  match fn with
  | 0 => if ra = 0 ∧ rb = 0 ∧ rc = 0 then some (.pnext t rd) else none
  | 1 => some (.psend t rd ra rb rc)
  | 2 => if ra = 0 ∧ rb = 0 ∧ rc = 0 then some (.pdone t rd) else none
  | 3 => if rb = 0 ∧ rc = 0 then some (.eidlk t rd ra) else none
  | _ => none

/-- The DMA calls (R339). -/
def decodeDma (t : Nat) (rd ra rb rc : GReg) (fn : Nat) : Option Instr :=
  match fn with
  | 0 => some (.copy t rd ra rb rc)
  | 1 => some (.place t rd ra rb rc)
  | _ => none

/-- The match calls (R340). -/
def decodeMatch (t : Nat) (rd ra : GReg) (fn : Nat) : Option Instr :=
  match fn with
  | 0 => some (.arrive t rd ra)
  | 1 => some (.post t rd ra)
  | 2 => some (.cancel t rd ra)
  | _ => none

/-- The lock calls (R341). -/
def decodeLock (t : Nat) (rd ra : GReg) (fn : Nat) : Option Instr :=
  match fn with
  | 0 => some (.lclaim t rd ra)
  | 1 => some (.lrel t rd ra)
  | 2 => some (.lclaimw t rd ra)
  | 3 => some (.lrelw t rd ra)
  | _ => none

/-- The system instructions (R343). -/
def decodeSys (t : Nat) (rd ra rb : GReg) (fn : Nat) : Option Instr :=
  match fn with
  | 0 => if rd = 0 ∧ ra = 0 ∧ rb = 0 then some (.sysNop t) else none
  | 1 => if rd = 0 ∧ ra = 0 ∧ rb = 0 then some (.yieldSlot t) else none
  | 2 => if rd = 0 ∧ rb = 0 then some (.trap t ra) else none
  | 3 => if rd = 0 ∧ ra = 0 ∧ rb = 0 then some (.exit t) else none
  | 4 => if rd = 0 ∧ rb = 0 then some (.xret t ra) else none
  | 5 => if ra = 0 ∧ rb = 0 then some (.wait t rd) else none
  | _ => none

/-- The instruction that a word spells for a thread; none where the word traps ILLEGAL (R324). -/
def decodeWord (t : Nat) (w : BitVec 32) : Option Instr :=
  match (opOf w).toNat with
  | 0x01 => decodeAlu t (rdOf w) (raOf w) (rbOf w) (fnOf w).toNat
  | 0x04 => some (.addi t (rdOf w) (raOf w) (immOf w))
  | 0x05 => some (.andi t (rdOf w) (raOf w) (immOf w))
  | 0x06 => some (.ori t (rdOf w) (raOf w) (immOf w))
  | 0x07 => some (.xori t (rdOf w) (raOf w) (immOf w))
  | 0x08 => some (.slti t (rdOf w) (raOf w) (immOf w))
  | 0x09 => some (.sltiu t (rdOf w) (raOf w) (immOf w))
  | 0x10 => some (.lb t (rdOf w) (raOf w) (immOf w))
  | 0x11 => some (.lbu t (rdOf w) (raOf w) (immOf w))
  | 0x12 => some (.lh t (rdOf w) (raOf w) (immOf w))
  | 0x13 => some (.lhu t (rdOf w) (raOf w) (immOf w))
  | 0x14 => some (.lw t (rdOf w) (raOf w) (immOf w))
  | 0x15 => some (.lwu t (rdOf w) (raOf w) (immOf w))
  | 0x16 => some (.ld t (rdOf w) (raOf w) (immOf w))
  | 0x27 => some (.jalr t (rdOf w) (raOf w) (immOf w))
  | 0x30 => some (.pwld t (rdOf w) (raOf w) (immOf w))
  | 0x0A => if (immOf w).toNat < 256 then some (.shifti t (rdOf w) (raOf w) (immOf w)) else none
  | 0x0B => some (.lih t (rdOf w) (immJ w))
  | 0x18 => some (.sb t (rdOf w) (raOf w) (immOf w))
  | 0x19 => some (.sh t (rdOf w) (raOf w) (immOf w))
  | 0x1a => some (.sw t (rdOf w) (raOf w) (immOf w))
  | 0x1b => some (.sd t (rdOf w) (raOf w) (immOf w))
  | 0x20 => some (.beq t (rdOf w) (raOf w) (immOf w))
  | 0x21 => some (.bne t (rdOf w) (raOf w) (immOf w))
  | 0x22 => some (.blt t (rdOf w) (raOf w) (immOf w))
  | 0x23 => some (.bge t (rdOf w) (raOf w) (immOf w))
  | 0x24 => some (.bltu t (rdOf w) (raOf w) (immOf w))
  | 0x25 => some (.bgeu t (rdOf w) (raOf w) (immOf w))
  | 0x31 => some (.pwst t (rdOf w) (raOf w) (immOf w))
  | 0x1C => if immOf w = 0 then some (.lr t (rdOf w) (raOf w) (immOf w)) else none
  | 0x1D => if fnOf w = 0 then some (.sc t (rdOf w) (raOf w) (rbOf w)) else none
  | 0x1E => if (fn6Of w).toNat < 16 then decodeAtom t (rdOf w) (raOf w) (rbOf w) (rcOf w) (w.extractLsb' 29 3) (w.extractLsb' 26 3) else none
  | 0x26 => some (.jal t (rdOf w) (immJ w))
  | 0x28 => if raOf w = 0 ∧ rbOf w = 0 then decodeFence t (rdOf w) (fnOf w).toNat else none
  | 0x2C => if raOf w = 0 then some (.csrr t (rdOf w) (immOf w)) else none
  | 0x2D => if rdOf w = 0 then some (.csrw t (raOf w) (immOf w)) else none
  | 0x32 => decodePkt t (rdOf w) (raOf w) (rbOf w) (rcOf w) (fn6Of w).toNat
  | 0x34 => decodeDma t (rdOf w) (raOf w) (rbOf w) (rcOf w) (fn6Of w).toNat
  | 0x36 => if rbOf w = 0 ∧ rcOf w = 0 then decodeMatch t (rdOf w) (raOf w) (fn6Of w).toNat else none
  | 0x38 => if rbOf w = 0 then decodeLock t (rdOf w) (raOf w) (fnOf w).toNat else none
  | 0x3A => if rdOf w = 0 ∧ fnOf w = 0 then some (.evraise t (raOf w) (rbOf w)) else none
  | 0x3C => decodeSys t (rdOf w) (raOf w) (rbOf w) (fnOf w).toNat
  | _ => none

/-- R324 holds of an instruction: no field that must be 0 is another number. -/
def wordOk (i : Instr) (t : Nat) : Bool :=
  match encodeWord i with
  | some w => decodeWord t w == some i
  | none => false

/-! ### Control registers and handler privilege (R317, R323) -/

/-- Access to a control register at a privilege: reads and writes it allows; none for a number not listed. -/
def csrAccess (handler : Bool) (n : Nat) : Option (Bool × Bool) :=
  if n ≤ 0x004 ∨ n = 0x01A then some (true, false)
  else if (0x008 ≤ n ∧ n ≤ 0x00F) ∨ n = 0x011 ∨ n = 0x018 then some (true, !handler)
  else if n = 0x010 then some (true, true)
  else if (0x012 ≤ n ∧ n ≤ 0x015) ∨ n = 0x017 then some (!handler, false)
  else if n = 0x016 ∨ n = 0x019 then some (!handler, !handler)
  else none

/-- What firmware privilege allows: of control registers, those that it may read or write (R317, R441). -/
def firmwareAllows (i : Instr) : Bool :=
  match i with
  | .csrr _ _ n => (csrAccess false n.toNat).any (·.1)
  | .csrw _ _ n => (csrAccess false n.toNat).any (·.2)
  | _ => true

/-- What handler privilege allows (R323, R339, R342, R343). -/
def handlerAllows (i : Instr) : Bool :=
  match i with
  | .csrr _ _ n => (csrAccess true n.toNat).any (·.1)
  | .csrw _ _ n => (csrAccess true n.toNat).any (·.2)
  | .evraise _ _ rb => rb == 0
  | .pwld .. | .pwst .. | .pnext .. | .psend .. | .pdone .. | .eidlk .. | .place .. | .arrive .. | .post .. | .cancel ..
  | .xret .. | .wait .. => false
  | _ => true

/-- The code offset that a branch at `pc` targets (R327); none for an instruction that is no direct branch. -/
def branchTarget (i : Instr) (pc : Nat) : Option Int :=
  match i with
  | .beq _ _ _ m | .bne _ _ _ m | .blt _ _ _ m | .bge _ _ _ m | .bltu _ _ _ m | .bgeu _ _ _ m => some (pc + 4 * m.toInt)
  | .jal _ _ m => some (pc + 4 * m.toInt)
  | _ => none

/-- A code offset lies within a program's code. -/
def inCode (len : Nat) (x : Int) : Bool := decide (0 ≤ x) && decide (x < len) && x % 4 == 0

end Sys2Proof.Machine
end

