-- ==== Sys2Proof/Config.lean ====
section
/-! DEFINITION. The constants that the spec leaves open: free values, of which nothing is known. -/

namespace Sys2Proof

/-- The free values: the n-th one that the device uses is `Config.free n`. It has no body that anything can see, so a
statement holds whatever the values are. The step applies it to the counter `free` of the state (log entry 2). -/
opaque Config.free : Nat → Nat

/-- The signature that the identity-key engine makes with a private key over a message (R446); an ECDSA signature is not determined by them
(log entry 2). -/
opaque Config.sign (key msg : List Byte) : List Byte

end Sys2Proof
end

