-- ==== Sys2Proof/Machine/RegMap.lean ====
section
/-! DEFINITION. The register map: every field of every register table of the spec, by address, place, width, access
code, reset value and range. Addresses are BAR0 offsets (R473); the registers that each function has for itself are
held above the 64 MiB of BAR0 (see `homeOf`). Generated from the register tables of spec/ by a script. -/

namespace Sys2Proof.Machine

/-- One field of a register array: address of its first register, the strides of its two indexes, its lowest bit, its
width, and the reset value of its whole register (R16). -/
structure Fld where
  base : Nat
  s1 : Nat
  s2 : Nat
  lo : Nat
  w : Nat
  rst : Nat
  deriving DecidableEq, Repr

/-- The access codes of R11. -/
inductive Acc where
  | rw | ro | wo | w1c | w1s | rc | rwl
  deriving DecidableEq, Repr

/-- A field of a register as a write judges it: place, access code and range (R6); `zok` says that 0 is legal below
the range. -/
structure FieldSpec where
  lo : Nat
  w : Nat
  acc : Acc
  mn : Nat
  mx : Nat
  zok : Bool
  deriving DecidableEq, Repr

/-- A register array: first address, counts and strides of its two indexes, reset value, fields. -/
structure RegSpec where
  base : Nat
  n1 : Nat
  s1 : Nat
  n2 : Nat
  s2 : Nat
  rst : Nat
  fields : List FieldSpec
  deriving DecidableEq, Repr

/-- R1; no file of the spec gives the places of the fields: PART at [15:0] and STEPPING at [23:16] is the model's DESIGN
CHOICE (log entry 43). -/
def Reg.GLB_DEVICE_ID_PART : Fld := ⟨0, 8, 8, 0, 16, 0xb00480⟩
/-- R1; its place is the model's DESIGN CHOICE (log entry 43). -/
def Reg.GLB_DEVICE_ID_STEPPING : Fld := ⟨0, 8, 8, 16, 8, 0xb00480⟩
def Reg.GLB_CLK_STATUS_ROOT_LOCK : Fld := ⟨256, 8, 8, 0, 1, 0⟩
def Reg.GLB_CLK_STATUS_ROOT_UNLOCK_SEEN : Fld := ⟨256, 8, 8, 1, 1, 0⟩
def Reg.GLB_CLK_STATUS_REFB_OK : Fld := ⟨256, 8, 8, 2, 1, 0⟩
def Reg.GLB_CLK_STATUS_REFB_BAD_SEEN : Fld := ⟨256, 8, 8, 3, 1, 0⟩
def Reg.GLB_CLK_STATUS_REFB_OFFSET : Fld := ⟨256, 8, 8, 4, 16, 0⟩
def Reg.GLB_CROSSING_CTRL_QUIESCE : Fld := ⟨512, 8, 8, 0, 1, 0x6400⟩
def Reg.GLB_CROSSING_CTRL_QUIESCED : Fld := ⟨512, 8, 8, 1, 1, 0x6400⟩
def Reg.GLB_CROSSING_CTRL_DRAIN_TIMED_OUT : Fld := ⟨512, 8, 8, 2, 1, 0x6400⟩
def Reg.GLB_CROSSING_CTRL_DRAIN_TIMEOUT : Fld := ⟨512, 8, 8, 8, 24, 0x6400⟩
def Reg.GLB_REG_TIMEOUT_TIMEOUT_US : Fld := ⟨576, 8, 8, 0, 16, 20⟩
def Reg.GLB_RES_OWNER_TIMEPULSE : Fld := ⟨768, 8, 8, 0, 2, 0⟩
def Reg.GLB_RES_OWNER_SPARE_XBAR : Fld := ⟨768, 8, 8, 2, 2, 0⟩
def Reg.GLB_GATE_OWNER_PORT_OWNER : Fld := ⟨776, 8, 8, 0, 48, 0⟩
def Reg.GLB_RES_RELEASE_RESOURCE : Fld := ⟨800, 8, 8, 0, 8, 0⟩
def Reg.GLB_SPARE_XBAR_CTRL_LOOP_EN : Fld := ⟨832, 8, 8, 0, 1, 0x1000010400000⟩
def Reg.GLB_SPARE_XBAR_CTRL_MIRROR_EN : Fld := ⟨832, 8, 8, 1, 1, 0x1000010400000⟩
def Reg.GLB_SPARE_XBAR_CTRL_STATUS : Fld := ⟨832, 8, 8, 8, 8, 0x1000010400000⟩
def Reg.GLB_SPARE_XBAR_CTRL_LOOP_LEN : Fld := ⟨832, 8, 8, 16, 13, 0x1000010400000⟩
def Reg.GLB_SPARE_XBAR_CTRL_LOOP_GAP : Fld := ⟨832, 8, 8, 32, 8, 0x1000010400000⟩
def Reg.GLB_SPARE_XBAR_CTRL_MIRROR_SRC : Fld := ⟨832, 8, 8, 40, 7, 0x1000010400000⟩
def Reg.GLB_SPARE_XBAR_CTRL_MIRROR_DIR : Fld := ⟨832, 8, 8, 48, 2, 0x1000010400000⟩
def Reg.GLB_SPARE_XBAR_CTRL_MIRROR_OUT : Fld := ⟨832, 8, 8, 51, 7, 0x1000010400000⟩
def Reg.GLB_SPARE_XBAR_CTRL_MIRROR_VL : Fld := ⟨832, 8, 8, 58, 3, 0x1000010400000⟩
def Reg.GLB_SPARE_XBAR_STATUS_LOOP_PACKETS : Fld := ⟨840, 8, 8, 0, 32, 0⟩
def Reg.GLB_SPARE_XBAR_STATUS_LOOP_ERRORS : Fld := ⟨840, 8, 8, 32, 16, 0⟩
def Reg.GLB_SPARE_XBAR_STATUS_MIRROR_DROPPED : Fld := ⟨840, 8, 8, 48, 16, 0⟩
def Reg.GLB_STORE_PART_BASE_GIB : Fld := ⟨1024, 8, 8, 0, 8, 0⟩
def Reg.GLB_STORE_PART_SIZE_GIB : Fld := ⟨1024, 8, 8, 8, 8, 0⟩
def Reg.GLB_STORE_PART_USE : Fld := ⟨1024, 8, 8, 16, 4, 0⟩
def Reg.GLB_RAIL_STATUS_CORE_OK : Fld := ⟨1280, 8, 8, 0, 1, 0⟩
def Reg.GLB_RAIL_STATUS_SRAM_OK : Fld := ⟨1280, 8, 8, 1, 1, 0⟩
def Reg.GLB_RAIL_STATUS_SDS_OK : Fld := ⟨1280, 8, 8, 2, 1, 0⟩
def Reg.GLB_RAIL_STATUS_V1P2_OK : Fld := ⟨1280, 8, 8, 3, 1, 0⟩
def Reg.GLB_RAIL_STATUS_V1P8_OK : Fld := ⟨1280, 8, 8, 4, 1, 0⟩
def Reg.GLB_RAIL_STATUS_CORE_UV_SEEN : Fld := ⟨1280, 8, 8, 8, 1, 0⟩
def Reg.GLB_RAIL_STATUS_SRAM_UV_SEEN : Fld := ⟨1280, 8, 8, 9, 1, 0⟩
def Reg.GLB_RAIL_STATUS_SDS_UV_SEEN : Fld := ⟨1280, 8, 8, 10, 1, 0⟩
def Reg.GLB_RAIL_STATUS_V1P2_UV_SEEN : Fld := ⟨1280, 8, 8, 11, 1, 0⟩
def Reg.GLB_RAIL_STATUS_V1P8_UV_SEEN : Fld := ⟨1280, 8, 8, 12, 1, 0⟩
def Reg.GLB_RAIL_STATUS_THERMTRIP_SEEN : Fld := ⟨1280, 8, 8, 16, 1, 0⟩
def Reg.GLB_RAIL_STATUS_SEQUENCE_SEEN : Fld := ⟨1280, 8, 8, 17, 1, 0⟩
def Reg.GLB_ADMIN_WRITE_LINKS : Fld := ⟨1536, 8, 8, 0, 8, 1⟩
def Reg.GLB_ADMIN_LOCK : Fld := ⟨1536, 8, 8, 8, 1, 1⟩
def Reg.GLB_ADMIN_DENIED : Fld := ⟨1536, 8, 8, 16, 16, 1⟩
def Reg.GLB_ACCESS_LOG0_VALID : Fld := ⟨1544, 8, 8, 0, 1, 0⟩
def Reg.GLB_ACCESS_LOG0_KIND : Fld := ⟨1544, 8, 8, 1, 2, 0⟩
def Reg.GLB_ACCESS_LOG0_REQUESTER : Fld := ⟨1544, 8, 8, 3, 11, 0⟩
def Reg.GLB_ACCESS_LOG1_OFFSET : Fld := ⟨1552, 8, 8, 0, 26, 0⟩
def Reg.GLB_ACCESS_LOG1_SIZE : Fld := ⟨1552, 8, 8, 26, 3, 0⟩
def Reg.BOOT_STATUS_STAGE : Fld := ⟨0x1000, 8, 8, 0, 4, 0⟩
def Reg.BOOT_STATUS_SLOT : Fld := ⟨0x1000, 8, 8, 4, 2, 0⟩
def Reg.BOOT_STATUS_MODE : Fld := ⟨0x1000, 8, 8, 6, 2, 0⟩
def Reg.BOOT_STATUS_FACTORY_TEST : Fld := ⟨0x1000, 8, 8, 8, 1, 0⟩
def Reg.BOOT_STATUS_DEBUG_OPEN : Fld := ⟨0x1000, 8, 8, 9, 3, 0⟩
def Reg.BOOT_STATUS_RESET_KIND : Fld := ⟨0x1000, 8, 8, 16, 8, 0⟩
def Reg.BOOT_STATUS_SLOT_A_RESULT : Fld := ⟨0x1000, 8, 8, 24, 4, 0⟩
def Reg.BOOT_STATUS_SLOT_B_RESULT : Fld := ⟨0x1000, 8, 8, 28, 4, 0⟩
def Reg.BOOT_STATUS_FUSED_SVN : Fld := ⟨0x1000, 8, 8, 32, 6, 0⟩
def Reg.BOOT_STATUS_RELEASE_SVN : Fld := ⟨0x1000, 8, 8, 40, 6, 0⟩
def Reg.BOOT_RESET_CTRL_UNIT : Fld := ⟨0x1008, 8, 8, 0, 7, 0⟩
def Reg.BOOT_RESET_CTRL_BLOCK_GO : Fld := ⟨0x1008, 8, 8, 7, 1, 0⟩
def Reg.BOOT_RESET_CTRL_WARM : Fld := ⟨0x1008, 8, 8, 8, 1, 0⟩
def Reg.BOOT_RESET_CTRL_BUSY : Fld := ⟨0x1008, 8, 8, 9, 1, 0⟩
def Reg.BOOT_RESET_CTRL_SVN_COMMIT : Fld := ⟨0x1008, 8, 8, 10, 1, 0⟩
def Reg.BOOT_RESET_CTRL_KEY : Fld := ⟨0x1008, 8, 8, 48, 16, 0⟩
def Reg.BOOT_SERIAL_SERIAL : Fld := ⟨0x1010, 8, 8, 0, 64, 0⟩
def Reg.BOOT_RELEASE_VERSION : Fld := ⟨0x1018, 8, 8, 0, 24, 0⟩
def Reg.BOOT_ID_PUBKEY_BYTES : Fld := ⟨0x1020, 8, 8, 0, 64, 0⟩
def Reg.BOOT_FLASH_ADDR_ADDR : Fld := ⟨0x1100, 8, 8, 0, 25, 0⟩
def Reg.BOOT_FLASH_DATA_DATA : Fld := ⟨0x1108, 8, 8, 0, 64, 0⟩
def Reg.BOOT_FLASH_CMD_OP : Fld := ⟨0x1110, 8, 8, 0, 3, 0⟩
def Reg.BOOT_FLASH_CMD_BUSY : Fld := ⟨0x1110, 8, 8, 3, 1, 0⟩
def Reg.BOOT_FLASH_CMD_STATUS : Fld := ⟨0x1110, 8, 8, 8, 8, 0⟩
def Reg.BOOT_FLASH_CMD_RESULT : Fld := ⟨0x1110, 8, 8, 16, 4, 0⟩
def Reg.EVT_STATUS_STATUS : Fld := ⟨0x100000, 8, 8, 0, 64, 0⟩
def Reg.EVT_ACTIVE_ACTIVE : Fld := ⟨0x100080, 8, 8, 0, 64, 0⟩
def Reg.EVT_SUMMARY_REGS : Fld := ⟨0x100100, 8, 8, 0, 16, 0⟩
def Reg.EVT_SUMMARY_ANY_CORRECTED : Fld := ⟨0x100100, 8, 8, 16, 1, 0⟩
def Reg.EVT_SUMMARY_ANY_CONTAINED : Fld := ⟨0x100100, 8, 8, 17, 1, 0⟩
def Reg.EVT_SUMMARY_FATAL_STATE : Fld := ⟨0x100100, 8, 8, 18, 1, 0⟩
def Reg.EVT_SRC_CFG_INT : Fld := ⟨0x101000, 8, 8, 0, 1, 0⟩
def Reg.EVT_SRC_CFG_NMI : Fld := ⟨0x101000, 8, 8, 1, 1, 0⟩
def Reg.EVT_SRC_CFG_BLOCK_RESET : Fld := ⟨0x101000, 8, 8, 2, 1, 0⟩
def Reg.EVT_SRC_CFG_CHIP_RESET : Fld := ⟨0x101000, 8, 8, 3, 1, 0⟩
def Reg.EVT_SRC_CFG_EXT_ALIVE : Fld := ⟨0x101000, 8, 8, 4, 1, 0⟩
def Reg.EVT_SRC_CFG_EXT_PCIE : Fld := ⟨0x101000, 8, 8, 5, 1, 0⟩
def Reg.EVT_SRC_CFG_EXT_SMBUS : Fld := ⟨0x101000, 8, 8, 6, 1, 0⟩
def Reg.EVT_SRC_CFG_FM : Fld := ⟨0x101000, 8, 8, 7, 1, 0⟩
def Reg.EVT_SRC_CFG_LINK : Fld := ⟨0x101000, 8, 8, 8, 3, 0⟩
def Reg.EVT_SRC_CFG_VECTOR : Fld := ⟨0x101000, 8, 8, 12, 11, 0⟩
def Reg.EVT_SRC_CFG_CLASS : Fld := ⟨0x101000, 8, 8, 24, 2, 0⟩
def Reg.FLT_CTRL_LOCK : Fld := ⟨0x100200, 8, 8, 0, 1, 0⟩
def Reg.FLT_CTRL_INJECT_EN : Fld := ⟨0x100200, 8, 8, 1, 1, 0⟩
def Reg.FLT_CTRL_MSI_LOST : Fld := ⟨0x100200, 8, 8, 16, 16, 0⟩
def Reg.FLT_INJECT_SOURCE : Fld := ⟨0x100208, 8, 8, 0, 10, 0⟩
def Reg.FLT_INJECT_GO : Fld := ⟨0x100208, 8, 8, 10, 1, 0⟩
def Reg.FLT_INJECT_INFO : Fld := ⟨0x100208, 8, 8, 32, 32, 0⟩
def Reg.FLT_ALIVE_START : Fld := ⟨0x100210, 8, 8, 0, 1, 0⟩
def Reg.FLT_ALIVE_TOGGLING : Fld := ⟨0x100210, 8, 8, 1, 1, 0⟩
def Reg.FLT_ALIVE_STOPPED_SEEN : Fld := ⟨0x100210, 8, 8, 2, 1, 0⟩
def Reg.FLT_FIRST_LOG0_VALID : Fld := ⟨0x100220, 8, 8, 0, 1, 0⟩
def Reg.FLT_FIRST_LOG0_INJECTED : Fld := ⟨0x100220, 8, 8, 1, 1, 0⟩
def Reg.FLT_FIRST_LOG0_CLASS : Fld := ⟨0x100220, 8, 8, 2, 2, 0⟩
def Reg.FLT_FIRST_LOG0_SOURCE : Fld := ⟨0x100220, 8, 8, 4, 10, 0⟩
def Reg.FLT_FIRST_LOG0_INFO : Fld := ⟨0x100220, 8, 8, 32, 32, 0⟩
def Reg.FLT_FIRST_LOG1_TIME : Fld := ⟨0x100228, 8, 8, 0, 64, 0⟩
def Reg.FLT_FATAL_LOG0_VALID : Fld := ⟨0x100230, 8, 8, 0, 1, 0⟩
def Reg.FLT_FATAL_LOG0_INJECTED : Fld := ⟨0x100230, 8, 8, 1, 1, 0⟩
def Reg.FLT_FATAL_LOG0_CLASS : Fld := ⟨0x100230, 8, 8, 2, 2, 0⟩
def Reg.FLT_FATAL_LOG0_SOURCE : Fld := ⟨0x100230, 8, 8, 4, 10, 0⟩
def Reg.FLT_FATAL_LOG0_INFO : Fld := ⟨0x100230, 8, 8, 32, 32, 0⟩
def Reg.FLT_FATAL_LOG1_TIME : Fld := ⟨0x100238, 8, 8, 0, 64, 0⟩
def Reg.FLT_CLASS_COUNT_CORRECTED : Fld := ⟨0x100240, 8, 8, 0, 32, 0⟩
def Reg.FLT_CLASS_COUNT_CONTAINED : Fld := ⟨0x100240, 8, 8, 32, 16, 0⟩
def Reg.FLT_CLASS_COUNT_FATAL : Fld := ⟨0x100240, 8, 8, 48, 16, 0⟩
def Reg.LCH_ENVELOPE_VCORE_MIN_MV : Fld := ⟨0x200000, 8, 8, 0, 10, 0xa195014032002bc⟩
def Reg.LCH_ENVELOPE_VCORE_MAX_MV : Fld := ⟨0x200000, 8, 8, 16, 10, 0xa195014032002bc⟩
def Reg.LCH_ENVELOPE_GUARD_MIN_MV : Fld := ⟨0x200000, 8, 8, 32, 8, 0xa195014032002bc⟩
def Reg.LCH_ENVELOPE_GUARD_MAX_MV : Fld := ⟨0x200000, 8, 8, 40, 8, 0xa195014032002bc⟩
def Reg.LCH_ENVELOPE_MARGIN_MV : Fld := ⟨0x200000, 8, 8, 48, 8, 0xa195014032002bc⟩
def Reg.LCH_ENVELOPE_STEP_DOWN_MV : Fld := ⟨0x200000, 8, 8, 56, 8, 0xa195014032002bc⟩
def Reg.LCH_PLAN_TARGET_MV : Fld := ⟨0x200008, 8, 8, 0, 10, 800⟩
def Reg.LCH_PLAN_GUARD_MV : Fld := ⟨0x200008, 8, 8, 10, 8, 800⟩
def Reg.LCH_PLAN_LIMITED : Fld := ⟨0x200008, 8, 8, 18, 1, 800⟩
def Reg.LCH_PLAN_V0_MV : Fld := ⟨0x200008, 8, 8, 32, 10, 800⟩
def Reg.LCH_PLAN_SLOPE : Fld := ⟨0x200008, 8, 8, 48, 8, 800⟩
def Reg.LCH_MEASURE_D : Fld := ⟨0x200010, 8, 8, 0, 16, 0⟩
def Reg.LCH_MEASURE_WORST_PAIR : Fld := ⟨0x200010, 8, 8, 16, 6, 0⟩
def Reg.LCH_MEASURE_SRAM_VMIN_MV : Fld := ⟨0x200010, 8, 8, 32, 10, 0⟩
def Reg.LCH_MEASURE_EYE_MV_WORST : Fld := ⟨0x200010, 8, 8, 48, 8, 0⟩
def Reg.LCH_CTRL_REPLAN : Fld := ⟨0x200018, 8, 8, 0, 1, 0x3c00⟩
def Reg.LCH_CTRL_BUSY : Fld := ⟨0x200018, 8, 8, 1, 1, 0x3c00⟩
def Reg.LCH_CTRL_SRAM_MARGIN_MV : Fld := ⟨0x200018, 8, 8, 8, 8, 0x3c00⟩
def Reg.LCH_CTRL_REPLANS : Fld := ⟨0x200018, 8, 8, 16, 16, 0x3c00⟩
def Reg.LCH_RETIRE_CFG_EYE_MV_MIN : Fld := ⟨0x200020, 8, 8, 0, 8, 0x1e0004080c⟩
def Reg.LCH_RETIRE_CFG_EYE_UI_MIN : Fld := ⟨0x200020, 8, 8, 8, 6, 0x1e0004080c⟩
def Reg.LCH_RETIRE_CFG_ROW_CE_LIMIT : Fld := ⟨0x200020, 8, 8, 16, 8, 0x1e0004080c⟩
def Reg.LCH_RETIRE_CFG_DECLINE_DAYS : Fld := ⟨0x200020, 8, 8, 32, 9, 0x1e0004080c⟩
def Reg.LCH_RETIRE_CFG_PENDING : Fld := ⟨0x200020, 8, 8, 41, 7, 0x1e0004080c⟩
def Reg.LCH_RETIRE_CFG_PROPOSALS_DROPPED : Fld := ⟨0x200020, 8, 8, 48, 16, 0x1e0004080c⟩
def Reg.LCH_PROPOSAL_VALID : Fld := ⟨0x200028, 8, 8, 0, 1, 0⟩
def Reg.LCH_PROPOSAL_KIND : Fld := ⟨0x200028, 8, 8, 1, 1, 0⟩
def Reg.LCH_PROPOSAL_ID : Fld := ⟨0x200028, 8, 8, 8, 8, 0⟩
def Reg.LCH_PROPOSAL_PORT : Fld := ⟨0x200028, 8, 8, 16, 7, 0⟩
def Reg.LCH_PROPOSAL_LANE : Fld := ⟨0x200028, 8, 8, 23, 1, 0⟩
def Reg.LCH_PROPOSAL_ARRAY : Fld := ⟨0x200028, 8, 8, 24, 16, 0⟩
def Reg.LCH_PROPOSAL_ROW : Fld := ⟨0x200028, 8, 8, 40, 16, 0⟩
def Reg.LCH_PROPOSAL_REASON : Fld := ⟨0x200028, 8, 8, 56, 8, 0⟩
def Reg.LCH_PROPOSAL_CMD_ID : Fld := ⟨0x200030, 8, 8, 0, 8, 0⟩
def Reg.LCH_PROPOSAL_CMD_APPROVE : Fld := ⟨0x200030, 8, 8, 8, 1, 0⟩
def Reg.LCH_PROPOSAL_CMD_DECLINE : Fld := ⟨0x200030, 8, 8, 9, 1, 0⟩
def Reg.LCH_CALENDAR_SECONDS : Fld := ⟨0x200038, 8, 8, 0, 40, 0⟩
def Reg.LCH_CALENDAR_VALID : Fld := ⟨0x200038, 8, 8, 40, 1, 0⟩
def Reg.LCH_CALENDAR_HOLDOVER : Fld := ⟨0x200038, 8, 8, 41, 1, 0⟩
def Reg.LCH_LIFE_POH : Fld := ⟨0x200040, 8, 8, 0, 24, 0⟩
def Reg.LCH_LIFE_CYCLES : Fld := ⟨0x200040, 8, 8, 24, 24, 0⟩
def Reg.LCH_LIFE_RETIRED : Fld := ⟨0x200040, 8, 8, 48, 16, 0⟩
def Reg.LCH_THERMAL_TJ_NOW : Fld := ⟨0x200048, 8, 8, 0, 8, 0x145f0000⟩
def Reg.LCH_THERMAL_TJ_MAX : Fld := ⟨0x200048, 8, 8, 8, 8, 0x145f0000⟩
def Reg.LCH_THERMAL_HIGH_C : Fld := ⟨0x200048, 8, 8, 16, 8, 0x145f0000⟩
def Reg.LCH_THERMAL_CYCLE_DELTA_C : Fld := ⟨0x200048, 8, 8, 24, 6, 0x145f0000⟩
def Reg.LCH_LOG_STATUS_HEAD_SECTOR : Fld := ⟨0x200050, 8, 8, 0, 11, 0⟩
def Reg.LCH_LOG_STATUS_BUFFERED : Fld := ⟨0x200050, 8, 8, 11, 7, 0⟩
def Reg.LCH_LOG_STATUS_FOREIGN : Fld := ⟨0x200050, 8, 8, 18, 14, 0⟩
def Reg.LCH_LOG_STATUS_SEQ : Fld := ⟨0x200050, 8, 8, 32, 32, 0⟩
def Reg.LCH_VR_STATUS_CONFIRMED_MV : Fld := ⟨0x200058, 8, 8, 0, 10, 0⟩
def Reg.LCH_VR_STATUS_READ_MV : Fld := ⟨0x200058, 8, 8, 10, 10, 0⟩
def Reg.LCH_VR_STATUS_FAIL_SEEN : Fld := ⟨0x200058, 8, 8, 20, 1, 0⟩
def Reg.LCH_VR_STATUS_MISMATCH_SEEN : Fld := ⟨0x200058, 8, 8, 21, 1, 0⟩
def Reg.LCH_VR_STATUS_RETRIES : Fld := ⟨0x200058, 8, 8, 24, 8, 0⟩
def Reg.TPT_ABI_REQUEST_MINOR : Fld := ⟨0x4000000, 32, 8, 0, 8, 0⟩
def Reg.TPT_ABI_REQUEST_MAJOR : Fld := ⟨0x4000000, 32, 8, 8, 8, 0⟩
def Reg.TPT_ABI_REQUEST_GO : Fld := ⟨0x4000000, 32, 8, 16, 1, 0⟩
def Reg.TPT_ABI_STATUS_MINOR : Fld := ⟨0x4000008, 32, 8, 0, 8, 0⟩
def Reg.TPT_ABI_STATUS_MAJOR : Fld := ⟨0x4000008, 32, 8, 8, 8, 0⟩
def Reg.TPT_ABI_STATUS_STATUS : Fld := ⟨0x4000008, 32, 8, 16, 8, 0⟩
def Reg.TPT_ABI_STATUS_DONE : Fld := ⟨0x4000008, 32, 8, 24, 1, 0⟩
def Reg.TPT_CMD_ADDR_ADDR : Fld := ⟨0x4000010, 32, 8, 0, 64, 0⟩
def Reg.TPT_CMD_CTRL_GO : Fld := ⟨0x4000018, 32, 8, 0, 1, 0⟩
def Reg.TPT_CMD_CTRL_BUSY : Fld := ⟨0x4000018, 32, 8, 1, 1, 0⟩
def Reg.TPT_CMD_CTRL_DONE : Fld := ⟨0x4000018, 32, 8, 2, 1, 0⟩
def Reg.TPT_CMD_CTRL_STATUS : Fld := ⟨0x4000018, 32, 8, 8, 8, 0⟩
def Reg.TPT_CMD_CTRL_RESULT : Fld := ⟨0x4000018, 32, 8, 32, 32, 0⟩
def Reg.TPT_RETX_BASE_US : Fld := ⟨0x400100, 8, 8, 0, 16, 0xa70014⟩
def Reg.TPT_RETX_MAX_RETRIES : Fld := ⟨0x400100, 8, 8, 16, 3, 0xa70014⟩
def Reg.TPT_RETX_STATE_MISS_MS : Fld := ⟨0x400100, 8, 8, 20, 10, 0xa70014⟩
def Reg.TPT_RESULT_HOLD_HOLD_US : Fld := ⟨0x400108, 8, 8, 0, 17, 0x1770⟩
def Reg.TPT_ACK_DELAY : Fld := ⟨0x400110, 8, 8, 0, 8, 10⟩
def Reg.TPT_SE_IDLE_IDLE_MS : Fld := ⟨0x400118, 8, 8, 0, 16, 1000⟩
def Reg.TPT_CTX_STATUS_ON_DIE : Fld := ⟨0x400180, 8, 8, 0, 16, 0⟩
def Reg.TPT_CTX_STATUS_POOL_USED : Fld := ⟨0x400180, 8, 8, 16, 25, 0⟩
def Reg.TPT_CTX_STATUS_RESULT_USED : Fld := ⟨0x400180, 8, 8, 41, 13, 0⟩
def Reg.TPT_VIOLATION_DOORBELL_IGNORED : Fld := ⟨0x400300, 8, 8, 0, 8, 0⟩
def Reg.TPT_VIOLATION_CMD_OVERLAP : Fld := ⟨0x400300, 8, 8, 8, 8, 0⟩
def Reg.TPT_VIOLATION_WRONG_PEER : Fld := ⟨0x400300, 8, 8, 16, 8, 0⟩
def Reg.TPT_VIOLATION_WINDOW : Fld := ⟨0x400300, 8, 8, 24, 8, 0⟩
def Reg.TPT_VIOLATION_VERSION : Fld := ⟨0x400300, 8, 8, 32, 8, 0⟩
def Reg.TPT_VIOLATION_MALFORMED : Fld := ⟨0x400300, 8, 8, 40, 8, 0⟩
def Reg.TPT_VIOLATION_CQ_LOST : Fld := ⟨0x400300, 8, 8, 48, 8, 0⟩
def Reg.TPT_VIOLATION_EQ_LOST : Fld := ⟨0x400300, 8, 8, 56, 8, 0⟩
def Reg.TPT_MISS_STATUS_OCCUPANCY : Fld := ⟨0x400200, 8, 8, 0, 10, 0⟩
def Reg.TPT_MISS_STATUS_HIGH_WATER : Fld := ⟨0x400200, 8, 8, 10, 10, 0⟩
def Reg.TPT_MISS_STATUS_STATE_MISS_SENT : Fld := ⟨0x400200, 8, 8, 20, 28, 0⟩
def Reg.KEY_CACHE_STATUS_ON_DIE : Fld := ⟨0x800000, 8, 8, 0, 17, 0⟩
def Reg.KEY_CACHE_STATUS_PINNED : Fld := ⟨0x800000, 8, 8, 17, 17, 0⟩
def Reg.KEY_CACHE_STATUS_ALLOCATED : Fld := ⟨0x800000, 8, 8, 34, 25, 0⟩
def Reg.KEY_DRAIN_TIMEOUT_US : Fld := ⟨0x800008, 8, 8, 0, 17, 1000⟩
def Reg.KEY_DRAIN_STALLED : Fld := ⟨0x800008, 8, 8, 17, 1, 1000⟩
def Reg.KEY_PROT_LOG0_VALID : Fld := ⟨0x800010, 8, 8, 0, 1, 0⟩
def Reg.KEY_PROT_LOG0_DETAIL : Fld := ⟨0x800010, 8, 8, 1, 4, 0⟩
def Reg.KEY_PROT_LOG0_STATUS : Fld := ⟨0x800010, 8, 8, 8, 8, 0⟩
def Reg.KEY_PROT_LOG0_SRC_EID : Fld := ⟨0x800010, 8, 8, 16, 20, 0⟩
def Reg.KEY_PROT_LOG1_KEY : Fld := ⟨0x800018, 8, 8, 0, 32, 0⟩
def Reg.KEY_PROT_LOG1_DEST_QPN : Fld := ⟨0x800018, 8, 8, 32, 24, 0⟩
def Reg.KEY_PROT_LOG1_OPCODE : Fld := ⟨0x800018, 8, 8, 56, 8, 0⟩
def Reg.KEY_PROT_COUNT_COUNT : Fld := ⟨0x800020, 8, 8, 0, 32, 0⟩
def Reg.KEY_HOST_ATOMIC_LINK_ENABLE : Fld := ⟨0x800028, 8, 8, 0, 8, 0x1000⟩
def Reg.KEY_HOST_ATOMIC_CAS_LIMIT : Fld := ⟨0x800028, 8, 8, 8, 6, 0x1000⟩
def Reg.KEY_CXL_MAP_ENABLE : Fld := ⟨0x800100, 8, 8, 0, 1, 0⟩
def Reg.KEY_CXL_MAP_BASE_GIB : Fld := ⟨0x800100, 8, 8, 8, 8, 0⟩
def Reg.KEY_CXL_MAP_SIZE_GIB : Fld := ⟨0x800100, 8, 8, 16, 8, 0⟩
def Reg.KEY_QUOTA_LIMIT : Fld := ⟨0x4100000, 8, 8, 0, 25, 0x10000⟩
def Reg.KEY_QUOTA_USED : Fld := ⟨0x4100000, 8, 8, 25, 25, 0x10000⟩
def Reg.MCH_CONFIG_LOG_BINS : Fld := ⟨0xa00000, 8, 8, 0, 5, 0x200014⟩
def Reg.MCH_CONFIG_EAGER_THRESHOLD : Fld := ⟨0xa00000, 8, 8, 8, 15, 0x200014⟩
def Reg.MCH_UNEXP_POOL_KIB : Fld := ⟨0xa00008, 8, 8, 0, 26, 0x400000⟩
def Reg.MCH_UNEXP_PENDING : Fld := ⟨0xa00008, 8, 8, 26, 1, 0x400000⟩
def Reg.MCH_UNEXP_STATUS_CELLS_USED : Fld := ⟨0xa00010, 8, 8, 0, 30, 0⟩
def Reg.MCH_UNEXP_STATUS_HIGH_WATER : Fld := ⟨0xa00010, 8, 8, 30, 30, 0⟩
def Reg.MCH_POSTED_STATUS_CAPACITY : Fld := ⟨0xa00018, 8, 8, 0, 27, 0⟩
def Reg.MCH_POSTED_STATUS_POSTED : Fld := ⟨0xa00018, 8, 8, 27, 27, 0⟩
def Reg.MCH_RETRY_FULL_HINT_US : Fld := ⟨0xa00020, 8, 8, 0, 8, 10⟩
def Reg.MCH_RETRY_FULL_DEADLINE_MS : Fld := ⟨0xa00020, 8, 8, 8, 22, 10⟩
def Reg.MCH_RETRY_RNDV_WAIT_MS : Fld := ⟨0xa00020, 8, 8, 32, 22, 10⟩
def Reg.MCH_HANDLER_BUDGET : Fld := ⟨0xa00028, 8, 8, 0, 21, 0x10004e20⟩
def Reg.MCH_HANDLER_THREADS : Fld := ⟨0xa00028, 8, 8, 24, 7, 0x10004e20⟩
def Reg.MCH_STATUS_FULL_NAKS : Fld := ⟨0xa00030, 8, 8, 0, 16, 0⟩
def Reg.MCH_STATUS_ORDER_HOLDS : Fld := ⟨0xa00030, 8, 8, 16, 16, 0⟩
def Reg.MCH_STATUS_STRAY_FIN : Fld := ⟨0xa00030, 8, 8, 32, 8, 0⟩
def Reg.MCH_STATUS_HANDLER_FAULTS : Fld := ⟨0xa00030, 8, 8, 40, 16, 0⟩
def Reg.MCH_UNEXP_QUOTA_LIMIT : Fld := ⟨0x4200000, 8, 8, 0, 30, 0x3fffffff⟩
def Reg.MCH_UNEXP_QUOTA_USED : Fld := ⟨0x4200000, 8, 8, 30, 30, 0x3fffffff⟩
def Reg.SWM_CONFIG_ENABLE : Fld := ⟨0xc00000, 8, 8, 0, 1, 0x10007630⟩
def Reg.SWM_CONFIG_PARTITION : Fld := ⟨0xc00000, 8, 8, 4, 4, 0x10007630⟩
def Reg.SWM_CONFIG_UP_VL : Fld := ⟨0xc00000, 8, 8, 8, 3, 0x10007630⟩
def Reg.SWM_CONFIG_DOWN_VL : Fld := ⟨0xc00000, 8, 8, 12, 3, 0x10007630⟩
def Reg.SWM_CONFIG_SLOTS : Fld := ⟨0xc00000, 8, 8, 16, 13, 0x10007630⟩
def Reg.SWM_EPOCH_TIMEOUT_US : Fld := ⟨0xc00008, 8, 8, 0, 26, 0x2710⟩
def Reg.SWM_STATUS_ACTIVE_SLOTS : Fld := ⟨0xc00010, 8, 8, 0, 13, 0⟩
def Reg.SWM_STATUS_STAGE_PER_SLOT_MIB : Fld := ⟨0xc00010, 8, 8, 13, 18, 0⟩
def Reg.SWM_STATUS_SLOT_HIGH_WATER : Fld := ⟨0xc00010, 8, 8, 31, 13, 0⟩
def Reg.SWM_FROND_CTRL_GID : Fld := ⟨0xc00020, 8, 8, 0, 16, 0⟩
def Reg.SWM_FROND_CTRL_WRITE : Fld := ⟨0xc00020, 8, 8, 16, 1, 0⟩
def Reg.SWM_FROND_CTRL_READ : Fld := ⟨0xc00020, 8, 8, 17, 1, 0⟩
def Reg.SWM_FROND_CTRL_BUSY : Fld := ⟨0xc00020, 8, 8, 18, 1, 0⟩
def Reg.SWM_FROND_CTRL_STATUS : Fld := ⟨0xc00020, 8, 8, 20, 8, 0⟩
def Reg.SWM_FROND_STATE_STATE : Fld := ⟨0xc00028, 8, 8, 0, 2, 0⟩
def Reg.SWM_FROND_STATE_EPOCH : Fld := ⟨0xc00028, 8, 8, 8, 16, 0⟩
def Reg.SWM_FROND_STATE_LAST_REASON : Fld := ⟨0xc00028, 8, 8, 24, 4, 0⟩
def Reg.SWM_ABORT_LOG_VALID : Fld := ⟨0xc00080, 8, 8, 0, 1, 0⟩
def Reg.SWM_ABORT_LOG_REASON : Fld := ⟨0xc00080, 8, 8, 1, 4, 0⟩
def Reg.SWM_ABORT_LOG_GID : Fld := ⟨0xc00080, 8, 8, 8, 16, 0⟩
def Reg.SWM_ABORT_LOG_EPOCH : Fld := ⟨0xc00080, 8, 8, 24, 16, 0⟩
def Reg.SWM_ABORT_LOG_PORT : Fld := ⟨0xc00080, 8, 8, 40, 7, 0⟩
def Reg.SWM_COUNT_ABORTS : Fld := ⟨0xc00088, 8, 8, 0, 16, 0⟩
def Reg.SWM_COUNT_STRAY : Fld := ⟨0xc00088, 8, 8, 16, 16, 0⟩
def Reg.SWM_COUNT_MISMATCH : Fld := ⟨0xc00088, 8, 8, 32, 16, 0⟩
def Reg.SWM_COUNT_NO_SLOT : Fld := ⟨0xc00088, 8, 8, 48, 16, 0⟩
def Reg.SWM_FROND_DATA_WORD : Fld := ⟨0xc00040, 8, 8, 0, 64, 0⟩
def Reg.RTE_MGMT_OWNED : Fld := ⟨0x1000008, 8, 8, 0, 1, 1280⟩
def Reg.RTE_MGMT_JOINED : Fld := ⟨0x1000008, 8, 8, 1, 1, 1280⟩
def Reg.RTE_MGMT_RELEASE : Fld := ⟨0x1000008, 8, 8, 2, 1, 1280⟩
def Reg.RTE_MGMT_MGMT_VL : Fld := ⟨0x1000008, 8, 8, 8, 3, 1280⟩
def Reg.RTE_MGMT_DROPPED : Fld := ⟨0x1000008, 8, 8, 16, 16, 1280⟩
def Reg.RTE_WAGGLE_PERIOD : Fld := ⟨0x1000010, 8, 8, 0, 6, 0x44004⟩
def Reg.RTE_WAGGLE_QUANT_CELLS : Fld := ⟨0x1000010, 8, 8, 8, 10, 0x44004⟩
def Reg.RTE_WAGGLE_LOOKAHEAD : Fld := ⟨0x1000010, 8, 8, 18, 1, 0x44004⟩
def Reg.RTE_THROTTLE_HI_CELLS : Fld := ⟨0x1000018, 8, 8, 0, 13, 0x2000400⟩
def Reg.RTE_THROTTLE_LO_CELLS : Fld := ⟨0x1000018, 8, 8, 16, 12, 0x2000400⟩
def Reg.RTE_THROTTLE_ACTIVE : Fld := ⟨0x1000018, 8, 8, 32, 16, 0x2000400⟩
def Reg.RTE_COUNT_NO_ROUTE : Fld := ⟨0x1000020, 8, 8, 0, 16, 0⟩
def Reg.RTE_COUNT_ORDERED_BROKEN : Fld := ⟨0x1000020, 8, 8, 16, 16, 0⟩
def Reg.RTE_COUNT_MISDELIVERED : Fld := ⟨0x1000020, 8, 8, 32, 8, 0⟩
def Reg.RTE_COUNT_HOP_LIMIT : Fld := ⟨0x1000020, 8, 8, 40, 8, 0⟩
def Reg.RTE_COUNT_TURN_VIOLATION : Fld := ⟨0x1000020, 8, 8, 48, 8, 0⟩
def Reg.RTE_COUNT_PHASE_FIXED : Fld := ⟨0x1000020, 8, 8, 56, 8, 0⟩
def Reg.RTE_DETOURS_DETOURS : Fld := ⟨0x1000028, 8, 8, 0, 32, 0⟩
def Reg.RTE_DETOURS_THROTTLE_HOLDS : Fld := ⟨0x1000028, 8, 8, 32, 32, 0⟩
def Reg.RTE_NOROUTE_LOG_VALID : Fld := ⟨0x1000030, 8, 8, 0, 1, 0⟩
def Reg.RTE_NOROUTE_LOG_ORDERED : Fld := ⟨0x1000030, 8, 8, 1, 1, 0⟩
def Reg.RTE_NOROUTE_LOG_VL : Fld := ⟨0x1000030, 8, 8, 4, 3, 0⟩
def Reg.RTE_NOROUTE_LOG_IN_PORT : Fld := ⟨0x1000030, 8, 8, 8, 7, 0⟩
def Reg.RTE_NOROUTE_LOG_DEST_COORD : Fld := ⟨0x1000030, 8, 8, 16, 20, 0⟩
def Reg.RTE_NOROUTE_LOG_REASON : Fld := ⟨0x1000030, 8, 8, 36, 4, 0⟩
def Reg.RTE_SWAP_GO : Fld := ⟨0x1000100, 8, 8, 0, 1, 0⟩
def Reg.RTE_SWAP_AT_TIME : Fld := ⟨0x1000100, 8, 8, 1, 1, 0⟩
def Reg.RTE_SWAP_PENDING : Fld := ⟨0x1000100, 8, 8, 2, 1, 0⟩
def Reg.RTE_SWAP_BUSY : Fld := ⟨0x1000100, 8, 8, 3, 1, 0⟩
def Reg.RTE_SWAP_CANCEL : Fld := ⟨0x1000100, 8, 8, 4, 1, 0⟩
def Reg.RTE_SWAP_STATUS : Fld := ⟨0x1000100, 8, 8, 8, 8, 0⟩
def Reg.RTE_SWAP_FORCED : Fld := ⟨0x1000100, 8, 8, 16, 16, 0⟩
def Reg.RTE_SWAP_SWAPS : Fld := ⟨0x1000100, 8, 8, 32, 32, 0⟩
def Reg.RTE_SWAP_TIME_TIME : Fld := ⟨0x1000108, 8, 8, 0, 64, 0⟩
def Reg.RTE_SHAPE_COORD : Fld := ⟨0x1001000, 0x1000, 8, 0, 20, 0x111104104100000⟩
def Reg.RTE_SHAPE_W0 : Fld := ⟨0x1001000, 0x1000, 8, 20, 6, 0x111104104100000⟩
def Reg.RTE_SHAPE_W1 : Fld := ⟨0x1001000, 0x1000, 8, 26, 6, 0x111104104100000⟩
def Reg.RTE_SHAPE_W2 : Fld := ⟨0x1001000, 0x1000, 8, 32, 6, 0x111104104100000⟩
def Reg.RTE_SHAPE_W3 : Fld := ⟨0x1001000, 0x1000, 8, 38, 6, 0x111104104100000⟩
def Reg.RTE_SHAPE_K0 : Fld := ⟨0x1001000, 0x1000, 8, 44, 4, 0x111104104100000⟩
def Reg.RTE_SHAPE_K1 : Fld := ⟨0x1001000, 0x1000, 8, 48, 4, 0x111104104100000⟩
def Reg.RTE_SHAPE_K2 : Fld := ⟨0x1001000, 0x1000, 8, 52, 4, 0x111104104100000⟩
def Reg.RTE_SHAPE_K3 : Fld := ⟨0x1001000, 0x1000, 8, 56, 4, 0x111104104100000⟩
def Reg.RTE_BASE_B0 : Fld := ⟨0x1001008, 0x1000, 8, 0, 7, 0⟩
def Reg.RTE_BASE_B1 : Fld := ⟨0x1001008, 0x1000, 8, 8, 7, 0⟩
def Reg.RTE_BASE_B2 : Fld := ⟨0x1001008, 0x1000, 8, 16, 7, 0⟩
def Reg.RTE_BASE_B3 : Fld := ⟨0x1001008, 0x1000, 8, 24, 7, 0⟩
def Reg.RTE_ADAPT_MAX_DETOURS : Fld := ⟨0x1001010, 0x1000, 8, 0, 2, 65⟩
def Reg.RTE_ADAPT_DETOUR_PENALTY : Fld := ⟨0x1001010, 0x1000, 8, 4, 4, 65⟩
def Reg.RTE_VL_MAP_REQ_VL : Fld := ⟨0x1001018, 0x1000, 8, 0, 24, 0x6db249492000⟩
def Reg.RTE_VL_MAP_RSP_VL : Fld := ⟨0x1001018, 0x1000, 8, 24, 24, 0x6db249492000⟩
def Reg.RTE_INJ_MASK_LO_PERMIT : Fld := ⟨0x1001020, 0x1000, 8, 0, 64, 0xffffffffffffffff⟩
def Reg.RTE_INJ_MASK_HI_PERMIT : Fld := ⟨0x1001028, 0x1000, 8, 0, 8, 255⟩
def Reg.RTE_TURN_LO_PERMIT : Fld := ⟨0x1001100, 0x1000, 16, 0, 64, 0xffffffffffffffff⟩
def Reg.RTE_TURN_HI_PERMIT : Fld := ⟨0x1001108, 0x1000, 16, 0, 8, 255⟩
def Reg.RTE_PARTNER_PORT : Fld := ⟨0x1001600, 0x1000, 8, 0, 7, 0⟩
def Reg.RTE_PARTNER_ENABLE : Fld := ⟨0x1001600, 0x1000, 8, 7, 1, 0⟩
def Reg.RTE_PARTNER_MISMATCH : Fld := ⟨0x1001600, 0x1000, 8, 8, 1, 0⟩
def Reg.RTE_FUNC_EID_EID : Fld := ⟨0x1004000, 8, 8, 0, 20, 0⟩
def Reg.RTE_FUNC_EID_VALID : Fld := ⟨0x1004000, 8, 8, 20, 1, 0⟩
def Reg.RTE_EID_WORD_WORD : Fld := ⟨0x1400000, 8, 8, 0, 64, 0⟩
def Reg.LNK_CFG_ENABLE : Fld := ⟨0x2000000, 0x10000, 8, 0, 1, 0xa0003e80b⟩
def Reg.LNK_CFG_AUTO_RETRAIN : Fld := ⟨0x2000000, 0x10000, 8, 1, 1, 0xa0003e80b⟩
def Reg.LNK_CFG_MAX_VERSION : Fld := ⟨0x2000000, 0x10000, 8, 2, 2, 0xa0003e80b⟩
def Reg.LNK_CFG_HOLDOFF_US : Fld := ⟨0x2000000, 0x10000, 8, 8, 14, 0xa0003e80b⟩
def Reg.LNK_CFG_FAILOVER_US : Fld := ⟨0x2000000, 0x10000, 8, 32, 10, 0xa0003e80b⟩
def Reg.LNK_VL_CELLS_LO_CELLS0 : Fld := ⟨0x2000008, 0x10000, 8, 0, 13, 0x200020002000200⟩
def Reg.LNK_VL_CELLS_LO_CELLS1 : Fld := ⟨0x2000008, 0x10000, 8, 16, 13, 0x200020002000200⟩
def Reg.LNK_VL_CELLS_LO_CELLS2 : Fld := ⟨0x2000008, 0x10000, 8, 32, 13, 0x200020002000200⟩
def Reg.LNK_VL_CELLS_LO_CELLS3 : Fld := ⟨0x2000008, 0x10000, 8, 48, 13, 0x200020002000200⟩
def Reg.LNK_VL_CELLS_HI_CELLS0 : Fld := ⟨0x2000010, 0x10000, 8, 0, 13, 0x200020002000200⟩
def Reg.LNK_VL_CELLS_HI_CELLS1 : Fld := ⟨0x2000010, 0x10000, 8, 16, 13, 0x200020002000200⟩
def Reg.LNK_VL_CELLS_HI_CELLS2 : Fld := ⟨0x2000010, 0x10000, 8, 32, 13, 0x200020002000200⟩
def Reg.LNK_VL_CELLS_HI_CELLS3 : Fld := ⟨0x2000010, 0x10000, 8, 48, 13, 0x200020002000200⟩
def Reg.LNK_TIMERS_ACK_INTERVAL : Fld := ⟨0x2000018, 0x10000, 8, 0, 7, 0xa00c805⟩
def Reg.LNK_TIMERS_REPLAY_TIMEOUT : Fld := ⟨0x2000018, 0x10000, 8, 8, 14, 0xa00c805⟩
def Reg.LNK_TIMERS_RESYNC_US : Fld := ⟨0x2000018, 0x10000, 8, 24, 10, 0xa00c805⟩
def Reg.LNK_DOWN_WINDOW_US : Fld := ⟨0x2000020, 0x10000, 8, 0, 17, 0x20003208003e8⟩
def Reg.LNK_DOWN_REPLAY_LIMIT : Fld := ⟨0x2000020, 0x10000, 8, 17, 10, 0x20003208003e8⟩
def Reg.LNK_DOWN_LOCK_LOSS_US : Fld := ⟨0x2000020, 0x10000, 8, 27, 14, 0x20003208003e8⟩
def Reg.LNK_DOWN_VIOL_LIMIT : Fld := ⟨0x2000020, 0x10000, 8, 41, 10, 0x20003208003e8⟩
def Reg.LNK_STATUS_STATE : Fld := ⟨0x2000028, 0x10000, 8, 0, 3, 0⟩
def Reg.LNK_STATUS_VERSION : Fld := ⟨0x2000028, 0x10000, 8, 3, 2, 0⟩
def Reg.LNK_STATUS_VERSION_FAIL : Fld := ⟨0x2000028, 0x10000, 8, 5, 1, 0⟩
def Reg.LNK_STATUS_FAR_COORD_VALID : Fld := ⟨0x2000028, 0x10000, 8, 6, 1, 0⟩
def Reg.LNK_STATUS_FAR_PORT : Fld := ⟨0x2000028, 0x10000, 8, 8, 7, 0⟩
def Reg.LNK_STATUS_FAR_COORD : Fld := ⟨0x2000028, 0x10000, 8, 16, 20, 0⟩
def Reg.LNK_STATUS_DOWN_CAUSE : Fld := ⟨0x2000028, 0x10000, 8, 36, 4, 0⟩
def Reg.LNK_STATUS_DOWN_SEEN : Fld := ⟨0x2000028, 0x10000, 8, 40, 1, 0⟩
def Reg.LNK_FAR_SERIAL_SERIAL : Fld := ⟨0x2000030, 0x10000, 8, 0, 64, 0⟩
def Reg.LNK_LEDGER_NEXT_LSN : Fld := ⟨0x2000038, 0x10000, 8, 0, 24, 0xffffff000000⟩
def Reg.LNK_LEDGER_ACKED_LSN : Fld := ⟨0x2000038, 0x10000, 8, 24, 24, 0xffffff000000⟩
def Reg.LNK_LEDGER_REPLAY_CELLS : Fld := ⟨0x2000038, 0x10000, 8, 48, 11, 0xffffff000000⟩
def Reg.LNK_RX_EXPECT_LSN : Fld := ⟨0x2000040, 0x10000, 8, 0, 24, 0x1000000⟩
def Reg.LNK_RX_NAK_ARMED : Fld := ⟨0x2000040, 0x10000, 8, 24, 1, 0x1000000⟩
def Reg.LNK_ERR_CRC_BAD : Fld := ⟨0x2000058, 0x10000, 8, 0, 16, 0⟩
def Reg.LNK_ERR_REPLAYS : Fld := ⟨0x2000058, 0x10000, 8, 16, 16, 0⟩
def Reg.LNK_ERR_DUPLICATES : Fld := ⟨0x2000058, 0x10000, 8, 32, 16, 0⟩
def Reg.LNK_ERR_CTRL_BAD : Fld := ⟨0x2000058, 0x10000, 8, 48, 8, 0⟩
def Reg.LNK_ERR_STOMPED : Fld := ⟨0x2000058, 0x10000, 8, 56, 8, 0⟩
def Reg.LNK_LEAK_CELLS_RECOVERED : Fld := ⟨0x2000060, 0x10000, 8, 0, 32, 0⟩
def Reg.LNK_LEAK_DOWNS : Fld := ⟨0x2000060, 0x10000, 8, 32, 16, 0⟩
def Reg.LNK_FAILOVER_RESENT : Fld := ⟨0x2000068, 0x10000, 8, 0, 16, 0⟩
def Reg.LNK_FAILOVER_DISCARDED : Fld := ⟨0x2000068, 0x10000, 8, 16, 16, 0⟩
def Reg.LNK_FAILOVER_REFUSED : Fld := ⟨0x2000068, 0x10000, 8, 32, 8, 0⟩
def Reg.LNK_FAILOVER_TIMEOUTS : Fld := ⟨0x2000068, 0x10000, 8, 40, 8, 0⟩
def Reg.LNK_VIOL_VALID : Fld := ⟨0x2000070, 0x10000, 8, 0, 1, 0⟩
def Reg.LNK_VIOL_CODE : Fld := ⟨0x2000070, 0x10000, 8, 1, 4, 0⟩
def Reg.LNK_VIOL_COUNT : Fld := ⟨0x2000070, 0x10000, 8, 32, 16, 0⟩
def Reg.LNK_EXER_CFG_ENABLE : Fld := ⟨0x2000100, 0x10000, 8, 0, 1, 0x10000000000⟩
def Reg.LNK_EXER_CFG_DROP_LOG2 : Fld := ⟨0x2000100, 0x10000, 8, 8, 6, 0x10000000000⟩
def Reg.LNK_EXER_CFG_CORRUPT_LOG2 : Fld := ⟨0x2000100, 0x10000, 8, 16, 6, 0x10000000000⟩
def Reg.LNK_EXER_CFG_REORDER_LOG2 : Fld := ⟨0x2000100, 0x10000, 8, 24, 6, 0x10000000000⟩
def Reg.LNK_EXER_CFG_BLOCK_LOG2 : Fld := ⟨0x2000100, 0x10000, 8, 32, 6, 0x10000000000⟩
def Reg.LNK_EXER_CFG_BURST_BITS : Fld := ⟨0x2000100, 0x10000, 8, 40, 4, 0x10000000000⟩
def Reg.LNK_EXER_CFG_STATUS : Fld := ⟨0x2000100, 0x10000, 8, 48, 8, 0x10000000000⟩
def Reg.LNK_EXER_SCHED_PERIOD_US : Fld := ⟨0x2000108, 0x10000, 8, 0, 20, 0x3e8003e8⟩
def Reg.LNK_EXER_SCHED_ON_US : Fld := ⟨0x2000108, 0x10000, 8, 20, 20, 0x3e8003e8⟩
def Reg.LNK_EXER_SEED_SEED : Fld := ⟨0x2000110, 0x10000, 8, 0, 32, 1⟩
def Reg.LNK_EXER_COUNT_DROPPED : Fld := ⟨0x2000118, 0x10000, 8, 0, 16, 0⟩
def Reg.LNK_EXER_COUNT_CORRUPTED : Fld := ⟨0x2000118, 0x10000, 8, 16, 16, 0⟩
def Reg.LNK_EXER_COUNT_REORDERED : Fld := ⟨0x2000118, 0x10000, 8, 32, 16, 0⟩
def Reg.LNK_EXER_COUNT_BLOCKS : Fld := ⟨0x2000118, 0x10000, 8, 48, 16, 0⟩
def Reg.LNK_AVAIL_LO_AVAIL0 : Fld := ⟨0x2000048, 0x10000, 8, 0, 16, 0⟩
def Reg.LNK_AVAIL_LO_AVAIL1 : Fld := ⟨0x2000048, 0x10000, 8, 16, 16, 0⟩
def Reg.LNK_AVAIL_LO_AVAIL2 : Fld := ⟨0x2000048, 0x10000, 8, 32, 16, 0⟩
def Reg.LNK_AVAIL_LO_AVAIL3 : Fld := ⟨0x2000048, 0x10000, 8, 48, 16, 0⟩
def Reg.LNK_AVAIL_HI_AVAIL0 : Fld := ⟨0x2000050, 0x10000, 8, 0, 16, 0⟩
def Reg.LNK_AVAIL_HI_AVAIL1 : Fld := ⟨0x2000050, 0x10000, 8, 16, 16, 0⟩
def Reg.LNK_AVAIL_HI_AVAIL2 : Fld := ⟨0x2000050, 0x10000, 8, 32, 16, 0⟩
def Reg.LNK_AVAIL_HI_AVAIL3 : Fld := ⟨0x2000050, 0x10000, 8, 48, 16, 0⟩
def Reg.LNK_VIOL_CAPTURE_BYTES : Fld := ⟨0x2000078, 0x10000, 8, 0, 64, 0⟩
def Reg.LAN_EQ_STATUS_LOADED : Fld := ⟨0x2800000, 8, 8, 0, 1, 0⟩
def Reg.LAN_EQ_STATUS_RESULT : Fld := ⟨0x2800000, 8, 8, 1, 3, 0⟩
def Reg.LAN_EQ_STATUS_BOARD_ID : Fld := ⟨0x2800000, 8, 8, 8, 8, 0⟩
def Reg.LAN_EQ_STATUS_RECORD : Fld := ⟨0x2800000, 8, 8, 16, 6, 0⟩
def Reg.LAN_EQ_STATUS_FORMAT : Fld := ⟨0x2800000, 8, 8, 24, 8, 0⟩
def Reg.LAN_PORT_CFG_RATE : Fld := ⟨0x2810000, 0x1000, 8, 0, 2, 0⟩
def Reg.LAN_PORT_CFG_MEDIUM : Fld := ⟨0x2810000, 0x1000, 8, 2, 2, 0⟩
def Reg.LAN_PORT_CFG_TX_INV : Fld := ⟨0x2810000, 0x1000, 8, 4, 2, 0⟩
def Reg.LAN_PORT_CFG_RX_INV : Fld := ⟨0x2810000, 0x1000, 8, 6, 2, 0⟩
def Reg.LAN_PORT_CFG_RETIRED : Fld := ⟨0x2810000, 0x1000, 8, 8, 1, 0⟩
def Reg.LAN_PORT_CFG_LOOP : Fld := ⟨0x2810000, 0x1000, 8, 9, 2, 0⟩
def Reg.LAN_PORT_STATUS_ALIGNED : Fld := ⟨0x2810008, 0x1000, 8, 0, 1, 0⟩
def Reg.LAN_PORT_STATUS_ALIGN_LOSS_SEEN : Fld := ⟨0x2810008, 0x1000, 8, 1, 1, 0⟩
def Reg.LAN_PORT_STATUS_LANES_SWAPPED : Fld := ⟨0x2810008, 0x1000, 8, 2, 1, 0⟩
def Reg.LAN_PORT_STATUS_EQ_VALID : Fld := ⟨0x2810008, 0x1000, 8, 3, 1, 0⟩
def Reg.LAN_PORT_STATUS_SKEW_BLOCKS : Fld := ⟨0x2810008, 0x1000, 8, 4, 7, 0⟩
def Reg.LAN_PORT_STATUS_STAGE : Fld := ⟨0x2810008, 0x1000, 8, 12, 3, 0⟩
def Reg.LAN_PORT_STATUS_TRAIN_TIMEOUT_SEEN : Fld := ⟨0x2810008, 0x1000, 8, 15, 1, 0⟩
def Reg.LAN_EQ_PRE2 : Fld := ⟨0x2810100, 0x1000, 128, 0, 4, 0⟩
def Reg.LAN_EQ_PRE1 : Fld := ⟨0x2810100, 0x1000, 128, 4, 8, 0⟩
def Reg.LAN_EQ_MAIN : Fld := ⟨0x2810100, 0x1000, 128, 12, 8, 0⟩
def Reg.LAN_EQ_POST1 : Fld := ⟨0x2810100, 0x1000, 128, 20, 8, 0⟩
def Reg.LAN_EQ_CTLE : Fld := ⟨0x2810100, 0x1000, 128, 28, 5, 0⟩
def Reg.LAN_EQ_VGA : Fld := ⟨0x2810100, 0x1000, 128, 33, 5, 0⟩
def Reg.LAN_EQ_DFE1 : Fld := ⟨0x2810100, 0x1000, 128, 38, 7, 0⟩
def Reg.LAN_EQ_DFE2 : Fld := ⟨0x2810100, 0x1000, 128, 45, 6, 0⟩
def Reg.LAN_EQ_DFE3 : Fld := ⟨0x2810100, 0x1000, 128, 51, 5, 0⟩
def Reg.LAN_EQ_DFE4 : Fld := ⟨0x2810100, 0x1000, 128, 56, 5, 0⟩
def Reg.LAN_LANE_STATUS_SIGNAL : Fld := ⟨0x2810108, 0x1000, 128, 0, 1, 0⟩
def Reg.LAN_LANE_STATUS_CDR_LOCK : Fld := ⟨0x2810108, 0x1000, 128, 1, 1, 0⟩
def Reg.LAN_LANE_STATUS_BLOCK_LOCK : Fld := ⟨0x2810108, 0x1000, 128, 2, 1, 0⟩
def Reg.LAN_LANE_STATUS_LOCK_LOSS_SEEN : Fld := ⟨0x2810108, 0x1000, 128, 3, 1, 0⟩
def Reg.LAN_LANE_STATUS_AM_LOCK : Fld := ⟨0x2810108, 0x1000, 128, 4, 1, 0⟩
def Reg.LAN_LANE_STATUS_LOGICAL : Fld := ⟨0x2810108, 0x1000, 128, 5, 1, 0⟩
def Reg.LAN_LANE_STATUS_EYE_MV : Fld := ⟨0x2810108, 0x1000, 128, 8, 8, 0⟩
def Reg.LAN_LANE_STATUS_EYE_UI : Fld := ⟨0x2810108, 0x1000, 128, 16, 6, 0⟩
def Reg.LAN_LANE_ERR_SYNC_BAD : Fld := ⟨0x2810110, 0x1000, 128, 0, 16, 0⟩
def Reg.LAN_LANE_ERR_BIP_ERR : Fld := ⟨0x2810110, 0x1000, 128, 16, 16, 0⟩
def Reg.LAN_LANE_ERR_LOCK_LOSSES : Fld := ⟨0x2810110, 0x1000, 128, 32, 8, 0⟩
def Reg.LAN_LANE_ERR_AM_BAD : Fld := ⟨0x2810110, 0x1000, 128, 40, 8, 0⟩
def Reg.LAN_PAT_CFG_GEN_MODE : Fld := ⟨0x2810118, 0x1000, 128, 0, 3, 512⟩
def Reg.LAN_PAT_CFG_CHK_MODE : Fld := ⟨0x2810118, 0x1000, 128, 4, 3, 512⟩
def Reg.LAN_PAT_CFG_INJECT_ONE : Fld := ⟨0x2810118, 0x1000, 128, 8, 1, 512⟩
def Reg.LAN_PAT_CFG_BURST_LEN : Fld := ⟨0x2810118, 0x1000, 128, 9, 7, 512⟩
def Reg.LAN_PAT_CFG_INJECT_INTERVAL : Fld := ⟨0x2810118, 0x1000, 128, 16, 32, 512⟩
def Reg.LAN_PAT_USER_PATTERN : Fld := ⟨0x2810120, 0x1000, 128, 0, 64, 0⟩
def Reg.LAN_PAT_STATUS_CHK_LOCK : Fld := ⟨0x2810128, 0x1000, 128, 0, 1, 0⟩
def Reg.LAN_PAT_STATUS_CHK_LOSS_SEEN : Fld := ⟨0x2810128, 0x1000, 128, 1, 1, 0⟩
def Reg.LAN_PAT_STATUS_ERRORS : Fld := ⟨0x2810128, 0x1000, 128, 8, 40, 0⟩
def Reg.LAN_PAT_BITS_BITS : Fld := ⟨0x2810130, 0x1000, 128, 0, 48, 0⟩
def Reg.FGR_HIVE_STATUS_RUNNING : Fld := ⟨0x3000000, 8, 8, 0, 8, 0⟩
def Reg.FGR_HIVE_STATUS_HANDLERS_BUSY : Fld := ⟨0x3000000, 8, 8, 8, 7, 0⟩
def Reg.FGR_HIVE_STATUS_STOPPED : Fld := ⟨0x3000000, 8, 8, 16, 8, 0⟩
def Reg.FGR_HIVE_STATUS_HANDLERS_WAITING : Fld := ⟨0x3000000, 8, 8, 24, 8, 0⟩
def Reg.FGR_HANDLER_POLICY_REQUIRE_SIGNED : Fld := ⟨0x3000100, 8, 8, 0, 1, 0⟩
def Reg.FGR_HANDLER_POLICY_LOCK : Fld := ⟨0x3000100, 8, 8, 1, 1, 0⟩
def Reg.FGR_SITE_KEY_HASH_HASH : Fld := ⟨0x3000108, 8, 8, 0, 64, 0⟩
def Reg.FGR_HTRAP_LOG0_VALID : Fld := ⟨0x3000140, 8, 8, 0, 1, 0⟩
def Reg.FGR_HTRAP_LOG0_CAUSE : Fld := ⟨0x3000140, 8, 8, 1, 4, 0⟩
def Reg.FGR_HTRAP_LOG0_ID : Fld := ⟨0x3000140, 8, 8, 8, 16, 0⟩
def Reg.FGR_HTRAP_LOG0_QPN : Fld := ⟨0x3000140, 8, 8, 24, 24, 0⟩
def Reg.FGR_HTRAP_LOG0_DETAIL : Fld := ⟨0x3000140, 8, 8, 48, 16, 0⟩
def Reg.FGR_HTRAP_LOG1_PC : Fld := ⟨0x3000148, 8, 8, 0, 32, 0⟩
def Reg.FGR_HTRAP_LOG1_WORD : Fld := ⟨0x3000148, 8, 8, 32, 32, 0⟩
def Reg.FGR_HTRAP_LOG2_INFO : Fld := ⟨0x3000150, 8, 8, 0, 64, 0⟩
def Reg.FGR_FW_TRAP_LOG0_VALID : Fld := ⟨0x3000180, 8, 8, 0, 1, 0⟩
def Reg.FGR_FW_TRAP_LOG0_CAUSE : Fld := ⟨0x3000180, 8, 8, 1, 4, 0⟩
def Reg.FGR_FW_TRAP_LOG0_ID : Fld := ⟨0x3000180, 8, 8, 8, 16, 0⟩
def Reg.FGR_FW_TRAP_LOG0_QPN : Fld := ⟨0x3000180, 8, 8, 24, 24, 0⟩
def Reg.FGR_FW_TRAP_LOG0_DETAIL : Fld := ⟨0x3000180, 8, 8, 48, 16, 0⟩
def Reg.FGR_FW_TRAP_LOG1_PC : Fld := ⟨0x3000188, 8, 8, 0, 32, 0⟩
def Reg.FGR_FW_TRAP_LOG1_WORD : Fld := ⟨0x3000188, 8, 8, 32, 32, 0⟩
def Reg.FGR_FW_TRAP_LOG2_INFO : Fld := ⟨0x3000190, 8, 8, 0, 64, 0⟩
def Reg.FGR_HCOUNT_RUNS : Fld := ⟨0x3000200, 8, 8, 0, 32, 0⟩
def Reg.FGR_HCOUNT_BUDGET_FAULTS : Fld := ⟨0x3000200, 8, 8, 32, 16, 0⟩
def Reg.FGR_HCOUNT_TRAPS : Fld := ⟨0x3000200, 8, 8, 48, 16, 0⟩
def Reg.XLT_CFG_WALK_TIMEOUT_US : Fld := ⟨0x3400000, 8, 8, 0, 17, 0x900064⟩
def Reg.XLT_CFG_AD_RETRIES : Fld := ⟨0x3400000, 8, 8, 17, 6, 0x900064⟩
def Reg.XLT_CFG_PREFETCH : Fld := ⟨0x3400000, 8, 8, 23, 1, 0x900064⟩
def Reg.XLT_CACHE_STATUS_LEAF_USED : Fld := ⟨0x3400008, 8, 8, 0, 16, 0⟩
def Reg.XLT_CACHE_STATUS_NODE_USED : Fld := ⟨0x3400008, 8, 8, 16, 13, 0⟩
def Reg.XLT_FAULT_LOG0_VALID : Fld := ⟨0x3400010, 8, 8, 0, 1, 0⟩
def Reg.XLT_FAULT_LOG0_WRITE : Fld := ⟨0x3400010, 8, 8, 1, 1, 0⟩
def Reg.XLT_FAULT_LOG0_STATUS : Fld := ⟨0x3400010, 8, 8, 8, 8, 0⟩
def Reg.XLT_FAULT_LOG0_DETAIL : Fld := ⟨0x3400010, 8, 8, 16, 8, 0⟩
def Reg.XLT_FAULT_LOG0_LEVEL : Fld := ⟨0x3400010, 8, 8, 24, 3, 0⟩
def Reg.XLT_FAULT_LOG0_FUNCTION : Fld := ⟨0x3400010, 8, 8, 28, 11, 0⟩
def Reg.XLT_FAULT_LOG1_VA : Fld := ⟨0x3400018, 8, 8, 0, 57, 0⟩
def Reg.XLT_FAULT_LOG2_WALK_ADDR : Fld := ⟨0x3400020, 8, 8, 0, 64, 0⟩
def Reg.XLT_COUNT_WALKS : Fld := ⟨0x3400028, 8, 8, 0, 32, 0⟩
def Reg.XLT_COUNT_FAULTS : Fld := ⟨0x3400028, 8, 8, 32, 16, 0⟩
def Reg.XLT_COUNT_AD_RESTARTS : Fld := ⟨0x3400028, 8, 8, 48, 16, 0⟩
def Reg.XLT_CTX_ENABLE : Fld := ⟨0x3401000, 8, 8, 0, 1, 0⟩
def Reg.XLT_CTX_AD : Fld := ⟨0x3401000, 8, 8, 1, 1, 0⟩
def Reg.XLT_CTX_ROOT : Fld := ⟨0x3401000, 8, 8, 12, 46, 0⟩
def Reg.ORD_RAT_BASE_BASE : Fld := ⟨0x3600000, 32, 8, 12, 52, 0⟩
def Reg.ORD_RAT_LIMIT_BASE : Fld := ⟨0x3600008, 32, 8, 12, 52, 0⟩
def Reg.ORD_RAT_ATTR_VALID : Fld := ⟨0x3600010, 32, 8, 0, 1, 0x320000⟩
def Reg.ORD_RAT_ATTR_TYPE : Fld := ⟨0x3600010, 32, 8, 1, 1, 0x320000⟩
def Reg.ORD_RAT_ATTR_EARLY_ACK : Fld := ⟨0x3600010, 32, 8, 2, 1, 0x320000⟩
def Reg.ORD_RAT_ATTR_TARGET : Fld := ⟨0x3600010, 32, 8, 4, 4, 0x320000⟩
def Reg.ORD_RAT_ATTR_TIMEOUT_US : Fld := ⟨0x3600010, 32, 8, 16, 17, 0x320000⟩
def Reg.ORD_TIMEOUT_LOG0_VALID : Fld := ⟨0x3600800, 8, 8, 0, 1, 0⟩
def Reg.ORD_TIMEOUT_LOG0_STORE : Fld := ⟨0x3600800, 8, 8, 1, 1, 0⟩
def Reg.ORD_TIMEOUT_LOG0_EARLY : Fld := ⟨0x3600800, 8, 8, 2, 1, 0⟩
def Reg.ORD_TIMEOUT_LOG0_ERROR_COMPLETION : Fld := ⟨0x3600800, 8, 8, 3, 1, 0⟩
def Reg.ORD_TIMEOUT_LOG0_TARGET : Fld := ⟨0x3600800, 8, 8, 4, 4, 0⟩
def Reg.ORD_TIMEOUT_LOG0_THREAD : Fld := ⟨0x3600800, 8, 8, 8, 16, 0⟩
def Reg.ORD_TIMEOUT_LOG1_ADDRESS : Fld := ⟨0x3600808, 8, 8, 0, 64, 0⟩
def Reg.ORD_COUNT_FAILED_STORES : Fld := ⟨0x3600810, 8, 8, 0, 32, 0⟩
def Reg.ORD_COUNT_FAILED_LOADS : Fld := ⟨0x3600810, 8, 8, 32, 32, 0⟩
def Reg.LCK_GROUP_A_HIVES : Fld := ⟨0x3601000, 16, 8, 0, 8, 255⟩
def Reg.LCK_GROUP_A_HOST_EN : Fld := ⟨0x3601000, 16, 8, 8, 1, 255⟩
def Reg.LCK_GROUP_A_HANDLER_EN : Fld := ⟨0x3601000, 16, 8, 9, 1, 255⟩
def Reg.LCK_GROUP_A_FUNC : Fld := ⟨0x3601000, 16, 8, 16, 11, 255⟩
def Reg.LCK_GROUP_A_FUNC_MASK : Fld := ⟨0x3601000, 16, 8, 32, 11, 255⟩
def Reg.LCK_GROUP_B_PD : Fld := ⟨0x3601008, 16, 8, 0, 16, 0⟩
def Reg.LCK_GROUP_B_PD_MASK : Fld := ⟨0x3601008, 16, 8, 16, 16, 0⟩
def Reg.LCK_ORPHAN_HELD : Fld := ⟨0x3601400, 8, 8, 0, 64, 0⟩
def Reg.LCK_FORCE_INDEX : Fld := ⟨0x3601600, 8, 8, 0, 12, 0⟩
def Reg.LCK_FORCE_GO : Fld := ⟨0x3601600, 8, 8, 12, 1, 0⟩
def Reg.LCK_COMPAT_FORCE_ADDRESS : Fld := ⟨0x3601608, 8, 8, 0, 37, 0⟩
def Reg.LCK_FORCE_LOG0_VALID : Fld := ⟨0x3601610, 8, 8, 0, 1, 0⟩
def Reg.LCK_FORCE_LOG0_COMPAT : Fld := ⟨0x3601610, 8, 8, 1, 1, 0⟩
def Reg.LCK_FORCE_LOG0_IDENTITY : Fld := ⟨0x3601610, 8, 8, 8, 16, 0⟩
def Reg.LCK_FORCE_LOG0_SOURCE : Fld := ⟨0x3601610, 8, 8, 24, 32, 0⟩
def Reg.LCK_FORCE_LOG1_WHERE : Fld := ⟨0x3601618, 8, 8, 0, 37, 0⟩
def Reg.LCK_FORCE_LOG1_BY : Fld := ⟨0x3601618, 8, 8, 48, 12, 0⟩
def Reg.LCK_STATUS_BAD_RELEASE : Fld := ⟨0x3601620, 8, 8, 0, 16, 0⟩
def Reg.LCK_STATUS_RIGHTS_DENIED : Fld := ⟨0x3601620, 8, 8, 16, 16, 0⟩
def Reg.LCK_STATUS_FORCES : Fld := ⟨0x3601620, 8, 8, 32, 16, 0⟩
def Reg.LCK_STATUS_COMPAT_DISCARDS : Fld := ⟨0x3601620, 8, 8, 48, 16, 0⟩
def Reg.LCK_COMPAT_BASE_ENABLE : Fld := ⟨0x3601700, 16, 8, 0, 1, 0⟩
def Reg.LCK_COMPAT_BASE_PAGE : Fld := ⟨0x3601700, 16, 8, 12, 25, 0⟩
def Reg.LCK_WORD_IDENTITY : Fld := ⟨0x3610000, 8, 8, 0, 16, 0xfff0000⟩
def Reg.LCK_WORD_HOLDER : Fld := ⟨0x3610000, 8, 8, 16, 12, 0xfff0000⟩
def Reg.LCK_COMPAT_LIMIT_PAGE : Fld := ⟨0x3601708, 16, 8, 12, 25, 0⟩
def Reg.SCH_TIME_CFG_ROLE : Fld := ⟨0x3800000, 8, 8, 0, 2, 0x7d0050000⟩
def Reg.SCH_TIME_CFG_PARENT_PORT : Fld := ⟨0x3800000, 8, 8, 8, 7, 0x7d0050000⟩
def Reg.SCH_TIME_CFG_SYNC_US : Fld := ⟨0x3800000, 8, 8, 15, 10, 0x7d0050000⟩
def Reg.SCH_TIME_CFG_STEP_NS : Fld := ⟨0x3800000, 8, 8, 25, 20, 0x7d0050000⟩
def Reg.SCH_TIME_STATUS_LOCKED : Fld := ⟨0x3800008, 8, 8, 0, 1, 0⟩
def Reg.SCH_TIME_STATUS_STEP_SEEN : Fld := ⟨0x3800008, 8, 8, 1, 1, 0⟩
def Reg.SCH_TIME_STATUS_NO_RESPONSE_SEEN : Fld := ⟨0x3800008, 8, 8, 2, 1, 0⟩
def Reg.SCH_TIME_STATUS_STEPS : Fld := ⟨0x3800008, 8, 8, 8, 8, 0⟩
def Reg.SCH_TIME_STATUS_OFFSET_NS : Fld := ⟨0x3800008, 8, 8, 32, 32, 0⟩
def Reg.SCH_TIME_NOW_TIME : Fld := ⟨0x3800010, 8, 8, 0, 64, 0⟩
def Reg.SCH_PULSE_CFG_PULSE_IN : Fld := ⟨0x3800018, 8, 8, 0, 1, 0⟩
def Reg.SCH_PULSE_CFG_DEBUG_OUT : Fld := ⟨0x3800018, 8, 8, 1, 1, 0⟩
def Reg.SCH_PULSE_CFG_OUT_PORT : Fld := ⟨0x3800018, 8, 8, 8, 7, 0⟩
def Reg.SCH_PULSE_CFG_OUT_LANE : Fld := ⟨0x3800018, 8, 8, 16, 3, 0⟩
def Reg.SCH_PULSE_CFG_STATUS : Fld := ⟨0x3800018, 8, 8, 24, 8, 0⟩
def Reg.SCH_POLICE_COUNT_YELLOW : Fld := ⟨0x3800020, 8, 8, 0, 16, 0⟩
def Reg.SCH_POLICE_COUNT_RED_MARKED : Fld := ⟨0x3800020, 8, 8, 16, 16, 0⟩
def Reg.SCH_POLICE_COUNT_RED_DROPPED : Fld := ⟨0x3800020, 8, 8, 32, 16, 0⟩
def Reg.SCH_POLICE_COUNT_SHAPER_HOLDS : Fld := ⟨0x3800020, 8, 8, 48, 16, 0⟩
def Reg.SCH_ARB_SEED_SEED : Fld := ⟨0x3800028, 8, 8, 0, 32, 0xace1⟩
def Reg.SCH_EG_GROUP_G0 : Fld := ⟨0x3900000, 0x2000, 8, 0, 2, 0⟩
def Reg.SCH_EG_GROUP_G1 : Fld := ⟨0x3900000, 0x2000, 8, 2, 2, 0⟩
def Reg.SCH_EG_GROUP_G2 : Fld := ⟨0x3900000, 0x2000, 8, 4, 2, 0⟩
def Reg.SCH_EG_GROUP_G3 : Fld := ⟨0x3900000, 0x2000, 8, 6, 2, 0⟩
def Reg.SCH_EG_GROUP_G4 : Fld := ⟨0x3900000, 0x2000, 8, 8, 2, 0⟩
def Reg.SCH_EG_GROUP_G5 : Fld := ⟨0x3900000, 0x2000, 8, 10, 2, 0⟩
def Reg.SCH_EG_GROUP_G6 : Fld := ⟨0x3900000, 0x2000, 8, 12, 2, 0⟩
def Reg.SCH_EG_GROUP_G7 : Fld := ⟨0x3900000, 0x2000, 8, 14, 2, 0⟩
def Reg.SCH_EG_QUANTUM_LO_Q0 : Fld := ⟨0x3900008, 0x2000, 8, 0, 13, 0x41004100410041⟩
def Reg.SCH_EG_QUANTUM_LO_Q1 : Fld := ⟨0x3900008, 0x2000, 8, 16, 13, 0x41004100410041⟩
def Reg.SCH_EG_QUANTUM_LO_Q2 : Fld := ⟨0x3900008, 0x2000, 8, 32, 13, 0x41004100410041⟩
def Reg.SCH_EG_QUANTUM_LO_Q3 : Fld := ⟨0x3900008, 0x2000, 8, 48, 13, 0x41004100410041⟩
def Reg.SCH_EG_QUANTUM_HI_Q0 : Fld := ⟨0x3900010, 0x2000, 8, 0, 13, 0x41004100410041⟩
def Reg.SCH_EG_QUANTUM_HI_Q1 : Fld := ⟨0x3900010, 0x2000, 8, 16, 13, 0x41004100410041⟩
def Reg.SCH_EG_QUANTUM_HI_Q2 : Fld := ⟨0x3900010, 0x2000, 8, 32, 13, 0x41004100410041⟩
def Reg.SCH_EG_QUANTUM_HI_Q3 : Fld := ⟨0x3900010, 0x2000, 8, 48, 13, 0x41004100410041⟩
def Reg.SCH_EG_DISCARD_YELLOW_CELLS : Fld := ⟨0x3900018, 0x2000, 8, 0, 13, 0⟩
def Reg.SCH_EG_DISCARD_RED_CELLS : Fld := ⟨0x3900018, 0x2000, 8, 16, 13, 0⟩
def Reg.SCH_EG_DISCARD_YELLOW_DROPS : Fld := ⟨0x3900018, 0x2000, 8, 32, 16, 0⟩
def Reg.SCH_EG_DISCARD_RED_DROPS : Fld := ⟨0x3900018, 0x2000, 8, 48, 16, 0⟩
def Reg.SCH_GATE_CTRL_ENABLE : Fld := ⟨0x3900028, 0x2000, 8, 0, 1, 0x510000⟩
def Reg.SCH_GATE_CTRL_GO : Fld := ⟨0x3900028, 0x2000, 8, 1, 1, 0x510000⟩
def Reg.SCH_GATE_CTRL_PENDING : Fld := ⟨0x3900028, 0x2000, 8, 2, 1, 0x510000⟩
def Reg.SCH_GATE_CTRL_STATUS : Fld := ⟨0x3900028, 0x2000, 8, 8, 8, 0x510000⟩
def Reg.SCH_GATE_CTRL_GUARD_NS : Fld := ⟨0x3900028, 0x2000, 8, 16, 14, 0x510000⟩
def Reg.SCH_GATE_CYCLE_CYCLE_NS : Fld := ⟨0x3900030, 0x2000, 8, 0, 30, 0xf4240⟩
def Reg.SCH_GATE_CYCLE_LEN_M1 : Fld := ⟨0x3900030, 0x2000, 8, 32, 8, 0xf4240⟩
def Reg.SCH_GATE_BASE_BASE : Fld := ⟨0x3900038, 0x2000, 8, 0, 64, 0⟩
def Reg.SCH_GATE_STATUS_ENTRY : Fld := ⟨0x3900040, 0x2000, 8, 0, 8, 0⟩
def Reg.SCH_GATE_STATUS_ACTIVE : Fld := ⟨0x3900040, 0x2000, 8, 8, 1, 0⟩
def Reg.SCH_GATE_STATUS_SWAPS : Fld := ⟨0x3900040, 0x2000, 8, 16, 16, 0⟩
def Reg.SCH_TIME_ASYM_ASYM_NS : Fld := ⟨0x3900020, 0x2000, 8, 0, 16, 0⟩
def Reg.SCH_GATE_ADMIN_MASK : Fld := ⟨0x3900400, 0x2000, 8, 0, 8, 0xf4240ff⟩
def Reg.SCH_GATE_ADMIN_INTERVAL_NS : Fld := ⟨0x3900400, 0x2000, 8, 8, 30, 0xf4240ff⟩
def Reg.SCH_GATE_OPER_MASK : Fld := ⟨0x3900c00, 0x2000, 8, 0, 8, 0xf4240ff⟩
def Reg.SCH_GATE_OPER_INTERVAL_NS : Fld := ⟨0x3900c00, 0x2000, 8, 8, 30, 0xf4240ff⟩
def Reg.SCH_ARB_REQ_TICKETS : Fld := ⟨0x3808000, 256, 8, 0, 8, 16⟩
def Reg.SCH_ARB_REQ_CLASS : Fld := ⟨0x3808000, 256, 8, 8, 2, 16⟩
def Reg.SCH_ARB_REQ_WAIT_MAX : Fld := ⟨0x3808000, 256, 8, 16, 16, 16⟩
def Reg.SCH_ARB_CFG_MODE : Fld := ⟨0x38080f0, 256, 8, 0, 1, 2048⟩
def Reg.SCH_ARB_CFG_N : Fld := ⟨0x38080f0, 256, 8, 8, 7, 2048⟩
def Reg.SCH_ARB_CFG_FORCED : Fld := ⟨0x38080f0, 256, 8, 16, 16, 2048⟩
def Reg.CTR_COUNT_VALUE : Fld := ⟨0x3c00000, 8, 8, 0, 48, 0⟩
def Reg.CTR_COUNT_OVF : Fld := ⟨0x3c00000, 8, 8, 48, 1, 0⟩
def Reg.CTR_CFG_ENABLE : Fld := ⟨0x3c01000, 8, 8, 0, 1, 0⟩
def Reg.CTR_CFG_EVENT : Fld := ⟨0x3c01000, 8, 8, 2, 10, 0⟩
def Reg.CTR_CFG_UNIT : Fld := ⟨0x3c01000, 8, 8, 12, 8, 0⟩
def Reg.CTR_CFG_FILTER : Fld := ⟨0x3c01000, 8, 8, 20, 2, 0⟩
def Reg.CTR_CFG_FUNCTION : Fld := ⟨0x3c01000, 8, 8, 22, 11, 0⟩
def Reg.CTR_CFG_PD : Fld := ⟨0x3c01000, 8, 8, 33, 16, 0⟩
def Reg.CTR_CTRL_FREEZE : Fld := ⟨0x3c02000, 8, 8, 0, 1, 0⟩
def Reg.CTR_CTRL_CLEAR_ALL : Fld := ⟨0x3c02000, 8, 8, 1, 1, 0⟩
def Reg.CTR_SAMPLE_CFG_ENABLE : Fld := ⟨0x3c02008, 8, 8, 0, 1, 0x9c400000000c60⟩
def Reg.CTR_SAMPLE_CFG_INSTR : Fld := ⟨0x3c02008, 8, 8, 1, 1, 0x9c400000000c60⟩
def Reg.CTR_SAMPLE_CFG_PACKETS : Fld := ⟨0x3c02008, 8, 8, 2, 1, 0x9c400000000c60⟩
def Reg.CTR_SAMPLE_CFG_PARTITION : Fld := ⟨0x3c02008, 8, 8, 4, 4, 0x9c400000000c60⟩
def Reg.CTR_SAMPLE_CFG_MEAN_LOG2 : Fld := ⟨0x3c02008, 8, 8, 8, 5, 0x9c400000000c60⟩
def Reg.CTR_SAMPLE_CFG_FILTER : Fld := ⟨0x3c02008, 8, 8, 13, 2, 0x9c400000000c60⟩
def Reg.CTR_SAMPLE_CFG_FUNCTION : Fld := ⟨0x3c02008, 8, 8, 15, 11, 0x9c400000000c60⟩
def Reg.CTR_SAMPLE_CFG_PD : Fld := ⟨0x3c02008, 8, 8, 26, 16, 0x9c400000000c60⟩
def Reg.CTR_SAMPLE_CFG_HOLD_US : Fld := ⟨0x3c02008, 8, 8, 42, 20, 0x9c400000000c60⟩
def Reg.CTR_SAMPLE_PROD_PROD : Fld := ⟨0x3c02010, 8, 8, 0, 64, 0⟩
def Reg.CTR_SAMPLE_STATUS_INSTR_IN_FLIGHT : Fld := ⟨0x3c02018, 8, 8, 0, 5, 0⟩
def Reg.CTR_SAMPLE_STATUS_PKT_IN_FLIGHT : Fld := ⟨0x3c02018, 8, 8, 5, 5, 0⟩
def Reg.CTR_SAMPLE_STATUS_CLAIM_STATUS : Fld := ⟨0x3c02018, 8, 8, 16, 8, 0⟩
def Reg.CTR_SAMPLE_STATUS_SKIPPED : Fld := ⟨0x3c02018, 8, 8, 32, 32, 0⟩
def Reg.CTR_SAMPLE_SEED_SEED : Fld := ⟨0x3c02020, 8, 8, 0, 32, 0x1d0f⟩
def Reg.CTR_SAMPLE_INDEX_INDEX : Fld := ⟨0x3c02028, 8, 8, 0, 64, 0⟩
def Reg.CTR_SAMPLE_DATA_WORD : Fld := ⟨0x3c02040, 8, 8, 0, 64, 0⟩
def Reg.CTR_GRANT_ENABLE : Fld := ⟨0x3c03000, 8, 8, 0, 1, 0⟩
def Reg.CTR_GRANT_SAMPLES : Fld := ⟨0x3c03000, 8, 8, 1, 1, 0⟩
def Reg.CTR_GRANT_PD : Fld := ⟨0x3c03000, 8, 8, 3, 16, 0⟩
def Reg.CTR_GRANT_FUNCTION : Fld := ⟨0x3c03000, 8, 8, 19, 11, 0⟩

/-- Registers of the Glb block. -/
def regsGlb0 : List RegSpec := [
  -- GLB_DEVICE_ID
  ⟨0, 1, 8, 1, 8, 0xb00480, [⟨0, 16, .ro, 0, 0xffff, false⟩, ⟨16, 8, .ro, 0, 255, false⟩]⟩,
  -- GLB_CLK_STATUS
  ⟨256, 1, 8, 1, 8, 0, [⟨0, 1, .ro, 0, 1, false⟩, ⟨1, 1, .w1c, 0, 1, false⟩, ⟨2, 1, .ro, 0, 1, false⟩, ⟨3, 1, .w1c, 0, 1, false⟩, ⟨4, 16, .ro, 0, 0xffff, false⟩]⟩,
  -- GLB_CROSSING_CTRL
  ⟨512, 8, 8, 1, 8, 0x6400, [⟨0, 1, .rw, 0, 1, false⟩, ⟨1, 1, .ro, 0, 1, false⟩, ⟨2, 1, .w1c, 0, 1, false⟩, ⟨8, 24, .rw, 1, 0x186a0, false⟩]⟩,
  -- GLB_REG_TIMEOUT
  ⟨576, 1, 8, 1, 8, 20, [⟨0, 16, .rw, 1, 1000, false⟩]⟩,
  -- GLB_RES_OWNER
  ⟨768, 1, 8, 1, 8, 0, [⟨0, 2, .ro, 0, 3, false⟩, ⟨2, 2, .ro, 0, 3, false⟩]⟩,
  -- GLB_GATE_OWNER
  ⟨776, 3, 8, 1, 8, 0, [⟨0, 48, .ro, 0, 0xffffffffffff, false⟩]⟩,
  -- GLB_RES_RELEASE
  ⟨800, 1, 8, 1, 8, 0, [⟨0, 8, .wo, 0, 255, false⟩]⟩,
  -- GLB_SPARE_XBAR_CTRL
  ⟨832, 1, 8, 1, 8, 0x1000010400000, [⟨0, 1, .rw, 0, 1, false⟩, ⟨1, 1, .rw, 0, 1, false⟩, ⟨8, 8, .ro, 0, 255, false⟩, ⟨16, 13, .rw, 16, 0x1040, false⟩, ⟨32, 8, .rw, 0, 255, false⟩, ⟨40, 7, .rw, 0, 71, false⟩, ⟨48, 2, .rw, 1, 3, false⟩, ⟨51, 7, .rw, 0, 71, false⟩, ⟨58, 3, .rw, 0, 7, false⟩]⟩,
  -- GLB_SPARE_XBAR_STATUS
  ⟨840, 1, 8, 1, 8, 0, [⟨0, 32, .rc, 0, 0xffffffff, false⟩, ⟨32, 16, .rc, 0, 0xffff, false⟩, ⟨48, 16, .rc, 0, 0xffff, false⟩]⟩,
  -- GLB_STORE_PART
  ⟨1024, 16, 8, 1, 8, 0, [⟨0, 8, .ro, 0, 255, false⟩, ⟨8, 8, .ro, 0, 255, false⟩, ⟨16, 4, .ro, 0, 15, false⟩]⟩,
  -- GLB_RAIL_STATUS
  ⟨1280, 1, 8, 1, 8, 0, [⟨0, 1, .ro, 0, 1, false⟩, ⟨1, 1, .ro, 0, 1, false⟩, ⟨2, 1, .ro, 0, 1, false⟩, ⟨3, 1, .ro, 0, 1, false⟩, ⟨4, 1, .ro, 0, 1, false⟩, ⟨8, 1, .w1c, 0, 1, false⟩, ⟨9, 1, .w1c, 0, 1, false⟩, ⟨10, 1, .w1c, 0, 1, false⟩, ⟨11, 1, .w1c, 0, 1, false⟩, ⟨12, 1, .w1c, 0, 1, false⟩, ⟨16, 1, .w1c, 0, 1, false⟩, ⟨17, 1, .w1c, 0, 1, false⟩]⟩,
  -- GLB_ADMIN
  ⟨1536, 1, 8, 1, 8, 1, [⟨0, 8, .rwl, 0, 255, false⟩, ⟨8, 1, .w1s, 0, 1, false⟩, ⟨16, 16, .rc, 0, 0xffff, false⟩]⟩]
/-- Registers of the Glb block. -/
def regsGlb1 : List RegSpec := [
  -- GLB_ACCESS_LOG0
  ⟨1544, 1, 8, 1, 8, 0, [⟨0, 1, .w1c, 0, 1, false⟩, ⟨1, 2, .ro, 0, 3, false⟩, ⟨3, 11, .ro, 0, 2047, false⟩]⟩,
  -- GLB_ACCESS_LOG1
  ⟨1552, 1, 8, 1, 8, 0, [⟨0, 26, .ro, 0, 0x3ffffff, false⟩, ⟨26, 3, .ro, 0, 7, false⟩]⟩,
  -- BOOT_STATUS
  ⟨0x1000, 1, 8, 1, 8, 0, [⟨0, 4, .ro, 0, 15, false⟩, ⟨4, 2, .ro, 0, 3, false⟩, ⟨6, 2, .ro, 0, 3, false⟩, ⟨8, 1, .ro, 0, 1, false⟩, ⟨9, 3, .ro, 0, 7, false⟩, ⟨16, 8, .ro, 0, 255, false⟩, ⟨24, 4, .ro, 0, 15, false⟩, ⟨28, 4, .ro, 0, 15, false⟩, ⟨32, 6, .ro, 0, 63, false⟩, ⟨40, 6, .ro, 0, 63, false⟩]⟩,
  -- BOOT_RESET_CTRL
  ⟨0x1008, 1, 8, 1, 8, 0, [⟨0, 7, .rw, 0, 83, false⟩, ⟨7, 1, .wo, 0, 1, false⟩, ⟨8, 1, .wo, 0, 1, false⟩, ⟨9, 1, .ro, 0, 1, false⟩, ⟨10, 1, .wo, 0, 1, false⟩, ⟨48, 16, .wo, 0, 0xffff, false⟩]⟩,
  -- BOOT_SERIAL
  ⟨0x1010, 1, 8, 1, 8, 0, [⟨0, 64, .ro, 0, 0xffffffffffffffff, false⟩]⟩,
  -- BOOT_RELEASE
  ⟨0x1018, 1, 8, 1, 8, 0, [⟨0, 24, .ro, 0, 0xffffff, false⟩]⟩,
  -- BOOT_ID_PUBKEY
  ⟨0x1020, 13, 8, 1, 8, 0, [⟨0, 64, .ro, 0, 0xffffffffffffffff, false⟩]⟩,
  -- BOOT_FLASH_ADDR
  ⟨0x1100, 1, 8, 1, 8, 0, [⟨0, 25, .rw, 0, 0x1ffffff, false⟩]⟩,
  -- BOOT_FLASH_DATA
  ⟨0x1108, 1, 8, 1, 8, 0, [⟨0, 64, .rw, 0, 0xffffffffffffffff, false⟩]⟩,
  -- BOOT_FLASH_CMD
  ⟨0x1110, 1, 8, 1, 8, 0, [⟨0, 3, .wo, 0, 7, false⟩, ⟨3, 1, .ro, 0, 1, false⟩, ⟨8, 8, .ro, 0, 255, false⟩, ⟨16, 4, .ro, 0, 15, false⟩]⟩]
/-- All registers of the Glb block. -/
def regsGlb : List RegSpec := regsGlb0 ++ regsGlb1

/-- Registers of the Evt block. -/
def regsEvt0 : List RegSpec := [
  -- EVT_STATUS
  ⟨0x100000, 16, 8, 1, 8, 0, [⟨0, 64, .w1c, 0, 0xffffffffffffffff, false⟩]⟩,
  -- EVT_ACTIVE
  ⟨0x100080, 16, 8, 1, 8, 0, [⟨0, 64, .ro, 0, 0xffffffffffffffff, false⟩]⟩,
  -- EVT_SUMMARY
  ⟨0x100100, 1, 8, 1, 8, 0, [⟨0, 16, .ro, 0, 0xffff, false⟩, ⟨16, 1, .ro, 0, 1, false⟩, ⟨17, 1, .ro, 0, 1, false⟩, ⟨18, 1, .ro, 0, 1, false⟩]⟩,
  -- EVT_SRC_CFG
  ⟨0x101000, 1024, 8, 1, 8, 0, [⟨0, 1, .rwl, 0, 1, false⟩, ⟨1, 1, .rwl, 0, 1, false⟩, ⟨2, 1, .rwl, 0, 1, false⟩, ⟨3, 1, .rwl, 0, 1, false⟩, ⟨4, 1, .rwl, 0, 1, false⟩, ⟨5, 1, .rwl, 0, 1, false⟩, ⟨6, 1, .rwl, 0, 1, false⟩, ⟨7, 1, .rwl, 0, 1, false⟩, ⟨8, 3, .rwl, 0, 7, false⟩, ⟨12, 11, .rwl, 0, 2047, false⟩, ⟨24, 2, .ro, 0, 3, false⟩]⟩,
  -- FLT_CTRL
  ⟨0x100200, 1, 8, 1, 8, 0, [⟨0, 1, .w1s, 0, 1, false⟩, ⟨1, 1, .ro, 0, 1, false⟩, ⟨16, 16, .rc, 0, 0xffff, false⟩]⟩,
  -- FLT_INJECT
  ⟨0x100208, 1, 8, 1, 8, 0, [⟨0, 10, .rw, 0, 1023, false⟩, ⟨10, 1, .wo, 0, 1, false⟩, ⟨32, 32, .rw, 0, 0xffffffff, false⟩]⟩,
  -- FLT_ALIVE
  ⟨0x100210, 1, 8, 1, 8, 0, [⟨0, 1, .w1s, 0, 1, false⟩, ⟨1, 1, .ro, 0, 1, false⟩, ⟨2, 1, .w1c, 0, 1, false⟩]⟩,
  -- FLT_FIRST_LOG0
  ⟨0x100220, 1, 8, 1, 8, 0, [⟨0, 1, .w1c, 0, 1, false⟩, ⟨1, 1, .ro, 0, 1, false⟩, ⟨2, 2, .ro, 0, 3, false⟩, ⟨4, 10, .ro, 0, 1023, false⟩, ⟨32, 32, .ro, 0, 0xffffffff, false⟩]⟩,
  -- FLT_FIRST_LOG1
  ⟨0x100228, 1, 8, 1, 8, 0, [⟨0, 64, .ro, 0, 0xffffffffffffffff, false⟩]⟩,
  -- FLT_FATAL_LOG0
  ⟨0x100230, 1, 8, 1, 8, 0, [⟨0, 1, .w1c, 0, 1, false⟩, ⟨1, 1, .ro, 0, 1, false⟩, ⟨2, 2, .ro, 0, 3, false⟩, ⟨4, 10, .ro, 0, 1023, false⟩, ⟨32, 32, .ro, 0, 0xffffffff, false⟩]⟩,
  -- FLT_FATAL_LOG1
  ⟨0x100238, 1, 8, 1, 8, 0, [⟨0, 64, .ro, 0, 0xffffffffffffffff, false⟩]⟩,
  -- FLT_CLASS_COUNT
  ⟨0x100240, 1, 8, 1, 8, 0, [⟨0, 32, .rc, 0, 0xffffffff, false⟩, ⟨32, 16, .rc, 0, 0xffff, false⟩, ⟨48, 16, .rc, 0, 0xffff, false⟩]⟩]
/-- All registers of the Evt block. -/
def regsEvt : List RegSpec := regsEvt0

/-- Registers of the Lch block. -/
def regsLch0 : List RegSpec := [
  -- LCH_ENVELOPE
  ⟨0x200000, 1, 8, 1, 8, 0xa195014032002bc, [⟨0, 10, .rw, 700, 800, false⟩, ⟨16, 10, .rw, 700, 800, false⟩, ⟨32, 8, .rw, 0, 100, false⟩, ⟨40, 8, .rw, 0, 100, false⟩, ⟨48, 8, .rw, 0, 100, false⟩, ⟨56, 8, .rw, 1, 50, false⟩]⟩,
  -- LCH_PLAN
  ⟨0x200008, 1, 8, 1, 8, 800, [⟨0, 10, .ro, 0, 1023, false⟩, ⟨10, 8, .ro, 0, 255, false⟩, ⟨18, 1, .ro, 0, 1, false⟩, ⟨32, 10, .ro, 0, 1023, false⟩, ⟨48, 8, .ro, 0, 255, false⟩]⟩,
  -- LCH_MEASURE
  ⟨0x200010, 1, 8, 1, 8, 0, [⟨0, 16, .ro, 0, 0xffff, false⟩, ⟨16, 6, .ro, 0, 63, false⟩, ⟨32, 10, .ro, 0, 1023, false⟩, ⟨48, 8, .ro, 0, 255, false⟩]⟩,
  -- LCH_CTRL
  ⟨0x200018, 1, 8, 1, 8, 0x3c00, [⟨0, 1, .wo, 0, 1, false⟩, ⟨1, 1, .ro, 0, 1, false⟩, ⟨8, 8, .rw, 10, 200, false⟩, ⟨16, 16, .rc, 0, 0xffff, false⟩]⟩,
  -- LCH_RETIRE_CFG
  ⟨0x200020, 1, 8, 1, 8, 0x1e0004080c, [⟨0, 8, .rw, 1, 255, false⟩, ⟨8, 6, .rw, 1, 63, false⟩, ⟨16, 8, .rw, 1, 255, false⟩, ⟨32, 9, .rw, 1, 365, false⟩, ⟨41, 7, .ro, 0, 127, false⟩, ⟨48, 16, .rc, 0, 0xffff, false⟩]⟩,
  -- LCH_PROPOSAL
  ⟨0x200028, 1, 8, 1, 8, 0, [⟨0, 1, .ro, 0, 1, false⟩, ⟨1, 1, .ro, 0, 1, false⟩, ⟨8, 8, .ro, 0, 255, false⟩, ⟨16, 7, .ro, 0, 127, false⟩, ⟨23, 1, .ro, 0, 1, false⟩, ⟨24, 16, .ro, 0, 0xffff, false⟩, ⟨40, 16, .ro, 0, 0xffff, false⟩, ⟨56, 8, .ro, 0, 255, false⟩]⟩,
  -- LCH_PROPOSAL_CMD
  ⟨0x200030, 1, 8, 1, 8, 0, [⟨0, 8, .rw, 0, 255, false⟩, ⟨8, 1, .wo, 0, 1, false⟩, ⟨9, 1, .wo, 0, 1, false⟩]⟩,
  -- LCH_CALENDAR
  ⟨0x200038, 1, 8, 1, 8, 0, [⟨0, 40, .rw, 0, 0xffffffffff, false⟩, ⟨40, 1, .ro, 0, 1, false⟩, ⟨41, 1, .ro, 0, 1, false⟩]⟩,
  -- LCH_LIFE
  ⟨0x200040, 1, 8, 1, 8, 0, [⟨0, 24, .ro, 0, 0xffffff, false⟩, ⟨24, 24, .ro, 0, 0xffffff, false⟩, ⟨48, 16, .ro, 0, 0xffff, false⟩]⟩,
  -- LCH_THERMAL
  ⟨0x200048, 1, 8, 1, 8, 0x145f0000, [⟨0, 8, .ro, 0, 255, false⟩, ⟨8, 8, .rc, 0, 255, false⟩, ⟨16, 8, .rw, 60, 110, false⟩, ⟨24, 6, .rw, 5, 60, false⟩]⟩,
  -- LCH_LOG_STATUS
  ⟨0x200050, 1, 8, 1, 8, 0, [⟨0, 11, .ro, 0, 2047, false⟩, ⟨11, 7, .ro, 0, 127, false⟩, ⟨18, 14, .ro, 0, 0x3fff, false⟩, ⟨32, 32, .ro, 0, 0xffffffff, false⟩]⟩,
  -- LCH_VR_STATUS
  ⟨0x200058, 1, 8, 1, 8, 0, [⟨0, 10, .ro, 0, 1023, false⟩, ⟨10, 10, .ro, 0, 1023, false⟩, ⟨20, 1, .w1c, 0, 1, false⟩, ⟨21, 1, .w1c, 0, 1, false⟩, ⟨24, 8, .rc, 0, 255, false⟩]⟩]
/-- All registers of the Lch block. -/
def regsLch : List RegSpec := regsLch0

/-- Registers of the Tpt block. -/
def regsTpt0 : List RegSpec := [
  -- TPT_RETX
  ⟨0x400100, 1, 8, 1, 8, 0xa70014, [⟨0, 16, .rw, 1, 1000, false⟩, ⟨16, 3, .rw, 0, 7, false⟩, ⟨20, 10, .rw, 1, 1000, false⟩]⟩,
  -- TPT_RESULT_HOLD
  ⟨0x400108, 1, 8, 1, 8, 0x1770, [⟨0, 17, .rw, 1000, 0x186a0, false⟩]⟩,
  -- TPT_ACK
  ⟨0x400110, 1, 8, 1, 8, 10, [⟨0, 8, .rw, 0, 255, false⟩]⟩,
  -- TPT_SE_IDLE
  ⟨0x400118, 1, 8, 1, 8, 1000, [⟨0, 16, .rw, 10, 0xea60, false⟩]⟩,
  -- TPT_CTX_STATUS
  ⟨0x400180, 1, 8, 1, 8, 0, [⟨0, 16, .ro, 0, 0xffff, false⟩, ⟨16, 25, .ro, 0, 0x1ffffff, false⟩, ⟨41, 13, .ro, 0, 0x1fff, false⟩]⟩,
  -- TPT_VIOLATION
  ⟨0x400300, 1, 8, 1, 8, 0, [⟨0, 8, .rc, 0, 255, false⟩, ⟨8, 8, .rc, 0, 255, false⟩, ⟨16, 8, .rc, 0, 255, false⟩, ⟨24, 8, .rc, 0, 255, false⟩, ⟨32, 8, .rc, 0, 255, false⟩, ⟨40, 8, .rc, 0, 255, false⟩, ⟨48, 8, .rc, 0, 255, false⟩, ⟨56, 8, .rc, 0, 255, false⟩]⟩,
  -- TPT_MISS_STATUS
  ⟨0x400200, 8, 8, 1, 8, 0, [⟨0, 10, .ro, 0, 1023, false⟩, ⟨10, 10, .rc, 0, 1023, false⟩, ⟨20, 28, .rc, 0, 0xfffffff, false⟩]⟩]
/-- All registers of the Tpt block. -/
def regsTpt : List RegSpec := regsTpt0

/-- Registers of the Key block. -/
def regsKey0 : List RegSpec := [
  -- KEY_CACHE_STATUS
  ⟨0x800000, 1, 8, 1, 8, 0, [⟨0, 17, .ro, 0, 0x1ffff, false⟩, ⟨17, 17, .ro, 0, 0x1ffff, false⟩, ⟨34, 25, .ro, 0, 0x1ffffff, false⟩]⟩,
  -- KEY_DRAIN
  ⟨0x800008, 1, 8, 1, 8, 1000, [⟨0, 17, .rw, 10, 0x186a0, false⟩, ⟨17, 1, .ro, 0, 1, false⟩]⟩,
  -- KEY_PROT_LOG0
  ⟨0x800010, 1, 8, 1, 8, 0, [⟨0, 1, .w1c, 0, 1, false⟩, ⟨1, 4, .ro, 0, 15, false⟩, ⟨8, 8, .ro, 0, 255, false⟩, ⟨16, 20, .ro, 0, 0xfffff, false⟩]⟩,
  -- KEY_PROT_LOG1
  ⟨0x800018, 1, 8, 1, 8, 0, [⟨0, 32, .ro, 0, 0xffffffff, false⟩, ⟨32, 24, .ro, 0, 0xffffff, false⟩, ⟨56, 8, .ro, 0, 255, false⟩]⟩,
  -- KEY_PROT_COUNT
  ⟨0x800020, 1, 8, 1, 8, 0, [⟨0, 32, .rc, 0, 0xffffffff, false⟩]⟩,
  -- KEY_HOST_ATOMIC
  ⟨0x800028, 1, 8, 1, 8, 0x1000, [⟨0, 8, .rw, 0, 255, false⟩, ⟨8, 6, .rw, 1, 63, false⟩]⟩,
  -- KEY_CXL_MAP
  ⟨0x800100, 8, 8, 1, 8, 0, [⟨0, 1, .rw, 0, 1, false⟩, ⟨8, 8, .rw, 0, 127, false⟩, ⟨16, 8, .rw, 1, 128, false⟩]⟩]
/-- All registers of the Key block. -/
def regsKey : List RegSpec := regsKey0

/-- Registers of the Mch block. -/
def regsMch0 : List RegSpec := [
  -- MCH_CONFIG
  ⟨0xa00000, 1, 8, 1, 8, 0x200014, [⟨0, 5, .rw, 12, 22, false⟩, ⟨8, 15, .rw, 0, 0x4000, false⟩]⟩,
  -- MCH_UNEXP
  ⟨0xa00008, 1, 8, 1, 8, 0x400000, [⟨0, 26, .rw, 64, 0x2000000, false⟩, ⟨26, 1, .ro, 0, 1, false⟩]⟩,
  -- MCH_UNEXP_STATUS
  ⟨0xa00010, 1, 8, 1, 8, 0, [⟨0, 30, .ro, 0, 0x3fffffff, false⟩, ⟨30, 30, .rc, 0, 0x3fffffff, false⟩]⟩,
  -- MCH_POSTED_STATUS
  ⟨0xa00018, 1, 8, 1, 8, 0, [⟨0, 27, .ro, 0, 0x7ffffff, false⟩, ⟨27, 27, .ro, 0, 0x7ffffff, false⟩]⟩,
  -- MCH_RETRY
  ⟨0xa00020, 1, 8, 1, 8, 10, [⟨0, 8, .rw, 1, 255, false⟩, ⟨8, 22, .rw, 1, 0x36ee80, true⟩, ⟨32, 22, .rw, 1, 0x36ee80, true⟩]⟩,
  -- MCH_HANDLER
  ⟨0xa00028, 1, 8, 1, 8, 0x10004e20, [⟨0, 21, .rw, 256, 0x100000, false⟩, ⟨24, 7, .rw, 0, 64, false⟩]⟩,
  -- MCH_STATUS
  ⟨0xa00030, 1, 8, 1, 8, 0, [⟨0, 16, .rc, 0, 0xffff, false⟩, ⟨16, 16, .rc, 0, 0xffff, false⟩, ⟨32, 8, .rc, 0, 255, false⟩, ⟨40, 16, .rc, 0, 0xffff, false⟩]⟩]
/-- All registers of the Mch block. -/
def regsMch : List RegSpec := regsMch0

/-- Registers of the Swm block. -/
def regsSwm0 : List RegSpec := [
  -- SWM_CONFIG
  ⟨0xc00000, 1, 8, 1, 8, 0x10007630, [⟨0, 1, .rw, 0, 1, false⟩, ⟨4, 4, .rw, 0, 15, false⟩, ⟨8, 3, .rw, 0, 7, false⟩, ⟨12, 3, .rw, 0, 7, false⟩, ⟨16, 13, .rw, 1, 0x1000, false⟩]⟩,
  -- SWM_EPOCH
  ⟨0xc00008, 1, 8, 1, 8, 0x2710, [⟨0, 26, .rw, 100, 0x3938700, false⟩]⟩,
  -- SWM_STATUS
  ⟨0xc00010, 1, 8, 1, 8, 0, [⟨0, 13, .ro, 0, 0x1fff, false⟩, ⟨13, 18, .ro, 0, 0x3ffff, false⟩, ⟨31, 13, .rc, 0, 0x1fff, false⟩]⟩,
  -- SWM_FROND_CTRL
  ⟨0xc00020, 1, 8, 1, 8, 0, [⟨0, 16, .rw, 1, 0xffff, false⟩, ⟨16, 1, .wo, 0, 1, false⟩, ⟨17, 1, .wo, 0, 1, false⟩, ⟨18, 1, .ro, 0, 1, false⟩, ⟨20, 8, .ro, 0, 255, false⟩]⟩,
  -- SWM_FROND_STATE
  ⟨0xc00028, 1, 8, 1, 8, 0, [⟨0, 2, .ro, 0, 3, false⟩, ⟨8, 16, .ro, 0, 0xffff, false⟩, ⟨24, 4, .ro, 0, 15, false⟩]⟩,
  -- SWM_ABORT_LOG
  ⟨0xc00080, 1, 8, 1, 8, 0, [⟨0, 1, .w1c, 0, 1, false⟩, ⟨1, 4, .ro, 0, 15, false⟩, ⟨8, 16, .ro, 0, 0xffff, false⟩, ⟨24, 16, .ro, 0, 0xffff, false⟩, ⟨40, 7, .ro, 0, 127, false⟩]⟩,
  -- SWM_COUNT
  ⟨0xc00088, 1, 8, 1, 8, 0, [⟨0, 16, .rc, 0, 0xffff, false⟩, ⟨16, 16, .rc, 0, 0xffff, false⟩, ⟨32, 16, .rc, 0, 0xffff, false⟩, ⟨48, 16, .rc, 0, 0xffff, false⟩]⟩,
  -- SWM_FROND_DATA
  ⟨0xc00040, 8, 8, 1, 8, 0, [⟨0, 64, .rw, 0, 0xffffffffffffffff, false⟩]⟩]
/-- All registers of the Swm block. -/
def regsSwm : List RegSpec := regsSwm0

/-- Registers of the Rte block. RTE_SHAPE's WIDTH and LINKS are checked dimension by dimension: only an illegal dimension keeps its
value (R6; log entry 56). -/
def regsRte0 : List RegSpec := [
  -- RTE_MGMT
  ⟨0x1000008, 1, 8, 1, 8, 1280, [⟨0, 1, .ro, 0, 1, false⟩, ⟨1, 1, .ro, 0, 1, false⟩, ⟨2, 1, .wo, 0, 1, false⟩, ⟨8, 3, .rw, 0, 7, false⟩, ⟨16, 16, .rc, 0, 0xffff, false⟩]⟩,
  -- RTE_WAGGLE
  ⟨0x1000010, 1, 8, 1, 8, 0x44004, [⟨0, 6, .rw, 2, 32, false⟩, ⟨8, 10, .rw, 1, 1023, false⟩, ⟨18, 1, .rw, 0, 1, false⟩]⟩,
  -- RTE_THROTTLE
  ⟨0x1000018, 1, 8, 1, 8, 0x2000400, [⟨0, 13, .rw, 65, 0x1000, false⟩, ⟨16, 12, .rw, 0, 4095, false⟩, ⟨32, 16, .ro, 0, 0xffff, false⟩]⟩,
  -- RTE_COUNT
  ⟨0x1000020, 1, 8, 1, 8, 0, [⟨0, 16, .rc, 0, 0xffff, false⟩, ⟨16, 16, .rc, 0, 0xffff, false⟩, ⟨32, 8, .rc, 0, 255, false⟩, ⟨40, 8, .rc, 0, 255, false⟩, ⟨48, 8, .rc, 0, 255, false⟩, ⟨56, 8, .rc, 0, 255, false⟩]⟩,
  -- RTE_DETOURS
  ⟨0x1000028, 1, 8, 1, 8, 0, [⟨0, 32, .rc, 0, 0xffffffff, false⟩, ⟨32, 32, .rc, 0, 0xffffffff, false⟩]⟩,
  -- RTE_NOROUTE_LOG
  ⟨0x1000030, 1, 8, 1, 8, 0, [⟨0, 1, .w1c, 0, 1, false⟩, ⟨1, 1, .ro, 0, 1, false⟩, ⟨4, 3, .ro, 0, 7, false⟩, ⟨8, 7, .ro, 0, 127, false⟩, ⟨16, 20, .ro, 0, 0xfffff, false⟩, ⟨36, 4, .ro, 0, 15, false⟩]⟩,
  -- RTE_SWAP
  ⟨0x1000100, 1, 8, 1, 8, 0, [⟨0, 1, .wo, 0, 1, false⟩, ⟨1, 1, .rw, 0, 1, false⟩, ⟨2, 1, .ro, 0, 1, false⟩, ⟨3, 1, .ro, 0, 1, false⟩, ⟨4, 1, .wo, 0, 1, false⟩, ⟨8, 8, .ro, 0, 255, false⟩, ⟨16, 16, .ro, 0, 0xffff, false⟩, ⟨32, 32, .ro, 0, 0xffffffff, false⟩]⟩,
  -- RTE_SWAP_TIME
  ⟨0x1000108, 1, 8, 1, 8, 0, [⟨0, 64, .rw, 0, 0xffffffffffffffff, false⟩]⟩,
  -- RTE_SHAPE
  ⟨0x1001000, 1, 0x1000, 1, 8, 0x111104104100000, [⟨0, 20, .rw, 0, 0xfffff, false⟩, ⟨20, 6, .rw, 1, 32, false⟩, ⟨26, 6, .rw, 1, 32, false⟩, ⟨32, 6, .rw, 1, 32, false⟩, ⟨38, 6, .rw, 1, 32, false⟩, ⟨44, 4, .rw, 1, 8, false⟩, ⟨48, 4, .rw, 1, 8, false⟩, ⟨52, 4, .rw, 1, 8, false⟩, ⟨56, 4, .rw, 1, 8, false⟩]⟩,
  -- RTE_BASE
  ⟨0x1001008, 1, 0x1000, 1, 8, 0, [⟨0, 7, .rw, 0, 71, false⟩, ⟨8, 7, .rw, 0, 71, false⟩, ⟨16, 7, .rw, 0, 71, false⟩, ⟨24, 7, .rw, 0, 71, false⟩]⟩,
  -- RTE_ADAPT
  ⟨0x1001010, 1, 0x1000, 1, 8, 65, [⟨0, 2, .rw, 0, 3, false⟩, ⟨4, 4, .rw, 0, 15, false⟩]⟩,
  -- RTE_VL_MAP
  ⟨0x1001018, 1, 0x1000, 1, 8, 0x6db249492000, [⟨0, 24, .rw, 0, 0xffffff, false⟩, ⟨24, 24, .rw, 0, 0xffffff, false⟩]⟩]
/-- Registers of the Rte block. -/
def regsRte1 : List RegSpec := [
  -- RTE_INJ_MASK_LO
  ⟨0x1001020, 1, 0x1000, 1, 8, 0xffffffffffffffff, [⟨0, 64, .rw, 0, 0xffffffffffffffff, false⟩]⟩,
  -- RTE_INJ_MASK_HI
  ⟨0x1001028, 1, 0x1000, 1, 8, 255, [⟨0, 8, .rw, 0, 255, false⟩]⟩,
  -- RTE_TURN_LO
  ⟨0x1001100, 1, 0x1000, 72, 16, 0xffffffffffffffff, [⟨0, 64, .rw, 0, 0xffffffffffffffff, false⟩]⟩,
  -- RTE_TURN_HI
  ⟨0x1001108, 1, 0x1000, 72, 16, 255, [⟨0, 8, .rw, 0, 255, false⟩]⟩,
  -- RTE_PARTNER
  ⟨0x1001600, 1, 0x1000, 72, 8, 0, [⟨0, 7, .rw, 0, 71, false⟩, ⟨7, 1, .rw, 0, 1, false⟩, ⟨8, 1, .ro, 0, 1, false⟩]⟩,
  -- RTEA_SHAPE
  ⟨0x1002000, 1, 0x1000, 1, 8, 0x111104104100000, [⟨0, 20, .ro, 0, 0xfffff, false⟩, ⟨20, 6, .ro, 1, 32, false⟩, ⟨26, 6, .ro, 1, 32, false⟩, ⟨32, 6, .ro, 1, 32, false⟩, ⟨38, 6, .ro, 1, 32, false⟩, ⟨44, 4, .ro, 1, 8, false⟩, ⟨48, 4, .ro, 1, 8, false⟩, ⟨52, 4, .ro, 1, 8, false⟩, ⟨56, 4, .ro, 1, 8, false⟩]⟩,
  -- RTEA_BASE
  ⟨0x1002008, 1, 0x1000, 1, 8, 0, [⟨0, 7, .ro, 0, 71, false⟩, ⟨8, 7, .ro, 0, 71, false⟩, ⟨16, 7, .ro, 0, 71, false⟩, ⟨24, 7, .ro, 0, 71, false⟩]⟩,
  -- RTEA_ADAPT
  ⟨0x1002010, 1, 0x1000, 1, 8, 65, [⟨0, 2, .ro, 0, 3, false⟩, ⟨4, 4, .ro, 0, 15, false⟩]⟩,
  -- RTEA_VL_MAP
  ⟨0x1002018, 1, 0x1000, 1, 8, 0x6db249492000, [⟨0, 24, .ro, 0, 0xffffff, false⟩, ⟨24, 24, .ro, 0, 0xffffff, false⟩]⟩,
  -- RTEA_INJ_MASK_LO
  ⟨0x1002020, 1, 0x1000, 1, 8, 0xffffffffffffffff, [⟨0, 64, .ro, 0, 0xffffffffffffffff, false⟩]⟩,
  -- RTEA_INJ_MASK_HI
  ⟨0x1002028, 1, 0x1000, 1, 8, 255, [⟨0, 8, .ro, 0, 255, false⟩]⟩,
  -- RTEA_TURN_LO
  ⟨0x1002100, 1, 0x1000, 72, 16, 0xffffffffffffffff, [⟨0, 64, .ro, 0, 0xffffffffffffffff, false⟩]⟩]
/-- Registers of the Rte block. -/
def regsRte2 : List RegSpec := [
  -- RTEA_TURN_HI
  ⟨0x1002108, 1, 0x1000, 72, 16, 255, [⟨0, 8, .ro, 0, 255, false⟩]⟩,
  -- RTEA_PARTNER
  ⟨0x1002600, 1, 0x1000, 72, 8, 0, [⟨0, 7, .ro, 0, 71, false⟩, ⟨7, 1, .ro, 0, 1, false⟩, ⟨8, 1, .ro, 0, 1, false⟩]⟩,
  -- RTE_FUNC_EID
  ⟨0x1004000, 2048, 8, 1, 8, 0, [⟨0, 20, .ro, 0, 0xfffff, false⟩, ⟨20, 1, .ro, 0, 1, false⟩]⟩,
  -- RTE_EID_WORD
  ⟨0x1400000, 0x80000, 8, 1, 8, 0, [⟨0, 20, .rw, 0, 0xfffff, false⟩, ⟨20, 3, .rw, 0, 7, false⟩, ⟨24, 4, .rw, 0, 15, false⟩, ⟨31, 1, .rw, 0, 1, false⟩,
    ⟨32, 20, .rw, 0, 0xfffff, false⟩, ⟨52, 3, .rw, 0, 7, false⟩, ⟨56, 4, .rw, 0, 15, false⟩, ⟨63, 1, .rw, 0, 1, false⟩]⟩]
/-- All registers of the Rte block. -/
def regsRte : List RegSpec := regsRte0 ++ regsRte1 ++ regsRte2

/-- Registers of the Lnk block. -/
def regsLnk0 : List RegSpec := [
  -- LNK_CFG
  ⟨0x2000000, 72, 0x10000, 1, 8, 0xa0003e80b, [⟨0, 1, .rw, 0, 1, false⟩, ⟨1, 1, .rw, 0, 1, false⟩, ⟨2, 2, .rw, 1, 2, false⟩, ⟨8, 14, .rw, 10, 0x2710, false⟩, ⟨32, 10, .rw, 1, 1000, false⟩]⟩,
  -- LNK_VL_CELLS_LO
  ⟨0x2000008, 72, 0x10000, 1, 8, 0x200020002000200, [⟨0, 13, .rw, 65, 3641, false⟩, ⟨16, 13, .rw, 65, 3641, false⟩, ⟨32, 13, .rw, 65, 3641, false⟩, ⟨48, 13, .rw, 65, 3641, false⟩]⟩,
  -- LNK_VL_CELLS_HI
  ⟨0x2000010, 72, 0x10000, 1, 8, 0x200020002000200, [⟨0, 13, .rw, 65, 3641, false⟩, ⟨16, 13, .rw, 65, 3641, false⟩, ⟨32, 13, .rw, 65, 3641, false⟩, ⟨48, 13, .rw, 65, 3641, false⟩]⟩,
  -- LNK_TIMERS
  ⟨0x2000018, 72, 0x10000, 1, 8, 0xa00c805, [⟨0, 7, .rw, 1, 100, false⟩, ⟨8, 14, .rw, 10, 0x2710, false⟩, ⟨24, 10, .rw, 1, 1000, false⟩]⟩,
  -- LNK_DOWN
  ⟨0x2000020, 72, 0x10000, 1, 8, 0x20003208003e8, [⟨0, 17, .rw, 10, 0x186a0, false⟩, ⟨17, 10, .rw, 1, 1023, false⟩, ⟨27, 14, .rw, 1, 0x2710, false⟩, ⟨41, 10, .rw, 1, 1023, false⟩]⟩,
  -- LNK_STATUS
  ⟨0x2000028, 72, 0x10000, 1, 8, 0, [⟨0, 3, .ro, 0, 7, false⟩, ⟨3, 2, .ro, 0, 3, false⟩, ⟨5, 1, .ro, 0, 1, false⟩, ⟨6, 1, .ro, 0, 1, false⟩, ⟨8, 7, .ro, 0, 127, false⟩, ⟨16, 20, .ro, 0, 0xfffff, false⟩, ⟨36, 4, .ro, 0, 15, false⟩, ⟨40, 1, .w1c, 0, 1, false⟩]⟩,
  -- LNK_FAR_SERIAL
  ⟨0x2000030, 72, 0x10000, 1, 8, 0, [⟨0, 64, .ro, 0, 0xffffffffffffffff, false⟩]⟩,
  -- LNK_LEDGER
  ⟨0x2000038, 72, 0x10000, 1, 8, 0xffffff000000, [⟨0, 24, .ro, 0, 0xffffff, false⟩, ⟨24, 24, .ro, 0, 0xffffff, false⟩, ⟨48, 11, .ro, 0, 2047, false⟩]⟩,
  -- LNK_RX
  ⟨0x2000040, 72, 0x10000, 1, 8, 0x1000000, [⟨0, 24, .ro, 0, 0xffffff, false⟩, ⟨24, 1, .ro, 0, 1, false⟩]⟩,
  -- LNK_ERR
  ⟨0x2000058, 72, 0x10000, 1, 8, 0, [⟨0, 16, .rc, 0, 0xffff, false⟩, ⟨16, 16, .rc, 0, 0xffff, false⟩, ⟨32, 16, .rc, 0, 0xffff, false⟩, ⟨48, 8, .rc, 0, 255, false⟩, ⟨56, 8, .rc, 0, 255, false⟩]⟩,
  -- LNK_LEAK
  ⟨0x2000060, 72, 0x10000, 1, 8, 0, [⟨0, 32, .rc, 0, 0xffffffff, false⟩, ⟨32, 16, .rc, 0, 0xffff, false⟩]⟩,
  -- LNK_FAILOVER
  ⟨0x2000068, 72, 0x10000, 1, 8, 0, [⟨0, 16, .rc, 0, 0xffff, false⟩, ⟨16, 16, .rc, 0, 0xffff, false⟩, ⟨32, 8, .rc, 0, 255, false⟩, ⟨40, 8, .rc, 0, 255, false⟩]⟩]
/-- Registers of the Lnk block. -/
def regsLnk1 : List RegSpec := [
  -- LNK_VIOL
  ⟨0x2000070, 72, 0x10000, 1, 8, 0, [⟨0, 1, .w1c, 0, 1, false⟩, ⟨1, 4, .ro, 0, 15, false⟩, ⟨32, 16, .rc, 0, 0xffff, false⟩]⟩,
  -- LNK_EXER_CFG
  ⟨0x2000100, 72, 0x10000, 1, 8, 0x10000000000, [⟨0, 1, .rw, 0, 1, false⟩, ⟨8, 6, .rw, 4, 32, true⟩, ⟨16, 6, .rw, 4, 32, true⟩, ⟨24, 6, .rw, 4, 32, true⟩, ⟨32, 6, .rw, 4, 32, true⟩, ⟨40, 4, .rw, 1, 8, false⟩, ⟨48, 8, .ro, 0, 255, false⟩]⟩,
  -- LNK_EXER_SCHED
  ⟨0x2000108, 72, 0x10000, 1, 8, 0x3e8003e8, [⟨0, 20, .rw, 1, 0xf4240, false⟩, ⟨20, 20, .rw, 1, 0xf4240, false⟩]⟩,
  -- LNK_EXER_SEED
  ⟨0x2000110, 72, 0x10000, 1, 8, 1, [⟨0, 32, .rw, 1, 0xffffffff, false⟩]⟩,
  -- LNK_EXER_COUNT
  ⟨0x2000118, 72, 0x10000, 1, 8, 0, [⟨0, 16, .rc, 0, 0xffff, false⟩, ⟨16, 16, .rc, 0, 0xffff, false⟩, ⟨32, 16, .rc, 0, 0xffff, false⟩, ⟨48, 16, .rc, 0, 0xffff, false⟩]⟩,
  -- LNK_AVAIL_LO
  ⟨0x2000048, 72, 0x10000, 1, 8, 0, [⟨0, 16, .ro, 0, 0xffff, false⟩, ⟨16, 16, .ro, 0, 0xffff, false⟩, ⟨32, 16, .ro, 0, 0xffff, false⟩, ⟨48, 16, .ro, 0, 0xffff, false⟩]⟩,
  -- LNK_AVAIL_HI
  ⟨0x2000050, 72, 0x10000, 1, 8, 0, [⟨0, 16, .ro, 0, 0xffff, false⟩, ⟨16, 16, .ro, 0, 0xffff, false⟩, ⟨32, 16, .ro, 0, 0xffff, false⟩, ⟨48, 16, .ro, 0, 0xffff, false⟩]⟩,
  -- LNK_VIOL_CAPTURE
  ⟨0x2000078, 72, 0x10000, 4, 8, 0, [⟨0, 64, .ro, 0, 0xffffffffffffffff, false⟩]⟩]
/-- All registers of the Lnk block. -/
def regsLnk : List RegSpec := regsLnk0 ++ regsLnk1

/-- Registers of the Lan block. -/
def regsLan0 : List RegSpec := [
  -- LAN_EQ_STATUS
  ⟨0x2800000, 1, 8, 1, 8, 0, [⟨0, 1, .ro, 0, 1, false⟩, ⟨1, 3, .ro, 0, 7, false⟩, ⟨8, 8, .ro, 0, 255, false⟩, ⟨16, 6, .ro, 0, 63, false⟩, ⟨24, 8, .ro, 0, 255, false⟩]⟩,
  -- LAN_PORT_CFG
  ⟨0x2810000, 72, 0x1000, 1, 8, 0, [⟨0, 2, .rw, 0, 2, false⟩, ⟨2, 2, .ro, 0, 3, false⟩, ⟨4, 2, .rw, 0, 3, false⟩, ⟨6, 2, .rw, 0, 3, false⟩, ⟨8, 1, .rw, 0, 1, false⟩, ⟨9, 2, .rw, 0, 3, false⟩]⟩,
  -- LAN_PORT_STATUS
  ⟨0x2810008, 72, 0x1000, 1, 8, 0, [⟨0, 1, .ro, 0, 1, false⟩, ⟨1, 1, .w1c, 0, 1, false⟩, ⟨2, 1, .ro, 0, 1, false⟩, ⟨3, 1, .ro, 0, 1, false⟩, ⟨4, 7, .ro, 0, 127, false⟩, ⟨12, 3, .ro, 0, 7, false⟩, ⟨15, 1, .w1c, 0, 1, false⟩]⟩,
  -- LAN_EQ
  ⟨0x2810100, 72, 0x1000, 2, 128, 0, [⟨0, 4, .rw, 0, 15, false⟩, ⟨4, 8, .rw, 0, 255, false⟩, ⟨12, 8, .rw, 0, 255, false⟩, ⟨20, 8, .rw, 0, 255, false⟩, ⟨28, 5, .rw, 0, 31, false⟩, ⟨33, 5, .rw, 0, 31, false⟩, ⟨38, 7, .rw, 0, 127, false⟩, ⟨45, 6, .rw, 0, 63, false⟩, ⟨51, 5, .rw, 0, 31, false⟩, ⟨56, 5, .rw, 0, 31, false⟩]⟩,
  -- LAN_LANE_STATUS
  ⟨0x2810108, 72, 0x1000, 2, 128, 0, [⟨0, 1, .ro, 0, 1, false⟩, ⟨1, 1, .ro, 0, 1, false⟩, ⟨2, 1, .ro, 0, 1, false⟩, ⟨3, 1, .w1c, 0, 1, false⟩, ⟨4, 1, .ro, 0, 1, false⟩, ⟨5, 1, .ro, 0, 1, false⟩, ⟨8, 8, .ro, 0, 255, false⟩, ⟨16, 6, .ro, 0, 63, false⟩]⟩,
  -- LAN_LANE_ERR
  ⟨0x2810110, 72, 0x1000, 2, 128, 0, [⟨0, 16, .rc, 0, 0xffff, false⟩, ⟨16, 16, .rc, 0, 0xffff, false⟩, ⟨32, 8, .rc, 0, 255, false⟩, ⟨40, 8, .rc, 0, 255, false⟩]⟩,
  -- LAN_PAT_CFG
  ⟨0x2810118, 72, 0x1000, 2, 128, 512, [⟨0, 3, .rw, 0, 4, false⟩, ⟨4, 3, .rw, 0, 4, false⟩, ⟨8, 1, .wo, 0, 1, false⟩, ⟨9, 7, .rw, 1, 64, false⟩, ⟨16, 32, .rw, 0, 0xffffffff, false⟩]⟩,
  -- LAN_PAT_USER
  ⟨0x2810120, 72, 0x1000, 2, 128, 0, [⟨0, 64, .rw, 0, 0xffffffffffffffff, false⟩]⟩,
  -- LAN_PAT_STATUS
  ⟨0x2810128, 72, 0x1000, 2, 128, 0, [⟨0, 1, .ro, 0, 1, false⟩, ⟨1, 1, .w1c, 0, 1, false⟩, ⟨8, 40, .rc, 0, 0xffffffffff, false⟩]⟩,
  -- LAN_PAT_BITS
  ⟨0x2810130, 72, 0x1000, 2, 128, 0, [⟨0, 48, .rc, 0, 0xffffffffffff, false⟩]⟩]
/-- All registers of the Lan block. -/
def regsLan : List RegSpec := regsLan0

/-- Registers of the Fgr block. -/
def regsFgr0 : List RegSpec := [
  -- FGR_HIVE_STATUS
  ⟨0x3000000, 8, 8, 1, 8, 0, [⟨0, 8, .ro, 0, 255, false⟩, ⟨8, 7, .ro, 0, 127, false⟩, ⟨16, 8, .ro, 0, 255, false⟩, ⟨24, 8, .ro, 0, 255, false⟩]⟩,
  -- FGR_HANDLER_POLICY
  ⟨0x3000100, 1, 8, 1, 8, 0, [⟨0, 1, .rwl, 0, 1, false⟩, ⟨1, 1, .w1s, 0, 1, false⟩]⟩,
  -- FGR_SITE_KEY_HASH
  ⟨0x3000108, 6, 8, 1, 8, 0, [⟨0, 64, .rwl, 0, 0xffffffffffffffff, false⟩]⟩,
  -- FGR_HTRAP_LOG0
  ⟨0x3000140, 1, 8, 1, 8, 0, [⟨0, 1, .w1c, 0, 1, false⟩, ⟨1, 4, .ro, 0, 15, false⟩, ⟨8, 16, .ro, 0, 0xffff, false⟩, ⟨24, 24, .ro, 0, 0xffffff, false⟩, ⟨48, 16, .ro, 0, 0xffff, false⟩]⟩,
  -- FGR_HTRAP_LOG1
  ⟨0x3000148, 1, 8, 1, 8, 0, [⟨0, 32, .ro, 0, 0xffffffff, false⟩, ⟨32, 32, .ro, 0, 0xffffffff, false⟩]⟩,
  -- FGR_HTRAP_LOG2
  ⟨0x3000150, 1, 8, 1, 8, 0, [⟨0, 64, .ro, 0, 0xffffffffffffffff, false⟩]⟩,
  -- FGR_FW_TRAP_LOG0
  ⟨0x3000180, 1, 8, 1, 8, 0, [⟨0, 1, .w1c, 0, 1, false⟩, ⟨1, 4, .ro, 0, 15, false⟩, ⟨8, 16, .ro, 0, 0xffff, false⟩, ⟨24, 24, .ro, 0, 0xffffff, false⟩, ⟨48, 16, .ro, 0, 0xffff, false⟩]⟩,
  -- FGR_FW_TRAP_LOG1
  ⟨0x3000188, 1, 8, 1, 8, 0, [⟨0, 32, .ro, 0, 0xffffffff, false⟩, ⟨32, 32, .ro, 0, 0xffffffff, false⟩]⟩,
  -- FGR_FW_TRAP_LOG2
  ⟨0x3000190, 1, 8, 1, 8, 0, [⟨0, 64, .ro, 0, 0xffffffffffffffff, false⟩]⟩,
  -- FGR_HCOUNT
  ⟨0x3000200, 1, 8, 1, 8, 0, [⟨0, 32, .rc, 0, 0xffffffff, false⟩, ⟨32, 16, .rc, 0, 0xffff, false⟩, ⟨48, 16, .rc, 0, 0xffff, false⟩]⟩]
/-- All registers of the Fgr block. -/
def regsFgr : List RegSpec := regsFgr0

/-- Registers of the Xlt block. -/
def regsXlt0 : List RegSpec := [
  -- XLT_CFG
  ⟨0x3400000, 1, 8, 1, 8, 0x900064, [⟨0, 17, .rw, 1, 0x186a0, false⟩, ⟨17, 6, .rw, 1, 63, false⟩, ⟨23, 1, .rw, 0, 1, false⟩]⟩,
  -- XLT_CACHE_STATUS
  ⟨0x3400008, 1, 8, 1, 8, 0, [⟨0, 16, .ro, 0, 0xffff, false⟩, ⟨16, 13, .ro, 0, 0x1fff, false⟩]⟩,
  -- XLT_FAULT_LOG0
  ⟨0x3400010, 1, 8, 1, 8, 0, [⟨0, 1, .w1c, 0, 1, false⟩, ⟨1, 1, .ro, 0, 1, false⟩, ⟨8, 8, .ro, 0, 255, false⟩, ⟨16, 8, .ro, 0, 255, false⟩, ⟨24, 3, .ro, 0, 7, false⟩, ⟨28, 11, .ro, 0, 2047, false⟩]⟩,
  -- XLT_FAULT_LOG1
  ⟨0x3400018, 1, 8, 1, 8, 0, [⟨0, 57, .ro, 0, 0x1ffffffffffffff, false⟩]⟩,
  -- XLT_FAULT_LOG2
  ⟨0x3400020, 1, 8, 1, 8, 0, [⟨0, 64, .ro, 0, 0xffffffffffffffff, false⟩]⟩,
  -- XLT_COUNT
  ⟨0x3400028, 1, 8, 1, 8, 0, [⟨0, 32, .rc, 0, 0xffffffff, false⟩, ⟨32, 16, .rc, 0, 0xffff, false⟩, ⟨48, 16, .rc, 0, 0xffff, false⟩]⟩,
  -- XLT_CTX
  ⟨0x3401000, 2048, 8, 1, 8, 0, [⟨0, 1, .rw, 0, 1, false⟩, ⟨1, 1, .rw, 0, 1, false⟩, ⟨12, 46, .rw, 0, 0x3fffffffffff, false⟩]⟩]
/-- All registers of the Xlt block. -/
def regsXlt : List RegSpec := regsXlt0

/-- Registers of the Ord block. -/
def regsOrd0 : List RegSpec := [
  -- ORD_RAT_BASE
  ⟨0x3600000, 64, 32, 1, 8, 0, [⟨12, 52, .rw, 0, 0xfffffffffffff, false⟩]⟩,
  -- ORD_RAT_LIMIT
  ⟨0x3600008, 64, 32, 1, 8, 0, [⟨12, 52, .rw, 0, 0xfffffffffffff, false⟩]⟩,
  -- ORD_RAT_ATTR
  ⟨0x3600010, 64, 32, 1, 8, 0x320000, [⟨0, 1, .rw, 0, 1, false⟩, ⟨1, 1, .rw, 0, 1, false⟩, ⟨2, 1, .rw, 0, 1, false⟩, ⟨4, 4, .rw, 0, 8, false⟩, ⟨16, 17, .rw, 1, 0x186a0, false⟩]⟩,
  -- ORD_TIMEOUT_LOG0
  ⟨0x3600800, 1, 8, 1, 8, 0, [⟨0, 1, .w1c, 0, 1, false⟩, ⟨1, 1, .ro, 0, 1, false⟩, ⟨2, 1, .ro, 0, 1, false⟩, ⟨3, 1, .ro, 0, 1, false⟩, ⟨4, 4, .ro, 0, 15, false⟩, ⟨8, 16, .ro, 0, 0xffff, false⟩]⟩,
  -- ORD_TIMEOUT_LOG1
  ⟨0x3600808, 1, 8, 1, 8, 0, [⟨0, 64, .ro, 0, 0xffffffffffffffff, false⟩]⟩,
  -- ORD_COUNT
  ⟨0x3600810, 1, 8, 1, 8, 0, [⟨0, 32, .rc, 0, 0xffffffff, false⟩, ⟨32, 32, .rc, 0, 0xffffffff, false⟩]⟩,
  -- LCK_GROUP_A
  ⟨0x3601000, 64, 16, 1, 8, 255, [⟨0, 8, .rw, 0, 255, false⟩, ⟨8, 1, .rw, 0, 1, false⟩, ⟨9, 1, .rw, 0, 1, false⟩, ⟨16, 11, .rw, 0, 2047, false⟩, ⟨32, 11, .rw, 0, 2047, false⟩]⟩,
  -- LCK_GROUP_B
  ⟨0x3601008, 64, 16, 1, 8, 0, [⟨0, 16, .rw, 0, 0xffff, false⟩, ⟨16, 16, .rw, 0, 0xffff, false⟩]⟩,
  -- LCK_ORPHAN
  ⟨0x3601400, 64, 8, 1, 8, 0, [⟨0, 64, .w1c, 0, 0xffffffffffffffff, false⟩]⟩,
  -- LCK_FORCE
  ⟨0x3601600, 1, 8, 1, 8, 0, [⟨0, 12, .rw, 0, 4095, false⟩, ⟨12, 1, .wo, 0, 1, false⟩]⟩,
  -- LCK_COMPAT_FORCE
  ⟨0x3601608, 1, 8, 1, 8, 0, [⟨0, 37, .wo, 0, 0x1fffffffff, false⟩]⟩,
  -- LCK_FORCE_LOG0
  ⟨0x3601610, 1, 8, 1, 8, 0, [⟨0, 1, .w1c, 0, 1, false⟩, ⟨1, 1, .ro, 0, 1, false⟩, ⟨8, 16, .ro, 0, 0xffff, false⟩, ⟨24, 32, .ro, 0, 0xffffffff, false⟩]⟩]
/-- Registers of the Ord block. -/
def regsOrd1 : List RegSpec := [
  -- LCK_FORCE_LOG1
  ⟨0x3601618, 1, 8, 1, 8, 0, [⟨0, 37, .ro, 0, 0x1fffffffff, false⟩, ⟨48, 12, .ro, 0, 4095, false⟩]⟩,
  -- LCK_STATUS
  ⟨0x3601620, 1, 8, 1, 8, 0, [⟨0, 16, .rc, 0, 0xffff, false⟩, ⟨16, 16, .rc, 0, 0xffff, false⟩, ⟨32, 16, .rc, 0, 0xffff, false⟩, ⟨48, 16, .rc, 0, 0xffff, false⟩]⟩,
  -- LCK_COMPAT_BASE
  ⟨0x3601700, 8, 16, 1, 8, 0, [⟨0, 1, .rw, 0, 1, false⟩, ⟨12, 25, .rw, 0, 0x1ffffff, false⟩]⟩,
  -- LCK_WORD
  ⟨0x3610000, 0x1000, 8, 1, 8, 0xfff0000, [⟨0, 16, .rw, 0, 0xffff, false⟩, ⟨16, 12, .ro, 0, 4095, false⟩]⟩,
  -- LCK_COMPAT_LIMIT
  ⟨0x3601708, 8, 16, 1, 8, 0, [⟨12, 25, .rw, 0, 0x1ffffff, false⟩]⟩]
/-- All registers of the Ord block. -/
def regsOrd : List RegSpec := regsOrd0 ++ regsOrd1

/-- Registers of the Sch block. -/
def regsSch0 : List RegSpec := [
  -- SCH_TIME_CFG
  ⟨0x3800000, 1, 8, 1, 8, 0x7d0050000, [⟨0, 2, .rw, 0, 2, false⟩, ⟨8, 7, .rw, 0, 71, false⟩, ⟨15, 10, .rw, 1, 1000, false⟩, ⟨25, 20, .rw, 100, 0xf4240, false⟩]⟩,
  -- SCH_TIME_STATUS
  ⟨0x3800008, 1, 8, 1, 8, 0, [⟨0, 1, .ro, 0, 1, false⟩, ⟨1, 1, .w1c, 0, 1, false⟩, ⟨2, 1, .w1c, 0, 1, false⟩, ⟨8, 8, .rc, 0, 255, false⟩, ⟨32, 32, .ro, 0, 0xffffffff, false⟩]⟩,
  -- SCH_TIME_NOW
  ⟨0x3800010, 1, 8, 1, 8, 0, [⟨0, 64, .ro, 0, 0xffffffffffffffff, false⟩]⟩,
  -- SCH_PULSE_CFG
  ⟨0x3800018, 1, 8, 1, 8, 0, [⟨0, 1, .rw, 0, 1, false⟩, ⟨1, 1, .rw, 0, 1, false⟩, ⟨8, 7, .rw, 0, 71, false⟩, ⟨16, 3, .rw, 0, 7, false⟩, ⟨24, 8, .ro, 0, 255, false⟩]⟩,
  -- SCH_POLICE_COUNT
  ⟨0x3800020, 1, 8, 1, 8, 0, [⟨0, 16, .rc, 0, 0xffff, false⟩, ⟨16, 16, .rc, 0, 0xffff, false⟩, ⟨32, 16, .rc, 0, 0xffff, false⟩, ⟨48, 16, .rc, 0, 0xffff, false⟩]⟩,
  -- SCH_ARB_SEED
  ⟨0x3800028, 1, 8, 1, 8, 0xace1, [⟨0, 32, .rw, 1, 0xffffffff, false⟩]⟩,
  -- SCH_EG_GROUP
  ⟨0x3900000, 72, 0x2000, 1, 8, 0, [⟨0, 2, .rw, 0, 3, false⟩, ⟨2, 2, .rw, 0, 3, false⟩, ⟨4, 2, .rw, 0, 3, false⟩, ⟨6, 2, .rw, 0, 3, false⟩, ⟨8, 2, .rw, 0, 3, false⟩, ⟨10, 2, .rw, 0, 3, false⟩, ⟨12, 2, .rw, 0, 3, false⟩, ⟨14, 2, .rw, 0, 3, false⟩]⟩,
  -- SCH_EG_QUANTUM_LO
  ⟨0x3900008, 72, 0x2000, 1, 8, 0x41004100410041, [⟨0, 13, .rw, 1, 0x1000, false⟩, ⟨16, 13, .rw, 1, 0x1000, false⟩, ⟨32, 13, .rw, 1, 0x1000, false⟩, ⟨48, 13, .rw, 1, 0x1000, false⟩]⟩,
  -- SCH_EG_QUANTUM_HI
  ⟨0x3900010, 72, 0x2000, 1, 8, 0x41004100410041, [⟨0, 13, .rw, 1, 0x1000, false⟩, ⟨16, 13, .rw, 1, 0x1000, false⟩, ⟨32, 13, .rw, 1, 0x1000, false⟩, ⟨48, 13, .rw, 1, 0x1000, false⟩]⟩,
  -- SCH_EG_DISCARD
  ⟨0x3900018, 72, 0x2000, 1, 8, 0, [⟨0, 13, .rw, 65, 0x1000, true⟩, ⟨16, 13, .rw, 65, 0x1000, true⟩, ⟨32, 16, .rc, 0, 0xffff, false⟩, ⟨48, 16, .rc, 0, 0xffff, false⟩]⟩,
  -- SCH_GATE_CTRL
  ⟨0x3900028, 72, 0x2000, 1, 8, 0x510000, [⟨0, 1, .rw, 0, 1, false⟩, ⟨1, 1, .wo, 0, 1, false⟩, ⟨2, 1, .ro, 0, 1, false⟩, ⟨8, 8, .ro, 0, 255, false⟩, ⟨16, 14, .rw, 0, 0x2710, false⟩]⟩,
  -- SCH_GATE_CYCLE
  ⟨0x3900030, 72, 0x2000, 1, 8, 0xf4240, [⟨0, 30, .rw, 1000, 0x3b9aca00, false⟩, ⟨32, 8, .rw, 0, 255, false⟩]⟩]
/-- Registers of the Sch block. -/
def regsSch1 : List RegSpec := [
  -- SCH_GATE_BASE
  ⟨0x3900038, 72, 0x2000, 1, 8, 0, [⟨0, 64, .rw, 0, 0xffffffffffffffff, false⟩]⟩,
  -- SCH_GATE_STATUS
  ⟨0x3900040, 72, 0x2000, 1, 8, 0, [⟨0, 8, .ro, 0, 255, false⟩, ⟨8, 1, .ro, 0, 1, false⟩, ⟨16, 16, .rc, 0, 0xffff, false⟩]⟩,
  -- SCH_TIME_ASYM
  ⟨0x3900020, 72, 0x2000, 1, 8, 0, [⟨0, 16, .rw, 0, 0xffff, false⟩]⟩,
  -- SCH_GATE_ADMIN
  ⟨0x3900400, 72, 0x2000, 256, 8, 0xf4240ff, [⟨0, 8, .rw, 0, 255, false⟩, ⟨8, 30, .rw, 1, 0x3b9aca00, false⟩]⟩,
  -- SCH_GATE_OPER
  ⟨0x3900c00, 72, 0x2000, 256, 8, 0xf4240ff, [⟨0, 8, .ro, 0, 255, false⟩, ⟨8, 30, .ro, 1, 0x3b9aca00, false⟩]⟩,
  -- SCH_ARB_REQ
  ⟨0x3808000, 22, 256, 21, 8, 16, [⟨0, 8, .rw, 0, 255, false⟩, ⟨8, 2, .rw, 0, 3, false⟩, ⟨16, 16, .rc, 0, 0xffff, false⟩]⟩,
  -- SCH_ARB_CFG
  ⟨0x38080f0, 22, 256, 1, 8, 2048, [⟨0, 1, .rw, 0, 1, false⟩, ⟨8, 7, .rw, 2, 64, false⟩, ⟨16, 16, .rc, 0, 0xffff, false⟩]⟩]
/-- All registers of the Sch block. -/
def regsSch : List RegSpec := regsSch0 ++ regsSch1

/-- Registers of the Ctr block. -/
def regsCtr0 : List RegSpec := [
  -- CTR_COUNT
  ⟨0x3c00000, 512, 8, 1, 8, 0, [⟨0, 48, .rw, 0, 0xffffffffffff, false⟩, ⟨48, 1, .w1c, 0, 1, false⟩]⟩,
  -- CTR_CFG
  ⟨0x3c01000, 512, 8, 1, 8, 0, [⟨0, 1, .rw, 0, 1, false⟩, ⟨2, 10, .rw, 0, 1023, false⟩, ⟨12, 8, .rw, 0, 255, false⟩, ⟨20, 2, .rw, 0, 2, false⟩, ⟨22, 11, .rw, 0, 2047, false⟩, ⟨33, 16, .rw, 0, 0xffff, false⟩]⟩,
  -- CTR_CTRL
  ⟨0x3c02000, 1, 8, 1, 8, 0, [⟨0, 1, .rw, 0, 1, false⟩, ⟨1, 1, .wo, 0, 1, false⟩]⟩,
  -- CTR_SAMPLE_CFG
  ⟨0x3c02008, 1, 8, 1, 8, 0x9c400000000c60, [⟨0, 1, .rw, 0, 1, false⟩, ⟨1, 1, .rw, 0, 1, false⟩, ⟨2, 1, .rw, 0, 1, false⟩, ⟨4, 4, .rw, 0, 15, false⟩, ⟨8, 5, .rw, 6, 24, false⟩, ⟨13, 2, .rw, 0, 2, false⟩, ⟨15, 11, .rw, 0, 2047, false⟩, ⟨26, 16, .rw, 0, 0xffff, false⟩, ⟨42, 20, .rw, 100, 0xf4240, false⟩]⟩,
  -- CTR_SAMPLE_PROD
  ⟨0x3c02010, 1, 8, 1, 8, 0, [⟨0, 64, .ro, 0, 0xffffffffffffffff, false⟩]⟩,
  -- CTR_SAMPLE_STATUS
  ⟨0x3c02018, 1, 8, 1, 8, 0, [⟨0, 5, .ro, 0, 31, false⟩, ⟨5, 5, .ro, 0, 31, false⟩, ⟨16, 8, .ro, 0, 255, false⟩, ⟨32, 32, .rc, 0, 0xffffffff, false⟩]⟩,
  -- CTR_SAMPLE_SEED
  ⟨0x3c02020, 1, 8, 1, 8, 0x1d0f, [⟨0, 32, .rw, 1, 0xffffffff, false⟩]⟩,
  -- CTR_SAMPLE_INDEX
  ⟨0x3c02028, 1, 8, 1, 8, 0, [⟨0, 64, .rw, 0, 0xffffffffffffffff, false⟩]⟩,
  -- CTR_SAMPLE_DATA
  ⟨0x3c02040, 8, 8, 1, 8, 0, [⟨0, 64, .ro, 0, 0xffffffffffffffff, false⟩]⟩,
  -- CTR_GRANT
  ⟨0x3c03000, 256, 8, 1, 8, 0, [⟨0, 1, .rw, 0, 1, false⟩, ⟨1, 1, .rw, 0, 1, false⟩, ⟨3, 16, .rw, 0, 0xffff, false⟩, ⟨19, 11, .rw, 0, 2047, false⟩]⟩]
/-- All registers of the Ctr block. -/
def regsCtr : List RegSpec := regsCtr0

/-- Registers of the Fn block. -/
def regsFn0 : List RegSpec := [
  -- TPT_ABI_REQUEST
  ⟨0x4000000, 2048, 32, 1, 8, 0, [⟨0, 8, .rw, 0, 255, false⟩, ⟨8, 8, .rw, 0, 255, false⟩, ⟨16, 1, .wo, 0, 1, false⟩]⟩,
  -- TPT_ABI_STATUS
  ⟨0x4000008, 2048, 32, 1, 8, 0, [⟨0, 8, .ro, 0, 255, false⟩, ⟨8, 8, .ro, 0, 255, false⟩, ⟨16, 8, .ro, 0, 255, false⟩, ⟨24, 1, .ro, 0, 1, false⟩]⟩,
  -- TPT_CMD_ADDR
  ⟨0x4000010, 2048, 32, 1, 8, 0, [⟨0, 64, .rw, 0, 0xffffffffffffffff, false⟩]⟩,
  -- TPT_CMD_CTRL
  ⟨0x4000018, 2048, 32, 1, 8, 0, [⟨0, 1, .wo, 0, 1, false⟩, ⟨1, 1, .ro, 0, 1, false⟩, ⟨2, 1, .ro, 0, 1, false⟩, ⟨8, 8, .ro, 0, 255, false⟩, ⟨32, 32, .ro, 0, 0xffffffff, false⟩]⟩,
  -- KEY_QUOTA
  ⟨0x4100000, 2048, 8, 1, 8, 0x10000, [⟨0, 25, .rw, 0, 0xffffff, false⟩, ⟨25, 25, .ro, 0, 0x1ffffff, false⟩]⟩,
  -- MCH_UNEXP_QUOTA
  ⟨0x4200000, 2048, 8, 1, 8, 0x3fffffff, [⟨0, 30, .rw, 0, 0x3fffffff, false⟩, ⟨30, 30, .ro, 0, 0x3fffffff, false⟩]⟩]
/-- All registers of the Fn block. -/
def regsFn : List RegSpec := regsFn0

/-- The registers of the block that holds an address (R473). -/
def regsAt (a : Nat) : List RegSpec :=
  if a < 0x100000 then regsGlb else
  if a < 0x200000 then regsEvt else
  if a < 0x400000 then regsLch else
  if a < 0x800000 then regsTpt else
  if a < 0xa00000 then regsKey else
  if a < 0xc00000 then regsMch else
  if a < 0x1000000 then regsSwm else
  if a < 0x2000000 then regsRte else
  if a < 0x2800000 then regsLnk else
  if a < 0x3000000 then regsLan else
  if a < 0x3400000 then regsFgr else
  if a < 0x3600000 then regsXlt else
  if a < 0x3800000 then regsOrd else
  if a < 0x3c00000 then regsSch else
  if a < 0x4000000 then regsCtr else
  regsFn

end Sys2Proof.Machine
end

