-- ==== Sys2Proof/Machine/State.lean ====
section
/-! DEFINITION. The state of the block: one structure per part of the device, all of it plain data, and the state right
after a power-on reset. Registers of the register space live in `regs`, keyed by their BAR0 offset; everything the spec
gives the device beside its registers has a field of its own. -/

namespace Sys2Proof.Machine

/-- A finite map with `Nat` keys: pairs in rising order of their keys. -/
abbrev Map (β : Type) := List (Nat × β)

/-- Why a command stops the block. No meaning of this model ends in a fault; the one name below is kept so that the
outcome type has a value, and it is raised by nothing (safe). -/
inductive Fault where
  /-- Raised by nothing (safe). -/
  | none
  deriving DecidableEq, Repr

/-- Why the model gives a command no meaning. -/
inductive Refusal where
  /-- Raised by an arm of `exec` whose command is not modelled (safe). -/
  | notModelled (mnemonic : String)
  deriving DecidableEq, Repr

/-! ### Clocks and the output of the block -/

/-- What the block sends to the outside, in order. -/
inductive Output where
  /-- A posted write on a host link at a bus address (R97). -/
  | hostWrite (link addr : Nat) (bytes : List Byte)
  /-- A read request on a host link; the answer comes with the request number (R492). -/
  | hostRead (link addr len id : Nat)
  /-- An AtomicOp on a host link (R102): kind, operands, width in bytes. -/
  | hostAtomic (link addr kind : Nat) (op0 op1 width id : Nat)
  /-- A walk read or CAS of a table entry (R387, R391). -/
  | walkRead (link addr id : Nat)
  | walkCas (link addr : Nat) (cmp swp : Word) (id : Nat)
  /-- An MSI-X message of a function on a vector (R58, R411). -/
  | msix (fn vec : Nat)
  /-- A completion with Unsupported Request status (R475). -/
  | unsupportedRequest (req : Requester)
  /-- The value that a register read returns. -/
  | regValue (req : Requester) (v : Word)
  /-- A frame on a network port (R228): link header, packet, CRC. -/
  | frame (port : Nat) (header bytes : List Byte) (crc : BitVec 32)
  /-- A link-control block on a network port (R232). -/
  | control (port : Nat) (block : List Byte)
  /-- A block with inverted bits under link exercise mode (R260). -/
  | blockCorrupt (port lane bits : Nat)
  /-- A transmitter of a lane is driven or silent (R252). -/
  | transmit (port : Nat) (on : Bool)
  /-- An alignment marker on a lane (R269). -/
  | marker (port lane : Nat) (bytes : List Byte)
  /-- The symbols of a block on a lane's pins, as levels 0 to 3 (R265, R266): the wire form of frames, blocks, markers and patterns. -/
  | symbols (port lane : Nat) (levels : List Nat)
  /-- Bits of a pattern generator inverted (R284). -/
  | patternBurst (port lane len : Nat)
  /-- A loopback packet that enters the crossbar at port 95 (R40). -/
  | loopback (bytes : List Byte)
  /-- A non-maskable trap on every keeper core (R407). -/
  | nmi
  /-- A maskable notification to keeper firmware that a source has fired (R410). -/
  | report (source : Nat)
  /-- An AER error message of a host link: 0 correctable, 1 non-fatal, 2 fatal (R412). -/
  | aer (link severity : Nat)
  /-- An SMBus Host Notify with its data word (R412). -/
  | smbusNotify (word : Nat)
  /-- Data that an SMBus block read returns (R467), or a NAK of the block. -/
  | smbusData (bytes : List Byte)
  | smbusNak
  /-- The level of the ALIVE pin (R413). -/
  | alive (level : Bool)
  /-- THERMTRIP_N driven low (R456). -/
  | thermTrip
  /-- An AVSBus Voltage write in 0.1 mV, or a Voltage read (R459). -/
  | avsWrite (tenthMv : Nat)
  | avsRead
  /-- Bytes shifted out on TDO (R448). -/
  | tdo (bytes : List Byte)
  /-- The answer to a CXL.mem read (R107, R108): none is an unsupported request. -/
  | cxlData (link : Nat) (data : Option (List Byte)) (poisoned : Bool)
  /-- A CXL.mem write that is not decoded (R108). -/
  | cxlUnsupported (link : Nat)
  /-- A configuration request of a host port is answered: 0 with Request Retry Status, 1 normally (R438). -/
  | configReady (h : Nat) (normal : Bool)
  /-- The gate-debug output level on TIMEPULSE (R300). -/
  | gateDebug (level : Bool)
  /-- A management response or event that has reached the fabric manager at this device (R223, R224). -/
  | manager (bytes : List Byte)
  deriving DecidableEq, Repr

/-! ### Transport (R42 to R80) -/

/-- The states of a queue pair (R63). -/
inductive QpState where
  | reset | init | ready | paused | error
  deriving DecidableEq, Repr

/-- A token bucket (R290, R291): rate in Mb/s, depth and level in bytes, remainder, time of the last check. -/
structure Bucket where
  rate : Nat := 0
  burst : Nat := 0
  tokens : Nat := 0
  rem : Nat := 0
  last : Nat := 0
  deriving DecidableEq, Repr

/-- How far a send descriptor has come. -/
inductive DescState where
  /-- Read and checked, its operation not yet started. -/
  | queued
  /-- Started; `next` bytes of its packets are built. -/
  | building (next : Nat)
  /-- All of its packets are built and not all are acknowledged. -/
  | sent
  /-- Finished; its completion waits for its turn in queue order. -/
  | done
  deriving DecidableEq, Repr

/-- One outstanding send descriptor (R51) with what its completion will carry (R55). -/
structure Desc where
  id : Nat
  opcode : Nat
  signal : Bool
  fence : Bool
  ordered : Bool
  atomic32 : Bool
  lkey : Nat
  laddr : Nat
  len : Nat
  destEid : Nat
  destQpn : Nat
  raddr : Nat
  rkey : Nat
  op0 : Word
  op1 : Word
  userId : Word
  st : DescState := .queued
  status : Nat := 0
  remote : Bool := false
  detail : Nat := 0
  result : Word := 0
  /-- The packets sent for it that are not yet acknowledged, and the placements of its responses not yet issued. -/
  unacked : Nat := 0
  placing : Nat := 0
  /-- Local data read for the packet under construction, with the offset it belongs to. -/
  data : Option (Nat × List Byte) := none
  /-- A host read of local data in progress. -/
  reading : Bool := false
  /-- The RTS of a rendezvous (R137): its PSN. -/
  rtsPsn : Option Nat := none
  /-- The RTS is acknowledged, so the rendezvous wait of R140 runs. -/
  rndvWait : Bool := false
  /-- An in-use reference on the local key is held (R109, R138). -/
  localRef : Bool := false
  /-- A collective holds one on the key of its output buffer. -/
  outRef : Bool := false
  /-- A SEND_TAGGED goes by rendezvous: chosen once, as it starts (R126). -/
  rndv : Bool := false
  deriving DecidableEq, Repr

/-- Why a request packet is held at the requester: it is not, after a STATE_MISS NAK (R69), after a RECEIVER_FULL NAK
(R134). -/
inductive Hold where
  | none | stateMiss | full
  deriving DecidableEq, Repr

/-- What a tracker entry serves: a descriptor of the send queue, a rendezvous fetch of a receive, a FIN. -/
inductive TrackFor where
  | desc (id : Nat)
  | fetch (recv : Nat)
  | fin
  deriving DecidableEq, Repr

/-- One tracker entry (R73): an outstanding request packet with its retransmit timer. -/
structure Track where
  psn : Nat
  /-- PSNs taken: the response packets of a GET_REQ, else 1. -/
  count : Nat := 1
  hdr : WtHeader
  /-- Payload that every send reads from the local buffer: virtual address, bytes, key (R393). -/
  src : Option (Nat × Nat × Nat) := none
  use : TrackFor
  retries : Nat := 0
  intervalUs : Nat := 0
  /-- The packet has been sent: it does not wait at the shaper any more (R290). -/
  sent : Bool := false
  timer : Bool := false
  hold : Hold := .none
  /-- The STATE_MISS deadline (R70) and the RECEIVER_FULL deadline (R135) run. -/
  missSince : Bool := false
  fullSince : Bool := false
  /-- Response PSN offsets already taken (R76), as a set of bits. -/
  got : Nat := 0
  /-- Where response data lands: virtual address and local key. -/
  dest : Nat := 0
  lkey : Nat := 0
  deriving DecidableEq, Repr

/-- A matched message that is arriving: its first PSN, length, tag, context, and where its packets go. -/
structure RxMsg where
  firstPsn : Nat
  length : Nat
  /-- The receive that took it, or the unexpected record that holds it. -/
  recv : Option Nat
  record : Option Nat
  /-- Packets still to arrive. -/
  left : Nat
  deriving DecidableEq, Repr

/-- The transport state towards one peer (R60, R61, R73, R74). -/
structure Conn where
  peerEid : Nat
  peerQpn : Nat
  nextPsn : Nat
  epsn : Nat
  /-- Bit i: PSN epsn + i has arrived (R74). -/
  bitmap : Nat := 0
  /-- PSNs that arrived and whose placement is not yet issued (R75). -/
  unplaced : List Nat := []
  track : List Track := []
  /-- SYNC is set on every packet until the first acknowledgement (R61). -/
  sync : Bool := false
  /-- Receive state exists (a responder's EXPECT_PSN is known). -/
  rxValid : Bool := true
  /-- Requests since the last ACK, and the ACK delay runs (R75). -/
  ackCount : Nat := 0
  ackTimer : Bool := false
  /-- The refused PSN that latches the connection (R133). -/
  latch : Option Nat := none
  rxMsgs : List RxMsg := []
  deriving DecidableEq, Repr

/-- A posted receive (R54, R117). -/
inductive RecvState where
  | staged | posted | matched | placed | handler | done
  deriving DecidableEq, Repr

/-- One receive of a queue pair, from its descriptor to its completion. -/
structure Recv where
  id : Nat
  anySource : Bool
  anyTag : Bool
  ctx : Nat
  lkey : Nat
  laddr : Nat
  len : Nat
  source : Nat
  tag : Word
  handler : Nat
  userId : Word
  seq : Nat := 0
  /-- Which descriptor of its ring it is, counted from the creation of the ring (R142). -/
  ring : Nat := 0
  st : RecvState := .staged
  status : Nat := 0
  detail : Nat := 0
  bytes : Nat := 0
  srcEid : Nat := 0
  msgTag : Word := 0
  /-- Rendezvous fetch: connection key, sender address and key, offset in the message, bytes wanted and fetched, RTS
  PSN, and the receives of a run (R142). -/
  conn : Nat := 0
  fetchAddr : Nat := 0
  fetchKey : Nat := 0
  fetchOff : Nat := 0
  want : Nat := 0
  fetchBuilt : Nat := 0
  fetched : Nat := 0
  rtsPsn : Option Nat := none
  msgLen : Nat := 0
  /-- Runs (R142): the first receive of its run, whether it is the last, and where the bytes of this receive start. -/
  runFirst : Nat := 0
  runLast : Bool := true
  /-- Packets of an eager message still to be placed. -/
  packets : Nat := 0
  /-- Placements not yet issued. -/
  placing : Nat := 0
  /-- An in-use reference on LKEY is held (R109, R143). -/
  ref : Bool := false
  deriving DecidableEq, Repr

/-- One queue pair (R46, R60 to R65). -/
structure Qp where
  fn : Nat
  idx : Nat
  qpn : Nat
  st : QpState := .init
  shared : Bool := false
  version : Nat := 2
  tc : Nat := 0
  pd : Nat := 0
  sqLog : Nat := 6
  rqLog : Nat := 0
  sqBase : Nat := 0
  rqBase : Nat := 0
  record : Nat := 0
  sendCq : Nat := 0
  recvCq : Nat := 0
  peerEid : Nat := 0
  peerQpn : Nat := 0
  /-- Last accepted PRODUCER and descriptors read, of the send and receive rings (R48, R49). -/
  sqProd : Nat := 0
  sqRead : Nat := 0
  rqProd : Nat := 0
  rqRead : Nat := 0
  nextId : Nat := 0
  sq : List Desc := []
  rq : List Recv := []
  /-- Connections by `2^24 * peerEid + peerQpn`; one in connected mode. -/
  conns : Map Conn := []
  shaper : Bucket := { burst := 65536, tokens := 65536 }
  precolour : Nat := 0
  /-- A built packet that waits at the shaper (R290): connection, PSN, payload. -/
  shaped : Option (Nat × Nat × List Byte) := none
  /-- The throttling groups whose hold of the send queue has been counted (R215). -/
  throttled : List Nat := []
  /-- FINs that wait to be sent (R137): connection, RTS PSN, bytes fetched, status. -/
  fins : List (Nat × Nat × Nat × Nat) := []
  /-- Receives that have finished, in the order of R144, whose completions are not yet written. -/
  rdone : List Nat := []
  /-- Flags of one-time events: SQ_PAUSED, POSTED_FULL, UNEXPECTED_FULL written for this stretch; CONTEXT_EXHAUSTED with
  the descriptor whose stretch of waiting it is (R62). -/
  pausedSent : Bool := false
  exhausted : Option Nat := none
  postedFull : Bool := false
  unexpFull : Bool := false
  /-- A handler of the queue pair runs (R147): the receive it serves. -/
  handlerRun : Option Nat := none
  /-- The context is cached on die (R66, R67). -/
  onDie : Bool := true
  /-- Packets waiting in the miss buffer, by connection, in arrival order, with their arrival ports (R67, R122), and the
  connections whose store fetch is in progress. -/
  waits : Map (List (Nat × Packet)) := []
  fetches : List Nat := []
  /-- A descriptor read failed: descriptors not read do not complete (R394, R492). -/
  readDead : Bool := false
  /-- A queue-pair reset waits for the descriptors that were visible before it (R63). -/
  resetting : Bool := false
  /-- The rendezvous that entering ERROR ended at this sender (R141): connection, key, address, length of the source. -/
  lost : List (Nat × Nat × Nat × Nat) := []
  deriving DecidableEq, Repr

/-- One completion queue (R57, R58). -/
structure Cq where
  log : Nat
  vector : Nat
  base : Nat
  produced : Nat := 0
  consumed : Nat := 0
  armed : Bool := false
  overflow : Bool := false
  deriving DecidableEq, Repr

/-- The event queue of a function (R493). -/
structure Eq where
  log : Nat
  vector : Nat
  base : Nat
  produced : Nat := 0
  consumed : Nat := 0
  deriving DecidableEq, Repr

/-- A policer of a protection domain (R294, R296). -/
structure Policer where
  enable : Bool := false
  aware : Bool := false
  mark : Bool := false
  tc : Bucket := {}
  tp : Bucket := {}
  deriving DecidableEq, Repr

/-- A command that a function has submitted (R46): its block once read, and whether it waits for a drain. -/
structure Cmd where
  words : List Word := []
  read : Bool := false
  /-- DEREG_MR waits for the in-use count (R89): the key's index. -/
  waitKey : Option Nat := none
  /-- INV_XLT waits for its accesses (R399): host reads, placements, atomics and walks by number, and accesses of
  threads by thread and access. -/
  waitInv : Option (List Nat × List (Nat × Nat)) := none
  deriving DecidableEq, Repr

/-- An entry of a function's MSI-X table with its pending bit (R411, R473): the message's address and data, and the mask, which is set
until software clears it, as PCIe has it (log entry 23). -/
structure Vector where
  masked : Bool := true
  pending : Bool := false
  addr : Nat := 0
  data : Nat := 0
  deriving DecidableEq, Repr

/-- Everything one function owns (R42 to R59). -/
structure Func where
  major : Nat := 0
  minor : Nat := 0
  cmd : Option Cmd := none
  pds : Map Policer := []
  cqs : Map Cq := []
  eq : Option Eq := none
  /-- Local index to device QPN. -/
  qps : Map Nat := []
  handlers : List Nat := []
  vectors : Map Vector := []
  msixOff : Bool := false
  deriving DecidableEq, Repr

/-- What a posted write of the device is: a completion of a queue pair to a completion queue, an event record, a
consumer record (R49, R55, R58). -/
inductive WriteFor where
  | cq (fn c qpn : Nat)
  | eq (fn : Nat)
  | record (qpn va : Nat)
  deriving DecidableEq, Repr

/-- A posted write that waits for its turn and for the translation of its address (R394). -/
structure PendWrite where
  fn : Nat
  bytes : List Byte
  use : WriteFor
  /-- Function and protection domain that its occurrences count for. -/
  owner : Option (Nat × Nat) := none
  deriving DecidableEq, Repr

/-- What still follows from a transport event within the same step: a queue pair enters ERROR with a causing status
(R64), a group's epoch is aborted with a reason (R183); or a mark that the event waits for a translation. -/
inductive Effect where
  | wait
  | qpError (qpn status : Nat)
  | abort (gid reason : Nat)
  deriving DecidableEq, Repr

/-- What a host read in progress is for. -/
inductive ReadFor where
  /-- Local data of a send descriptor: queue pair, descriptor, offset (R53). -/
  | source (qpn desc off key : Nat)
  /-- Payload of a packet that is sent again: queue pair, connection, PSN, key entry whose reference it holds (R393). -/
  | resend (qpn conn psn key : Nat)
  /-- Data of a GET_REQ: responder queue pair, connection, PSN, key, address (R97, R109). -/
  | getResp (qpn conn psn key addr : Nat)
  /-- Swarm input of a member (R162): group, segment. -/
  | swarm (gid seg : Nat)
  deriving DecidableEq, Repr

/-- A read on a host link: the pieces asked for (bus address and length), and its use. -/
structure HostRead where
  link : Nat
  fn : Nat
  /-- The range of the leaves in use, for R399. -/
  cover : Nat × Nat := (0, 0)
  len : Nat := 0
  pieces : List (Nat × Nat)
  use : ReadFor
  deriving DecidableEq, Repr

/-- An atomic in progress at the target (R102, R103). -/
structure AtomicOp where
  qpn : Nat
  conn : Nat
  psn : Nat
  /-- The key entry whose reference it holds, and the key that the packet carried (R95). -/
  key : Nat
  rkey : Nat := 0
  opcode : Nat
  width : Nat
  op0 : Word
  op1 : Word
  /-- Store byte address, or host link and bus address. -/
  store : Bool
  link : Nat := 0
  addr : Nat
  /-- The range of the leaf in use, for R399. -/
  cover : Nat × Nat := (0, 0)
  fn : Nat := 0
  /-- Emulated atomics: the value last read and the attempts made; `stage` 0 native, 1 first read, 2 CAS. -/
  stage : Nat := 0
  seen : Word := 0
  tries : Nat := 0
  deriving DecidableEq, Repr

/-- What a placement belongs to: a PUT, a response of a GET or of a rendezvous fetch, an EAGER packet that goes to a
receive, the copy of an unexpected record, a segment of a swarm result. -/
inductive PlaceFor where
  | put (qpn conn psn : Nat) (solicit : Bool)
  | get (qpn conn psn desc : Nat)
  | fetch (qpn conn psn recv : Nat)
  | eager (qpn conn psn recv : Nat) (solicit : Bool)
  | copy (qpn recv record : Nat)
  | swarm (gid seg : Nat)
  deriving DecidableEq, Repr

/-- The writes of one packet that wait to be issued (R75, R97, R109). -/
structure Placement where
  use : PlaceFor
  /-- The key entry whose in-use reference the placement holds. -/
  key : Option Nat := none
  store : Bool
  link : Nat := 0
  fn : Nat := 0
  /-- The range of the leaves in use, for R399. -/
  cover : Nat × Nat := (0, 0)
  /-- The SOURCE with which a unit in a compatibility range claims (R379). -/
  source : Nat := 0
  /-- The sampler's tag of the packet whose last writes these are (R485). -/
  tag : Option Nat := none
  pieces : List (Nat × List Byte)
  deriving DecidableEq, Repr

/-- One result-cache entry (R78). -/
structure ResultEntry where
  qpn : Nat
  conn : Nat
  psn : Nat
  value : Option Word := none
  width : Nat := 8
  deriving DecidableEq, Repr

/-- A new request that has passed checks 1 to 6 of R94 and holds its in-use reference while a later check waits for a
walk: queue pair, connection, PSN, key entry (R94, R109). -/
structure Grant where
  qpn : Nat
  conn : Nat
  psn : Nat
  key : Nat
  deriving DecidableEq, Repr

structure Transport where
  funcs : Map Func := []
  qps : Map Qp := []
  /-- Device-wide send PSN counter of shared endpoints (R61); its start at 0 is a DESIGN CHOICE (log entry 44). -/
  sePsn : Nat := 0
  results : List ResultEntry := []
  writes : List PendWrite := []
  /-- Empty between steps: what follows from the event in hand. -/
  todo : List Effect := []
  reads : Map HostRead := []
  atomics : Map AtomicOp := []
  placements : Map Placement := []
  granted : List Grant := []
  nextId : Nat := 0
  /-- Device QPNs whose contexts are on die, least recently used first (R66). -/
  lru : List Nat := []
  /-- Packets in each hive's miss buffer (R67). -/
  miss : Map Nat := []
  deriving DecidableEq, Repr

/-! ### Keys (R84 to R114) -/

structure KeyEntry where
  kind : Nat := 0
  bound : Bool := false
  draining : Bool := false
  /-- A DEREG_MR has raised the generation; a resubmission raises it no further (R89). -/
  revoked : Bool := false
  generation : Nat := 1
  rights : Nat := 0
  store : Bool := false
  pd : Nat := 0
  fn : Nat := 0
  base : Nat := 0
  length : Nat := 0
  parent : Nat := 0
  storeAddr : Nat := 0
  inUse : Nat := 0
  /-- The drain-stall timers of R112 that run, one for each generation raise since the drain began; one has expired. -/
  timers : Nat := 0
  stalled : Bool := false
  /-- Unbinds that wait for the drain: queue pair and descriptor (R93). -/
  unbind : List (Nat × Nat) := []
  /-- The entry is in the on-die key cache (R84). -/
  onDie : Bool := true
  deriving DecidableEq, Repr

structure Keys where
  entries : Map KeyEntry := []
  /-- The lowest index never used since the reset, and the indexes freed since, oldest first (R88). -/
  fresh : Nat := 1
  freed : List Nat := []
  deriving DecidableEq, Repr

/-! ### Matching (R115 to R150) -/

/-- A posted entry in a bin (R118, R119): queue pair, receive (or the handle of a firmware posting), class, key. -/
structure Posted where
  qpn : Nat
  recv : Nat
  cls : Nat
  ctx : Nat
  source : Nat
  tag : Word
  seq : Nat
  handle : Option Word := none
  deriving DecidableEq, Repr

/-- An unexpected record (R119, R129). -/
structure Unexp where
  id : Nat
  qpn : Nat
  conn : Nat
  fn : Nat
  ctx : Nat
  source : Nat
  tag : Word
  seq : Nat
  cells : Nat
  length : Nat
  rts : Bool
  psn : Nat
  addr : Nat := 0
  key : Nat := 0
  /-- The payload that has come, by offset, and the packets still to come. -/
  data : List Byte := []
  left : Nat := 0
  /-- The receive that has taken the record (R131). -/
  taken : Option Nat := none
  handle : Option Word := none
  deriving DecidableEq, Repr

/-- A registered handler (R145, R351, R352). -/
structure Handler where
  fn : Nat
  pd : Nat
  keys : List Nat
  code : List (BitVec 32)
  rodata : List Byte
  entry : Nat
  deriving DecidableEq, Repr

structure Match where
  /-- The posting sequence counter and the arrival counter (R117, R118). -/
  nextSeq : Nat := 1
  nextArrival : Nat := 1
  posted : List Posted := []
  unexp : List Unexp := []
  /-- The pool size in force (R129). -/
  poolKib : Nat := 4194304
  /-- LOG_BINS in force since the last chip-level reset (R123). -/
  logBins : Nat := 20
  /-- Handlers by `1024 * fn + index`. -/
  handlers : Map Handler := []
  deriving DecidableEq, Repr

/-! ### Swarm (R151 to R187) -/

/-- The partial of one element (R174): the integer A, SPECIAL and NZ; or a native value outside exact-sum mode. -/
structure Partial where
  acc : Int := 0
  special : Nat := 0
  nz : Bool := false
  native : Nat := 0
  filled : Bool := false
  deriving DecidableEq, Repr

/-- One segment in staging: contributions that have arrived, partials, and whether it went up and its result came. -/
structure Segment where
  /-- Ports of the children that have contributed; 127 is the member. -/
  froms : List Nat := []
  /-- Children of which some but not all packets of the segment have arrived, with the next element expected. -/
  partly : List (Nat × Nat) := []
  elems : List Partial := []
  carrier : Bool := false
  complete : Bool := false
  sentUp : Bool := false
  deriving DecidableEq, Repr

/-- One epoch at a frond (R160, R169). -/
structure Epoch where
  number : Nat
  /-- The operation slot that it holds, and with it its stretch of staging (R163). -/
  slot : Nat := 0
  op : Nat
  dtype : Nat
  rop : Nat
  exact : Bool
  length : Nat
  rootEid : Nat
  /-- The member's descriptor: queue pair and descriptor. -/
  member : Option (Nat × Nat) := none
  segs : Map Segment := []
  /-- Segments whose input was read from the member, sent up, forwarded down, written to the member. -/
  readNext : Nat := 0
  upNext : Nat := 0
  downNext : Nat := 0
  placed : Nat := 0
  /-- Results that wait to be written to the member's output, by segment. -/
  results : List (Nat × List Byte) := []
  /-- Segments whose results have come down or been made. -/
  done : List Nat := []
  deriving DecidableEq, Repr

inductive FrondState where
  | idle | active | aborted
  deriving DecidableEq, Repr

/-- One frond (R151, R153). -/
structure Frond where
  words : List Word
  st : FrondState := .idle
  epoch : Nat
  lastReason : Nat := 0
  cur : Option Epoch := none
  nxt : Option Epoch := none
  /-- Staging cells whose downward forwarding has not ended (R166). -/
  held : List Nat := []
  deriving DecidableEq, Repr

structure Swarm where
  fronds : Map Frond := []
  /-- Port 88's queue: upward packets with their arrival ports; its head may wait for a staging cell (R165, R166). -/
  up : List (Nat × Packet) := []
  deriving DecidableEq, Repr

/-! ### Routing (R188 to R226) -/

/-- A packet with the network port it arrived on, or 127 for local injection. -/
structure InPkt where
  port : Nat
  pkt : Packet
  cells : Nat := 1
  /-- R195: the arriving packet has been checked. -/
  checked : Bool := false
  /-- The throttling group of a locally built WT packet (R215). -/
  group : Option Nat := none
  /-- The chosen output is a detour (R198). -/
  detour : Bool := false
  /-- Built by a forager thread: it enters by the hive port (R20). -/
  hive : Bool := false
  /-- The tree port of a swarm packet built here that waits for the device to join (R154, R226). -/
  edge : Option Nat := none
  /-- Link exercise mode has drawn for the packet and held it (R260). -/
  passed : Bool := false
  /-- The bytes of a packet that leaves as it stands: a mirror copy (port 95, R41), or one that a failed partner handed over and that
  link exercise mode has held (R254, R260). -/
  raw : Option (List Byte) := none
  /-- The sampler's tag of the packet (R485). -/
  tag : Option Nat := none
  deriving DecidableEq, Repr

/-- A waggle summary in use (R207, R208): SEQ and the link that it counts on, sender, depth codes, periods since it came. -/
structure Summary where
  seq : Nat
  link : Nat := 0
  sender : Nat
  depth : List Byte
  /-- The root clock when its last fragment arrived, by which it ages (R208). -/
  since : Nat := 0
  deriving DecidableEq, Repr

/-- One packet in the replay buffer (R234). -/
structure Replay where
  lsn : Nat
  vl : Nat
  cells : Nat
  bytes : List Byte
  stomped : Bool := false
  deriving DecidableEq, Repr

structure Route where
  /-- The owner token and the way back to the owner (R225). -/
  token : Option Word := none
  ownerPath : List Nat := []
  ownerEid : Nat := 0
  /-- Rotating pointers of the crossbar inputs (R203). -/
  pointers : Map Nat := []
  /-- The keeper queue of management packets, with arrival ports (R223), and the requests for this device. -/
  keeper : List InPkt := []
  mgmtIn : List InPkt := []
  /-- Packets delivered to local ports (R21, R195). -/
  delivered : List InPkt := []
  /-- The 16 injection queues of R215, and packets injected that enter none of them. -/
  inject : Map (List InPkt) := []
  own : List InPkt := []
  /-- The latest summary of each far device, by coordinate word, and the tick of the waggle. -/
  summaries : Map Summary := []
  waggleTurn : Nat := 0
  /-- Ports whose far end is not the expected one (R190). -/
  badCable : List Nat := []
  /-- The mirror copy that waits at crossbar port 95 for its network port (R41); it has no LSN yet. -/
  mirrored : Option (Nat × Replay) := none
  deriving DecidableEq, Repr

/-! ### Links (R227 to R262) and lanes (R263 to R288) -/

/-- A failover in progress (R254): sequence number and partner port. -/
structure Failover where
  seq : Nat
  via : Nat
  deriving DecidableEq, Repr

/-- The transmitter of a lane: the last 58 scrambled bits, the newest lowest (R268), and the BIP since the last marker (R269). -/
structure LaneTx where
  scr : BitVec 58 := 0
  bip : Byte := 0
  /-- On a NEAR loop: the descrambler of the lane's receiver, and its BIP over what arrives (R268, R269, R285). -/
  rx : BitVec 58 := 0
  rxBip : Byte := 0
  deriving DecidableEq, Repr

/-- What a port in a NEAR loop sent and has not yet received (R285). -/
inductive Looped where
  | frame (f : LinkFrame)
  | control (b : List Byte)
  | marker (lane : Nat) (b : List Byte) (bip : Byte)
  deriving DecidableEq, Repr

/-- The pattern generator and the checker of a lane (R282 to R284). -/
structure Pattern where
  /-- Generator: the last bits sent, the newest lowest; 0 before the first. -/
  gen : Nat := 0
  /-- Bits sent of the USER word. -/
  phase : Nat := 0
  /-- Bits still to invert of the burst in progress, and the lengths of the bursts that wait. -/
  burst : Nat := 0
  bursts : List Nat := []
  /-- Checker: the last received bits, newest first, and the bits predicted in a row. -/
  seen : List Bool := []
  run : Nat := 0
  /-- Once locked: the reference, the last 128 mismatches, and the bits checked of the current 2^16. -/
  ref : List Bool := []
  misses : List Bool := []
  checked : Nat := 0
  deriving DecidableEq, Repr

/-- One network port: link layer, input buffer, egress queues, gates, lanes. -/
structure Port where
  replay : List Replay := []
  /-- Packets still to be resent, by LSN (R239). -/
  resend : List Nat := []
  adv : List Nat := []
  markDebit : List Nat := []
  mark : Option Nat := none
  markId : Nat := 0
  /-- Receiver: lane sizes in force, cells held, credits to return (R236 to R242). -/
  rxCells : List Nat := []
  held : List Nat := []
  credit : List Nat := []
  /-- Training (R247): the partner's last TRAIN block, READY sent and received. -/
  train : Option (List Byte) := none
  readySent : Bool := false
  readyGot : Bool := false
  /-- Fabric times of replay events and of violations, for the windows of R251. -/
  replays : List Nat := []
  viols : List Nat := []
  failover : Option Failover := none
  failSeq : Nat := 0
  /-- Packets of a failed partner that go first (R254). -/
  handed : List Replay := []
  /-- Frames in the lane buffers waiting for the router, per lane (R195), and packets decided for this output. -/
  lanes : Map (List InPkt) := []
  egress : Map (List InPkt) := []
  /-- Egress scheduling (R305): deficits per lane, pointers per group, the lane being served in a group. -/
  deficit : Map Nat := []
  groupPtr : Map Nat := []
  serving : Map Nat := []
  /-- Waggle assembly (R232): next fragment and bytes; SEQ sent. -/
  frag : Nat := 0
  fragBytes : List Byte := []
  waggleSeq : Nat := 0
  /-- Link exercise mode (R260): the LFSR, held packets. -/
  exLfsr : Nat := 1
  exHeld : List InPkt := []
  /-- The far end was latched since the last reset of the port (R217, R248). -/
  latched : Bool := false
  /-- A lane without block lock, and the port without alignment, while up (R274). -/
  lockLost : Bool := false
  /-- Gate list in force (R301): base, cycle, entries and guard band; the cycle start that an accepted list waits for. -/
  gateBase : Nat := 0
  gateCycle : Nat := 0
  gateLen : Nat := 0
  gateGuard : Nat := 81
  gatePendAt : Nat := 0
  /-- Lane layer: markers missed in a row on each lane, smallest eyes since the last re-plan (R272, R287). -/
  amMiss : List Nat := [0, 0]
  /-- The MARK of which each lane found three markers in a row since its marker hunt began (R272). -/
  amSeen : List (Option Nat) := [none, none]
  eyeMin : List (Option (Nat × Nat)) := [none, none]
  /-- Link-control blocks that wait to leave, with their types (R227). -/
  ctrl : List (Nat × List Byte) := []
  /-- The version offer of the last TRAIN block (R248), and that training has begun since the link went down (R255). -/
  offer : Nat := 0
  retrained : Bool := false
  /-- The lane sizes of the last TRAIN block that has left (R245). -/
  offered : List Nat := []
  /-- The lanes are merged into the stream (R273). -/
  merged : Bool := false
  /-- The transmitter: the lanes, the number of the next block of the stream, blocks since the last markers (R267 to R269). -/
  tx : List LaneTx := [{}, {}]
  block : Nat := 0
  sinceMark : Nat := 0
  loop : List Looped := []
  patterns : List Pattern := [{}, {}]
  deriving DecidableEq, Repr

/-! ### Scheduling (R289 to R312) -/

/-- One requester of an arbiter (R309, R310). -/
structure ArbReq where
  losses : Nat := 0
  backoff : Bool := false
  deriving DecidableEq, Repr

/-- One comb arbiter (R306 to R311). -/
structure Arbiter where
  grants : Nat := 0
  ptr : Map Nat := []
  reqs : Map ArbReq := []
  deriving DecidableEq, Repr

structure Sched where
  arbs : Map Arbiter := []
  /-- The lottery LFSR and the comb cycle of its state (R307). -/
  lottery : Nat := 0xACE1
  cycle : Nat := 0
  /-- The time servo (R298, R299): exchange number, outstanding request with its time, samples within 5 ns in a row,
  periods without a response, nanoseconds still to slew. -/
  syncSeq : Nat := 0
  syncOut : Option (Nat × Nat) := none
  good : Nat := 0
  silent : Nat := 0
  slew : Int := 0
  /-- The slew in force: nanoseconds between two corrections of 1 ns, negative for a loss; 0 for none (R299). -/
  pace : Int := 0
  deriving DecidableEq, Repr

/-! ### Foragers (R313 to R353) and memory ordering (R354 to R370) -/

inductive ThreadState where
  | idle | running | stopped | reset
  deriving DecidableEq, Repr

/-- The target of an access and of a reservation (R357, R365). -/
inductive Target where
  | hive (h : Nat)
  | store
  | host (link : Nat)
  | reg
  | rodata
  deriving DecidableEq, Repr

inductive AccKind where
  | load | store | atomic | lr | sc
  deriving DecidableEq, Repr

/-- One access of a thread, or one aligned piece of a misaligned one (R367), that is issued and not yet performed or
acknowledged (R357 to R360). -/
structure Access where
  id : Nat
  kind : AccKind
  target : Target
  addr : Nat
  width : Nat
  device : Bool := false
  early : Bool := false
  /-- What a store, an SC or a placement writes. -/
  bytes : List Byte := []
  /-- The pieces of one access share a group; the place of this piece in the value, and the bytes of the whole value. -/
  group : Nat := 0
  off : Nat := 0
  total : Nat := 8
  /-- What a load piece has read. -/
  data : Nat := 0
  /-- Destination register, and how a loaded value is extended. -/
  rd : Option GReg := none
  signed : Bool := false
  /-- The access is performed: of a store only its acknowledgement is missing (R358), a load piece has its data. -/
  performed : Bool := false
  /-- A device store has reached its point of order (R358). -/
  reached : Bool := false
  /-- Atomic of R330: function, operands; its emulation (R102): stage 0 native, 1 first read, 2 CAS, the value last read
  and the attempts. -/
  fn : Nat := 0
  op0 : Word := 0
  op1 : Word := 0
  tries : Nat := 0
  stage : Nat := 0
  seen : Nat := 0
  /-- An LR whose reservation an event of R329 has cleared before it is performed. -/
  void : Bool := false
  /-- The key entry whose in-use reference the access holds (R319). -/
  key : Option Nat := none
  /-- The forager address and the PC, for traps. -/
  faddr : Nat := 0
  pc : Nat := 0
  /-- The range of the leaves in use and the function of their context, for R399. -/
  cover : Nat × Nat := (0, 0)
  owner : Nat := 0
  /-- The write is one of a PLACE (R337, R338); the source of a COPY or of a PSEND, its bytes to the waiting call. -/
  place : Bool := false
  call : Bool := false
  /-- A PLACE write in the placement write queue: it waits for the CRC verdict of the packet (R231, R337). -/
  queued : Bool := false
  /-- The sampler's tag of the instruction (R485). -/
  tag : Option Nat := none
  deriving DecidableEq, Repr

/-- What a thread waits for. -/
inductive Wait where
  | none
  | fence (kind : Nat) (rd : GReg)
  | exit
  | packet (rd : GReg)
  | signal (rd : GReg)
  | crc
  /-- A COPY whose source is being read: destination, length, and the failure that ends it after those bytes (cause, address,
  detail); a PSEND likewise: header and payload length. -/
  | copy (rd : GReg) (dst len : Nat) (fail : Option (Nat × Nat × Nat) := .none)
  | send (rd : GReg) (hdr len : Nat)
  deriving DecidableEq, Repr

/-- The inbound window (R334): the packet, where it came from, and its metadata. -/
structure InWindow where
  pkt : Packet
  port : Nat
  vl : Nat
  handle : Nat
  arrived : Nat
  context : Nat
  fromMiss : Bool
  verified : Bool
  tag : Option Nat := none
  deriving DecidableEq, Repr

/-- A handler run (R147). -/
structure Run where
  handler : Nat
  fn : Nat
  pd : Nat
  qpn : Nat
  recv : Nat
  /-- Offset and length of the receive's buffer for slot 0 (R320). -/
  off0 : Nat
  len0 : Nat
  raised : Nat := 0
  /-- The key slots whose key was valid when the run began (R349). -/
  slots : List Nat := []
  /-- The run is to stop when the call in progress ends (R349). -/
  stop : Bool := false
  deriving DecidableEq, Repr

/-- One hardware thread (R313 to R317). -/
structure Thread where
  st : ThreadState := .idle
  priv : Nat := 0
  regs : Map Word := []
  pc : Nat := 0
  code : Nat := 0
  ks : Map Nat := []
  bfault : Bool := false
  trapEn : Nat := 0
  trapCause : Nat := 0
  trapPc : Nat := 0
  trapInfo : Word := 0
  trapDetail : Nat := 0
  trapVec : Nat := 0
  inTrap : Bool := false
  budget : Nat := 0
  events : Nat := 0
  accDomain : Nat := 0
  qpCtx : Nat := 0
  resv : Option (Target × Nat) := none
  pend : List Access := []
  nextAcc : Nat := 0
  wait : Wait := .none
  /-- A store that a waiting fence waited for has failed (R333). -/
  fenceFail : Bool := false
  /-- Address of a failed store whose CONTAINED trap is due (R333). -/
  contained : Option Nat := none
  window : Option InWindow := none
  out : List Byte := []
  /-- The group of the access after which the thread has issued no further instruction. -/
  last : Option Nat := none
  /-- The packet failed its CRC: the next instruction with an effect traps DISCARDED (R337). -/
  discarded : Bool := false
  /-- The sampler's tag of the instruction that waits (R485). -/
  tag : Option Nat := none
  /-- The stage of R289 at which a PSEND is held and counted; 0 for none. -/
  heldAt : Nat := 0
  run : Option Run := none
  deriving DecidableEq, Repr

structure Foragers where
  threads : Map Thread := []
  /-- SRAM of each hive, unlisted bytes 0 (R318). -/
  sram : Map (List Host.Cell) := []
  /-- Forager cycles since each hive's last reset (R317). -/
  cycles : Map Nat := []
  /-- Read-only data, code and entry of the authenticated firmware image (R353). -/
  fwRodata : List Byte := []
  fwCode : List Byte := []
  fwEntry : Nat := 0
  /-- Handlers that wait for a thread, per hive (R148). -/
  waiting : List (Nat × Nat) := []
  deriving DecidableEq, Repr

/-! ### Translation (R381 to R399) -/

/-- A cached leaf or pointer entry: context, level, index of its slot, the entry's value, its address. -/
structure Cached where
  ctx : Nat
  level : Nat
  /-- The virtual address divided by the slot's span. -/
  slot : Nat
  addr : Nat
  value : Word
  deriving DecidableEq, Repr

/-- A walk in progress (R387). -/
structure Walk where
  ctx : Nat
  va : Nat
  /-- 0 read, 1 write, 2 atomic. -/
  kind : Nat
  root : Nat
  ad : Bool
  level : Nat
  addr : Nat
  tries : Nat := 0
  /-- The value in hand while a CAS is out (R391). -/
  cas : Option Word := none
  prefetch : Bool := false
  /-- An invalidation began while the walk was in progress (R397), or its context was rewritten before (R383). -/
  noInstall : Bool := false
  /-- The access that the walk serves; none for a prefetch. -/
  access : Option Nat := none
  /-- The slot of the entry in hand where it is a replica at another slot than the address's own (R386, R391). -/
  slot : Option Nat := none
  /-- The pointer entries read on the way, cached when the walk ends (R390). -/
  nodes : List Cached := []
  deriving DecidableEq, Repr

/-- Who makes an access that is translated (R381). -/
inductive Client where
  /-- The handler image of a function's command. -/
  | command (fn : Nat)
  /-- The next descriptor of a queue pair's send or receive queue. -/
  | descriptor (qpn : Nat) (recv : Bool)
  /-- The write at the front of a function's completions and records. -/
  | record (fn : Nat)
  | read (use : ReadFor)
  | place (use : PlaceFor)
  | atomic (qpn conn psn : Nat)
  | thread (t : Nat)
  deriving DecidableEq, Repr

/-- An access whose translation waits for a walk: the context values with which it started (R383), and the leaves of its pages
so far (R395). -/
structure Opened where
  who : Client
  /-- The number of its first walk. -/
  id : Nat
  fn : Nat
  va : Nat
  len : Nat
  kind : Nat
  root : Nat
  ad : Bool
  enable : Bool
  /-- The context was rewritten since: it neither uses nor fills the cache (R383). -/
  stale : Bool := false
  /-- The leaf that serves the page at an address. -/
  got : List (Nat × Cached) := []
  /-- The status and DETAIL of the fault in which a walk for it ended (R389). -/
  fault : Option (Nat × Nat) := none
  /-- An INV_XLT waits for it (R399). -/
  awaited : Bool := false
  deriving DecidableEq, Repr

structure Xlate where
  leaves : List Cached := []
  nodes : List Cached := []
  walks : Map Walk := []
  opens : List Opened := []
  deriving DecidableEq, Repr

/-! ### Faults, lichen monitor, boot, package, counters -/

/-- A firing of reactions that waits (R408). -/
structure Reaction where
  source : Nat
  info : Nat
  suppress : Bool := false
  /-- The fabric time at which it became due. -/
  due : Nat := 0
  deriving DecidableEq, Repr

structure Faults where
  reactions : List Reaction := []
  notifies : List Nat := []
  /-- Crossings whose drain timeout runs (R24). -/
  drains : List Nat := []
  /-- Lasting causes (R404) and the block reset under way (R409). -/
  units : List Nat := []
  aliveLevel : Bool := false
  rootLost : Bool := false
  /-- REFCLK_B has stopped (R33). -/
  refbStop : Bool := false
  deriving DecidableEq, Repr

/-- A retirement in force (R424): kind, port, lane, array, row, reason. -/
structure Retire where
  row : Bool
  port : Nat
  lane : Nat
  array : Nat
  rowNo : Nat
  reason : Nat
  deriving DecidableEq, Repr

structure Proposal where
  id : Nat
  what : Retire
  deriving DecidableEq, Repr

structure Lichen where
  /-- Records that wait in the retained buffer (R427), and records written this hour (R426). -/
  buffer : List (List Word) := []
  hourCount : Nat := 0
  dropped : Nat := 0
  /-- Corrected sources with an EVENT record this hour; the record still waits, so that occurrences fold into it (R426). -/
  folded : Map Bool := []
  hourCorr : Nat := 0
  hourCont : Nat := 0
  hourFatal : Nat := 0
  hourTjMax : Option Nat := none
  hourTjMin : Option Nat := none
  hourCycles : Nat := 0
  /-- Thermal cycle tracking (R428): last minimum, peak, rising. -/
  tjLow : Option Nat := none
  tjPeak : Option Nat := none
  proposals : List Proposal := []
  nextProposal : Nat := 0
  declined : List (Retire × Nat) := []
  retired : List Retire := []
  /-- Rows that firmware has mapped to spares when it last loaded from the log: array and row (R422). -/
  mapped : List (Nat × Nat) := []
  bootCount : Nat := 0
  /-- Slot within the head sector, and sectors skipped since power-on (R424). -/
  headSlot : Nat := 0
  skipped : List Nat := []
  hoursSincePlan : Nat := 0
  /-- The rail: set point in 0.1 mV confirmed and wanted, attempts of the write that is out (R459, R460). -/
  vset : Nat := 8000
  vgoal : Nat := 8000
  avsOut : Bool := false
  avsRead : Bool := false
  avsTries : Nat := 0
  avsRetry : Bool := false
  lastTarget : Option Nat := none
  /-- The smallest EYE_MV that the re-plan under way found. -/
  planEye : Nat := 0
  calNs : Nat := 0
  deriving DecidableEq, Repr

/-- The fuses (R446). -/
structure Fuses where
  rootHash : List Byte := []
  debugHash : List Byte := []
  /-- The P-384 private key of the device identity: no register and no JTAG instruction reads it. -/
  identity : List Byte := []
  /-- Fuse words whose read fails its check at reset (R402, R437). -/
  bad : List Nat := []
  pubkey : List Byte := []
  serial : Nat := 0
  minSvn : Nat := 0
  production : Bool := false
  v0 : Nat := 0
  slope : Nat := 0
  deriving DecidableEq, Repr

/-- The AER registers of a host link that R412 names: the status of the corrected and of the uncorrectable internal error, their masks,
and the severity of the second. The reset values are PCIe's (log entry 53). -/
structure Aer where
  corrected : Bool := false
  uncorrectable : Bool := false
  maskCorrected : Bool := true
  maskUncorrectable : Bool := true
  fatal : Bool := true
  deriving DecidableEq, Repr

/-- A CXL.mem access that waits while the STORE crossing is quiesced (R23, R108): a line, and the bytes of a write. -/
structure CxlReq where
  link : Nat
  line : Nat
  write : Option (List (Option Byte)) := none
  deriving DecidableEq, Repr

/-- A place in an array that ECC or parity protects (R402). -/
inductive SoftSite where
  /-- Keeper SRAM, by array and row. -/
  | keeper (row : Nat)
  /-- An input or replay buffer of a port. -/
  | link (port : Nat)
  /-- An entry of the EID table. -/
  | eid (e : Nat)
  /-- A crossbar buffer, by its output port. -/
  | xbar (port : Nat)
  /-- Hive SRAM, by hive and offset. -/
  | hive (h off : Nat)
  /-- An instruction-cache line of a hive, by code offset. -/
  | code (h off : Nat)
  /-- A store byte. -/
  | store (a : Nat)
  deriving DecidableEq, Repr

/-- A bit error that stands in an array until it is met: one that the device can correct, or not (R402; log entry 54). -/
structure Soft where
  site : SoftSite
  corrected : Bool
  deriving DecidableEq, Repr

structure Boot where
  /-- CHIP_RESET_N or a rail holds the device in reset (R462, R465). -/
  inReset : Bool := true
  /-- The level of CHIP_RESET_N is low. -/
  resetLow : Bool := true
  /-- The reset kind of R430 that the next boot reports. -/
  kind : Nat := 1
  fuses : Fuses := {}
  boardId : Nat := 0
  mode : Nat := 0
  /-- The nonce of an open challenge (R448), the lockout after a failed response. -/
  nonce : Option (List Byte) := none
  lockout : Bool := false
  idKeyOff : Bool := false
  jtag : Option JtagInstr := none
  isolated : Bool := false
  /-- PERST# low per host port, bits 0 to 3, and host links in L0, bits 0 to 7. -/
  perst : Nat := 15
  linkUp : Nat := 0
  cxlLinks : Nat := 0
  /-- The AER registers of each host link (R412), and the CXL.mem accesses that wait (R23). -/
  aer : Map Aer := []
  cxlWait : List CxlReq := []
  /-- The flash operation in progress (R444): 1 ERASE, 2 PROGRAM, 3 READ, 4 VERIFY. -/
  flashOp : Option Nat := none
  flashAddr : Nat := 0
  flashData : Nat := 0
  /-- The range of the release that runs. -/
  slotBase : Nat := 0
  smbusOffset : Nat := 0
  thermTrip : Bool := false
  tj : Nat := 0
  stbyUp : Bool := true
  railsUp : Nat := 0
  deriving DecidableEq, Repr

/-- A tagged item of the sampler (R484, R485). -/
structure Tag where
  id : Nat
  packet : Bool
  fn : Option Nat := none
  pd : Nat := 0
  stages : List (Nat × Nat) := []
  t0 : Nat := 0
  what : Nat := 0
  whr : Word := 0
  thread : Nat := 0
  deriving DecidableEq, Repr

structure Counters where
  sampleLfsr : Nat := 0x1D0F
  left : Nat := 0
  leftPkt : Nat := 0
  tags : List Tag := []
  nextTag : Nat := 0
  /-- The samples copied by INDEX writes through slot views (R489): INDEX and DATA words by slot. -/
  views : Map (Word × List Word) := []
  deriving DecidableEq, Repr

/-- Loopback test state (R40): packets made, PRBS31 state, packets inside the crossbar. -/
structure Spare where
  count : Nat := 0
  prbs : Nat := 0x7FFFFFFF
  inFlight : List (List Byte) := []
  deriving DecidableEq, Repr

/-- The whole state of the block. -/
structure State where
  /-- The registers that have been written since their last reset, by address (R10, R16). -/
  regs : Map Word := []
  /-- Cycles of the root clock since power-on, and the root clock stopped (R33). -/
  root : Nat := 0
  /-- Fabric time in ns (R298). -/
  time : Nat := 0
  tp : Transport := {}
  km : Keys := {}
  mt : Match := {}
  sw : Swarm := {}
  rt : Route := {}
  ports : Map Port := []
  sc : Sched := {}
  fg : Foragers := {}
  xl : Xlate := {}
  ft : Faults := {}
  lch : Lichen := {}
  bt : Boot := {}
  ctr : Counters := {}
  spare : Spare := {}
  /-- Bytes of the store, unlisted bytes 0 (R433); 8-byte units with an uncorrected error (R105). -/
  store : List Host.Cell := []
  poison : List Nat := []
  /-- Bit errors in the arrays that ECC or parity protects (R402), but for those of `poison`. -/
  soft : List Soft := []
  /-- Bytes of the flash, unlisted bytes 0xFF (erased). -/
  flash : List Host.Cell := []
  /-- What the block has sent to the outside, in order. -/
  out : List Output := []
  /-- The index of the next free value (a counter of the model's own). -/
  free : Nat := 0
  /-- The commands that wait, first in first out. -/
  pending : List Instr := []
  deriving DecidableEq, Repr

/-- The machine right after a power-on reset, with CHIP_RESET_N still low (R430, R437 step 1 not yet begun): every
register at its reset value, every structure empty. -/
def State.reset : State := {}

end Sys2Proof.Machine
end

