-- ==== Sys2Proof/Machine/Ops.lean ====
section
/-! DEFINITION. The named operations over the state: maps, byte strings, memories, registers and their fields, the
output, free values. -/

namespace Sys2Proof.Machine

/-! ### Maps -/

/-- The value of a key. -/
def mget {β : Type} : Map β → Nat → Option β
  | [], _ => none
  | (k, v) :: m, a => if k = a then some v else mget m a

/-- Set a key; the keys stay in rising order. -/
def mset {β : Type} : Map β → Nat → β → Map β
  | [], a, v => [(a, v)]
  | (k, w) :: m, a, v => if a < k then (a, v) :: (k, w) :: m else if k = a then (a, v) :: m else (k, w) :: mset m a v

/-- Remove a key. -/
def mdel {β : Type} (m : Map β) (a : Nat) : Map β := m.filter fun p => p.1 != a

/-- The value of a key, or a default. -/
def mgetD {β : Type} (m : Map β) (a : Nat) (d : β) : β := (mget m a).getD d

/-- Change the value of a key that is there. -/
def mmod {β : Type} (m : Map β) (a : Nat) (f : β → β) : Map β :=
  match mget m a with
  | some v => mset m a (f v)
  | none => m

/-- The keys are strictly rising. -/
def Map.wf {β : Type} (m : Map β) : Bool := decide ((m.map Prod.fst).Pairwise (· < ·))

/-! ### Lists -/

/-- The value at a position, or 0. -/
def nth (l : List Nat) (i : Nat) : Nat := l.getD i 0

/-- Change the value at a position; the list is filled with 0 up to it. -/
def setNth (l : List Nat) (i v : Nat) : List Nat := (l ++ List.replicate (i + 1 - l.length) 0).set i v

/-! ### Byte strings (R8, R9) -/

/-- The low `n` bytes of a number, lowest first. -/
def leBytes : Nat → Nat → List Byte
  | 0, _ => []
  | n + 1, v => BitVec.ofNat 8 v :: leBytes n (v / 256)

/-- The low `n` bytes of a number, highest first. -/
def beBytes (n v : Nat) : List Byte := (leBytes n v).reverse

/-- The number that bytes spell, lowest first. -/
def ofLE : List Byte → Nat
  | [] => 0
  | b :: l => b.toNat + 256 * ofLE l

/-- The number that bytes spell, highest first. -/
def ofBE (l : List Byte) : Nat := l.foldl (fun a b => 256 * a + b.toNat) 0

/-- Bytes `[a, a + n)` of a string; bytes beyond its end read 0. -/
def slice (l : List Byte) (a n : Nat) : List Byte := ((l.drop a).take n) ++ List.replicate (n - (l.drop a).length) 0

/-- The 64-bit little-endian words of a string (R9). -/
def toWords : Nat → List Byte → List Word
  | 0, _ => []
  | n + 1, l => BitVec.ofNat 64 (ofLE (l.take 8)) :: toWords n (l.drop 8)

/-- The bytes of little-endian words (R9). -/
def ofWords (ws : List Word) : List Byte := ws.flatMap fun w => leBytes 8 w.toNat

/-- Word `n` of a structure, or 0. -/
def wordAt (ws : List Word) (n : Nat) : Word := ws.getD n 0

/-- A number as a signed one of `w` bits. -/
def toSigned (w v : Nat) : Int := if 2 ^ (w - 1) ≤ v % 2 ^ w then (v % 2 ^ w : Nat) - (2 ^ w : Int) else (v % 2 ^ w : Nat)

/-- An integer as a number of `w` bits, two's complement. -/
def ofInt (w : Nat) (v : Int) : Nat := (v % (2 ^ w : Int)).toNat

/-- Flag as a number. -/
def flag (b : Bool) (n : Nat) : Nat := if b then n else 0

/-! ### CRCs (R118, R229) -/

/-- One step of the reflected CRC-32C register (R118). -/
def crc32cBit (c : BitVec 32) : BitVec 32 := if c.getLsbD 0 then (c >>> 1) ^^^ 0x82F63B78#32 else c >>> 1

/-- The CRC-32C register after one more byte, least significant bit first. -/
def crc32cByte (c : BitVec 32) (b : Byte) : BitVec 32 :=
  crc32cBit (crc32cBit (crc32cBit (crc32cBit (crc32cBit (crc32cBit (crc32cBit (crc32cBit (c ^^^ b.setWidth 32))))))))

/-- CRC-32C of a byte string in its usual reflected form (R118). -/
def crc32c (l : List Byte) : BitVec 32 := ~~~ l.foldl crc32cByte 0xFFFFFFFF#32

/-- One step of the link CRC register (R229). -/
def crcLinkBit (c : BitVec 32) : BitVec 32 := if c.getLsbD 31 then (c <<< 1) ^^^ 0x04C11DB7#32 else c <<< 1

/-- The link CRC register after one more byte, most significant bit first. -/
def crcLinkByte (c : BitVec 32) (b : Byte) : BitVec 32 :=
  crcLinkBit (crcLinkBit (crcLinkBit (crcLinkBit (crcLinkBit (crcLinkBit (crcLinkBit (crcLinkBit
    (c ^^^ (b.setWidth 32 <<< 24)))))))))

/-- The CRC of R229 over a byte string. -/
def crcLink (l : List Byte) : BitVec 32 := ~~~ l.foldl crcLinkByte 0xFFFFFFFF#32

/-! ### Memories: lists of (address, byte) in canonical form -/

/-- Read one byte of a memory whose unlisted bytes read `d`. -/
def Memory.read (d : Byte) : List Host.Cell → Nat → Byte
  | [], _ => d
  | (k, v) :: m, a => if k = a then v else Memory.read d m a

/-- Write one byte; writing what an unlisted byte reads as removes the entry. -/
def Memory.write (d : Byte) : List Host.Cell → Nat → Byte → List Host.Cell
  | [], a, b => if b = d then [] else [(a, b)]
  | (k, v) :: m, a, b =>
    if a < k then (if b = d then (k, v) :: m else (a, b) :: (k, v) :: m)
    else if k = a then (if b = d then m else (a, b) :: m)
    else (k, v) :: Memory.write d m a b

/-- The canonical form: strictly rising addresses, and no entry equal to what an unlisted byte reads as. -/
def Memory.wf (d : Byte) (m : List Host.Cell) : Bool :=
  decide ((m.map Prod.fst).Pairwise (· < ·)) && m.all fun c => c.2 != d

/-- Read `n` bytes. -/
def Memory.readN (d : Byte) (m : List Host.Cell) (a n : Nat) : List Byte := (List.range n).map fun i => Memory.read d m (a + i)

/-- Write a byte string. -/
def Memory.writeN (d : Byte) : List Host.Cell → Nat → List Byte → List Host.Cell
  | m, _, [] => m
  | m, a, b :: l => Memory.writeN d (Memory.write d m a b) (a + 1) l

/-! ### Event sources (R400 to R402) -/

/-- The class of a source: 0 corrected, 1 contained, 2 fatal; none for a reserved number (R402, R403). -/
def classOf (n : Nat) : Option Nat :=
  if n < 0x40 then
    if n = 0x006 ∨ n = 0x016 ∨ (0x010 ≤ n ∧ n < 0x014) then some 2
    else if n < 3 ∨ (0x008 ≤ n ∧ n < 0x010) ∨ n = 0x015 then some 1
    else if n = 3 ∨ n = 4 ∨ n = 5 ∨ n = 0x014 then some 0
    else none
  else if n < 0x088 then some 1
  else if n < 0x118 then some 0
  else if n < 0x11B then some 0
  else if n < 0x140 then none
  else if n < 0x180 then
    (if n = 0x141 ∨ n = 0x143 ∨ n = 0x145 then some 1 else if n ≤ 0x145 then some 0 else none)
  else if n < 0x1C0 then
    (if n % 8 = 0 ∨ n % 8 = 2 then some 1 else if n % 8 = 1 ∨ n % 8 = 3 then some 0 else none)
  else if n < 0x200 then (if n = 0x1C0 then some 0 else none)
  else if n < 0x240 then (if n = 0x200 then some 0 else if n = 0x201 then some 1 else none)
  else if n < 0x280 then
    (if n % 16 = 0 ∨ n % 16 = 3 then some 0 else if n % 16 = 1 then some 1 else if n % 16 = 2 then some 2 else none)
  else if n < 0x2C0 then (if n = 0x281 then some 1 else if n < 0x284 then some 0 else none)
  else if n < 0x300 then (if n % 8 = 0 then some 0 else if n % 8 < 4 then some 1 else none)
  else if n < 0x340 then (if n = 0x300 then some 0 else if n < 0x303 then some 1 else none)
  else if n < 0x380 then (if n = 0x344 ∨ n = 0x345 then some 1 else if n < 0x344 then some 0 else none)
  else if n < 0x3A0 then some 0
  else if n < 0x3B8 then some 1
  else if n < 0x3C0 then some 2
  else if n < 0x400 then some 0
  else none

/-- The FM reaction is on at reset for LINK_DOWN, ROUTING and SWARM_ABORT (R410). -/
def fmAtReset (n : Nat) : Bool := (0x040 ≤ n && n < 0x088) || n == 0x141 || n == 0x201

/-! ### Registers -/

/-- The reset value of the register at an address: the one of its table, but for EVT_SRC_CFG_s, whose CLASS is fixed
in silicon and whose FM follows R410 (R400, R410). -/
def resetWord (a rst : Nat) : Word :=
  if 0x101000 ≤ a ∧ a < 0x103000 then
    BitVec.ofNat 64 ((classOf ((a - 0x101000) / 8)).getD 0 * 2 ^ 24 + (if fmAtReset ((a - 0x101000) / 8) then 128 else 0))
  else BitVec.ofNat 64 rst

/-- The word that the register at an address holds, given its reset value. -/
def State.reg (s : State) (a rst : Nat) : Word := (mget s.regs a).getD (resetWord a rst)

/-- The address of a register of an array. -/
def Fld.addr (f : Fld) (i j : Nat) : Nat := f.base + f.s1 * i + f.s2 * j

/-- The value of a register field (R7, R10). -/
def State.rd (s : State) (f : Fld) (i : Nat := 0) (j : Nat := 0) : Nat :=
  bits (s.reg (f.addr i j) f.rst) f.lo f.w

/-- A word with bits `[lo + w - 1 : lo]` replaced. -/
def putBits (x : Word) (lo w v : Nat) : Word :=
  BitVec.ofNat 64 (x.toNat - x.toNat / 2 ^ lo % 2 ^ w * 2 ^ lo + v % 2 ^ w * 2 ^ lo)

/-- Set a register field. -/
def State.wr (s : State) (f : Fld) (v : Nat) (i : Nat := 0) (j : Nat := 0) : State :=
  { s with regs := mset s.regs (f.addr i j) (putBits (s.reg (f.addr i j) f.rst) f.lo f.w v) }

/-- A register field is not 0. -/
def State.on (s : State) (f : Fld) (i : Nat := 0) (j : Nat := 0) : Bool := s.rd f i j != 0

/-- Add to a register field that saturates. -/
def State.sat (s : State) (f : Fld) (n : Nat) (i : Nat := 0) (j : Nat := 0) : State :=
  s.wr f (min (s.rd f i j + n) (2 ^ f.w - 1)) i j

/-- Raise a high-water field. -/
def State.high (s : State) (f : Fld) (v : Nat) (i : Nat := 0) (j : Nat := 0) : State :=
  s.wr f (max (s.rd f i j) (min v (2 ^ f.w - 1))) i j

/-- The field of lane `v` in a pair of registers that hold four lanes each. -/
def laneFld (f : Fld) (v : Nat) : Fld := { f with base := f.base + 8 * (v / 4), lo := 16 * (v % 4) }

/-- Field number `k` of width `w` of a register, from the field whose bits start the row. -/
def subFld (f : Fld) (k w : Nat) : Fld := { f with lo := f.lo + k * w, w := w }

/-- Set every register of a block to its reset value: drop the entries of `[lo, hi)`. -/
def State.resetRegs (s : State) (lo hi : Nat) : State :=
  { s with regs := s.regs.filter fun p => !(decide (lo ≤ p.1) && decide (p.1 < hi)) }

/-! ### Output, free values, identifiers -/

/-- An output that stays within the device, or leaves by JTAG or as THERMTRIP_N, whose comparator stands apart from the core: what
isolation does not hold back (R447, R456). -/
def Output.inner (o : Output) : Bool :=
  match o with
  | .loopback _ | .nmi | .report _ | .tdo _ | .thermTrip | .manager _ => true
  | .regValue req _ => match req with | .host _ | .bar4 _ => false | _ => true
  | _ => false

/-- Send something to the outside; while JTAG isolates the core from its pins, nothing that would leave by them does (R447). -/
def State.emit (s : State) (o : Output) : State :=
  if s.bt.isolated && !o.inner then s else { s with out := s.out ++ [o] }

/-- The next free value. -/
def State.freeVal (s : State) : Nat := Config.free s.free

/-- Take the next free value. -/
def State.takeFree (s : State) : State := { s with free := s.free + 1 }

/-! ### Store, hive SRAM, flash -/

/-- Read store bytes (R103, R433). -/
def State.storeRead (s : State) (a n : Nat) : List Byte := Memory.readN 0 s.store a n

/-- Write store bytes. -/
def State.storeWrite (s : State) (a : Nat) (l : List Byte) : State :=
  { s with store := Memory.writeN 0 s.store a l }

/-- A read of `n` bytes at `a` meets an 8-byte unit with an uncorrected error (R105). -/
def State.poisoned (s : State) (a n : Nat) : Bool := s.poison.any fun u => decide (a < 8 * u + 8) && decide (8 * u < a + n)

/-- A write clears the poison of the units it covers wholly (R105). -/
def State.clearPoison (s : State) (a n : Nat) : State :=
  { s with poison := s.poison.filter fun u => !(decide (a ≤ 8 * u) && decide (8 * u + 8 ≤ a + n)) }

/-- The SRAM of a hive. -/
def State.sramOf (s : State) (h : Nat) : List Host.Cell := mgetD s.fg.sram h []

/-- Write hive SRAM bytes: an error in bytes written is gone (R402). -/
def State.sramWrite (s : State) (h a : Nat) (l : List Byte) : State :=
  { s with
    fg := { s.fg with sram := mset s.fg.sram h (Memory.writeN 0 (s.sramOf h) a l) }
    soft := s.soft.filter fun x => match x.site with | .hive g b => !(g == h && decide (a ≤ b) && decide (b < a + l.length)) | _ => true }

/-- Read flash bytes: erased bytes read 0xFF. -/
def State.flashRead (s : State) (a n : Nat) : List Byte := Memory.readN 0xFF s.flash a n

/-! ### Parts of the state by number -/

/-- A network port. -/
def State.port (s : State) (p : Nat) : Port := mgetD s.ports p {}

/-- Change a network port. -/
def State.setPort (s : State) (p : Nat) (x : Port) : State := { s with ports := mset s.ports p x }

/-- A thread by its device-wide number. -/
def State.thread (s : State) (t : Nat) : Thread := mgetD s.fg.threads t {}

/-- Change a thread. -/
def State.setThread (s : State) (t : Nat) (x : Thread) : State :=
  { s with fg := { s.fg with threads := mset s.fg.threads t x } }

/-- What a function owns. -/
def State.func (s : State) (fn : Nat) : Func := mgetD s.tp.funcs fn {}

/-- Change what a function owns. -/
def State.setFunc (s : State) (fn : Nat) (x : Func) : State := { s with tp := { s.tp with funcs := mset s.tp.funcs fn x } }

/-- A queue pair by device QPN. -/
def State.qp (s : State) (q : Nat) : Option Qp := mget s.tp.qps q

/-- Change a queue pair. -/
def State.setQp (s : State) (q : Nat) (x : Qp) : State := { s with tp := { s.tp with qps := mset s.tp.qps q x } }

/-- The queue pair of a function's local index. -/
def State.qpnOf (s : State) (fn idx : Nat) : Option Nat := mget (s.func fn).qps idx

/-- A fresh number for reads, placements and the like. -/
def State.newId (s : State) : State := { s with tp := { s.tp with nextId := s.tp.nextId + 1 } }

/-- The unit of R436 that is the whole of a crossing's blocks: ROUTE, SWARM, STORE, HOST. -/
def crossingUnit (n : Nat) : Option Nat :=
  match n with
  | 2 => some 80
  | 4 => some 81
  | 5 => some 82
  | 6 => some 83
  | _ => none

/-- A crossing (LANE, LINK, ROUTE, HIVE, SWARM, STORE, HOST, PLATFORM from 0 to 7) admits new work: it is not quiesced, and its blocks
are not in block reset (R22 to R24, R436). -/
def State.admits (s : State) (n : Nat) : Bool :=
  !s.on Reg.GLB_CROSSING_CTRL_QUIESCE n && !(crossingUnit n).any s.ft.units.contains

/-- A bit error that stands in the sites a predicate names, corrected or not (R402). -/
def State.softAt (s : State) (corrected : Bool) (p : SoftSite → Bool) : Option SoftSite :=
  (s.soft.find? fun x => x.corrected == corrected && p x.site).map (·.site)

/-- Errors of a kind at the sites that a predicate names are gone: corrected as they are met, or overwritten. -/
def State.softGone (s : State) (corrected : Bool) (p : SoftSite → Bool) : State :=
  { s with soft := s.soft.filter fun x => !(x.corrected == corrected && p x.site) }

/-! ### Answers of meanings -/

/-- A meaning's answer: the state after the command. -/
def ok (s : State) : Host.Outcome State Fault Refusal := .next s

/-- A meaning of logic that the derived clocks drive: while the root PLL is unlocked the state is held, and the command is given again
(R33; log entry 5). -/
def State.clocked (s : State) (o : Host.Outcome State Fault Refusal) : Host.Outcome State Fault Refusal :=
  if s.ft.rootLost then ok s else o

/-- A meaning of what comes in through a pin: it needs the clocks (R33), and the core that JTAG has not isolated from its pins (R31,
R447). -/
def State.atPins (s : State) (o : Host.Outcome State Fault Refusal) : Host.Outcome State Fault Refusal :=
  if s.ft.rootLost ∨ s.bt.isolated then ok s else o

end Sys2Proof.Machine
end

