-- ==== Sys2Proof/Machine/Crypto.lean ====
section
/-! DEFINITION. SHA-384 and the verification of ECDSA P-384 signatures, which authenticate handler images and firmware
(R350, R351, R441, R448). The spec names the algorithms; what they compute is taken from their standards (log entry 26).
-/

namespace Sys2Proof.Machine

/-- The numbers below 410 that are prime: 80 of them. -/
def shaPrimes : List Nat := (List.range 410).filter fun n => decide (2 ≤ n) && (List.range 21).all fun d => decide (d < 2) || decide (n < d * d) || n % d != 0

/-- The largest number of `f` bits, above what `r` holds already, whose `e`-th power is not above `x`. -/
def rootBits (e : Nat) : Nat → Nat → Nat → Nat
  | 0, _, r => r
  | f + 1, x, r => rootBits e f x (if (r + 2 ^ f) ^ e ≤ x then r + 2 ^ f else r)

/-- The first 64 bits of the fraction of the `e`-th root of a number: the constants of SHA-384 are roots of primes. -/
def rootWord (e n : Nat) : Word := BitVec.ofNat 64 (rootBits e 67 (n * 2 ^ (64 * e)) 0)

/-- The first hash value: square roots of the ninth to the sixteenth prime. -/
def shaInit : List Word := ((shaPrimes.drop 8).take 8).map (rootWord 2)

/-- The round constants: cube roots of the first 80 primes. -/
def shaRoots : List Word := shaPrimes.map (rootWord 3)

/-- The message schedule, newest word first. -/
def shaSchedule : Nat → List Word → List Word
  | 0, w => w
  | f + 1, w =>
    let g (i : Nat) : Word := w.getD i 0
    let s0 := (g 14).rotateRight 1 ^^^ (g 14).rotateRight 8 ^^^ (g 14 >>> 7)
    let s1 := (g 1).rotateRight 19 ^^^ (g 1).rotateRight 61 ^^^ (g 1 >>> 6)
    shaSchedule f ((g 15 + s0 + g 6 + s1) :: w)

/-- One round on the eight working words. -/
def shaRound (v : List Word) (kw : Word × Word) : List Word :=
  let g (i : Nat) : Word := v.getD i 0
  let e := g 4
  let t1 := g 7 + (e.rotateRight 14 ^^^ e.rotateRight 18 ^^^ e.rotateRight 41) + ((e &&& g 5) ^^^ (~~~ e &&& g 6)) + kw.1 + kw.2
  let a := g 0
  let t2 := (a.rotateRight 28 ^^^ a.rotateRight 34 ^^^ a.rotateRight 39) + ((a &&& g 1) ^^^ (a &&& g 2) ^^^ (g 1 &&& g 2))
  [t1 + t2, a, g 1, g 2, g 3 + t1, e, g 5, g 6]

/-- The blocks of 128 bytes, one after another. -/
def shaBlocks : Nat → List Word → List Byte → List Word
  | 0, h, _ => h
  | f + 1, h, l =>
    let w := (List.range 16).map fun i => BitVec.ofNat 64 (ofBE ((l.drop (8 * i)).take 8))
    let ws := (shaSchedule 64 w.reverse).reverse
    let v := (shaRoots.zip ws).foldl shaRound h
    shaBlocks f (h.zipWith (· + ·) v) (l.drop 128)

/-- SHA-384 of a byte string: 48 bytes. -/
def sha384 (l : List Byte) : List Byte :=
  let pad := l ++ [0x80] ++ List.replicate ((128 - (l.length + 17) % 128) % 128) 0 ++ beBytes 16 (8 * l.length)
  ((shaBlocks (pad.length / 128) shaInit pad).flatMap fun w => beBytes 8 w.toNat).take 48

/-- The field prime of P-384, its coefficient b, its base point, and the order of the base point. -/
def p384P : Nat := 39402006196394479212279040100143613805079739270465446667948293404245721771496870329047266088258938001861606973112319
def p384B : Nat := 27580193559959705877849011840389048093056905856361568521428707301988689241309860865136260764883745107765439761230575
def p384Gx : Nat := 26247035095799689268623156744566981891852923491109213387815615900925518854738050089022388053975719786650872476732087
def p384Gy : Nat := 8325710961489029985546751289520108179287853048861315594709205902480503199884419224438643760392947333078086511627871
def p384N : Nat := 39402006196394479212279040100143613805079739270465446667946905279627659399113263569398956308152294913554433653942643

/-- `x ^ e` modulo `m`, by the lowest `f` bits of `e`. -/
def powMod : Nat → Nat → Nat → Nat → Nat → Nat
  | 0, _, _, _, acc => acc
  | f + 1, m, x, e, acc => powMod f m (x * x % m) (e / 2) (if e % 2 = 1 then acc * x % m else acc)

/-- The inverse modulo a prime. -/
def invMod (m x : Nat) : Nat := powMod 384 m (x % m) (m - 2) 1

/-- The sum of two points of P-384; none is the point at infinity. -/
def ecAdd (a b : Option (Nat × Nat)) : Option (Nat × Nat) :=
  match a, b with
  | none, q => q
  | q, none => q
  | some (x1, y1), some (x2, y2) =>
    if x1 = x2 ∧ (y1 + y2) % p384P = 0 then none
    else
      let l := if x1 = x2 then (3 * x1 * x1 + p384P - 3) * invMod p384P (2 * y1) % p384P
        else (y2 + p384P - y1) * invMod p384P (x2 + p384P - x1) % p384P
      let x := (l * l + 2 * p384P - x1 - x2) % p384P
      some (x, (l * (x1 + p384P - x) + p384P - y1) % p384P)

/-- A multiple of a point, by the lowest `f` bits of the factor. -/
def ecMul : Nat → Nat → Option (Nat × Nat) → Option (Nat × Nat) → Option (Nat × Nat)
  | 0, _, _, acc => acc
  | f + 1, k, q, acc => ecMul f (k / 2) (ecAdd q q) (if k % 2 = 1 then ecAdd acc q else acc)

/-- A 97-byte SEC1 uncompressed point that lies on the curve (R350). -/
def ecPoint (l : List Byte) : Option (Nat × Nat) :=
  let x := ofBE ((l.drop 1).take 48)
  let y := ofBE ((l.drop 49).take 48)
  if l.length = 97 ∧ l.head? = some 4 ∧ x < p384P ∧ y < p384P ∧ (y * y + 3 * x) % p384P = (x * x * x + p384B) % p384P
  then some (x, y) else none

/-- The ECDSA signature `sig`, r then s, of a message verifies under a public key (R350). -/
def ecdsaVerify (key sig msg : List Byte) : Bool :=
  let r := ofBE (sig.take 48)
  let s := ofBE ((sig.drop 48).take 48)
  match ecPoint key with
  | none => false
  | some q =>
    if sig.length ≠ 96 ∨ r = 0 ∨ p384N ≤ r ∨ s = 0 ∨ p384N ≤ s then false
    else
      let z := ofBE (sha384 msg) % p384N
      let w := invMod p384N s
      match ecAdd (ecMul 384 (z * w % p384N) (some (p384Gx, p384Gy)) none) (ecMul 384 (r * w % p384N) (some q) none) with
      | some (x, _) => x % p384N == r
      | none => false

end Sys2Proof.Machine
end

