-- ==== Sys2Proof/Machine/Events.lean ====
section
/-! DEFINITION. Event sources, the lifetime-log records that wait, and the performance counters (R400 to R408, R425,
R426, R480 to R483). -/

namespace Sys2Proof.Machine

/-! ### Status codes (R59) -/

def St.success : Nat := 0x00
def St.flushed : Nat := 0x01
def St.aborted : Nat := 0x02
def St.protNak : Nat := 0x03
def St.localProt : Nat := 0x04
def St.translationFault : Nat := 0x05
def St.walkAccessFault : Nat := 0x06
def St.walkTargetFault : Nat := 0x07
def St.stateMiss : Nat := 0x08
def St.receiverFull : Nat := 0x09
def St.retryExceeded : Nat := 0x0A
def St.conflict : Nat := 0x0B
def St.badDescriptor : Nat := 0x0C
def St.remoteOpError : Nat := 0x0D
def St.versionMismatch : Nat := 0x0E
def St.truncated : Nat := 0x0F
def St.cqOverflow : Nat := 0x10
def St.handlerFault : Nat := 0x11
def St.invalidState : Nat := 0x12
def St.resourceExhausted : Nat := 0x13

/-- The owner of an occurrence: function and protection domain (R483). -/
abbrev Owner := Option (Nat × Nat)

/-! ### Lifetime-log records (R425 to R427) -/

/-- The four words of a record; the CRC of R229 covers bytes 0 to 27. A record takes its SEQ when it is programmed (`numbered`). -/
def recordWords (s : State) (type : Nat) (injected copy : Bool) (body body2 : Nat) : List Word :=
  let cal := s.on Reg.LCH_CALENDAR_VALID
  let w0 := type + (if cal then 256 else 0) + (if injected then 512 else 0) + (if copy then 1024 else 0)
    + 2 ^ 48
  let w1 := (if cal then s.rd Reg.LCH_CALENDAR_SECONDS else 0) + s.rd Reg.LCH_LIFE_POH * 2 ^ 40
  let b := leBytes 8 w0 ++ leBytes 8 w1 ++ leBytes 8 body ++ leBytes 4 body2
  [BitVec.ofNat 64 w0, BitVec.ofNat 64 w1, BitVec.ofNat 64 body,
    BitVec.ofNat 64 (body2 % 2 ^ 32 + (crcLink b).toNat * 2 ^ 32)]

/-- A record with its SEQ, and the CRC that follows: the records of the log have rising SEQ in the order of their slots, so that the
highest is the head's (R425, R427; log entry 52). -/
def numbered (seq : Nat) (r : List Word) : List Word :=
  let w0 := BitVec.ofNat 64 (bits (wordAt r 0) 0 16 + seq % 2 ^ 32 * 2 ^ 16 + bits (wordAt r 0) 48 16 * 2 ^ 48)
  let b := slice (ofWords [w0, wordAt r 1, wordAt r 2, wordAt r 3]) 0 28
  [w0, wordAt r 1, wordAt r 2, BitVec.ofNat 64 (bits (wordAt r 3) 0 32 + (crcLink b).toNat * 2 ^ 32)]

/-- Write a record into the retained buffer of 64. Records other than fatal EVENT records are limited to 256 per hour;
one beyond the limit, or one that finds the buffer full, is counted as dropped (R426, R427; log entry 20). -/
def addRecord (s : State) (type body : Nat) (body2 : Nat := 0) (injected : Bool := false) (copy : Bool := false)
    (free : Bool := false) : State :=
  if s.lch.buffer.length ≥ 64 ∨ (!free ∧ s.lch.hourCount ≥ 256) then
    { s with lch := { s.lch with dropped := s.lch.dropped + 1 } }
  else
    let r := recordWords s type injected copy body body2
    let s := { s with lch := { s.lch with buffer := s.lch.buffer ++ [r], hourCount := s.lch.hourCount + (if free then 0 else 1) } }
    s.wr Reg.LCH_LOG_STATUS_BUFFERED s.lch.buffer.length

/-- One more occurrence folded into a record that waits: its BODY2 rises by 1 and its CRC follows (R426). -/
def foldRecord (ws : List Word) : List Word :=
  let b := slice (ofWords ws) 0 24
  let n := min (bits (wordAt ws 3) 0 32 + 1) (2 ^ 32 - 1)
  ws.take 3 ++ [BitVec.ofNat 64 (n + (crcLink (b ++ leBytes 4 n)).toNat * 2 ^ 32)]

/-- A record is the EVENT record of a source. -/
def recordOf (k : Nat) (r : List Word) : Bool := bits (wordAt r 0) 0 8 == 3 && bits (wordAt r 2) 0 10 == k

/-- One more occurrence of a source folds into its newest record, the one of this hour (R426). -/
def foldLast (k : Nat) : List (List Word) → List (List Word)
  | [] => []
  | r :: l => if recordOf k r && !l.any (recordOf k) then foldRecord r :: l else r :: foldLast k l

/-- The records that wait, split at the one that firmware programs next: the oldest, but that the record of a corrected source stays
for the hour in which occurrences fold into it, unless the buffer is full (R426, R427; log entry 20). -/
def nextRecord (folded : Map Bool) (full : Bool) : List (List Word) → Option (List Word × List (List Word))
  | [] => none
  | r :: l =>
    let k := bits (wordAt r 2) 0 10
    if !full && recordOf k r && mgetD folded k false && !l.any (recordOf k) then
      (nextRecord folded full l).map fun x => (x.1, r :: x.2)
    else some (r, l)

/-- The EVENT record of an occurrence (R426): at every firing of a contained or fatal source; of a corrected source once
per power-on hour, with its later occurrences folded into that record. -/
def eventRecord (s : State) (k info cls : Nat) (injected fired : Bool) : State :=
  let body := k + cls * 2 ^ 10 + bits (s.reg (Reg.EVT_SRC_CFG_INT.addr k 0) 0) 0 7 * 2 ^ 12 + info % 2 ^ 32 * 2 ^ 32
  if cls = 0 then
    match mget s.lch.folded k with
    | some waits => if waits then { s with lch := { s.lch with buffer := foldLast k s.lch.buffer } } else s
    | none =>
      if fired then
        let t := addRecord s 3 body 0 injected
        if s.lch.buffer.length < t.lch.buffer.length then { t with lch := { t.lch with folded := mset t.lch.folded k true } } else t
      else s
  else if fired then addRecord s 3 body 0 injected false (cls == 2) else s

/-! ### Occurrences -/

/-- Capture an occurrence in a log while its VALID is 0 (R405). -/
def capture (s : State) (valid inj cls src info time : Fld) (k i c : Nat) (injected : Bool) : State :=
  if s.on valid then s
  else (((((s.wr valid 1).wr inj (if injected then 1 else 0)).wr cls c).wr src k).wr info i).wr time s.time

/-- Step 1 of R408 for one occurrence: STATUS, the logs, the class counter, the record, and the reactions that wait
when STATUS went from 0 to 1. Class counters of R483 are counted by the caller. -/
def raise1 (s : State) (k info : Nat) (injected suppress : Bool) : State :=
  match classOf k with
  | none => s
  | some c =>
    let st := Reg.EVT_STATUS_STATUS
    let fired := !bit (s.reg (st.addr (k / 64) 0) 0) (k % 64)
    let s := s.wr st (s.rd st (k / 64) ||| 2 ^ (k % 64)) (k / 64)
    let s := capture s Reg.FLT_FIRST_LOG0_VALID Reg.FLT_FIRST_LOG0_INJECTED Reg.FLT_FIRST_LOG0_CLASS
      Reg.FLT_FIRST_LOG0_SOURCE Reg.FLT_FIRST_LOG0_INFO Reg.FLT_FIRST_LOG1_TIME k info c injected
    let s := if c = 2 then capture s Reg.FLT_FATAL_LOG0_VALID Reg.FLT_FATAL_LOG0_INJECTED Reg.FLT_FATAL_LOG0_CLASS
      Reg.FLT_FATAL_LOG0_SOURCE Reg.FLT_FATAL_LOG0_INFO Reg.FLT_FATAL_LOG1_TIME k info c injected else s
    let s := s.sat (if c = 0 then Reg.FLT_CLASS_COUNT_CORRECTED else if c = 1 then Reg.FLT_CLASS_COUNT_CONTAINED
      else Reg.FLT_CLASS_COUNT_FATAL) 1
    let s := { s with lch := { s.lch with
      hourCorr := s.lch.hourCorr + (if c = 0 then 1 else 0)
      hourCont := s.lch.hourCont + (if c = 1 then 1 else 0)
      hourFatal := s.lch.hourFatal + (if c = 2 then 1 else 0) } }
    let s := eventRecord s k info c injected fired
    if fired then { s with ft := { s.ft with reactions := s.ft.reactions ++ [⟨k, info % 2 ^ 32, suppress, s.time⟩] } } else s

/-! ### Counters (R480 to R483) -/

/-- The events of device scope: their UNIT is ignored (R482, R483). -/
def deviceScope (ev : Nat) : Bool :=
  ev < 4 || (0x0C7 ≤ ev && ev ≤ 0x0CC) || (0x104 ≤ ev && ev ≤ 0x107) || (0x140 ≤ ev && ev ≤ 0x144)
    || (0x184 ≤ ev && ev ≤ 0x189) || 0x1C2 ≤ ev

/-- The configuration word of a counter selects an occurrence (R482). -/
def selects (v : Word) (ev unit : Nat) (o : Owner) : Bool :=
  bit v 0 && bits v 2 10 == ev && (deviceScope ev || bits v 12 8 == 255 || bits v 12 8 == unit)
    && match bits v 20 2, o with
      | 0, _ => true
      | 1, some (f, _) => bits v 22 11 == f
      | 2, some (f, p) => bits v 22 11 == f && bits v 33 16 == p
      | _, _ => false

/-- The counters that an occurrence advances. -/
def counting (s : State) (ev unit : Nat) (o : Owner) : List Nat :=
  if s.on Reg.CTR_CTRL_FREEZE then []
  else s.regs.filterMap fun p =>
    if 0x3C01000 ≤ p.1 ∧ p.1 < 0x3C02000 ∧ selects p.2 ev unit o then some ((p.1 - 0x3C01000) / 8) else none

/-- What waits to be done about one cycle's occurrences: an event source, or increments of a counted event. -/
inductive Item where
  | event (k info : Nat) (injected suppress : Bool)
  | count (ev unit n : Nat) (o : Owner)
  deriving DecidableEq, Repr

/-- Add `n` to counter `c`; the wrap sets OVF and raises COUNTER_OVERFLOW (R480). -/
def advance (s : State) (c n : Nat) : State × List Item :=
  let v := s.rd Reg.CTR_COUNT_VALUE c + n
  let s := s.wr Reg.CTR_COUNT_VALUE (v % 2 ^ 48) c
  if v < 2 ^ 48 then (s, []) else (s.wr Reg.CTR_COUNT_OVF 1 c, [.event (0x3C0 + c / 8) c false false])

/-- Work off a list of items: an event raises its source and counts its class; a count advances the counters that
select it, and a wrap is one more event. The fuel bounds the chain: every counter wraps at most once in it. -/
def cascade : Nat → List Item → State → State
  | 0, _, s => s
  | _ + 1, [], s => s
  | f + 1, .event k info inj sup :: l, s =>
    match classOf k with
    | none => cascade f l s
    | some c => cascade f (.count (1 + c) 0 1 none :: l) (raise1 s k info inj sup)
  | f + 1, .count ev unit n o :: l, s =>
    let r := (counting s ev unit o).foldl (fun (a : State × List Item) c => let b := advance a.1 c n; (b.1, a.2 ++ b.2)) (s, [])
    cascade f (r.2 ++ l) r.1

/-- Raise an event source (R402, R405). -/
def State.raise (s : State) (k : Nat) (info : Nat := 0) (injected : Bool := false) (suppress : Bool := false) : State :=
  cascade 2000 [.event k info injected suppress] s

/-- What a source carries as the INFO of an error met at a site (R402). -/
def SoftSite.info (x : SoftSite) : Nat :=
  match x with
  | .keeper r => r
  | .link p => p
  | .eid e => e
  | .xbar p => p
  | .hive _ a => a
  | .code _ a => a
  | .store a => a / 64

/-- A read meets a corrected error at a site that a predicate names: it is corrected and reported (R402). -/
def State.corrected (s : State) (p : SoftSite → Bool) (source : Nat) : State :=
  match s.softAt true p with
  | some x => (s.softGone true p).raise source x.info
  | none => s

/-- A read of `n` bytes of a hive's SRAM meets the errors there: corrected ones are reported and gone; whether it meets an uncorrected one,
which is reported (R402). -/
def State.sramMet (s : State) (h a n : Nat) : State × Bool :=
  let mine (x : SoftSite) : Bool := match x with | .hive g b => g == h && decide (a ≤ b) && decide (b < a + n) | _ => false
  let s := s.corrected mine (0x180 + 8 * h + 1)
  match s.softAt false mine with
  | some x => (s.raise (0x180 + 8 * h + 2) x.info, true)
  | none => (s, false)

/-- Count an occurrence of an event of R483. -/
def State.count (s : State) (ev : Nat) (unit : Nat := 0) (n : Nat := 1) (o : Owner := none) : State :=
  if (counting s ev unit o).isEmpty then s else cascade 2000 [.count ev unit n o] s

/-- Advance a saturating register field and count its event. -/
def State.tally (s : State) (f : Fld) (ev : Nat) (unit : Nat := 0) (o : Owner := none) (n : Nat := 1) (i : Nat := 0)
    (j : Nat := 0) : State :=
  (s.sat f n i j).count ev unit n o

/-- The configuration-error source of the block that holds an address (R402, R22). -/
def configSource (a : Nat) : Nat :=
  if a < 0x400000 ∨ (0x3C00000 ≤ a ∧ a < 0x4000000) then 0x003
  else if a < 0xA00000 ∨ 0x4000000 ≤ a then (if 0x4200000 ≤ a then 0x1C0 else 0x300)
  else if a < 0xC00000 then 0x1C0
  else if a < 0x1000000 then 0x200
  else if a < 0x2000000 then 0x140
  else if a < 0x2800000 then (if (a - 0x2000000) / 0x10000 < 36 then 0x118 else 0x119)
  else if a < 0x3000000 then (if a < 0x2810000 ∨ (a - 0x2810000) / 0x1000 < 36 then 0x118 else 0x119)
  else if a < 0x3400000 then 0x1C0
  else if a < 0x3600000 then 0x300
  else if a < 0x3800000 then 0x280
  else 0x140

/-- The BAR0 offset by which software knows a register: the registers that each function has for itself have one offset
in every function's window. -/
def shownOffset (a : Nat) : Nat :=
  if a < 0x4000000 then a
  else if a < 0x4100000 then 0x400000 + a % 32
  else if a < 0x4200000 then 0x801000 + (a - 0x4100000) % 2048
  else 0xA01000 + (a - 0x4200000) % 2048

/-- Raise the configuration-error source for a rejection that names a register, with a status code (R490). -/
def State.configError (s : State) (a : Nat) (status : Nat := St.badDescriptor) : State :=
  s.raise (configSource a) (status + shownOffset a / 8 % 2 ^ 23 * 256)

/-- Is any fatal source's STATUS 1 (R404)? -/
def State.fatalState (s : State) : Bool :=
  (List.range 1024).any fun k => classOf k == some 2 && bit (s.reg (Reg.EVT_STATUS_STATUS.addr (k / 64) 0) 0) (k % 64)

end Sys2Proof.Machine
end

