-- ==== Sys2Proof/Machine/Memory.lean ====
section
/-! DEFINITION. Store partitions, writes to memory with what they clear, the region attribute table and the rules of
the lock words (R38, R103, R105, R355, R365, R371 to R380). -/

namespace Sys2Proof.Machine

/-! ### Partitions (R38) -/

/-- Base and size in bytes of partition `n`; a size of 0 is an absent partition. -/
def State.partOf (s : State) (n : Nat) : Nat × Nat :=
  (s.rd Reg.GLB_STORE_PART_BASE_GIB n * 2 ^ 30, s.rd Reg.GLB_STORE_PART_SIZE_GIB n * 2 ^ 30)

/-- The partitions of a use that are there. -/
def State.partsOf (s : State) (use : Nat) : List Nat :=
  (List.range 16).filter fun n => s.rd Reg.GLB_STORE_PART_USE n == use && s.rd Reg.GLB_STORE_PART_SIZE_GIB n != 0

/-- Bytes in all partitions of a use. -/
def State.useBytes (s : State) (use : Nat) : Nat := ((s.partsOf use).map fun n => (s.partOf n).2).sum

/-- The range `[a, a + n)` lies wholly inside one partition of a use. -/
def State.inUse (s : State) (use a n : Nat) : Bool :=
  (s.partsOf use).any fun p => decide ((s.partOf p).1 ≤ a) && decide (a + n ≤ (s.partOf p).1 + (s.partOf p).2)

/-- The stack that owns a store address (R103; log entry 21). -/
def stackOf (a : Nat) : Nat := a / 2 ^ 35 % 4

/-! ### Attribute table (R355) -/

/-- The attributes of a target address: device, early acknowledgement, response timeout in µs; none where no entry
matches. -/
def State.rat (s : State) (target a : Nat) : Option (Bool × Bool × Nat) :=
  ((List.range 64).find? fun n => s.on Reg.ORD_RAT_ATTR_VALID n && s.rd Reg.ORD_RAT_ATTR_TARGET n == target
      && decide (s.rd Reg.ORD_RAT_BASE_BASE n * 4096 ≤ a) && decide (a ≤ s.rd Reg.ORD_RAT_LIMIT_BASE n * 4096 + 4095)).map
    fun n => (s.on Reg.ORD_RAT_ATTR_TYPE n, s.on Reg.ORD_RAT_ATTR_EARLY_ACK n, s.rd Reg.ORD_RAT_ATTR_TIMEOUT_US n)

/-! ### Reservations (R365) -/

/-- A write of `n` bytes at `a` of a target clears the reservations on the granules it touches. -/
def State.clearResv (s : State) (tg : Target) (a n : Nat) : State :=
  { s with fg := { s.fg with threads := s.fg.threads.map fun p =>
    match p.2.resv with
    | some (t, g) =>
      if t = tg ∧ a / 128 ≤ g ∧ g ≤ (a + n - 1) / 128 then (p.1, { p.2 with resv := none }) else p
    | none => p } }

/-- An event of R329 clears a thread's reservation: the one it holds, and that of an LR that is still to be performed. -/
def Thread.loseResv (x : Thread) : Thread :=
  { x with resv := none, pend := x.pend.map fun a => if a.kind = .lr then { a with void := true } else a }

/-! ### Store accesses (R103, R105) -/

/-- Commit bytes in the store: the memory, the poison that they cover, reservations, the byte counter. -/
def State.commit (s : State) (a : Nat) (l : List Byte) : State :=
  if l.isEmpty then s
  else (((s.storeWrite a l).clearPoison a l.length).clearResv .store a l.length).count 0x181 (stackOf a) l.length

/-- Report the uncorrected error that a read of `[a, a + n)` meets: STORE_UNCORR of the first unit's stack (R105,
R402). -/
def State.reportPoison (s : State) (a n : Nat) : State :=
  match s.poison.find? fun u => decide (a < 8 * u + 8) && decide (8 * u < a + n) with
  | some u => s.raise (0x241 + 16 * stackOf (8 * u)) (8 * u / 64)
  | none => s

/-- The store corrects an error in the bytes that a read covers (R402). -/
def State.storeCorrects (s : State) (a n : Nat) : State :=
  s.corrected (fun x => match x with | .store b => decide (a ≤ b) && decide (b < a + n) | _ => false) (0x240 + 16 * stackOf a)

/-- Read store bytes for a requester: none when a unit holds an uncorrected error, which is then reported. -/
def State.fetchStore (s : State) (a n : Nat) : State × Option (List Byte) :=
  if s.poisoned a n then (s.reportPoison a n, none)
  else ((s.storeCorrects a n).count 0x180 (stackOf a) n, some (s.storeRead a n))

/-! ### CXL.mem (R107, R108) -/

/-- The store address of a line of a link's range; none where the range does not decode it, which it does only after HOST_READY
(R438). The address is an offset in the range (log entry 27). -/
def State.cxlLine (s : State) (link addr : Nat) : Option Nat :=
  let stage := s.rd Reg.BOOT_STATUS_STAGE
  if link < 8 ∧ 4 ≤ stage ∧ stage < 15 ∧ bit (BitVec.ofNat 64 s.bt.cxlLinks) link ∧ s.on Reg.KEY_CXL_MAP_ENABLE link ∧ addr % 64 = 0
      ∧ addr < s.rd Reg.KEY_CXL_MAP_SIZE_GIB link * 2 ^ 30 then
    (s.partsOf 7).head?.map fun p => (s.partOf p).1 + s.rd Reg.KEY_CXL_MAP_BASE_GIB link * 2 ^ 30 + addr
  else none

/-- A CXL.mem read: the line, poisoned where it holds an uncorrected error; an unsupported request where nothing decodes it. -/
def State.cxlRead (s : State) (link addr : Nat) : State :=
  match s.cxlLine link addr with
  | none => s.emit (.cxlData link none false)
  | some a =>
    let bad := s.poisoned a 64
    let s := if bad then s.reportPoison a 64 else s.storeCorrects a 64
    (s.count 0x180 (stackOf a) 64).emit (.cxlData link (some (s.storeRead a 64)) bad)

/-- A CXL.mem write of the bytes of a line that are given; a full line clears its poison. -/
def State.cxlWrite (s : State) (link addr : Nat) (bytes : List (Option Byte)) : State :=
  match s.cxlLine link addr with
  | none => s.emit (.cxlUnsupported link)
  | some a =>
    let w := (bytes.take 64).zipIdx.filterMap fun x => x.1.map fun b => (x.2, b)
    let old := s.storeRead a 64
    let new := (List.range 64).map fun i => ((w.find? (·.1 == i)).map (·.2)).getD (old.getD i 0)
    if w.length = 64 then s.commit a new
    else
      let s := w.foldl (fun s x => (s.storeWrite (a + x.1) [x.2]).clearResv .store (a + x.1) 1) s
      s.count 0x181 (stackOf a) w.length

/-- Serve a CXL.mem access, or hold it back while the STORE crossing is quiesced (R23). -/
def State.cxlServe (s : State) (r : CxlReq) : State :=
  if s.on Reg.GLB_CROSSING_CTRL_QUIESCE 5 ∧ (s.cxlLine r.link r.line).isSome then
    { s with bt := { s.bt with cxlWait := s.bt.cxlWait ++ [r] } }
  else match r.write with
    | none => s.cxlRead r.link r.line
    | some b => s.cxlWrite r.link r.line b

/-- The accesses that waited are served in their order (R23). -/
def State.cxlPump (s : State) : State :=
  s.bt.cxlWait.foldl State.cxlServe { s with bt := { s.bt with cxlWait := [] } }

/-! ### Lock words (R371 to R380) -/

/-- The rules of R372 on a word: identity and holder before, the identity written, the writer's source. The answer is
the identity and holder after, or none for no effect; the flag says a bad release. -/
def lockRule (ident holder free value source : Nat) : Option (Nat × Nat) × Bool :=
  if value ≠ 0 then (if ident = 0 then (some (value, source), false) else (none, false))
  else if holder = source then (some (0, free), false) else (none, true)

/-- A store address lies in an enabled compatibility range (R379). -/
def State.compatRange (s : State) (a n : Nat) : Bool :=
  (List.range 8).any fun k => s.on Reg.LCK_COMPAT_BASE_ENABLE k && decide (s.rd Reg.LCK_COMPAT_BASE_PAGE k * 4096 < a + n)
    && decide (a < s.rd Reg.LCK_COMPAT_LIMIT_PAGE k * 4096 + 4096)

/-- Act on a compatibility word: the value written and the writer's SOURCE. A claim that wins or a release that
succeeds writes the whole word (R378). The flag says that it took effect. -/
def State.compatAct (s : State) (a value source : Nat) : State × Bool :=
  let w := ofLE (s.storeRead a 8)
  match lockRule (w % 2 ^ 16) (w / 2 ^ 16 % 2 ^ 32) 0 value source with
  | (some (i, h), _) => (s.commit a (leBytes 8 (i + h * 2 ^ 16)), true)
  | (none, true) => (s.tally Reg.LCK_STATUS_BAD_RELEASE 0x186, false)
  | (none, false) => (s, false)

/-- Cut `[a, a + l.length)` at 8-byte boundaries. -/
def units : Nat → Nat → List Byte → List (Nat × List Byte)
  | 0, _, _ => []
  | f + 1, a, l => if l.isEmpty then [] else (a, l.take (8 - a % 8)) :: units f (a + (8 - a % 8)) (l.drop (8 - a % 8))

/-- Place bytes in the store for a writer with a SOURCE: aligned 8-byte units in a compatibility range are claims and
releases, smaller ones there are discarded and counted (R379). -/
def State.placeStore (s : State) (a : Nat) (l : List Byte) (source : Nat) : State :=
  if s.compatRange a l.length then
    (units (l.length + 1) a l).foldl (fun s u =>
      if s.compatRange u.1 u.2.length then
        (if u.2.length = 8 then (s.compatAct u.1 (ofLE u.2 % 2 ^ 16) source).1
         else s.tally Reg.LCK_STATUS_COMPAT_DISCARDS 0x189)
      else s.commit u.1 u.2) s
  else s.commit a l

/-- The SOURCE of a remote writer (R379). -/
def remoteSource (eid : Nat) : Nat := 2 ^ 31 + eid % 2 ^ 20

end Sys2Proof.Machine
end

