-- ==== Sys2Proof/Machine/Sampler.lean ====
section
/-! DEFINITION. The sampler: intervals, tags, stages, records (R484 to R487). -/

namespace Sys2Proof.Machine

/-! ### For whom things happen (R483) -/

/-- The owner that the occurrences of a queue pair count for (R483). -/
def Qp.owner (q : Qp) : Owner := some (q.fn, q.pd)

/-- The owner of a queue pair by its number. -/
def State.qpOwner (s : State) (n : Nat) : Owner := (s.qp n).bind (·.owner)

/-- The owner that a thread's occurrences count for (R483). -/
def State.threadOwner (s : State) (t : Nat) : Owner :=
  match (s.thread t).run with
  | some r => some (r.fn, r.pd)
  | none => s.qpOwner (s.thread t).qpCtx

/-- The owner of a group's member on the device. -/
def State.memberOwner (s : State) (gid : Nat) : Owner :=
  (((mget s.sw.fronds gid).bind (·.cur)).bind (·.member)).bind fun m => s.qpOwner m.1

/-- The owner of a host read (R483). -/
def State.readOwner (s : State) (use : ReadFor) : Owner :=
  match use with
  | .source n _ _ _ => s.qpOwner n
  | .resend n _ _ _ => s.qpOwner n
  | .getResp n _ _ _ _ => s.qpOwner n
  | .swarm gid _ => s.memberOwner gid

/-- The owner of a placement (R483). -/
def State.placeOwner (s : State) (use : PlaceFor) : Owner :=
  match use with
  | .put n _ _ _ => s.qpOwner n
  | .get n _ _ _ => s.qpOwner n
  | .fetch n _ _ _ => s.qpOwner n
  | .eager n _ _ _ _ => s.qpOwner n
  | .copy n _ _ => s.qpOwner n
  | .swarm gid _ => s.memberOwner gid

/-- The owner of an access that is translated (R483); a command has none. -/
def State.clientOwner (s : State) (who : Client) : Owner :=
  match who with
  | .descriptor n _ => s.qpOwner n
  | .record fn => (s.tp.writes.find? fun w => w.fn == fn).bind (·.owner)
  | .read use => s.readOwner use
  | .place use => s.placeOwner use
  | .atomic n _ _ => s.qpOwner n
  | .thread t => s.threadOwner t
  | .command _ => none

/-- What a host link logs as a read ends (R402): a completion timeout, and a poisoned TLP, whose data is discarded, are uncorrectable
errors of PCIe; the status bits are those of PCI Express (log entry 53). -/
def State.linkLogs (s : State) (link : Nat) (r : HostRes) : State :=
  match r with
  | .poisoned => (s.raise (0x2C0 + 8 * link + 1) (2 ^ 12)).raise (0x2C0 + 8 * link + 3)
  | .timeout => s.raise (0x2C0 + 8 * link + 1) (2 ^ 14)
  | _ => s

/-! ### Intervals (R484) -/

/-- One step of a 32-bit linear-feedback shift register: the state moves up by one bit, and the XOR of the tapped bits
comes in at the bottom (log entry 28). -/
def lfsr (taps : List Nat) (x : Nat) : Nat := x * 2 % 2 ^ 32 + (taps.map fun b => x / 2 ^ b % 2).sum % 2

/-- The sampling LFSR: x^32 + x^31 + x^30 + x^10 + 1 (R484). -/
def lfsrSample (x : Nat) : Nat := lfsr [31, 30, 29, 9] x

/-- Draw the next interval of a kind (R484). -/
def State.drawInterval (s : State) (packet : Bool) : State :=
  let x := lfsrSample s.ctr.sampleLfsr
  let m := 2 ^ s.rd Reg.CTR_SAMPLE_CFG_MEAN_LOG2
  let n := m / 2 + x % m
  if packet then { s with ctr := { s.ctr with sampleLfsr := x, leftPkt := n } }
  else { s with ctr := { s.ctr with sampleLfsr := x, left := n } }

/-- The fields that count tags in flight follow them. -/
def State.tagsShown (s : State) : State :=
  (s.wr Reg.CTR_SAMPLE_STATUS_INSTR_IN_FLIGHT (s.ctr.tags.filter (!·.packet)).length).wr
    Reg.CTR_SAMPLE_STATUS_PKT_IN_FLIGHT (s.ctr.tags.filter (·.packet)).length

/-- An item passes the sampler's filter (R482, R484). -/
def State.eligible (s : State) (packet : Bool) (o : Owner) : Bool :=
  s.on Reg.CTR_SAMPLE_CFG_ENABLE && s.on (if packet then Reg.CTR_SAMPLE_CFG_PACKETS else Reg.CTR_SAMPLE_CFG_INSTR)
    && match s.rd Reg.CTR_SAMPLE_CFG_FILTER, o with
      | 0, _ => true
      | 1, some (f, _) => s.rd Reg.CTR_SAMPLE_CFG_FUNCTION == f
      | 2, some (f, p) => s.rd Reg.CTR_SAMPLE_CFG_FUNCTION == f && s.rd Reg.CTR_SAMPLE_CFG_PD == p
      | _, _ => false

/-- Count an item; the one that ends the interval is tagged, at most 16 of a kind at a time (R484, R485). Stage 0 was reached at `t0`. -/
def State.sample (s : State) (packet : Bool) (o : Owner) (what : Nat) (whr : Word) (thread t0 : Nat) : State × Option Nat :=
  if !s.eligible packet o then (s, none)
  else
    let n := if packet then s.ctr.leftPkt else s.ctr.left
    if 1 < n then
      (if packet then { s with ctr := { s.ctr with leftPkt := n - 1 } } else { s with ctr := { s.ctr with left := n - 1 } }, none)
    else
      let s := s.drawInterval packet
      if 16 ≤ (s.ctr.tags.filter (·.packet == packet)).length then (s.sat Reg.CTR_SAMPLE_STATUS_SKIPPED 1, none)
      else
        let id := s.ctr.nextTag
        let t : Tag := { id := id, packet := packet, fn := o.map (·.1), pd := (o.map (·.2)).getD 0, stages := [(0, t0)],
                         t0 := t0, what := what, whr := whr, thread := thread }
        ({ s with ctr := { s.ctr with tags := s.ctr.tags ++ [t], nextTag := id + 1 } }.tagsShown, some id)

/-- A tagged item reaches a stage (R485). -/
def State.stampAt (s : State) (tag : Option Nat) (k time : Nat) : State :=
  match tag with
  | none => s
  | some id => { s with ctr := { s.ctr with tags := s.ctr.tags.map fun (t : Tag) =>
      if t.id = id then { t with stages := mset t.stages k time } else t } }

/-- A tagged item reaches a stage now. -/
def State.stamp (s : State) (tag : Option Nat) (k : Nat) : State := s.stampAt tag k s.time

/-- A tagged packet leaves by a port, which its record names (R486). -/
def State.tagPort (s : State) (tag : Option Nat) (p : Nat) : State :=
  match tag with
  | none => s
  | some id => { s with ctr := { s.ctr with tags := s.ctr.tags.map fun (t : Tag) => if t.id = id then { t with whr := putBits t.whr 20 7 p } else t } }

/-- The delta of a stage: 0 when not reached, all ones when above (R486). -/
def Tag.delta (t : Tag) (k : Nat) : Nat :=
  match mget t.stages k with
  | some x => min (x - t.t0) (2 ^ 32 - 1)
  | none => 0

/-- The 64 bytes of a record (R486). -/
def Tag.record (t : Tag) (seq : Nat) (truncated : Bool) : List Byte :=
  let stages := (t.stages.map fun p => 2 ^ p.1).sum
  let own := match t.fn with
    | some f => 2 ^ 11 + f * 2 ^ 12 + t.pd * 2 ^ 23
    | none => 0
  ofWords ((([(if t.packet then 1 else 0) + 2 + stages * 4 + (if truncated then 2 ^ 10 else 0) + own,
    seq, t.t0, t.delta 1 + t.delta 2 * 2 ^ 32, t.delta 3 + t.delta 4 * 2 ^ 32, t.delta 5 + t.delta 6 * 2 ^ 32,
    t.delta 7 + t.what * 2 ^ 32] : List Nat).map (BitVec.ofNat 64)) ++ [t.whr])

/-- The ring of the sampler: its base and number of records (R486). -/
def State.sampleRing (s : State) : Nat × Nat :=
  let p := s.partOf (s.rd Reg.CTR_SAMPLE_CFG_PARTITION)
  (p.1, p.2 / 64)

/-- A tagged item ends: its record is written (R485, R486). -/
def State.endTag (s : State) (tag : Option Nat) (truncated : Bool := false) : State :=
  match tag.bind fun id => s.ctr.tags.find? (·.id == id) with
  | none => s
  | some t =>
    let s := { s with ctr := { s.ctr with tags := s.ctr.tags.filter (·.id != t.id) } }.tagsShown
    let r := s.sampleRing
    if r.2 = 0 then s
    else
      let n := s.rd Reg.CTR_SAMPLE_PROD_PROD
      (s.commit (r.1 + 64 * (n % r.2)) (t.record n truncated)).wr Reg.CTR_SAMPLE_PROD_PROD (n + 1)

/-- R485: a tagged item is in flight for HOLD_US: its record is written with TRUNCATED 1. -/
def execSampleHoldExpiry (tag : Nat) (s : State) : Host.Outcome State Fault Refusal := s.clocked <| ok (s.endTag (some tag) true)

end Sys2Proof.Machine
end

