-- ==== Sys2Proof/Machine/Xlate.lean ====
section
/-! DEFINITION. Address translation: the leaf and node caches, walks, their faults, invalidation (R381 to R399). A
translation is asked for by a command; where the leaf is cached it is answered at once, else a walk starts, and the
command is given again when the walk has ended (log entry 5). -/

namespace Sys2Proof.Machine

/-- Kinds of access (R387). -/
def accRead : Nat := 0
def accWrite : Nat := 1
def accAtomic : Nat := 2

/-- The span of one slot of a level (R383). -/
def spanOf (level : Nat) : Nat := 2 ^ (12 + 9 * level)

/-- The log of a leaf's size (R384). -/
def leafLog (v : Word) : Nat := bits v 58 6 + 12

/-- The bus address that an entry holds (R384). -/
def entryAddr (v : Word) : Nat := bits v 12 46 * 4096

/-- A leaf is well formed at a level (R385). -/
def leafOk (v : Word) (level : Nat) : Bool :=
  decide (9 * level ≤ bits v 58 6) && decide (bits v 58 6 ≤ (if level = 4 then 45 else 9 * level + 8))
    && entryAddr v % 2 ^ leafLog v == 0

/-- The detail of a denied access (R387, R388). -/
def leafDenied (v : Word) (kind : Nat) : Option Nat :=
  if kind ≠ accWrite ∧ !bit v 2 then some 18
  else if kind ≠ accRead ∧ !bit v 3 then some 19
  else none

/-- The leaf lacks bits that an access must set (R387, R392). -/
def needsBits (ad : Bool) (v : Word) (kind : Nat) : Bool := ad && (!bit v 5 || (kind != accRead && !bit v 6))

/-- The leaf with ACCESSED set, and DIRTY unless the access reads (R387). -/
def withBits (v : Word) (kind : Nat) : Word := v ||| BitVec.ofNat 64 (if kind = accRead then 32 else 96)

/-- Update the occupancy fields of XLT_CACHE_STATUS. -/
def State.xlShown (s : State) : State :=
  (s.wr Reg.XLT_CACHE_STATUS_LEAF_USED s.xl.leaves.length).wr Reg.XLT_CACHE_STATUS_NODE_USED s.xl.nodes.length

/-- Count, log and raise a fault (R389). -/
def State.xlFault (s : State) (fn va kind status detail level addr : Nat) : State :=
  let s := if status = St.walkAccessFault ∨ status = St.walkTargetFault then s.raise 0x302 fn else s
  let s := if s.on Reg.XLT_FAULT_LOG0_VALID then s else
    let s := ((s.wr Reg.XLT_FAULT_LOG0_VALID 1).wr Reg.XLT_FAULT_LOG0_WRITE (if kind = accRead then 0 else 1)).wr
      Reg.XLT_FAULT_LOG0_STATUS status
    let s := ((s.wr Reg.XLT_FAULT_LOG0_DETAIL detail).wr Reg.XLT_FAULT_LOG0_LEVEL level).wr Reg.XLT_FAULT_LOG0_FUNCTION fn
    (s.wr Reg.XLT_FAULT_LOG1_VA va).wr Reg.XLT_FAULT_LOG2_WALK_ADDR addr
  s.tally Reg.XLT_COUNT_FAULTS 0x1CC 0 (some (fn, 0))

/-- Change the access that a walk serves. -/
def State.modOpened (s : State) (w : Walk) (f : Opened → Opened) : State :=
  match w.access with
  | none => s
  | some id => { s with xl := { s.xl with opens := s.xl.opens.map fun a => if a.id = id then f a else a } }

/-- Entries in order of use with the newest last: over `cap` of them, the oldest that no walk is using leaves. -/
def evict (cap : Nat) (busy : Cached → Bool) (l : List Cached) : List Cached :=
  if l.length ≤ cap then l else
    match l.find? fun c => !busy c with
    | some c => l.erase c
    | none => l.drop 1

/-- A walk has a cached leaf in hand whose bits it sets (R391). -/
def State.walkUses (s : State) (c : Cached) : Bool := s.xl.walks.any fun w => w.2.cas.isSome && w.2.ctx == c.ctx && w.2.addr == c.addr

/-- Put a leaf into the cache; the least recently used one that no walk is using leaves when 32,768 are held. -/
def State.installLeaf (s : State) (c : Cached) : State :=
  let l := (s.xl.leaves.filter fun x => !(x.ctx == c.ctx && x.addr == c.addr)) ++ [c]
  { s with xl := { s.xl with leaves := evict 32768 s.walkUses l } }.xlShown

/-- Put a pointer entry into the cache of 4,096. -/
def State.installNode (s : State) (c : Cached) : State :=
  let l := (s.xl.nodes.filter fun x => !(x.ctx == c.ctx && x.addr == c.addr)) ++ [c]
  { s with xl := { s.xl with nodes := evict 4096 (fun _ => false) l } }.xlShown

/-- The pointers that a walk has read enter the cache, unless an invalidation began meanwhile (R397). -/
def State.installNodes (s : State) (w : Walk) : State := if w.noInstall then s else w.nodes.foldl State.installNode s

/-- A walk ends in a fault: its access takes it; a prefetch is dropped without report (R389, R393). One that ends for an access to
its entries installs nothing (R390). -/
def State.walkFails (s : State) (id : Nat) (w : Walk) (status detail level addr : Nat) : State :=
  let s := { s with xl := { s.xl with walks := mdel s.xl.walks id } }
  let s := if status = St.walkAccessFault then s else s.installNodes w
  if w.prefetch then s
  else (s.xlFault w.ctx w.va w.kind status detail level addr).modOpened w ({ · with fault := some (status, detail) })

/-- The slot of the entry that a walk has in hand. -/
def Walk.slotNo (w : Walk) : Nat := w.slot.getD (w.va / spanOf w.level)

/-- A walk ends with a leaf: its access has it, and it is cached unless an invalidation began meanwhile (R383, R397). -/
def State.walkEnds (s : State) (id : Nat) (w : Walk) (v : Word) : State :=
  let c : Cached := { ctx := w.ctx, level := w.level, slot := w.slotNo, addr := w.addr, value := v }
  let s := { s with xl := { s.xl with walks := mdel s.xl.walks id } }
  let s := s.installNodes w
  let s := if w.noInstall then s else s.installLeaf c
  s.modOpened w fun a => { a with got := a.got ++ [(w.va, c)] }

/-- Issue the read of the entry that a walk has come to, unless its address lies in a device range (R390). -/
def State.walkRead (s : State) (id : Nat) (w : Walk) : State :=
  match s.rat (1 + w.ctx / 256) w.addr with
  | some (true, _, _) => s.walkFails id w St.walkTargetFault 0 w.level w.addr
  | _ => { s with xl := { s.xl with walks := mset s.xl.walks id { w with cas := none } } }.emit
      (.walkRead (w.ctx / 256) w.addr id)

/-- For whom a walk reads and writes (R483). -/
def State.walkOwner (s : State) (w : Walk) : Owner :=
  (s.xl.opens.find? fun a => some a.id == w.access).bind fun a => s.clientOwner a.who

/-- Issue the CAS that sets the bits of a leaf (R391); its operands go to the host (R483). -/
def State.walkCas (s : State) (id : Nat) (w : Walk) (v : Word) : State :=
  match s.rat (1 + w.ctx / 256) w.addr with
  | some (true, _, _) => s.walkFails id w St.walkTargetFault 0 w.level w.addr
  | _ => ({ s with xl := { s.xl with walks := mset s.xl.walks id { w with cas := some v } } }.emit
      (.walkCas (w.ctx / 256) w.addr v (withBits v w.kind) id)).count 0x1C0 (w.ctx / 256) 16 (s.walkOwner w)

/-- A pointer entry has been used: it is the newest. -/
def State.useNode (s : State) (c : Cached) : State := { s with xl := { s.xl with nodes := s.xl.nodes.erase c ++ [c] } }

/-- Go down from a node through the node cache as far as it reaches, and read the next entry (R387). -/
def State.descend : Nat → State → Nat → Walk → Nat → State
  | 0, s, id, w, _ => s.walkRead id w
  | f + 1, s, id, w, node =>
    let a := node + 8 * (w.va / spanOf w.level % 512)
    let w := { w with addr := a }
    match s.xl.nodes.find? fun c => c.ctx == w.ctx && c.addr == a && c.level == w.level with
    | some c => if w.level = 0 then s.walkRead id w else (s.useNode c).descend f id { w with level := w.level - 1 } (entryAddr c.value)
    | none => s.walkRead id w

/-- A leaf at a slot of a level covers an address. -/
def leafCovers (level slot va : Nat) (v : Word) : Bool := slot * spanOf level / 2 ^ leafLog v == va / 2 ^ leafLog v

/-- A walk that has a replica of another slot in hand goes on with the address's own slot of that node: what the replica's entry
holds now is no translation of the address (R396; log entry 55). -/
def State.ownSlot (s : State) (id : Nat) (w : Walk) : State :=
  s.walkRead id { w with slot := none, addr := w.addr - 8 * (w.slotNo % 512) + 8 * (w.va / spanOf w.level % 512) }

/-- Judge an entry that a walk has read (R387). -/
def State.judge (s : State) (id : Nat) (w : Walk) (v : Word) : State :=
  let fault (d : Nat) := s.walkFails id w St.translationFault d w.level w.addr
  if !bit v 0 then fault 17
  else if !bit v 1 then
    if w.level = 0 then fault 20
    else if w.slot.isSome then s.ownSlot id w
    else
      let c : Cached := { ctx := w.ctx, level := w.level, slot := w.va / spanOf w.level, addr := w.addr, value := v }
      s.descend 5 id { w with level := w.level - 1, nodes := w.nodes ++ [c] } (entryAddr v)
  else if !leafOk v w.level then fault 20
  else if !leafCovers w.level w.slotNo w.va v then s.ownSlot id w
  else match leafDenied v w.kind with
    | some d => fault d
    | none => if needsBits w.ad v w.kind ∧ !w.prefetch then s.walkCas id w v else s.walkEnds id w v

/-- Start a walk for a page of an access (R387); `leaf` is a cached leaf whose bits are to be set (R391). An access that misses
the cache starts a walk of its own, also where another access walks for the same page (log entry 55). -/
def State.startWalk (s : State) (a : Opened) (va : Nat) (prefetch : Bool) (leaf : Option Cached) : State :=
  let id := s.tp.nextId
  let s := s.newId.tally Reg.XLT_COUNT_WALKS 0x1CB 0 (some (a.fn, 0))
  let w : Walk := { ctx := a.fn, va := va, kind := a.kind, root := a.root, ad := a.ad, level := 4, addr := a.root, prefetch := prefetch,
                    noInstall := a.stale, access := if prefetch then none else some a.id }
  match leaf with
  | some c => s.walkCas id { w with level := c.level, addr := c.addr,
                                    slot := if c.slot = va / spanOf c.level then none else some c.slot } c.value
  | none => s.descend 5 id w a.root

/-- A cached leaf that covers an address. -/
def Cached.covers (c : Cached) (fn va : Nat) : Bool := c.ctx == fn && leafCovers c.level c.slot va c.value

/-- The range of a cached leaf. -/
def Cached.range (c : Cached) : Nat × Nat :=
  (c.slot * spanOf c.level / 2 ^ leafLog c.value * 2 ^ leafLog c.value, 2 ^ leafLog c.value)

/-- How one page of an access is translated: a leaf to use, a fault, or a wait for a walk. -/
inductive PageRes where
  | leaf (c : Cached)
  | fault (status detail : Nat)
  | wait
  deriving DecidableEq, Repr

/-- Use a leaf for an access: its rights, and the bits it must show (R387, R391). -/
def State.useLeaf (s : State) (a : Opened) (va : Nat) (c : Cached) : State × PageRes :=
  match leafDenied c.value a.kind with
  | some d => (s.xlFault a.fn va a.kind St.translationFault d c.level c.addr, .fault St.translationFault d)
  | none =>
    if needsBits a.ad c.value a.kind then (s.startWalk a va false (some c), .wait)
    else (s, .leaf c)

/-- Translate the page of an address for an access (R387): by the leaf that it holds, by a cached one, or by a walk. -/
def State.page (s : State) (a : Opened) (va : Nat) : State × PageRes :=
  match a.got.find? fun p => p.1 == va with
  | some (_, c) => (s, .leaf c)
  | none =>
    match a.fault with
    | some (st, d) => (s, .fault st d)
    | none =>
      if s.xl.walks.any fun w => w.2.access == some a.id then (s, .wait)
      else if !a.enable then (s.xlFault a.fn va a.kind St.translationFault 16 7 0, .fault St.translationFault 16)
      else match s.xl.leaves.find? fun c => !a.stale && c.covers a.fn va with
        | some c =>
          let s := { s with xl := { s.xl with leaves := s.xl.leaves.erase c ++ [c] } }
          s.useLeaf a va c
        | none => (s.startWalk a va false none, .wait)

/-- How the translation of a range ends: pieces of (bus address, length) with the side-effect mark of each leaf (R354), and the
range of virtual addresses that the leaves cover; a fault, or a wait. -/
inductive Xr where
  | ok (pieces : List (Nat × Nat)) (sides : List Bool) (cover : Nat × Nat)
  | fault (status detail : Nat)
  | wait
  deriving DecidableEq, Repr

/-- Translate the pages of a range one after another; the access holds the leaves of those that are translated (R395). -/
def State.pages : Nat → State → Opened → Nat → Nat → List (Nat × Nat) → List Bool → State × Opened × Xr
  | 0, s, a, va, _, acc, se => (s, a, .ok acc se (a.va, va - a.va))
  | f + 1, s, a, va, n, acc, se =>
    if n = 0 then
      let lo := ((a.got.head?.map (·.2.range)).getD (a.va, 0)).1
      let hi := (a.got.getLast?.map (·.2.range)).getD (a.va, 0)
      (s, a, .ok acc se (lo, hi.1 + hi.2 - lo))
    else match s.page a va with
      | (s, .leaf c) =>
        let v := c.value
        let m := min n (2 ^ leafLog v - va % 2 ^ leafLog v)
        let a := if a.got.any fun p => p.1 == va then a else { a with got := a.got ++ [(va, c)] }
        s.pages f a (va + m) (n - m) (acc ++ [(entryAddr v + va % 2 ^ leafLog v, m)]) (se ++ [bit v 4])
      | (s, .fault st d) => (s, a, .fault st d)
      | (s, .wait) => (s, a, .wait)

/-- The access that an identity, a range and a kind name; a new one starts with the context's values (R383). -/
def State.opened (s : State) (who : Client) (fn va n kind : Nat) : Opened :=
  (s.xl.opens.find? fun a => a.who == who && a.fn == fn && a.va == va && a.len == n && a.kind == kind).getD
    { who := who, id := s.tp.nextId, fn := fn, va := va, len := n, kind := kind, root := s.rd Reg.XLT_CTX_ROOT fn * 4096,
      ad := s.on Reg.XLT_CTX_AD fn, enable := s.on Reg.XLT_CTX_ENABLE fn }

/-- An access that an INV_XLT waits for is translated: the wait is for its requests, under the number that it takes next (R399). -/
def State.awaitNext (s : State) (a : Opened) : State :=
  if !a.awaited then s
  else
    let next (w : List Nat × List (Nat × Nat)) : List Nat × List (Nat × Nat) :=
      if !w.1.contains a.id then w
      else match a.who with
        | .thread t => (w.1.erase a.id, w.2 ++ [(t, (s.thread t).nextAcc)])
        | _ => (w.1.erase a.id ++ [s.tp.nextId], w.2)
    { s with tp := { s.tp with funcs := s.tp.funcs.map fun (p : Nat × Func) =>
        (p.1, { p.2 with cmd := p.2.cmd.map fun c => { c with waitInv := c.waitInv.map next } }) } }

/-- Translate `[va, va + n)` for an access of a function (R387). The state carries the walks that it starts, what the access holds
while it waits, and the faults that it reports. -/
def State.translate (s : State) (who : Client) (fn va n kind : Nat) : State × Xr :=
  if va + n > 2 ^ 57 then (s.xlFault fn va kind St.translationFault 22 7 0, .fault St.translationFault 22)
  else
    let a := s.opened who fn va n kind
    match s.pages (n / 4096 + 2) a va n [] [] with
    | (s, a, r) =>
      let rest := s.xl.opens.filter (·.id != a.id)
      match r with
      | .wait => ({ s with xl := { s.xl with opens := rest ++ [a] } }, .wait)
      | .ok ps se c => (State.awaitNext (if rest.length = s.xl.opens.length then s else { s with xl := { s.xl with opens := rest } }) a,
          .ok ps se c)
      | r => (if rest.length = s.xl.opens.length then s else { s with xl := { s.xl with opens := rest } }, r)

/-- The accesses of one who no longer makes them are gone. -/
def State.forgetAccesses (s : State) (who : Client → Bool) : State :=
  if s.xl.opens.all fun a => !who a.who then s else { s with xl := { s.xl with opens := s.xl.opens.filter fun a => !who a.who } }

/-- The queue pair for which an access is made. -/
def Client.qpn : Client → Option Nat
  | .descriptor n _ => some n
  | .read (.source n _ _ _) => some n
  | .read (.resend n _ _ _) => some n
  | .read (.getResp n _ _ _ _) => some n
  | .read (.swarm _ _) => none
  | .place (.put n _ _ _) => some n
  | .place (.get n _ _ _) => some n
  | .place (.fetch n _ _ _) => some n
  | .place (.eager n _ _ _ _) => some n
  | .place (.copy n _ _) => some n
  | .place (.swarm _ _) => none
  | .atomic n _ _ => some n
  | .command _ => none
  | .record _ => none
  | .thread _ => none

/-! ### Invalidation (R383, R397, R399) -/

/-- Discard every cached entry of a context; walks in progress install nothing (R397). -/
def State.discardContext (s : State) (fn : Nat) : State :=
  { s with xl := { s.xl with
      leaves := s.xl.leaves.filter (·.ctx != fn)
      nodes := s.xl.nodes.filter (·.ctx != fn)
      walks := s.xl.walks.map fun (p : Nat × Walk) => if p.2.ctx = fn then (p.1, { p.2 with noInstall := true }) else p } }.xlShown

/-- A context is rewritten: its entries go, and accesses under way finish with the values they started with (R383). -/
def State.contextWritten (s : State) (fn : Nat) : State :=
  let s := s.discardContext fn
  { s with xl := { s.xl with opens := s.xl.opens.map fun (a : Opened) => if a.fn = fn then { a with stale := true } else a } }

/-- Two ranges share a byte. -/
def overlap (a n b m : Nat) : Bool := decide (a < b + m) && decide (b < a + n)

/-- A leaf shares a byte with a range. -/
def Cached.overlaps (c : Cached) (va n : Nat) : Bool := overlap c.range.1 c.range.2 va n

/-- Remove the leaf entries that overlap a range and all pointer entries of a context (R398). -/
def State.discardRange (s : State) (fn va n : Nat) : State :=
  { s with xl := { s.xl with
      leaves := s.xl.leaves.filter fun c => !(c.ctx == fn && c.overlaps va n)
      nodes := s.xl.nodes.filter (·.ctx != fn)
      walks := s.xl.walks.map fun (p : Nat × Walk) => if p.2.ctx = fn then (p.1, { p.2 with noInstall := true }) else p } }.xlShown

/-- An access that is being translated holds a leaf of a range, or its walk is in progress (R397, R399). -/
def State.holds (s : State) (a : Opened) (fn va n : Nat) : Bool :=
  a.fn == fn && ((a.got.any fun p => p.2.overlaps va n) || s.xl.walks.any fun w => w.2.access == some a.id)

/-- The accesses of a context that hold a translation of a range, or whose walk is in progress (R397, R399): those under way by
their numbers, and the accesses of threads. -/
def State.holders (s : State) (fn va n : Nat) : List Nat × List (Nat × Nat) :=
  let r := s.tp.reads.filterMap fun p => if p.2.fn = fn ∧ overlap p.2.cover.1 p.2.cover.2 va n then some p.1 else none
  let pl := s.tp.placements.filterMap fun p =>
    if !p.2.store ∧ p.2.fn = fn ∧ overlap p.2.cover.1 p.2.cover.2 va n then some p.1 else none
  let a := s.tp.atomics.filterMap fun p => if !p.2.store ∧ p.2.fn = fn ∧ overlap p.2.cover.1 p.2.cover.2 va n then some p.1 else none
  let w := (s.xl.opens.filter fun a => s.holds a fn va n).map (·.id)
  let t := s.fg.threads.flatMap fun p => p.2.pend.filterMap fun x =>
    match x.target with
    | .host _ => if x.owner = fn ∧ overlap x.cover.1 x.cover.2 va n then some (p.1, x.id) else none
    | _ => none
  (r ++ pl ++ a ++ w, t)

/-- An INV_XLT waits for the accesses that hold a translation of a range. -/
def State.awaitHolders (s : State) (fn va n : Nat) : State :=
  { s with xl := { s.xl with opens := s.xl.opens.map fun (a : Opened) => if s.holds a fn va n then { a with awaited := true } else a } }

/-- None of the accesses that an INV_XLT waits for is still under way (R399). -/
def State.drained (s : State) (w : List Nat × List (Nat × Nat)) : Bool :=
  (w.1.all fun id => (mget s.tp.reads id).isNone && (mget s.tp.placements id).isNone && (mget s.tp.atomics id).isNone
      && !(s.xl.opens.any fun a => a.id == id))
    && w.2.all fun p => !(s.thread p.1).pend.any fun x => x.id == p.2 || x.group == p.2

end Sys2Proof.Machine
end

