-- ==== Sys2Proof/Machine/Keys.lean ====
section
/-! DEFINITION. The key table: looking keys up, issuing and freeing indices, in-use counts and drains (R84 to R95, R109
to R114). -/

namespace Sys2Proof.Machine

/-- The highest usable index (R84, R85). -/
def State.keyLimit (s : State) : Nat := if s.useBytes 5 ≥ 2 ^ 29 then 2 ^ 24 - 1 else 65535

/-- A SCRATCH partition exists (R67, R85, R352). -/
def State.scratch (s : State) : Bool := !(s.partsOf 5).isEmpty

/-- The entry of an index; an index never used is free at generation 1 (R88). -/
def State.key (s : State) (i : Nat) : KeyEntry := mgetD s.km.entries i {}

/-- A cached entry that stays in the cache (R86). -/
def KeyEntry.pinned (e : KeyEntry) : Bool := e.inUse != 0 || e.draining

/-- KEY_CACHE_STATUS and KEY_DRAIN.STALLED follow the table (R86, R112). -/
def State.keyShown (s : State) : State :=
  let c (f : KeyEntry → Bool) := (s.km.entries.filter fun p => f p.2).length
  (((s.wr Reg.KEY_CACHE_STATUS_ON_DIE (c fun e => e.onDie && e.kind != 0)).wr Reg.KEY_CACHE_STATUS_PINNED
    (c fun e => e.onDie && e.pinned)).wr Reg.KEY_CACHE_STATUS_ALLOCATED (c (·.kind != 0))).wr Reg.KEY_DRAIN_STALLED
    (if c (·.stalled) = 0 then 0 else 1)

/-- The four words of an entry in the store (R86). -/
def KeyEntry.words (e : KeyEntry) : List Word :=
  [BitVec.ofNat 64 (e.kind + flag e.bound 4 + flag e.draining 8 + e.generation * 2 ^ 8 + e.rights * 2 ^ 16 + flag e.store (2 ^ 24)
      + e.pd * 2 ^ 32 + e.fn * 2 ^ 48),
    BitVec.ofNat 64 e.base, BitVec.ofNat 64 e.length, BitVec.ofNat 64 (e.parent + e.storeAddr * 2 ^ 24)]

/-- The store address of an entry's backing copy, in the first 512 MiB of the SCRATCH partition (R84). -/
def State.keyBacking (s : State) (i : Nat) : Option Nat := (s.partsOf 5).head?.map fun p => (s.partOf p).1 + 32 * i

/-- The backing copy follows an entry whose words change (R84, R86; the moment of the write is the model's choice, log
entry 44). -/
def State.backKey (s : State) (i : Nat) (old new : KeyEntry) : State :=
  if old.words = new.words then s
  else match s.keyBacking i with
    | some a => ((s.storeWrite a (ofWords new.words)).clearPoison a 32).clearResv .store a 32
    | none => s

/-- Change an entry. -/
def State.setKey (s : State) (i : Nat) (e : KeyEntry) : State :=
  ({ s with km := { s.km with entries := mset s.km.entries i e } }.backKey i (s.key i) e).keyShown

/-- Bring an entry on die; with more than 65,536 there, one that nothing pins leaves (R84, R86; log entry 22). -/
def State.cacheKey (s : State) (i : Nat) : State :=
  let s := s.setKey i { s.key i with onDie := true }
  let on := s.km.entries.filter fun p => p.2.onDie && p.2.kind != 0
  if on.length ≤ 65536 then s
  else match on.find? fun p => p.1 != i && !p.2.pinned with
    | some p => s.setKey p.1 { p.2 with onDie := false }
    | none => s

/-- An entry that is used or changed stands in the on-die cache (R86). -/
def State.bringKey (s : State) (i : Nat) : State := if (s.key i).onDie then s else s.cacheKey i

/-- The index and generation of a key (R84). -/
def keyIndex (k : Nat) : Nat := k / 256
def keyGen (k : Nat) : Nat := k % 256

/-- The key of an entry with its current generation. -/
def State.keyOf (s : State) (i : Nat) : Nat := 256 * i + (s.key i).generation

/-- The next generation (R84). -/
def nextGen (g : Nat) : Nat := if g = 255 then 1 else g + 1

/-- Check 1 of R94. -/
def State.keyThere (s : State) (k : Nat) : Bool :=
  keyIndex k != 0 && decide (keyIndex k ≤ s.keyLimit) && (s.key (keyIndex k)).kind != 0

/-- Rights (R86). -/
def rLocalWrite : Nat := 1
def rRead : Nat := 2
def rWrite : Nat := 4
def rAtomic : Nat := 8
def rBind : Nat := 16

/-- Bits of one number are all in another. -/
def hasBits (a b : Nat) : Bool := a &&& b == b

/-- `[a, a + n)` lies in the range of an entry; with n = 0 its end is allowed too (R94 check 6). -/
def KeyEntry.holds (e : KeyEntry) (a n : Nat) : Bool := decide (e.base ≤ a) && decide (a + n ≤ e.base + e.length)

/-- Checks 1 to 6 of R94 on a remote key: the DETAIL of the first that fails. -/
def State.checkRemote (s : State) (k fn pd right a n : Nat) : Option Nat :=
  let e := s.key (keyIndex k)
  if !s.keyThere k then some 1
  else if e.generation ≠ keyGen k then some 2
  else if e.kind = 2 ∧ !e.bound then some 3
  else if e.fn ≠ fn ∨ e.pd ≠ pd then some 4
  else if !hasBits e.rights right then some 5
  else if !e.holds a n then some 6
  else none

/-- The local checks of R94 on LKEY: they require KIND region. -/
def State.checkLocal (s : State) (k fn pd right a n : Nat) : Option Nat :=
  let e := s.key (keyIndex k)
  if !s.keyThere k then some 1
  else if e.generation ≠ keyGen k then some 2
  else if e.kind ≠ 1 then some 3
  else if e.fn ≠ fn ∨ e.pd ≠ pd then some 4
  else if !hasBits e.rights right then some 5
  else if !e.holds a n then some 6
  else none

/-- A key names a live entry of its generation (checks 1 and 2 of R94). -/
def State.keyValid (s : State) (k : Nat) : Bool := s.keyThere k && (s.key (keyIndex k)).generation == keyGen k

/-- The store address of a virtual address in a store region (R105). -/
def KeyEntry.storeAt (e : KeyEntry) (a : Nat) : Nat := e.storeAddr + (a - e.base)

/-- Take an in-use reference (R109). -/
def State.takeRef (s : State) (i : Nat) : State :=
  let s := s.bringKey i
  s.setKey i { s.key i with inUse := (s.key i).inUse + 1 }

/-- Release an in-use reference. -/
def State.dropRef (s : State) (i : Nat) : State := s.setKey i { s.key i with inUse := (s.key i).inUse - 1 }

/-- Count a failed check at the target and capture the first (R95). -/
def State.keyFails (s : State) (o : Owner) (status detail srcEid key destQpn opcode : Nat) : State :=
  let s := s.tally Reg.KEY_PROT_COUNT_COUNT 0x1CA 0 o
  if s.on Reg.KEY_PROT_LOG0_VALID then s
  else
    let s := (((s.wr Reg.KEY_PROT_LOG0_VALID 1).wr Reg.KEY_PROT_LOG0_DETAIL detail).wr Reg.KEY_PROT_LOG0_STATUS status).wr
      Reg.KEY_PROT_LOG0_SRC_EID srcEid
    ((s.wr Reg.KEY_PROT_LOG1_KEY key).wr Reg.KEY_PROT_LOG1_DEST_QPN destQpn).wr Reg.KEY_PROT_LOG1_OPCODE opcode

/-- The index that REG_MR and ALLOC_WINDOW issue: the lowest never used since the reset, else the one freed longest
ago (R88). -/
def State.freeIndex (s : State) : Option Nat :=
  if s.km.fresh ≤ s.keyLimit then some s.km.fresh else s.km.freed.head?

/-- Take the index out of the free ones. -/
def State.issueIndex (s : State) : State :=
  if s.km.fresh ≤ s.keyLimit then { s with km := { s.km with fresh := s.km.fresh + 1 } }
  else { s with km := { s.km with freed := s.km.freed.tail } }

/-- Count the keys of a function. -/
def State.quota (s : State) (fn : Nat) (d : Int) : State :=
  s.wr Reg.KEY_QUOTA_USED ((s.rd Reg.KEY_QUOTA_USED fn : Int) + d).toNat fn

/-- Install a new entry, with the generation that its index last reached (R88). -/
def State.newKey (s : State) (i : Nat) (e : KeyEntry) : State :=
  ((s.issueIndex.setKey i { e with generation := (s.key i).generation }).cacheKey i).quota e.fn 1

/-- Free an entry: it keeps its generation, and its index follows those freed before (R88). -/
def State.freeKey (s : State) (i : Nat) : State :=
  let e := s.key i
  let s := s.setKey i { generation := e.generation }
  { s with km := { s.km with freed := s.km.freed ++ [i] } }.quota e.fn (-1)

/-- Raise a generation and start the drain with its stall timer (R89, R93, R110, R112). -/
def State.revoke (s : State) (i : Nat) : State :=
  let s := s.bringKey i
  let e := s.key i
  s.setKey i { e with generation := nextGen e.generation, bound := false, draining := true, timers := e.timers + 1 }

/-- A drain has ended. -/
def State.drainEnds (s : State) (i : Nat) : State :=
  s.setKey i { s.key i with draining := false, timers := 0, stalled := false, unbind := [] }

/-- The unbinds of a queue pair that goes wait for no drain any more (R112). -/
def State.dropUnbinds (s : State) (n : Nat) : State :=
  { s with km := { s.km with entries := s.km.entries.map fun (p : Nat × KeyEntry) =>
    (p.1, { p.2 with unbind := p.2.unbind.filter (·.1 != n) }) } }

end Sys2Proof.Machine
end

