-- ==== Sys2Proof/Machine/Packet.lean ====
section
/-! DEFINITION. Packets as bytes: the network header, the WT, swarm and management headers (R8, R71, R168, R194, R222,
R491), the length and the cells of a packet (R228), the flow hash (R209). -/

namespace Sys2Proof.Machine

/-- One byte of fields. -/
def byte (n : Nat) : Byte := BitVec.ofNat 8 n

/-- The value of a byte of a string. -/
def at_ (l : List Byte) (i : Nat) : Nat := (l.getD i 0).toNat

/-- A bit of a byte of a string. -/
def bitAt (l : List Byte) (i k : Nat) : Bool := (l.getD i 0).getLsbD k

/-- A big-endian field. -/
def beAt (l : List Byte) (i n : Nat) : Nat := ofBE (slice l i n)

end Sys2Proof.Machine

namespace Sys2Proof
open Sys2Proof.Machine

/-- The network header (R194). -/
def NetHeader.toBytes (h : NetHeader) : List Byte :=
  [byte (h.version % 16 * 16 + h.kind % 16), byte (h.tc % 8 * 32 + h.vl % 8 * 4 + h.colour % 4),
    byte (flag h.phase 128 + flag h.ordered 64 + h.detoursLeft % 4 * 16 + h.hops % 16), byte (h.destHost % 8 * 32)]
  ++ beBytes 3 (h.destCoord % 2 ^ 20) ++ beBytes 3 (h.destEid % 2 ^ 20) ++ beBytes 3 (h.srcEid % 2 ^ 20)
  ++ beBytes 2 h.flowHash ++ [0]

/-- Read a network header. -/
def NetHeader.ofBytes (l : List Byte) : NetHeader :=
  { version := at_ l 0 / 16, kind := at_ l 0 % 16, tc := at_ l 1 / 32, vl := at_ l 1 / 4 % 8, colour := at_ l 1 % 4,
    phase := bitAt l 2 7, ordered := bitAt l 2 6, detoursLeft := at_ l 2 / 16 % 4, hops := at_ l 2 % 16,
    destHost := at_ l 3 / 32, destCoord := beAt l 4 3 % 2 ^ 20, destEid := beAt l 7 3 % 2 ^ 20,
    srcEid := beAt l 10 3 % 2 ^ 20, flowHash := beAt l 13 2 }

/-- The bytes of a WT header with its extensions (R71, R491). -/
def WtHeader.toBytes (h : WtHeader) : List Byte :=
  [byte (h.version % 16 * 16 + h.ext % 4 * 4), byte h.opcode] ++ beBytes 3 h.destQpn ++ beBytes 3 h.srcQpn
  ++ beBytes 3 h.psn ++ beBytes 3 h.lowPsn
  ++ [byte (flag h.first 128 + flag h.last 64 + flag h.ordered 32 + flag h.solicitAck 16 + flag h.sync 8 + flag h.reserved 1),
      byte h.code]
  ++ (if h.ext = 1 ∨ h.ext = 2 then beBytes 8 h.address ++ beBytes 4 h.key ++ beBytes 4 h.length else [])
  ++ (if h.ext = 2 then beBytes 8 h.operand0 ++ beBytes 8 h.operand1 else [])

/-- Read a WT header. -/
def WtHeader.ofBytes (l : List Byte) : WtHeader :=
  let ext := at_ l 0 / 4 % 4
  let e1 := ext = 1 ∨ ext = 2
  { version := at_ l 0 / 16, ext := ext, opcode := at_ l 1, destQpn := beAt l 2 3, srcQpn := beAt l 5 3, psn := beAt l 8 3,
    lowPsn := beAt l 11 3, first := bitAt l 14 7, last := bitAt l 14 6, ordered := bitAt l 14 5, solicitAck := bitAt l 14 4,
    sync := bitAt l 14 3, code := at_ l 15, address := if e1 then beAt l 16 8 else 0, key := if e1 then beAt l 24 4 else 0,
    length := if e1 then beAt l 28 4 else 0, operand0 := if ext = 2 then beAt l 32 8 else 0,
    operand1 := if ext = 2 then beAt l 40 8 else 0, reserved := at_ l 0 % 4 != 0 || at_ l 14 % 8 != 0 }

/-- Bytes of the WT header with an EXT (R491). -/
def wtSize (ext : Nat) : Nat := if ext = 1 then 32 else if ext = 2 then 48 else 16

/-- The swarm header (R168). -/
def SwarmHeader.toBytes (h : SwarmHeader) : List Byte :=
  [byte (h.version % 16 * 16 + h.kind % 4 * 4), byte h.op] ++ beBytes 2 h.gid ++ beBytes 2 h.epoch
  ++ [byte (h.dtype % 16 * 16 + h.rop % 16),
      byte (flag h.exact 128 + flag h.lastSeg 64 + flag h.lastPkt 32 + flag h.reserved 16 + h.reason % 16)]
  ++ beBytes 4 h.segment ++ beBytes 2 h.firstElement ++ beBytes 2 h.elementCount ++ beBytes 5 h.length
  ++ beBytes 3 (h.rootEid % 2 ^ 20)

/-- Read a swarm header. -/
def SwarmHeader.ofBytes (l : List Byte) : SwarmHeader :=
  { version := at_ l 0 / 16, kind := at_ l 0 / 4 % 4, op := at_ l 1, gid := beAt l 2 2, epoch := beAt l 4 2,
    dtype := at_ l 6 / 16, rop := at_ l 6 % 16, exact := bitAt l 7 7, lastSeg := bitAt l 7 6, lastPkt := bitAt l 7 5,
    reason := at_ l 7 % 16, segment := beAt l 8 4, firstElement := beAt l 12 2, elementCount := beAt l 14 2,
    length := beAt l 16 5, rootEid := beAt l 21 3 % 2 ^ 20,
    reserved := at_ l 0 % 4 != 0 || bitAt l 7 4 || at_ l 21 / 16 != 0 }

/-- The management header (R222). -/
def MgmtHeader.toBytes (h : MgmtHeader) : List Byte :=
  [byte (h.mversion % 16 * 16), byte h.mop] ++ beBytes 2 h.seq
  ++ [byte (flag h.directed 128 + flag h.response 64), byte (h.hopCount % 16 * 16 + h.hopPtr % 16), byte h.status, 0]
  ++ beBytes 8 h.token ++ (List.range 14).map (fun i => byte (nth h.outHops i % 128)) ++ [0, 0]
  ++ (List.range 14).map (fun i => byte (nth h.returnHops i % 128)) ++ [0, 0]

/-- Read a management header. -/
def MgmtHeader.ofBytes (l : List Byte) : MgmtHeader :=
  { mversion := at_ l 0 / 16, mop := at_ l 1, seq := beAt l 2 2, directed := bitAt l 4 7, response := bitAt l 4 6,
    hopCount := at_ l 5 / 16, hopPtr := at_ l 5 % 16, status := at_ l 6, token := beAt l 8 8,
    outHops := (List.range 14).map fun i => at_ l (16 + i) % 128,
    returnHops := (List.range 14).map fun i => at_ l (32 + i) % 128 }

/-- The bytes of the header that follows the network header. -/
def Body.toBytes (b : Body) : List Byte :=
  match b with
  | .wt h => h.toBytes
  | .swarm h => h.toBytes
  | .mgmt h => h.toBytes
  | .raw => []

/-- Bytes of that header. -/
def Body.size (b : Body) : Nat :=
  match b with
  | .wt h => wtSize h.ext
  | .swarm _ => 24
  | .mgmt _ => 48
  | .raw => 0

/-- Bytes combined bit by bit with others, which end first or with them. -/
def mixBytes : List Byte → List Byte → List Byte
  | a :: l, b :: m => (a ^^^ b) :: mixBytes l m
  | l, _ => l

/-- The headers of a packet, with the reserved bits that it carries. -/
def Packet.headers (p : Packet) : List Byte := mixBytes (p.net.toBytes ++ p.body.toBytes) p.unread

/-- A packet from its network header to its last byte; one shorter than its headers ends within them. -/
def Packet.toBytes (p : Packet) : List Byte :=
  if p.short = 0 then p.headers ++ p.payload else p.headers.take (p.headers.length - p.short)

/-- Two packets have the same bytes: they are told apart by nothing that is sent. -/
def Packet.same (p q : Packet) : Bool := { p with arrived := 0 } == { q with arrived := 0 }

/-- LENGTH of a packet (R228). -/
def Packet.length (p : Packet) : Nat := 16 + p.body.size + p.payload.length - p.short

/-- The credit cells of a packet (R228). -/
def Packet.cells (p : Packet) : Nat := (p.length + 63) / 64

/-- Read the header that follows a network header of a kind. -/
def Body.ofBytes (kind : Nat) (r : List Byte) : Body :=
  match kind with
  | 0 => .wt (WtHeader.ofBytes r)
  | 1 => .swarm (SwarmHeader.ofBytes r)
  | 2 => .mgmt (MgmtHeader.ofBytes r)
  | _ => .raw

/-- Read a packet: what its fields do not hold of its header bytes are reserved bits; header bytes that it does not have read 0. -/
def Packet.ofBytes (l : List Byte) (stomped : Bool) : Packet :=
  let n := NetHeader.ofBytes l
  let b := Body.ofBytes n.kind (l.drop 16)
  let rest := mixBytes (l.take (16 + b.size)) (n.toBytes ++ b.toBytes)
  { net := n, body := b, payload := l.drop (16 + b.size), stomped := stomped,
    unread := if rest.all (· == 0) then [] else rest, short := 16 + b.size - l.length }

end Sys2Proof

namespace Sys2Proof.Machine

/-- FLOW_HASH (R209). -/
def flowHash (srcEid destEid srcQpn destQpn : Nat) : Nat :=
  (crc32c (beBytes 3 (srcEid % 2 ^ 20) ++ beBytes 3 (destEid % 2 ^ 20) ++ beBytes 3 srcQpn ++ beBytes 3 destQpn)).toNat % 65536

/-! ### Wire opcodes (R71, R128) -/

def Op.put : Nat := 0x01
def Op.getReq : Nat := 0x02
def Op.getResp : Nat := 0x03
def Op.atomicReq : Nat := 0x04
def Op.atomicResp : Nat := 0x05
def Op.eager : Nat := 0x06
def Op.rts : Nat := 0x07
def Op.fin : Nat := 0x08
def Op.ack : Nat := 0x10
def Op.nak : Nat := 0x11

/-- The EXT that an opcode carries (R491); none for a reserved opcode. -/
def extOf (op : Nat) : Option Nat :=
  if op = Op.put ∨ op = Op.getReq ∨ op = Op.ack ∨ op = Op.nak then some 1
  else if op = Op.getResp then some 0
  else if op = Op.atomicReq ∨ op = Op.atomicResp ∨ op = Op.eager ∨ op = Op.rts ∨ op = Op.fin then some 2
  else none

/-- The request class of R213. -/
def isRequest (op : Nat) : Bool :=
  op == Op.put || op == Op.getReq || op == Op.atomicReq || op == Op.eager || op == Op.rts || op == Op.fin

end Sys2Proof.Machine
end

