-- ==== Sys2Proof/Machine/Topology.lean ====
section
/-! DEFINITION. Shape, coordinates and ports, the EID table and own EIDs, the lane map, and how a packet built by this
device enters the network (R188 to R194, R209, R213, R215). Set 0 is the shadow set, set 1 the active one (R218). -/

namespace Sys2Proof.Machine

/-! ### Shape (R188, R189) -/

/-- W_d of a set. -/
def State.widthOf (s : State) (set d : Nat) : Nat :=
  s.rd (match d with | 0 => Reg.RTE_SHAPE_W0 | 1 => Reg.RTE_SHAPE_W1 | 2 => Reg.RTE_SHAPE_W2 | _ => Reg.RTE_SHAPE_W3) set

/-- K_d of a set. -/
def State.linksOf (s : State) (set d : Nat) : Nat :=
  s.rd (match d with | 0 => Reg.RTE_SHAPE_K0 | 1 => Reg.RTE_SHAPE_K1 | 2 => Reg.RTE_SHAPE_K2 | _ => Reg.RTE_SHAPE_K3) set

/-- BASE_d of a set. -/
def State.baseOf (s : State) (set d : Nat) : Nat :=
  s.rd (match d with | 0 => Reg.RTE_BASE_B0 | 1 => Reg.RTE_BASE_B1 | 2 => Reg.RTE_BASE_B2 | _ => Reg.RTE_BASE_B3) set

/-- The coordinate in dimension `d` of a coordinate word. -/
def coordOf (w d : Nat) : Nat := w / 2 ^ (5 * d) % 32

/-- A coordinate word with one coordinate replaced. -/
def withCoord (w d v : Nat) : Nat := w - coordOf w d * 2 ^ (5 * d) + v * 2 ^ (5 * d)

/-- The device's own coordinate word in a set. -/
def State.coord (s : State) (set : Nat := 1) : Nat := s.rd Reg.RTE_SHAPE_COORD set

/-- R189 allows a coordinate word under a set's shape. -/
def State.coordLegal (s : State) (set w : Nat) : Bool :=
  decide (w < 2 ^ 20) && (List.range 4).all fun d => decide (coordOf w d < s.widthOf set d)

/-! ### Ports (R190) -/

/-- The ports of a set that lead from coordinate `c` to neighbour `v` in dimension `d`. -/
def State.portsFrom (s : State) (set c d v : Nat) : List Nat :=
  if v = c ∨ s.widthOf set d ≤ v then []
  else (List.range (s.linksOf set d)).map fun k =>
    s.baseOf set d + (if v < c then v else v - 1) * s.linksOf set d + k

/-- ports_to(d, v) of R202 at this device, active set. -/
def State.portsTo (s : State) (d v : Nat) : List Nat := s.portsFrom 1 (coordOf (s.coord) d) d v

/-- Dimension, slot and link of a port in a set: the neighbour's coordinate, and the link of its bundle. -/
def State.bundleOf (s : State) (set p : Nat) : Option (Nat × Nat × Nat) :=
  (List.range 4).findSome? fun d =>
    let k := s.linksOf set d
    let b := s.baseOf set d
    if b ≤ p ∧ p < b + (s.widthOf set d - 1) * k ∧ 0 < k then
      let j := (p - b) / k
      some (d, if j < coordOf (s.coord set) d then j else j + 1, (p - b) % k)
    else none

/-- The coordinate word of the neighbour behind a port. -/
def State.neighbour (s : State) (set p : Nat) : Option Nat :=
  (s.bundleOf set p).map fun b => withCoord (s.coord set) b.1 b.2.1

/-- The hop through a port climbs (R196). -/
def State.climbs (s : State) (set p : Nat) : Bool :=
  match s.bundleOf set p with
  | some (d, v, _) => decide (coordOf (s.coord set) d < v)
  | none => false

/-- The hop through a port descends. -/
def State.descends (s : State) (set p : Nat) : Bool :=
  match s.bundleOf set p with
  | some (d, v, _) => decide (v < coordOf (s.coord set) d)
  | none => false

/-! ### Endpoints (R191 to R193) -/

/-- The bits of an EID-table entry that are not reserved (R191). -/
def eidMask : Nat := 0x8F7FFFFF

/-- The EID-table entry of an EID (R191). -/
def State.eidEntry (s : State) (e : Nat) : Nat := s.rd Reg.RTE_EID_WORD_WORD (e / 2) / 2 ^ (32 * (e % 2)) % 2 ^ 32

/-- The entry of an EID holds an uncorrected error: it reads as VALID 0 until it is rewritten (R402). -/
def State.eidBad (s : State) (e : Nat) : Bool := (s.softAt false fun x => x == .eid (e % 2 ^ 20)).isSome

/-- A lookup meets the errors of an entry: a corrected one is reported and gone, an uncorrected one is reported (R402). -/
def State.eidMet (s : State) (e : Nat) : State :=
  let s := s.corrected (fun x => x == .eid (e % 2 ^ 20)) 0x142
  if s.eidBad e then s.raise 0x143 (e % 2 ^ 20) else s

/-- An entry of the EID table is rewritten (R221, R402). -/
def State.eidFresh (s : State) (e : Nat) : State :=
  (s.softGone false fun x => x == .eid (e % 2 ^ 20)).softGone true fun x => x == .eid (e % 2 ^ 20)

/-- A lookup: coordinate word, host link and throttling group; none when it fails (R192). -/
def State.eidLookup (s : State) (e : Nat) : Option (Nat × Nat × Nat) :=
  let w := s.eidEntry (e % 2 ^ 20)
  if w / 2 ^ 31 % 2 = 1 ∧ !s.eidBad e ∧ s.coordLegal 1 (w % 2 ^ 20) then some (w % 2 ^ 20, w / 2 ^ 20 % 8, w / 2 ^ 24 % 16) else none

/-- A function's own EID (R193). -/
def State.ownEid (s : State) (fn : Nat) : Option Nat :=
  if s.on Reg.RTE_FUNC_EID_VALID fn then some (s.rd Reg.RTE_FUNC_EID_EID fn) else none

/-- The EID is a valid own EID of the device (R195). -/
def State.isOwnEid (s : State) (e : Nat) : Bool := (List.range 2048).any fun n => s.ownEid n == some e

/-- A lane of the lane map (R213). -/
def State.vlMap (s : State) (set tc : Nat) (request : Bool) : Nat :=
  s.rd (if request then Reg.RTE_VL_MAP_REQ_VL else Reg.RTE_VL_MAP_RSP_VL) set / 2 ^ (3 * (tc % 8)) % 8

/-- The cells of a packet in a port's input buffer are free: their credit is owed to the sender (R236, R237). -/
def State.returnCredit (s : State) (port : Nat) (p : Packet) : State :=
  let x := s.port port
  let v := p.net.vl
  if port < 72 ∧ p.cells ≤ nth x.held v then
    s.setPort port { x with held := setNth x.held v (nth x.held v - p.cells), credit := setNth x.credit v (nth x.credit v + p.cells) }
  else s

/-! ### Ports that are up, and partners (R190, R216, R217, R252) -/

/-- The link layer of a port is UP. -/
def State.portUp (s : State) (p : Nat) : Bool := s.rd Reg.LNK_STATUS_STATE p == 2

/-- The enabled partner of a port under the active set (R216). -/
def State.partner (s : State) (p : Nat) : Option Nat :=
  if s.on Reg.RTE_PARTNER_ENABLE 1 p ∧ s.rd Reg.RTE_PARTNER_PORT 1 p < 72 then some (s.rd Reg.RTE_PARTNER_PORT 1 p) else none

/-- The far end of a port, as latched, is not the device and port that R190 expects. -/
def State.miscabled (s : State) (p : Nat) : Bool :=
  match s.bundleOf 1 p with
  | none => false
  | some (d, v, k) =>
    let c := coordOf s.coord d
    let expect := s.baseOf 1 d + (if c < v then c else c - 1) * s.linksOf 1 d + k
    (s.port p).latched
      && (s.rd Reg.LNK_STATUS_FAR_PORT p != expect || s.rd Reg.LNK_FAR_SERIAL_SERIAL p == s.bt.fuses.serial
        || (s.on Reg.LNK_STATUS_FAR_COORD_VALID p && s.rd Reg.LNK_STATUS_FAR_COORD p != withCoord s.coord d v))

/-- Routing may use a port: its link is up, and its cabling is right (R190, R202). -/
def State.usable (s : State) (p : Nat) : Bool := s.portUp p && !s.miscabled p

/-- R217: the judgement of a partner, none where it is not judged. A port on WLP version 1 is no partner (R250). -/
def State.judgePartner (s : State) (p q : Nat) : Option Bool :=
  if s.rd Reg.LNK_STATUS_VERSION q = 1 then some false
  else if !((s.port q).latched && s.on Reg.LNK_STATUS_FAR_COORD_VALID q) then none
  else if (s.port p).latched then some (s.rd Reg.LNK_FAR_SERIAL_SERIAL q == s.rd Reg.LNK_FAR_SERIAL_SERIAL p)
  else (s.neighbour 1 p).map fun w => s.rd Reg.LNK_STATUS_FAR_COORD q == w

/-- A port's partner: enabled, judged good, and up (R216, R217). -/
def State.goodPartner (s : State) (p : Nat) : Option Nat :=
  match s.partner p with
  | some q => if s.portUp q ∧ s.judgePartner p q = some true then some q else none
  | none => none

/-- The partner that may take a port's place in routing: one whose own cabling is wrong is down for routing (R190, R216). -/
def State.standIn (s : State) (p : Nat) : Option Nat := (s.goodPartner p).filter s.usable

/-- The port that carries a port's swarm traffic: itself, or its partner while only that is up (R154, R216). -/
def State.carrier (s : State) (p : Nat) : Option Nat := if s.portUp p then some p else s.goodPartner p

/-- Judge every cable and every partner: new faults raise the configuration-error event (R190, R217). -/
def State.judgeAll (s : State) : State :=
  let bad := (List.range 72).filter fun p => s.portUp p && s.miscabled p
  let s := (bad.filter fun p => !s.rt.badCable.contains p).foldl (fun (s : State) p => s.raise 0x140 (St.badDescriptor +
    shownOffset (Reg.LNK_STATUS_STATE.addr p 0) / 8 % 2 ^ 23 * 256)) s
  let s := { s with rt := { s.rt with badCable := bad } }
  (List.range 72).foldl (fun s p =>
    match (s.partner p).bind (s.judgePartner p) with
    | some true => s.wr Reg.RTE_PARTNER_MISMATCH 0 1 p
    | some false =>
      if s.on Reg.RTE_PARTNER_MISMATCH 1 p then s
      else (s.wr Reg.RTE_PARTNER_MISMATCH 1 1 p).configError (Reg.RTE_PARTNER_MISMATCH.addr 1 p)
    | none => s) s

/-- The sampler counts a packet that enters the crossbar, and may tag it (R484 to R486). A packet built here belongs to the owner of its
queue pair, one that arrives for this device to that of its destination queue pair (R483). -/
def State.samplePacket (s : State) (x : InPkt) : State × InPkt :=
  let owner : Owner := match x.pkt.body with
    | .wt h =>
      if 72 ≤ x.port then (s.qp h.srcQpn).map fun q => (q.fn, q.pd)
      else if x.pkt.net.destCoord = s.coord then (s.qp h.destQpn).map fun q => (q.fn, q.pd)
      else none
    | _ => none
  let r := s.sample true owner (x.pkt.net.destCoord % 2 ^ 20 + x.pkt.net.vl * 2 ^ 20 + x.pkt.net.kind * 2 ^ 23)
    (BitVec.ofNat 64 (x.pkt.length + x.port * 2 ^ 13 + 127 * 2 ^ 20 + x.pkt.net.srcEid % 2 ^ 20 * 2 ^ 27))
    0 (if x.port < 72 then s.time else x.pkt.arrived)
  (r.1, { x with tag := r.2 })

/-- Queue a packet for an output port on its lane (R305). A crossbar buffer corrects an error; one that it cannot correct costs the
packet, which nothing forwards yet (R402). -/
def State.toEgress (s : State) (port : Nat) (x : InPkt) : State :=
  let s := s.corrected (fun e => e == .xbar port) 0x144
  if (s.softAt false fun e => e == .xbar port).isSome then
    (((s.softGone false fun e => e == .xbar port).raise 0x145 port).returnCredit x.port x.pkt).endTag x.tag
  else
    let p := s.port port
    let v := x.pkt.net.vl
    s.setPort port { p with egress := mset p.egress v (mgetD p.egress v [] ++ [x]) }

/-! ### Injection (R194, R209, R215) -/

/-- Credit cells that wait in an injection queue, those whose output is chosen included: a packet waits at its input until
it starts to leave (R205, R215). -/
def State.groupCells (s : State) (g : Nat) : Nat :=
  ((mgetD s.rt.inject g []).map (·.cells)).sum
    + (s.ports.map fun p => (p.2.egress.map fun l => ((l.2.filter (·.group == some g)).map (·.cells)).sum).sum).sum

/-- The group is throttled (R215). -/
def State.throttled (s : State) (g : Nat) : Bool := s.rd Reg.RTE_THROTTLE_ACTIVE / 2 ^ g % 2 == 1

/-- A group whose cells lie above HI_CELLS becomes throttled (R215). -/
def State.throttleCheck (s : State) (g : Nat) : State :=
  if s.groupCells g > s.rd Reg.RTE_THROTTLE_HI_CELLS ∧ !s.throttled g then
    s.wr Reg.RTE_THROTTLE_ACTIVE (s.rd Reg.RTE_THROTTLE_ACTIVE + 2 ^ g)
  else s

/-- A WT packet built locally joins the injection queue of its group. -/
def State.injectWt (s : State) (g : Nat) (p : Packet) (hive : Bool := false) : State :=
  let l := mgetD s.rt.inject g [] ++ [{ port := 127, pkt := { p with arrived := s.time }, cells := p.cells, group := some g, hive := hive }]
  { s with rt := { s.rt with inject := mset s.rt.inject g l } }.throttleCheck g

/-- A swarm or management packet built locally goes to the crossbar. -/
def State.injectOwn (s : State) (p : Packet) (hive : Bool := false) : State :=
  { s with rt := { s.rt with own := s.rt.own ++ [{ port := 127, pkt := { p with arrived := s.time }, cells := p.cells, hive := hive }] } }

/-- The packet that a WT header and payload make towards an EID, with the throttling group of its entry; none when the
lookup fails or the function has no own EID (R192 to R194, R209, R212). -/
def State.wtPacket (s : State) (fn tc colour destEid : Nat) (h : WtHeader) (payload : List Byte) : Option (Nat × Packet) :=
  match s.ownEid fn, s.eidLookup destEid with
  | some src, some (coord, link, g) =>
    some (g, {
      net := { kind := 0, tc := tc, vl := s.vlMap 1 tc (isRequest h.opcode), colour := colour, ordered := h.ordered,
               detoursLeft := s.rd Reg.RTE_ADAPT_MAX_DETOURS 1, destHost := link, destCoord := coord, destEid := destEid,
               srcEid := src, flowHash := flowHash src destEid h.srcQpn h.destQpn }
      body := .wt h, payload := payload })
  | _, _ => none

end Sys2Proof.Machine
end

