-- ==== Sys2Proof/Machine/Queue.lean ====
section
/-! DEFINITION. Queue pairs and what the device writes for them: completions, event records, consumer records, MSI-X
messages (R46 to R59, R493), the order of completions (R55, R144, R147), entering ERROR and flushing (R64, R65). -/

namespace Sys2Proof.Machine

/-! ### Queue pairs and their parts -/

/-- The key of a connection: peer EID and peer QPN (R60, R61). -/
def connKey (eid qpn : Nat) : Nat := eid * 2 ^ 24 + qpn

/-- The hive that serves a queue pair (R66). -/
def hiveOf (qpn : Nat) : Nat := qpn % 8

/-- Change a queue pair that is there. -/
def State.modQp (s : State) (n : Nat) (f : Qp → Qp) : State :=
  match s.qp n with
  | some q => s.setQp n (f q)
  | none => s

/-- Change a connection of a queue pair. -/
def State.modConn (s : State) (n k : Nat) (f : Conn → Conn) : State :=
  s.modQp n fun q => { q with conns := mmod q.conns k f }

/-- Change a send descriptor. -/
def Qp.modDesc (q : Qp) (id : Nat) (f : Desc → Desc) : Qp :=
  { q with sq := q.sq.map fun d => if d.id = id then f d else d }

/-- Change a send descriptor of a queue pair. -/
def State.modDesc (s : State) (n id : Nat) (f : Desc → Desc) : State := s.modQp n (·.modDesc id f)

/-- Change a receive. -/
def Qp.modRecv (q : Qp) (id : Nat) (f : Recv → Recv) : Qp :=
  { q with rq := q.rq.map fun r => if r.id = id then f r else r }

/-- Change a receive of a queue pair. -/
def State.modRecv (s : State) (n id : Nat) (f : Recv → Recv) : State := s.modQp n (·.modRecv id f)

/-- A send descriptor by its number. -/
def Qp.desc (q : Qp) (id : Nat) : Option Desc := q.sq.find? (·.id == id)

/-- A receive by its number. -/
def Qp.recv (q : Qp) (id : Nat) : Option Recv := q.rq.find? (·.id == id)

/-- What follows from the event in hand. -/
def State.drive (s : State) (e : Effect) : State := { s with tp := { s.tp with todo := s.tp.todo ++ [e] } }

/-- A descriptor has started and is not done (R63). -/
def Desc.outstanding (d : Desc) : Bool :=
  match d.st with
  | .building _ => true
  | .sent => true
  | _ => false

/-- The group of a collective descriptor (R155). -/
def Desc.gid (d : Desc) : Nat := bits d.op0 0 16

/-- A collective descriptor (R156). -/
def Desc.collective (d : Desc) : Bool := 0x40 ≤ d.opcode && d.opcode ≤ 0x43

/-- TPT_CTX_STATUS shows the contexts on die, the pool in use and the result-cache entries (R62, R66, R78). -/
def State.poolUsed (s : State) : Nat :=
  s.tp.qps.length + (s.tp.qps.map fun p => if p.2.shared then p.2.conns.length else 0).sum

/-- The pool of contexts and per-peer states (R62). -/
def State.poolSize (s : State) : Nat := min (s.useBytes 1 / 512) (2 ^ 24)

/-- Update TPT_CTX_STATUS. -/
def State.ctxShown (s : State) : State :=
  ((s.wr Reg.TPT_CTX_STATUS_ON_DIE s.tp.lru.length).wr Reg.TPT_CTX_STATUS_POOL_USED s.poolUsed).wr
    Reg.TPT_CTX_STATUS_RESULT_USED s.tp.results.length

/-! ### Messages and posted writes -/

/-- Send an MSI-X message of a function; a masked vector becomes pending. The flag says that nothing was lost (R411). -/
def State.msix (s : State) (fn vec : Nat) : State × Bool :=
  let f := s.func fn
  if s.bt.linkUp / 2 ^ (fn / 256) % 2 = 0 ∨ f.msixOff ∨ 2048 ≤ vec then (s, false)
  else if (mgetD f.vectors vec {}).masked then
    (s.setFunc fn { f with vectors := mset f.vectors vec { mgetD f.vectors vec {} with pending := true } }, true)
  else (s.emit (.msix fn vec), true)

/-- Cut bytes into the pieces of a translation. -/
def cutPieces : List (Nat × Nat) → List Byte → List (Nat × List Byte)
  | [], _ => []
  | (a, n) :: ps, b => (a, b.take n) :: cutPieces ps (b.drop n)

/-- Issue posted writes on a host link (R97). -/
def State.hostWrites (s : State) (link : Nat) (ps : List (Nat × List Byte)) (o : Owner) : State :=
  ps.foldl (fun s p => (s.emit (.hostWrite link p.1 p.2)).count 0x1C0 link p.2.length o) s

/-- Queue a posted write of the device's own. -/
def State.post (s : State) (w : PendWrite) : State := { s with tp := { s.tp with writes := s.tp.writes ++ [w] } }

/-- The 32 bytes of a completion, with PHASE 0 (R55). -/
def completion (status : Nat) (remote recv : Bool) (opcode idx userId count srcEid result : Nat) : List Byte :=
  leBytes 8 (status + (if remote then 2 ^ 9 else 0) + (if recv then 2 ^ 10 else 0) + opcode * 2 ^ 16 + idx * 2 ^ 24)
  ++ leBytes 8 userId ++ leBytes 8 (count % 2 ^ 33 + srcEid % 2 ^ 20 * 2 ^ 40) ++ leBytes 8 result

/-- Raise an event record of a function (R58): its 16 bytes, with PHASE 0. -/
def State.qevent (s : State) (fn type status obj : Nat) : State :=
  s.post { fn := fn, bytes := leBytes 8 (type + status * 2 ^ 16 + obj % 2 ^ 21 * 2 ^ 24) ++ leBytes 8 s.time, use := .eq fn }

/-- Set PHASE of an entry: 1 on the first pass of the ring, inverted on each later one (R55, R56). -/
def withPhase (b : List Byte) (produced log : Nat) : List Byte :=
  b.set 1 (b.getD 1 0 ||| (if produced / 2 ^ log % 2 = 0 then 1 else 0))

/-- Entries written and not yet reported as consumed, modulo 2^32 (R57, R493). -/
def ringUsed (produced consumed : Nat) : Nat := (produced + 2 ^ 32 - consumed % 2 ^ 32) % 2 ^ 32

/-- A completion cannot be written: it is discarded, and its queue pair enters ERROR; the first one puts the completion
queue into overflow with one event (R57). -/
def State.cqLost (s : State) (fn c qpn : Nat) (cq : Cq) (o : Owner) : State :=
  let s := (s.tally Reg.TPT_VIOLATION_CQ_LOST 0x1C8 0 o).drive (.qpError qpn St.cqOverflow)
  if cq.overflow then s
  else
    let f := s.func fn
    (s.setFunc fn { f with cqs := mset f.cqs c { cq with overflow := true } }).qevent fn 3 St.cqOverflow c

/-- Try to write the write at the front of its function's queue; false when it waits for its translation. -/
def State.writeOut (s : State) (w : PendWrite) : State × Bool :=
  let f := s.func w.fn
  let link := w.fn / 256
  match w.use with
  | .cq fn c qpn =>
    match mget f.cqs c with
    | none => (s, true)
    | some q =>
      if q.overflow ∨ 2 ^ q.log ≤ ringUsed q.produced q.consumed then (s.cqLost fn c qpn q w.owner, true)
      else match s.translate (.record fn) fn (q.base + 32 * (q.produced % 2 ^ q.log)) 32 accWrite with
        | (s, .wait) => (s, false)
        | (s, .fault _ _) => (s.cqLost fn c qpn q w.owner, true)
        | (s, .ok ps _ _) =>
          let s := s.hostWrites link (cutPieces ps (withPhase w.bytes q.produced q.log)) w.owner
          let f := s.func fn
          let s := s.setFunc fn { f with cqs := mset f.cqs c { q with produced := (q.produced + 1) % 2 ^ 32, armed := false } }
          let s := s.count 0x1CF 0 1 w.owner
          (if q.armed then (s.msix fn q.vector).1 else s, true)
  | .eq fn =>
    match f.eq with
    | none => (s.tally Reg.TPT_VIOLATION_EQ_LOST 0x1C9 0 (some (fn, 0)), true)
    | some q =>
      if 2 ^ q.log ≤ ringUsed q.produced q.consumed then (s.tally Reg.TPT_VIOLATION_EQ_LOST 0x1C9 0 (some (fn, 0)), true)
      else match s.translate (.record fn) fn (q.base + 16 * (q.produced % 2 ^ q.log)) 16 accWrite with
        | (s, .wait) => (s, false)
        | (s, .fault _ _) => (s.tally Reg.TPT_VIOLATION_EQ_LOST 0x1C9 0 (some (fn, 0)), true)
        | (s, .ok ps _ _) =>
          let s := s.hostWrites link (cutPieces ps (withPhase w.bytes q.produced q.log)) w.owner
          let f := s.func fn
          let s := s.setFunc fn { f with eq := some { q with produced := (q.produced + 1) % 2 ^ 32 } }
          ((s.msix fn q.vector).1, true)
  | .record qpn va =>
    if (s.qp qpn).isNone then (s, true)
    else match s.translate (.record w.fn) w.fn va 8 accWrite with
      | (s, .wait) => (s, false)
      | (s, .fault st _) => (s.drive (.qpError qpn st), true)
      | (s, .ok ps _ _) => (s.hostWrites link (cutPieces ps w.bytes) w.owner, true)

/-- Write out what can be written, each function's writes in their order (R111). -/
def State.drainWrites : List PendWrite → List Nat → State → State
  | [], _, s => s
  | w :: l, held, s =>
    if held.contains w.fn then State.drainWrites l held (s.post w)
    else match s.writeOut w with
      | (s, true) => State.drainWrites l held (s.forgetAccesses (· == .record w.fn))
      | (s, false) => State.drainWrites l (w.fn :: held) (s.post w)

/-- One pass over the writes that wait. -/
def State.drainPass (s : State) : State := State.drainWrites s.tp.writes [] { s with tp := { s.tp with writes := [] } }

/-! ### Completions in order -/

/-- BYTE_COUNT of a successful send descriptor (R55, R131, R139, R161). -/
def Desc.bytes (d : Desc) : Nat :=
  if d.opcode = 0x00 ∨ d.opcode = 0x30 ∨ d.opcode = 0x31 ∨ d.opcode = 0x40 then 0 else d.len

/-- RESULT of a failed descriptor: its DETAIL from minor 3 (R44, R55). -/
def detailFor (f : Func) (detail : Nat) : Nat := if 3 ≤ f.minor then detail else 0

/-- The completion of a finished send descriptor; none for a success without SIGNAL (R55). -/
def State.sendCompletion (s : State) (n : Nat) (q : Qp) (d : Desc) : State :=
  if d.status = St.success ∧ !d.signal then s
  else
    let good := d.status = St.success
    s.post {
      fn := q.fn, owner := q.owner, use := .cq q.fn q.sendCq n
      bytes := completion d.status d.remote false d.opcode q.idx d.userId.toNat (if good then d.bytes else 0) 0
        (if good then d.result.toNat else detailFor (s.func q.fn) d.detail) }

/-- Write the completions of the finished descriptors at the head of the send queue (R55), and the SQ_PAUSED event when
a paused queue pair has no outstanding send left (R63); its STATUS is SUCCESS (log entry 44). -/
def State.drainSq (s : State) (n : Nat) : State :=
  match s.qp n with
  | none => s
  | some q =>
    let fin := q.sq.takeWhile (·.st == .done)
    let q := { q with sq := q.sq.dropWhile (·.st == .done) }
    let s := fin.foldl (fun s d => s.sendCompletion n q d) (s.setQp n q)
    if q.st = .paused ∧ !q.pausedSent ∧ !q.sq.any (·.outstanding) then
      (s.setQp n { q with pausedSent := true }).qevent q.fn 2 St.success q.idx
    else s

/-- The in-use references of a descriptor on its local keys end (R109); while a local read is in progress, the reference
ends with that read. -/
def State.dropLocal (s : State) (n id : Nat) : State :=
  match (s.qp n).bind (·.desc id) with
  | some d =>
    let s := s.modDesc n id ({ · with localRef := false, outRef := false })
    let s := if d.localRef ∧ !d.reading then s.dropRef (keyIndex d.lkey) else s
    if d.outRef then s.dropRef (keyIndex d.rkey) else s
  | none => s

/-- A send descriptor finishes with a status. -/
def State.finishDesc (s : State) (n id status : Nat) (remote : Bool := false) (detail : Nat := 0) (result : Word := 0) : State :=
  let s := s.dropLocal n id
  (s.modDesc n id fun d =>
    if d.st = .done then d
    else { d with st := .done, status := status, remote := remote, detail := detail, result := result }).drainSq n

/-- The completion of a finished receive (R144). A receive that no message matched has no sender: its SOURCE_EID is 0 (log
entry 44). -/
def State.recvCompletion (s : State) (n : Nat) (q : Qp) (r : Recv) : State :=
  let good := r.status = St.success ∨ r.status = St.truncated
  s.post {
    fn := q.fn, owner := q.owner, use := .cq q.fn q.recvCq n
    bytes := completion r.status false true 0x80 q.idx r.userId.toNat (if good then r.bytes else 0)
      r.srcEid
      (if good then r.msgTag.toNat else detailFor (s.func q.fn) r.detail) }

/-- A handler must run for a finished receive (R146, R147). -/
def Recv.handled (r : Recv) : Bool :=
  r.handler != 0 && r.st == .placed && (r.status == St.success || r.status == St.truncated)

/-- The status and bytes that a receive completes with (R132, R142). -/
def Recv.outcome (r : Recv) : Nat := if r.runLast ∧ r.msgLen > r.fetchOff + r.len then St.truncated else St.success

/-- A receive leaves its queue with its completion; the FIN of a rendezvous goes after the completion of its last receive,
with the status and bytes of the whole (R128, R137, R142). No FIN is sent in ERROR (R141). Where the handler of the receive fails,
the FIN says how the placement ended (log entry 56). -/
def State.completeRecv (s : State) (n : Nat) (q : Qp) (r : Recv) : State :=
  let fin := match r.rtsPsn with
    | some psn => if q.st ≠ .error ∧ r.runLast ∧ r.fetched = r.want then [(r.conn, psn, r.fetchOff + r.want, r.outcome)] else []
    | none => []
  (s.setQp n { q with rq := q.rq.filter (·.id != r.id), fins := q.fins ++ fin }).recvCompletion n q r

/-- Write the completions of finished receives in the order in which they finished; one whose handler has to run holds
those after it (R144, R147). A queue pair whose hive gives no thread to handlers completes it HANDLER_FAULT with detail 4
(R148). -/
def State.drainRqList : List Nat → Nat → State → State
  | [], n, s => s.modQp n ({ · with rdone := [] })
  | id :: l, n, s =>
    match (s.qp n).bind fun q => (q.recv id).map fun r => (q, r) with
    | none => State.drainRqList l n s
    | some (q, r) =>
      if q.handlerRun = some id then s.setQp n { q with rdone := id :: l }
      else if r.handled ∧ q.st ≠ .error then
        (if s.rd Reg.MCH_HANDLER_THREADS = 0 then
          let s := s.tally Reg.MCH_STATUS_HANDLER_FAULTS 0x107 0 q.owner
          State.drainRqList l n (s.completeRecv n q { r with st := .done, status := St.handlerFault, detail := 4 })
        else s.setQp n { q with rdone := id :: l })
      else State.drainRqList l n (s.completeRecv n q r)

/-- Write the receive completions that may be written. -/
def State.drainRq (s : State) (n : Nat) : State :=
  match s.qp n with
  | some q => State.drainRqList q.rdone n s
  | none => s

/-- A receive's reference on its buffer key ends (R109, R143). -/
def State.dropRecvRef (s : State) (n id : Nat) : State :=
  match (s.qp n).bind (·.recv id) with
  | some r => if r.ref then (s.modRecv n id ({ · with ref := false })).dropRef (keyIndex r.lkey) else s
  | none => s

/-- A receive finishes with a status and joins the order of completions (R144). -/
def State.finishRecv (s : State) (n id status : Nat) (detail : Nat := 0) : State :=
  let s := s.dropRecvRef n id
  (s.modQp n fun q =>
    let q := q.modRecv id fun r => { r with st := .placed, status := status, detail := detail }
    { q with rdone := q.rdone ++ [id] }).drainRq n

/-! ### Matching structures that follow a queue pair -/

/-- Cells that records of the pool hold (R129). -/
def State.cellsUsed (s : State) : Nat := (s.mt.unexp.map (·.cells)).sum

/-- Cells that the records of a function hold (R130). -/
def State.fnCells (s : State) (fn : Nat) : Nat := ((s.mt.unexp.filter (·.fn == fn)).map (·.cells)).sum

/-- The status registers of the match units follow their structures (R123, R129). -/
def State.matchShown (s : State) (fn : Nat) : State :=
  let s := (s.wr Reg.MCH_UNEXP_STATUS_CELLS_USED s.cellsUsed).high Reg.MCH_UNEXP_STATUS_HIGH_WATER s.cellsUsed
  (s.wr Reg.MCH_UNEXP_QUOTA_USED (s.fnCells fn) fn).wr Reg.MCH_POSTED_STATUS_POSTED s.mt.posted.length

/-- A record leaves the pool and its cells are free (R131). -/
def State.freeRecord (s : State) (id : Nat) : State :=
  match s.mt.unexp.find? (·.id == id) with
  | some u => { s with mt := { s.mt with unexp := s.mt.unexp.filter (·.id != id) } }.matchShown u.fn
  | none => s

/-- The miss buffer of a hive loses packets (R67). -/
def State.missOut (s : State) (h k : Nat) : State :=
  let m := mgetD s.tp.miss h 0 - k
  { s with tp := { s.tp with miss := mset s.tp.miss h m } }.wr Reg.TPT_MISS_STATUS_OCCUPANCY m h

/-! ### ERROR and flushing (R64, R65) -/

/-- Mark the descriptors of a queue pair that enters ERROR: the causing one keeps its own status, one finished or with
nothing unacknowledged keeps its course when it is older, the others are flushed (R65). R65 orders descriptors by the causing
one; where there is none, every descriptor read before the error counts as older (log entry 44). -/
def flushDesc (causing : Option Nat) (d : Desc) : Desc :=
  let older : Bool := match causing with
    | some c => decide (d.id < c)
    | none => true
  if d.st = .done then (if older ∨ causing = some d.id then d else { d with status := St.flushed, remote := false, detail := 0 })
  else if older ∧ d.st = .sent ∧ d.unacked = 0 ∧ !(0x40 ≤ d.opcode ∧ d.opcode ≤ 0x43) ∧ d.rtsPsn.isNone then d
  else { d with st := .done, status := St.flushed, remote := false, detail := 0, localRef := false, outRef := false }

/-- References of flushed descriptors end, except while a local read is in progress (R109). -/
def State.flushRefs (s : State) (l : List Desc) : State :=
  l.foldl (fun s d =>
    let s := if d.localRef ∧ !d.reading then s.dropRef (keyIndex d.lkey) else s
    if d.outRef then s.dropRef (keyIndex d.rkey) else s) s

/-- Placements of a queue pair's own descriptors and receives that are not issued are dropped with their references. -/
def State.dropPlacements (s : State) (n : Nat) (keep : Nat → Bool) : State :=
  let gone := s.tp.placements.filter fun p =>
    match p.2.use with
    | .get q _ _ d => q == n && !keep d
    | .fetch q _ _ _ => q == n
    | .eager q _ _ _ _ => q == n
    | .copy q _ _ => q == n
    | _ => false
  { s with tp := { s.tp with placements := s.tp.placements.filter fun p => !(gone.any (·.1 == p.1)) } }

/-- The unexpected records of a queue pair in ERROR are discarded, and its receives leave the posted lists (R119, R144). -/
def State.dropMatching (s : State) (n fn : Nat) : State :=
  { s with mt := { s.mt with
    posted := s.mt.posted.filter fun p => !(p.qpn == n && p.handle.isNone)
    unexp := s.mt.unexp.filter (·.qpn != n) } }.matchShown fn

/-- Flush the receive side of a queue pair in ERROR: posted and unfinished receives complete FLUSHED in posting order
after those that have finished, once no handler of it runs (R65, R144, R149). -/
def State.flushRq (s : State) (n : Nat) : State :=
  match s.qp n with
  | none => s
  | some q =>
    let s := s.dropMatching n q.fn
    if q.handlerRun.isSome then s
    else
      let gone := q.rq.filter fun r => !q.rdone.contains r.id || r.handled
      let s := gone.foldl (fun s r => if r.ref then s.dropRef (keyIndex r.lkey) else s) s
      let ids := gone.map (·.id)
      let fin := q.rdone.filter fun i => !ids.contains i
      let q := { q with
        rdone := fin ++ ids
        rq := q.rq.map fun r => if ids.contains r.id then { r with st := .done, status := St.flushed, detail := 0, ref := false } else r }
      (s.setQp n q).drainRq n

/-- The references of accesses that wait for a walk end, where their connection's packets are discarded (R94, R109): of
one connection, or of a whole queue pair. -/
def State.dropGrants (s : State) (n : Nat) (k : Option Nat) : State :=
  let mine (g : Grant) : Bool := g.qpn == n && (k.isNone || k == some g.conn)
  (s.tp.granted.filter mine).foldl (fun s g => s.dropRef (keyIndex g.key))
    { s with tp := { s.tp with granted := s.tp.granted.filter fun g => !mine g } }

/-- UNEXPECTED_FULL may be written again once no connection of the queue pair is latched (R136). -/
def Qp.unlatched (q : Qp) : Qp := { q with unexpFull := q.unexpFull && q.conns.any (·.2.latch.isSome) }

/-- Stop a queue pair's traffic: trackers, held packets, fetches and waiting packets go (R64, R141). Packets that wait
without a SCRATCH partition free their cells (R67, R242). -/
def State.stopTraffic (s : State) (n : Nat) (q : Qp) : State :=
  let held := (q.waits.map fun c => c.2.length).sum
  let s := s.dropGrants n none
  let s := if s.scratch then s else (q.waits.flatMap (·.2)).foldl (fun s x => s.returnCredit x.1 x.2) s
  let s := s.setQp n { q with
    shaped := none, throttled := [], fins := [], waits := [], fetches := [], unexpFull := false
    conns := q.conns.map fun p => (p.1, { p.2 with
      track := [], latch := none, rxMsgs := [], unplaced := [], ackCount := 0, ackTimer := false }) }
  s.missOut (hiveOf n) held

/-- A queue pair enters ERROR with a causing status and descriptor (R64, R65). -/
def State.enterError (s : State) (n status : Nat) (causing : Option Nat := none) : State :=
  match s.qp n with
  | none => s
  | some q =>
    if q.st = .error ∨ q.st = .reset then s
    else
      let s := s.stopTraffic n q
      match s.qp n with
      | none => s
      | some q =>
        let sq := q.sq.map (flushDesc causing)
        let flushed := (q.sq.zip sq).filter fun p => p.1.st != .done && p.2.st == .done
        let lost := (q.sq.filter fun d => d.rtsPsn.isSome && d.st != .done).map fun d =>
          (if q.shared then 2 ^ 24 * d.destEid + d.destQpn else 2 ^ 24 * q.peerEid + q.peerQpn, d.lkey, d.laddr, bits d.op1 16 8 * 2 ^ 32 + d.len)
        let s := s.setQp n { q with st := .error, sq := sq, lost := lost }
        let s := s.flushRefs (flushed.map (·.1))
        let s := s.dropPlacements n fun d => sq.any fun x => x.id == d && x.st != .done
        let s := (flushed.filter fun p => p.1.collective && p.1.outstanding).foldl (fun s p => s.drive (.abort p.1.gid 5)) s
        let s := s.qevent q.fn 1 status q.idx
        (s.drainSq n).flushRq n

/-- A descriptor fails: it finishes with its status and its queue pair enters ERROR (R63, R65). -/
def State.failDesc (s : State) (n id status : Nat) (remote : Bool := false) (detail : Nat := 0) : State :=
  let s := s.dropLocal n id
  let s := s.modDesc n id fun d =>
    if d.st = .done then d else { d with st := .done, status := status, remote := remote, detail := detail }
  s.enterError n status (some id)

/-- A receive fails: it finishes with its status and its queue pair enters ERROR (R54, R143). Its completion is written at
once, ahead of the FLUSHED ones of receives posted before it (log entry 44). -/
def State.failRecv (s : State) (n id status detail : Nat) : State :=
  let s := s.dropRecvRef n id
  let s := s.modQp n fun q =>
    { (q.modRecv id fun r => { r with st := .done, status := status, detail := detail, handler := 0 }) with rdone := q.rdone ++ [id] }
  (s.drainRq n).enterError n status

end Sys2Proof.Machine
end

