-- ==== Sys2Proof/Machine/Send.lean ====
section
/-! DEFINITION. The requester: shaping, policing and sending of packets, packet building, trackers and resends, the start
of send descriptors (R51 to R53, R60 to R62, R69 to R79, R90 to R93, R137, R289 to R296). -/

namespace Sys2Proof.Machine

/-! ### Shapers and policers (R290 to R296) -/

/-- Fill a bucket at its rate: RATE times the nanoseconds since the last check, over 8,000, with the remainder kept, and
clamped to its depth (R291). -/
def Bucket.refill (b : Bucket) (now : Nat) : Bucket :=
  let x := b.rate * (now - b.last) + b.rem
  { b with tokens := min b.burst (b.tokens + x / 8000), rem := x % 8000, last := now }

/-- The policer's verdict on a packet of `len` bytes with a pre-colour (R294). -/
def Policer.judge (p : Policer) (now pre len : Nat) : Policer × Nat :=
  if !p.enable then (p, pre)
  else
    let tc := p.tc.refill now
    let tp := p.tp.refill now
    let pre := if p.aware then pre else 0
    if pre = 2 ∨ tp.tokens < len then ({ p with tc := tc, tp := tp }, 2)
    else if pre = 1 ∨ tc.tokens < len then ({ p with tc := tc, tp := { tp with tokens := tp.tokens - len } }, 1)
    else ({ p with tc := { tc with tokens := tc.tokens - len }, tp := { tp with tokens := tp.tokens - len } }, 0)

/-- Police a packet of a protection domain: its colour, or none when it is discarded (R295). -/
def State.police (s : State) (fn pd pre len : Nat) : State × Option Nat :=
  let f := s.func fn
  let r := (mgetD f.pds pd {}).judge s.time pre len
  let s := s.setFunc fn { f with pds := mmod f.pds pd fun _ => r.1 }
  let o : Owner := some (fn, pd)
  if r.2 = 1 then (s.tally Reg.SCH_POLICE_COUNT_YELLOW 0x0C9 0 o, some 1)
  else if r.2 = 0 then (s, some 0)
  else if r.1.mark then (s.tally Reg.SCH_POLICE_COUNT_RED_MARKED 0x0CA 0 o, some 2)
  else (s.tally Reg.SCH_POLICE_COUNT_RED_DROPPED 0x0CB 0 o, none)

/-- Send a request packet of a queue pair: the EID lookup, the policer, the injection queue (R191, R289). The flag says
that the lookup failed (R192); a function without an own EID sends nothing (R193). -/
def State.sendReq (s : State) (q : Qp) (dest : Nat) (h : WtHeader) (payload : List Byte) : State × Bool :=
  if (s.ownEid q.fn).isNone then (s, false)
  else
    let s := s.eidMet dest
    match s.wtPacket q.fn q.tc 0 dest h payload with
    | none => (s, true)
    | some (g, p) =>
      match s.police q.fn q.pd q.precolour p.length with
      | (s, none) => (s, false)
      | (s, some c) => (s.injectWt g { p with net := { p.net with colour := c } }, false)

/-- Send a response-class packet: never policed, always green (R295). An EID whose lookup fails gets no answer. -/
def State.sendRsp (s : State) (q : Qp) (dest : Nat) (h : WtHeader) (payload : List Byte := []) : State :=
  let s := s.eidMet dest
  match s.wtPacket q.fn q.tc 0 dest h payload with
  | some (g, p) => s.injectWt g p
  | none => s

/-! ### Connections and trackers (R60, R61, R73) -/

/-- The connection of a send descriptor. -/
def Qp.connOf (q : Qp) (d : Desc) : Nat :=
  if q.shared then connKey d.destEid d.destQpn else connKey q.peerEid q.peerQpn

/-- The oldest PSN that a connection holds unacknowledged, or its next one (R71). -/
def Conn.low (c : Conn) : Nat := match c.track with | t :: _ => t.psn | [] => c.nextPsn

/-- LOW_PSN of a packet: 0 on version 1. -/
def Qp.lowPsn (q : Qp) (c : Conn) : Nat := if q.version = 1 then 0 else c.low

/-- A new request of `count` PSNs fits: a tracker entry is free and the window holds it (R73). -/
def State.roomFor (s : State) (c : Conn) (count : Nat) : Bool :=
  decide ((s.tp.qps.map fun p => (p.2.conns.map fun x => x.2.track.length).sum).sum < 65536)
    && decide ((c.nextPsn + count - 1 + 2 ^ 24 - c.low) % 2 ^ 24 ≤ 2047)

/-- The header of a request (R71), before the fields that each send fills in. -/
def Qp.request (q : Qp) (c : Conn) (op psn : Nat) (ordered : Bool) : WtHeader :=
  { version := q.version, ext := (extOf op).getD 0, opcode := op, destQpn := c.peerQpn, srcQpn := q.qpn, psn := psn,
    ordered := ordered || q.version == 1 }

/-- Add a tracker entry and take its PSNs (R73). -/
def State.addTrack (s : State) (n k : Nat) (t : Track) : State :=
  s.modConn n k fun c => { c with track := c.track ++ [t], nextPsn := (t.psn + t.count) % 2 ^ 24 }

/-- Change a tracker entry. -/
def State.modTrack (s : State) (n k psn : Nat) (f : Track → Track) : State :=
  s.modConn n k fun c => { c with track := c.track.map fun t => if t.psn = psn then f t else t }

/-- A tracker entry. -/
def State.track (s : State) (n k psn : Nat) : Option Track :=
  ((s.qp n).bind fun q => mget q.conns k).bind fun c => c.track.find? (·.psn == psn)

/-- The request of a tracker entry fails for good: its descriptor or its receive completes with the status, and the
queue pair enters ERROR (R63, R76, R141). -/
def State.failTrack (s : State) (n : Nat) (t : Track) (status : Nat) (remote : Bool) (detail : Nat) : State :=
  match t.use with
  | .desc id =>
    match (s.qp n).bind (·.desc id) with
    | some d => if d.st = .done then s.enterError n status else s.failDesc n id status remote detail
    | none => s.enterError n status
  | .fetch id => s.failRecv n id status detail
  | .fin => s.enterError n status

/-- Send the packet of a tracker entry, with the LOW_PSN and SYNC of now, and start its timer (R61, R71, R76). -/
def State.launch (s : State) (n k psn : Nat) (payload : List Byte) : State :=
  match s.qp n, s.track n k psn with
  | some q, some t =>
    match mget q.conns k with
    | none => s
    | some c =>
      match s.sendReq q c.peerEid { t.hdr with lowPsn := q.lowPsn c, sync := c.sync && q.version != 1 } payload with
      | (s, true) => s.failTrack n t St.invalidState false 1
      | (s, false) => s.modTrack n k psn fun t =>
          { t with sent := true, timer := true, intervalUs := if t.intervalUs = 0 then s.rd Reg.TPT_RETX_BASE_US else t.intervalUs }
  | _, _ => s

/-! ### Local reads (R81, R109, R394, R492) -/

/-- How a local read of payload ends: with data, with reads sent to the host link, with a wait for a walk, or with a
fault. -/
inductive Fetch where
  | data (b : List Byte)
  | reading
  | wait
  | fault (status detail : Nat)
  deriving DecidableEq, Repr

/-- Send a read to a function's host link (R492). -/
def State.readHost (s : State) (fn : Nat) (cover : Nat × Nat) (len : Nat) (ps : List (Nat × Nat)) (use : ReadFor) : State :=
  let id := s.tp.nextId
  let r : HostRead := { link := fn / 256, fn := fn, cover := cover, len := len, pieces := ps, use := use }
  let s := { s.newId with tp := { s.newId.tp with reads := mset s.tp.reads id r } }
  ps.foldl (fun s p => s.emit (.hostRead (fn / 256) p.1 p.2 id)) s

/-- Read local data under a key: from the store at once, from the host by a read. A quiesced STORE or HOST crossing starts
none (R23). -/
def State.fetchLocal (s : State) (fn key va len : Nat) (use : ReadFor) : State × Fetch :=
  if len = 0 then (s, .data [])
  else
    let e := s.key (keyIndex key)
    if !s.admits (if e.store then 5 else 6) then (s, .wait)
    else if e.store then
      match s.fetchStore (e.storeAt va) len with
      | (s, some b) => (s, .data b)
      | (s, none) => (s, .fault St.remoteOpError 11)
    else match s.translate (.read use) fn va len accRead with
      | (s, .wait) => (s, .wait)
      | (s, .fault st d) => (s, .fault st d)
      | (s, .ok ps _ c) => (s.readHost fn c len ps use, .reading)

/-! ### Resends (R69, R76, R134) -/

/-- Send a tracked packet again: its payload is read again, under a reference of its own (R109, R393). The flag is false while the read waits for a walk. -/
def State.resend (s : State) (n k psn : Nat) : State × Bool :=
  match s.qp n, s.track n k psn with
  | some q, some t =>
    match t.src with
    | none => (s.launch n k psn [], true)
    | some (va, len, key) =>
      match s.fetchLocal q.fn key va len (.resend n k psn (keyIndex key)) with
      | (s, .data b) => (s.launch n k psn b, true)
      | (s, .reading) => ((s.takeRef (keyIndex key)).modTrack n k psn ({ · with timer := true }), true)
      | (s, .wait) => (s, false)
      | (s, .fault st d) => (s.failTrack n t st false d, true)
  | _, _ => (s, true)

/-! ### Acknowledgement of requests (R75, R131, R137) -/

/-- Complete a descriptor whose packets are all acknowledged and whose data is placed; a rendezvous waits for its FIN. -/
def State.checkDone (s : State) (n id : Nat) : State :=
  match (s.qp n).bind (·.desc id) with
  | some d =>
    if d.st = .sent ∧ d.unacked = 0 ∧ d.placing = 0 ∧ d.rtsPsn.isNone ∧ !d.collective ∧ d.opcode ≠ 0x31 then
      s.finishDesc n id St.success false 0 d.result
    else s
  | none => s

/-- Retire a tracker entry: its request is acknowledged. -/
def State.retire (s : State) (n k : Nat) (t : Track) : State :=
  let s := s.modConn n k fun c => { c with track := c.track.filter (·.psn != t.psn), sync := false }
  match t.use with
  | .desc id =>
    let s := s.modDesc n id fun d => { d with unacked := d.unacked - 1, rndvWait := d.rndvWait || d.rtsPsn == some t.psn }
    s.checkDone n id
  | _ => s

/-! ### Building packets (R53, R71, R73, R126, R128, R137) -/

/-- The message length of a SEND_TAGGED (R115). -/
def Desc.msgLen (d : Desc) : Nat := bits d.op1 16 8 * 2 ^ 32 + d.len

/-- A SEND_TAGGED goes by rendezvous (R126). -/
def State.byRendezvous (s : State) (d : Desc) : Bool := decide (s.rd Reg.MCH_CONFIG_EAGER_THRESHOLD < d.msgLen)

/-- Bytes up to the next 4 KiB boundary of an address, or to the end (R53). -/
def chunk4k (a left : Nat) : Nat := min left (4096 - a % 4096)

/-- Bytes of one GET_REQ (R53). -/
def chunkGet (a left : Nat) : Nat := min left (65536 - a % 4096)

/-- Response packets of a GET_REQ: one for each 4 KiB page touched (R53, R73). -/
def responses (a n : Nat) : Nat := if n = 0 then 1 else (a % 4096 + n + 4095) / 4096

/-- Stage 2: a packet passes the shaper, or waits there (R290). -/
def State.shape (s : State) (n k psn : Nat) (payload : List Byte) (len : Nat) : State :=
  match s.qp n with
  | none => s
  | some q =>
    let b := q.shaper.refill s.time
    if b.rate = 0 then (s.setQp n { q with shaper := b }).launch n k psn payload
    else if len ≤ b.tokens then (s.setQp n { q with shaper := { b with tokens := b.tokens - len } }).launch n k psn payload
    else (s.setQp n { q with shaper := b, shaped := some (k, psn, payload) }).tally
      Reg.SCH_POLICE_COUNT_SHAPER_HOLDS 0x0CC 0 q.owner

/-- The next packet of a descriptor: wire opcode, PSNs, extension fields, local bytes to carry, bytes covered. An atomic
with ATOMIC32 says so beside its header bytes (log entry 45). -/
def Qp.nextPacket (q : Qp) (c : Conn) (d : Desc) (at0 : Nat) : WtHeader × Nat × Nat × Nat :=
  let mk op := q.request c op c.nextPsn d.ordered
  if d.opcode = 0x01 then
    let m := chunk4k (d.raddr + at0) (d.len - at0)
    let last : Bool := decide (at0 + m = d.len)
    ({ mk Op.put with address := d.raddr + at0, key := d.rkey, first := at0 == 0, last := last, solicitAck := last }, 1, m, m)
  else if d.opcode = 0x03 then
    let m := chunkGet (d.raddr + at0) (d.len - at0)
    let last : Bool := decide (at0 + m = d.len)
    ({ mk Op.getReq with address := d.raddr + at0, key := d.rkey, length := m, first := at0 == 0, last := last, solicitAck := last },
      responses (d.raddr + at0) m, 0, m)
  else if d.opcode = 0x20 then
    if d.rndv then
      let h := mk Op.rts
      let ctx := bits d.op1 0 16 + d.msgLen / 2 ^ 32 * 2 ^ 16
      ({ h with first := true, last := true, solicitAck := true, address := d.laddr, key := d.lkey, length := d.msgLen % 2 ^ 32,
                operand0 := d.op0.toNat, operand1 := ctx }, 1, 0, 0)
    else
      let m := chunk4k at0 (d.len - at0)
      let last : Bool := decide (at0 + m = d.len)
      let h := mk Op.eager
      ({ h with address := at0, length := d.len, operand0 := d.op0.toNat, operand1 := bits d.op1 0 16,
                first := at0 == 0, last := last, solicitAck := last }, 1, m, m)
  else
    let h := mk Op.atomicReq
    ({ h with code := d.opcode, address := d.raddr, key := d.rkey, word32 := d.atomic32,
              operand0 := d.op0.toNat, operand1 := d.op1.toNat, first := true, last := true, solicitAck := true }, 1, 0, d.len)

/-- Stage 1 for a packet towards an EID (R215, R289): the throttled group that holds it, if one does. -/
def State.holdingGroup (s : State) (dest : Nat) : Option Nat :=
  match s.eidLookup dest with
  | some (_, _, g) => if s.throttled g then some g else none
  | none => none

/-- Count the hold of a packet by a throttled group, once for the hold (R215). -/
def State.noteHold (s : State) (n g : Nat) : State :=
  match s.qp n with
  | some q =>
    if q.throttled.contains g then s
    else (s.setQp n { q with throttled := g :: q.throttled }).tally Reg.RTE_DETOURS_THROTTLE_HOLDS 0x0C7 0 q.owner
  | none => s

/-- Build the next packet of a started descriptor (R73). -/
def State.buildDesc (s : State) (n : Nat) (q : Qp) (d : Desc) (at0 : Nat) : State :=
  let k := q.connOf d
  match mget q.conns k with
  | none => s
  | some c =>
    let (h, count, carry, m) := q.nextPacket c d at0
    if !s.roomFor c count then s
    else
      let go (s : State) (payload : List Byte) : State :=
        let src := if carry = 0 then none else some (d.laddr + at0, carry, d.lkey)
        let s := s.addTrack n k { psn := h.psn, count := count, hdr := h, src := src, use := .desc d.id,
                                  dest := d.laddr + at0, lkey := d.lkey }
        let fin := d.opcode ∉ [0x01, 0x03, 0x20] ∨ h.opcode = Op.rts ∨ d.len ≤ at0 + m
        let s := s.modDesc n d.id fun d =>
          { d with st := if fin then .sent else .building (at0 + m), unacked := d.unacked + 1, data := none,
                   rtsPsn := if h.opcode = Op.rts then some h.psn else d.rtsPsn }
        s.shape n k h.psn payload (16 + wtSize h.ext + payload.length)
      match d.data with
      | some (o, b) => if o = at0 then go s b else s
      | none =>
        if d.reading then s
        else match s.fetchLocal q.fn d.lkey (d.laddr + at0) carry (.source n d.id at0 d.lkey) with
          | (s, .data b) => go s b
          | (s, .reading) => s.modDesc n d.id ({ · with reading := true })
          | (s, .wait) => s
          | (s, .fault st dt) => s.failDesc n d.id st false dt

/-- Send a FIN that waits (R137): it is not shaped (R292). -/
def State.buildFin (s : State) (n : Nat) (q : Qp) (f : Nat × Nat × Nat × Nat) : State :=
  match mget q.conns f.1 with
  | none => s.setQp n { q with fins := q.fins.erase f }
  | some c =>
    if !s.roomFor c 1 then s
    else
      let s := s.setQp n { q with fins := q.fins.erase f }
      let h := { q.request c Op.fin c.nextPsn false with
        first := true, last := true, solicitAck := true, code := f.2.2.2, address := f.2.2.1, operand0 := f.2.1 }
      (s.addTrack n f.1 { psn := h.psn, hdr := h, use := .fin }).launch n f.1 h.psn []

/-- Send the next GET_REQ of a rendezvous fetch (R137). -/
def State.buildFetch (s : State) (n : Nat) (q : Qp) (r : Recv) : State :=
  match mget q.conns r.conn with
  | none => s
  | some c =>
    let a := r.fetchAddr + r.fetchOff + r.fetchBuilt
    let m := chunkGet a (r.want - r.fetchBuilt)
    let count := responses a m
    if !s.roomFor c count then s
    else
      let last : Bool := decide (r.fetchBuilt + m = r.want)
      let h := { q.request c Op.getReq c.nextPsn false with
        address := a, key := r.fetchKey, length := m, first := r.fetchBuilt == 0, last := last, solicitAck := last }
      let s := s.addTrack n r.conn { psn := h.psn, count := count, hdr := h, use := .fetch r.id,
                                     dest := r.laddr + r.fetchBuilt, lkey := r.lkey }
      (s.modRecv n r.id fun r => { r with fetchBuilt := r.fetchBuilt + m }).launch n r.conn h.psn []

/-- What send processing may build next: a FIN, the next GET_REQ of a rendezvous fetch, the next packet of a descriptor. -/
inductive Build where
  | fin (f : Nat × Nat × Nat × Nat)
  | fetch (r : Recv)
  | desc (d : Desc) (at0 : Nat)
  deriving DecidableEq, Repr

/-- The connection of a packet to build. -/
def Qp.buildConn (q : Qp) : Build → Nat
  | .fin f => f.1
  | .fetch r => r.conn
  | .desc d _ => q.connOf d

/-- What a queue pair has to build: its first FIN, its first fetch, and the earliest started descriptor that has packets
left, which waits while a packet of the queue stands at the shaper (R73, R137, R290). -/
def Qp.builds (q : Qp) : List Build :=
  (q.fins.head?.toList.map .fin)
  ++ ((q.rq.find? fun r => r.st == .matched && decide (r.fetchBuilt < r.want)).toList.map .fetch)
  ++ (if q.shaped.isSome then [] else (q.sq.findSome? fun d => match d.st with
      | .building a => some (.desc d a)
      | _ => none).toList)

/-- A queue pair gets a per-peer state: a stretch of waiting for it ends (R62). -/
def Qp.addPeer (q : Qp) (k : Nat) (c : Conn) : Qp :=
  { q with conns := mset q.conns k c
           exhausted := match q.exhausted.bind q.desc with
             | some d => if q.connOf d = k then none else q.exhausted
             | none => none }

/-- Make the per-peer state of a shared endpoint: its send PSN comes from the device-wide counter (R61). -/
def State.makePeer (s : State) (n k : Nat) (c : Conn) : State :=
  let psn := s.tp.sePsn
  let s := { s with tp := { s.tp with sePsn := (psn + 2 ^ 20) % 2 ^ 24 } }
  (s.modQp n fun q => q.addPeer k { c with nextPsn := psn, sync := true }).ctxShown

/-- A new connection of a shared endpoint at the requester (R61). -/
def State.newPeer (s : State) (n eid qpn : Nat) : State :=
  s.makePeer n (connKey eid qpn) { peerEid := eid, peerQpn := qpn, nextPsn := 0, epsn := 0, rxValid := false }

/-- A fetch or a FIN of a shared endpoint finds its per-peer state reclaimed: a new one is made as for a descriptor, if the pool
has room (R61, R137). -/
def State.peersFor (s : State) (n : Nat) (q : Qp) : State :=
  if !q.shared then s
  else q.builds.foldl (fun (s : State) b =>
    let k := q.buildConn b
    match s.qp n with
    | some q => if (mget q.conns k).isNone ∧ s.poolUsed < s.poolSize then s.newPeer n (k / 2 ^ 24) (k % 2 ^ 24) else s
    | none => s) s

/-- Build one packet. -/
def State.build (s : State) (n : Nat) (q : Qp) : Build → State
  | .fin f => s.buildFin n q f
  | .fetch r => s.buildFetch n q r
  | .desc d a => s.buildDesc n q d a

/-- Send processing of a queue pair takes one step (R73, R289): the first packet that no throttled group holds is built;
every new hold before it is counted (R215). What lacks its per-peer state waits for it. -/
def State.sendStep (s : State) (n : Nat) : State :=
  match s.qp n with
  | none => s
  | some q0 =>
    if q0.st ≠ .ready ∧ q0.st ≠ .paused then s
    else
      let s := s.peersFor n q0
      let q := (s.qp n).getD q0
      let builds := q.builds.filter fun b => !q.shared || (mget q.conns (q.buildConn b)).isSome
      let group (b : Build) : Option Nat := (mget q.conns (q.buildConn b)).bind fun c => s.holdingGroup c.peerEid
      let held := (builds.takeWhile fun b => (group b).isSome).filterMap group
      let s := held.foldl (fun s g => s.noteHold n g) (s.setQp n { q with throttled := q.throttled.filter fun g => s.throttled g })
      match builds.find? (fun b => (group b).isNone), s.qp n with
      | some b, some q => s.build n q b
      | _, _ => s

/-! ### Starting descriptors (R51, R63, R91) -/

/-- The opcode's operation sends packets to the peer that DEST_EID and DEST_QPN name (R51, R90, R155). -/
def Desc.talks (d : Desc) : Bool := d.opcode == 0x01 || d.opcode == 0x03 || d.opcode == 0x20 || decide (0x10 ≤ d.opcode ∧ d.opcode ≤ 0x17)

/-- The descriptor that send processing comes to next: the first one not started. A collective waits for the one of its group
that is outstanding, and holds no other descriptor (R160). -/
def Qp.nextDesc (q : Qp) : Option Desc :=
  q.sq.find? fun d => d.st == .queued && !(d.collective && q.sq.any fun y => y.collective && y.gid == d.gid && y.outstanding)

/-- The descriptor that send processing may start now: the next one, in READY, with a per-peer state where it needs one, and
with FENCE only once every earlier descriptor is done. -/
def Qp.startable (q : Qp) (op : Nat) : Option Desc :=
  match q.nextDesc with
  | some d =>
    let early := q.sq.takeWhile (·.id != d.id)
    if q.st = .ready ∧ d.opcode = op ∧ (!d.fence ∨ early.all (·.st == .done)) ∧ (!d.talks ∨ (mget q.conns (q.connOf d)).isSome)
    then some d else none
  | none => none

/-- Take the reference on the local key from the start of a descriptor's reads or writes (R109). -/
def State.takeLocal (s : State) (n : Nat) (d : Desc) : State :=
  (s.modDesc n d.id ({ · with localRef := true })).takeRef (keyIndex d.lkey)

/-- Start a descriptor that transfers: its local checks (R81, R94), then building. -/
def State.startTransfer (s : State) (n : Nat) (q : Qp) (d : Desc) (right : Nat) (checked : Bool) : State :=
  let begin (s : State) := s.modDesc n d.id ({ · with st := .building 0 })
  if !checked then begin s
  else match s.checkLocal d.lkey q.fn q.pd right d.laddr (if d.opcode = 0x20 then d.msgLen else d.len) with
    | some dt => s.failDesc n d.id St.localProt false dt
    | none => begin (s.takeLocal n d)

/-- Start a SEND_TAGGED: its protocol is chosen here, once (R126), and with it the right that its local key needs (R138). -/
def State.startTagged (s : State) (n : Nat) (q : Qp) (d : Desc) : State :=
  let r := s.byRendezvous d
  (s.modDesc n d.id ({ · with rndv := r })).startTransfer n q { d with rndv := r } (if r then rRead else 0) true

/-- The checks that a key names a window of a queue pair's function and domain (R92, check 1). -/
def State.checkWindow (s : State) (k fn pd : Nat) : Option Nat :=
  let e := s.key (keyIndex k)
  if !s.keyThere k then some 1
  else if e.kind ≠ 2 then some 3
  else if e.fn ≠ fn ∨ e.pd ≠ pd then some 4
  else none

/-- The checks of a bind (R92). -/
def State.checkBind (s : State) (q : Qp) (d : Desc) : Option Nat :=
  let w := s.key (keyIndex d.rkey)
  let p := s.key (keyIndex d.lkey)
  let rights := bits d.op0 0 8
  match s.checkWindow d.rkey q.fn q.pd with
  | some dt => some dt
  | none =>
    if w.generation ≠ keyGen d.rkey then some 2
    else if w.bound then some 12
    else if !s.keyThere d.lkey then some 1
    else if p.generation ≠ keyGen d.lkey then some 2
    else if p.kind ≠ 1 then some 3
    else if p.fn ≠ q.fn ∨ p.pd ≠ q.pd then some 4
    else if !hasBits p.rights rBind ∨ !p.holds d.laddr d.len then some 7
    else if !hasBits (p.rights &&& 0x0E) rights then some 7
    else none

/-- The descriptor whose first packet stands at the shaper. -/
def Qp.shapedFirst (q : Qp) : Option Nat :=
  match q.shaped.bind fun x => (mget q.conns x.1).bind fun c => c.track.find? (·.psn == x.2.1) with
  | some t => (match t.use with
    | .desc id => if t.hdr.first then some id else none
    | _ => none)
  | none => none

/-- No earlier descriptor has yet to send its first packet (R91): none waits to start, none is unbuilt, and none waits at the
shaper. -/
def Qp.firstSent (q : Qp) (d : Desc) : Bool :=
  (q.sq.takeWhile (·.id != d.id)).all fun x => x.st != .queued && x.st != .building 0 && q.shapedFirst != some x.id

/-- Bind a window (R90 to R92). -/
def State.bindWindow (s : State) (n : Nat) (q : Qp) (d : Desc) : State :=
  if !q.firstSent d then s
  else match s.checkBind q d with
    | some dt => s.failDesc n d.id St.localProt false dt
    | none =>
      let i := keyIndex d.rkey
      let s := s.bringKey i
      let p := s.key (keyIndex d.lkey)
      let s := s.setKey i { s.key i with
        bound := true, rights := bits d.op0 0 8, base := d.laddr, length := d.len, parent := keyIndex d.lkey,
        store := p.store, storeAddr := if p.store then p.storeAt d.laddr else 0 }
      s.finishDesc n d.id St.success false 0 (BitVec.ofNat 64 d.rkey)

/-- Unbind a window (R93): the drain begins, and the descriptor waits for it. -/
def State.unbindWindow (s : State) (n : Nat) (q : Qp) (d : Desc) : State :=
  if !q.firstSent d then s
  else match s.checkWindow d.rkey q.fn q.pd with
    | some dt => s.failDesc n d.id St.localProt false dt
    | none =>
      let i := keyIndex d.rkey
      let e := s.key i
      if e.generation ≠ keyGen d.rkey ∨ !e.bound then
        s.finishDesc n d.id St.success false 0 (BitVec.ofNat 64 (s.keyOf i))
      else
        let s := s.revoke i
        let s := s.setKey i { s.key i with unbind := (s.key i).unbind ++ [(n, d.id)] }
        s.modDesc n d.id ({ · with st := .sent, result := BitVec.ofNat 64 (s.keyOf i) })

/-! ### Per-peer states (R61, R62) -/

/-- The descriptor lacks the per-peer state that it needs (R61). -/
def Qp.lacksPeer (q : Qp) (d : Desc) : Bool := q.shared && d.talks && (mget q.conns (q.connOf d)).isNone

/-- Give a shared endpoint's descriptor its per-peer state, if the pool has room (R61, R62). -/
def State.needPeer (s : State) (n : Nat) (d : Desc) : State :=
  match s.qp n with
  | none => s
  | some q => if q.lacksPeer d ∧ s.poolUsed < s.poolSize then s.newPeer n d.destEid d.destQpn else s

/-- The descriptor that waits for a per-peer state at the head of its send queue: the next one to start. -/
def Qp.waitsForPeer (q : Qp) : Option Desc :=
  match q.nextDesc with
  | some d => if q.lacksPeer d then some d else none
  | none => none

/-- A stretch of waiting for a per-peer state at the head of the send queue: its event is written once (R62), with the
status that the descriptor gets at the deadline (log entry 44). -/
def State.peerWait (s : State) (n : Nat) : State :=
  match s.qp n with
  | none => s
  | some q =>
    match q.waitsForPeer with
    | some d =>
      if q.exhausted = some d.id ∨ q.st = .error then s
      else (s.setQp n { q with exhausted := some d.id }).qevent q.fn 4 St.resourceExhausted q.idx
    | none => s

end Sys2Proof.Machine
end

