-- ==== Sys2Proof/Machine/Match.lean ====
section
/-! DEFINITION. Matching: the posted and unexpected structures, the unexpected pool, placement into receives, the
rendezvous at the receiver (R115 to R144). -/

namespace Sys2Proof.Machine

/-! ### Posted receives and unexpected records -/

/-- The class of a receive by its wildcard bits (R118). -/
def classFor (anySource anyTag : Bool) : Nat := (if anySource then 1 else 0) + (if anyTag then 2 else 0)

/-- The key string of a class over an envelope (R118). -/
def binString (cls qpn ctx source : Nat) (tag : Word) : List Byte :=
  byte cls :: (beBytes 3 qpn ++ beBytes 2 ctx
    ++ beBytes 3 (if cls = 0 ∨ cls = 2 then source % 2 ^ 20 else 0)
    ++ beBytes 8 (if cls = 0 ∨ cls = 1 then tag.toNat else 0))

/-- The bin of a key in its class's table (R118). -/
def binIndex (logBins cls qpn ctx source : Nat) (tag : Word) : Nat :=
  (crc32c (binString cls qpn ctx source tag)).toNat % 2 ^ logBins

/-- The keys of two envelopes are equal in a class (R118). -/
def sameKey (cls qpn ctx source : Nat) (tag : Word) (qpn' ctx' source' : Nat) (tag' : Word) : Bool :=
  qpn == qpn' && ctx == ctx' && (cls == 1 || cls == 3 || source == source') && (cls == 2 || cls == 3 || tag == tag')

/-- The posted list of a bin of a hive (R118): the entries of a class whose keys hash to it, in ascending posting sequence. -/
def State.bin (s : State) (hive cls b : Nat) : List Posted :=
  s.mt.posted.filter fun p => hiveOf p.qpn == hive && p.cls == cls && binIndex s.mt.logBins cls p.qpn p.ctx p.source p.tag == b

/-- The unexpected list of a bin of a hive (R118, R119): the records whose keys in the class hash to it, in ascending arrival sequence. -/
def State.unexpBin (s : State) (hive cls b : Nat) : List Unexp :=
  s.mt.unexp.filter fun u => u.taken.isNone && hiveOf u.qpn == hive && binIndex s.mt.logBins cls u.qpn u.ctx u.source u.tag == b

/-- Append an entry to its posted list: the lists stay in ascending posting sequence, the number that it got as it was read (R117,
R118). -/
def State.post1 (s : State) (p : Posted) : State :=
  { s with mt := { s.mt with posted := s.mt.posted.takeWhile (·.seq < p.seq) ++ p :: s.mt.posted.dropWhile (·.seq < p.seq) } }

/-- The first posted entry of a class that an envelope selects (R119). -/
def State.probe (s : State) (cls qpn ctx source : Nat) (tag : Word) : Option Posted :=
  (s.mt.posted.filter (·.cls == cls)).find? fun p => sameKey cls p.qpn p.ctx p.source p.tag qpn ctx source tag

/-- The receive that R119 selects for a message: the lowest posting sequence among the four classes' first entries. -/
def State.selectPosted (s : State) (qpn ctx source : Nat) (tag : Word) : Option Posted :=
  ([0, 1, 2, 3].filterMap fun c => s.probe c qpn ctx source tag).foldl
    (fun best p => match best with
      | none => some p
      | some b => if p.seq < b.seq then some p else best) none

/-- The unexpected record that a posting takes: the first of its own class with its key (R120). -/
def State.selectUnexp (s : State) (cls qpn ctx source : Nat) (tag : Word) : Option Unexp :=
  (s.mt.unexp.filter (·.taken.isNone)).find? fun u => sameKey cls u.qpn u.ctx u.source u.tag qpn ctx source tag

/-- Unlink posted entries of receives of a queue pair. -/
def State.unlinkPosted (s : State) (n : Nat) (ids : List Nat) : State :=
  let s := { s with mt := { s.mt with posted := s.mt.posted.filter fun p => !(p.qpn == n && p.handle.isNone && ids.contains p.recv) } }
  s.wr Reg.MCH_POSTED_STATUS_POSTED s.mt.posted.length

/-- The posting capacity (R123). -/
def State.postCapacity (s : State) : Nat := min (2 ^ 26) ((s.useBytes 2 - 2 ^ (9 + s.mt.logBins)) / 64)

/-- Receives read from the rings and posted, or about to be. -/
def State.postings (s : State) : Nat :=
  s.mt.posted.length + (s.tp.qps.map fun p => (p.2.rq.filter (·.st == .staged)).length).sum

/-- The capacity is reached, so no receive descriptor is read (R124); with no room for any entry, receives are read and
complete RESOURCE_EXHAUSTED (R123). -/
def State.postingHeld (s : State) : Bool := s.postCapacity != 0 && decide (s.postCapacity ≤ s.postings)

/-- Count one operation of a match unit (R121, R483). -/
def State.matchOp (s : State) (n : Nat) (o : Owner) : State := s.count 0x103 (hiveOf n) 1 o

/-! ### The unexpected pool (R129, R130) -/

/-- Cells of the pool in force: the partition limits it. -/
def State.poolCells (s : State) : Nat := min s.mt.poolKib (s.useBytes 3 / 1024) * 16

/-- Cells that only RTS records may use (R129). -/
def State.rtsReserve (s : State) : Nat := max 64 (s.poolCells / 16)

/-- Cells held by eager records. -/
def State.eagerCells (s : State) : Nat := ((s.mt.unexp.filter (!·.rts)).map (·.cells)).sum

/-- A record of a function finds its cells (R129, R130). -/
def State.takesCells (s : State) (fn cells : Nat) (rts : Bool) : Bool :=
  decide (s.cellsUsed + cells ≤ s.poolCells) && (rts || decide (s.eagerCells + cells + s.rtsReserve ≤ s.poolCells))
    && decide (s.fnCells fn + cells ≤ s.rd Reg.MCH_UNEXP_QUOTA_LIMIT fn)

/-- Packets of an eager message. -/
def eagerPackets (len : Nat) : Nat := max 1 ((len + 4095) / 4096)

/-- Enter a record into the unexpected lists (R119). -/
def State.addRecordU (s : State) (u : Unexp) : State :=
  { s with mt := { s.mt with unexp := s.mt.unexp ++ [{ u with seq := s.mt.nextArrival }], nextArrival := s.mt.nextArrival + 1 }
  }.matchShown u.fn

/-- Write payload at an offset of a record's bytes. -/
def putBytes (l : List Byte) (at0 : Nat) (b : List Byte) : List Byte := slice l 0 at0 ++ b ++ l.drop (at0 + b.length)

/-! ### Placement (R97, R109) -/

/-- Queue a placement, for the event that issues it. -/
def State.place (s : State) (p : Placement) : State :=
  { s.newId with tp := { s.newId.tp with placements := mset s.tp.placements s.tp.nextId p } }

/-- Where bytes under a local or remote key go: a store address, or pieces on a host link; else a fault or a wait. -/
inductive Target1 where
  | store (a : Nat)
  | host (ps : List (Nat × Nat)) (cover : Nat × Nat)
  | wait
  | fault (status detail : Nat)
  deriving DecidableEq, Repr

/-- Find where `n` bytes at a virtual address of a key's range land, for a placement. -/
def State.landing (s : State) (use : PlaceFor) (key fn va n : Nat) : State × Target1 :=
  let e := s.key (keyIndex key)
  if e.store then (s, .store (e.storeAt va))
  else match s.translate (.place use) fn va n accWrite with
    | (s, .wait) => (s, .wait)
    | (s, .fault st d) => (s, .fault st d)
    | (s, .ok ps _ c) => (s, .host ps c)

/-- Queue the placement of bytes at a landing. -/
def State.placeAt (s : State) (t : Target1) (use : PlaceFor) (key : Option Nat) (fn source : Nat) (b : List Byte) : State :=
  match t with
  | .store a => s.place { use := use, key := key, store := true, fn := fn, source := source, pieces := [(a, b)] }
  | .host ps c =>
    s.place { use := use, key := key, store := false, link := fn / 256, fn := fn, cover := c, source := source, pieces := cutPieces ps b }
  | _ => s

/-- Issue the writes of a placement (R75, R97): to its host link in ascending order, or to the store. -/
def State.issue (s : State) (p : Placement) (o : Owner) : State :=
  if p.store then p.pieces.foldl (fun s x => s.placeStore x.1 x.2 p.source) s else s.hostWrites p.link p.pieces o

/-! ### Receives that finish (R131, R132, R137, R142) -/

/-- A receive of an eager message has all of its packets placed. -/
def State.eagerDone (s : State) (n id : Nat) : State :=
  match (s.qp n).bind (·.recv id) with
  | some r => if r.st = .matched ∧ r.packets = 0 ∧ r.placing = 0 ∧ r.rtsPsn.isNone then s.finishRecv n id r.outcome else s
  | none => s

/-- The parts of a rendezvous that are placed: the receives of its run complete in ring order (R137, R142). -/
def State.fetchDone (s : State) (n id : Nat) : State :=
  match (s.qp n).bind fun q => (q.recv id).map fun r => (q, r) with
  | some (q, r) =>
    if r.st = .matched ∧ r.fetched = r.want ∧ r.placing = 0 then
      let run := q.rq.filter fun x => x.st == .matched && x.runFirst == r.runFirst && x.rtsPsn.isSome
      -- the receives of a run complete in ring order as their parts are placed
      let ready := run.takeWhile fun x => x.fetched == x.want && x.placing == 0
      ready.foldl (fun s x => s.finishRecv n x.id x.outcome) s
    else s
  | none => s

/-- A receive may follow another in a run (R142): it is the next of the ring, it has matched nothing, and its envelope fields
are the same. One that is read and waits for its posting counts as posted: the doorbell that made it visible made the run
visible. -/
def Recv.follows (x r : Recv) (ring : Nat) : Bool :=
  x.ring == ring && (x.st == .posted || x.st == .staged) && x.ctx == r.ctx && x.anySource == r.anySource && x.anyTag == r.anyTag
    && x.source == r.source && x.tag == r.tag

/-- The receives that a message of a length fills after the selected one, in ring order (R142): `ring` is the next place of
the ring, `got` the bytes that the run holds so far. -/
def runFrom (r : Recv) (len : Nat) : List Recv → Nat → Nat → List Recv
  | [], _, _ => []
  | x :: l, ring, got => if got < len ∧ x.follows r ring then x :: runFrom r len l (ring + 1) (got + x.len) else []

/-- The run that a message of a length fills, from a receive on; a message of at most 2^32 B takes that receive alone. -/
def Qp.runOf (q : Qp) (r : Recv) (len : Nat) : List Recv :=
  if len ≤ 2 ^ 32 then [r] else r :: runFrom r len (q.rq.dropWhile (·.id != r.id)).tail (r.ring + 1) r.len

/-- A run may still grow: it reaches the last receive that was read, the message is longer, and the ring holds visible receives
that will be read (R142). -/
def State.runOpen (s : State) (q : Qp) (r : Recv) (len : Nat) : Bool :=
  let run := q.runOf r len
  decide (2 ^ 32 < len) && decide ((run.map (·.len)).sum < len) && r.ring + run.length == q.rqRead && q.rqRead != q.rqProd
    && !q.readDead && !s.postingHeld

/-- Set the receives of a run on the fetch of their parts (R137, R142). -/
def setRun (k addr key psn len srcEid : Nat) (tag : Word) (first : Nat) (ref : Bool) : List Recv → Nat → List Recv
  | [], _ => []
  | r :: l, off =>
    { r with st := .matched, conn := k, fetchAddr := addr, fetchKey := key, fetchOff := off, want := min r.len (len - off),
             fetchBuilt := 0, fetched := 0, rtsPsn := some psn, msgLen := len, runFirst := first, runLast := l.isEmpty,
             srcEid := srcEid, msgTag := tag, bytes := min r.len (len - off), ref := ref && r.len != 0,
             handler := if r.id = first then r.handler else 0 }
    :: setRun k addr key psn len srcEid tag first ref l (off + r.len)

/-- The first receive of a run whose local key no longer passes (R143). -/
def State.runFault (s : State) (q : Qp) (run : List Recv) : Option (Nat × Nat) :=
  run.findSome? fun r =>
    if r.len = 0 then none else (s.checkLocal r.lkey q.fn q.pd rLocalWrite r.laddr r.len).map fun d => (r.id, d)

/-- A matched receive knows its sender and the message's tag (R144). -/
def State.nameSender (s : State) (n id srcEid : Nat) (tag : Word) : State :=
  s.modRecv n id ({ · with srcEid := srcEid, msgTag := tag })

/-- A rendezvous message has matched a receive: take its run and start the fetch, or finish at once where nothing is to
be fetched (R137, R142). -/
def State.startFetch (s : State) (n id k addr key psn len srcEid : Nat) (tag : Word) : State :=
  match (s.qp n).bind fun q => (q.recv id).map fun r => (q, r) with
  | none => s
  | some (q, r) =>
    let run := q.runOf r len
    let s := s.unlinkPosted n (run.map (·.id))
    match s.runFault q run with
    | some (i, d) => (s.nameSender n i srcEid tag).failRecv n i St.localProt d
    | none =>
      let run := setRun k addr key psn len srcEid tag id true run 0
      let s := run.foldl (fun s r => if r.ref then s.takeRef (keyIndex r.lkey) else s) s
      let s := s.modQp n fun q => { q with rq := q.rq.map fun (x : Recv) => (run.find? fun (y : Recv) => y.id == x.id).getD x }
      if run.all (·.want == 0) then s.fetchDone n id else s

/-! ### Records taken by a receive (R131) -/

/-- Copy the bytes of an eager record into the receive that took it: the placement of what has come and fits. The flag is
false while the translation waits. -/
def State.copyRecord (s : State) (n : Nat) (q : Qp) (r : Recv) (u : Unexp) : State × Bool :=
  let b := u.data.take (min r.len u.length)
  if b.isEmpty then ((s.freeRecord u.id).eagerDone n r.id, true)
  else match s.landing (.copy n r.id u.id) r.lkey q.fn r.laddr b.length with
    | (s, .wait) => (s, false)
    | (s, .fault st d) => ((s.freeRecord u.id).failRecv n r.id st d, true)
    | (s, t) =>
      let s := s.modRecv n r.id fun r => { r with placing := r.placing + 1 }
      (s.placeAt t (.copy n r.id u.id) none q.fn (remoteSource u.source) b, true)

/-- A receive takes a record as it is posted (R120, R131, R137): the receive is in the queue with its number. An eager
record whose packets have all come is copied, one still arriving goes on to the receive once it is complete. -/
def State.takeRecord (s : State) (n id : Nat) (u : Unexp) : State :=
  match (s.qp n).bind fun q => (q.recv id).map fun r => (q, r) with
  | none => s
  | some (q, r) =>
    if u.handle.isSome then
      -- a record that firmware prepared: its layout is not given, so the bytes it holds are a free value (log entry 24)
      let s := { s with mt := { s.mt with unexp := s.mt.unexp.filter (·.id != u.id) } }
      let b := s.freeVal % (r.len + 1)
      let s := s.takeFree.modRecv n id fun r => { r with bytes := b, srcEid := u.source, msgTag := u.tag, msgLen := b, st := .matched }
      s.finishRecv n id St.success
    else if u.rts then
      let s := s.freeRecord u.id
      s.startFetch n id u.conn u.addr u.key u.psn u.length u.source u.tag
    else match s.runFault q [r] with
      | some (_, d) => ((s.freeRecord u.id).nameSender n id u.source u.tag).failRecv n id St.localProt d
      | none =>
        let s := if r.len = 0 then s else s.takeRef (keyIndex r.lkey)
        let s := { s with mt := { s.mt with unexp := s.mt.unexp.map fun (x : Unexp) => if x.id = u.id then { x with taken := some id } else x } }
        s.modRecv n id fun r => { r with
          st := .matched, ref := r.len != 0, srcEid := u.source, msgTag := u.tag, msgLen := u.length, bytes := min r.len u.length,
          packets := 0 }

/-- Go on with the records that receives have taken and whose packets have all come (R131). -/
def State.copyTaken (s : State) (n : Nat) : State :=
  (s.mt.unexp.filter fun u => u.qpn == n && u.taken.isSome && u.left == 0 && !u.rts).foldl (fun s u =>
    if s.tp.placements.any fun p => (match p.2.use with | .copy _ _ i => i == u.id | _ => false) then s
    else match (s.qp n).bind fun q => (q.recv (u.taken.getD 0)).map fun r => (q, r) with
      | some (q, r) => (s.copyRecord n q r u).1
      | none => s.freeRecord u.id) s

end Sys2Proof.Machine
end

