-- ==== Sys2Proof/Machine/Rx.lean ====
section
/-! DEFINITION. The responder and the handling of arriving WT packets: the miss buffer, acknowledgements and NAKs, the
checks in their order, PUT, GET and atomic requests, eager messages, rendezvous announcements, responses (R60 to R79, R94
to R113, R119 to R142). -/

namespace Sys2Proof.Machine

/-! ### PSN arithmetic (R73, R74) -/

/-- `a - b` modulo 2^24. -/
def psnDiff (a b : Nat) : Nat := (a + 2 ^ 24 - b % 2 ^ 24) % 2 ^ 24

/-- Where a PSN stands to the receive window (R74). -/
inductive PsnClass where
  | new | duplicate | outside | old
  deriving DecidableEq, Repr

/-- Classify a request (R74). -/
def classify (epsn bitmap psn : Nat) : PsnClass :=
  let d := psnDiff psn epsn
  if d < 2048 then (if bitmap / 2 ^ d % 2 = 0 then .new else .duplicate)
  else if d < 2 ^ 23 then .outside
  else .old

/-- EPSN advances over set bits (R74). -/
def slideWindow : Nat → Nat → Nat → Nat × Nat
  | 0, e, b => (e, b)
  | f + 1, e, b => if b % 2 = 1 then slideWindow f ((e + 1) % 2 ^ 24) (b / 2) else (e, b)

/-- Take `count` PSNs from `psn` as received. -/
def Conn.accept (c : Conn) (psn count : Nat) : Conn :=
  let b := (List.range count).foldl (fun b i =>
    let d := psnDiff (psn + i) c.epsn
    if d < 2048 ∧ b / 2 ^ d % 2 = 0 then b + 2 ^ d else b) c.bitmap
  let r := slideWindow 2048 c.epsn b
  { c with epsn := r.1, bitmap := r.2 }

/-- A PSN has arrived, as far as an acknowledgement may say: it is below EPSN or its bit is set, and it is not among
those held back (R75). -/
def Conn.arrived (c : Conn) (held : List Nat) (psn : Nat) : Bool :=
  let d := psnDiff psn c.epsn
  (2 ^ 23 ≤ d || (d < 2048 && c.bitmap / 2 ^ d % 2 == 1)) && !held.contains psn

/-- The PSN and SACK bitmap that an ACK or NAK carries: EPSN - 1, below every PSN whose placement is not issued and
below the packets `bad` that a NAK refuses (R75; log entry 25). -/
def Conn.ackFields (c : Conn) (bad : List Nat) : Nat × Nat :=
  let held := c.unplaced ++ bad
  let e := held.foldl (fun m x => if psnDiff x c.epsn ≥ 2 ^ 23 ∧ psnDiff m x < 2 ^ 23 then x else m) c.epsn
  (psnDiff e 1, (List.range 64).foldl (fun b i => if c.arrived held ((e + 1 + i) % 2 ^ 24) then b + 2 ^ i else b) 0)

/-! ### Answers (R68, R72, R75) -/

/-- The function that holds an own EID. -/
def State.fnOfEid (s : State) (e : Nat) : Option Nat := (List.range 2048).find? fun n => s.ownEid n == some e

/-- Answer a packet with an ACK or NAK from the function it was sent to, in the packet's own VERSION: only so does a
requester of another version take a VERSION_MISMATCH (R72; log entry 46). ORDERED is 1 in what a queue pair of WT_VERSION 1 sends (R212). -/
def State.answer (s : State) (p : Packet) (h : WtHeader) (opcode code hint psn sack low : Nat) (q : Option Qp) : State :=
  let fn := match q with
    | some q => some q.fn
    | none => s.fnOfEid p.net.destEid
  match fn with
  | none => s
  | some fn =>
    let v := h.version
    let one : Bool := match q with | some q => q.version == 1 | none => v == 1
    let s := s.eidMet p.net.srcEid
    let a : WtHeader := { version := v, ext := 1, opcode := opcode, destQpn := h.srcQpn, srcQpn := h.destQpn, psn := psn,
                          lowPsn := if v = 1 then 0 else low, ordered := one, code := code, address := sack, key := hint * 2 ^ 24 }
    match s.wtPacket fn (match q with | some q => q.tc | none => p.net.tc) 0 p.net.srcEid a [] with
    | some (g, x) => s.injectWt g x
    | none => s

/-- A NAK for a packet that receive state covers, or that none covers: then the PSN before LOW_PSN, or before the
packet's PSN on version 1, which acknowledges nothing (log entry 25). -/
def State.nak (s : State) (p : Packet) (h : WtHeader) (q : Option Qp) (c : Option Conn) (status : Nat) (hint : Nat := 0) : State :=
  match c with
  | some c =>
    if c.rxValid then
      let f := c.ackFields [h.psn]
      s.answer p h Op.nak status hint f.1 f.2 c.low q
    else s.answer p h Op.nak status hint (psnDiff (if h.version = 1 then h.psn else h.lowPsn) 1) 0 c.low q
  | none => s.answer p h Op.nak status hint (psnDiff (if h.version = 1 then h.psn else h.lowPsn) 1) 0 0 q

/-- A STATE_MISS NAK, counted at its hive; without a stated value its hint is a free value from 1 to 255 (R68). -/
def State.stateMiss (s : State) (p : Packet) (h : WtHeader) (q : Option Qp) (c : Option Conn) (hint : Option Nat) : State :=
  let n := match hint with | some x => x | none => 1 + s.freeVal % 255
  let s := if hint.isNone then s.takeFree else s
  (s.nak p h q c St.stateMiss n).tally Reg.TPT_MISS_STATUS_STATE_MISS_SENT 0x102 (hiveOf h.destQpn) (q.bind (·.owner)) 1 (hiveOf h.destQpn)

/-- Send an ACK of a connection (R75). -/
def State.sendAck (s : State) (n k : Nat) : State :=
  match (s.qp n).bind fun q => (mget q.conns k).map fun c => (q, c) with
  | some (q, c) =>
    let f := c.ackFields []
    let a : WtHeader := { version := q.version, ext := 1, opcode := Op.ack, destQpn := c.peerQpn, srcQpn := n, psn := f.1,
                          lowPsn := q.lowPsn c, ordered := q.version == 1, address := f.2 }
    (s.sendRsp q c.peerEid a).modConn n k ({ · with ackCount := 0, ackTimer := false })
  | none => s

/-- A request has arrived and may be acknowledged: at once with SOLICIT_ACK or as the eighth, else after the delay
(R75). -/
def State.noteRequest (s : State) (n k : Nat) (solicit : Bool) : State :=
  match (s.qp n).bind fun q => (mget q.conns k).map fun c => (q, c) with
  | some (q, c) =>
    if q.st = .error ∨ q.st = .reset then s
    else if solicit ∨ 8 ≤ c.ackCount + 1 then s.sendAck n k
    else s.modConn n k ({ · with ackCount := c.ackCount + 1, ackTimer := true })
  | none => s

/-! ### Contexts on die and the miss buffer (R66 to R68, R84) -/

/-- Use a context: it becomes the most recently used on die; the least recently used one without a packet in progress
leaves beyond 32,768. -/
def State.touch (s : State) (n : Nat) : State :=
  let l := s.tp.lru.filter (· != n) ++ [n]
  let s := s.modQp n ({ · with onDie := true })
  let idle (m : Nat) : Bool := match s.qp m with | some q => q.waits.isEmpty && m != n | none => true
  let out := if l.length ≤ 32768 then none else l.find? idle
  match out with
  | some m => { s with tp := { s.tp with lru := l.filter (· != m) } }.modQp m ({ · with onDie := false })
  | none => { s with tp := { s.tp with lru := l } }

/-- Put a packet into the miss buffer of its hive, behind the connection's others; a full buffer answers it with a
STATE_MISS NAK (R67, R68). `fetch` starts a store fetch. -/
def State.missIn (s : State) (q : Qp) (k port : Nat) (p : Packet) (h : WtHeader) (c : Option Conn) (fetch : Bool) : State :=
  let hv := hiveOf q.qpn
  let m := mgetD s.tp.miss hv 0
  if 512 ≤ m then (s.stateMiss p h (some q) c none).returnCredit port p
  else
    let s := s.setQp q.qpn { q with
      waits := mset q.waits k (mgetD q.waits k [] ++ [(port, p)])
      fetches := if fetch ∧ !q.fetches.contains k then q.fetches ++ [k] else q.fetches }
    let s := { s with tp := { s.tp with miss := mset s.tp.miss hv (m + 1) } }.wr Reg.TPT_MISS_STATUS_OCCUPANCY (m + 1) hv
    let s := if s.scratch then s.returnCredit port p else s
    (s.high Reg.TPT_MISS_STATUS_HIGH_WATER (m + 1) hv).count 0x101 hv 1 q.owner

/-- The key entry that a packet needs is in the on-die cache (R84). The entry of a key that names none is known to be free and needs
no fetch (log entry 56). One with an EXT that is not its opcode's has no KEY (R491). -/
def State.keyOnDie (s : State) (h : WtHeader) : Bool :=
  if (h.opcode = Op.put ∨ h.opcode = Op.getReq ∨ h.opcode = Op.atomicReq) ∧ extOf h.opcode = some h.ext then
    !s.keyThere h.key || (s.key (keyIndex h.key)).onDie
  else true

/-! ### The result cache (R78) -/

/-- Free the entries of a connection whose PSN a packet's LOW_PSN has passed. -/
def State.freeResults (s : State) (n k low : Nat) : State :=
  { s with tp := { s.tp with results := s.tp.results.filter fun e =>
    !(e.qpn == n && e.conn == k && e.value.isSome && psnDiff low e.psn != 0 && decide (psnDiff low e.psn < 2 ^ 23)) } }.ctxShown

/-- Free every entry of a connection or of a queue pair. -/
def State.dropResults (s : State) (n : Nat) (k : Option Nat) : State :=
  { s with tp := { s.tp with results := s.tp.results.filter fun e => !(e.qpn == n && (k.isNone || k == some e.conn)) } }.ctxShown

/-! ### Requests that the key table checks (R94 to R96, R102, R105, R109) -/

/-- A new request is answered with an error NAK: it has been received, so its PSNs are taken; the NAK acknowledges nothing of
it (R74, R95; log entry 25). -/
def State.nakNew (s : State) (p : Packet) (h : WtHeader) (q : Qp) (c : Conn) (status : Nat) : State :=
  let count := if h.opcode = Op.getReq then responses h.address h.length else 1
  (s.modConn q.qpn (connKey c.peerEid c.peerQpn) (·.accept h.psn count)).nak p h (some q) (some (c.accept h.psn count)) status

/-- A request whose later checks wait for a walk holds a reference already (R94). -/
def State.grant (s : State) (n k : Nat) (h : WtHeader) : Option Grant :=
  s.tp.granted.find? fun g => g.qpn == n && g.conn == k && g.psn == h.psn && g.key == h.key

/-- The request waits for a walk with the reference that checks 1 to 6 gave it; the command is given again (R94, R109, R110). -/
def State.waitGranted (s : State) (n k : Nat) (h : WtHeader) : State :=
  (if (s.grant n k h).isSome then s
    else
      let s := s.takeRef (keyIndex h.key)
      { s with tp := { s.tp with granted := s.tp.granted ++ [{ qpn := n, conn := k, psn := h.psn, key := h.key }] } }).drive .wait

/-- The request goes on with its in-use reference: the one it holds, or one taken now (R109). -/
def State.useRef (s : State) (n k : Nat) (h : WtHeader) : State :=
  match s.grant n k h with
  | some g => { s with tp := { s.tp with granted := s.tp.granted.erase g } }
  | none => s.takeRef (keyIndex h.key)

/-- Check 7, 8 or 9 fails: a reference that the request holds is released at once (R94). -/
def State.endGrant (s : State) (n k : Nat) (h : WtHeader) : State :=
  match s.grant n k h with
  | some g => { s with tp := { s.tp with granted := s.tp.granted.erase g } }.dropRef (keyIndex h.key)
  | none => s

/-- Checks 1 to 6, made once for a request (R94, R110). -/
def State.checkOnce (s : State) (n k : Nat) (h : WtHeader) (q : Qp) (right len : Nat) : Option Nat :=
  if (s.grant n k h).isSome then none else s.checkRemote h.key q.fn q.pd right h.address len

/-- A check fails: it is counted and logged, and the packet answered with a NAK (R94, R95). -/
def State.refuse (s : State) (p : Packet) (h : WtHeader) (q : Qp) (c : Conn) (status detail : Nat) : State :=
  (s.keyFails q.owner status detail p.net.srcEid h.key h.destQpn h.opcode).nakNew p h q c status

/-- A new PUT (R94, R97, R109). -/
def State.rxPut (s : State) (n k : Nat) (q : Qp) (c : Conn) (p : Packet) (h : WtHeader) : State :=
  let b := p.payload
  match s.checkOnce n k h q rWrite b.length with
  | some d => s.refuse p h q c St.protNak d
  | none =>
    if b.isEmpty then (s.modConn n k (·.accept h.psn 1)).noteRequest n k h.solicitAck
    else match s.landing (.put n k h.psn h.solicitAck) h.key q.fn h.address b.length with
      | (s, .wait) => s.waitGranted n k h
      | (s, .fault st d) => (s.endGrant n k h).refuse p h q c st (if st = St.remoteOpError then d else 0)
      | (s, t) =>
        let s := s.useRef n k h
        let s := s.modConn n k fun c => { c.accept h.psn 1 with unplaced := c.unplaced ++ [h.psn] }
        s.placeAt t (.put n k h.psn h.solicitAck) (some (keyIndex h.key)) q.fn (remoteSource p.net.srcEid) b

/-- Send the responses of a GET_REQ, one for each 4 KiB page touched (R53, R73). -/
def sendResponses : Nat → State → Qp → Conn → Nat → Nat → List Byte → State
  | 0, s, _, _, _, _, _ => s
  | f + 1, s, q, c, psn, a, b =>
    let m := chunk4k a b.length
    let r : WtHeader := { version := q.version, ext := 0, opcode := Op.getResp, destQpn := c.peerQpn, srcQpn := q.qpn,
                          psn := psn, lowPsn := q.lowPsn c, ordered := q.version == 1 }
    let s := s.sendRsp q c.peerEid r (b.take m)
    if b.length ≤ m then s else sendResponses f s q c ((psn + 1) % 2 ^ 24) (a + m) (b.drop m)

/-- A GET_REQ, new or executed again (R77, R94, R96, R100). -/
def State.rxGet (s : State) (n k : Nat) (q : Qp) (c : Conn) (p : Packet) (h : WtHeader) : State :=
  match s.checkOnce n k h q rRead h.length with
  | some d => s.refuse p h q c St.protNak d
  | none =>
    let i := keyIndex h.key
    let e := s.key i
    let count := responses h.address h.length
    let taken (s : State) := s.modConn n k (·.accept h.psn count)
    let send (s : State) (b : List Byte) : State := sendResponses (count + 1) s q c h.psn h.address b
    if h.length = 0 then send (taken s) []
    else if !s.admits (if e.store then 5 else 6) then s.waitGranted n k h
    else if e.store then
      match s.fetchStore (e.storeAt h.address) h.length with
      | (s, some b) => send (taken (s.endGrant n k h)) b
      | (s, none) => (s.endGrant n k h).refuse p h q c St.remoteOpError 11
    else match s.translate (.read (.getResp n k h.psn h.key h.address)) q.fn h.address h.length accRead with
      | (s, .wait) => s.waitGranted n k h
      | (s, .fault st _) => (s.endGrant n k h).refuse p h q c st 0
      | (s, .ok ps _ cov) =>
        ((taken s).useRef n k h).readHost q.fn cov h.length ps (.getResp n k h.psn h.key h.address)

/-- The result of an atomic (R82): the new value for a width in bits. -/
def atomicResult (opcode w old op0 op1 : Nat) : Nat :=
  let m := 2 ^ w
  let a := old % m
  let b := op0 % m
  match opcode with
  | 0x10 => (a + b) % m
  | 0x11 => if a = b then op1 % m else a
  | 0x12 => op1 % m
  | 0x13 => a &&& b
  | 0x14 => a ||| b
  | 0x15 => a ^^^ b
  | 0x16 => if toSigned w a ≤ toSigned w b then a else b
  | _ => if toSigned w a ≥ toSigned w b then a else b

/-- The AtomicOp kinds of a host link: 0 FetchAdd, 1 Swap, 2 CAS (R102). -/
def nativeKind (opcode : Nat) : Option Nat :=
  if opcode = 0x10 then some 0 else if opcode = 0x12 then some 1 else if opcode = 0x11 then some 2 else none

/-- A new ATOMIC_REQ (R94, R102, R103, R78, R379). -/
def State.rxAtomic (s : State) (n k : Nat) (q : Qp) (c : Conn) (p : Packet) (h : WtHeader) : State :=
  let w := if h.word32 then 4 else 8
  let i := keyIndex h.key
  let e := s.key i
  let s0 := s.endGrant n k h
  if h.code < 0x10 ∨ 0x17 < h.code then s.nakNew p h q c St.remoteOpError
  else match s.checkOnce n k h q rAtomic w with
  | some d => s.refuse p h q c St.protNak d
  | none =>
    if h.address % w ≠ 0 then s0.refuse p h q c St.remoteOpError 8
    else if !e.store ∧ s.rd Reg.KEY_HOST_ATOMIC_LINK_ENABLE / 2 ^ (q.fn / 256) % 2 = 0 then s0.refuse p h q c St.remoteOpError 9
    else if e.store ∧ s.compatRange (e.storeAt h.address) w then s0.refuse p h q c St.remoteOpError 15
    else if 4096 ≤ s.tp.results.length then s0.stateMiss p h (some q) (some c) none
    else if !e.store ∧ !s.admits 6 then s.waitGranted n k h
    else
      -- with ATOMIC32 bits [63:32] of the operands are ignored (R82)
      let operand (v : Nat) : Word := BitVec.ofNat 64 (v % 2 ^ (8 * w))
      let op : AtomicOp := { addr := 0, qpn := n, conn := k, psn := h.psn, key := i, rkey := h.key, opcode := h.code, width := w,
                             op0 := operand h.operand0, op1 := operand h.operand1, store := e.store,
                             link := q.fn / 256, fn := q.fn }
      let begin (s : State) (op : AtomicOp) : State :=
        let s := (s.useRef n k h).modConn n k (·.accept h.psn 1)
        let e : ResultEntry := { qpn := n, conn := k, psn := h.psn, width := w }
        let s : State := { s.newId with tp := { s.newId.tp with
          atomics := mset s.tp.atomics s.tp.nextId op, results := s.tp.results ++ [e] } }
        s.ctxShown
      if e.store then begin s { op with addr := e.storeAt h.address }
      else match s.translate (.atomic n k h.psn) q.fn h.address w accAtomic with
        | (s, .wait) => s.waitGranted n k h
        | (s, .fault st _) => (s.endGrant n k h).refuse p h q c st 0
        | (s, .ok ps _ cov) =>
          let a := match ps with | x :: _ => x.1 | [] => 0
          let id := s.tp.nextId
          let op := { op with cover := cov }
          match nativeKind h.code with
          | some kind =>
            let x := if kind = 1 then op.op1 else op.op0
            let y : Word := if kind = 2 then op.op1 else 0
            ((begin s { op with addr := a }).emit (.hostAtomic op.link a kind x.toNat y.toNat w id)).count 0x1C0 op.link
              (if kind = 2 then 2 * w else w) q.owner
          | none => (begin s { op with addr := a, stage := 1 }).emit (.hostRead op.link a w id)

/-- Send the response of an atomic (R71, R491). -/
def State.sendAtomicResp (s : State) (n k psn : Nat) (v : Word) : State :=
  match (s.qp n).bind fun q => (mget q.conns k).map fun c => (q, c) with
  | some (q, c) =>
    if q.st = .error ∨ q.st = .reset then s
    else
      let r : WtHeader := { version := q.version, ext := 2, opcode := Op.atomicResp, destQpn := c.peerQpn, srcQpn := n, psn := psn,
                            lowPsn := q.lowPsn c, ordered := q.version == 1, operand0 := v.toNat }
      s.sendRsp q c.peerEid r
  | none => s

/-- An atomic has been performed: its result enters the cache and its response is sent (R78, R109). -/
def State.atomicDone (s : State) (id : Nat) (a : AtomicOp) (old : Nat) : State :=
  let v := BitVec.ofNat 64 (old % 2 ^ (8 * a.width))
  let s := { s with tp := { s.tp with
    atomics := mdel s.tp.atomics id
    results := s.tp.results.map fun (e : ResultEntry) => if e.qpn = a.qpn ∧ e.conn = a.conn ∧ e.psn = a.psn then { e with value := some v } else e } }
  (s.dropRef a.key).sendAtomicResp a.qpn a.conn a.psn v

/-- An accepted request fails at the target later: a NAK from what the connection still knows of it (R102, R105, R492). -/
def State.lateNak (s : State) (n k psn key opcode detail : Nat) : State :=
  match (s.qp n).bind fun q => (mget q.conns k).map fun c => (q, c) with
  | some (q, c) =>
    let s := s.keyFails q.owner St.remoteOpError detail c.peerEid key n opcode
    if q.st = .error ∨ q.st = .reset then s
    else
      let f := c.ackFields [psn]
      let a : WtHeader := { version := q.version, ext := 1, opcode := Op.nak, destQpn := c.peerQpn, srcQpn := n, psn := f.1,
                            lowPsn := q.lowPsn c, ordered := q.version == 1, code := St.remoteOpError, address := f.2 }
      s.sendRsp q c.peerEid a
  | none => s

/-- An atomic fails at the target: nothing was written, its entry is freed and the request NAKed (R102, R105, R492). -/
def State.atomicFails (s : State) (id : Nat) (a : AtomicOp) (detail : Nat) : State :=
  let s := { s with tp := { s.tp with
    atomics := mdel s.tp.atomics id
    results := s.tp.results.filter fun e => !(e.qpn == a.qpn && e.conn == a.conn && e.psn == a.psn) } }.ctxShown
  (s.dropRef a.key).lateNak a.qpn a.conn a.psn a.rkey Op.atomicReq detail

/-! ### Matched messages (R116, R122, R131 to R137) -/

/-- Refuse a matched message for want of pool cells: the NAK, the latch, one event for the stretch (R133, R136). -/
def State.refuseFull (s : State) (n k : Nat) (q : Qp) (c : Conn) (p : Packet) (h : WtHeader) (latch : Bool) : State :=
  let s := (s.nak p h (some q) (some c) St.receiverFull (s.rd Reg.MCH_RETRY_FULL_HINT_US)).tally Reg.MCH_STATUS_FULL_NAKS 0x104 0 q.owner
  if !latch then s
  else
    let s := s.modConn n k ({ · with latch := some h.psn })
    if q.unexpFull then s else (s.modQp n ({ · with unexpFull := true })).qevent q.fn 17 St.receiverFull q.idx

/-- The latch of a connection clears when the refused PSN is accepted (R133). -/
def State.unlatch (s : State) (n k psn : Nat) : State :=
  s.modQp n fun q =>
    { q with conns := mmod q.conns k fun c => if c.latch = some psn then { c with latch := none } else c }.unlatched

/-- Place one packet of an eager message that a receive has taken: what lies within the buffer (R131, R132). The state is
none while the translation waits. -/
def State.eagerToRecv (s : State) (n k : Nat) (q : Qp) (r : Recv) (p : Packet) (h : WtHeader) (seen : State → State) : State :=
  let b := p.payload.take (r.len - h.address)
  let took (s : State) (k' : Nat) : State :=
    s.modRecv n r.id fun r => { r with packets := r.packets - 1, placing := r.placing + k' }
  if b.isEmpty then
    (((seen (s.modConn n k (·.accept h.psn 1))) |> fun s => took s 0).noteRequest n k h.solicitAck).eagerDone n r.id
  else match s.landing (.eager n k h.psn r.id h.solicitAck) r.lkey q.fn (r.laddr + h.address) b.length with
    | (s, .wait) => s.drive .wait
    | (s, .fault st d) => (seen s).failRecv n r.id st d
    | (s, t) =>
      let s := s.modConn n k fun c => { c.accept h.psn 1 with unplaced := c.unplaced ++ [h.psn] }
      (took (seen s) 1).placeAt t (.eager n k h.psn r.id h.solicitAck) none q.fn (remoteSource p.net.srcEid) b

/-- The length of a matched message (R128). -/
def matchLen (h : WtHeader) : Nat := if h.opcode = Op.rts then h.length + h.operand1 / 2 ^ 16 % 512 * 2 ^ 32 else h.length

/-- A message that no receive accepts becomes unexpected, or is refused (R119, R129 to R133). -/
def State.enterUnexpected (s : State) (n k : Nat) (q : Qp) (c : Conn) (p : Packet) (h : WtHeader) : State :=
  let len := matchLen h
  let rts := h.opcode = Op.rts
  let cells := if rts then 1 else 1 + (len + 63) / 64
  if !s.takesCells q.fn cells rts then s.refuseFull n k q c p h true
  else
    let id := s.tp.nextId
    let s := s.newId.addRecordU {
      id := id, qpn := n, conn := k, fn := q.fn, ctx := h.operand1 % 2 ^ 16, source := p.net.srcEid,
      tag := BitVec.ofNat 64 h.operand0, seq := 0, cells := cells, length := len, rts := rts, psn := h.psn,
      addr := h.address, key := h.key, data := if rts then [] else putBytes [] h.address p.payload,
      left := if rts then 0 else eagerPackets len - 1 }
    let s := s.modConn n k fun c =>
      let c := c.accept h.psn 1
      if rts ∨ eagerPackets len = 1 then c
      else { c with rxMsgs := c.rxMsgs ++ [{ firstPsn := h.psn, length := len, recv := none, record := some id, left := eagerPackets len - 1 }] }
    (s.unlatch n k h.psn).noteRequest n k h.solicitAck

/-- A FIRST EAGER packet or an RTS is matched in its turn (R119, R122). -/
def State.rxFirst (s : State) (n k : Nat) (q : Qp) (c : Conn) (p : Packet) (h : WtHeader) : State :=
  let tag := BitVec.ofNat 64 h.operand0
  let ctx := h.operand1 % 2 ^ 16
  match s.selectPosted n ctx p.net.srcEid tag with
  | none => (s.matchOp n q.owner).enterUnexpected n k q c p h
  | some e =>
    if e.handle.isSome then
      -- a posting that firmware prepared: the message is taken and nothing of it is placed (log entry 24)
      let s := { s with mt := { s.mt with posted := s.mt.posted.filter (· != e) } }
      (((s.matchOp n q.owner).modConn n k (·.accept h.psn 1)).unlatch n k h.psn).noteRequest n k h.solicitAck
    else match q.recv e.recv with
    | none => s
    | some r =>
      if h.opcode = Op.rts then
        let s := (((s.matchOp n q.owner).modConn n k (·.accept h.psn 1)).unlatch n k h.psn).noteRequest n k h.solicitAck
        s.startFetch n r.id k h.address h.key h.psn (matchLen h) p.net.srcEid tag
      else match s.runFault q [r] with
        | some (_, d) =>
        (((s.matchOp n q.owner).unlinkPosted n [r.id]).nameSender n r.id p.net.srcEid tag).failRecv n r.id St.localProt d
        | none =>
          let len := matchLen h
          let r := { r with st := .matched, packets := eagerPackets len, srcEid := p.net.srcEid, msgTag := tag, msgLen := len,
                            bytes := min r.len len, ref := r.len != 0, rtsPsn := none, fetchOff := 0, runLast := true }
          let seen (s : State) : State :=
            let s := ((s.matchOp n q.owner).unlinkPosted n [r.id]).modRecv n r.id fun _ => r
            let s := if r.ref then s.takeRef (keyIndex r.lkey) else s
            let s := s.modConn n k fun c => if eagerPackets len = 1 then c
              else { c with rxMsgs := c.rxMsgs ++ [{ firstPsn := h.psn, length := len, recv := some r.id, record := none, left := eagerPackets len - 1 }] }
            s.unlatch n k h.psn
          s.eagerToRecv n k q r p h seen

/-- A later packet of an eager message whose FIRST has been matched (R131). -/
def State.rxLater (s : State) (n k : Nat) (q : Qp) (p : Packet) (h : WtHeader) (m : RxMsg) : State :=
  let less (s : State) : State := s.modConn n k fun c => { c with
    rxMsgs := (c.rxMsgs.map fun x => if x.firstPsn = m.firstPsn then { x with left := x.left - 1 } else x).filter (·.left != 0) }
  match m.recv, m.record with
  | some id, _ =>
    match q.recv id with
    | some r => s.eagerToRecv n k q r p h less
    | none => (less (s.modConn n k (·.accept h.psn 1))).noteRequest n k h.solicitAck
  | none, some id =>
    let s := { s with mt := { s.mt with unexp := s.mt.unexp.map fun (u : Unexp) =>
      if u.id = id then { u with data := putBytes u.data h.address p.payload, left := u.left - 1 } else u } }
    (less (s.modConn n k (·.accept h.psn 1))).noteRequest n k h.solicitAck
  | none, none => s

/-- A FIN answers a rendezvous of this sender (R137, R139). A CODE that R128 does not list counts as SUCCESS (log entry 56). -/
def State.rxFin (s : State) (n k : Nat) (q : Qp) (h : WtHeader) : State :=
  let s := (s.modConn n k (·.accept h.psn 1)).noteRequest n k h.solicitAck
  match q.sq.find? fun d => d.rtsPsn == some (h.operand0 % 2 ^ 24) && d.st == .sent && q.connOf d == k with
  | some d =>
    if h.code = St.flushed then s.failDesc n d.id St.flushed
    else s.finishDesc n d.id St.success
  | none => s.tally Reg.MCH_STATUS_STRAY_FIN 0x106 0 q.owner

/-! ### Responses at the requester (R74 to R76, R95) -/

/-- Virtual address where response `i` of a GET_REQ lands. -/
def respAddr (t : Track) (i : Nat) : Nat := t.dest + (if i = 0 then 0 else i * 4096 - t.hdr.address % 4096)

/-- A GET_RESP (R76): its data is placed once. -/
def State.rxGetResp (s : State) (n k : Nat) (q : Qp) (c : Conn) (p : Packet) (h : WtHeader) : State :=
  match c.track.find? fun t => t.hdr.opcode == Op.getReq && decide (psnDiff h.psn t.psn < t.count) with
  | none => s
  | some t =>
    let i := psnDiff h.psn t.psn
    if t.got / 2 ^ i % 2 = 1 then s
    else
      let got := t.got + 2 ^ i
      let arrived (s : State) : State :=
        let s := s.modTrack n k t.psn ({ · with got := got, missSince := false, fullSince := false })
        let s := s.modConn n k ({ · with sync := false })
        if got + 1 = 2 ^ t.count then s.retire n k { t with got := got } else s
      let b := p.payload
      let va := respAddr t i
      match t.use with
      | .desc id =>
        if b.isEmpty then arrived s
        else match s.landing (.get n k h.psn id) t.lkey q.fn va b.length with
          | (s, .wait) => s.drive .wait
          | (s, .fault st d) => s.failDesc n id st false d
          | (s, x) =>
            let s := s.modDesc n id fun d => { d with placing := d.placing + 1 }
            arrived (s.placeAt x (.get n k h.psn id) none q.fn q.fn b)
      | .fetch id =>
        if b.isEmpty then arrived s
        else match s.landing (.fetch n k h.psn id) t.lkey q.fn va b.length with
          | (s, .wait) => s.drive .wait
          | (s, .fault st d) => s.failRecv n id st d
          | (s, x) =>
            let s := s.modRecv n id fun r => { r with placing := r.placing + 1, fetched := r.fetched + b.length }
            arrived (s.placeAt x (.fetch n k h.psn id) none q.fn (remoteSource c.peerEid) b)
      | .fin => s

/-- An ATOMIC_RESP (R76, R77). -/
def State.rxAtomicResp (s : State) (n k : Nat) (c : Conn) (h : WtHeader) : State :=
  match c.track.find? fun t => t.hdr.opcode == Op.atomicReq && t.psn == h.psn with
  | none => s
  | some t =>
    let s := match t.use with
      | .desc id => s.modDesc n id fun d =>
          { d with result := BitVec.ofNat 64 (if d.atomic32 then h.operand0 % 2 ^ 32 else h.operand0) }
      | _ => s
    s.retire n k t

/-- The tracker entries that an ACK or NAK acknowledges: below its PSN, or marked in its bitmap; a GET_REQ or ATOMIC_REQ
is acknowledged by its response alone (R75). -/
def acked (h : WtHeader) (t : Track) : Bool :=
  t.sent && t.hdr.opcode != Op.getReq && t.hdr.opcode != Op.atomicReq &&
    (decide (psnDiff h.psn t.psn < 2 ^ 23) ||
      (let i := psnDiff t.psn (h.psn + 2); decide (i < 64) && h.address / 2 ^ i % 2 == 1))

/-- Sent, above the NAK's PSN and not marked. -/
def above (h : WtHeader) (t : Track) : Bool :=
  t.sent && decide (2 ^ 23 ≤ psnDiff h.psn t.psn) &&
    !(let i := psnDiff t.psn (h.psn + 2); decide (i < 64) && h.address / 2 ^ i % 2 == 1)

/-- Retire what an ACK or NAK acknowledges. -/
def State.rxAck (s : State) (n k : Nat) (c : Conn) (h : WtHeader) : State :=
  let s := if h.opcode = Op.ack ∨ (c.track.any (acked h)) then s.modConn n k ({ · with sync := false }) else s
  (c.track.filter (acked h)).foldl (fun s t => s.retire n k t) s

/-- Matched-message opcodes (R128). -/
def isMatched (op : Nat) : Bool := op == Op.eager || op == Op.rts || op == Op.fin

/-- A NAK (R69, R95, R134). A STATE_MISS concerns one packet, the first above the NAK's PSN that its bitmap does not mark and
that no earlier such NAK holds (log entry 46). -/
def State.rxNak (s : State) (n k : Nat) (q : Qp) (c : Conn) (h : WtHeader) : State :=
  let s := s.rxAck n k c h
  let hold (s : State) (f : Track → Bool) (g : Track → Track) : State :=
    s.modConn n k fun c => { c with track := c.track.map fun t => if above h t && f t then g t else t }
  if h.code = St.stateMiss then
    match (c.track.filter fun t => !acked h t).find? fun t => above h t && t.hold != .stateMiss with
    | some t =>
      (s.modTrack n k t.psn fun t => { t with timer := false, hold := .stateMiss, missSince := true }).modConn n k fun c =>
        { c with sync := c.sync || q.shared }
    | none => s
  else if h.code = St.receiverFull then
    hold s (fun t => isMatched t.hdr.opcode) fun t => { t with timer := false, hold := .full, fullSince := true }
  else match (c.track.filter fun t => !acked h t).find? (above h) with
    | some t => s.failTrack n t h.code true 0
    | none => s

/-! ### Arrival of a WT packet -/

/-- The receive state of a shared endpoint for an arriving request (R61, R62): the connection to use, or none where the
packet has been answered. A SYNC packet outside the window replaces the state, also where it is a request that was executed before
and whose acknowledgement was lost: it is then executed again (log entry 56). -/
def State.peerState (s : State) (n k : Nat) (q : Qp) (p : Packet) (h : WtHeader) : State × Bool :=
  match mget q.conns k with
  | some c =>
    if c.rxValid ∧ (!h.sync ∨ psnDiff h.psn c.epsn < 2048) then (s, true)
    else if h.sync then
      let s := (s.dropGrants n (some k)).modConn n k fun c =>
        { c with epsn := h.psn, bitmap := 0, unplaced := [], rxMsgs := [], latch := none, rxValid := true, ackCount := 0, ackTimer := false }
      ((s.modQp n (·.unlatched)).dropResults n (some k), true)
    else (s.stateMiss p h (some q) (some c) none, false)
  | none =>
    if !h.sync then (s.stateMiss p h (some q) none none, false)
    else if s.poolSize ≤ s.poolUsed then (s.stateMiss p h (some q) none (some 255), false)
    else
      (s.makePeer n k { peerEid := p.net.srcEid, peerQpn := h.srcQpn, nextPsn := 0, epsn := h.psn }, true)

/-- What a packet must wait for in the miss buffer although its context is on die: lower PSNs (R122), the first packet of its
message (R131), receives that its run may still take in (R142). -/
inductive OrderWait where
  | none | order | later | run
  deriving DecidableEq, Repr

/-- A PSN lies above the refused PSN of a latched connection (R133). -/
def Conn.latched (c : Conn) (psn : Nat) : Bool :=
  match c.latch with
  | some l => psnDiff psn l != 0 && decide (psnDiff psn l < 2 ^ 23)
  | none => false

/-- The message that an RTS announces would take a run that may still grow (R142). -/
def State.runWaits (s : State) (n : Nat) (q : Qp) (p : Packet) (h : WtHeader) : Bool :=
  h.opcode == Op.rts &&
    match s.selectPosted n (h.operand1 % 2 ^ 16) p.net.srcEid (BitVec.ofNat 64 h.operand0) with
    | some e => (if e.handle.isSome then none else q.recv e.recv).any fun r => s.runOpen q r (matchLen h)
    | none => false

/-- The message of a later EAGER packet (R131): a FIN or a fetch of the same connection may have taken PSNs since its FIRST, so it is
the last message that began at or before the packet's PSN less its page, once every PSN between has come. -/
def Conn.messageOf (c : Conn) (psn addr : Nat) : Option RxMsg :=
  let bound := psnDiff psn (addr / 4096)
  let back (m : RxMsg) : Nat := psnDiff bound m.firstPsn
  let best := (c.rxMsgs.filter fun m => decide (back m < 2 ^ 23)).foldl (fun (b : Option RxMsg) m =>
    match b with
    | some x => if back m < back x then some m else b
    | none => some m) none
  best.filter fun m => (List.range (back m)).all fun i => c.arrived [] ((m.firstPsn + 1 + i) % 2 ^ 24)

/-- A request that the queue-pair checks have passed (R74). -/
def State.rxRequest (s : State) (n k : Nat) (q : Qp) (c : Conn) (p : Packet) (h : WtHeader) : State × OrderWait :=
  let cls := classify c.epsn c.bitmap h.psn
  let matched := isMatched h.opcode
  if cls = .outside then (s.tally Reg.TPT_VIOLATION_WINDOW 0x1C5 0 q.owner, .none)
  else if cls ≠ .new then
    (if h.opcode = Op.getReq then s.rxGet n k q c p h
     else if h.opcode = Op.atomicReq then
       (match s.tp.results.find? fun e => e.qpn == n && e.conn == k && e.psn == h.psn with
        | some e => (match e.value with | some v => s.sendAtomicResp n k h.psn v | none => s)
        | none => s)
     else s.noteRequest n k h.solicitAck, .none)
  else if matched && c.latched h.psn then
    (s.refuseFull n k q c p h false, .none)
  else if h.opcode = Op.put then (s.rxPut n k q c p h, .none)
  else if h.opcode = Op.getReq then (s.rxGet n k q c p h, .none)
  else if h.opcode = Op.atomicReq then (s.rxAtomic n k q c p h, .none)
  else if h.opcode = Op.fin then (s.rxFin n k q h, .none)
  else if q.rqLog = 0 ∨ s.postCapacity = 0 then (s.nakNew p h q c St.invalidState, .none)
  else if h.opcode = Op.rts ∨ h.first then
    (if h.psn ≠ c.epsn then (s, .order) else if s.runWaits n q p h then (s, .run) else (s.rxFirst n k q c p h, .none))
  else match c.messageOf h.psn h.address with
    | some m => (s.rxLater n k q p h m, .none)
    | none => (s, .later)

/-- A packet with a reserved opcode, an EXT that is not its opcode's, or a 1 in a reserved field (R72, R491). -/
def WtHeader.malformed (h : WtHeader) : Bool :=
  extOf h.opcode != some h.ext || h.reserved || ((h.opcode == Op.ack || h.opcode == Op.nak) && h.key % 2 ^ 24 != 0)

/-- A GET_REQ that fetches the source of a rendezvous that entering ERROR ended (R141). -/
def Qp.lostFetch (q : Qp) (k : Nat) (h : WtHeader) : Bool :=
  h.opcode == Op.getReq && q.lost.any fun x => x.1 == k && x.2.1 == h.key && decide (x.2.2.1 ≤ h.address)
    && decide (h.address + h.length ≤ x.2.2.1 + x.2.2.2)

/-- Process a WT packet whose context and key are on die (R60 to R63, R72). The second part says that it has to wait for
other packets of its connection. In RESET, INIT and ERROR the state's answer comes before the check of the peer, and a request is
answered as R63's table says; a GET_REQ of a rendezvous that entering ERROR ended is discarded (R141; log entry 46). -/
def State.rxOnDie (s : State) (n : Nat) (p : Packet) (h : WtHeader) : State × OrderWait :=
  match s.qp n with
  | none => (s, .none)
  | some q =>
    let k := connKey p.net.srcEid h.srcQpn
    let request := isRequest h.opcode
    let conn := mget q.conns k
    let live : Bool := q.st == .ready || q.st == .paused
    if live ∧ !q.shared ∧ (p.net.srcEid ≠ q.peerEid ∨ h.srcQpn ≠ q.peerQpn) then
      (s.tally Reg.TPT_VIOLATION_WRONG_PEER 0x1C4 0 q.owner, .none)
    else if h.version ≠ q.version then
      ((s.tally Reg.TPT_VIOLATION_VERSION 0x1C6 0 q.owner).nak p h (some q) conn St.versionMismatch, .none)
    else if WtHeader.malformed h then
      ((s.tally Reg.TPT_VIOLATION_MALFORMED 0x1C7 0 q.owner).nak p h (some q) conn St.remoteOpError, .none)
    else if q.st = .reset ∨ q.st = .error then
      (if request ∧ !(q.st = .error ∧ q.lostFetch k h) then s.nak p h (some q) conn St.invalidState else s, .none)
    else if q.st = .init then
      (if request then s.stateMiss p h (some q) none (some 255) else s, .none)
    else
      let s := if q.version = 1 then s else s.freeResults n k h.lowPsn
      if request then
        let r := if q.shared then s.peerState n k q p h else (s, true)
        if !r.2 then (r.1, .none)
        else match (r.1.qp n).bind fun q => (mget q.conns k).map fun c => (q, c) with
          | some (q, c) => r.1.rxRequest n k q c p h
          | none => (r.1, .none)
      else match conn with
        | none => (s, .none)
        | some c =>
          (if h.opcode = Op.getResp then s.rxGetResp n k q c p h
           else if h.opcode = Op.atomicResp then s.rxAtomicResp n k c h
           else if h.opcode = Op.ack then s.rxAck n k c h
           else s.rxNak n k q c h, .none)

/-- A packet leaves the miss buffer, if it is still there. -/
def State.unwait (s : State) (n k : Nat) (x : Nat × Packet) : State :=
  match s.qp n with
  | some q =>
    let l := mgetD q.waits k []
    if l.contains x then
      let l := l.erase x
      let s := if s.scratch then s else s.returnCredit x.1 x.2
      (s.setQp n { q with waits := if l.isEmpty then mdel q.waits k else mset q.waits k l }).missOut (hiveOf n) 1
    else s
  | none => s

/-- A waiting packet can be processed (R67, R122, R131, R133, R142). -/
def State.canGo (s : State) (n : Nat) (q : Qp) (k : Nat) (x : Nat × Packet) : Bool :=
  match x.2.body, mget q.conns k with
  | .wt h, some c =>
    classify c.epsn c.bitmap h.psn != .new || !(h.opcode == Op.eager || h.opcode == Op.rts) || c.latched h.psn ||
      (if h.opcode == Op.rts || h.first then h.psn == c.epsn && !s.runWaits n q x.2 h
       else (c.messageOf h.psn h.address).isSome)
  | _, _ => true

/-- The mark that the event waits for a translation is taken back. -/
def State.noWait (s : State) : State := { s with tp := { s.tp with todo := s.tp.todo.filter (· != .wait) } }

/-- Process the waiting packets of a connection that can go on, in arrival order (R67, R122). A packet whose translation
waits stays in the buffer and holds those behind it. -/
def State.pump : Nat → State → Nat → Nat → State
  | 0, s, _, _ => s
  | f + 1, s, n, k =>
    match s.qp n with
    | none => s
    | some q =>
      if q.fetches.contains k then s
      else match (mgetD q.waits k []).find? (s.canGo n q k) with
        | none => s
        | some x =>
          match x.2.body with
          | .wt h =>
            let r := s.rxOnDie n x.2 h
            if r.1.tp.todo.contains .wait then r.1.noWait
            else if r.2 ≠ .none then r.1
            else State.pump f (r.1.unwait n k x) n k
          | _ => s

/-- Try the waiting packets of a queue pair again. -/
def State.pumpQp (s : State) (n : Nat) : State :=
  match s.qp n with
  | some q => (q.waits.map (·.1)).foldl (fun s k => s.pump 600 n k) s
  | none => s

/-- Try every waiting packet again: a walk has ended. -/
def State.pumpAll (s : State) : State :=
  ((s.tp.qps.filter fun p => !p.2.waits.isEmpty).map (·.1)).foldl State.pumpQp s

/-- A packet of the connection that could go on waits in the miss buffer, say for a walk: a new one enters behind it (R67). Where those
that wait there wait only for other packets of their connection (R122, R131, R142), a new one is processed at once and may overtake
them (log entry 56). -/
def State.parked (s : State) (n : Nat) (q : Qp) (k : Nat) : Bool := (mgetD q.waits k []).any (s.canGo n q k)

/-- A packet arrives for a queue pair of this device (R63, R67). -/
def State.rxPacket (s : State) (port : Nat) (p : Packet) (h : WtHeader) : State :=
  let n := h.destQpn
  match s.qp n with
  | none =>
    -- R436: packets that need store state receive STATE_MISS with hint 255 while the store is in block reset
    (if WtHeader.malformed h then (s.tally Reg.TPT_VIOLATION_MALFORMED 0x1C7).nak p h none none St.remoteOpError
      else if !isRequest h.opcode then s else if s.ft.units.contains 82 then s.stateMiss p h none none (some 255)
      else s.nak p h none none St.invalidState).returnCredit port p
  | some q =>
    let k := connKey p.net.srcEid h.srcQpn
    if q.fetches.contains k then s.missIn q k port p h (mget q.conns k) false
    else if !q.onDie ∨ !s.keyOnDie h then s.missIn q k port p h (mget q.conns k) true
    else if s.parked n q k then (s.missIn q k port p h (mget q.conns k) false).pump 600 n k
    else
      let s := s.touch n
      match s.rxOnDie n p h with
      | (s, .none) => if s.tp.todo.contains .wait then s else (s.returnCredit port p).pump 600 n k
      | (s, w) =>
        match s.qp n with
        | some q =>
          let full := 512 ≤ mgetD s.tp.miss (hiveOf n) 0
          let s := s.missIn q k port p h (mget q.conns k) false
          if w = .order ∧ !full then s.tally Reg.MCH_STATUS_ORDER_HOLDS 0x105 0 q.owner else s
        | none => s

end Sys2Proof.Machine
end

