-- ==== Sys2Proof/Machine/Arith.lean ====
section
/-! DEFINITION. Swarm arithmetic: integer reductions, floating-point values as multiples of 2^-1074, exact partials and
their wire form, rounding (R157, R170 to R178). -/

namespace Sys2Proof.Machine

/-- A floating-point format: precision, width in bits, bias (R177). -/
structure Fmt where
  p : Nat
  w : Nat
  bias : Nat
  deriving DecidableEq, Repr

/-- The format of a floating datatype (R157). -/
def fmtOf (dtype : Nat) : Option Fmt :=
  match dtype with
  | 6 => some ⟨8, 16, 127⟩
  | 7 => some ⟨24, 32, 127⟩
  | 8 => some ⟨53, 64, 1023⟩
  | _ => none

/-- Bytes of an element (R157); none for a reserved datatype. -/
def elemBytes (dtype : Nat) : Option Nat :=
  if dtype = 0 ∨ dtype = 1 ∨ dtype = 4 ∨ dtype = 7 then some 4
  else if dtype = 2 ∨ dtype = 3 ∨ dtype = 5 ∨ dtype = 8 then some 8
  else if dtype = 6 then some 2
  else none

/-- The combinations of R157 that are legal for REDUCE and ALLREDUCE. -/
def ropLegal (dtype rop : Nat) : Bool :=
  if dtype < 4 then decide (rop < 6)
  else if dtype < 6 then decide (3 ≤ rop ∧ rop < 6)
  else if dtype < 9 then decide (rop < 3)
  else false

/-- SPECIAL states: finite, +inf, -inf, NaN (R174, R175). -/
def spFinite : Nat := 0
def spPos : Nat := 1
def spNeg : Nat := 2
def spNan : Nat := 3

/-- The exact value of a floating-point number: an integer in units of 2^-1074, SPECIAL, and NZ (R174). -/
structure Exact where
  acc : Int := 0
  special : Nat := 0
  nz : Bool := false
  deriving DecidableEq, Repr

/-- Read a floating-point number exactly. -/
def Fmt.decode (f : Fmt) (v : Nat) : Exact :=
  let frac := v % 2 ^ (f.p - 1)
  let e := v / 2 ^ (f.p - 1) % 2 ^ (f.w - f.p)
  let neg := v / 2 ^ (f.w - 1) % 2 = 1
  if e = 2 ^ (f.w - f.p) - 1 then
    { special := if frac ≠ 0 then spNan else if neg then spNeg else spPos, nz := true }
  else
    let m := if e = 0 then frac else frac + 2 ^ (f.p - 1)
    let a : Nat := m * 2 ^ (max e 1 + 1074 - f.bias - (f.p - 1))
    { acc := if neg then -(a : Int) else a, nz := a != 0 || !neg }

/-- SPECIAL of a combination (R173). -/
def joinSpecial (a b : Nat) : Nat := if a = spFinite then b else if b = spFinite then a else if a = b then a else spNan

/-- A as a 2,240-bit two's-complement integer (R174). -/
def wrapAcc (x : Int) : Int := toSigned 2240 (ofInt 2240 x)

/-- Combine the partials of one element (R174, R176). -/
def Exact.join (a b : Exact) : Exact :=
  let sp := joinSpecial a.special b.special
  { acc := if sp = spFinite then wrapAcc (a.acc + b.acc) else 0, special := sp, nz := a.nz || b.nz }

/-- The canonical NaN (R173). -/
def Fmt.nan (f : Fmt) : Nat := (2 ^ (f.w - f.p) - 1) * 2 ^ (f.p - 1) + 2 ^ (f.p - 2)

/-- An infinity. -/
def Fmt.inf (f : Fmt) (neg : Bool) : Nat := (if neg then 2 ^ (f.w - 1) else 0) + (2 ^ (f.w - f.p) - 1) * 2 ^ (f.p - 1)

/-- `m / 2^k` rounded to an integer, ties to even. -/
def roundEven (m k : Nat) : Nat :=
  let q := m / 2 ^ k
  let r := 2 * (m % 2 ^ k)
  if r > 2 ^ k ∨ (r = 2 ^ k ∧ q % 2 = 1) then q + 1 else q

/-- Round an exact value to a format (R177): the encoding of a positive value is the exponent field of its lowest kept
bit, less one, times 2^(p-1), plus the rounded significand, which also carries into the exponent. -/
def Fmt.round (f : Fmt) (x : Exact) : Nat :=
  if x.special = spNan then f.nan
  else if x.special = spPos then f.inf false
  else if x.special = spNeg then f.inf true
  else if x.acc = 0 then (if x.nz then 0 else 2 ^ (f.w - 1))
  else
    let m := x.acc.natAbs
    let low := 1076 - f.bias - f.p
    let k := max (Nat.log2 m + 1 - f.p) low
    let v := (k - low) * 2 ^ (f.p - 1) + roundEven m k
    let inf := (2 ^ (f.w - f.p) - 1) * 2 ^ (f.p - 1)
    (if x.acc < 0 then 2 ^ (f.w - 1) else 0) + min v inf

/-- The order of MIN and MAX on floating formats: -0 below +0 (R172). -/
def Fmt.key (f : Fmt) (v : Nat) : Int :=
  if v / 2 ^ (f.w - 1) % 2 = 1 then -((v % 2 ^ (f.w - 1) : Nat) : Int) - 1 else (v % 2 ^ (f.w - 1) : Nat)

/-- A value is a NaN. -/
def Fmt.isNan (f : Fmt) (v : Nat) : Bool := (f.decode v).special == spNan

/-- Combine two native elements (R170 to R173). -/
def combine (dtype rop a b : Nat) : Nat :=
  match fmtOf dtype with
  | some f =>
    match rop with
    | 0 => f.round ((f.decode a).join (f.decode b))
    | 1 => if f.isNan a || f.isNan b then f.nan else if f.key b < f.key a then b else a
    | _ => if f.isNan a || f.isNan b then f.nan else if f.key a < f.key b then b else a
  | none =>
    let w := 8 * (elemBytes dtype).getD 4
    let signed := dtype = 0 ∨ dtype = 2
    let less (x y : Nat) : Bool := if signed then decide (toSigned w x < toSigned w y) else decide (x < y)
    match rop with
    | 0 => (a + b) % 2 ^ w
    | 1 => if less b a then b else a
    | 2 => if less a b then b else a
    | 3 => a &&& b
    | 4 => a ||| b
    | _ => a ^^^ b

/-- A single contribution as a result of its own: a sum of one NaN is the canonical NaN, as a MIN or MAX of one is
(R172, R173). -/
def single (dtype v : Nat) : Nat :=
  match fmtOf dtype with
  | some f => if f.isNan v then f.nan else v
  | none => v

/-! ### Exact partials on the wire (R175) -/

/-- The lowest nonzero limb of a nonzero number. -/
def lowLimb : Nat → Nat → Nat → Nat
  | 0, _, i => i
  | f + 1, m, i => if m % 2 ^ 64 = 0 then lowLimb f (m / 2 ^ 64) (i + 1) else i

/-- The fewest limbs that hold a value with its sign. -/
def fewestLimbs : Nat → Int → Nat → Nat
  | 0, _, c => c
  | f + 1, v, c => if -(2 ^ (64 * c - 1) : Int) ≤ v ∧ v < (2 ^ (64 * c - 1) : Int) then c else fewestLimbs f v (c + 1)

/-- A partial in its shortest form. -/
def Exact.toBytes (x : Exact) : List Byte :=
  let b0 := x.special * 64 + (if x.nz then 32 else 0)
  if x.acc = 0 ∨ x.special ≠ spFinite then [BitVec.ofNat 8 b0, 0, 0, 0, 0, 0, 0, 0]
  else
    let low := lowLimb 35 x.acc.natAbs 0
    let v := x.acc / (2 ^ (64 * low) : Int)
    let n := fewestLimbs 35 v 1
    [BitVec.ofNat 8 b0, BitVec.ofNat 8 low, BitVec.ofNat 8 n, 0, 0, 0, 0, 0] ++ beBytes (8 * n) (ofInt (64 * n) v)

/-- Read partials from a payload; none where one breaks the table. -/
def readPartials : Nat → List Byte → Option (List Exact)
  | 0, l => if l.isEmpty then some [] else none
  | k + 1, l =>
    let b (i : Nat) : Nat := (l.getD i 0).toNat
    let sp := b 0 / 64
    let low := b 1
    let n := b 2
    if l.length < 8 + 8 * n ∨ b 0 % 32 ≠ 0 ∨ 34 < low ∨ 35 < n ∨ 35 < low + n ∨ b 3 + b 4 + b 5 + b 6 + b 7 ≠ 0
        ∨ (sp ≠ spFinite ∧ n ≠ 0) then none
    else
      let v : Int := if n = 0 then 0 else toSigned (64 * n) (ofBE ((l.drop 8).take (8 * n)))
      match readPartials k (l.drop (8 + 8 * n)) with
      | some r => some ({ acc := v * (2 ^ (64 * low) : Int), special := sp, nz := b 0 / 32 % 2 = 1 } :: r)
      | none => none

/-- Group partials into packets of whole partials of at most 4,096 B: first element, count, payload. -/
def packPartials : List (List Byte) → Nat → Nat → List Byte → List (Nat × Nat × List Byte)
  | [], first, n, acc => [(first, n, acc)]
  | b :: l, first, n, acc =>
    if n ≠ 0 ∧ 4096 < acc.length + b.length then (first, n, acc) :: packPartials l (first + n) 1 b
    else packPartials l first (n + 1) (acc ++ b)

/-! ### Elements as bytes (R8, R9, R168) -/

/-- Elements of a big-endian payload. -/
def elemsBE (w : Nat) : Nat → List Byte → List Nat
  | 0, _ => []
  | k + 1, l => ofBE (l.take w) :: elemsBE w k (l.drop w)

/-- Elements of a little-endian buffer. -/
def elemsLE (w : Nat) : Nat → List Byte → List Nat
  | 0, _ => []
  | k + 1, l => ofLE (l.take w) :: elemsLE w k (l.drop w)

end Sys2Proof.Machine
end

