-- ==== Sys2Proof/Machine/SwarmCore.lean ====
section
/-! DEFINITION. The swarm engine: frond entries, epochs, slots and windows, contributions and results, aborts (R151 to
R187). -/

namespace Sys2Proof.Machine

/-! ### Frond entries (R151 to R154) -/

def Frond.word (f : Frond) (i : Nat) : Word := wordAt f.words i
def Frond.isLocal (f : Frond) : Bool := bit (f.word 0) 1
def Frond.isRoot (f : Frond) : Bool := bit (f.word 0) 2
def Frond.parent (f : Frond) : Nat := bits (f.word 0) 8 7
def Frond.window (f : Frond) : Nat := bits (f.word 0) 24 7
def Frond.stageMib (f : Frond) : Nat := bits (f.word 0) 32 8
def Frond.qpn (f : Frond) : Nat := bits (f.word 2) 32 24

/-- The child ports. -/
def childPorts (ws : List Word) : List Nat :=
  (List.range 72).filter fun p => if p < 64 then bit (wordAt ws 1) p else bit (wordAt ws 2) (p - 64)

def Frond.children (f : Frond) : List Nat := childPorts f.words

/-- The tree ports: the children, and the parent unless the frond is the root. -/
def Frond.treePorts (f : Frond) : List Nat := f.children ++ (if f.isRoot then [] else [f.parent])

/-- Staging per slot in MiB (R163). -/
def State.stagePerSlot (s : State) : Nat :=
  s.rd Reg.GLB_STORE_PART_SIZE_GIB (s.rd Reg.SWM_CONFIG_PARTITION) * 1024 / s.rd Reg.SWM_CONFIG_SLOTS

/-- The checks of a frond write (R153). -/
def State.frondOk (s : State) (ws : List Word) : Bool :=
  let w0 := wordAt ws 0
  let root := bit w0 2
  let level := bits w0 16 4
  let reserved := bits w0 3 5 + bits w0 15 1 + bits w0 20 4 + bits w0 31 1 + bits w0 40 8 + bits (wordAt ws 2) 8 24
    + bits (wordAt ws 2) 56 8 + ((List.range 5).map fun i => (wordAt ws (3 + i)).toNat).sum
  reserved == 0 && !(bit w0 0 && !root && decide (71 < bits w0 8 7)) && (root || !(childPorts ws).contains (bits w0 8 7))
    && !((childPorts ws).isEmpty && !bit w0 1) && decide (1 ≤ level ∧ level ≤ 8) && (root == (level == 1))
    && decide (1 ≤ bits w0 24 7 ∧ bits w0 24 7 ≤ 64) && decide (1 ≤ bits w0 32 8 ∧ bits w0 32 8 ≤ s.stagePerSlot)

/-- The tree edge that a port belongs to: a tree port, or the one whose partner it is (R154). -/
def State.edgeOf (s : State) (f : Frond) (port : Nat) : Option Nat :=
  if f.treePorts.contains port then some port else f.treePorts.find? fun t => s.partner t == some port

/-- Change a frond. -/
def State.setFrond (s : State) (gid : Nat) (f : Frond) : State := { s with sw := { s.sw with fronds := mset s.sw.fronds gid f } }

/-- The operation slots that epochs hold (R163). -/
def State.slotsHeld (s : State) : List Nat :=
  s.sw.fronds.flatMap fun p => (p.2.cur.map (·.slot)).toList ++ (p.2.nxt.map (·.slot)).toList

/-- The lowest slot from `k` on that no epoch holds: the slot of a new epoch (log entry 47). -/
def lowestFree (held : List Nat) : Nat → Nat → Nat
  | 0, k => k
  | f + 1, k => if held.contains k then lowestFree held f (k + 1) else k

/-- Slots held: one for each epoch in progress (R163). -/
def State.slotsUsed (s : State) : Nat :=
  (s.sw.fronds.map fun p => (if p.2.cur.isSome then 1 else 0) + (if p.2.nxt.isSome then 1 else 0)).sum

/-- SWM_STATUS shows the slots. -/
def State.slotsShown (s : State) : State :=
  (s.wr Reg.SWM_STATUS_ACTIVE_SLOTS s.slotsUsed).high Reg.SWM_STATUS_SLOT_HIGH_WATER s.slotsUsed

/-! ### Operations (R156, R162, R164, R169) -/

/-- What identifies an operation: opcode, datatype, reduction, exact-sum mode in force, length, root; fields that the
opcode ignores are 0. -/
structure OpId where
  op : Nat
  dtype : Nat
  rop : Nat
  exact : Bool
  length : Nat
  rootEid : Nat
  deriving DecidableEq, Repr

/-- Exact-sum mode is in force (R157). -/
def exactMode (op dtype rop : Nat) (exact : Bool) : Bool := exact && (op == 0x41 || op == 0x42) && rop == 0 && decide (6 ≤ dtype)

/-- The operation of a descriptor (R155, R156). -/
def Desc.opId (d : Desc) : OpId :=
  let dt := bits d.op0 16 4
  let rop := bits d.op0 20 4
  if d.opcode = 0x40 then ⟨0x40, 0, 0, false, 0, 0⟩
  else if d.opcode = 0x43 then ⟨0x43, dt, 0, false, d.len, bits d.op1 0 20⟩
  else ⟨d.opcode, dt, rop, exactMode d.opcode dt rop (bit d.op0 24), d.len, if d.opcode = 0x41 then bits d.op1 0 20 else 0⟩

/-- The operation of a packet (R168); a DOWN packet's EXACT says nothing of the mode. -/
def SwarmHeader.opId (h : SwarmHeader) : OpId := ⟨h.op, h.dtype, h.rop, h.exact, h.length, h.rootEid⟩

/-- The operation of an epoch. -/
def Epoch.opId (e : Epoch) : OpId := ⟨e.op, e.dtype, e.rop, e.exact, e.length, e.rootEid⟩

/-- A packet's operation is an epoch's. -/
def Epoch.agrees (e : Epoch) (o : OpId) (down : Bool) : Bool := { o with exact := if down then e.exact else o.exact } == e.opId

/-- Segments of an operation (R162). -/
def Epoch.segments (e : Epoch) : Nat := if e.op = 0x40 ∨ e.length = 0 then 1 else (e.length + 4095) / 4096

/-- Bytes of segment `k`. -/
def Epoch.segBytes (e : Epoch) (k : Nat) : Nat := if e.op = 0x40 then 0 else min 4096 (e.length - 4096 * k)

/-- Bytes of an element. -/
def Epoch.elem (e : Epoch) : Nat := (elemBytes e.dtype).getD 4

/-- Elements of segment `k`. -/
def Epoch.segElems (e : Epoch) (k : Nat) : Nat := e.segBytes k / e.elem

/-- F, the staging footprint of a segment (R164). -/
def Epoch.foot (e : Epoch) : Nat := if !e.exact then 4096 else 4096 / e.elem * 288

/-- The effective window W (R164). -/
def Frond.effWindow (f : Frond) (e : Epoch) : Nat := max 1 (min f.window (f.stageMib * 2 ^ 20 / e.foot))

/-- The store address of the staging cell of a segment, in its slot's stretch of the COLLECTIVE_STAGING partition (R163, R166).
What the cell holds is `Epoch.segs`; its bytes in the store are not modelled, only the errors of its range (log entry 47). -/
def State.stageAt (s : State) (f : Frond) (e : Epoch) (k : Nat) : Nat :=
  (s.partOf (s.rd Reg.SWM_CONFIG_PARTITION)).1 + e.slot * (s.stagePerSlot * 2 ^ 20) + k % f.effWindow e * e.foot

/-- The staged part of a segment meets an uncorrected store error (R182). -/
def State.stageBad (s : State) (f : Frond) (e : Epoch) (k : Nat) : Bool :=
  (mget e.segs k).isSome && s.poisoned (s.stageAt f e k) e.foot

/-! ### Packets (R154, R165, R168) -/

/-- Send a swarm packet over a tree edge: on its port, or on the partner while only that is up; lost where neither is. Until the
device has joined, and while the ROUTE crossing takes up nothing new, it waits (R23, R226). -/
def State.swarmSend (s : State) (edge : Nat) (h : SwarmHeader) (payload : List Byte) : State :=
  let vl := s.rd (if h.kind = 0 then Reg.SWM_CONFIG_UP_VL else Reg.SWM_CONFIG_DOWN_VL)
  let net : NetHeader := { kind := 1, vl := vl, detoursLeft := s.rd Reg.RTE_ADAPT_MAX_DETOURS 1, destCoord := (s.neighbour 1 edge).getD 0 }
  let p : Packet := { net := net, body := .swarm h, payload := payload }
  let x : InPkt := { port := 127, pkt := { p with arrived := s.time }, cells := p.cells, edge := some edge }
  if !s.on Reg.RTE_MGMT_JOINED ∨ !s.admits 2 then { s with rt := { s.rt with own := s.rt.own ++ [x] } }
  else match s.carrier edge with
    | none => s
    | some q =>
      let r := s.samplePacket x
      r.1.toEgress q r.2

/-- The header of an epoch's packets. -/
def Epoch.header (e : Epoch) (gid kind seg : Nat) : SwarmHeader :=
  { kind := kind, op := e.op, gid := gid, epoch := e.number, dtype := e.dtype, rop := e.rop, lastSeg := seg + 1 == e.segments,
    segment := seg, length := e.length, rootEid := e.rootEid }

/-! ### Aborts (R182 to R184) -/

/-- The member's outstanding collective descriptors of a group (R160). -/
def State.memberDescs (s : State) (gid : Nat) (f : Frond) : List Nat :=
  match s.qp f.qpn with
  | some q => (q.sq.filter fun d => d.collective && d.gid == gid && d.outstanding).map (·.id)
  | none => []

/-- Drop the placements of a group and detach its reads in progress; each read keeps the input key in use until it
returns (R109). -/
def State.dropSwarmIo (s : State) (gid lkey : Nat) : State :=
  let mine (u : ReadFor) : Bool := match u with | .swarm g _ => g == gid | _ => false
  let n := (s.tp.reads.filter fun p => mine p.2.use).length
  let s := { s with tp := { s.tp with
    placements := s.tp.placements.filter fun p => (match p.2.use with | .swarm g _ => g != gid | _ => true)
    reads := s.tp.reads.map fun (p : Nat × HostRead) =>
      if mine p.2.use then (p.1, { p.2 with use := .source (2 ^ 24) 0 0 lkey }) else p } }
  (List.range n).foldl (fun s _ => s.takeRef (keyIndex lkey)) s

/-- The header of an ABORT packet (R168, R183): the operation of the epoch that aborts; where the frond holds none of that number, the
operation of the packet or descriptor that caused the abort, and 0 where there is none. -/
def abortHeader (of : Option Epoch) (like : Option SwarmHeader) (gid number reason : Nat) : SwarmHeader :=
  let h : SwarmHeader := match of, like with
    | some e, _ => { e.header gid 2 0 with lastSeg := false }
    | none, some h => { kind := 2, op := h.op, gid := gid, dtype := h.dtype, rop := h.rop, length := h.length, rootEid := h.rootEid }
    | none, none => { kind := 2, op := 0, gid := gid }
  { h with epoch := number, reason := reason }

/-- Abort a group's epoch, the current one unless another is named, with a reason, for a port (127: none), and send ABORT to
every tree neighbour but one (R183). -/
def State.swarmAbort (s : State) (gid reason port : Nat) (epoch : Option Nat := none) (except0 : Option Nat := none)
    (like : Option SwarmHeader := none) : State :=
  match mget s.sw.fronds gid with
  | none => s
  | some f =>
    if f.st = .aborted then s
    else
      let number := epoch.getD ((f.cur.map (·.number)).getD f.epoch)
      let ids := s.memberDescs gid f
      let s := (s.setFrond gid { f with st := .aborted, cur := none, nxt := none, held := [], epoch := number,
                                        lastReason := reason }).slotsShown
      let key := (((f.cur.bind (·.member)).bind fun m => (s.qp m.1).bind (·.desc m.2)).map (·.lkey)).getD 0
      let s := s.dropSwarmIo gid key
      let of := if f.cur.any (·.number == number) then f.cur else f.nxt.filter (·.number == number)
      let h := abortHeader of like gid number reason
      let s := (f.treePorts.filter fun t => some t != except0).foldl (fun s t => s.swarmSend t h []) s
      let s := ids.foldl (fun s id => s.finishDesc f.qpn id St.aborted false reason) s
      let s := match f.isLocal, s.qp f.qpn with
        | true, some q => s.qevent q.fn 18 St.aborted gid
        | _, _ => s
      let s := (s.raise 0x201 (gid + reason * 2 ^ 16)).tally Reg.SWM_COUNT_ABORTS 0x140
      let s := if reason = 3 ∨ reason = 4 then s.tally Reg.SWM_COUNT_MISMATCH 0x142 else s
      let s := if reason = 7 then s.tally Reg.SWM_COUNT_NO_SLOT 0x143 else s
      if s.on Reg.SWM_ABORT_LOG_VALID then s
        else ((((s.wr Reg.SWM_ABORT_LOG_VALID 1).wr Reg.SWM_ABORT_LOG_REASON reason).wr Reg.SWM_ABORT_LOG_GID gid).wr
          Reg.SWM_ABORT_LOG_EPOCH number).wr Reg.SWM_ABORT_LOG_PORT port

/-- A swarm packet is discarded and counted (R154, R166, R184). -/
def State.swarmStray (s : State) : State := s.tally Reg.SWM_COUNT_STRAY 0x141

/-- A network port has gone down: fronds that lose a tree edge abort (R182). -/
def State.swarmLinkDown (s : State) (port : Nat) : State :=
  s.sw.fronds.foldl (fun s p =>
    let f := p.2
    let lost := if f.cur.isSome then f.treePorts.any fun t => (t == port || s.partner t == some port) && (s.carrier t).isNone
      else f.treePorts.contains port
    if f.st != .aborted && lost then s.swarmAbort p.1 2 port else s) s

/-! ### Results (R156, R165, R177) -/

/-- The member writes results of an epoch: ALLREDUCE always, REDUCE at the root member, BROADCAST elsewhere (R156). -/
def State.memberWrites (s : State) (f : Frond) (e : Epoch) : Bool :=
  let own := (s.qp f.qpn).bind fun q => s.ownEid q.fn
  e.op == 0x42 || (e.op == 0x41 && own == some e.rootEid) || (e.op == 0x43 && own != some e.rootEid)

/-- The member reads input of an epoch: REDUCE and ALLREDUCE always, BROADCAST at the root member. -/
def State.memberReads (s : State) (f : Frond) (e : Epoch) : Bool :=
  let own := (s.qp f.qpn).bind fun q => s.ownEid q.fn
  e.length != 0 && (e.op == 0x42 || e.op == 0x41 || (e.op == 0x43 && own == some e.rootEid))

/-- An epoch is complete at a frond: every result has come and has been forwarded, and the member has placed its own. -/
def Epoch.complete (e : Epoch) : Bool := e.downNext == e.segments && (e.member.isNone || e.placed == e.segments)

/-- Take up what follows a complete epoch: the next one becomes the current one (R160, R166). -/
def State.epochEnds (s : State) (gid : Nat) : State :=
  match mget s.sw.fronds gid with
  | some f =>
    match f.cur with
    | some e =>
      if e.complete then
        (s.setFrond gid { f with cur := f.nxt, nxt := none, epoch := (e.number + 1) % 2 ^ 16,
                                 st := if f.nxt.isSome then .active else .idle }).slotsShown
      else s
    | none => s
  | none => s

/-- A segment's result is placed at the member; the last one completes its descriptor with the epoch number (R161). -/
def State.memberPlaced (s : State) (gid : Nat) : State :=
  match mget s.sw.fronds gid with
  | some f =>
    match f.cur with
    | some e =>
      let e := { e with placed := e.placed + 1 }
      let s := s.setFrond gid { f with cur := some e }
      let s := match e.member with
        | some (n, id) =>
          if e.placed = e.segments then
            s.finishDesc n id St.success false 0 (BitVec.ofNat 64 e.number)
          else s
        | none => s
      s.epochEnds gid
    | none => s
  | none => s

/-- A result of segment `k`, as native big-endian elements, goes down: to every child and to the member (R165). -/
def State.deliver (s : State) (gid : Nat) (f : Frond) (e : Epoch) (k : Nat) (payload : List Byte) : State :=
  let h := { e.header gid 1 k with lastPkt := true, elementCount := e.segElems k }
  let e := { e with downNext := e.downNext + 1, done := e.done ++ [k], segs := mdel e.segs k,
                    results := if e.member.isSome then e.results ++ [(k, payload)] else e.results }
  let cell := k % f.effWindow e
  let s := s.setFrond gid { f with cur := some e, held := if f.children.isEmpty ∨ f.held.contains cell then f.held else f.held ++ [cell] }
  let s := f.children.foldl (fun s t => s.swarmSend t h payload) s
  s.epochEnds gid

/-- The native result of a completed segment at the root (R171, R177). -/
def resultBytes (e : Epoch) (sg : Segment) (n : Nat) : List Byte :=
  ((List.range n).map fun i =>
    let p := sg.elems.getD i {}
    match e.exact, fmtOf e.dtype with
    | true, some f => beBytes e.elem (f.round ⟨p.acc, p.special, p.nz⟩)
    | _, _ => beBytes e.elem (if e.op = 0x43 then p.native else single e.dtype p.native)).flatten

/-- The UP packets of a completed segment (R168, R175): first element, count, payload. -/
def upPackets (e : Epoch) (sg : Segment) (n : Nat) : List (Nat × Nat × List Byte) :=
  if e.op = 0x43 then (if sg.carrier then [(0, n, (sg.elems.map fun p => beBytes e.elem p.native).flatten)] else [(0, 0, [])])
  else if e.exact then
    packPartials ((List.range n).map fun i => let p := sg.elems.getD i {}; Exact.toBytes ⟨p.acc, p.special, p.nz⟩) 0 0 []
  else [(0, n, ((List.range n).map fun i => beBytes e.elem (sg.elems.getD i {}).native).flatten)]

/-- Staging meets an uncorrected store error: it is reported, and the epoch aborts with STORE_ERROR (R182). -/
def State.stageFails (s : State) (gid : Nat) (f : Frond) (e : Epoch) (k : Nat) : State :=
  (s.reportPoison (s.stageAt f e k) e.foot).swarmAbort gid 8 127 (some e.number)

/-- The first contribution to a segment writes its staging cell whole: an error there is gone (R105). -/
def State.stageStart (s : State) (f : Frond) (e : Epoch) (k : Nat) : State :=
  if (mget e.segs k).isSome then s else s.clearPoison (s.stageAt f e k) e.foot

/-- A segment that holds every contribution goes up, or becomes a result at the root (R162, R165). -/
def State.segmentDone (s : State) (gid k : Nat) : State :=
  match mget s.sw.fronds gid with
  | some f =>
    match f.cur with
    | some e =>
      match mget e.segs k with
      | some sg =>
        let need := f.children.length + (if f.isLocal then 1 else 0)
        if sg.froms.length < need ∨ sg.sentUp then s
        else if s.stageBad f e k then s.stageFails gid f e k
        else if f.isRoot then s.deliver gid f e k (resultBytes e sg (e.segElems k))
        else
          let e' := { e with segs := mset e.segs k { sg with sentUp := true, complete := true }, upNext := e.upNext + 1 }
          let s := s.setFrond gid { f with cur := some e' }
          let ps := upPackets e sg (e.segElems k)
          (ps.zipIdx).foldl (fun s x =>
            let h := { e.header gid 0 k with exact := e.exact, lastPkt := x.2 + 1 == ps.length,
                                             firstElement := x.1.1, elementCount := x.1.2.1 }
            s.swarmSend f.parent h x.1.2.2) s
      | none => s
    | none => s
  | none => s

/-- Add elements to a segment from a native contribution, in the order in which it reaches the frond (R171). -/
def addNative (e : Epoch) (sg : Segment) (vs : List Nat) : Segment :=
  { sg with elems := vs.zipIdx.map fun x =>
      let p := sg.elems.getD x.2 {}
      match e.exact, fmtOf e.dtype with
      | true, some f =>
        let j := Exact.join ⟨p.acc, p.special, p.nz⟩ (f.decode x.1)
        { p with acc := j.acc, special := j.special, nz := j.nz, filled := true }
      | _, _ => if p.filled then { p with native := combine e.dtype e.rop p.native x.1 } else { p with native := x.1, filled := true } }

/-- Add exact partials to a segment from element `first` on (R176). -/
def addExact (sg : Segment) (n first : Nat) (xs : List Exact) : Segment :=
  { sg with elems := (List.range n).map fun i =>
      let p := sg.elems.getD i {}
      if first ≤ i ∧ i < first + xs.length then
        let j := Exact.join ⟨p.acc, p.special, p.nz⟩ (xs.getD (i - first) {})
        { p with acc := j.acc, special := j.special, nz := j.nz, filled := true }
      else p }

/-- Change the current epoch of a frond. -/
def State.setCur (s : State) (gid : Nat) (e : Epoch) : State :=
  match mget s.sw.fronds gid with
  | some f => s.setFrond gid { f with cur := some e }
  | none => s

/-- The member contributes segment `k`: its input as little-endian bytes (R162, R168). -/
def State.memberGives (s : State) (gid k : Nat) (b : List Byte) : State :=
  match (mget s.sw.fronds gid).bind fun f => f.cur.map fun e => (f, e) with
  | some (f, e) =>
    let sg := mgetD e.segs k {}
    if sg.froms.contains 127 then s
    else if s.stageBad f e k then s.stageFails gid f e k
    else
      let s := s.stageStart f e k
      let n := b.length / e.elem
      let vs := elemsLE e.elem n b
      if e.op = 0x43 ∧ n ≠ 0 ∧ sg.carrier then s.swarmAbort gid 3 127
      else
        let sg := if n = 0 then sg else { addNative e sg vs with carrier := true }
        let s := s.setCur gid { e with segs := mset e.segs k { sg with froms := sg.froms ++ [127] } }
        let s := if b.isEmpty then s else s.count 0x144 0 b.length
        s.segmentDone gid k
  | none => s

/-- One step of the member's side of a group: read the next segment of input within the window, or write the next result
(R162, R164). The flag says that something was done. -/
def State.memberStep (s : State) (gid : Nat) : State × Bool :=
  match mget s.sw.fronds gid with
  | none => (s, false)
  | some f =>
    match f.cur, s.qp f.qpn with
    | some e, some q =>
      match e.member.bind fun m => q.desc m.2 with
      | none => (s, false)
      | some d =>
        match e.results with
        | (k, b) :: rest =>
          if !s.memberWrites f e ∨ b.isEmpty then ((s.setCur gid { e with results := rest }).memberPlaced gid, true)
          else
            let le := ((elemsBE e.elem (b.length / e.elem) b).map fun v => leBytes e.elem v).flatten
            match s.landing (.swarm gid k) d.rkey q.fn (d.raddr + 4096 * k) le.length with
            | (s, .wait) => (s, false)
            | (s, .fault st dt) => ((s.failDesc f.qpn d.id st false dt).drive (.abort gid 5), true)
            | (s, t) =>
              ((s.setCur gid { e with results := rest }).placeAt t (.swarm gid k) none q.fn q.fn le, true)
        | [] =>
          let k := e.readNext
          if e.segments ≤ k ∨ e.downNext + f.effWindow e ≤ k then (s, false)
          else
            let next (s : State) : State := match (mget s.sw.fronds gid).bind (·.cur) with
              | some e => s.setCur gid { e with readNext := k + 1 }
              | none => s
            if !s.memberReads f e then ((next s).memberGives gid k [], true)
            else match s.fetchLocal q.fn d.lkey (d.laddr + 4096 * k) (e.segBytes k) (.swarm gid k) with
              | (s, .data b) => ((next s).memberGives gid k b, true)
              | (s, .reading) => (next s, true)
              | (s, .wait) => (s, false)
              | (s, .fault st dt) => ((s.failDesc f.qpn d.id st false dt).drive (.abort gid 5), true)
    | _, _ => (s, false)

/-- Groups with an epoch whose member takes part. -/
def State.memberGroups (s : State) : List Nat :=
  s.sw.fronds.filterMap fun p => match p.2.cur with | some e => if e.member.isSome then some p.1 else none | none => none

/-- One turn of every active slot, one segment each (R179). The flag says that something was done. -/
def State.memberTurn (s : State) : State × Bool :=
  s.memberGroups.foldl (fun a gid => let r := a.1.memberStep gid; (r.1, a.2 || r.2)) (s, false)

/-- Run the members' sides of the groups as far as they go: the active slots in turn, one segment per turn (R179). -/
def State.memberRun : Nat → State → State
  | 0, s => s
  | n + 1, s => match s.memberTurn with
    | (s, true) => State.memberRun n s
    | (s, false) => s

end Sys2Proof.Machine
end

