-- ==== Sys2Proof/Machine/SwarmPackets.lean ====
section
/-! DEFINITION. Swarm packets at a frond: upward contributions, downward results, aborts, and the queue of crossbar port 88
(R154, R163 to R169, R182 to R184). -/

namespace Sys2Proof.Machine

/-- A new epoch of an operation, with the slot that it takes. -/
def State.newEpoch (s : State) (number : Nat) (o : OpId) : Epoch :=
  { number := number, slot := lowestFree s.slotsHeld s.slotsUsed 0, op := o.op, dtype := o.dtype, rop := o.rop, exact := o.exact, length := o.length, rootEid := o.rootEid }

/-- A slot is free (R163). -/
def State.slotFree (s : State) : Bool := decide (s.slotsUsed < s.rd Reg.SWM_CONFIG_SLOTS)

/-! ### Swarm packets (R154, R164 to R169, R183, R184) -/

/-- A packet's operation is one that a frond can combine. -/
def SwarmHeader.opOk (h : SwarmHeader) : Bool :=
  decide (0x40 ≤ h.op ∧ h.op ≤ 0x43) && (h.op == 0x40 || (elemBytes h.dtype).isSome)
    && (!h.exact || exactMode h.op h.dtype h.rop true)

/-- Add an upward packet's contribution of a child to an epoch: the epoch after, or the REASON of an abort (R164, R169,
R175). -/
def Epoch.addUp (e : Epoch) (w child : Nat) (h : SwarmHeader) (payload : List Byte) : Except Nat Epoch :=
  let k := h.segment
  let n := e.segElems k
  let sg := mgetD e.segs k {}
  if e.segments ≤ k ∨ n < h.firstElement + h.elementCount then .error 4
  else if e.downNext + w ≤ k then .error 3
  else if sg.froms.contains child then .error 3
  else if e.exact then
    match readPartials h.elementCount payload with
    | none => .error 4
    | some xs =>
      let sg := { addExact sg n h.firstElement xs with carrier := true }
      .ok { e with segs := mset e.segs k { sg with froms := if h.lastPkt then sg.froms ++ [child] else sg.froms } }
  else if payload.length ≠ h.elementCount * e.elem ∨ h.firstElement ≠ 0 ∨ (h.elementCount ≠ n ∧ !(e.op = 0x43 ∧ h.elementCount = 0))
  then .error 4
  else if e.op = 0x43 ∧ h.elementCount ≠ 0 ∧ sg.carrier then .error 3
  else
    let sg := if h.elementCount = 0 then sg else { addNative e sg (elemsBE e.elem n payload) with carrier := true }
    .ok { e with segs := mset e.segs k { sg with froms := sg.froms ++ [child] } }

/-- An accepted upward packet's elements count as input of the swarm, in native element bytes (R179, R483). -/
def State.upCounted (s : State) (e : Epoch) (h : SwarmHeader) : State :=
  if h.elementCount = 0 then s else s.count 0x144 0 (h.elementCount * e.elem)

/-- An upward packet for the current epoch of a frond, from a child's edge, by a port. -/
def State.upCurrent (s : State) (gid : Nat) (f : Frond) (e : Epoch) (child port : Nat) (h : SwarmHeader) (b : List Byte) : State :=
  if !e.agrees (SwarmHeader.opId h) false then s.swarmAbort gid 3 port
  else if s.stageBad f e h.segment then s.stageFails gid f e h.segment
  else match e.addUp (f.effWindow e) child h b with
    | .error r => s.swarmAbort gid r port
    | .ok e' => (((s.stageStart f e h.segment).setFrond gid { f with cur := some e' }).upCounted e h).segmentDone gid h.segment

/-- An upward packet for the next epoch of a frond: its contribution waits there for the member's. -/
def State.upNextEpoch (s : State) (gid : Nat) (f : Frond) (child port : Nat) (h : SwarmHeader) (b : List Byte) : State :=
  let abort (s : State) (reason : Nat) : State := s.swarmAbort gid reason port (some h.epoch) none (some h)
  let put (s : State) (e : Epoch) : State :=
    if !e.agrees (SwarmHeader.opId h) false then abort s 3
    else if s.stageBad f e h.segment then s.stageFails gid f e h.segment
    else match e.addUp (f.effWindow e) child h b with
      | .error r => abort s r
      | .ok e' => (((s.stageStart f e h.segment).setFrond gid { f with nxt := some e' }).upCounted e h).slotsShown
  match f.nxt with
  | some e => put s e
  | none => if !s.slotFree then abort s 7 else put s (s.newEpoch h.epoch (SwarmHeader.opId h))

/-- An upward packet over the edge of a child port. The staging cell of its segment must not still be held for the previous
epoch; `none` says that the packet waits at the head of its queue (R166). -/
def State.upPacket (s : State) (gid : Nat) (f : Frond) (child port : Nat) (h : SwarmHeader) (b : List Byte) : Option State :=
  let blocked (e : Epoch) : Bool := decide (h.segment < f.effWindow e) && f.held.contains (h.segment % f.effWindow e)
  if !f.children.contains child then some s.swarmStray
  else match f.cur with
    | some e =>
      if h.epoch = e.number then (if blocked e then none else some (s.upCurrent gid f e child port h b))
      else if h.epoch = (e.number + 1) % 2 ^ 16 ∧ e.downNext = e.segments then
        (if !(SwarmHeader.opOk h) then some (s.swarmAbort gid 4 port (some h.epoch) none (some h))
         else if blocked (f.nxt.getD (s.newEpoch h.epoch (SwarmHeader.opId h))) then none else some (s.upNextEpoch gid f child port h b))
      else some s.swarmStray
    | none =>
      if h.epoch ≠ f.epoch then some s.swarmStray
      else if !(SwarmHeader.opOk h) then some (s.swarmAbort gid 4 port none none (some h))
      else if !s.slotFree then some (s.swarmAbort gid 7 port none none (some h))
      else
        let e := s.newEpoch h.epoch (SwarmHeader.opId h)
        if blocked e then none
        else
          let f := { f with st := .active, cur := some e }
          some ((s.setFrond gid f).slotsShown.upCurrent gid f e child port h b)

/-- A downward packet over an edge (R165). -/
def State.downPacket (s : State) (gid : Nat) (f : Frond) (edge port : Nat) (h : SwarmHeader) (b : List Byte) : State :=
  match f.cur with
  | some e =>
    if f.isRoot ∨ edge ≠ f.parent ∨ h.epoch ≠ e.number ∨ e.done.contains h.segment then s.swarmStray
    else if !e.agrees (SwarmHeader.opId h) true then s.swarmAbort gid 3 port
    else if e.segments ≤ h.segment ∨ h.firstElement ≠ 0 ∨ h.elementCount ≠ e.segElems h.segment
        ∨ b.length ≠ h.elementCount * e.elem then s.swarmAbort gid 4 port
    else s.deliver gid f e h.segment b
  | none => s.swarmStray

/-- An ABORT packet over an edge (R183, R184). -/
def State.abortPacket (s : State) (gid : Nat) (f : Frond) (edge port : Nat) (h : SwarmHeader) : State :=
  if f.cur.isNone ∧ 2 ^ 15 ≤ (h.epoch + 2 ^ 16 - f.epoch) % 2 ^ 16 then
    s.setFrond gid { f with st := .aborted, lastReason := h.reason }
  else s.swarmAbort gid h.reason port (some h.epoch) (some edge) (some h)

/-- The frond takes packets of an epoch number now: the current epoch, the next one once the last result has begun to go down, or
that of a frond that waits for its first (R166). -/
def Frond.takes (f : Frond) (number : Nat) : Bool :=
  match f.cur with
  | some e => number == e.number || (number == (e.number + 1) % 2 ^ 16 && e.downNext == e.segments)
  | none => number == f.epoch

/-- A packet that breaks the format (R169): the epoch that it names aborts; one of no epoch that the frond takes is STRAY (R166). -/
def State.badSwarm (s : State) (gid : Nat) (f : Frond) (port : Nat) (h : SwarmHeader) : State :=
  if f.takes h.epoch then s.swarmAbort gid 4 port (some h.epoch) none (some h) else s.swarmStray

/-- Process a swarm packet from a port; `none` says that it waits for its staging cell. While SWM_CONFIG.ENABLE is 0 it is counted
STRAY (log entry 10). -/
def State.swarmPacket (s : State) (port : Nat) (h : SwarmHeader) (b : List Byte) : Option State :=
  match if s.on Reg.SWM_CONFIG_ENABLE ∧ h.gid ≠ 0 then mget s.sw.fronds h.gid else none with
  | none => some s.swarmStray
  | some f =>
    match s.edgeOf f port with
    | none => some s.swarmStray
    | some edge =>
      if f.st = .aborted then some s.swarmStray
      else if h.version ≠ 2 ∨ h.kind = 3 ∨ h.reserved then some (s.badSwarm h.gid f port h)
      else if h.kind = 0 then s.upPacket h.gid f edge port h b
      else if h.kind = 1 then some (s.downPacket h.gid f edge port h b)
      else some (s.abortPacket h.gid f edge port h)

/-- Work off port 88's queue in its order: a head that waits holds the packets behind it (R166). -/
def State.upDrain : Nat → State → State
  | 0, s => s
  | n + 1, s =>
    match s.sw.up with
    | [] => s
    | (port, p) :: l =>
      let go : Option State := match p.body with
        | .swarm h => s.swarmPacket port h p.payload
        | _ => some s
      match go with
      | some s => State.upDrain n ({ s with sw := { s.sw with up := l } }.returnCredit port p)
      | none => s

end Sys2Proof.Machine
end

