-- ==== Sys2Proof/Machine/Settle.lean ====
section
/-! DEFINITION. What follows within one step: queue pairs that enter ERROR, epochs that abort, records that are copied,
the members' sides of groups, posted writes whose turn has come. -/

namespace Sys2Proof.Machine

/-- Work off the effects that events have left. -/
def State.effects : Nat → State → State
  | 0, s => s
  | f + 1, s =>
    match s.tp.todo with
    | [] => s
    | .wait :: l => State.effects f { s with tp := { s.tp with todo := l } }
    | .qpError n st :: l => State.effects f (State.enterError { s with tp := { s.tp with todo := l } } n st)
    | .abort gid reason :: l => State.effects f (State.swarmAbort { s with tp := { s.tp with todo := l } } gid reason 127)

/-- Queue pairs with a record that a receive has taken. -/
def State.takers (s : State) : List Nat := ((s.mt.unexp.filter fun u => u.taken.isSome && u.left == 0 && !u.rts).map (·.qpn)).eraseDups

/-- One round: effects, copies, upward swarm packets, members, writes. -/
def State.round (s : State) : State :=
  let s := s.effects 200
  let s := s.takers.foldl State.copyTaken s
  let s := s.upDrain s.sw.up.length
  let s := s.memberRun 300
  let s := if s.tp.writes.isEmpty then s else s.drainPass
  s.effects 200

/-- Nothing is left that a further round could take up. -/
def State.quiet (s : State) : Bool := s.tp.todo.isEmpty && s.tp.writes.isEmpty && s.takers.isEmpty && s.sw.up.isEmpty && s.memberGroups.isEmpty

/-- Let everything that follows from an event come about, in at most so many rounds. -/
def State.rounds : Nat → State → State
  | 0, s => s
  | f + 1, s => if s.quiet then s else State.rounds f s.round

/-- The state after an event and all that follows from it in the same step. -/
def settle (s : State) : State := s.rounds 8

end Sys2Proof.Machine
end

