-- ==== Sys2Proof/Machine/Commands.lean ====
section
/-! DEFINITION. The commands of R46: the handshake, submission, the block read, and one meaning per command (R42 to R46,
R63, R87 to R89, R145, R293, R296, R351, R398, R399). -/

namespace Sys2Proof.Machine

/-! ### The handshake (R42, R43) -/

/-- The function holds a queue, a completion queue or a protection domain (R43). An event queue counts as a queue (log entry
44). -/
def Func.holdsObjects (f : Func) : Bool := !f.pds.isEmpty || !f.cqs.isEmpty || f.eq.isSome || !f.qps.isEmpty

/-- Firmware answers the handshake request that TPT_ABI_REQUEST holds. -/
def State.abiGo (s : State) (fn : Nat) : State :=
  let f := s.func fn
  let answer (s : State) (st : Nat) : State := (s.wr Reg.TPT_ABI_STATUS_STATUS st fn).wr Reg.TPT_ABI_STATUS_DONE 1 fn
  if f.holdsObjects then answer s St.invalidState
  else if s.rd Reg.TPT_ABI_REQUEST_MAJOR fn ≠ 2 then answer s St.versionMismatch
  else
    let m := min (s.rd Reg.TPT_ABI_REQUEST_MINOR fn) 3
    let s := s.setFunc fn { f with major := 2, minor := m }
    answer ((s.wr Reg.TPT_ABI_STATUS_MAJOR 2 fn).wr Reg.TPT_ABI_STATUS_MINOR m fn) St.success

/-! ### Submission and completion (R46) -/

/-- A command completes: DONE, STATUS, RESULT. -/
def State.cmdDone (s : State) (fn status : Nat) (result : Nat := 0) : State :=
  let s := ((s.wr Reg.TPT_CMD_CTRL_BUSY 0 fn).wr Reg.TPT_CMD_CTRL_DONE 1 fn).wr Reg.TPT_CMD_CTRL_STATUS status fn
  (s.wr Reg.TPT_CMD_CTRL_RESULT result fn).setFunc fn { s.func fn with cmd := none }

/-- GO is written: the block at TPT_CMD_ADDR is read, at its address on the function's host link. A misaligned address and a
failed read are answered as R46 says whether or not the function holds a granted version (log entry 44). -/
def State.cmdGo (s : State) (fn : Nat) : State :=
  if s.on Reg.TPT_CMD_CTRL_BUSY fn then s.tally Reg.TPT_VIOLATION_CMD_OVERLAP 0x1C3 0 (some (fn, 0))
  else
    let s := (s.wr Reg.TPT_CMD_CTRL_BUSY 1 fn).wr Reg.TPT_CMD_CTRL_DONE 0 fn
    let s := s.setFunc fn { s.func fn with cmd := some {} }
    let a := s.rd Reg.TPT_CMD_ADDR_ADDR fn
    if a % 64 ≠ 0 then s.cmdDone fn St.badDescriptor
    else s.newId.emit (.hostRead (fn / 256) a 64 s.tp.nextId)

/-- The bits that a command's words may hold, by word from word 1 on (R46, R87, R145, R293, R296, R398); a word beyond the
list is reserved. None is a value that no command table lists. -/
def cmdMask (cmd : Nat) : Option (List Nat) :=
  match cmd with
  | 0x01 | 0x02 | 0x04 | 0x08 | 0x09 | 0x0F => some []
  | 0x03 | 0x05 => some [0x07FF00FF, 2 ^ 64 - 1]
  | 0x06 => some [0xFFFF7DFFFF, 2 ^ 64 - 1, 2 ^ 64 - 1, 2 ^ 64 - 1, 0x001FFFFF001FFFFF]
  | 0x07 => some [0x7, 0x00FFFFFF000FFFFF, 0x00FFFFFF00FFFFFF]
  | 0x0A => some [0x1FFFFFF, 2 ^ 57 - 1, 2 ^ 49 - 1, 2 ^ 37 - 1]
  | 0x0B | 0x0D => some [2 ^ 32 - 1]
  | 0x0C => some [2 ^ 16 - 1]
  | 0x0E => some [2 ^ 16 - 1, 2 ^ 64 - 1, 2 ^ 32 - 1, 2 ^ 64 - 1, 2 ^ 64 - 1]
  | 0x10 => some [2 ^ 22 - 1, 2 ^ 24 - 1]
  | 0x11 => some [2 ^ 43 - 1, 2 ^ 64 - 1]
  | 0x12 => some [1, 2 ^ 57 - 1, 2 ^ 58 - 1]
  | _ => none

/-- The lowest minor version that has a command (R44, R87, R145). -/
def cmdMinor (cmd : Nat) : Nat := if 0x0C ≤ cmd ∧ cmd ≤ 0x0F then 2 else 0

/-- No reserved bit of a command block is 1 (R15, R46). -/
def cmdReservedOk (ws : List Word) (mask : List Nat) : Bool :=
  bits (wordAt ws 0) 32 32 == 0 &&
    (List.range 7).all fun i => (wordAt ws (1 + i)) &&& BitVec.ofNat 64 (mask.getD i 0) == wordAt ws (1 + i)

/-- CMD of a block, and its OBJECT. -/
def cmdCode (ws : List Word) : Nat := bits (wordAt ws 0) 0 8
def cmdObject (ws : List Word) : Nat := bits (wordAt ws 0) 8 24

/-- A block is well formed for a minor version: CMD is listed and available, no reserved bit is 1, a TARGET_STATE is one
of the five. -/
def cmdOk (minor : Nat) (ws : List Word) : Bool :=
  match cmdMask (cmdCode ws) with
  | some m => decide (cmdMinor (cmdCode ws) ≤ minor) && cmdReservedOk ws m
      && !(cmdCode ws == 0x07 && decide (4 < bits (wordAt ws 1) 0 3))
  | none => false

/-- R46: the read of the command block ends. -/
def execCmdBlockReadDone (fn : Nat) (r : HostRes) (s : State) : Host.Outcome State Fault Refusal := s.atPins <|
  match (s.func fn).cmd with
  | some c =>
    if c.read then ok s
    else
      let s := s.linkLogs (fn / 256) r
      match r with
      | .timeout => ok (s.cmdDone fn St.remoteOpError 13)
      | .error => ok (s.cmdDone fn St.remoteOpError 14)
      | .poisoned => ok (s.cmdDone fn St.remoteOpError 14)
      | .data b =>
        let ws := toWords 8 (slice b 0 64)
        if (s.func fn).major = 0 then ok (s.cmdDone fn St.invalidState)
        else if !cmdOk (s.func fn).minor ws then ok (s.cmdDone fn St.badDescriptor)
        else ok (s.setFunc fn { s.func fn with cmd := some { c with words := ws, read := true } })
  | none => ok s

/-- The command that a function runs, once its block is read and while it waits for nothing. -/
def State.cmdOf (s : State) (fn cmd : Nat) : Option (List Word) :=
  match (s.func fn).cmd with
  | some c => if c.read ∧ cmdCode c.words = cmd ∧ c.waitKey.isNone ∧ c.waitInv.isNone then some c.words else none
  | none => none

/-- Run a command's effect on its block; without that command in hand nothing happens (log entry 5). -/
def State.runCmd (s : State) (fn cmd : Nat) (f : List Word → State) : Host.Outcome State Fault Refusal :=
  match s.cmdOf fn cmd with
  | some ws => ok (settle (f ws))
  | none => ok s

/-- An index of a queue pair or completion queue is in a function's range (R46). -/
def idxOk (fn i : Nat) : Bool := decide (i < if fn % 256 = 0 then 2 ^ 21 else 2 ^ 15)

/-! ### Protection domains, completion and event queues (R45, R46) -/

/-- CREATE_PD (R45, R46): the policer starts disabled (R296). -/
def execCreatePd (fn : Nat) (s : State) : Host.Outcome State Fault Refusal := s.clocked <|
  s.runCmd fn 0x01 fun ws =>
    let f := s.func fn
    let i := cmdObject ws
    if 65535 < i then s.cmdDone fn St.badDescriptor
    else if (mget f.pds i).isSome then s.cmdDone fn St.invalidState
    else if 65536 ≤ (s.tp.funcs.map fun p => p.2.pds.length).sum then s.cmdDone fn St.resourceExhausted
    else (s.setFunc fn { f with pds := mset f.pds i {} }).cmdDone fn St.success

/-- A queue pair, region or window belongs to a protection domain. -/
def State.pdUsed (s : State) (fn pd : Nat) : Bool :=
  (s.tp.qps.any fun p => p.2.fn == fn && p.2.pd == pd) || s.km.entries.any fun p => p.2.kind != 0 && p.2.fn == fn && p.2.pd == pd

/-- DESTROY_PD (R45). -/
def execDestroyPd (fn : Nat) (s : State) : Host.Outcome State Fault Refusal := s.clocked <|
  s.runCmd fn 0x02 fun ws =>
    let f := s.func fn
    let i := cmdObject ws
    if 65535 < i then s.cmdDone fn St.badDescriptor
    else if (mget f.pds i).isNone ∨ s.pdUsed fn i then s.cmdDone fn St.invalidState
    else (s.setFunc fn { f with pds := mdel f.pds i }).cmdDone fn St.success

/-- LOG_SIZE and BASE of a completion or event ring are in range (R46, R47). -/
def ringOk (log base : Nat) : Bool := decide (6 ≤ log ∧ log ≤ 20) && base % 4096 == 0

/-- CREATE_CQ (R46, R47). -/
def execCreateCq (fn : Nat) (s : State) : Host.Outcome State Fault Refusal := s.clocked <|
  s.runCmd fn 0x03 fun ws =>
    let f := s.func fn
    let i := cmdObject ws
    let log := bits (wordAt ws 1) 0 8
    let base := (wordAt ws 2).toNat
    if !idxOk fn i ∨ !ringOk log base then s.cmdDone fn St.badDescriptor
    else if (mget f.cqs i).isSome then s.cmdDone fn St.invalidState
    else (s.setFunc fn { f with cqs := mset f.cqs i { log := log, vector := bits (wordAt ws 1) 16 11, base := base } }).cmdDone
      fn St.success

/-- A queue pair of a function names a completion queue (R46). -/
def State.cqUsed (s : State) (fn c : Nat) : Bool :=
  s.tp.qps.any fun p => p.2.fn == fn && (p.2.sendCq == c || (p.2.rqLog != 0 && p.2.recvCq == c))

/-- DESTROY_CQ (R46). -/
def execDestroyCq (fn : Nat) (s : State) : Host.Outcome State Fault Refusal := s.clocked <|
  s.runCmd fn 0x04 fun ws =>
    let f := s.func fn
    let i := cmdObject ws
    if !idxOk fn i then s.cmdDone fn St.badDescriptor
    else if (mget f.cqs i).isNone ∨ s.cqUsed fn i then s.cmdDone fn St.invalidState
    else (s.setFunc fn { f with cqs := mdel f.cqs i }).cmdDone fn St.success

/-- CREATE_EQ (R46, R493). -/
def execCreateEq (fn : Nat) (s : State) : Host.Outcome State Fault Refusal := s.clocked <|
  s.runCmd fn 0x05 fun ws =>
    let f := s.func fn
    let log := bits (wordAt ws 1) 0 8
    let base := (wordAt ws 2).toNat
    if cmdObject ws ≠ 0 ∨ !ringOk log base then s.cmdDone fn St.badDescriptor
    else if f.eq.isSome then s.cmdDone fn St.invalidState
    else (s.setFunc fn { f with eq := some { log := log, vector := bits (wordAt ws 1) 16 11, base := base } }).cmdDone
      fn St.success

/-! ### Queue pairs (R46, R60 to R65) -/

/-- The fields of CREATE_QP are in range for a function and its minor version (R44, R46). -/
def createQpOk (fn minor : Nat) (ws : List Word) : Bool :=
  let w1 := wordAt ws 1
  let sq := bits w1 24 8
  let rq := bits w1 32 8
  idxOk fn (cmdObject ws) && !(bit w1 16 && minor == 0) && (bits w1 18 2 == 1 || bits w1 18 2 == 2)
    && decide (6 ≤ sq ∧ sq ≤ 16) && (rq == 0 || decide (6 ≤ rq ∧ rq ≤ 16))
    && (wordAt ws 2).toNat % 4096 == 0 && (rq == 0 || (wordAt ws 3).toNat % 4096 == 0) && (wordAt ws 4).toNat % 16 == 0
    && idxOk fn (bits (wordAt ws 5) 0 21) && (rq == 0 || idxOk fn (bits (wordAt ws 5) 32 21))

/-- The queue pair that CREATE_QP makes (R46, R293). -/
def newQp (fn qpn : Nat) (ws : List Word) : Qp :=
  let w1 := wordAt ws 1
  { fn := fn, idx := cmdObject ws, qpn := qpn, shared := bit w1 16, version := bits w1 18 2, tc := bits w1 20 3,
    pd := bits w1 0 16, sqLog := bits w1 24 8, rqLog := bits w1 32 8, sqBase := (wordAt ws 2).toNat,
    rqBase := (wordAt ws 3).toNat, record := (wordAt ws 4).toNat, sendCq := bits (wordAt ws 5) 0 21,
    recvCq := bits (wordAt ws 5) 32 21 }

/-- CREATE_QP (R46, R62): the device issues the QPN `qpn`, which no queue pair holds. -/
def execCreateQp (fn : Nat) (qpn : Nat) (s : State) : Host.Outcome State Fault Refusal := s.clocked <|
  if 2 ^ 24 ≤ qpn ∨ (s.qp qpn).isSome then ok s
  else s.runCmd fn 0x06 fun ws =>
    let f := s.func fn
    let q := newQp fn qpn ws
    if !createQpOk fn f.minor ws then s.cmdDone fn St.badDescriptor
    else if (mget f.qps q.idx).isSome ∨ (mget f.pds q.pd).isNone ∨ (mget f.cqs q.sendCq).isNone
        ∨ (q.rqLog ≠ 0 ∧ (mget f.cqs q.recvCq).isNone) then s.cmdDone fn St.invalidState
    else if s.poolSize ≤ s.poolUsed then s.cmdDone fn St.resourceExhausted
    else
      let s := (s.setFunc fn { f with qps := mset f.qps q.idx qpn }).setQp qpn q
      ((s.touch qpn).ctxShown).cmdDone fn St.success qpn

/-- Run a command that names a queue pair. -/
def State.runQpCmd (s : State) (fn cmd : Nat) (f : List Word → Nat → Qp → State) : Host.Outcome State Fault Refusal :=
  s.runCmd fn cmd fun ws =>
    if !idxOk fn (cmdObject ws) then s.cmdDone fn St.badDescriptor
    else match (s.qpnOf fn (cmdObject ws)).bind fun n => (s.qp n).map fun q => (n, q) with
      | some (n, q) => f ws n q
      | none => s.cmdDone fn St.invalidState

/-- Run a MODIFY_QP with a TARGET_STATE. -/
def State.runModify (s : State) (fn target : Nat) (f : List Word → Nat → Qp → State) : Host.Outcome State Fault Refusal :=
  match s.cmdOf fn 0x07 with
  | some ws => if bits (wordAt ws 1) 0 3 = target then s.runQpCmd fn 0x07 f else ok s
  | none => ok s

/-- MODIFY_QP to INIT (R63). -/
def execModifyQpInit (fn : Nat) (s : State) : Host.Outcome State Fault Refusal := s.clocked <|
  s.runModify fn 1 fun _ n q =>
    if q.st = .reset then (s.setQp n { q with st := .init }).cmdDone fn St.success else s.cmdDone fn St.invalidState

/-- MODIFY_QP to READY (R60, R61, R63, R192, R193). -/
def execModifyQpReady (fn : Nat) (s : State) : Host.Outcome State Fault Refusal := s.clocked <|
  s.runModify fn 2 fun ws n q =>
    let eid := bits (wordAt ws 2) 0 20
    if q.st = .reset ∨ q.st = .error then s.cmdDone fn St.invalidState
    else if (s.ownEid fn).isNone then s.cmdDone fn St.invalidState 2
    else if q.st = .init ∧ !q.shared ∧ (s.eidLookup eid).isNone then s.cmdDone fn St.invalidState 1
    else
      let q := if q.st = .init ∧ !q.shared then
          let peer := bits (wordAt ws 2) 32 24
          { q with peerEid := eid, peerQpn := peer,
                   conns := [(connKey eid peer, { peerEid := eid, peerQpn := peer, nextPsn := bits (wordAt ws 3) 0 24,
                                                  epsn := bits (wordAt ws 3) 32 24 })] }
        else q
      (s.setQp n { q with st := .ready, pausedSent := false }).cmdDone fn St.success

/-- MODIFY_QP to PAUSED (R63). -/
def execModifyQpPaused (fn : Nat) (s : State) : Host.Outcome State Fault Refusal := s.clocked <|
  s.runModify fn 3 fun _ n q =>
    if q.st = .paused then s.cmdDone fn St.success
    else if q.st = .ready then ((s.setQp n { q with st := .paused, pausedSent := false }).drainSq n).cmdDone fn St.success
    else s.cmdDone fn St.invalidState

/-- MODIFY_QP to ERROR (R63, R64). -/
def execModifyQpError (fn : Nat) (s : State) : Host.Outcome State Fault Refusal := s.clocked <|
  s.runModify fn 4 fun _ n q =>
    if q.st = .reset then s.cmdDone fn St.invalidState
    else (s.enterError n St.flushed).cmdDone fn St.success

/-- Stop the handler of a queue pair between two instructions (R349): its thread becomes idle and its accesses' key
references end. With `call`, a COPY in progress runs to its end first, for the queue pair of that number. -/
def State.stopHandler (s : State) (n : Nat) (call : Option Nat) : State :=
  s.fg.threads.foldl (fun s p =>
    match p.2.run, p.2.wait, call with
    | some r, .copy _ _ _ _, some m => if r.qpn = n then s.setThread p.1 { p.2 with run := some { r with qpn := m, stop := true } } else s
    | some r, _, _ =>
      if r.qpn = n then
        let s := p.2.pend.foldl (fun s a => match a.key with | some k => s.dropRef k | none => s) s
        (s.setThread p.1 { nextAcc := p.2.nextAcc }).modQp n ({ · with handlerRun := none })
      else s
    | none, _, _ => s) s

/-- Every descriptor of a queue pair that is not done completes FLUSHED, whatever its state (R63, R112). -/
def flushAll (d : Desc) : Desc :=
  if d.st = .done then d
  else { d with st := .done, status := St.flushed, remote := false, detail := 0, localRef := false, outRef := false }

/-- A queue-pair reset begins (R63, R349): traffic stops, the handler stops, posted and outstanding descriptors flush. -/
def State.beginReset (s : State) (n : Nat) : State :=
  match s.qp n with
  | none => s
  | some q =>
    let s := (s.stopTraffic n q).stopHandler n (some n)
    match s.qp n with
    | none => s
    | some q =>
      let gone := q.sq.filter (·.st != .done)
      let s := (s.setQp n { q with st := .error, resetting := true, sq := q.sq.map flushAll }).flushRefs gone
      let s := s.dropPlacements n fun _ => false
      let s := (gone.filter fun d => d.collective && d.outstanding).foldl (fun s d => s.drive (.abort d.gid 5)) s
      (s.drainSq n).flushRq n

/-- Descriptors that a doorbell made visible are still to be read. -/
def Qp.unread (q : Qp) : Bool := !q.readDead && (q.sqProd != q.sqRead || q.rqProd != q.rqRead)

/-- A queue pair in RESET: what CREATE_QP gave it, no peer, counts zero, the shaper of R293. -/
def Qp.cleared (q : Qp) : Qp :=
  { fn := q.fn, idx := q.idx, qpn := q.qpn, st := .reset, shared := q.shared, version := q.version, tc := q.tc, pd := q.pd,
    sqLog := q.sqLog, rqLog := q.rqLog, sqBase := q.sqBase, rqBase := q.rqBase, record := q.record, sendCq := q.sendCq,
    recvCq := q.recvCq, nextId := q.nextId, onDie := q.onDie }

/-- MODIFY_QP to RESET (R63): the reset begins at once and ends, with the command, when every visible descriptor has been
read and its handler has stopped; until then the command is given again. Like any reset it voids the nonce of a debug challenge
(R448). -/
def execModifyQpReset (fn : Nat) (s : State) : Host.Outcome State Fault Refusal := s.clocked <|
  s.runModify fn 0 fun _ n q =>
    if q.st = .reset then s.cmdDone fn St.success
    else
      let s := if q.resetting then s else s.beginReset n
      match s.qp n with
      | some q =>
        if q.unread ∨ q.handlerRun.isSome then s
        else ((({ s with bt := { s.bt with nonce := none } }.setQp n q.cleared).dropResults n none).matchShown fn).cmdDone fn St.success
      | none => s

/-- Accesses under way of a queue pair that goes: they run to their end, their references with them, and touch no later queue
pair of its number (R109). No queue pair has the number 2^24. -/
def State.orphanQp (s : State) (n : Nat) : State :=
  let read (u : ReadFor) : ReadFor :=
    match u with
    | .source q d o k => if q = n then .source (2 ^ 24) d o k else u
    | .resend q c p k => if q = n then .resend (2 ^ 24) c p k else u
    | .getResp q c p k a => if q = n then .getResp (2 ^ 24) c p k a else u
    | .swarm _ _ => u
  let place (u : PlaceFor) : PlaceFor :=
    match u with
    | .put q c p b => if q = n then .put (2 ^ 24) c p b else u
    | .get q c p d => if q = n then .get (2 ^ 24) c p d else u
    | .fetch q c p r => if q = n then .fetch (2 ^ 24) c p r else u
    | .eager q c p r b => if q = n then .eager (2 ^ 24) c p r b else u
    | .copy q r u' => if q = n then .copy (2 ^ 24) r u' else u
    | .swarm _ _ => u
  let s := s.forgetAccesses fun w => w.qpn == some n
  { s with tp := { s.tp with
      reads := s.tp.reads.map fun (p : Nat × HostRead) => (p.1, { p.2 with use := read p.2.use })
      placements := s.tp.placements.map fun (p : Nat × Placement) => (p.1, { p.2 with use := place p.2.use })
      atomics := s.tp.atomics.map fun (p : Nat × AtomicOp) => if p.2.qpn = n then (p.1, { p.2 with qpn := 2 ^ 24 }) else p } }

/-- A queue pair is destroyed: everything that the device holds for it goes. -/
def State.removeQp (s : State) (n : Nat) : State :=
  match s.qp n with
  | none => s
  | some q =>
    let s := (s.stopTraffic n q).stopHandler n (some (2 ^ 24))
    let s := (s.dropUnbinds n).flushRefs (q.sq.filter fun d => d.st != .done)
    let s := q.rq.foldl (fun s r => if r.ref then s.dropRef (keyIndex r.lkey) else s) s
    let s := (s.dropPlacements n fun _ => false).orphanQp n
    let f := s.func q.fn
    let s := s.setFunc q.fn { f with qps := mdel f.qps q.idx }
    let s := { s with
      tp := { s.tp with qps := mdel s.tp.qps n, lru := s.tp.lru.filter (· != n) }
      mt := { s.mt with posted := s.mt.posted.filter (·.qpn != n), unexp := s.mt.unexp.filter (·.qpn != n) } }
    (s.matchShown q.fn).dropResults n none

/-- DESTROY_QP (R63). -/
def execDestroyQp (fn : Nat) (s : State) : Host.Outcome State Fault Refusal := s.clocked <|
  s.runQpCmd fn 0x08 fun _ n q =>
    if q.st = .reset ∨ q.st = .error then (s.removeQp n).cmdDone fn St.success else s.cmdDone fn St.invalidState

/-- The number of a state (R63). -/
def QpState.code (q : QpState) : Nat :=
  match q with
  | .reset => 0
  | .init => 1
  | .ready => 2
  | .paused => 3
  | .error => 4

/-- QUERY_QP (R46). -/
def execQueryQp (fn : Nat) (s : State) : Host.Outcome State Fault Refusal := s.clocked <|
  s.runQpCmd fn 0x09 fun _ _ q =>
    let psn := if q.shared then 0 else match q.conns with | (_, c) :: _ => c.nextPsn | [] => 0
    s.cmdDone fn St.success (q.st.code + 256 * psn)

/-! ### Regions and windows (R87 to R89) -/

/-- The function's key quota is used up (R88). -/
def State.quotaFull (s : State) (fn : Nat) : Bool := decide (s.rd Reg.KEY_QUOTA_LIMIT fn ≤ s.rd Reg.KEY_QUOTA_USED fn)

/-- REG_MR (R87, R88, R106). Where several failures apply at once, the order is BAD_DESCRIPTOR, INVALID_STATE, CONFLICT,
RESOURCE_EXHAUSTED (log entry 56). -/
def execRegMr (fn : Nat) (s : State) : Host.Outcome State Fault Refusal := s.clocked <|
  s.runCmd fn 0x0A fun ws =>
    let pd := bits (wordAt ws 1) 0 16
    let rights := bits (wordAt ws 1) 16 8
    let store := bit (wordAt ws 1) 24
    let len := (wordAt ws 3).toNat
    let a := (wordAt ws 4).toNat
    if cmdObject ws ≠ 0 ∨ 31 < rights ∨ len = 0 ∨ 2 ^ 48 < len then s.cmdDone fn St.badDescriptor
    else if (mget (s.func fn).pds pd).isNone then s.cmdDone fn St.invalidState
    else if store && !s.inUse 6 a len then s.cmdDone fn St.conflict
    else if s.quotaFull fn then s.cmdDone fn St.resourceExhausted
    else match s.freeIndex with
      | none => s.cmdDone fn St.resourceExhausted
      | some i =>
        let s := s.newKey i { kind := 1, rights := rights, store := store, pd := pd, fn := fn, base := (wordAt ws 2).toNat,
                              length := len, storeAddr := if store then a else 0 }
        s.cmdDone fn St.success (s.keyOf i)

/-- The first cases of R89 on the key of DEREG_MR or FREE_WINDOW: the status that ends the command. -/
def State.keyCase (s : State) (fn k kind : Nat) : Option Nat :=
  let i := keyIndex k
  let e := s.key i
  if i = 0 ∨ s.keyLimit < i then some St.badDescriptor
  else if e.kind = 0 then some St.success
  else if e.fn ≠ fn then some St.invalidState
  else if e.generation ≠ keyGen k then some St.success
  else if e.kind ≠ kind then some St.invalidState
  else none

/-- A region has a bound window (R89). -/
def State.hasBound (s : State) (i : Nat) : Bool := s.km.entries.any fun p => p.2.kind == 2 && p.2.bound && p.2.parent == i

/-- The command of a function waits for the drain of a key. -/
def State.waitForKey (s : State) (fn i : Nat) : State :=
  let f := s.func fn
  s.setFunc fn { f with cmd := f.cmd.map fun c => { c with waitKey := some i } }

/-- DEREG_MR (R89, R110): the generation rises at once; a resubmission while the drain lasts raises it no further. -/
def execDeregMr (fn : Nat) (s : State) : Host.Outcome State Fault Refusal := s.clocked <|
  s.runCmd fn 0x0B fun ws =>
    let k := bits (wordAt ws 1) 0 32
    let i := keyIndex k
    if cmdObject ws ≠ 0 then s.cmdDone fn St.badDescriptor
    else match s.keyCase fn k 1 with
      | some st => s.cmdDone fn st
      | none =>
        if s.hasBound i then s.cmdDone fn St.invalidState
        else
          let s := if (s.key i).draining ∨ (s.key i).revoked then s else s.revoke i
          let s := s.setKey i { s.key i with revoked := true }
          if (s.key i).inUse = 0 then (s.freeKey i).cmdDone fn St.success else s.waitForKey fn i

/-- ALLOC_WINDOW (R87, R88). -/
def execAllocWindow (fn : Nat) (s : State) : Host.Outcome State Fault Refusal := s.clocked <|
  s.runCmd fn 0x0C fun ws =>
    let pd := bits (wordAt ws 1) 0 16
    if cmdObject ws ≠ 0 then s.cmdDone fn St.badDescriptor
    else if (mget (s.func fn).pds pd).isNone then s.cmdDone fn St.invalidState
    else if s.quotaFull fn then s.cmdDone fn St.resourceExhausted
    else match s.freeIndex with
      | none => s.cmdDone fn St.resourceExhausted
      | some i =>
        let s := s.newKey i { kind := 2, pd := pd, fn := fn }
        s.cmdDone fn St.success (s.keyOf i)

/-- FREE_WINDOW (R89). -/
def execFreeWindow (fn : Nat) (s : State) : Host.Outcome State Fault Refusal := s.clocked <|
  s.runCmd fn 0x0D fun ws =>
    let k := bits (wordAt ws 1) 0 32
    let i := keyIndex k
    if cmdObject ws ≠ 0 then s.cmdDone fn St.badDescriptor
    else match s.keyCase fn k 2 with
      | some st => s.cmdDone fn st
      | none =>
        let e := s.key i
        if e.bound ∨ e.draining then s.cmdDone fn St.invalidState
        else ((s.setKey i { e with generation := nextGen e.generation }).freeKey i).cmdDone fn St.success

/-! ### Handlers (R145, R350 to R352) -/

/-- The code words of an image. -/
def codeWords : Nat → List Byte → List (BitVec 32)
  | 0, _ => []
  | n + 1, l => BitVec.ofNat 32 (ofLE (l.take 4)) :: codeWords n (l.drop 4)

/-- CODE_LENGTH, RODATA_LENGTH, ENTRY and SIG_LENGTH of an image (R350). -/
def imageLens (b : List Byte) : Nat × Nat × Nat × Nat :=
  let w := toWords 8 b
  (bits (wordAt w 1) 0 32, bits (wordAt w 1) 32 32, bits (wordAt w 2) 0 32, bits (wordAt w 2) 32 16)

/-- Check 1 of R351 for a kind: the header of R350. -/
def imageHeader (kind len : Nat) (b : List Byte) : Bool :=
  let w := toWords 8 b
  let (code, ro, entry, sig) := imageLens b
  bits (wordAt w 0) 0 32 == 0x43485253 && bits (wordAt w 0) 32 8 == 1 && bits (wordAt w 0) 40 4 == kind
    && bits (wordAt w 0) 44 8 == 1 && bits (wordAt w 0) 52 12 == 0 && bits (wordAt w 2) 48 16 == 0
    && ((List.range 5).all fun i => wordAt w (3 + i) == 0)
    && code % 4 == 0 && decide (4 ≤ code ∧ code ≤ 131072) && decide (ro ≤ 131072) && entry % 4 == 0 && decide (entry < code)
    && (sig == 0 || sig == 200) && 64 + code + ro + sig == len && len == b.length

/-- The site key hash of FGR_SITE_KEY_HASH_i as bytes (R351). -/
def State.siteHash (s : State) : List Byte := (List.range 6).flatMap fun i => leBytes 8 (s.rd Reg.FGR_SITE_KEY_HASH_HASH i)

/-- The signature section of an image verifies: the digest of its key, and the signature over everything before it
(R350). -/
def imageSigned (hash b : List Byte) : Bool :=
  let sec := b.drop (b.length - 200)
  let key := sec.take 97
  sha384 key == hash && (sec.drop 97).take 7 == List.replicate 7 0 && ecdsaVerify key (sec.drop 104) (b.take (b.length - 200))

/-- The number of the first check of R351 that an image fails. -/
def State.imageFault (s : State) (len : Nat) (b : List Byte) : Option Nat :=
  let (code, _, _, sig) := imageLens b
  if !imageHeader 2 len b then some 1
  else
    let is := (codeWords (code / 4) (b.drop 64)).map (decodeWord 0)
    if !is.all (fun i => i.any handlerAllows) then some 2
    else if !(is.zipIdx.all fun x => match x.1.bind fun i => branchTarget i (4 * x.2) with
        | some t => inCode code t
        | none => true) then some 3
    else if sig = 200 ∧ !imageSigned s.siteHash b then some 4
    else if s.on Reg.FGR_HANDLER_POLICY_REQUIRE_SIGNED ∧ sig ≠ 200 then some 5
    else none

/-- The key of a handler in `mt.handlers`. -/
def handlerKey (fn i : Nat) : Nat := 1024 * fn + i

/-- REG_HANDLER (R145, R351, R352): the index is one of those free, a free value (log entry 2). -/
def execRegHandler (fn : Nat) (image : HostRes) (s : State) : Host.Outcome State Fault Refusal := s.clocked <|
  s.runCmd fn 0x0E fun ws =>
    let pd := bits (wordAt ws 1) 0 16
    let len := bits (wordAt ws 3) 0 32
    let f := s.func fn
    if cmdObject ws ≠ 0 ∨ len < 64 ∨ 262144 < len then s.cmdDone fn St.badDescriptor
    else if (mget f.pds pd).isNone then s.cmdDone fn St.invalidState
    else if !s.scratch ∨ 1023 ≤ f.handlers.length ∨ 16384 ≤ s.mt.handlers.length then s.cmdDone fn St.resourceExhausted
    else match s.translate (.command fn) fn (wordAt ws 2).toNat len accRead with
      | (s, .wait) => s
      | (s, .fault st d) => s.cmdDone fn st d
      | (s, .ok ps _ _) =>
        let s := ps.foldl (fun s p => s.emit (.hostRead (fn / 256) p.1 p.2 s.tp.nextId)) s.newId
        let s := s.linkLogs (fn / 256) image
        match image with
        | .error => s.cmdDone fn St.remoteOpError 14
        | .poisoned => s.cmdDone fn St.remoteOpError 14
        | .timeout => s.cmdDone fn St.remoteOpError 13
        | .data b =>
          match s.imageFault len b with
          | some c => s.cmdDone fn St.badDescriptor c
          | none =>
            let (code, ro, entry, _) := imageLens b
            let open0 := ((List.range 1024).drop 1).filter fun i => !f.handlers.contains i
            let i := open0.getD (s.freeVal % open0.length) 1
            let h : Handler := {
              fn := fn, pd := pd, code := codeWords (code / 4) (b.drop 64), rodata := (b.drop (64 + code)).take ro, entry := entry,
              keys := [bits (wordAt ws 4) 0 32, bits (wordAt ws 4) 32 32, bits (wordAt ws 5) 0 32, bits (wordAt ws 5) 32 32] }
            let s := s.takeFree.setFunc fn { s.func fn with handlers := i :: f.handlers }
            ({ s with mt := { s.mt with handlers := mset s.mt.handlers (handlerKey fn i) h } }).cmdDone fn St.success i

/-- A posted receive or a running handler uses an index (R145). -/
def State.handlerUsed (s : State) (fn i : Nat) : Bool :=
  (s.tp.qps.any fun p => p.2.fn == fn && p.2.rq.any fun r => r.handler == i && r.st != .done)
    || s.fg.threads.any fun p => p.2.run.any fun r => r.fn == fn && r.handler == i

/-- DEREG_HANDLER (R145, R352). -/
def execDeregHandler (fn : Nat) (s : State) : Host.Outcome State Fault Refusal := s.clocked <|
  s.runCmd fn 0x0F fun ws =>
    let i := cmdObject ws
    let f := s.func fn
    if i = 0 ∨ 1023 < i then s.cmdDone fn St.badDescriptor
    else if !f.handlers.contains i ∨ s.handlerUsed fn i then s.cmdDone fn St.invalidState
    else
      let s := s.setFunc fn { f with handlers := f.handlers.filter (· != i) }
      ({ s with mt := { s.mt with handlers := mdel s.mt.handlers (handlerKey fn i) } }).cmdDone fn St.success

/-! ### Shapers and policers (R293, R296) -/

/-- SET_SHAPER (R293). -/
def execSetShaper (fn : Nat) (s : State) : Host.Outcome State Fault Refusal := s.clocked <|
  s.runQpCmd fn 0x10 fun ws n q =>
    let rate := bits (wordAt ws 1) 0 20
    let pre := bits (wordAt ws 1) 20 2
    let burst := bits (wordAt ws 2) 0 24
    if 1000000 < rate ∨ pre = 3 ∨ burst < 4160 then s.cmdDone fn St.badDescriptor
    else if q.st = .reset then s.cmdDone fn St.invalidState
    else
      let b := q.shaper.refill s.time
      let b := { b with rate := rate, burst := burst, tokens := min b.tokens burst }
      (s.setQp n { q with shaper := b, precolour := pre }).cmdDone fn St.success

/-- A bucket with a new rate and burst: its level, filled so far at the old rate, is kept and clamped, or it is full (R296). -/
def Bucket.reset (b : Bucket) (rate burst now : Nat) (fill : Bool) : Bucket :=
  if fill then { rate := rate, burst := burst, tokens := burst, rem := 0, last := now }
  else { b.refill now with rate := rate, burst := burst, tokens := min (b.refill now).tokens burst }

/-- SET_POLICER (R294, R296). -/
def execSetPolicer (fn : Nat) (s : State) : Host.Outcome State Fault Refusal := s.clocked <|
  s.runCmd fn 0x11 fun ws =>
    let pd := cmdObject ws % 65536
    let target := fn + cmdObject ws / 65536
    let w := wordAt ws 1
    let cir := bits w 0 20
    let pir := bits w 20 20
    let cbs := bits (wordAt ws 2) 0 32
    let pbs := bits (wordAt ws 2) 32 32
    if cir = 0 ∨ 1000000 < cir ∨ pir < cir ∨ 1000000 < pir ∨ cbs < 4160 ∨ pbs < 4160 then s.cmdDone fn St.badDescriptor
    else if fn % 256 ≠ 0 then s.cmdDone fn St.invalidState
    else match mget (s.func target).pds pd with
      | none => s.cmdDone fn St.invalidState
      | some p =>
        let fill := bit w 40 && !p.enable
        let p : Policer := { enable := bit w 40, aware := bit w 41, mark := bit w 42,
                             tc := p.tc.reset cir cbs s.time fill, tp := p.tp.reset pir pbs s.time fill }
        let f := s.func target
        (s.setFunc target { f with pds := mset f.pds pd p }).cmdDone fn St.success

/-! ### Invalidation (R398, R399) -/

/-- Begin an invalidation: remove the entries of the scope, and complete or wait for the accesses that hold them. -/
def State.invalidate (s : State) (fn ctx va n : Nat) (whole : Bool) : State :=
  let w := s.holders ctx va n
  let s := s.awaitHolders ctx va n
  let s := if whole then s.discardContext ctx else s.discardRange ctx va n
  if s.drained w then s.cmdDone fn St.success
  else
    let f := s.func fn
    s.setFunc fn { f with cmd := f.cmd.map fun c => { c with waitInv := some w } }

/-- The context that OBJECT of INV_XLT names; none where a virtual function names another (R398). -/
def invContext (fn obj : Nat) : Option Nat :=
  if fn % 256 = 0 then some (fn + obj / 65536) else if obj / 65536 = 0 then some fn else none

/-- INV_XLT with scope CONTEXT. -/
def execInvXltContext (fn : Nat) (s : State) : Host.Outcome State Fault Refusal := s.clocked <|
  match s.cmdOf fn 0x12 with
  | some ws =>
    if bit (wordAt ws 1) 0 then ok s
    else s.runCmd fn 0x12 fun ws =>
      if cmdObject ws % 65536 ≠ 0 then s.cmdDone fn St.badDescriptor
      else match invContext fn (cmdObject ws) with
        | some c => s.invalidate fn c 0 (2 ^ 57) true
        | none => s.cmdDone fn St.invalidState
  | none => ok s

/-- INV_XLT with scope RANGE. -/
def execInvXltRange (fn : Nat) (s : State) : Host.Outcome State Fault Refusal := s.clocked <|
  match s.cmdOf fn 0x12 with
  | some ws =>
    if !bit (wordAt ws 1) 0 then ok s
    else s.runCmd fn 0x12 fun ws =>
      let va := bits (wordAt ws 2) 0 57
      let n := bits (wordAt ws 3) 0 58
      if cmdObject ws % 65536 ≠ 0 ∨ n = 0 ∨ 2 ^ 57 < n ∨ 2 ^ 57 < va + n then s.cmdDone fn St.badDescriptor
      else match invContext fn (cmdObject ws) with
        | some c => s.invalidate fn c va n false
        | none => s.cmdDone fn St.invalidState
  | none => ok s

/-- R399: the last access that the invalidation waits for has ended. -/
def execXltInvalidationDrain (fn : Nat) (s : State) : Host.Outcome State Fault Refusal := s.clocked <|
  match (s.func fn).cmd.bind (·.waitInv) with
  | some w => if s.drained w then ok (s.cmdDone fn St.success) else ok s
  | none => ok s

/-- R46, R89, R399: the 1 ms of a command that still waits has passed: for its block, for a drain, for an invalidation, for
a handler's image or for the descriptors of a reset. A reset whose visible descriptors are not read in that time completes
with INVALID_STATE, and the command may be submitted again (log entry 44). -/
def execCommandTimeExpiry (fn : Nat) (s : State) : Host.Outcome State Fault Refusal := s.clocked <|
  match (s.func fn).cmd with
  | some c =>
    if !c.read then ok (s.cmdDone fn St.remoteOpError 13)
    else if c.waitKey.isSome ∨ c.waitInv.isSome then ok (s.cmdDone fn St.invalidState 1)
    else if cmdCode c.words = 0x0E then ok ((s.forgetAccesses (· == .command fn)).cmdDone fn St.remoteOpError 13)
    else if cmdCode c.words = 0x07 ∧ ((s.qpnOf fn (cmdObject c.words)).bind s.qp).any (·.resetting) then
      ok (s.cmdDone fn St.invalidState)
    else ok s
  | none => ok s

end Sys2Proof.Machine
end

