-- ==== Sys2Proof/Machine/Requester.lean ====
section
/-! DEFINITION. Doorbells, descriptor reads, the start of send descriptors, packet building and the requester's timers
(R47 to R54, R61, R62, R69, R70, R73, R76, R91, R134, R135, R140, R290, R493). -/

namespace Sys2Proof.Machine

/-! ### Doorbells (R42, R47, R48, R57, R58, R493) -/

/-- A doorbell is ignored and counted. -/
def State.doorbellIgnored (s : State) (fn : Nat) : State := s.tally Reg.TPT_VIOLATION_DOORBELL_IGNORED 0x1C2 0 (some (fn, 0))

/-- What R48 does with a new PRODUCER. -/
inductive Ring where
  | ignored
  | visible (prod : Nat)
  | overrun
  deriving DecidableEq, Repr

/-- Judge a PRODUCER against the last accepted one, the descriptors read, and the ring size (R48). -/
def judgeProducer (prod read size v : Nat) : Ring :=
  let d := (v + 2 ^ 32 - prod % 2 ^ 32) % 2 ^ 32
  if d = 0 ∨ 2 ^ 31 ≤ d then .ignored
  else if d ≤ size ∧ prod + d - read ≤ size then .visible (prod + d)
  else .overrun

/-- The queue pair that a doorbell reaches: it exists, its state takes doorbells, and the write has 8 bytes. -/
def State.doorbellQp (s : State) (fn q size : Nat) : Option (Nat × Qp) :=
  if size ≠ 8 ∨ (s.func fn).major = 0 then none
  else match (s.qpnOf fn q).bind fun n => (s.qp n).map fun x => (n, x) with
    | some (n, x) => if x.st = .reset ∨ x.resetting then none else some (n, x)
    | none => none

/-- R48, R63: a send doorbell of local queue pair `q`. An overrun makes the queue pair enter ERROR; the spec gives its detail
DOORBELL_OVERRUN no number and no place, so nothing carries it (log entry 44). -/
def State.sendBell (s : State) (fn q size : Nat) (v : Word) : Host.Outcome State Fault Refusal :=
  match s.doorbellQp fn q size with
  | none => ok (s.doorbellIgnored fn)
  | some (n, x) =>
    match judgeProducer x.sqProd x.sqRead (2 ^ x.sqLog) (bits v 0 32) with
    | .ignored => ok s
    | .visible p => ok (s.setQp n { x with sqProd := p })
    | .overrun => ok (settle (s.enterError n St.badDescriptor))

/-- R124: with the posting capacity reached, each queue pair with unread receives writes one POSTED_FULL event for the
stretch. -/
def State.postedFullEvents (s : State) : State :=
  s.tp.qps.foldl (fun s p =>
    match s.qp p.1 with
    | some q =>
      if q.rqProd ≠ q.rqRead ∧ !q.postedFull ∧ (q.st = .init ∨ q.st = .ready ∨ q.st = .paused) then
        (s.setQp p.1 { q with postedFull := true }).qevent q.fn 16 St.resourceExhausted q.idx
      else s
    | none => s) s

/-- Reading of receives goes on: a later stretch of waiting writes its event again (R124). -/
def State.postingOpens (s : State) : State :=
  { s with tp := { s.tp with qps := s.tp.qps.map fun (p : Nat × Qp) => (p.1, { p.2 with postedFull := false }) } }

/-- R48, R54: a receive doorbell of local queue pair `q`. -/
def State.recvBell (s : State) (fn q size : Nat) (v : Word) : Host.Outcome State Fault Refusal :=
  match s.doorbellQp fn q size with
  | none => ok (s.doorbellIgnored fn)
  | some (n, x) =>
    if x.rqLog = 0 then ok (s.doorbellIgnored fn)
    else match judgeProducer x.rqProd x.rqRead (2 ^ x.rqLog) (bits v 0 32) with
      | .ignored => ok s
      | .visible p =>
        let s := s.setQp n { x with rqProd := p }
        ok (settle (if s.postingHeld then s.postedFullEvents else s))
      | .overrun => ok (settle (s.enterError n St.badDescriptor))

/-- R57, R58: a completion-queue doorbell. -/
def State.cqBell (s : State) (fn c size : Nat) (v : Word) : Host.Outcome State Fault Refusal :=
  let f := s.func fn
  match mget f.cqs c with
  | none => ok (s.doorbellIgnored fn)
  | some q =>
    if size ≠ 8 ∨ f.major = 0 then ok (s.doorbellIgnored fn)
    else
      let q := { q with consumed := bits v 0 32, armed := q.armed || bit v 32 }
      let now := bit v 32 && ringUsed q.produced q.consumed != 0
      let s := s.setFunc fn { f with cqs := mset f.cqs c { q with armed := q.armed && !now } }
      ok (if now then (s.msix fn q.vector).1 else s)

/-- R493: the event-queue doorbell. -/
def State.eqBell (s : State) (fn size : Nat) (v : Word) : Host.Outcome State Fault Refusal :=
  let f := s.func fn
  match f.eq with
  | none => ok (s.doorbellIgnored fn)
  | some q =>
    if size ≠ 8 ∨ f.major = 0 then ok (s.doorbellIgnored fn)
    else ok (s.setFunc fn { f with eq := some { q with consumed := bits v 0 32 } })

/-- The doorbells of a function's BAR2 (R47). -/
inductive Doorbell where
  | send (q : Nat)
  | recv (q : Nat)
  | cq (c : Nat)
  | eq
  deriving DecidableEq, Repr

/-- Where the completion-queue doorbells start, how many there are, and where the event-queue doorbell is (R47). -/
def bar2Layout (fn : Nat) : Nat × Nat × Nat :=
  if fn % 256 = 0 then (0x2000000, 2 ^ 21, 0x3800000) else (0x80000, 2 ^ 15, 0xFF000)

/-- The BAR2 offset of a doorbell (R47). -/
def Doorbell.offset (fn : Nat) : Doorbell → Nat
  | .send q => 16 * q
  | .recv q => 16 * q + 8
  | .cq c => (bar2Layout fn).1 + 8 * c
  | .eq => (bar2Layout fn).2.2

/-- The doorbell at an offset of a function's BAR2 (R47); none where there is none, or where the write is not aligned. -/
def doorbellAt (fn off : Nat) : Option Doorbell :=
  let (c0, n, e0) := bar2Layout fn
  if off % 8 ≠ 0 then none
  else if off < c0 then some (if off % 16 = 0 then .send (off / 16) else .recv (off / 16))
  else if off < c0 + 8 * n then some (.cq ((off - c0) / 8))
  else if off = e0 then some .eq
  else none

/-- R47, R48: a write of `size` bytes at an offset of a function's BAR2. -/
def State.bar2Write (s : State) (fn off size : Nat) (v : Word) : Host.Outcome State Fault Refusal :=
  match doorbellAt fn off with
  | some (.send q) => s.sendBell fn q size v
  | some (.recv q) => s.recvBell fn q size v
  | some (.cq c) => s.cqBell fn c size v
  | some .eq => s.eqBell fn size v
  | none => ok (s.doorbellIgnored fn)

/-- R47, R48, R63: a write at the send doorbell of local queue pair `q`. -/
def execSendDoorbell (fn : Nat) (q : Nat) (size : Nat) (v : Word) (s : State) : Host.Outcome State Fault Refusal := s.atPins <|
  s.bar2Write fn ((Doorbell.send q).offset fn) size v

/-- R47, R48, R54: a write at the receive doorbell of local queue pair `q`. -/
def execRecvDoorbell (fn : Nat) (q : Nat) (size : Nat) (v : Word) (s : State) : Host.Outcome State Fault Refusal := s.atPins <|
  s.bar2Write fn ((Doorbell.recv q).offset fn) size v

/-- R47, R57, R58: a write at a completion-queue doorbell. -/
def execCqDoorbell (fn : Nat) (c : Nat) (size : Nat) (v : Word) (s : State) : Host.Outcome State Fault Refusal := s.atPins <|
  s.bar2Write fn ((Doorbell.cq c).offset fn) size v

/-- R47, R493: a write at the event-queue doorbell. -/
def execEqDoorbell (fn : Nat) (size : Nat) (v : Word) (s : State) : Host.Outcome State Fault Refusal := s.atPins <|
  s.bar2Write fn (Doorbell.eq.offset fn) size v

/-! ### Descriptor reads (R44, R49 to R54, R115, R146, R155) -/

/-- No reserved bit of a send descriptor is 1 (R52, R115, R155). -/
def sendReservedOk (ws : List Word) : Bool :=
  let w i := wordAt ws i
  let op := bits (w 0) 0 8
  bits (w 0) 12 20 == 0 && bits (w 1) 57 7 == 0 && bits (w 2) 33 7 == 0 && bits (w 2) 60 4 == 0 && bits (w 3) 57 7 == 0
    && bits (w 4) 56 8 == 0 && !(op == 0x20 && bits (w 6) 24 40 != 0)
    && !(decide (0x40 ≤ op ∧ op ≤ 0x43) && (bits (w 5) 25 39 != 0 || bits (w 6) 20 44 != 0))

/-- DTYPE and ROP of a collective are legal, and ORDERED and ATOMIC32 are 0 (R157, R158 check 1). -/
def collectiveOk (ws : List Word) : Bool :=
  let op := bits (wordAt ws 0) 0 8
  let dt := bits (wordAt ws 5) 16 4
  let len := bits (wordAt ws 2) 0 33
  bits (wordAt ws 0) 10 2 == 0 && (op == 0x40 ||
    match elemBytes dt with
    | some e => len % e == 0 && (op == 0x43 || ropLegal dt (bits (wordAt ws 5) 20 4))
    | none => false)

/-- The lowest minor version and the lowest WT version that an opcode needs; none for a reserved opcode (R44, R51, R52). -/
def opcodeNeeds (op : Nat) : Option (Nat × Nat) :=
  if op = 0x00 ∨ op = 0x01 ∨ op = 0x03 ∨ op = 0x10 ∨ op = 0x11 ∨ op = 0x20 then some (0, 1)
  else if 0x12 ≤ op ∧ op ≤ 0x17 then some (0, 2)
  else if op = 0x30 ∨ op = 0x31 then some (2, 2)
  else if 0x40 ≤ op ∧ op ≤ 0x43 then some (0, 2)
  else none

/-- A send descriptor passes the checks of R44 and R52, R127 and R158 check 1. ATOMIC32 below minor 3 fails them also in a BIND or an
UNBIND (R44, R90; log entry 56). -/
def sendOk (q : Qp) (minor : Nat) (ws : List Word) : Bool :=
  let op := bits (wordAt ws 0) 0 8
  let len := bits (wordAt ws 2) 0 33
  let a32 := bit (wordAt ws 0) 11
  let raddr := bits (wordAt ws 3) 0 57
  let atomic : Bool := decide (0x10 ≤ op ∧ op ≤ 0x17)
  let high := bits (wordAt ws 6) 16 8
  match opcodeNeeds op with
  | none => false
  | some (m, v) =>
    decide (m ≤ minor) && decide (v ≤ q.version) && !(a32 && decide (minor < 3)) && sendReservedOk ws
      && (op == 0x31 || op == 0x40 || decide (len ≤ 2 ^ 32))
      && !(atomic && (len != (if a32 then 4 else 8) || raddr % len != 0))
      && !(op == 0x20 && (decide (2 ^ 40 < high * 2 ^ 32 + len) || (q.version == 1 && high != 0)))
      && !(decide (0x40 ≤ op ∧ op ≤ 0x43) && !collectiveOk ws)

/-- The descriptor that eight words spell. -/
def descOf (id : Nat) (ws : List Word) : Desc :=
  let w i := wordAt ws i
  { id := id, opcode := bits (w 0) 0 8, signal := bit (w 0) 8, fence := bit (w 0) 9, ordered := bit (w 0) 10,
    atomic32 := bit (w 0) 11, lkey := bits (w 0) 32 32, laddr := bits (w 1) 0 57, len := bits (w 2) 0 33,
    destEid := bits (w 2) 40 20, destQpn := bits (w 4) 32 24, raddr := bits (w 3) 0 57, rkey := bits (w 4) 0 32,
    op0 := w 5, op1 := w 6, userId := w 7 }

/-- Write a count of descriptors read to the consumer record (R49). -/
def State.postRecord (s : State) (n : Nat) (q : Qp) (recv : Bool) (count : Nat) : State :=
  let a := q.record + (if recv then 8 else 0)
  s.post { fn := q.fn, bytes := leBytes 8 count, use := .record n a, owner := q.owner }

/-- A read of a descriptor has failed: descriptors not read do not complete (R394, R492). -/
def State.readFails (s : State) (n status : Nat) : State := (s.modQp n ({ · with readDead := true })).enterError n status

/-- Translate the address of a descriptor and send its read: the state goes on with the data, or as the failure says. -/
def State.readDesc (s : State) (n : Nat) (q : Qp) (recv : Bool) (a : Nat) (r : HostRes) (take : State → List Word → State) : State :=
  match s.translate (.descriptor n recv) q.fn a 64 accRead with
  | (s, .wait) => s
  | (s, .fault st _) => s.readFails n st
  | (s, .ok ps _ _) =>
    let id := s.tp.nextId
    let s := ps.foldl (fun s p => s.emit (.hostRead (q.fn / 256) p.1 p.2 id)) s.newId
    match r with
    | .error => s.readFails n St.remoteOpError
    | .timeout => (s.linkLogs (q.fn / 256) r).readFails n St.remoteOpError
    | .poisoned => (s.linkLogs (q.fn / 256) r).readFails n St.remoteOpError
    | .data b => take ((s.count 0x1C1 (q.fn / 256) 64 q.owner).count 0x1CE 0 1 q.owner) (toWords 8 (slice b 0 64))

/-- R49, R52: the next send descriptor of a queue pair is read. In ERROR and during a reset it completes FLUSHED. -/
def execSendDescriptorRead (fn : Nat) (q : Nat) (r : HostRes) (s : State) : Host.Outcome State Fault Refusal := s.atPins <|
  match (s.qpnOf fn q).bind fun n => (s.qp n).map fun x => (n, x) with
  | none => ok s
  | some (n, x) =>
    if x.sqProd = x.sqRead ∨ x.readDead ∨ (x.st ≠ .ready ∧ x.st ≠ .error) ∨ !s.admits 6 then ok s
    else ok (settle (s.readDesc n x false (x.sqBase + 64 * (x.sqRead % 2 ^ x.sqLog)) r fun s ws =>
      let d := descOf x.nextId ws
      let add (s : State) (d : Desc) : State :=
        (s.modQp n fun x => { x with sqRead := x.sqRead + 1, nextId := x.nextId + 1, sq := x.sq ++ [d] }).postRecord n x false
          (x.sqRead + 1)
      if x.st = .error then (add s { d with st := .done, status := St.flushed }).drainSq n
      else if !sendOk x (s.func fn).minor ws then (add s d).failDesc n d.id St.badDescriptor
      else ((add s d).needPeer n d).peerWait n))

/-- A receive descriptor passes the checks of R52 and R54. -/
def recvOk (minor : Nat) (ws : List Word) : Bool :=
  let w i := wordAt ws i
  bits (w 0) 0 8 == 0x80 && bits (w 0) 10 6 == 0 && bits (w 1) 57 7 == 0 && bits (w 2) 33 7 == 0 && bits (w 2) 60 4 == 0
    && bits (w 4) 16 48 == 0 && w 5 == 0 && w 6 == 0 && decide (bits (w 2) 0 33 ≤ 2 ^ 32)
    && !(bits (w 4) 0 16 != 0 && decide (minor < 2))

/-- The receive that eight words spell. -/
def recvOf (id seq ring : Nat) (ws : List Word) : Recv :=
  let w i := wordAt ws i
  { id := id, ring := ring, anySource := bit (w 0) 8, anyTag := bit (w 0) 9, ctx := bits (w 0) 16 16, lkey := bits (w 0) 32 32,
    laddr := bits (w 1) 0 57, len := bits (w 2) 0 33, source := bits (w 2) 40 20, tag := w 3, handler := bits (w 4) 0 16,
    userId := w 7, seq := seq }

/-- The handler of a receive does not serve it (R146): status and detail. -/
def State.handlerFault (s : State) (q : Qp) (r : Recv) : Option (Nat × Nat) :=
  if r.handler = 0 then none
  else match mget s.mt.handlers (1024 * q.fn + r.handler) with
    | none => some (St.badDescriptor, 0)
    | some h => if 1023 < r.handler then some (St.badDescriptor, 0) else if h.pd ≠ q.pd then some (St.localProt, 4) else none

/-- R49, R54, R117, R143, R146: the next receive descriptor of a queue pair is read and checked. -/
def execRecvDescriptorRead (fn : Nat) (q : Nat) (r : HostRes) (s : State) : Host.Outcome State Fault Refusal := s.atPins <|
  match (s.qpnOf fn q).bind fun n => (s.qp n).map fun x => (n, x) with
  | none => ok s
  | some (n, x) =>
    if x.rqProd = x.rqRead ∨ x.readDead ∨ x.st = .reset ∨ !s.admits 6 then ok s
    else if s.postingHeld ∧ x.st ≠ .error then ok (settle s.postedFullEvents)
    else ok (settle (s.readDesc n x true (x.rqBase + 64 * (x.rqRead % 2 ^ x.rqLog)) r fun s ws =>
      let rv := recvOf x.nextId s.mt.nextSeq x.rqRead ws
      let s := (if x.st = .error then s else s.postingOpens)
      let s := { s with mt := { s.mt with nextSeq := s.mt.nextSeq + 1 } }
      let add (s : State) (rv : Recv) : State :=
        (s.modQp n fun x => { x with rqRead := x.rqRead + 1, nextId := x.nextId + 1, rq := x.rq ++ [rv] }).postRecord n x true
          (x.rqRead + 1)
      if x.st = .error then
        let s := add s { rv with st := .done, status := St.flushed }
        if x.handlerRun.isSome then s else (s.modQp n fun x => { x with rdone := x.rdone ++ [rv.id] }).drainRq n
      else if !recvOk (s.func fn).minor ws then (add s rv).failRecv n rv.id St.badDescriptor 0
      else match s.handlerFault x rv with
        | some (st, d) => (add s rv).failRecv n rv.id st d
        | none =>
          match if rv.len = 0 then none else s.checkLocal rv.lkey x.fn x.pd rLocalWrite rv.laddr rv.len with
          | some d => (add s rv).failRecv n rv.id St.localProt d
          | none => (add s rv).pumpQp n))

/-- R117, R120, R123, R142: the first receive that was read is posted: it takes a waiting message, or joins its posted list. A
message that takes a run waits until the run is complete. The store bytes of the POSTED_RECEIVES partition, whose entries the spec
gives no format, stay as they are (R123; log entry 56). -/
def execRecvTagged (fn : Nat) (q : Nat) (s : State) : Host.Outcome State Fault Refusal := s.clocked <|
  match (s.qpnOf fn q).bind fun n => (s.qp n).map fun x => (n, x) with
  | none => ok s
  | some (n, x) =>
    match x.rq.find? (·.st == .staged) with
    | none => ok s
    | some r =>
      if x.st = .error ∨ x.st = .reset then ok s
      else if s.postCapacity = 0 then ok (settle (s.finishRecv n r.id St.resourceExhausted))
      else
        let cls := classFor r.anySource r.anyTag
        match s.selectUnexp cls n r.ctx r.source r.tag with
        | some u =>
          if u.rts ∧ u.handle.isNone ∧ s.runOpen x r u.length then ok s
          else ok (settle ((s.matchOp n x.owner).takeRecord n r.id u))
        | none =>
          let s := s.matchOp n x.owner
          let p : Posted := { qpn := n, recv := r.id, cls := cls, ctx := r.ctx, source := r.source, tag := r.tag, seq := r.seq }
          let s := s.modRecv n r.id ({ · with st := .posted })
          let s := (s.post1 p).matchShown x.fn
          ok (settle (if s.postingHeld then s.postedFullEvents else s))

/-! ### Send descriptors (R51, R63, R91) -/

/-- Start the descriptor with an opcode that send processing has come to. -/
def State.runSend (s : State) (fn q op : Nat) (f : Nat → Qp → Desc → State) : Host.Outcome State Fault Refusal :=
  match (s.qpnOf fn q).bind fun n => (s.qp n).map fun x => (n, x) with
  | none => ok s
  | some (n, x) =>
    match x.startable op with
    | some d => ok (settle ((f n x d).peerWait n))
    | none => ok s

/-- R51: NOP completes in queue order. -/
def execNop (fn : Nat) (q : Nat) (s : State) : Host.Outcome State Fault Refusal := s.clocked <|
  s.runSend fn q 0x00 fun n _ d => s.finishDesc n d.id St.success

/-- R53, R81: PUT. -/
def execPut (fn : Nat) (q : Nat) (s : State) : Host.Outcome State Fault Refusal := s.clocked <|
  s.runSend fn q 0x01 fun n x d => s.startTransfer n x d 0 (d.len != 0)

/-- R53, R81: GET; with LENGTH 0 it sends nothing. -/
def execGet (fn : Nat) (q : Nat) (s : State) : Host.Outcome State Fault Refusal := s.clocked <|
  s.runSend fn q 0x03 fun n x d =>
    if d.len = 0 then
      match s.checkLocal d.lkey x.fn x.pd rLocalWrite d.laddr 0 with
      | some dt => s.failDesc n d.id St.localProt false dt
      | none => s.finishDesc n d.id St.success
    else s.startTransfer n x d rLocalWrite true

/-- Start an atomic (R81, R82): no local check. -/
def State.startAtomic (s : State) (n : Nat) (x : Qp) (d : Desc) : State := s.startTransfer n x d 0 false

/-- R82: ATOMIC_FADD. -/
def execAtomicFadd (fn : Nat) (q : Nat) (s : State) : Host.Outcome State Fault Refusal := s.clocked <| s.runSend fn q 0x10 s.startAtomic

/-- R82: ATOMIC_CSWAP. -/
def execAtomicCswap (fn : Nat) (q : Nat) (s : State) : Host.Outcome State Fault Refusal := s.clocked <| s.runSend fn q 0x11 s.startAtomic

/-- R82: ATOMIC_SWAP. -/
def execAtomicSwap (fn : Nat) (q : Nat) (s : State) : Host.Outcome State Fault Refusal := s.clocked <| s.runSend fn q 0x12 s.startAtomic

/-- R82: ATOMIC_AND. -/
def execAtomicAnd (fn : Nat) (q : Nat) (s : State) : Host.Outcome State Fault Refusal := s.clocked <| s.runSend fn q 0x13 s.startAtomic

/-- R82: ATOMIC_OR. -/
def execAtomicOr (fn : Nat) (q : Nat) (s : State) : Host.Outcome State Fault Refusal := s.clocked <| s.runSend fn q 0x14 s.startAtomic

/-- R82: ATOMIC_XOR. -/
def execAtomicXor (fn : Nat) (q : Nat) (s : State) : Host.Outcome State Fault Refusal := s.clocked <| s.runSend fn q 0x15 s.startAtomic

/-- R82: ATOMIC_SMIN. -/
def execAtomicSmin (fn : Nat) (q : Nat) (s : State) : Host.Outcome State Fault Refusal := s.clocked <| s.runSend fn q 0x16 s.startAtomic

/-- R82: ATOMIC_SMAX. -/
def execAtomicSmax (fn : Nat) (q : Nat) (s : State) : Host.Outcome State Fault Refusal := s.clocked <| s.runSend fn q 0x17 s.startAtomic

/-- R115, R126, R138: SEND_TAGGED, eager or by rendezvous. -/
def execSendTagged (fn : Nat) (q : Nat) (s : State) : Host.Outcome State Fault Refusal := s.clocked <|
  s.runSend fn q 0x20 fun n x d => s.startTagged n x d

/-- R90 to R92: BIND_WINDOW. -/
def execBindWindow (fn : Nat) (q : Nat) (s : State) : Host.Outcome State Fault Refusal := s.clocked <|
  s.runSend fn q 0x30 fun n x d => s.bindWindow n x d

/-- R90, R91, R93: UNBIND_WINDOW. -/
def execUnbindWindow (fn : Nat) (q : Nat) (s : State) : Host.Outcome State Fault Refusal := s.clocked <|
  s.runSend fn q 0x31 fun n x d => s.unbindWindow n x d

/-! ### Packet building and the shaper (R73, R290) -/

/-- R73, R194, R209, R215, R289: send processing of a queue pair builds and sends its next packet. -/
def execSendPacketBuild (fn : Nat) (q : Nat) (s : State) : Host.Outcome State Fault Refusal := s.clocked <|
  match s.qpnOf fn q with
  | some n => ok (settle (s.sendStep n))
  | none => ok s

/-- R290, R291: the bucket holds enough tokens for the packet that waits at the shaper. -/
def execShaperRelease (fn : Nat) (q : Nat) (s : State) : Host.Outcome State Fault Refusal := s.clocked <|
  match (s.qpnOf fn q).bind fun n => (s.qp n).map fun x => (n, x) with
  | none => ok s
  | some (n, x) =>
    match x.shaped with
    | none => ok s
    | some (k, psn, b) =>
      let t := x.shaper.refill s.time
      let len := 16 + (match s.track n k psn with | some y => wtSize y.hdr.ext | none => 16) + b.length
      if t.rate = 0 then ok (settle ((s.setQp n { x with shaper := t, shaped := none }).launch n k psn b))
      else if len ≤ t.tokens then
        ok (settle ((s.setQp n { x with shaper := { t with tokens := t.tokens - len }, shaped := none }).launch n k psn b))
      else ok (s.setQp n { x with shaper := t })

/-! ### Per-peer states (R61, R62) -/

/-- R62: a per-peer state has become free for a descriptor that waits. -/
def execPeerStateFreed (fn : Nat) (q : Nat) (s : State) : Host.Outcome State Fault Refusal := s.clocked <|
  match (s.qpnOf fn q).bind fun n => (s.qp n).map fun x => (n, x) with
  | none => ok s
  | some (n, x) =>
    match x.waitsForPeer with
    | some d => ok (settle ((s.needPeer n d).peerWait n))
    | none => ok s

/-- R62: no per-peer state has become free within the deadline of R70. -/
def execContextWaitDeadline (fn : Nat) (q : Nat) (s : State) : Host.Outcome State Fault Refusal := s.clocked <|
  match (s.qpnOf fn q).bind fun n => (s.qp n).map fun x => (n, x) with
  | none => ok s
  | some (n, x) =>
    match x.waitsForPeer with
    | some d => if x.exhausted = some d.id then ok (settle (s.failDesc n d.id St.resourceExhausted)) else ok s
    | none => ok s

/-- R61: a per-peer state without an outstanding request or traffic for IDLE_MS is reclaimed. -/
def execSeStateIdleExpiry (qpn : Nat) (peerEid : Nat) (peerQpn : Nat) (s : State) : Host.Outcome State Fault Refusal := s.clocked <|
  let k := connKey peerEid peerQpn
  match (s.qp qpn).bind fun x => (mget x.conns k).map fun c => (x, c) with
  | some (x, c) =>
    if x.shared ∧ c.track.isEmpty ∧ c.unplaced.isEmpty ∧ (mget x.waits k).isNone
        ∧ !(s.tp.granted.any fun g => g.qpn == qpn && g.conn == k) then
      ok ((s.setQp qpn { x with conns := mdel x.conns k }.unlatched).dropResults qpn (some k))
    else ok s
  | none => ok s

/-! ### Timers of request packets (R69, R70, R76, R134, R135, R140) -/

/-- R76, R77: the retransmit timer of a request packet expires. -/
def execRetransmitTimeout (qpn : Nat) (peerEid : Nat) (peerQpn : Nat) (psn : Nat) (s : State) : Host.Outcome State Fault Refusal := s.clocked <|
  let k := connKey peerEid peerQpn
  match (s.qp qpn).bind fun x => (s.track qpn k psn).map fun t => (x, t) with
  | some (x, t) =>
    if !t.timer ∨ t.hold ≠ .none then ok s
    else if s.rd Reg.TPT_RETX_MAX_RETRIES ≤ t.retries then ok (settle (s.failTrack qpn t St.retryExceeded false 0))
    else
      match s.resend qpn k psn with
      | (s, false) => ok (settle s)
      | (s, true) => ok (settle ((s.modTrack qpn k psn fun u =>
          { u with retries := t.retries + 1, intervalUs := 2 * t.intervalUs }).count 0x1D0 0 1 x.owner))
  | none => ok s

/-- Send a packet again after its hint (R69, R134): the hold ends unless its payload waits for a walk. -/
def State.resendHeld (s : State) (n k psn : Nat) : State :=
  match s.resend n k psn with
  | (s, true) => s.modTrack n k psn ({ · with hold := .none })
  | (s, false) => s

/-- R69: the hint of a STATE_MISS NAK has passed. -/
def execStateMissHintExpiry (qpn : Nat) (peerEid : Nat) (peerQpn : Nat) (psn : Nat) (s : State) : Host.Outcome State Fault Refusal := s.clocked <|
  let k := connKey peerEid peerQpn
  match s.track qpn k psn with
  | some t => if t.hold = .stateMiss then ok (settle (s.resendHeld qpn k psn)) else ok s
  | none => ok s

/-- R70: the STATE_MISS deadline of a packet passes. -/
def execStateMissDeadline (qpn : Nat) (peerEid : Nat) (peerQpn : Nat) (psn : Nat) (s : State) : Host.Outcome State Fault Refusal := s.clocked <|
  match s.track qpn (connKey peerEid peerQpn) psn with
  | some t => if t.missSince then ok (settle (s.failTrack qpn t St.retryExceeded false 1)) else ok s
  | none => ok s

/-- R134: the hint of a RECEIVER_FULL NAK has passed: every refused packet of the connection is sent again. -/
def execFullHintExpiry (qpn : Nat) (peerEid : Nat) (peerQpn : Nat) (s : State) : Host.Outcome State Fault Refusal := s.clocked <|
  let k := connKey peerEid peerQpn
  match (s.qp qpn).bind fun x => mget x.conns k with
  | some c => ok (settle ((c.track.filter (·.hold == .full)).foldl (fun s t => s.resendHeld qpn k t.psn) s))
  | none => ok s

/-- R135: the RECEIVER_FULL deadline of a packet passes; 0 is no deadline. -/
def execReceiverFullDeadline (qpn : Nat) (peerEid : Nat) (peerQpn : Nat) (psn : Nat) (s : State) : Host.Outcome State Fault Refusal := s.clocked <|
  match s.track qpn (connKey peerEid peerQpn) psn with
  | some t =>
    if t.fullSince ∧ s.rd Reg.MCH_RETRY_FULL_DEADLINE_MS ≠ 0 then ok (settle (s.failTrack qpn t St.retryExceeded false 2)) else ok s
  | none => ok s

/-- R140: the rendezvous wait passes without a FIN; 0 is no limit. -/
def execRndvWaitExpiry (qpn : Nat) (peerEid : Nat) (peerQpn : Nat) (psn : Nat) (s : State) : Host.Outcome State Fault Refusal := s.clocked <|
  match s.qp qpn with
  | some x =>
    match x.sq.find? fun d => d.rtsPsn == some psn && d.rndvWait && d.st == .sent && x.connOf d == connKey peerEid peerQpn with
    | some d =>
      if s.rd Reg.MCH_RETRY_RNDV_WAIT_MS ≠ 0 then ok (settle (s.failDesc qpn d.id St.retryExceeded false 3)) else ok s
    | none => ok s
  | none => ok s

end Sys2Proof.Machine
end

