-- ==== Sys2Proof/Machine/Responder.lean ====
section
/-! DEFINITION. Arriving WT packets, placements, host reads and atomics, the drains of keys, CXL.mem accesses, matching's
timers, the start of handlers, and the events of page walks (R60 to R79, R94 to R113, R119 to R150, R387 to R393). -/

namespace Sys2Proof.Machine

/-! ### Arriving packets -/

/-- A tagged packet is processed (R485): it goes on to the last write of its placement where it has one, and ends else. -/
def State.tagPlaced (t s : State) (tag : Option Nat) : State × Bool :=
  match tag, (t.tp.placements.filter fun p => (mget s.tp.placements p.1).isNone).getLast? with
  | some k, some (id, _) =>
    ({ t with tp := { t.tp with placements := mmod t.tp.placements id fun p => { p with tag := some k } } }, true)
  | _, _ => (t, false)

/-- Process a delivered WT packet whose opcode is one of a row's: it leaves the delivered ones, unless its translation
waits for a walk; then the command is given again (log entry 5). -/
def State.runPacket (s : State) (port : Nat) (p : Packet) (row : Nat → Bool) : Host.Outcome State Fault Refusal :=
  match p.body, s.rt.delivered.find? fun x => x.port == port && x.pkt.same p with
  | .wt h, some x =>
    if !row h.opcode ∨ !s.admits 3 then ok s
    else
      let s := ((s.stamp x.tag 3).stamp x.tag 4).stamp x.tag 5
      let t := s.rxPacket port x.pkt h
      if t.tp.todo.contains .wait then ok (settle t)
      else
        let r := State.tagPlaced { t with rt := { t.rt with delivered := t.rt.delivered.erase x } } s x.tag
        if r.2 then ok (settle r.1) else ok (((settle r.1).stamp x.tag 7).endTag x.tag)
  | _, _ => ok s

/-- R94, R97: a PUT, or a packet with a reserved opcode (R72). -/
def execWtPut (port : Nat) (p : Packet) (s : State) : Host.Outcome State Fault Refusal := s.clocked <|
  s.runPacket port p fun op => op == Op.put || (extOf op).isNone

/-- R94, R100: a GET_REQ. -/
def execGetReq (port : Nat) (p : Packet) (s : State) : Host.Outcome State Fault Refusal := s.clocked <| s.runPacket port p (· == Op.getReq)

/-- R76: a GET_RESP. -/
def execGetResp (port : Nat) (p : Packet) (s : State) : Host.Outcome State Fault Refusal := s.clocked <| s.runPacket port p (· == Op.getResp)

/-- R94, R102, R103: an ATOMIC_REQ. -/
def execAtomicReq (port : Nat) (p : Packet) (s : State) : Host.Outcome State Fault Refusal := s.clocked <| s.runPacket port p (· == Op.atomicReq)

/-- R76, R82: an ATOMIC_RESP. -/
def execAtomicResp (port : Nat) (p : Packet) (s : State) : Host.Outcome State Fault Refusal := s.clocked <| s.runPacket port p (· == Op.atomicResp)

/-- R75: an ACK. -/
def execAck (port : Nat) (p : Packet) (s : State) : Host.Outcome State Fault Refusal := s.clocked <| s.runPacket port p (· == Op.ack)

/-- R69, R95, R134: a NAK. -/
def execNak (port : Nat) (p : Packet) (s : State) : Host.Outcome State Fault Refusal := s.clocked <| s.runPacket port p (· == Op.nak)

/-- R119, R131: an EAGER packet. -/
def execEager (port : Nat) (p : Packet) (s : State) : Host.Outcome State Fault Refusal := s.clocked <| s.runPacket port p (· == Op.eager)

/-- R119, R137: an RTS. -/
def execRts (port : Nat) (p : Packet) (s : State) : Host.Outcome State Fault Refusal := s.clocked <| s.runPacket port p (· == Op.rts)

/-- R137, R139: a FIN. -/
def execFin (port : Nat) (p : Packet) (s : State) : Host.Outcome State Fault Refusal := s.clocked <| s.runPacket port p (· == Op.fin)

/-- R67, R68, R84: the store fetch of a connection's context ends. With an uncorrected error the waiting packets are
answered with a NAK INVALID_STATE. -/
def execContextFetchDone (qpn : Nat) (peerEid : Nat) (peerQpn : Nat) (uncorrected : Bool) (s : State) :
    Host.Outcome State Fault Refusal := s.clocked <|
  let k := connKey peerEid peerQpn
  match s.qp qpn with
  | some x =>
    if !x.fetches.contains k then ok s
    else
      let l := mgetD x.waits k []
      let s := s.setQp qpn { x with fetches := x.fetches.filter (· != k) }
      if uncorrected then
        -- what the fetch reads: the context where it is not on die, and the key entries that the waiting packets need
        let keys := l.filterMap fun y => match y.2.body with
          | .wt h => if s.keyOnDie h then none else s.keyBacking (keyIndex h.key)
          | _ => none
        let parts := (if x.onDie ∧ !keys.isEmpty then [] else
          [((((s.partsOf 1).head?.map fun p => (s.partOf p).1).getD 0) + 512 * qpn, 512)]) ++ keys.map fun a => (a, 32)
        let a := (((parts.find? fun p => s.poisoned p.1 p.2).orElse fun _ => parts.head?).map (·.1)).getD 0
        let s := s.raise (0x241 + 16 * stackOf a) (a / 64)
        ok (settle (l.foldl (fun s y =>
          let s := match y.2.body with
            | .wt h => s.nak y.2 h (some x) (mget x.conns k) St.invalidState
            | _ => s
          s.unwait qpn k y) s))
      else
        let s := l.foldl (fun s y => match y.2.body with
          | .wt h => if s.keyOnDie h then s else s.cacheKey (keyIndex h.key)
          | _ => s) (s.touch qpn)
        ok (settle (s.pump 600 qpn k))
  | none => ok s

/-! ### Timers of the responder (R75, R78) -/

/-- R75: TPT_ACK.DELAY has passed since the first unacknowledged request. -/
def execAckDelayExpiry (qpn : Nat) (peerEid : Nat) (peerQpn : Nat) (s : State) : Host.Outcome State Fault Refusal := s.clocked <|
  let k := connKey peerEid peerQpn
  match (s.qp qpn).bind fun x => mget x.conns k with
  | some c => if c.ackTimer then ok (s.sendAck qpn k) else ok s
  | none => ok s

/-- R78: a result-cache entry has been held for HOLD_US. -/
def execResultHoldExpiry (qpn : Nat) (peerEid : Nat) (peerQpn : Nat) (psn : Nat) (s : State) : Host.Outcome State Fault Refusal := s.clocked <|
  let k := connKey peerEid peerQpn
  ok { s with tp := { s.tp with results := s.tp.results.filter fun e =>
    !(e.qpn == qpn && e.conn == k && e.psn == psn && e.value.isSome) } }.ctxShown

/-! ### Placements (R75, R97, R109, R131, R137, R161) -/

/-- A PSN whose placement is issued may be acknowledged (R75). -/
def State.placedPsn (s : State) (n k psn : Nat) : State := s.modConn n k fun c => { c with unplaced := c.unplaced.filter (· != psn) }

/-- R75, R97, R109: the last write of a placement has been issued or committed. -/
def execPlacementIssued (id : Nat) (s : State) : Host.Outcome State Fault Refusal := s.clocked <|
  match mget s.tp.placements id with
  | none => ok s
  | some p =>
    if !s.admits (if p.store then 5 else 6) then ok s else
    let s := s.issue p ((s.placeOwner p.use).orElse fun _ => some (p.fn, 0))
    let s := ((s.stamp p.tag 6).stamp p.tag 7).endTag p.tag
    let s := { s with tp := { s.tp with placements := mdel s.tp.placements id } }
    let s := match p.key with | some i => s.dropRef i | none => s
    ok (settle (match p.use with
      | .put n k psn solicit => (s.placedPsn n k psn).noteRequest n k solicit
      | .get n _ _ d => (s.modDesc n d fun d => { d with placing := d.placing - 1 }).checkDone n d
      | .fetch n _ _ r => (s.modRecv n r fun r => { r with placing := r.placing - 1 }).fetchDone n r
      | .eager n k psn r solicit =>
        (((s.placedPsn n k psn).modRecv n r fun r => { r with placing := r.placing - 1 }).noteRequest n k solicit).eagerDone n r
      | .copy n r u => ((s.modRecv n r fun r => { r with placing := r.placing - 1 }).freeRecord u).eagerDone n r
      | .swarm gid _ => s.memberPlaced gid))

/-! ### Host reads and atomics (R97, R102, R109, R492) -/

/-- What a host read has brought, for a send descriptor (R53, R109, R492). -/
def State.sourceReturn (s : State) (n id off key : Nat) (r : HostRes) (len : Nat) : State :=
  match (s.qp n).bind (·.desc id) with
  | some d =>
    let s := s.modDesc n id ({ · with reading := false })
    if d.st = .done then s.dropRef (keyIndex key)
    else match r with
      | .data b => s.modDesc n id ({ · with data := some (off, slice b 0 len) })
      | .error => s.failDesc n id St.remoteOpError false 14
      | .poisoned => s.failDesc n id St.remoteOpError false 14
      | .timeout => s.failDesc n id St.remoteOpError false 13
  | none => s.dropRef (keyIndex key)

/-- The DETAIL of a failed host read (R492). -/
def resDetail (r : HostRes) : Nat := match r with | .timeout => 13 | _ => 14

/-- R97, R109, R492: the last data of a host read returns, or the read ends without data. -/
def execHostReadDataReturn (id : Nat) (r : HostRes) (s : State) : Host.Outcome State Fault Refusal := s.atPins <|
  match mget s.tp.reads id with
  | none => ok s
  | some x =>
    let s := { s with tp := { s.tp with reads := mdel s.tp.reads id } }
    let s := match r with | .data _ => s.count 0x1C1 x.link x.len (s.readOwner x.use) | _ => s.linkLogs x.link r
    ok (settle (match x.use with
      | .source n d off key => s.sourceReturn n d off key r x.len
      | .resend n k psn key =>
        let s := s.dropRef key
        (match r, s.track n k psn with
        | .data b, _ => s.launch n k psn (slice b 0 x.len)
        | _, some t => s.failTrack n t St.remoteOpError false (resDetail r)
        | _, none => s)
      | .getResp n k psn key a =>
        (match r with
        | .data b =>
          (match (s.qp n).bind fun q => (mget q.conns k).map fun c => (q, c) with
          | some (q, c) =>
            if q.st = .ready ∨ q.st = .paused then
              sendResponses (responses a x.len + 1) (s.dropRef (keyIndex key)) q c psn a (slice b 0 x.len)
            else s.dropRef (keyIndex key)
          | none => s.dropRef (keyIndex key))
        | _ => (s.dropRef (keyIndex key)).lateNak n k psn key Op.getReq (resDetail r))
      | .swarm gid seg =>
        (match r with
        | .data b => s.memberGives gid seg (slice b 0 x.len)
        | _ =>
          match (mget s.sw.fronds gid).bind (·.cur) with
          | some e =>
            (match e.member with
            | some (n, d) => (s.failDesc n d St.remoteOpError false (resDetail r)).drive (.abort gid 5)
            | none => s)
          | none => s)))

/-- Issue the CAS of an emulated atomic with the value last read (R102). -/
def State.atomicCas (s : State) (id : Nat) (a : AtomicOp) (seen : Nat) (tries : Nat) : State :=
  let new := atomicResult a.opcode (8 * a.width) seen a.op0.toNat a.op1.toNat
  let a := { a with stage := 2, seen := BitVec.ofNat 64 seen, tries := tries }
  ({ s with tp := { s.tp with atomics := mset s.tp.atomics id a } }.emit (.hostAtomic a.link a.addr 2 seen new a.width id)).count
    0x1C0 a.link (2 * a.width) (s.qpOwner a.qpn)

/-- R102, R492: the answer of an AtomicOp, or of the read or CAS of an emulated atomic. -/
def execHostAtomicResponse (id : Nat) (r : HostRes) (s : State) : Host.Outcome State Fault Refusal := s.atPins <|
  match mget s.tp.atomics id with
  | none => ok s
  | some a =>
    if a.store then ok s
    else match r with
      | .data b =>
        let old := ofLE (slice b 0 a.width)
        let s := s.count 0x1C1 a.link a.width (s.qpOwner a.qpn)
        if a.stage = 0 ∨ (a.stage = 2 ∧ old = a.seen.toNat) then ok (settle (s.atomicDone id a old))
        else if a.stage = 1 then ok (s.atomicCas id a old 1)
        else if s.rd Reg.KEY_HOST_ATOMIC_CAS_LIMIT ≤ a.tries then ok (settle (s.atomicFails id a 10))
        else ok (s.atomicCas id a old (a.tries + 1))
      | .error => ok (settle (s.atomicFails id a 14))
      | .poisoned => ok (settle ((s.linkLogs a.link r).atomicFails id a 14))
      | .timeout => ok (settle ((s.linkLogs a.link r).atomicFails id a 13))

/-- Count a store atomic, and its cache miss, of which nothing is known (R103, R483; log entry 2). -/
def State.countAtomic (s : State) (a : Nat) (o : Owner) : State :=
  let miss := s.freeVal % 2
  let s := s.takeFree.count 0x182 (stackOf a) 1 o
  if miss = 1 then s.count 0x183 (stackOf a) 1 o else s

/-- R82, R103, R105: the store's atomic unit performs an atomic. -/
def execStoreAtomicDone (id : Nat) (s : State) : Host.Outcome State Fault Refusal := s.clocked <|
  match mget s.tp.atomics id with
  | none => ok s
  | some a =>
    if !a.store ∨ !s.admits 5 then ok s
    else if s.poisoned a.addr a.width then ok (settle ((s.reportPoison a.addr a.width).atomicFails id a 11))
    else
      let old := ofLE (s.storeRead a.addr a.width)
      let new := atomicResult a.opcode (8 * a.width) old a.op0.toNat a.op1.toNat
      let o : Owner := (s.qp a.qpn).bind (·.owner)
      ok (settle ((((s.storeCorrects a.addr a.width).commit a.addr (leBytes a.width new)).countAtomic a.addr o).atomicDone id a old))

/-! ### Drains (R89, R93, R111, R112) -/

/-- R89, R93, R111: the in-use count of a draining key has reached 0. -/
def execKeyDrainComplete (idx : Nat) (s : State) : Host.Outcome State Fault Refusal := s.clocked <|
  let e := s.key idx
  if !e.draining ∨ e.inUse ≠ 0 then ok s
  else match s.tp.funcs.find? fun p => (p.2.cmd.bind (·.waitKey)) == some idx with
    | some (fn, _) => ok (settle ((s.freeKey idx).cmdDone fn St.success))
    | none =>
      -- a region whose DEREG_MR has run out of time is freed when the command is submitted again
      if e.kind = 1 then ok (s.drainEnds idx)
      else
        ok (settle (e.unbind.foldl (fun s w => match (s.qp w.1).bind (·.desc w.2) with
          | some x => if x.st = .sent then s.finishDesc w.1 w.2 St.success false 0 x.result else s
          | none => s) (s.drainEnds idx)))

/-- R112: the in-use count has not reached 0 within KEY_DRAIN.TIMEOUT_US of a generation raise; each raise has its own timer. -/
def execKeyDrainStall (idx : Nat) (s : State) : Host.Outcome State Fault Refusal := s.clocked <|
  let e := s.key idx
  if e.draining ∧ e.timers ≠ 0 ∧ e.inUse ≠ 0 then
    ok ((s.setKey idx { e with stalled := true, timers := e.timers - 1 }).raise 0x301 (s.keyOf idx))
  else ok s

/-! ### CXL.mem (R107, R108) -/

/-- R107, R108: a CXL.mem read of a line. -/
def execCxlMemRead (link : Nat) (addr : Nat) (s : State) : Host.Outcome State Fault Refusal := s.atPins <|
  ok (s.cxlServe { link := link, line := addr })

/-- R107, R108: a CXL.mem write of the bytes of a line that are given. -/
def execCxlMemWrite (link : Nat) (addr : Nat) (bytes : List (Option Byte)) (s : State) : Host.Outcome State Fault Refusal := s.atPins <|
  ok (s.cxlServe { link := link, line := addr, write := some bytes })

/-! ### Matching's events (R124, R129) -/

/-- R124: matches have freed posted entries, and reading resumes. -/
def execPostingResume (s : State) : Host.Outcome State Fault Refusal := s.clocked <|
  ok (if s.postingHeld then s else s.postingOpens)

/-- R129: the pool holds no record, so a written POOL_KIB takes effect. -/
def execPoolResizeApply (s : State) : Host.Outcome State Fault Refusal := s.clocked <|
  if s.on Reg.MCH_UNEXP_PENDING ∧ s.mt.unexp.isEmpty then
    ok ({ s with mt := { s.mt with poolKib := s.rd Reg.MCH_UNEXP_POOL_KIB } }.wr Reg.MCH_UNEXP_PENDING 0)
  else ok s

/-! ### Handlers (R147, R148, R314, R320, R346) -/

/-- Threads of a hive that handlers may use: the highest-numbered ones (R314). -/
def State.handlerThread (s : State) (h t : Nat) : Bool :=
  t / 128 == h && decide (128 - s.rd Reg.MCH_HANDLER_THREADS ≤ t % 128)

/-- The receive whose handler may start now: the first that has finished and whose completion waits, with its whole run
placed. -/
def Qp.handlerDue (q : Qp) : Option Recv :=
  match q.rdone with
  | id :: _ =>
    match q.recv id with
    | some r =>
      let run := q.rq.filter fun x => x.runFirst == r.id && x.rtsPsn.isSome && x.id != r.id
      if r.handled ∧ q.handlerRun.isNone ∧ q.st ≠ .error ∧ run.all (·.st == .placed) then some r else none
    | none => none
  | [] => none

/-- The registers at a handler's entry (R147). -/
def handlerRegs (q : Qp) (r : Recv) (total base : Nat) : Map Word :=
  let w (n : Nat) : Word := BitVec.ofNat 64 n
  [(1, w r.laddr), (2, w total), (3, r.msgTag), (4, w (r.srcEid + r.ctx * 2 ^ 32)), (5, r.userId), (6, w r.status), (7, w q.idx),
    (8, w (r.laddr - base))]

/-- R147, R148, R320, R346: a handler starts on an idle thread of its queue pair's hive. -/
def execHandlerStart (fn : Nat) (q : Nat) (t : Nat) (s : State) : Host.Outcome State Fault Refusal := s.clocked <|
  if !s.admits 3 then ok s else
  match (s.qpnOf fn q).bind fun n => (s.qp n).map fun x => (n, x) with
  | none => ok s
  | some (n, x) =>
    match x.handlerDue with
    | none => ok s
    | some r =>
      match mget s.mt.handlers (handlerKey fn r.handler) with
      | none => ok s
      | some h =>
        if (s.thread t).st ≠ .idle ∨ !s.handlerThread (hiveOf n) t then ok s
        else
          let base := (s.key (keyIndex r.lkey)).base
          let run := x.rq.filter fun y => y.runFirst == r.id && y.rtsPsn.isSome && y.id != r.id
          let total := r.bytes + (run.map (·.bytes)).sum
          let ks := ([r.lkey] ++ h.keys).zipIdx.map fun k => (k.2, k.1)
          let hr : Run := { handler := r.handler, fn := fn, pd := x.pd, qpn := n, recv := r.id, off0 := r.laddr - base, len0 := r.len,
                            slots := (ks.filter fun k => s.keyValid k.2).map (·.1) }
          let y : Thread := {
            nextAcc := (s.thread t).nextAcc, pend := (s.thread t).pend, st := .running, priv := 1, regs := handlerRegs x r total base, pc := h.entry, code := 4 * h.code.length, ks := ks,
            budget := s.rd Reg.MCH_HANDLER_BUDGET, events := 4, accDomain := fn + x.pd * 2 ^ 16,
            run := some hr }
          let frame := 0x180000 + 4096 * (127 - t % 128)
          let s := (s.sramWrite (t / 128) frame (List.replicate 4096 0)).clearResv (.hive (t / 128)) frame 4096
          ok (((s.setThread t y).modQp n ({ · with handlerRun := some r.id })).tally Reg.FGR_HCOUNT_RUNS 0x108 (t / 128)
            (some (fn, x.pd)))

/-! ### Walks (R387 to R393) -/

/-- R387, R390: the read of a walk returns an entry, or ends in an error or without an answer. -/
def execWalkReadResponse (id : Nat) (r : HostRes) (s : State) : Host.Outcome State Fault Refusal := s.atPins <|
  match mget s.xl.walks id with
  | some w =>
    if w.cas.isSome then ok s
    else match r with
      | .data b => ok (settle ((s.count 0x1C1 (w.ctx / 256) 8 (s.walkOwner w)).judge id w (BitVec.ofNat 64 (ofLE (slice b 0 8)))).pumpAll)
      | .error => ok (settle (s.walkFails id w St.walkAccessFault 14 w.level w.addr).pumpAll)
      | .poisoned => ok (settle ((s.linkLogs (w.ctx / 256) r).walkFails id w St.walkAccessFault 14 w.level w.addr).pumpAll)
      | .timeout => ok (settle ((s.linkLogs (w.ctx / 256) r).walkFails id w St.walkAccessFault 13 w.level w.addr).pumpAll)
  | none => ok s

/-- R391: the CAS of a walk returns what the entry held. -/
def execAdCasResponse (id : Nat) (r : HostRes) (s : State) : Host.Outcome State Fault Refusal := s.atPins <|
  match mget s.xl.walks id with
  | some w =>
    match w.cas, r with
    | some v, .data b =>
      let s := s.count 0x1C1 (w.ctx / 256) 8 (s.walkOwner w)
      if BitVec.ofNat 64 (ofLE (slice b 0 8)) = v then ok (settle (s.walkEnds id w (withBits v w.kind)).pumpAll)
      else
        let s := s.tally Reg.XLT_COUNT_AD_RESTARTS 0x1CD 0 (some (w.ctx, 0))
        let s := { s with xl := { s.xl with
          leaves := s.xl.leaves.filter fun c => !(c.ctx == w.ctx && c.addr == w.addr) } }.xlShown
        let w := { w with tries := w.tries + 1, cas := none }
        if w.tries = s.rd Reg.XLT_CFG_AD_RETRIES then ok (settle (s.walkFails id w St.translationFault 21 w.level w.addr).pumpAll)
        else ok (settle (s.walkRead id w).pumpAll)
    | some _, .error => ok (settle (s.walkFails id w St.walkAccessFault 14 w.level w.addr).pumpAll)
    | some _, .poisoned => ok (settle ((s.linkLogs (w.ctx / 256) r).walkFails id w St.walkAccessFault 14 w.level w.addr).pumpAll)
    | some _, .timeout => ok (settle ((s.linkLogs (w.ctx / 256) r).walkFails id w St.walkAccessFault 13 w.level w.addr).pumpAll)
    | none, _ => ok s
  | none => ok s

/-- R390: a walk read or CAS has had no answer for WALK_TIMEOUT_US. -/
def execWalkTimeout (id : Nat) (s : State) : Host.Outcome State Fault Refusal := s.clocked <|
  match mget s.xl.walks id with
  | some w => ok (settle (s.walkFails id w St.walkAccessFault 13 w.level w.addr).pumpAll)
  | none => ok s

/-- R393: with PREFETCH 1 the unit walks ahead for a page that is not cached; the walk sets no bits. -/
def execPrefetchWalk (fn va : Nat) (s : State) : Host.Outcome State Fault Refusal := s.clocked <|
  if fn < 2048 ∧ va < 2 ^ 57 ∧ s.on Reg.XLT_CFG_PREFETCH ∧ s.on Reg.XLT_CTX_ENABLE fn
      ∧ !(s.xl.leaves.any (·.covers fn va)) ∧ !(s.xl.walks.any fun w => w.2.ctx == fn && w.2.va / 4096 == va / 4096)
  then ok (settle (s.startWalk (s.opened (.command fn) fn va 1 accRead) va true none))
  else ok s

end Sys2Proof.Machine
end

