-- ==== Sys2Proof/Machine/Forager.lean ====
section
/-! DEFINITION. Forager threads: registers, traps, the issue of an instruction, fences, the end of a program, and the
integer, control, CSR and system instructions (R313 to R317, R324 to R327, R332, R333, R343 to R349, R363). -/

namespace Sys2Proof.Machine

/-! ### Threads and registers (R313 to R317) -/

/-- THREAD_ID of a thread (R317). -/
def threadId (t : Nat) : Nat := 0x1000 + t

/-- A general register: g0 reads 0 (R316). -/
def Thread.get (x : Thread) (r : GReg) : Word := if r = 0 then 0 else mgetD x.regs r.toNat 0

/-- Write a general register: a write to g0 is discarded (R316). -/
def Thread.put (x : Thread) (r : GReg) (v : Word) : Thread := if r = 0 then x else { x with regs := mset x.regs r.toNat v }

/-- A general register of a thread. -/
def State.greg (s : State) (t : Nat) (r : GReg) : Word := (s.thread t).get r

/-- Write a general register of a thread. -/
def State.setReg (s : State) (t : Nat) (r : GReg) (v : Word) : State := s.setThread t ((s.thread t).put r v)

/-- Change a thread. -/
def State.modThread (s : State) (t : Nat) (f : Thread → Thread) : State := s.setThread t (f (s.thread t))

/-- The word of a thread's program at a code offset (R352, R353). -/
def State.codeWord (s : State) (t pc : Nat) : Nat :=
  match (s.thread t).run with
  | some r => ((mget s.mt.handlers (handlerKey r.fn r.handler)).bind fun h => h.code[pc / 4]?).elim 0 (·.toNat)
  | none => ofLE (Memory.readN 0 (s.sramOf (t / 128)) pc 4)

/-- The read-only data of a thread's program (R318). -/
def State.rodata (s : State) (t : Nat) : List Byte :=
  match (s.thread t).run with
  | some r => (mget s.mt.handlers (handlerKey r.fn r.handler)).elim [] (·.rodata)
  | none => s.fg.fwRodata

/-! ### The end of a program (R347 to R349) -/

/-- A packet that a thread holds is ended: its input-buffer credit is free, or its place in the miss buffer, which had taken the
credit's place (R336, R67). -/
def State.finishPacket (s : State) (t : Nat) : State :=
  match (s.thread t).window with
  | none => s
  | some w =>
    let s := ((s.stamp w.tag 7).endTag w.tag).modThread t ({ · with window := none })
    if w.fromMiss then
      let s := s.missOut (t / 128) 1
      if s.scratch then s else s.returnCredit w.port w.pkt
    else s.returnCredit w.port w.pkt

/-- Loads under way of a program that ends are dropped; its issued stores go on. -/
def State.endThread (s : State) (t : Nat) : State :=
  let x := s.thread t
  let stays (a : Access) : Bool := a.kind == .store || a.kind == .atomic
  let s := (x.pend.filter fun a => !stays a).foldl (fun s a => (match a.key with | some k => s.dropRef k | none => s).endTag a.tag) s
  let s := (s.endTag x.tag).finishPacket t
  (s.forgetAccesses (· == .thread t)).setThread t { nextAcc := x.nextAcc, pend := (x.pend.filter stays).map fun a => { a with rd := none } }

/-- A handler run ends: with the receive's own status, or with HANDLER_FAULT and a detail; the completion follows (R147,
R149, R347). -/
def State.endRun (s : State) (t : Nat) (r : Run) (fault : Option Nat) : State :=
  let s := (s.endThread t).modQp r.qpn ({ · with handlerRun := none })
  match s.qp r.qpn with
  | none => s
  | some q =>
    settle (if q.st = .error then s.flushRq r.qpn
      else
        let s := match fault with
          | some d => (s.tally Reg.MCH_STATUS_HANDLER_FAULTS 0x107 0 q.owner).modRecv r.qpn r.recv fun y =>
              { y with status := St.handlerFault, detail := d, handler := 0 }
          | none => s.modRecv r.qpn r.recv ({ · with handler := 0 })
        s.drainRq r.qpn)

/-! ### Traps (R344, R345) -/

def Cause.illegal : Nat := 1
def Cause.privilege : Nat := 2
def Cause.fetch : Nat := 3
def Cause.align : Nat := 4
def Cause.access : Nat := 5
def Cause.bus : Nat := 6
def Cause.barrier : Nat := 7
def Cause.budget : Nat := 8
def Cause.software : Nat := 9
def Cause.contained : Nat := 10
def Cause.discarded : Nat := 11
def Cause.unsupported : Nat := 12
def Cause.eventLimit : Nat := 13

/-- What a trap carries: cause, PC, instruction word, TRAP_INFO, TRAP_DETAIL. -/
structure Trap where
  cause : Nat
  pc : Nat
  word : Nat
  info : Nat
  detail : Nat
  deriving DecidableEq, Repr

/-- Capture a handler trap (R347). -/
def State.logHandlerTrap (s : State) (r : Run) (x : Trap) : State :=
  if s.on Reg.FGR_HTRAP_LOG0_VALID then s
  else
    let s := ((((s.wr Reg.FGR_HTRAP_LOG0_VALID 1).wr Reg.FGR_HTRAP_LOG0_CAUSE x.cause).wr Reg.FGR_HTRAP_LOG0_ID r.handler).wr
      Reg.FGR_HTRAP_LOG0_QPN r.qpn).wr Reg.FGR_HTRAP_LOG0_DETAIL x.detail
    ((s.wr Reg.FGR_HTRAP_LOG1_PC x.pc).wr Reg.FGR_HTRAP_LOG1_WORD x.word).wr Reg.FGR_HTRAP_LOG2_INFO x.info

/-- A handler ends in a trap (R347, R348). -/
def State.handlerTrap (s : State) (t : Nat) (r : Run) (x : Trap) : State :=
  let s := s.logHandlerTrap r x
  let o : Owner := some (r.fn, r.pd)
  let s := if x.cause = Cause.budget then s.tally Reg.FGR_HCOUNT_BUDGET_FAULTS 0x109 (t / 128) o
    else s.tally Reg.FGR_HCOUNT_TRAPS 0x10A (t / 128) o
  s.endRun t r (some (if x.cause = Cause.budget then 1 else if x.cause = Cause.access then 3 else 2))

/-- A firmware thread traps inside its trap routine: it stops (R345). -/
def State.stopThread (s : State) (t : Nat) (x : Trap) : State :=
  let s := if s.on Reg.FGR_FW_TRAP_LOG0_VALID then s else
    let s := ((((s.wr Reg.FGR_FW_TRAP_LOG0_VALID 1).wr Reg.FGR_FW_TRAP_LOG0_CAUSE x.cause).wr Reg.FGR_FW_TRAP_LOG0_ID (threadId t)).wr
      Reg.FGR_FW_TRAP_LOG0_QPN (s.thread t).qpCtx).wr Reg.FGR_FW_TRAP_LOG0_DETAIL x.detail
    ((s.wr Reg.FGR_FW_TRAP_LOG1_PC x.pc).wr Reg.FGR_FW_TRAP_LOG1_WORD x.word).wr Reg.FGR_FW_TRAP_LOG2_INFO x.info
  (s.modThread t ({ · with st := .stopped, wait := .none })).raise (0x180 + 8 * (t / 128)) (threadId t)

/-- A thread traps: a handler ends, a firmware thread goes on at TRAP_VEC or stops (R345, R347). The reservation is
cleared (R329). -/
def State.trap (s : State) (t : Nat) (x : Trap) : State :=
  let s := (s.endTag (s.thread t).tag).forgetAccesses (· == .thread t)
  let s := s.modThread t fun y => { y.loseResv with wait := .none, tag := none, last := none }
  let y := s.thread t
  match y.run with
  | some r => s.handlerTrap t r x
  | none =>
    if y.inTrap then s.stopThread t x
    else
      let s := s.setThread t { y with
        trapCause := x.cause, trapPc := x.pc, trapInfo := BitVec.ofNat 64 x.info, trapDetail := x.detail, inTrap := true,
        pc := y.trapVec }
      if inCode y.code y.trapVec then s
      else s.stopThread t { cause := Cause.fetch, pc := y.trapVec, word := 0, info := y.trapVec, detail := 0 }

/-- The instruction at a thread's PC traps. -/
def State.trapAt (s : State) (t : Nat) (w : BitVec 32) (cause info : Nat) (detail : Nat := 0) : State :=
  s.trap t { cause := cause, pc := (s.thread t).pc, word := w.toNat, info := info, detail := detail }

/-! ### Going on (R327) -/

/-- Go on at the next word; falling through the last word traps FETCH (R327). -/
def State.goOn (s : State) (t : Nat) : State :=
  let x := s.thread t
  let s := (s.stamp x.tag 4).endTag x.tag
  let s := s.modThread t ({ · with tag := none, pc := x.pc + 4, wait := .none })
  if x.pc + 4 < x.code then s
  else s.trap t { cause := Cause.fetch, pc := x.pc + 4, word := 0, info := x.pc + 4, detail := 0 }

/-- Write a result and go on. -/
def State.result (s : State) (t : Nat) (rd : GReg) (v : Word) : State := (s.setReg t rd v).goOn t

/-- Jump to a target, with an optional link register; a target outside the code traps FETCH (R327). -/
def State.jump (s : State) (t : Nat) (w : BitVec 32) (target : Int) (link : GReg) : State :=
  let x := s.thread t
  if inCode x.code target then
    let s := (s.stamp x.tag 4).endTag x.tag
    s.setThread t { (x.put link (BitVec.ofNat 64 (x.pc + 4))) with pc := target.toNat, tag := none }
  else s.trapAt t w Cause.fetch (ofInt 64 target)

/-! ### Issue (R313, R324, R333, R337, R346) -/

/-- The register numbers in an instruction's word, by its format (R322). -/
def regsOf (w : BitVec 32) : List GReg :=
  let op := (opOf w).toNat
  if op ∈ [0x01, 0x1D, 0x28, 0x38, 0x3A, 0x3C] then [rdOf w, raOf w, rbOf w]
  else if op ∈ [0x0B, 0x26] then [rdOf w]
  else if op ∈ [0x1E, 0x32, 0x34, 0x36] then [rdOf w, raOf w, rbOf w, rcOf w]
  else [rdOf w, raOf w]

/-- The instruction has an effect outside the thread's registers, for which it waits for the CRC verdict (R337). PLACE
queues its writes instead. -/
def effectful (w : BitVec 32) : Bool :=
  let op := (opOf w).toNat
  decide (0x18 ≤ op ∧ op ≤ 0x1B) || op == 0x1D || op == 0x1E || op == 0x2D || (op == 0x32 && fn6Of w != 3)
    || (op == 0x34 && fn6Of w != 1) || op == 0x36 || op == 0x38 || op == 0x3A

/-- The instruction sends a request to a unit: a memory or call instruction (R485). -/
def usesUnit (w : BitVec 32) : Bool :=
  let op := (opOf w).toNat
  decide (0x10 ≤ op ∧ op ≤ 0x1E) || op ∈ [0x32, 0x34, 0x36, 0x38, 0x3A]

/-- What R324 leaves to the operands: a control register that is not listed (R317), a handler's EVRAISE with an rb (R342). -/
def illegalUse (handler : Bool) (i : Instr) : Bool :=
  match i with
  | .csrr _ _ n | .csrw _ _ n => (csrAccess handler n.toNat).isNone
  | .evraise _ _ rb => handler && rb != 0
  | _ => false

/-- An access that keeps its thread at its instruction until the answer comes: a device access that returns a value, and an atomic
of a host, whose answers may trap (R330, R344, R368). -/
def Access.holds (a : Access) : Bool :=
  a.rd.isSome && (a.device || (a.kind == .atomic && match a.target with | .host _ => true | _ => false))

/-- An instruction waits on a load (R313): on one that holds the thread, and on one whose register it uses. -/
def Thread.waitsOn (x : Thread) (w : BitVec 32) : Bool :=
  x.pend.any fun a => a.holds || (a.rd.any fun r => r != 0 && (regsOf w).contains r)

/-- An instruction is fetched: a parity error of its line in the instruction cache is reported, and the line fetched again (R402). -/
def State.fetched (s : State) (t : Nat) : State :=
  let pc := (s.thread t).pc
  s.corrected (fun x => match x with | .code h b => h == t / 128 && b / 64 == pc / 64 | _ => false) (0x180 + 8 * (t / 128) + 3)

/-- The bookkeeping of an instruction that issues: the budget of a handler, the counter, the sampler (R346, R483, R484). -/
def State.issued (s : State) (t : Nat) (w : BitVec 32) : State :=
  let x := s.thread t
  let o := s.threadOwner t
  let s := (s.fetched t).count 0x100 (t / 128) 1 o
  let r := s.sample false o w.toNat (BitVec.ofNat 64 (x.pc + threadId t * 2 ^ 32)) t s.time
  let s := (if usesUnit w then r.1.stamp r.2 1 else r.1).forgetAccesses (· == .thread t)
  s.modThread t fun x => { x with budget := if x.priv = 1 then x.budget - 1 else x.budget, tag := r.2, last := none }

/-- An instruction command. The clocks must run (R33), the thread must be running and wait for nothing, else nothing happens and the command is given
again (log entry 5). `prep` says what the instruction does once it issues, or none while it must wait for a walk or for
accesses before it. -/
def State.instr (s : State) (t : Nat) (i : Instr) (prep : BitVec 32 → State → State × Option (State → State)) :
    Host.Outcome State Fault Refusal :=
  let x := s.thread t
  let w := (encodeWord i).getD 0
  if s.ft.rootLost ∨ 1024 ≤ t ∨ x.st ≠ .running ∨ x.wait ≠ .none ∨ x.waitsOn w then ok s
  else match x.contained with
    | some a => ok ((s.modThread t ({ · with contained := none })).trap t
        { cause := Cause.contained, pc := x.pc, word := w.toNat, info := a, detail := 0 })
    | none =>
      if x.priv = 1 ∧ x.budget = 0 then ok (s.trapAt t w Cause.budget 0)
      else if !wordOk i t ∨ illegalUse (x.priv == 1) i then ok ((s.issued t w).trapAt t w Cause.illegal w.toNat)
      else if x.priv = 1 ∧ !handlerAllows i then ok ((s.issued t w).trapAt t w Cause.privilege w.toNat)
      else if effectful w ∧ x.discarded then
        ok (((s.issued t w).modThread t ({ · with discarded := false })).trapAt t w Cause.discarded 0)
      else if effectful w ∧ (x.window.elim false fun v => !v.verified) then ok (s.modThread t ({ · with wait := .crc }))
      else match prep w s with
        | (s, some k) => ok (k (s.issued t w))
        | (s, none) => ok s

/-- An instruction that never waits. -/
def State.instr1 (s : State) (t : Nat) (i : Instr) (k : BitVec 32 → State → State) : Host.Outcome State Fault Refusal :=
  s.instr t i fun w s => (s, some (k w))

/-- An ALU instruction over two registers. -/
def State.alu2 (s : State) (t : Nat) (i : Instr) (rd ra rb : GReg) (f : Word → Word → Word) : Host.Outcome State Fault Refusal :=
  s.instr1 t i fun _ s => s.result t rd (f (s.greg t ra) (s.greg t rb))

/-- An ALU instruction over a register and an immediate. -/
def State.alu1 (s : State) (t : Nat) (i : Instr) (rd ra : GReg) (f : Word → Word) : Host.Outcome State Fault Refusal :=
  s.instr1 t i fun _ s => s.result t rd (f (s.greg t ra))

/-! ### Integer instructions (R325, R326) -/

/-- A flag as a word. -/
def boolWord (b : Bool) : Word := if b then 1 else 0

/-- Leading zero bits of a word. -/
def leadingZeros (x : Word) : Nat := if x = 0 then 64 else 63 - x.toNat.log2

/-- Trailing zero bits of a word. -/
def trailingZeros (x : Word) : Nat := ((List.range 64).find? fun k => x.getLsbD k).getD 64

/-- The one bits of a word. -/
def oneBits (x : Word) : Nat := ((List.range 64).filter fun k => x.getLsbD k).length

/-- A byte string of a word, reversed. -/
def reverseBytes (n : Nat) (x : Word) : Word := BitVec.ofNat 64 (ofBE (leBytes n x.toNat))

/-- CRC8: eight bytes, most significant first, into the CRC-32C register (R325, R118). -/
def crc8Step (a b : Word) : Word := ((beBytes 8 b.toNat).foldl crc32cByte (a.setWidth 32)).setWidth 64

def execAdd (t : Nat) (rd ra rb : GReg) (s : State) : Host.Outcome State Fault Refusal :=
  s.alu2 t (.add t rd ra rb) rd ra rb (· + ·)
def execSub (t : Nat) (rd ra rb : GReg) (s : State) : Host.Outcome State Fault Refusal :=
  s.alu2 t (.sub t rd ra rb) rd ra rb (· - ·)
def execAnd (t : Nat) (rd ra rb : GReg) (s : State) : Host.Outcome State Fault Refusal :=
  s.alu2 t (.and t rd ra rb) rd ra rb (· &&& ·)
def execOr (t : Nat) (rd ra rb : GReg) (s : State) : Host.Outcome State Fault Refusal :=
  s.alu2 t (.or t rd ra rb) rd ra rb (· ||| ·)
def execXor (t : Nat) (rd ra rb : GReg) (s : State) : Host.Outcome State Fault Refusal :=
  s.alu2 t (.xor t rd ra rb) rd ra rb (· ^^^ ·)
def execSll (t : Nat) (rd ra rb : GReg) (s : State) : Host.Outcome State Fault Refusal :=
  s.alu2 t (.sll t rd ra rb) rd ra rb fun a b => a <<< (b.toNat % 64)
def execSrl (t : Nat) (rd ra rb : GReg) (s : State) : Host.Outcome State Fault Refusal :=
  s.alu2 t (.srl t rd ra rb) rd ra rb fun a b => a >>> (b.toNat % 64)
def execSra (t : Nat) (rd ra rb : GReg) (s : State) : Host.Outcome State Fault Refusal :=
  s.alu2 t (.sra t rd ra rb) rd ra rb fun a b => a.sshiftRight (b.toNat % 64)
def execSlt (t : Nat) (rd ra rb : GReg) (s : State) : Host.Outcome State Fault Refusal :=
  s.alu2 t (.slt t rd ra rb) rd ra rb fun a b => boolWord (a.slt b)
def execSltu (t : Nat) (rd ra rb : GReg) (s : State) : Host.Outcome State Fault Refusal :=
  s.alu2 t (.sltu t rd ra rb) rd ra rb fun a b => boolWord (a.ult b)
def execMul (t : Nat) (rd ra rb : GReg) (s : State) : Host.Outcome State Fault Refusal :=
  s.alu2 t (.mul t rd ra rb) rd ra rb (· * ·)
def execMulhu (t : Nat) (rd ra rb : GReg) (s : State) : Host.Outcome State Fault Refusal :=
  s.alu2 t (.mulhu t rd ra rb) rd ra rb fun a b => BitVec.ofNat 64 (a.toNat * b.toNat / 2 ^ 64)
def execMulh (t : Nat) (rd ra rb : GReg) (s : State) : Host.Outcome State Fault Refusal :=
  s.alu2 t (.mulh t rd ra rb) rd ra rb fun a b => BitVec.ofInt 64 (a.toInt * b.toInt / 2 ^ 64)
def execDivu (t : Nat) (rd ra rb : GReg) (s : State) : Host.Outcome State Fault Refusal :=
  s.alu2 t (.divu t rd ra rb) rd ra rb fun a b => if b = 0 then BitVec.allOnes 64 else BitVec.ofNat 64 (a.toNat / b.toNat)
def execRemu (t : Nat) (rd ra rb : GReg) (s : State) : Host.Outcome State Fault Refusal :=
  s.alu2 t (.remu t rd ra rb) rd ra rb fun a b => if b = 0 then a else BitVec.ofNat 64 (a.toNat % b.toNat)
def execMin (t : Nat) (rd ra rb : GReg) (s : State) : Host.Outcome State Fault Refusal :=
  s.alu2 t (.min t rd ra rb) rd ra rb fun a b => if a.slt b then a else b
def execMax (t : Nat) (rd ra rb : GReg) (s : State) : Host.Outcome State Fault Refusal :=
  s.alu2 t (.max t rd ra rb) rd ra rb fun a b => if a.slt b then b else a
def execMinu (t : Nat) (rd ra rb : GReg) (s : State) : Host.Outcome State Fault Refusal :=
  s.alu2 t (.minu t rd ra rb) rd ra rb fun a b => if a.ult b then a else b
def execMaxu (t : Nat) (rd ra rb : GReg) (s : State) : Host.Outcome State Fault Refusal :=
  s.alu2 t (.maxu t rd ra rb) rd ra rb fun a b => if a.ult b then b else a
def execClz (t : Nat) (rd ra rb : GReg) (s : State) : Host.Outcome State Fault Refusal :=
  s.alu1 t (.clz t rd ra rb) rd ra fun a => BitVec.ofNat 64 (leadingZeros a)
def execCtz (t : Nat) (rd ra rb : GReg) (s : State) : Host.Outcome State Fault Refusal :=
  s.alu1 t (.ctz t rd ra rb) rd ra fun a => BitVec.ofNat 64 (trailingZeros a)
def execPopc (t : Nat) (rd ra rb : GReg) (s : State) : Host.Outcome State Fault Refusal :=
  s.alu1 t (.popc t rd ra rb) rd ra fun a => BitVec.ofNat 64 (oneBits a)
def execBswap (t : Nat) (rd ra rb : GReg) (s : State) : Host.Outcome State Fault Refusal :=
  s.alu1 t (.bswap t rd ra rb) rd ra (reverseBytes 8)
def execBswap4 (t : Nat) (rd ra rb : GReg) (s : State) : Host.Outcome State Fault Refusal :=
  s.alu1 t (.bswap4 t rd ra rb) rd ra (reverseBytes 4)
def execCrc8 (t : Nat) (rd ra rb : GReg) (s : State) : Host.Outcome State Fault Refusal :=
  s.alu2 t (.crc8 t rd ra rb) rd ra rb crc8Step

def execAddi (t : Nat) (rd ra : GReg) (imm : BitVec 16) (s : State) : Host.Outcome State Fault Refusal :=
  s.alu1 t (.addi t rd ra imm) rd ra (· + imm.signExtend 64)
def execAndi (t : Nat) (rd ra : GReg) (imm : BitVec 16) (s : State) : Host.Outcome State Fault Refusal :=
  s.alu1 t (.andi t rd ra imm) rd ra (· &&& imm.setWidth 64)
def execOri (t : Nat) (rd ra : GReg) (imm : BitVec 16) (s : State) : Host.Outcome State Fault Refusal :=
  s.alu1 t (.ori t rd ra imm) rd ra (· ||| imm.setWidth 64)
def execXori (t : Nat) (rd ra : GReg) (imm : BitVec 16) (s : State) : Host.Outcome State Fault Refusal :=
  s.alu1 t (.xori t rd ra imm) rd ra (· ^^^ imm.setWidth 64)
def execSlti (t : Nat) (rd ra : GReg) (imm : BitVec 16) (s : State) : Host.Outcome State Fault Refusal :=
  s.alu1 t (.slti t rd ra imm) rd ra fun a => boolWord (a.slt (imm.signExtend 64))
def execSltiu (t : Nat) (rd ra : GReg) (imm : BitVec 16) (s : State) : Host.Outcome State Fault Refusal :=
  s.alu1 t (.sltiu t rd ra imm) rd ra fun a => boolWord (a.ult (imm.setWidth 64))

/-- The shifts of SHIFTI: 0 SLL, 1 SRL, 2 SRA, 3 rotate right (R326). -/
def shiftBy (imm : BitVec 16) (a : Word) : Word :=
  let n := imm.toNat % 64
  match imm.toNat / 64 % 4 with
  | 0 => a <<< n
  | 1 => a >>> n
  | 2 => a.sshiftRight n
  | _ => a.rotateRight n

def execShifti (t : Nat) (rd ra : GReg) (imm : BitVec 16) (s : State) : Host.Outcome State Fault Refusal :=
  s.alu1 t (.shifti t rd ra imm) rd ra (shiftBy imm)
/-- R326: LIH. -/
def execLih (t : Nat) (rd : GReg) (imm : BitVec 21) (s : State) : Host.Outcome State Fault Refusal :=
  s.instr1 t (.lih t rd imm) fun _ s => s.result t rd (imm.signExtend 64 <<< 16)

/-! ### Branches and jumps (R327) -/

/-- A branch on a comparison of ra with rb. -/
def State.branch (s : State) (t : Nat) (i : Instr) (rb ra : GReg) (imm : BitVec 16) (c : Word → Word → Bool) :
    Host.Outcome State Fault Refusal :=
  s.instr1 t i fun w s =>
    if c (s.greg t ra) (s.greg t rb) then s.jump t w ((s.thread t).pc + 4 * imm.toInt) 0 else s.goOn t

def execBeq (t : Nat) (rb ra : GReg) (imm : BitVec 16) (s : State) : Host.Outcome State Fault Refusal :=
  s.branch t (.beq t rb ra imm) rb ra imm (· == ·)
def execBne (t : Nat) (rb ra : GReg) (imm : BitVec 16) (s : State) : Host.Outcome State Fault Refusal :=
  s.branch t (.bne t rb ra imm) rb ra imm (· != ·)
def execBlt (t : Nat) (rb ra : GReg) (imm : BitVec 16) (s : State) : Host.Outcome State Fault Refusal :=
  s.branch t (.blt t rb ra imm) rb ra imm fun a b => a.slt b
def execBge (t : Nat) (rb ra : GReg) (imm : BitVec 16) (s : State) : Host.Outcome State Fault Refusal :=
  s.branch t (.bge t rb ra imm) rb ra imm fun a b => !a.slt b
def execBltu (t : Nat) (rb ra : GReg) (imm : BitVec 16) (s : State) : Host.Outcome State Fault Refusal :=
  s.branch t (.bltu t rb ra imm) rb ra imm fun a b => a.ult b
def execBgeu (t : Nat) (rb ra : GReg) (imm : BitVec 16) (s : State) : Host.Outcome State Fault Refusal :=
  s.branch t (.bgeu t rb ra imm) rb ra imm fun a b => !a.ult b
/-- R327: JAL. -/
def execJal (t : Nat) (rd : GReg) (imm : BitVec 21) (s : State) : Host.Outcome State Fault Refusal :=
  s.instr1 t (.jal t rd imm) fun w s => s.jump t w ((s.thread t).pc + 4 * imm.toInt) rd
/-- R327: JALR: the target uses ra's old value. -/
def execJalr (t : Nat) (rd ra : GReg) (imm : BitVec 16) (s : State) : Host.Outcome State Fault Refusal :=
  s.instr1 t (.jalr t rd ra imm) fun w s => s.jump t w ((s.greg t ra + imm.signExtend 64).toNat) rd

/-! ### Fences (R332, R333, R363) and EXIT (R347, R348) -/

/-- What a fence of a kind waits for has come: 0 FULL, 1 ACQUIRE, 2 RELEASE, 3 DEVICE. -/
def Thread.fenceMet (x : Thread) (kind : Nat) : Bool :=
  match kind with
  | 1 => x.pend.all fun a => a.performed || a.kind == .store
  | 3 => x.pend.isEmpty
  | _ => x.pend.all (·.performed)

/-- A fence completes with its fault flag (R333). -/
def State.fenceDone (s : State) (t : Nat) (rd : GReg) (fault : Bool) : State :=
  let s := s.modThread t fun x => { (x.put rd (boolWord fault)) with
    bfault := x.bfault || fault, fenceFail := false, wait := .none }
  let x := s.thread t
  if fault ∧ x.trapEn % 2 = 1 then
    s.trap t { cause := Cause.barrier, pc := x.pc, word := s.codeWord t x.pc, info := 0, detail := 0 }
  else s.goOn t

/-- A program ends with EXIT, once its FULL fence has completed (R347, R348). -/
def State.exitDone (s : State) (t : Nat) : State :=
  let x := s.thread t
  let s := (s.stamp x.tag 4).endTag x.tag
  match x.run with
  | none => s.endThread t
  | some r =>
    if x.fenceFail ∧ !r.stop then
      s.handlerTrap t r { cause := Cause.barrier, pc := x.pc, word := s.codeWord t x.pc, info := 0, detail := 0 }
    else s.endRun t r none

/-- A thread whose fence or EXIT waits goes on when what it waits for has come. -/
def State.wake (s : State) (t : Nat) : State :=
  let x := s.thread t
  match x.wait with
  | .fence kind rd => if x.fenceMet kind then s.fenceDone t rd x.fenceFail else s
  | .exit => if x.fenceMet 0 then s.exitDone t else s
  | _ => s

/-- A fence: it completes at once with nothing to wait for (R363). -/
def State.fence (s : State) (t : Nat) (i : Instr) (kind : Nat) (rd : GReg) : Host.Outcome State Fault Refusal :=
  s.instr1 t i fun _ s => (s.modThread t ({ · with wait := .fence kind rd, fenceFail := false })).wake t

def execFenceFull (t : Nat) (rd : GReg) (s : State) : Host.Outcome State Fault Refusal := s.fence t (.fenceFull t rd) 0 rd
def execFenceAcquire (t : Nat) (rd : GReg) (s : State) : Host.Outcome State Fault Refusal := s.fence t (.fenceAcquire t rd) 1 rd
def execFenceRelease (t : Nat) (rd : GReg) (s : State) : Host.Outcome State Fault Refusal := s.fence t (.fenceRelease t rd) 2 rd
def execFenceDevice (t : Nat) (rd : GReg) (s : State) : Host.Outcome State Fault Refusal := s.fence t (.fenceDevice t rd) 3 rd

/-! ### Control registers (R317) -/

/-- The value of a control register. -/
def State.csr (s : State) (t n : Nat) : Nat :=
  let x := s.thread t
  let handler : Bool := x.priv == 1
  if 0x008 ≤ n ∧ n ≤ 0x00F then mgetD x.ks (n - 8) 0
  else match n with
    | 0x000 => threadId t
    | 0x001 => x.priv
    | 0x002 => if handler then x.budget else 0
    | 0x003 => s.time
    | 0x004 => mgetD s.fg.cycles (t / 128) 0
    | 0x010 => if x.bfault then 1 else 0
    | 0x011 => if handler then 0 else x.trapEn
    | 0x012 => x.trapCause
    | 0x013 => x.trapPc
    | 0x014 => x.trapInfo.toNat
    | 0x015 => x.trapDetail
    | 0x016 => x.trapVec
    | 0x017 => if x.inTrap then 1 else 0
    | 0x018 => x.accDomain
    | 0x019 => x.qpCtx
    | 0x01A => if handler then x.events else 0
    | _ => 0

/-- Write a control register. -/
def Thread.setCsr (x : Thread) (n : Nat) (v : Word) : Thread :=
  if 0x008 ≤ n ∧ n ≤ 0x00F then { x with ks := mset x.ks (n - 8) (bits v 0 32) }
  else match n with
    | 0x010 => { x with bfault := x.bfault && !bit v 0 }
    | 0x011 => { x with trapEn := bits v 0 2 }
    | 0x016 => { x with trapVec := bits v 0 32 }
    | 0x018 => { x with accDomain := bits v 0 11 + bits v 16 16 * 2 ^ 16 }
    | 0x019 => { x with qpCtx := bits v 0 24 }
    | _ => x

/-- R317: CSRR. -/
def execCsrr (t : Nat) (rd : GReg) (csr : BitVec 16) (s : State) : Host.Outcome State Fault Refusal :=
  s.instr1 t (.csrr t rd csr) fun w s =>
    match csrAccess ((s.thread t).priv == 1) csr.toNat with
    | none => s.trapAt t w Cause.illegal w.toNat
    | some (false, _) => s.trapAt t w Cause.privilege w.toNat
    | some (true, _) => s.result t rd (BitVec.ofNat 64 (s.csr t csr.toNat))

/-- R317: CSRW. -/
def execCsrw (t : Nat) (ra : GReg) (csr : BitVec 16) (s : State) : Host.Outcome State Fault Refusal :=
  s.instr1 t (.csrw t ra csr) fun w s =>
    match csrAccess ((s.thread t).priv == 1) csr.toNat with
    | none => s.trapAt t w Cause.illegal w.toNat
    | some (_, false) => s.trapAt t w Cause.privilege w.toNat
    | some (_, true) => (s.modThread t fun x => x.setCsr csr.toNat (x.get ra)).goOn t

/-! ### System instructions (R343) -/

/-- R343: NOP. -/
def execSysNop (t : Nat) (s : State) : Host.Outcome State Fault Refusal := s.instr1 t (.sysNop t) fun _ s => s.goOn t

/-- R343, R329: YIELD gives the issue slot away; it clears the reservation. -/
def execYieldSlot (t : Nat) (s : State) : Host.Outcome State Fault Refusal :=
  s.instr1 t (.yieldSlot t) fun _ s => (s.modThread t Thread.loseResv).goOn t

/-- R343: TRAP. -/
def execTrap (t : Nat) (ra : GReg) (s : State) : Host.Outcome State Fault Refusal :=
  s.instr1 t (.trap t ra) fun w s => s.trapAt t w Cause.software (s.greg t ra).toNat

/-- R347, R348: EXIT. -/
def execExit (t : Nat) (s : State) : Host.Outcome State Fault Refusal :=
  s.instr1 t (.exit t) fun _ s => (s.modThread t ({ · with wait := .exit, fenceFail := false })).wake t

/-- R343: XRET: back to TRAP_PC + 4, or to TRAP_PC when ra is 1. -/
def execXret (t : Nat) (ra : GReg) (s : State) : Host.Outcome State Fault Refusal :=
  s.instr1 t (.xret t ra) fun w s =>
    let x := s.thread t
    let target := if x.get ra = 1 then x.trapPc else x.trapPc + 4
    if inCode x.code target then (s.jump t w target 0).modThread t ({ · with inTrap := false })
    else s.trapAt t w Cause.fetch target

/-- R343, R329: WAIT for the hive's signal. -/
def execWait (t : Nat) (rd : GReg) (s : State) : Host.Outcome State Fault Refusal :=
  s.instr1 t (.wait t rd) fun _ s => s.modThread t fun x => { x.loseResv with wait := .signal rd }

/-- R343: the hive signals a thread that waits, with a reason that firmware defines. -/
def execThreadWake (t : Nat) (reason : Word) (s : State) : Host.Outcome State Fault Refusal := s.clocked <|
  match (s.thread t).wait with
  | .signal rd => ok (s.result t rd reason)
  | _ => ok s

/-- R346: a handler with no budget left traps BUDGET instead of issuing. -/
def execHandlerBudgetExhausted (t : Nat) (s : State) : Host.Outcome State Fault Refusal := s.clocked <|
  let x := s.thread t
  if x.st = .running ∧ x.wait = .none ∧ x.priv = 1 ∧ x.budget = 0 ∧ !(x.pend.any Access.holds) then
    ok (s.trapAt t (BitVec.ofNat 32 (s.codeWord t x.pc)) Cause.budget 0)
  else ok s

end Sys2Proof.Machine
end

