-- ==== Sys2Proof/Machine/ForagerCalls.lean ====
section
/-! DEFINITION. What forager instructions ask of other units: addresses and key checks, loads, stores, atomics, packet
windows, DMA, the match units, the lock unit, events (R318 to R321, R328 to R331, R334 to R342, R354 to R360, R364 to R367,
R371 to R379). The accesses are performed by the events of FORAGER_ACCESS_RESPONSE and its like. -/

namespace Sys2Proof.Machine

/-! ### Addresses (R318 to R321, R354) -/

/-- Where an access of a thread lands: target, the ranges of target addresses, attributes (some range is device memory; early
acknowledgement), the key used. `marks` are the attributes of each range, where they differ (R354, R355). -/
structure Spot where
  target : Target
  pieces : List (Nat × Nat)
  device : Bool := false
  early : Bool := false
  marks : List (Bool × Bool) := []
  key : Option Nat := none
  /-- The range of the leaves in use, and the function of their context (R399). -/
  cover : Nat × Nat := (0, 0)
  fn : Nat := 0
  deriving DecidableEq, Repr

/-- How the resolution of an address ends: a spot, a trap (cause and TRAP_DETAIL), a wait for a walk. -/
inductive Resolved where
  | ok (x : Spot)
  | trap (cause detail : Nat)
  | wait
  deriving DecidableEq, Repr

/-- TRAP_DETAIL from a status and a DETAIL (R317). -/
def trapDetail (status detail : Nat) : Nat := status + detail * 256

/-- Cut a range at 4 KiB boundaries, where the attributes of addresses may change (R355). -/
def cutPages : Nat → Nat → Nat → List (Nat × Nat)
  | 0, _, _ => []
  | f + 1, a, n =>
    if n = 0 then []
    else
      let m := min n (4096 - a % 4096)
      (a, m) :: cutPages f (a + m) (n - m)

/-- Device and early acknowledgement of a target address (R354, R355); on a page with side effects every address is device. -/
def State.attrs (s : State) (code a : Nat) (side : Bool) : Bool × Bool :=
  match s.rat code a with
  | some (d, e, _) => (side || d, (side || d) && e)
  | none => (side, false)

/-- A spot with the attributes of its ranges: one range per run of pages only where pages differ (R354, R355). -/
def State.marked (s : State) (code : Nat) (x : Spot) (sides : List Bool) : Spot :=
  let cut := (x.pieces.zipIdx.map fun p => (cutPages (p.1.2 + 1) p.1.1 p.1.2).map fun q => (q, s.attrs code q.1 (sides.getD p.2 false))).flatten
  let m := (cut.map (·.2)).headD (false, false)
  if cut.all fun q => q.2 == m then { x with device := m.1, early := m.2 }
  else { x with pieces := cut.map (·.1), marks := cut.map (·.2), device := true, early := false }

/-- A store access with the attributes of its address (R354, R355). -/
def State.storeSpot (s : State) (a n : Nat) (key : Option Nat) : Spot :=
  s.marked 0 { target := .store, pieces := [(a, n)], key := key } []

/-- A host access: translated, with the attributes of its bus addresses; device where a page has side effects (R354). A quiesced HOST
crossing takes up no new one (R23). -/
def State.hostSpot (s : State) (t fn va n kind : Nat) (key : Option Nat) : State × Resolved :=
  if !s.admits 6 then (s, .wait)
  else match s.translate (.thread t) fn va n kind with
  | (s, .wait) => (s, .wait)
  | (s, .fault st d) => (s, .trap Cause.bus (trapDetail st d))
  | (s, .ok ps sides cover) =>
    (s, .ok (s.marked (1 + fn / 256) { target := .host (fn / 256), pieces := ps, key := key, cover := cover, fn := fn } sides))

/-- Where an address lies before any translation: on the device, in a host's memory at a virtual address of a function, or nowhere:
a trap (cause and TRAP_DETAIL). -/
inductive Located where
  | spot (x : Spot)
  | host (fn va : Nat) (key : Option Nat)
  | trap (cause detail : Nat)
  deriving DecidableEq, Repr

/-- The function and protection domain of a thread's keyed checks (R319). -/
def Thread.domain (x : Thread) : Nat × Nat :=
  match x.run with
  | some r => (r.fn, r.pd)
  | none => (x.accDomain % 2 ^ 11, x.accDomain / 2 ^ 16)

/-- A keyed address (R319, R320). A key that was valid when the handler's run began and is no more has been revoked: DETAIL 2, though its
entry may be free by now (R349). -/
def State.keySpot (s : State) (t slot off n kind : Nat) : State × Located :=
  let x := s.thread t
  let k := mgetD x.ks slot 0
  let e := s.key (keyIndex k)
  let d := x.domain
  let revoked : Bool := x.run.any fun r => r.slots.contains slot
  let bad := match s.checkLocal k d.1 d.2 (if kind = accRead then 0 else rLocalWrite) (e.base + off) n with
    | some d => some (if d = 1 ∧ revoked then 2 else d)
    | none =>
      match x.run with
      | some r => if slot = 0 ∧ !(decide (r.off0 ≤ off) && decide (off + n ≤ r.off0 + r.len0)) then some 6 else none
      | none => none
  match bad with
  | some d => (s, .trap Cause.access (trapDetail St.localProt d))
  | none =>
    let s := s.cacheKey (keyIndex k)
    if e.store then (s, .spot (s.storeSpot (e.storeAddr + off) n (some (keyIndex k))))
    else (s, .host e.fn (e.base + off) (some (keyIndex k)))

/-- The frame of a handler thread in its hive's SRAM (R318). -/
def frameOf (t : Nat) : Nat := 0x180000 + 4096 * (127 - t % 128)

/-- Where `n` bytes at a forager address lie for a kind of access (R318, R319). -/
def State.locate (s : State) (t : Nat) (a : Word) (n kind : Nat) : State × Located :=
  let x := s.thread t
  let handler : Bool := x.priv == 1
  let space := bits a 60 4
  let off := bits a 0 60
  let no : State × Located := (s, .trap Cause.access 0)
  if 8 ≤ space then (if handler ∧ 12 < space then no else s.keySpot t (space - 8) off n kind)
  else match space with
    | 0 =>
      if handler then
        (if off + n ≤ 4096 then (s, .spot { target := .hive (t / 128), pieces := [(frameOf t + off, n)] }) else no)
      else if off + n ≤ 2 ^ 21 ∧ (kind = accRead ∨ 0x100000 ≤ off) then
        (s, .spot { target := .hive (t / 128), pieces := [(off, n)] })
      else no
    | 1 => if handler ∨ 2 ^ 37 < off + n then no else (s, .spot (s.storeSpot off n none))
    | 2 => if handler ∨ 2 ^ 57 < off + n then no else (s, .host x.domain.1 off none)
    | 3 => if handler ∨ 2 ^ 26 < off + n ∨ n % 8 ≠ 0 then no else (s, .spot { target := .reg, pieces := [(off, n)], device := true })
    | 4 => if kind = accRead ∧ off + n ≤ (s.rodata t).length then (s, .spot { target := .rodata, pieces := [(off, n)] }) else no
    | _ => no

/-- Resolve `n` bytes at a forager address for a kind of access (R318, R319, R354). -/
def State.resolve (s : State) (t : Nat) (a : Word) (n kind : Nat) : State × Resolved :=
  match s.locate t a n kind with
  | (s, .spot x) => (s, .ok x)
  | (s, .trap c d) => (s, .trap c d)
  | (s, .host fn va key) => s.hostSpot t fn va n kind key

/-- A call addresses REG beyond whole registers: it is misaligned (R328; log entry 41). -/
def Spot.misfit (x : Spot) : Bool := x.target == .reg && x.pieces.any fun p => p.1 % 8 != 0 || p.2 % 8 != 0

/-! ### Accesses in progress (R357 to R360, R367) -/

/-- Cut a range into the aligned 8-byte pieces that it touches: address, length, place in the whole (R367). -/
def cutUnits : Nat → Nat → Nat → Nat → List (Nat × Nat × Nat)
  | 0, _, _, _ => []
  | f + 1, a, n, off =>
    if n = 0 then []
    else
      let m := min n (8 - a % 8)
      (a, m, off) :: cutUnits f (a + m) (n - m) (off + m)

/-- One aligned piece of an access: address, length, place in the whole, its attributes. -/
structure Piece where
  addr : Nat
  width : Nat
  off : Nat
  device : Bool := false
  early : Bool := false
  deriving DecidableEq, Repr

/-- The units of a range with attributes, from a place in the whole on. -/
def rangeUnits (a n off : Nat) (mark : Bool × Bool) : List Piece :=
  (cutUnits (n + 1) a n off).map fun u => { addr := u.1, width := u.2.1, off := u.2.2, device := mark.1, early := mark.2 }

/-- The units of all ranges of a spot. -/
def Spot.units (x : Spot) : List Piece :=
  (x.pieces.foldl (fun (acc : List Piece × Nat × Nat) p =>
    (acc.1 ++ rangeUnits p.1 p.2 acc.2.1 (x.marks.getD acc.2.2 (x.device, x.early)), acc.2.1 + p.2, acc.2.2 + 1)) ([], 0, 0)).1

/-- An access of a range at a target overlaps an access in progress. -/
def Access.meets (a : Access) (target : Target) (addr n : Nat) : Bool := a.target == target && overlap a.addr a.width addr n

/-- An earlier access of the thread that overlaps a spot and is not yet performed (R360). -/
def Thread.clash (x : Thread) (sp : Spot) : Bool :=
  x.pend.any fun a => !a.performed && sp.pieces.any fun p => a.meets sp.target p.1 p.2

/-- A device access waits until every earlier device access is performed (R359). -/
def Thread.deviceBusy (x : Thread) (sp : Spot) : Bool := sp.device && x.pend.any fun a => a.device && !a.performed

/-- Add an access to those of a thread, with an in-use reference on its key (R319). -/
def State.addAccess (s : State) (t : Nat) (a : Access) : State :=
  let x := s.thread t
  let s := match a.key with | some k => s.takeRef k | none => s
  s.setThread t { x with pend := x.pend ++ [{ a with id := x.nextAcc }], nextAcc := x.nextAcc + 1 }

/-- The number by which the outside answers an access of a thread. -/
def accessId (t k : Nat) : Nat := 2 ^ 48 + t * 2 ^ 32 + k

/-- Ask a host link for the data of an access (R492). -/
def State.askHost (s : State) (t k : Nat) (a : Access) : State :=
  match a.target with
  | .host l => s.emit (.hostRead l a.addr a.width (accessId t k))
  | _ => s

/-- The store answers now: its crossing is not quiesced, its block not in reset (R24, R436). -/
def State.storeAnswers (s : State) : Bool := s.admits 5 && !s.ft.units.contains 82

/-- The access of a piece of a spot. -/
def Spot.access (x : Spot) (kind : AccKind) (group : Nat) (u : Piece) : Access :=
  { id := 0, kind := kind, target := x.target, addr := u.addr, width := u.width, device := u.device, early := u.early, group := group,
    off := u.off, key := x.key, cover := x.cover, owner := x.fn }

/-- Add the writes of bytes at a spot; those of a PLACE whose packet has not passed its CRC are queued (R337). -/
def State.addWrites (s : State) (t : Nat) (x : Spot) (b : List Byte) (faddr : Nat) (place : Bool) (queued : Bool := false) : State :=
  let g := (s.thread t).nextAcc
  x.units.foldl (fun s u => s.addAccess t { x.access .store g u with
    bytes := slice b u.off u.width, total := b.length, faddr := faddr, place := place, queued := queued, pc := (s.thread t).pc }) s

/-- Add the reads of a load, and ask the host for what lies there. -/
def State.addLoads (s : State) (t : Nat) (x : Spot) (n : Nat) (faddr : Nat) (rd : GReg) (signed : Bool) : State :=
  let g := (s.thread t).nextAcc
  let tag := (s.thread t).tag
  let s := s.modThread t ({ · with tag := none, last := some g })
  x.units.foldl (fun s u =>
    let a := { x.access .load g u with rd := some rd, signed := signed, total := n, faddr := faddr, pc := (s.thread t).pc, tag := tag }
    (s.addAccess t a).askHost t (s.thread t).nextAcc a) s

/-- A value with `n` bytes, extended (R328). -/
def extend (signed : Bool) (n v : Nat) : Word := if signed then BitVec.ofInt 64 (toSigned (8 * n) v) else BitVec.ofNat 64 v

/-! ### Loads and stores (R328, R331) -/

/-- The address of a load or a store (R328). -/
def State.memAddr (s : State) (t : Nat) (ra : GReg) (imm : BitVec 16) : Word := s.greg t ra + imm.signExtend 64

/-- The packet in the thread's window has not passed its CRC (R337). -/
def Thread.unverified (x : Thread) : Bool := x.window.elim false fun v => !v.verified

/-- A read of the store at a spot meets an uncorrected error now (R331). -/
def State.meetsPoison (s : State) (x : Spot) : Bool := x.target == .store && x.pieces.any fun p => s.poisoned p.1 p.2

/-- The read of a spot traps BUS with STORE_POISON (R331, R105). -/
def State.poisonTrap (s : State) (t : Nat) (w : BitVec 32) (x : Spot) (a : Word) : State :=
  (x.pieces.foldl (fun (s : State) p => s.reportPoison p.1 p.2) s).trapAt t w Cause.bus a.toNat (trapDetail St.remoteOpError 11)

/-- A load (R328): from read-only data at once, else by accesses that other events perform. A device load keeps the thread at its
instruction; after another the thread goes on (R362), and a failure that comes later traps at the load (R331, R492; log entry
50). -/
def State.load (s : State) (t : Nat) (i : Instr) (rd ra : GReg) (imm : BitVec 16) (n : Nat) (signed : Bool) :
    Host.Outcome State Fault Refusal :=
  s.instr t i fun w s =>
    let a := s.memAddr t ra imm
    match s.resolve t a n accRead with
    | (s, .wait) => (s, none)
    | (s, .trap c d) => (s, some fun s => s.trapAt t w c a.toNat d)
    | (s, .ok x) =>
      if x.device ∧ a.toNat % n ≠ 0 then (s, some fun s => s.trapAt t w Cause.align a.toNat)
      else if x.device ∧ (s.thread t).unverified then (s.modThread t ({ · with wait := .crc }), none)
      else if x.target = .rodata then
        let v := ofLE (slice (s.rodata t) ((x.pieces.headD (0, 0)).1) n)
        (s, some fun s => s.result t rd (extend signed n v))
      else if (s.thread t).deviceBusy x then (s, none)
      else
        let host : Bool := match x.target with | .host _ => true | _ => false
        let clash := (s.thread t).clash x
        if host ∧ clash then (s, none)
        else if !x.device ∧ !clash ∧ s.meetsPoison x then (s, some fun s => s.poisonTrap t w x a)
        else (s, some fun s =>
          let s := s.addLoads t x n a.toNat rd signed
          if x.device then s else s.goOn t)

def execLb (t : Nat) (rd ra : GReg) (imm : BitVec 16) (s : State) : Host.Outcome State Fault Refusal :=
  s.load t (.lb t rd ra imm) rd ra imm 1 true
def execLbu (t : Nat) (rd ra : GReg) (imm : BitVec 16) (s : State) : Host.Outcome State Fault Refusal :=
  s.load t (.lbu t rd ra imm) rd ra imm 1 false
def execLh (t : Nat) (rd ra : GReg) (imm : BitVec 16) (s : State) : Host.Outcome State Fault Refusal :=
  s.load t (.lh t rd ra imm) rd ra imm 2 true
def execLhu (t : Nat) (rd ra : GReg) (imm : BitVec 16) (s : State) : Host.Outcome State Fault Refusal :=
  s.load t (.lhu t rd ra imm) rd ra imm 2 false
def execLw (t : Nat) (rd ra : GReg) (imm : BitVec 16) (s : State) : Host.Outcome State Fault Refusal :=
  s.load t (.lw t rd ra imm) rd ra imm 4 true
def execLwu (t : Nat) (rd ra : GReg) (imm : BitVec 16) (s : State) : Host.Outcome State Fault Refusal :=
  s.load t (.lwu t rd ra imm) rd ra imm 4 false
def execLd (t : Nat) (rd ra : GReg) (imm : BitVec 16) (s : State) : Host.Outcome State Fault Refusal :=
  s.load t (.ld t rd ra imm) rd ra imm 8 false

/-- A store (R328): its pieces wait until other events perform them. -/
def State.storeI (s : State) (t : Nat) (i : Instr) (rb ra : GReg) (imm : BitVec 16) (n : Nat) : Host.Outcome State Fault Refusal :=
  s.instr t i fun w s =>
    let a := s.memAddr t ra imm
    match s.resolve t a n accWrite with
    | (s, .wait) => (s, none)
    | (s, .trap c d) => (s, some fun s => s.trapAt t w c a.toNat d)
    | (s, .ok x) =>
      if x.device ∧ a.toNat % n ≠ 0 then (s, some fun s => s.trapAt t w Cause.align a.toNat)
      else if (s.thread t).deviceBusy x then (s, none)
      else (s, some fun s => (s.addWrites t x (leBytes n (s.greg t rb).toNat) a.toNat false).goOn t)

def execSb (t : Nat) (rb ra : GReg) (imm : BitVec 16) (s : State) : Host.Outcome State Fault Refusal :=
  s.storeI t (.sb t rb ra imm) rb ra imm 1
def execSh (t : Nat) (rb ra : GReg) (imm : BitVec 16) (s : State) : Host.Outcome State Fault Refusal :=
  s.storeI t (.sh t rb ra imm) rb ra imm 2
def execSw (t : Nat) (rb ra : GReg) (imm : BitVec 16) (s : State) : Host.Outcome State Fault Refusal :=
  s.storeI t (.sw t rb ra imm) rb ra imm 4
def execSd (t : Nat) (rb ra : GReg) (imm : BitVec 16) (s : State) : Host.Outcome State Fault Refusal :=
  s.storeI t (.sd t rb ra imm) rb ra imm 8

/-! ### LR, SC, atomics (R329, R330) -/

/-- The single piece of an aligned access. -/
def Spot.one (x : Spot) (kind : AccKind) (group : Nat) : Access :=
  x.access kind group { addr := (x.pieces.headD (0, 0)).1, width := (x.pieces.headD (0, 0)).2, off := 0, device := x.device, early := x.early }

/-- An access that reads and writes, or takes or uses a reservation. The target is decided first: one that the instruction does not
work on traps UNSUPPORTED, and a host link without atomics traps BUS, before the address is translated (R329, R330). `atomic`
says that host memory is a target; `good` decides the targets on the device. -/
def State.pairI (s : State) (t : Nat) (i : Instr) (a : Word) (n kind : Nat) (atomic : Bool) (good : State → Spot → Bool)
    (k : Spot → State → State) : Host.Outcome State Fault Refusal :=
  s.instr t i fun w s =>
    let space := bits a 60 4
    let trap (c d : Nat) : State → State := fun s => s.trapAt t w c a.toNat d
    let go (s : State) (x : Spot) : State × Option (State → State) :=
      if (s.thread t).deviceBusy x ∨ (s.thread t).clash x then (s, none)
      else if !x.device ∧ kind ≠ accWrite ∧ s.meetsPoison x then (s, some fun s => s.poisonTrap t w x a)
      else (s, some (k x))
    if space = 3 ∨ space = 4 ∨ space = 2 ∧ !atomic then
      (s, some (trap (if (s.thread t).priv = 1 ∧ space ≠ 4 then Cause.access else Cause.unsupported) 0))
    else if a.toNat % n ≠ 0 then (s, some (trap Cause.align 0))
    else match s.locate t a n kind with
      | (s, .trap c d) => (s, some (trap c d))
      | (s, .spot x) => if good s x then go s x else (s, some (trap Cause.unsupported 0))
      | (s, .host fn va key) =>
        if !atomic then (s, some (trap Cause.unsupported 0))
        else if s.rd Reg.KEY_HOST_ATOMIC_LINK_ENABLE / 2 ^ (fn / 256) % 2 = 0 then (s, some (trap Cause.bus (trapDetail St.remoteOpError 9)))
        else match s.hostSpot t fn va n kind key with
          | (s, .wait) => (s, none)
          | (s, .trap c d) => (s, some (trap c d))
          | (s, .ok x) => go s x

/-- Issue an access that gives a value: it carries the sampler's tag of the instruction, and the thread goes on unless the access
holds it (R344). -/
def State.issueAccess (s : State) (t : Nat) (a : Access) : State :=
  let y := s.thread t
  let a := { a with pc := y.pc, tag := y.tag }
  let s := (s.modThread t ({ · with tag := none, last := some a.group })).addAccess t a
  if a.holds then s else s.goOn t

/-- R329: LR. -/
def execLr (t : Nat) (rd ra : GReg) (imm : BitVec 16) (s : State) : Host.Outcome State Fault Refusal :=
  let a := s.greg t ra
  s.pairI t (.lr t rd ra imm) a 8 accRead false (fun _ _ => true) fun x s =>
    s.issueAccess t { x.one .lr (s.thread t).nextAcc with rd := some rd, faddr := a.toNat }

/-- R329, R366: SC. -/
def execSc (t : Nat) (rd ra rb : GReg) (s : State) : Host.Outcome State Fault Refusal :=
  let a := s.greg t ra
  s.pairI t (.sc t rd ra rb) a 8 accWrite false (fun _ _ => true) fun x s =>
    s.issueAccess t { x.one .sc (s.thread t).nextAcc with
      rd := some rd, bytes := leBytes 8 (s.greg t rb).toNat, faddr := a.toNat }

/-- Start the AtomicOp of a host target, or the first read of its emulation (R102). -/
def State.askAtomic (s : State) (t k : Nat) (a : Access) : State :=
  match a.target with
  | .host l =>
    (match nativeKind (0x10 + a.fn) with
    | some kind =>
      (s.emit (.hostAtomic l a.addr kind (if kind = 1 then a.op1 else a.op0).toNat (if kind = 2 then a.op1.toNat else 0) a.width
        (accessId t k))).count 0x1C0 l (if kind = 2 then 2 * a.width else a.width) (s.threadOwner t)
    | none => s.emit (.hostRead l a.addr a.width (accessId t k)))
  | _ => s

/-- R330: an atomic with the function `fn` of R82; `hi` bit 0 selects 32-bit operands. -/
def State.atom (s : State) (t : Nat) (i : Instr) (fn : Nat) (rd ra rb rc : GReg) (hi : BitVec 3) : Host.Outcome State Fault Refusal :=
  let a := s.greg t ra
  let n := if hi.getLsbD 0 then 4 else 8
  s.pairI t i a n accAtomic true (fun s x => x.target != .store || !s.compatRange (x.pieces.headD (0, 0)).1 n) fun x s =>
    let y := s.thread t
    let b : Access := { x.one .atomic y.nextAcc with
      rd := some rd, fn := fn, op0 := y.get rb, op1 := y.get rc, faddr := a.toNat, total := n,
      stage := if (nativeKind (0x10 + fn)).isSome then 0 else 1 }
    (s.issueAccess t b).askAtomic t y.nextAcc b

def execAtomFadd (t : Nat) (rd ra rb rc : GReg) (hi : BitVec 3) (s : State) : Host.Outcome State Fault Refusal :=
  s.atom t (.atomFadd t rd ra rb rc hi) 0 rd ra rb rc hi
def execAtomCswap (t : Nat) (rd ra rb rc : GReg) (hi : BitVec 3) (s : State) : Host.Outcome State Fault Refusal :=
  s.atom t (.atomCswap t rd ra rb rc hi) 1 rd ra rb rc hi
def execAtomSwap (t : Nat) (rd ra rb rc : GReg) (hi : BitVec 3) (s : State) : Host.Outcome State Fault Refusal :=
  s.atom t (.atomSwap t rd ra rb rc hi) 2 rd ra rb rc hi
def execAtomAnd (t : Nat) (rd ra rb rc : GReg) (hi : BitVec 3) (s : State) : Host.Outcome State Fault Refusal :=
  s.atom t (.atomAnd t rd ra rb rc hi) 3 rd ra rb rc hi
def execAtomOr (t : Nat) (rd ra rb rc : GReg) (hi : BitVec 3) (s : State) : Host.Outcome State Fault Refusal :=
  s.atom t (.atomOr t rd ra rb rc hi) 4 rd ra rb rc hi
def execAtomXor (t : Nat) (rd ra rb rc : GReg) (hi : BitVec 3) (s : State) : Host.Outcome State Fault Refusal :=
  s.atom t (.atomXor t rd ra rb rc hi) 5 rd ra rb rc hi
def execAtomSmin (t : Nat) (rd ra rb rc : GReg) (hi : BitVec 3) (s : State) : Host.Outcome State Fault Refusal :=
  s.atom t (.atomSmin t rd ra rb rc hi) 6 rd ra rb rc hi
def execAtomSmax (t : Nat) (rd ra rb rc : GReg) (hi : BitVec 3) (s : State) : Host.Outcome State Fault Refusal :=
  s.atom t (.atomSmax t rd ra rb rc hi) 7 rd ra rb rc hi

/-! ### Packet windows (R334 to R338) -/

/-- The 128 bytes of an inbound window (R334). -/
def InWindow.bytes (w : InWindow) : List Byte :=
  let hdr := 16 + w.pkt.body.size
  slice w.pkt.toBytes 0 64  -- the received bytes, reserved bits included
  ++ [byte (w.port % 128), byte (w.pkt.net.vl % 8)] ++ beBytes 2 w.pkt.length ++ beBytes 4 w.handle ++ beBytes 8 w.arrived
  ++ beBytes 4 w.context ++ [byte (flag w.fromMiss 1 + flag w.verified 2), byte hdr] ++ List.replicate 42 0

/-- SIZE and OFFSET of a window access (R335). -/
def windowSize (imm : BitVec 16) : Nat := 2 ^ (imm.toNat / 2 ^ 14)
def windowAt (a : Word) (imm : BitVec 16) : Nat := a.toNat + imm.toNat % 2 ^ 14

/-- R335: PWLD. -/
def execPwld (t : Nat) (rd ra : GReg) (imm : BitVec 16) (s : State) : Host.Outcome State Fault Refusal :=
  s.instr1 t (.pwld t rd ra imm) fun w s =>
    let x := s.thread t
    let n := windowSize imm
    let a := windowAt (x.get ra) imm
    if 128 < a + n then s.trapAt t w Cause.access a
    else s.result t rd (BitVec.ofNat 64 (x.window.elim 0 fun v => ofBE (slice v.bytes a n)))

/-- R335: PWST. -/
def execPwst (t : Nat) (rb ra : GReg) (imm : BitVec 16) (s : State) : Host.Outcome State Fault Refusal :=
  s.instr1 t (.pwst t rb ra imm) fun w s =>
    let x := s.thread t
    let n := windowSize imm
    let a := windowAt (x.get ra) imm
    if 64 < a + n then s.trapAt t w Cause.access a
    else (s.setThread t { x with out := putBytes (slice x.out 0 64) a (beBytes n (x.get rb).toNat) }).goOn t

/-- R336: PNEXT ends the current packet and waits for the next; it clears the reservation (R329). -/
def execPnext (t : Nat) (rd : GReg) (s : State) : Host.Outcome State Fault Refusal :=
  s.instr1 t (.pnext t rd) fun _ s => (s.finishPacket t).modThread t fun x => { x.loseResv with wait := .packet rd }

/-- R336: PDONE. -/
def execPdone (t : Nat) (rd : GReg) (s : State) : Host.Outcome State Fault Refusal :=
  s.instr1 t (.pdone t rd) fun _ s => (s.finishPacket t).result t rd 0

/-- R336: EIDLK. -/
def execEidlk (t : Nat) (rd ra : GReg) (s : State) : Host.Outcome State Fault Refusal :=
  s.instr1 t (.eidlk t rd ra) fun _ s =>
    let e := (s.greg t ra).toNat % 2 ^ 20
    (s.eidMet e).result t rd (BitVec.ofNat 64 (s.eidEntry e))

/-- Take a packet out of those that wait to be handed to a thread: delivered ones, or those of a miss buffer, whose place it keeps
until the thread ends it (R67, R336). -/
def State.takePacket (s : State) (port : Nat) (p : Packet) (fromMiss : Bool) :
    Option (State × Packet × Option Nat) :=
  if fromMiss then
    (s.tp.qps.findSome? fun q => q.2.waits.findSome? fun c =>
        (c.2.find? fun y => y.1 == port && y.2.same p).map fun y => (q.1, c.1, y)).map fun (n, k, y) =>
      (s.modQp n fun q => { q with waits := mmod q.waits k (·.erase y) }, y.2, none)
  else
    (s.rt.delivered.find? fun x => x.port == port && x.pkt.same p).map fun x =>
      ({ s with rt := { s.rt with delivered := s.rt.delivered.erase x } }, x.pkt, x.tag)

/-- The hive that serves a packet: that of its destination queue pair (R66); any for other kinds. -/
def servedBy (p : Packet) (h : Nat) : Bool :=
  match p.body with
  | .wt x => x.destQpn % 8 == h
  | _ => true

/-- The context of a packet's connection is on die. -/
def State.contextOnDie (s : State) (p : Packet) : Bool :=
  match p.body with
  | .wt h => (s.qp h.destQpn).any (·.onDie)
  | _ => false

/-- R334, R336, R337: a hive hands a packet to a thread that waits in PNEXT and fills its inbound window. The handle of the
context is the firmware's: a free value (log entry 2). -/
def execPacketHandoff (t : Nat) (p : Packet) (port : Nat) (handle : Nat) (fromMiss : Bool) (verified : Bool) (s : State) :
    Host.Outcome State Fault Refusal := s.clocked <|
  match (s.thread t).wait with
  | .packet rd =>
    if !servedBy p (t / 128) ∨ !s.admits 3 then ok s
    else match s.takePacket port p fromMiss with
      | none => ok s
      | some (s, p, tag) =>
        let on := s.contextOnDie p
        let context := if on then s.freeVal % 2 ^ 32 else 2 ^ 32 - 1
        let s := if on then s.takeFree else s
        let s := ((s.stamp tag 3).stamp tag 4).stamp (if verified then tag else none) 5
        let w : InWindow := { pkt := p, port := port, vl := p.net.vl, handle := handle, arrived := p.arrived, context := context,
                              fromMiss := fromMiss, verified := verified && !p.stomped, tag := tag }
        ok ((s.modThread t ({ · with window := some w, discarded := verified && p.stomped })).result t rd 0)
  | _ => ok s

/-- R337, R231: the CRC verdict of the packet in a thread's window. On failure the waiting instruction traps DISCARDED, the
queued placement writes are cancelled and the packet is ended. -/
def execCrcVerdict (t : Nat) (ok0 : Bool) (s : State) : Host.Outcome State Fault Refusal := s.clocked <|
  let x := s.thread t
  match x.window with
  | none => ok s
  | some v =>
    if v.verified then ok s
    else
      let s := s.stamp v.tag 5
      let waits : Bool := x.wait == .crc
      if ok0 ∧ !v.pkt.stomped then
        let s := s.modThread t fun x => { x with
          window := some { v with verified := true }, wait := if waits then .none else x.wait
          pend := x.pend.map fun a => { a with queued := false } }
        ok (s.stamp (if x.pend.any (·.queued) then v.tag else none) 6)
      else
        let s := (x.pend.filter (·.queued)).foldl (fun (s : State) a => match a.key with | some k => s.dropRef k | none => s) s
        let s := (s.modThread t fun x => { x with pend := x.pend.filter fun a => !a.queued, discarded := !waits }).finishPacket t
        if waits then
          ok (s.trap t { cause := Cause.discarded, pc := x.pc, word := s.codeWord t x.pc, info := 0, detail := 0 })
        else ok (settle (s.wake t))

/-! ### DMA (R339) -/

/-- The outcome of a call in rd (R339): status, DETAIL, bytes completed. -/
def callResult (status detail done : Nat) : Word := BitVec.ofNat 64 (status + detail * 256 + done * 2 ^ 32)

/-- A call fails: firmware gets the outcome in rd, a handler traps (R339). An address outside its space traps ACCESS for both (R318);
it is the failure with no status. -/
def State.callFails (s : State) (t : Nat) (w : BitVec 32) (rd : GReg) (cause faddr detail done : Nat) : State :=
  if (s.thread t).priv = 1 ∨ detail = 0 then s.trapAt t w cause faddr detail
  else s.result t rd (callResult (detail % 256) (detail / 256) done)

/-- A call has succeeded. A handler that is to stop ends here, once its accesses are performed (R349). -/
def State.callDone (s : State) (t : Nat) (rd : GReg) (v : Word) : State :=
  if (s.thread t).run.any (·.stop) then (s.modThread t ({ · with wait := .exit, fenceFail := false })).wake t else s.result t rd v

/-- The bytes of a range before the page whose translation fails. -/
def State.reach (s : State) (t : Nat) (a : Word) (n kind : Nat) : Nat :=
  ((List.range (n / 4096 + 1)).map fun k => min n (4096 * (k + 1) - a.toNat % 4096)).foldl (fun best m =>
    if m < n then (match (s.resolve t a m kind).2 with | .ok _ => max best m | _ => best) else best) 0

/-- Bytes read for a call: at once, by reads that the outside answers, or a failure after so many good bytes. -/
inductive CallRead where
  | data (b : List Byte)
  | ask (x : Spot)
  | fail (cause detail good : Nat)
  | wait
  deriving DecidableEq, Repr

/-- Read the source of a call (R338, R339). -/
def State.callRead (s : State) (t : Nat) (a : Word) (n : Nat) : State × CallRead :=
  if n = 0 then (s, .data [])
  else match s.resolve t a n accRead with
    | (s, .wait) => (s, .wait)
    | (s, .trap c d) => (s, .fail c d (if c = Cause.bus then s.reach t a n accRead else 0))
    | (s, .ok x) =>
      if x.misfit then (s, .fail Cause.align (trapDetail St.badDescriptor 8) 0)
      else if (s.thread t).clash x ∨ (s.thread t).deviceBusy x then (s, .wait)
      else
        (match x.target with
        | .rodata => (s, .data (slice (s.rodata t) ((x.pieces.headD (0, 0)).1) n))
        | _ => (s, .ask x))

/-- Ask the host for the next device piece of a call's source: it issues when those before it are performed (R359). -/
def State.askNext (s : State) (t : Nat) : State :=
  match (s.thread t).pend.find? fun a => a.call && a.device && !a.performed with
  | some a => s.askHost t a.id a
  | none => s

/-- Issue the reads of a call's source: its pieces are loads of the thread, each performed by itself (R357). -/
def State.askSource (s : State) (t : Nat) (x : Spot) (n faddr : Nat) : State :=
  let g := (s.thread t).nextAcc
  (x.units.foldl (fun (s : State) u =>
    let a := { x.access .load g u with total := n, faddr := faddr, pc := (s.thread t).pc, call := true }
    let k := (s.thread t).nextAcc
    if a.device then s.addAccess t a else (s.addAccess t a).askHost t k a) s).askNext t

/-- The bytes of `n` at a target address that fill whole aligned 8-byte units, the first from the address on (R339). -/
def wholeUnits (a n : Nat) : Nat := (a + n) / 8 * 8 - a

/-- The writes of a COPY that fails after `n` bytes: whole aligned units only (R339), and the bytes completed. -/
def State.copyPart (s : State) (t : Nat) (dst : Word) (n : Nat) (b : List Byte) : State × Nat :=
  if n = 0 then (s, 0)
  else match s.resolve t dst n accWrite with
    | (s, .ok x) =>
      let m := wholeUnits ((x.pieces.headD (0, 0)).1) n
      if m = 0 then (s, 0)
      else (match s.resolve t dst m accWrite with
        | (s, .ok y) => (s.addWrites t y (b.take m) dst.toNat false, m)
        | (s, _) => (s, 0))
    | (s, _) => (s, 0)

/-- The end of a COPY of so many bytes: success, or the failure of its source behind them. -/
def State.copyEnds (s : State) (t : Nat) (w : BitVec 32) (rd : GReg) (fail : Option (Nat × Nat × Nat)) (n : Nat) : State :=
  match fail with
  | some (c, faddr, d) => s.callFails t w rd c faddr d n
  | none => s.callDone t rd (callResult St.success 0 n)

/-- The writes of a COPY: all of them, or the failure of its destination after some of them (R339). The answer is none while
the translation waits. -/
def State.copyTo (s : State) (t : Nat) (w : BitVec 32) (rd : GReg) (dst : Word) (fail : Option (Nat × Nat × Nat)) (b : List Byte) :
    State × Option (State → State) :=
  if b.isEmpty then (s, some fun s => s.copyEnds t w rd fail 0)
  else match s.resolve t dst b.length accWrite with
    | (s, .wait) => (s, none)
    | (s, .trap c d) =>
      let good := if c = Cause.bus then s.reach t dst b.length accWrite else 0
      let done := s.freeVal % (good + 1)
      (s, some fun s =>
        let r := s.takeFree.copyPart t dst done b
        r.1.callFails t w rd c dst.toNat d r.2)
    | (s, .ok x) =>
      if x.misfit then (s, some fun s => s.callFails t w rd Cause.align dst.toNat (trapDetail St.badDescriptor 8) 0)
      else if (s.thread t).deviceBusy x then (s, none)
      else if fail.isSome then (s, some fun s =>
        let r := s.copyPart t dst b.length b
        r.1.copyEnds t w rd fail r.2)
      else (s, some fun s => (s.addWrites t x b dst.toNat false).copyEnds t w rd fail b.length)

/-- R339: COPY of rc bytes from rb to ra. -/
def execCopy (t : Nat) (rd ra rb rc : GReg) (s : State) : Host.Outcome State Fault Refusal :=
  s.instr t (.copy t rd ra rb rc) fun w s =>
    let dst := s.greg t ra
    let src := s.greg t rb
    let n := (s.greg t rc).toNat
    if 2 ^ 20 < n then (s, some fun s => s.callFails t w rd Cause.access src.toNat (trapDetail St.badDescriptor 0) 0)
    else match s.callRead t src n with
      | (s, .wait) => (s, none)
      | (s, .data b) => s.copyTo t w rd dst none b
      | (s, .fail c d good) =>
        -- the bytes before the failure may be copied: how many is a free value (log entry 2)
        let done := s.freeVal % (good + 1)
        (match if done = 0 then none else some (s.callRead t src done) with
        | some (s, .ask x) => (s, some fun s =>
            (s.takeFree.askSource t x done src.toNat).modThread t ({ · with wait := .copy rd dst.toNat done (some (c, src.toNat, d)) }))
        | _ => (s, some fun s => s.takeFree.callFails t w rd c src.toNat d 0))
      | (s, .ask x) => (s, some fun s => (s.askSource t x n src.toNat).modThread t ({ · with wait := .copy rd dst.toNat n }))

/-- R339, R337: PLACE of rc bytes of the packet's payload, from rb on, at ra. -/
def execPlace (t : Nat) (rd ra rb rc : GReg) (s : State) : Host.Outcome State Fault Refusal :=
  s.instr t (.place t rd ra rb rc) fun w s =>
    let dst := s.greg t ra
    let off := (s.greg t rb).toNat
    let n := (s.greg t rc).toNat
    let payload := (s.thread t).window.elim [] (·.pkt.payload)
    if payload.length < off + n then (s, some fun s => s.callFails t w rd Cause.access dst.toNat (trapDetail St.badDescriptor 0) 0)
    else if n = 0 then (s, some fun s => s.result t rd (callResult St.success 0 0))
    else match s.resolve t dst n accWrite with
      | (s, .wait) => (s, none)
      | (s, .trap c d) => (s, some fun s => s.callFails t w rd c dst.toNat d 0)
      | (s, .ok x) =>
        if x.misfit then (s, some fun s => s.callFails t w rd Cause.align dst.toNat (trapDetail St.badDescriptor 8) 0)
        else if (s.thread t).deviceBusy x then (s, none)
        else (s, some fun s =>
          let b := slice payload off n
          let y := s.thread t
          let tag := if y.unverified then none else y.window.bind (·.tag)
          ((s.addWrites t x b dst.toNat true y.unverified).stamp tag 6).result t rd (callResult St.success 0 n))

/-! ### PSEND (R338) -/

/-- The packet that PSEND sends: the window's header and the payload, with FLOW_HASH of KIND 0 and the fields of injection
written by the device (R194, R209, R338). -/
def State.outPacket (s : State) (hdr : List Byte) (payload : List Byte) : Packet :=
  let p := Packet.ofBytes (hdr ++ payload) false
  let hash := match p.body with
    | .wt h => flowHash p.net.srcEid p.net.destEid h.srcQpn h.destQpn
    | _ => p.net.flowHash
  { p with net := { p.net with
      flowHash := hash, phase := false, hops := 0, detoursLeft := s.rd Reg.RTE_ADAPT_MAX_DETOURS 1 } }

/-- Pass the stages of R289 that apply to a packet: none while it is held at stage 1 or 2; a red packet may be discarded at
stage 3, which is a success. -/
def State.psendOut (s : State) (t : Nat) (p : Packet) : State × Bool :=
  let n := (s.thread t).qpCtx
  let group := ((s.eidLookup p.net.destEid).map (·.2.2)).getD 0
  let s := s.eidMet p.net.destEid
  match p.body with
  | .wt h =>
    if !isRequest h.opcode then (s.injectWt group p true, true)
    else match s.qp n with
      | none => (s.injectWt group p true, true)
      | some q =>
        let held := (s.thread t).heldAt
        let hold := fun (s : State) (k : Nat) (f : State → State) =>
          (if held = k then s else (f s).modThread t ({ · with heldAt := k }), false)
        if s.throttled group then hold s 1 fun s => s.tally Reg.RTE_DETOURS_THROTTLE_HOLDS 0x0C7 0 q.owner
        else
          let b := q.shaper.refill s.time
          if b.rate ≠ 0 ∧ b.tokens < p.length then
            hold (s.setQp n { q with shaper := b }) 2 fun s => s.tally Reg.SCH_POLICE_COUNT_SHAPER_HOLDS 0x0CC 0 q.owner
          else
            let b := if b.rate = 0 then b else { b with tokens := b.tokens - p.length }
            let s := (s.setQp n { q with shaper := b }).modThread t ({ · with heldAt := 0 })
            match s.police q.fn q.pd q.precolour p.length with
            | (s, none) => (s, true)
            | (s, some c) => (s.injectWt group { p with net := { p.net with colour := c } } true, true)
  | _ => (s.injectOwn p true, true)

/-- R338: PSEND of the window's first rc bytes and rb bytes of payload from ra. It waits until the thread's PLACE writes are
issued. -/
def execPsend (t : Nat) (rd ra rb rc : GReg) (s : State) : Host.Outcome State Fault Refusal :=
  s.instr t (.psend t rd ra rb rc) fun w s =>
    let x := s.thread t
    let len := (x.get rb).toNat
    let hdr := (x.get rc).toNat
    if hdr < 16 ∨ 64 < hdr ∨ hdr % 16 ≠ 0 ∨ 4096 < len then (s, some fun s => s.trapAt t w Cause.illegal w.toNat)
    else if x.pend.any (fun a => a.place && !a.reached && !a.performed) then (s, none)
    else match s.callRead t (x.get ra) len with
      | (s, .wait) => (s, none)
      | (s, .fail c d _) => (s, some fun s => s.callFails t w rd c (x.get ra).toNat d 0)
      | (s, .data b) =>
        match s.psendOut t (s.outPacket (slice x.out 0 hdr) b) with
        | (s, false) => (s, none)
        | (s, true) => (s, some fun s => s.result t rd (callResult St.success 0 0))
      | (s, .ask y) =>
        (s, some fun s => (s.askSource t y len (x.get ra).toNat).modThread t ({ · with wait := .send rd hdr len }))

/-! ### The match units (R340) -/

/-- The envelope record of a match call (R340). -/
structure Envelope where
  qpn : Nat
  ctx : Nat
  cls : Nat
  source : Nat
  tag : Word
  handle : Word
  deriving DecidableEq, Repr

/-- Read an envelope record; none with a 1 in a reserved field. -/
def readEnvelope (b : List Byte) : Option Envelope :=
  let ws := toWords 4 b
  let w0 := wordAt ws 0
  let w1 := wordAt ws 1
  if bits w0 42 22 ≠ 0 ∨ bits w1 20 44 ≠ 0 then none
  else some { qpn := bits w0 0 24, ctx := bits w0 24 16, cls := bits w0 40 2, source := bits w1 0 20, tag := wordAt ws 2,
              handle := wordAt ws 3 }

/-- A match call: its record lies 32-byte aligned in HIVE memory. -/
def State.matchCall (s : State) (t : Nat) (i : Instr) (rd ra : GReg) (f : Envelope → State → State × Word) : Host.Outcome State Fault Refusal :=
  s.instr t i fun w s =>
    let a := s.greg t ra
    if a.toNat % 32 ≠ 0 then (s, some fun s => s.trapAt t w Cause.align a.toNat)
    else if bits a 60 4 ≠ 0 then (s, some fun s => s.trapAt t w Cause.access a.toNat)
    else match s.resolve t a 32 accRead with
      | (s, .ok x) =>
        if (s.thread t).clash x then (s, none)
        else match readEnvelope (Memory.readN 0 (s.sramOf (t / 128)) ((x.pieces.headD (0, 0)).1) 32) with
          | none => (s, some fun s => s.result t rd (BitVec.allOnes 64))
          | some e => (s, some fun s =>
            let (s, v) := f e (s.matchOp e.qpn ((s.qp e.qpn).bind (·.owner)))
            s.result t rd v)
      | (s, .trap c d) => (s, some fun s => s.trapAt t w c a.toNat d)
      | (s, .wait) => (s, none)

/-- The handle of an entry that the device's own processing prepared is nowhere given: a free value (log entry 24). -/
def State.handleOf (s : State) (h : Option Word) : State × Word :=
  match h with
  | some v => (s, v)
  | none => (s.takeFree, BitVec.ofNat 64 s.freeVal)

/-- R340, R119: ARRIVE. -/
def State.arrive (e : Envelope) (s : State) : State × Word :=
  match s.selectPosted e.qpn e.ctx e.source e.tag with
  | some p =>
    let s := { s with mt := { s.mt with posted := s.mt.posted.erase p } }
    (s.wr Reg.MCH_POSTED_STATUS_POSTED s.mt.posted.length).handleOf p.handle
  | none =>
    let fn := ((s.qp e.qpn).map (·.fn)).getD 0
    let u : Unexp := { id := s.tp.nextId, qpn := e.qpn, conn := 0, fn := fn, ctx := e.ctx, source := e.source, tag := e.tag, seq := 0,
                       cells := 0, length := 0, rts := false, psn := 0, handle := some e.handle }
    (s.newId.addRecordU u, 0)

/-- R340, R120, R117: POST. -/
def State.postCall (e : Envelope) (s : State) : State × Word :=
  match s.selectUnexp e.cls e.qpn e.ctx e.source e.tag with
  | some u => State.handleOf { s.freeRecord u.id with mt := { (s.freeRecord u.id).mt with nextSeq := s.mt.nextSeq + 1 } } u.handle
  | none =>
    let p : Posted := { qpn := e.qpn, recv := 0, cls := e.cls, ctx := e.ctx, source := e.source, tag := e.tag, seq := s.mt.nextSeq,
                        handle := some e.handle }
    let s := State.post1 { s with mt := { s.mt with nextSeq := s.mt.nextSeq + 1 } } p
    (s.wr Reg.MCH_POSTED_STATUS_POSTED s.mt.posted.length, 0)

/-- R340: CANCEL. -/
def State.cancelCall (e : Envelope) (s : State) : State × Word :=
  let gone := s.mt.unexp.filter (·.qpn == e.qpn)
  let n := (s.mt.posted.filter (·.qpn == e.qpn)).length + gone.length
  let s := { s with mt := { s.mt with posted := s.mt.posted.filter (·.qpn != e.qpn) } }
  ((gone.foldl (fun s u => s.freeRecord u.id) s).wr Reg.MCH_POSTED_STATUS_POSTED s.mt.posted.length, BitVec.ofNat 64 n)

def execArrive (t : Nat) (rd ra : GReg) (s : State) : Host.Outcome State Fault Refusal :=
  s.matchCall t (.arrive t rd ra) rd ra State.arrive
def execPost (t : Nat) (rd ra : GReg) (s : State) : Host.Outcome State Fault Refusal :=
  s.matchCall t (.post t rd ra) rd ra State.postCall
def execCancel (t : Nat) (rd ra : GReg) (s : State) : Host.Outcome State Fault Refusal :=
  s.matchCall t (.cancel t rd ra) rd ra State.cancelCall

/-! ### Locks (R341, R371 to R374, R378) -/

/-- A bit field of a function number meets a group's FUNC under its mask (R373). -/
def State.funcTest (s : State) (g f : Nat) : Bool :=
  (Nat.xor f (s.rd Reg.LCK_GROUP_A_FUNC g)) &&& s.rd Reg.LCK_GROUP_A_FUNC_MASK g == 0

/-- The group's rights admit a thread (R373). -/
def State.threadAdmitted (s : State) (g t : Nat) : Bool :=
  s.rd Reg.LCK_GROUP_A_HIVES g / 2 ^ (t / 128) % 2 == 1
    && match (s.thread t).run with
      | none => true
      | some r => s.on Reg.LCK_GROUP_A_HANDLER_EN g && s.funcTest g r.fn
          && (Nat.xor r.pd (s.rd Reg.LCK_GROUP_B_PD g)) &&& s.rd Reg.LCK_GROUP_B_PD_MASK g == 0

/-- The source code of a thread at the lock unit (R371). -/
def threadSource (t : Nat) : Nat := 0x800 + t

/-- A write to native lock word `w` by a source (R372). -/
def State.lockWrite (s : State) (w value source : Nat) : State :=
  match lockRule (s.rd Reg.LCK_WORD_IDENTITY w) (s.rd Reg.LCK_WORD_HOLDER w) 0xFFF value source with
  | (some (i, h), _) => (s.wr Reg.LCK_WORD_IDENTITY i w).wr Reg.LCK_WORD_HOLDER h w
  | (none, true) => s.tally Reg.LCK_STATUS_BAD_RELEASE 0x186
  | (none, false) => s

/-- What a claim or release answers of a native lock word: its identity, which is THREAD_ID where the claim won (R341; log entry
51). -/
def State.lockWord (s : State) (w : Nat) : Word := BitVec.ofNat 64 (s.rd Reg.LCK_WORD_IDENTITY w)

/-- A claim or release of native lock word ra[11:0] (R341, R373, R374): a winning claim waits for the thread's earlier loads,
a release for its earlier accesses. -/
def State.lockCall (s : State) (t : Nat) (i : Instr) (rd ra : GReg) (claim : Bool) : Host.Outcome State Fault Refusal :=
  s.instr t i fun _ s =>
    let w := (s.greg t ra).toNat % 4096
    let x := s.thread t
    if !s.threadAdmitted (w / 64) t then
      (s, some fun s => (s.tally Reg.LCK_STATUS_RIGHTS_DENIED 0x187).result t rd (BitVec.allOnes 64))
    else if !s.storeAnswers ∨ claim ∧ s.rd Reg.LCK_WORD_IDENTITY w = 0 ∧ !x.fenceMet 1 ∨ !claim ∧ !x.fenceMet 2 then (s, none)
    else (s, some fun s =>
      let s := s.lockWrite w (if claim then threadId t else 0) (threadSource t)
      s.result t rd (s.lockWord w))

def execLclaim (t : Nat) (rd ra : GReg) (s : State) : Host.Outcome State Fault Refusal := s.lockCall t (.lclaim t rd ra) rd ra true
def execLrel (t : Nat) (rd ra : GReg) (s : State) : Host.Outcome State Fault Refusal := s.lockCall t (.lrel t rd ra) rd ra false

/-- A claim or release of a compatibility word at a STORE or keyed store address (R341, R378). -/
def State.compatCall (s : State) (t : Nat) (i : Instr) (rd ra : GReg) (claim : Bool) : Host.Outcome State Fault Refusal :=
  let a := s.greg t ra
  s.instr t i fun w s =>
    if a.toNat % 8 ≠ 0 then (s, some fun s => s.trapAt t w Cause.align a.toNat)
    else match s.resolve t a 8 accWrite with
      | (s, .wait) => (s, none)
      | (s, .trap c d) => (s, some fun s => s.trapAt t w c a.toNat d)
      | (s, .ok x) =>
        if x.target ≠ .store then (s, some fun s => s.trapAt t w Cause.unsupported a.toNat)
        else
          let y := s.thread t
          let at0 := (x.pieces.headD (0, 0)).1
          -- a claim that wins, the word being free, waits as an ACQUIRE fence does, one that loses does not (R374)
          let wins : Bool := claim && ofLE (s.storeRead at0 2) == 0
          if !s.storeAnswers ∨ y.clash x ∨ y.deviceBusy x ∨ wins ∧ !y.fenceMet 1 ∨ !claim ∧ !y.fenceMet 2 then (s, none)
          else if s.poisoned at0 8 then
            (s, some fun s => (s.reportPoison at0 8).trapAt t w Cause.bus a.toNat (trapDetail St.remoteOpError 11))
          else (s, some fun s =>
            let s := (s.compatAct at0 (if claim then threadId t else 0) (threadSource t)).1
            s.result t rd (BitVec.ofNat 64 (ofLE (s.storeRead at0 2))))

def execLclaimw (t : Nat) (rd ra : GReg) (s : State) : Host.Outcome State Fault Refusal := s.compatCall t (.lclaimw t rd ra) rd ra true
def execLrelw (t : Nat) (rd ra : GReg) (s : State) : Host.Outcome State Fault Refusal := s.compatCall t (.lrelw t rd ra) rd ra false

/-! ### Events (R342) -/

/-- R342: EVRAISE: a firmware-raised source, or a HANDLER_EVENT record of a handler's function. -/
def execEvraise (t : Nat) (ra rb : GReg) (s : State) : Host.Outcome State Fault Refusal :=
  s.instr1 t (.evraise t ra rb) fun w s =>
    let x := s.thread t
    let v := x.get ra
    match x.run with
    | none =>
      let k := bits v 0 10
      if 0x380 ≤ k ∧ k < 0x3C0 then (s.raise k (bits (x.get rb) 0 32)).goOn t
      else s.trapAt t w Cause.access v.toNat
    | some r =>
      if x.events = 0 then s.trapAt t w Cause.eventLimit 0
      else
        let idx := ((s.qp r.qpn).map (·.idx)).getD 0
        let rec0 := 20 + St.success * 2 ^ 16 + idx % 2 ^ 21 * 2 ^ 24 + bits v 0 16 * 2 ^ 45
        let s := s.post { fn := r.fn, bytes := leBytes 8 rec0 ++ leBytes 8 s.time, use := .eq r.fn }
        settle ((s.setThread t { x with events := x.events - 1 }).goOn t)

end Sys2Proof.Machine
end

