-- ==== Sys2Proof/Machine/Wire.lean ====
section
/-! DEFINITION. The wire side of a network port: symbols, scrambling, blocks, alignment markers, the draws of link exercise mode,
patterns, test loops (R227, R259, R260, R265 to R269, R282 to R285). -/

namespace Sys2Proof.Machine

/-! ### Symbols and scrambling (R265, R266, R268) -/

/-- The level of a symbol by its two bits, the first one the more significant (R265). -/
def levelOf (a b : Bool) : Nat :=
  match a, b with
  | false, false => 0
  | false, true => 1
  | true, true => 2
  | true, false => 3

/-- A level after an inversion of the lane's polarity: 0 and 3 exchange, and 1 and 2. -/
def polar (inv : Bool) (l : Nat) : Nat := if inv then 3 - l else l

/-- Bits as symbols of a lane. -/
def symbolsOf (inv : Bool) : List Bool → List Nat
  | a :: b :: l => polar inv (levelOf a b) :: symbolsOf inv l
  | _ => []

/-- The bits of bytes in transmission order: byte 0 first, the most significant bit first (R266). -/
def txBits (b : List Byte) : List Bool := b.flatMap fun x => (List.range 8).map fun i => x.getLsbD (7 - i)

/-- Bytes of bits in transmission order. -/
def bytesOf : List Bool → List Byte
  | a :: b :: c :: d :: e :: f :: g :: h :: l =>
    byte ([a, b, c, d, e, f, g, h].foldl (fun n x => 2 * n + flag x 1) 0) :: bytesOf l
  | _ => []

/-- The sync header of a control block, or of a data block (R266). -/
def syncBits (ctrl : Bool) : List Bool := [ctrl, !ctrl]

/-- The self-synchronous scrambler x^58 + x^39 + 1 over payload bits: the last 58 scrambled bits, and the bits sent (R268). -/
def scramble (st : BitVec 58) : List Bool → BitVec 58 × List Bool
  | [] => (st, [])
  | d :: l =>
    let b := d ^^ st.getLsbD 38 ^^ st.getLsbD 57
    let r := scramble (st.shiftConcat b) l
    (r.1, b :: r.2)

/-- The descrambler (R268). -/
def descramble (st : BitVec 58) : List Bool → BitVec 58 × List Bool
  | [] => (st, [])
  | b :: l =>
    let r := descramble (st.shiftConcat b) l
    (r.1, (b ^^ st.getLsbD 38 ^^ st.getLsbD 57) :: r.2)

/-- BIP-8 carried over a payload: bit i is the parity of its bits i, i + 8, … in transmission order (R269). -/
def bipOver (acc : Byte) (l : List Bool) : Byte :=
  l.zipIdx.foldl (fun a b => if b.1 then a ^^^ (1#8 <<< (b.2 % 8)) else a) acc

/-- Invert `n` bits from a place on. -/
def invertBits (l : List Bool) (at0 n : Nat) : List Bool := l.zipIdx.map fun b => b.1 ^^ decide (at0 ≤ b.2 ∧ b.2 < at0 + n)

/-! ### Test loops (R285) -/

/-- The port is in a NEAR loop: its pins are idle, and it receives what it sends. -/
def State.near (s : State) (p : Nat) : Bool := s.rd Reg.LAN_PORT_CFG_LOOP p == 1 || s.rd Reg.LAN_PORT_CFG_LOOP p == 2

/-- The transmitter of a port stands still: REFCLK_B has stopped (R33). -/
def State.stopped (s : State) (p : Nat) : Bool := s.ft.refbStop && decide (36 ≤ p)

/-- Something leaves a port, or goes round its NEAR loop. -/
def State.toPins (s : State) (p : Nat) (o : Output) (x : Looped) : State :=
  if s.near p then s.setPort p { s.port p with loop := (s.port p).loop ++ [x] } else s.emit o

/-- Bits leave a lane as symbols, with its polarity, while its transmitter runs (R33, R265). -/
def State.emitLane (s : State) (p lane : Nat) (l : List Bool) : State :=
  if s.near p ∨ s.stopped p then s else s.emit (.symbols p lane (symbolsOf (s.rd Reg.LAN_PORT_CFG_TX_INV p / 2 ^ lane % 2 == 1) l))

/-- The lanes of a port have power: RATE is not OFF, and the port is not retired (R263, R288). -/
def State.powered (s : State) (p : Nat) : Bool := decide (s.rd Reg.LAN_PORT_CFG_RATE p < 2) && !s.on Reg.LAN_PORT_CFG_RETIRED p

/-- What arrives at a port: on a NEAR loop only what it sent, in order, if that is of the expected sort; on a FAR loop it goes out
again, while the transmitter runs, and is not received. -/
def State.arrives (s : State) (p : Nat) (o : Output) (x : Looped) (same : Looped → Bool) : State × Option Looped :=
  if s.near p then
    match (s.port p).loop with
    | y :: l => if same y then (s.setPort p { s.port p with loop := l }, some y) else (s, none)
    | [] => (s, none)
  else if s.rd Reg.LAN_PORT_CFG_LOOP p = 3 then (if s.stopped p ∨ !s.powered p then s else s.emit o, none)
  else (s, some x)

/-! ### Link exercise mode (R259, R260) -/

/-- Exercise actions happen now: ENABLE, and the first ON_US of the cycle on fabric time (R259). -/
def State.exActive (s : State) (p : Nat) : Bool :=
  s.on Reg.LNK_EXER_CFG_ENABLE p
    && decide (s.time % (1000 * max 1 (s.rd Reg.LNK_EXER_SCHED_PERIOD_US p)) < 1000 * s.rd Reg.LNK_EXER_SCHED_ON_US p)

/-- Draw for an action of rate N: one step of the port's LFSR x^32 + x^22 + x^2 + x + 1; the action occurs when the low N bits
are all 0 (R260). An action that is off draws nothing. -/
def State.exDraw (s : State) (p : Nat) (rate : Fld) : State × Bool :=
  let n := s.rd rate p
  if n = 0 ∨ !s.exActive p then (s, false)
  else
    let y := s.port p
    let x := lfsr [31, 21, 1, 0] y.exLfsr
    (s.setPort p { y with exLfsr := x }, x % 2 ^ n == 0)

/-- The BLOCK draw of a block on a lane: BURST_BITS bits in a row of its payload are inverted after the scrambler. Where they
start, the spec does not say: a free value (R260; log entry 2). -/
def State.exBlock (s : State) (p lane : Nat) (l : List Bool) : State × List Bool :=
  let r := s.exDraw p Reg.LNK_EXER_CFG_BLOCK_LOG2
  if r.2 then
    let n := s.rd Reg.LNK_EXER_CFG_BURST_BITS p
    (((r.1.takeFree).emit (.blockCorrupt p lane n)).sat Reg.LNK_EXER_COUNT_BLOCKS 1 p, invertBits l (r.1.freeVal % (65 - n)) n)
  else (r.1, l)

/-! ### Blocks and markers (R227, R266, R267, R269) -/

/-- MARK of a logical lane (R269). -/
def laneMark (logical : Nat) : List Byte := if logical = 0 then [0xC1, 0x68, 0x21] else [0x9D, 0x71, 0x8E]

/-- The payload of a marker with a BIP byte. -/
def markerBytes (logical : Nat) (bip : Byte) : List Byte :=
  laneMark logical ++ [bip] ++ (laneMark logical).map (fun b => ~~~b) ++ [~~~bip]

/-- A lane's marker leaves: a control block, not scrambled, of which link exercise mode may invert bits (R260); its BIP starts over.
On a NEAR loop it comes back with the receiver's BIP over what arrived (R269). -/
def State.sendMarker (s : State) (p lane : Nat) : State :=
  let y := s.port p
  let x := y.tx.getD lane {}
  let e := (s.setPort p { y with tx := y.tx.set lane { x with bip := 0, rxBip := 0 } }).exBlock p lane (txBits (markerBytes lane x.bip))
  let m := bytesOf e.2
  (e.1.toPins p (.marker p lane m) (.marker lane m x.rxBip)).emitLane p lane (syncBits true ++ e.2)

/-- Both lanes insert their markers at one point of the stream (R267). -/
def State.sendMarkers (s : State) (p : Nat) : State :=
  let s := (s.sendMarker p 0).sendMarker p 1
  s.setPort p { s.port p with sinceMark := 0 }

/-- Blocks of the stream between two markers: 16,383 on each of the two lanes (R267). -/
def markerPeriod : Nat := 32766

/-- On a NEAR loop the lane's receiver takes the bits of a payload as they arrive: it descrambles them, so that a bit inverted on the
way gives three errors, and adds them to its BIP (R268, R269). -/
def State.heard (s : State) (p lane : Nat) (l : List Bool) : State × List Byte :=
  if !s.near p then (s, [])
  else
    let y := s.port p
    let x := y.tx.getD lane {}
    let d := descramble x.rx l
    (s.setPort p { y with tx := y.tx.set lane { x with rx := d.1, rxBip := bipOver x.rxBip l } }, bytesOf d.2)

/-- The next block of the stream: block n goes on lane n mod 2, scrambled there (R266 to R268); the markers follow when they are
due. The bytes are what a NEAR loop returns of it. -/
def State.sendBlock (s : State) (p : Nat) (ctrl : Bool) (b : List Byte) : State × List Byte :=
  let y := s.port p
  let lane := y.block % 2
  let x := y.tx.getD lane {}
  let r := scramble x.scr (txBits b)
  let s := s.setPort p { y with block := y.block + 1, sinceMark := y.sinceMark + 1
                                tx := y.tx.set lane { x with scr := r.1, bip := bipOver x.bip r.2 } }
  let e := s.exBlock p lane r.2
  let g := (e.1.emitLane p lane (syncBits ctrl ++ e.2)).heard p lane e.2
  (if markerPeriod ≤ (g.1.port p).sinceMark then g.1.sendMarkers p else g.1, g.2)

/-- The blocks of a frame or of a link-control block; the last one is filled with zero bytes (R228). -/
def State.sendBlocks (s : State) (p : Nat) (ctrl : Bool) (b : List Byte) : State × List Byte :=
  (List.range ((b.length + 7) / 8)).foldl (fun (a : State × List Byte) i =>
    let r := a.1.sendBlock p ctrl (slice b (8 * i) 8)
    (r.1, a.2 ++ r.2)) (s, [])

/-- The blocks of a frame or of a link-control block leave the port, or go round its NEAR loop, where what arrives of them waits to
be received (R285). -/
def State.sendItem (s : State) (p : Nat) (ctrl : Bool) (o : Output) (b : List Byte) (item : List Byte → Looped) : State :=
  if s.near p then
    let r := s.sendBlocks p ctrl b
    r.1.setPort p { r.1.port p with loop := (r.1.port p).loop ++ [item (slice r.2 0 b.length)] }
  else ((s.emit o).sendBlocks p ctrl b).1

/-! ### Link-control blocks (R227, R229, R232) -/

/-- A link-control block: its type, its body filled to 27 bytes, its CRC. -/
def controlBlock (type : Nat) (body : List Byte) : List Byte :=
  let b := byte type :: slice body 0 27
  b ++ beBytes 4 (crcLink b).toNat

/-- A link-control block waits to leave (R227). -/
def State.control (s : State) (p type : Nat) (body : List Byte) : State :=
  s.setPort p { s.port p with ctrl := (s.port p).ctrl ++ [(type, body)] }

/-- The place of a type in the order in which waiting blocks leave: a RESYNC_REPORT goes ahead of all others (R227). -/
def ctrlRank (type : Nat) : Nat :=
  match type with
  | 3 => 0
  | 1 => 1
  | 2 => 2
  | 7 => 3
  | 4 => 4
  | 5 => 5
  | _ => 6

/-- The waiting block that leaves next, the oldest of its rank. -/
def Port.nextControl (y : Port) : Option (Nat × List Byte) :=
  (List.range 7).findSome? fun k => y.ctrl.find? fun x => ctrlRank x.1 == k

/-- A link-control block leaves: four control blocks. IDLE blocks are not received on a loop, for nothing parses them. -/
def State.sendControl (s : State) (p type : Nat) (body : List Byte) : State :=
  let b := controlBlock type body
  if type = 0 ∧ s.near p then (s.sendBlocks p true b).1 else s.sendItem p true (.control p b) b .control

/-- The transmitter sends IDLE until the next markers have left (R227, R267). -/
def State.idleToMarker (s : State) (p : Nat) : State :=
  (List.range ((markerPeriod - (s.port p).sinceMark + 3) / 4)).foldl (fun s _ => s.sendControl p 0 []) s

/-! ### Patterns (R282 to R284) -/

/-- The next bit of a PRBS from the last bits, newest lowest (R282): x^7 + x^6 + 1, x^13 + x^12 + x^2 + x + 1, x^31 + x^28 + 1. -/
def prbsNext (mode : Nat) (b : Nat → Bool) : Bool :=
  match mode with
  | 1 => b 6 ^^ b 5
  | 2 => b 12 ^^ b 11 ^^ b 1 ^^ b 0
  | _ => b 30 ^^ b 27

/-- Degree of a PRBS. -/
def prbsDegree (mode : Nat) : Nat := match mode with | 1 => 7 | 2 => 13 | _ => 31

/-- The generator's next bit, before injection. -/
def Pattern.genBit (x : Pattern) (mode : Nat) (user : Word) : Pattern × Bool :=
  if mode = 4 then ({ x with phase := (x.phase + 1) % 64 }, user.getLsbD (63 - x.phase))
  else
    let b := prbsNext mode fun i => x.gen / 2 ^ i % 2 == 1
    ({ x with gen := (2 * x.gen + flag b 1) % 2 ^ 31 }, b)

/-- The bit that leaves: a burst inverts it, and the next burst starts when one has ended (R284). -/
def Pattern.sendBit (x : Pattern) (mode : Nat) (user : Word) : Pattern × Bool :=
  let (x, b) := x.genBit mode user
  let x := if x.burst = 0 then { x with burst := x.bursts.headD 0, bursts := x.bursts.drop 1 } else x
  if x.burst = 0 then (x, b) else ({ x with burst := x.burst - 1 }, !b)

/-- What a checker expects next from earlier bits, newest first (R283). -/
def expectBit (mode : Nat) (l : List Bool) : Bool := if mode = 4 then l.getD 63 false else prbsNext mode fun i => l.getD i false

/-- The last bits that make the checker lock: for a PRBS the 64 bits that it predicted, for USER four words that match the pattern at
one alignment. -/
def Pattern.matched (x : Pattern) (mode : Nat) (user : Word) : Bool :=
  if mode = 4 then
    x.seen.length == 256 && (List.range 64).any fun r =>
      (List.range 256).all fun i => x.seen.getD (255 - i) false == user.getLsbD (63 - (i + r) % 64)
  else x.run == 64

/-- What a checked bit does: nothing, a lock, an error, the loss of lock. -/
inductive Checked where
  | none | locked | error | lost
  deriving DecidableEq, Repr

/-- A checker takes a bit (R283). Unlocked it keeps the bits received, and locks when they match; once locked it compares with its own
reference, and loses lock at 32 mismatches among 128 bits. -/
def Pattern.check (x : Pattern) (mode : Nat) (user : Word) (locked : Bool) (b : Bool) : Pattern × Checked :=
  if locked then
    let e := expectBit mode x.ref
    let m := ((e != b) :: x.misses).take 128
    let x := { x with ref := (e :: x.ref).take 64, misses := m }
    if 32 ≤ m.countP id then ({ x with seen := [], run := 0, ref := [], misses := [] }, .lost)
    else (x, if e = b then .none else .error)
  else
    let run := if decide (prbsDegree mode ≤ x.seen.length) && (expectBit mode x.seen == b) then x.run + 1 else 0
    let x := { x with seen := (b :: x.seen).take 256, run := run }
    if x.matched mode user then ({ x with seen := [], run := 0, ref := x.seen.take 64, misses := [] }, .locked) else (x, .none)

end Sys2Proof.Machine
end

