-- ==== Sys2Proof/Machine/Route.lean ====
section
/-! DEFINITION. Routing: arrival at a router, the choice of an output, ordered flows, discards, waggle summaries, swaps of
the table sets, injection throttling, directed management packets (R188 to R226, R297). -/

namespace Sys2Proof.Machine

/-! ### Inputs (R200, R201, R216) -/

/-- The port whose row a packet uses: that of a port whose enabled partner the arrival port is, else the arrival port. -/
def State.rowOf (s : State) (port : Nat) : Nat :=
  if 72 ≤ port then port
  else ((List.range 72).find? fun p => s.partner p == some port).getD port

/-- The matrix bit of an input and an output in a set, or the injection mask for a local input (R200). -/
def State.permits (s : State) (set row out : Nat) : Bool :=
  if 72 ≤ row then
    (if out < 64 then bit (BitVec.ofNat 64 (s.rd Reg.RTE_INJ_MASK_LO_PERMIT set)) out
     else bit (BitVec.ofNat 64 (s.rd Reg.RTE_INJ_MASK_HI_PERMIT set)) (out - 64))
  else if out < 64 then bit (BitVec.ofNat 64 (s.rd Reg.RTE_TURN_LO_PERMIT set row)) out
  else bit (BitVec.ofNat 64 (s.rd Reg.RTE_TURN_HI_PERMIT set row)) (out - 64)

/-- The unit number of RTE events: the input port, 254 for local injection (R483). -/
def inputUnit (port : Nat) : Nat := if port < 72 then port else 254

/-! ### Discards (R195, R206, R210) -/

/-- Why a packet is discarded at a router. -/
inductive Discard where
  | noRoute | orderedBroken | hopLimit | turnViolation | misdelivered
  deriving DecidableEq, Repr

/-- REASON of RTE_NOROUTE_LOG. -/
def Discard.reason : Discard → Nat
  | .noRoute => 1
  | .orderedBroken => 2
  | .hopLimit => 3
  | .turnViolation => 4
  | .misdelivered => 5

/-- Discard a packet: the ROUTING source for the first two reasons, its counter, the log while it is free; its cells are
returned and its sample ends (R206, R210, R405). -/
def State.discard (s : State) (why : Discard) (x : InPkt) : State :=
  let n := x.pkt.net
  let u := inputUnit x.port
  let s := if why = .noRoute ∨ why = .orderedBroken then s.raise 0x141 n.destCoord else s
  let s := match why with
    | .noRoute => s.tally Reg.RTE_COUNT_NO_ROUTE 0x0C0 u
    | .orderedBroken => s.tally Reg.RTE_COUNT_ORDERED_BROKEN 0x0C1 u
    | .misdelivered => s.tally Reg.RTE_COUNT_MISDELIVERED 0x0C2 u
    | .hopLimit => s.tally Reg.RTE_COUNT_HOP_LIMIT 0x0C3 u
    | .turnViolation => s.tally Reg.RTE_COUNT_TURN_VIOLATION 0x0C4 u
  let s := if s.on Reg.RTE_NOROUTE_LOG_VALID then s
    else (((((s.wr Reg.RTE_NOROUTE_LOG_VALID 1).wr Reg.RTE_NOROUTE_LOG_ORDERED (if n.ordered then 1 else 0)).wr
      Reg.RTE_NOROUTE_LOG_VL n.vl).wr Reg.RTE_NOROUTE_LOG_IN_PORT (if x.port < 72 then x.port else 127)).wr
      Reg.RTE_NOROUTE_LOG_DEST_COORD n.destCoord).wr Reg.RTE_NOROUTE_LOG_REASON why.reason
  (s.returnCredit x.port x.pkt).endTag x.tag

/-! ### Local delivery (R21, R195, R223) -/

/-- Packets in the keeper queue. -/
def State.keeperLoad (s : State) : Nat := s.rt.keeper.length + s.rt.mgmtIn.length

/-- Deliver a packet to the local ports: management packets to the keeper queue of 64, the others to the hive and swarm
ports. It crosses the crossbar as it is delivered (R485). -/
def State.deliverLocal (s : State) (x : InPkt) : State :=
  let s := (s.stamp x.tag 1).stamp x.tag 2
  match x.pkt.body with
  | .mgmt _ =>
    let s := (s.returnCredit x.port x.pkt).endTag x.tag
    if 64 ≤ s.keeperLoad then s.tally Reg.RTE_MGMT_DROPPED 0x0C8
    else { s with rt := { s.rt with keeper := s.rt.keeper ++ [x] } }
  | _ => { s with rt := { s.rt with delivered := s.rt.delivered ++ [x] } }

/-! ### Arrival (R195, R226) -/

/-- The packet is one that every device on its path takes in: a directed management packet, or a swarm packet (R21). -/
def hopByHop (p : Packet) : Bool :=
  match p.body with
  | .mgmt h => h.directed
  | .swarm _ => true
  | _ => false

/-- R195: the outcome of the checks: the packet is discarded, delivered here, or to be routed. -/
inductive Arrival where
  | discard (why : Discard)
  | deliver (p : Packet) (fixed : Bool)
  | route (p : Packet) (fixed : Bool)
  deriving DecidableEq, Repr

/-- The checks of R195 in their order. -/
def State.arrival (s : State) (x : InPkt) : Arrival :=
  let n := x.pkt.net
  let row := s.rowOf x.port
  let directed := match x.pkt.body with | .mgmt h => h.directed | _ => false
  if !s.on Reg.RTE_MGMT_JOINED ∧ !directed then .discard .noRoute
  else if n.hops = 15 then .discard .hopLimit
  else if n.phase ∧ s.descends 1 row then .discard .turnViolation
  else
    let fixed := !n.phase && s.climbs 1 row
    let p := { x.pkt with net := { n with phase := n.phase || fixed } }
    if hopByHop x.pkt then .deliver p fixed
    else if n.destCoord = s.coord then
      (if n.kind = 0 ∧ !s.isOwnEid n.destEid then .discard .misdelivered else .deliver p fixed)
    else .route { p with net := { p.net with hops := n.hops + 1 } } fixed

/-- A read of an input or replay buffer of a port meets a corrected error there (R402). -/
def State.bufferMet (s : State) (port : Nat) : State := s.corrected (fun e => e == .link port) 0x11A

/-- R195: the first unchecked packet of a lane of an input buffer is checked. -/
def execRouterArrival (port : Nat) (lane : Nat) (s : State) : Host.Outcome State Fault Refusal := s.clocked <|
  let y := s.port port
  let l := if s.admits 2 then mgetD y.lanes lane [] else []
  match l.dropWhile (·.checked) with
  | [] => ok s
  | x :: rest =>
    let s := s.bufferMet port
    let before := l.takeWhile (·.checked)
    let put := fun (s : State) (l : List InPkt) => s.setPort port { s.port port with lanes := mset y.lanes lane l }
    let fix := fun (s : State) (b : Bool) => if b then s.tally Reg.RTE_COUNT_PHASE_FIXED 0x0C5 (inputUnit x.port) else s
    match s.arrival x with
    | .discard why => ok ((put s (before ++ rest)).discard why x)
    | .deliver p b => ok ((fix (put s (before ++ rest)) b).deliverLocal { x with pkt := p, checked := true })
    | .route p b => ok (fix (put s (before ++ { x with pkt := p, checked := true } :: rest)) b)

/-! ### Candidates (R196 to R204) -/

/-- A candidate: the output used, the port of R190 it stands for, the hop it makes, and whether that is a detour. -/
structure Cand where
  out : Nat
  col : Nat
  dim : Nat
  goal : Nat
  detour : Bool
  deriving DecidableEq, Repr

/-- Cells queued for an output on a lane (R203). -/
def State.queued (s : State) (port v : Nat) : Nat := ((mgetD (s.port port).egress v []).map (·.cells)).sum

/-- The dimensions that must rise, and those that must fall, from one coordinate word to another. -/
def risingDims (c t : Nat) : List Nat := (List.range 4).filter fun d => coordOf c d < coordOf t d
def fallingDims (c t : Nat) : List Nat := (List.range 4).filter fun d => coordOf t d < coordOf c d

/-- The hops that R196 and R198 permit a packet at coordinate `c`: dimension, neighbour, detour. -/
def State.hops (s : State) (n : NetHeader) (c : Nat) : List (Nat × Nat × Bool) :=
  let t := n.destCoord
  let rising := risingDims c t
  let falling := fallingDims c t
  let minimal := (if n.phase then [] else rising.map fun d => (d, coordOf t d, false))
    ++ (if rising.isEmpty then falling.map fun d => (d, coordOf t d, false) else [])
  let climbs := if n.phase then [] else (List.range 4).flatMap fun d =>
    ((List.range (s.widthOf 1 d)).filter fun v => coordOf c d < v ∧ v ≠ coordOf t d).map fun v => (d, v, true)
  let descents := if rising.isEmpty then falling.flatMap fun d =>
    ((List.range (coordOf c d)).filter fun v => coordOf t d < v).map fun v => (d, v, true) else []
  minimal ++ (if 0 < n.detoursLeft then climbs ++ descents else [])

/-- The port itself when usable, else its partner when that may stand in (R202, R216). -/
def State.live (s : State) (p : Nat) : Option Nat := if s.usable p then some p else s.standIn p

/-- candidates(pkt, in_port) of R202. -/
def State.candidates (s : State) (n : NetHeader) (row : Nat) : List Cand :=
  let back := if row < 72 then (s.bundleOf 1 row).map fun b => (b.1, b.2.1) else none
  (s.hops n s.coord).flatMap fun (d, v, det) =>
    if back = some (d, v) then []
    else (s.portsTo d v).filterMap fun p =>
      match s.live p with
      | some o => if s.permits 1 row p then some ⟨o, p, d, v, det⟩ else none
      | none => none

/-- The waggle code that a neighbour reports for an output and a lane: 15 while every link to it is down, 8 when no summary of the
last four periods is at hand, by the root clock, 8 counts in a nanosecond (R207, R208). -/
def State.waggleCode (s : State) (w port v : Nat) : Nat :=
  if (List.range 72).all fun p => s.neighbour 1 p != some w || (!s.portUp p && (s.goodPartner p).isNone) then 15
  else match mget s.rt.summaries w with
  | some m => if 1600 * s.rd Reg.RTE_WAGGLE_PERIOD < s.root - m.since then 8 else
      let b := (m.depth.getD (4 * port + v / 2) 0).toNat
      if v % 2 = 0 then b / 16 else b % 16
  | none => 8

/-- onward(o) of R203: none when the neighbour is the destination. -/
def State.onward (s : State) (n : NetHeader) (x : Cand) : Option Nat :=
  let w := withCoord s.coord x.dim x.goal
  if w = n.destCoord then none
  else
    let phase := n.phase || decide (x.goal < coordOf s.coord x.dim)
    let rising := risingDims w n.destCoord
    let dims := if rising.isEmpty then fallingDims w n.destCoord else if phase then [] else rising
    let codes := dims.flatMap fun e => (s.portsFrom 1 (coordOf w e) e (coordOf n.destCoord e)).map fun p => s.waggleCode w p n.vl
    some (codes.foldl min 15)

/-- cost(o) of R203. -/
def State.cost (s : State) (n : NetHeader) (x : Cand) : Nat :=
  min 14 (s.queued x.out n.vl / max 1 (s.rd Reg.RTE_WAGGLE_QUANT_CELLS)) + min 14 ((s.onward n x).getD 0)
    + (if x.detour then s.rd Reg.RTE_ADAPT_DETOUR_PENALTY 1 else 0)

/-- The best of scored candidates, counting ports from the pointer on (R203). -/
def bestCand (ptr : Nat) (l : List (Nat × Cand)) : Option Cand :=
  (l.foldl (fun (a : Option (Nat × Cand)) x =>
    match a with
    | none => some x
    | some y =>
      let kx := (x.1, (x.2.out + 72 - ptr % 72) % 72)
      let ky := (y.1, (y.2.out + 72 - ptr % 72) % 72)
      if kx.1 < ky.1 ∨ (kx.1 = ky.1 ∧ kx.2 < ky.2) then some x else some y) none).map (·.2)

/-- The choice for a packet with ORDERED 0, with the pointer of its crossbar input (R202 to R204). -/
def State.chooseAdaptive (s : State) (n : NetHeader) (row input : Nat) : Option Cand :=
  let l := s.candidates n row
  let open_ := l.filter fun x => s.onward n x != some 15
  let l := if s.on Reg.RTE_WAGGLE_LOOKAHEAD ∧ !open_.isEmpty then open_ else l
  bestCand (mgetD s.rt.pointers input 0) (l.map fun x => (s.cost n x, x))

/-! ### Ordered flows (R210) -/

/-- The permutation of (0, 1, 2, 3) with a number in lexicographic order. -/
def permDims (k : Nat) : List Nat :=
  let take := fun (l : List Nat) (i : Nat) => (nth l i, l.eraseIdx i)
  let a := take [0, 1, 2, 3] (k / 6 % 4)
  let b := take a.2 (k % 6 / 2)
  let c := take b.2 (k % 2)
  [a.1, b.1, c.1] ++ c.2

/-- The choice for a packet with ORDERED 1 (R210): the port, before its partner may replace it. -/
def State.orderedPort (s : State) (n : NetHeader) (row : Nat) : Option Cand :=
  let c := s.coord
  let t := n.destCoord
  let perm := permDims (n.flowHash % 256 % 24)
  let rising := perm.filter fun d => coordOf c d < coordOf t d
  let falling := perm.filter fun d => coordOf t d < coordOf c d
  let link := fun d v => s.baseOf 1 d + (if v < coordOf c d then v else v - 1) * s.linksOf 1 d
    + n.flowHash / 256 % 256 % max 1 (s.linksOf 1 d)
  let back := if row < 72 then (s.bundleOf 1 row).map fun b => (b.1, b.2.1) else none
  let pick := fun (d v : Nat) (det : Bool) =>
    if s.permits 1 row (link d v) ∧ back ≠ some (d, v) then some (⟨link d v, link d v, d, v, det⟩ : Cand) else none
  let prefer := if rising.isEmpty then falling else if n.phase then [] else rising
  match prefer.findSome? fun d => pick d (coordOf t d) false with
  | some x => some x
  | none =>
    if n.detoursLeft = 0 then none
    else perm.findSome? fun d =>
      let up := if n.phase then [] else (List.range (s.widthOf 1 d)).filter fun v => coordOf c d < v ∧ v ≠ coordOf t d
      let down := if rising.isEmpty ∧ coordOf t d < coordOf c d then
        ((List.range (coordOf c d)).filter fun v => coordOf t d < v).reverse else []
      (up ++ down).findSome? fun v => pick d v true

/-! ### Decisions (R205, R206, R297) -/

/-- The crossbar ports by which the WT packets of a function enter: those of its host port, and the two store ports, for payload
may come from either memory (R20). -/
def State.sourcePorts (s : State) (eid : Nat) : List Nat :=
  let h := ((List.range 2048).find? fun n => s.ownEid n == some eid).getD 0 / 512
  [72 + 4 * h, 73 + 4 * h, 74 + 4 * h, 75 + 4 * h, 90, 91]

/-- The pointer that serves a packet: that of its network port, of the hive port for a packet of a forager, of the keeper port
for other management packets. A WT packet of a function enters by one of its source's ports; which one, the spec does not say: a
free value (R20, R203; log entry 2). -/
def State.inputOf (s : State) (x : InPkt) (row : Nat) : State × Nat :=
  if row < 72 then (s, row)
  else if x.hive then (s, 92)
  else if x.pkt.net.kind = 2 then (s, 93)
  else (s.takeFree, nth (s.sourcePorts x.pkt.net.srcEid) (s.freeVal % 6))

/-- The egress discard of coloured packets (R297): none, or the colour that is discarded. -/
def State.egressDrop (s : State) (out : Nat) (n : NetHeader) : Option Nat :=
  let q := s.queued out n.vl
  let y := s.rd Reg.SCH_EG_DISCARD_YELLOW_CELLS out
  let r := s.rd Reg.SCH_EG_DISCARD_RED_CELLS out
  if n.kind ≠ 0 then none
  else if n.colour = 1 ∧ y ≠ 0 ∧ y < q then some 1
  else if n.colour = 2 ∧ r ≠ 0 ∧ r < q then some 2
  else none

/-- The output of a packet: that of its ordered flow, or the adaptive choice, which moves the pointer of its input (R203). -/
def State.choose (s : State) (x : InPkt) : State × Option Cand :=
  let n := x.pkt.net
  let row := s.rowOf x.port
  if n.ordered then (s, (s.orderedPort n row).bind fun c => (s.live c.col).map fun o => { c with out := o })
  else
    let r := s.inputOf x row
    let s := r.1
    match s.chooseAdaptive n row r.2 with
    | none => (s, none)
    | some c => ({ s with rt := { s.rt with pointers := mset s.rt.pointers r.2 ((c.out + 1) % 72) } }, some c)

/-- Decide the output of a packet and queue it there, or discard it. -/
def State.decideOutput (s : State) (x : InPkt) : State :=
  let r := s.choose x
  let s := r.1
  match r.2 with
  | none => s.discard (if x.pkt.net.ordered then .orderedBroken else .noRoute) x
  | some c =>
    match s.egressDrop c.out x.pkt.net with
    | some col =>
      let s := if col = 1 then s.tally Reg.SCH_EG_DISCARD_YELLOW_DROPS 0x0CD c.out none 1 c.out
        else s.tally Reg.SCH_EG_DISCARD_RED_DROPS 0x0CE c.out none 1 c.out
      (s.returnCredit x.port x.pkt).endTag x.tag
    | none => (s.stamp x.tag 1).toEgress c.out { x with detour := c.detour }

/-- Decide again a packet whose output has gone down before it started to leave (R205). Swarm packets move to the partner of
their tree port, or are lost; directed management packets are lost (R154, R194). A mirror copy is never routed (R41), nor is a packet
that a failed partner handed over: it is lost with this port (R254). -/
def State.decideAgain (s : State) (port : Nat) (x : InPkt) : State :=
  if x.raw.isSome then
    if x.port = 95 then s.sat Reg.GLB_SPARE_XBAR_STATUS_MIRROR_DROPPED 1
    else s.tally Reg.LNK_FAILOVER_DISCARDED 0x08C port none 1 port
  else match x.pkt.body with
  | .swarm _ =>
    match s.carrier port with
    | some q => s.toEgress q x
    | none => s.endTag x.tag
  | .mgmt h => if h.directed then s.discard .noRoute x else s.decideOutput { x with detour := false }
  | _ => s.decideOutput { x with detour := false }

/-- The tree port of a swarm packet built here: the edge it was sent over, or, for one that a forager built, the tree port of its
group that leads to its destination (R154, R168). -/
def State.treePort (s : State) (x : InPkt) (h : SwarmHeader) : Option Nat :=
  x.edge <|> (mget s.sw.fronds h.gid).bind fun f => f.treePorts.find? fun p => s.neighbour 1 p == some x.pkt.net.destCoord

/-- A packet built here enters the crossbar: a directed management packet goes to the keeper, or out by the port that the keeper has
read in its list (R223), a swarm packet to its tree
port or the partner (R154), one for this device is delivered, any other is routed. -/
def State.enter (s : State) (x : InPkt) : State :=
  let here : Bool := x.pkt.net.destCoord == s.coord
  match x.pkt.body with
  | .mgmt h =>
    match x.edge with
    | some p => if s.portUp p then s.toEgress p x else s.discard .noRoute x
    | none => if h.directed ∨ here then s.deliverLocal x else s.decideOutput x
  | .swarm h =>
    if x.edge.isNone ∧ here then s.deliverLocal x
    else match s.treePort x h with
      | none => s.discard .noRoute x
      | some e =>
        match s.carrier e with
        | some q => s.toEgress q x
        | none => s.endTag x.tag
  | _ =>
    if !here then s.decideOutput x
    else if x.pkt.net.kind = 0 ∧ !s.isOwnEid x.pkt.net.destEid then s.discard .misdelivered x
    else s.deliverLocal x

/-- The device may inject a packet: before it has joined, only a management response. A directed packet on its way through the keeper
is forwarded (R226). -/
def State.mayInject (s : State) (x : InPkt) : Bool :=
  s.on Reg.RTE_MGMT_JOINED || (match x.pkt.body with | .mgmt h => h.response || x.edge.isSome | _ => false)

/-- R205: a packet reaches the head of its lane: at a network port, in an injection queue (port 127, lanes 0 to 15), or among
the swarm and management packets built here (port 127, lane 16), of which the first that may be injected goes (R226). -/
def execRoutingDecision (port : Nat) (lane : Nat) (s : State) : Host.Outcome State Fault Refusal := s.clocked <|
  if !s.admits 2 then ok s
  else if port < 72 then
    let y := s.port port
    match mgetD y.lanes lane [] with
    | x :: l => if x.checked then ok ((s.setPort port { y with lanes := mset y.lanes lane l }).decideOutput x) else ok s
    | [] => ok s
  else
    let l := if lane = 16 then s.rt.own else mgetD s.rt.inject lane []
    match l.find? s.mayInject with
    | none => ok s
    | some x =>
      let rest := l.erase x
      let s := if lane = 16 then { s with rt := { s.rt with own := rest } }
        else { s with rt := { s.rt with inject := mset s.rt.inject lane rest } }
      let r := s.samplePacket x
      ok (r.1.enter r.2)

/-! ### Injection throttling (R215) -/

/-- R215: an injection queue has fallen below LO_CELLS: its group is no longer throttled. -/
def execThrottleRelease (group : Nat) (s : State) : Host.Outcome State Fault Refusal := s.clocked <|
  if group < 16 ∧ s.throttled group ∧ s.groupCells group < s.rd Reg.RTE_THROTTLE_LO_CELLS then
    ok (s.wr Reg.RTE_THROTTLE_ACTIVE (s.rd Reg.RTE_THROTTLE_ACTIVE - 2 ^ group))
  else ok s

/-! ### Waggle summaries (R207, R208) -/

/-- The depth code of an output and a lane. -/
def State.depthCode (s : State) (p v : Nat) : Nat :=
  if (s.bundleOf 1 p).isNone ∨ !s.usable p then 15
  else min 14 (s.queued p v / max 1 (s.rd Reg.RTE_WAGGLE_QUANT_CELLS))

/-- The 296 bytes of a summary. -/
def State.summary (s : State) (seq : Nat) : List Byte :=
  [byte 16, byte seq] ++ beBytes 3 s.coord ++ [0, 0, 0]
    ++ (List.range 288).map fun i => byte (s.depthCode (i / 4) (2 * (i % 4)) * 16 + s.depthCode (i / 4) (2 * (i % 4) + 1))

/-- A summary is due on a port. It is sampled when its fragment 0 leaves: until then its block has no body. A summary that still
waits is not doubled. -/
def State.sendSummary (s : State) (p : Nat) : State := if (s.port p).ctrl.contains (5, []) then s else s.control p 5 []

/-- The bodies of the twelve fragments of a summary, sampled now; SEQ moves on. -/
def State.takeSummary (s : State) (p : Nat) : State × List (List Byte) :=
  let y := s.port p
  let m := s.summary y.waggleSeq
  (s.setPort p { y with waggleSeq := (y.waggleSeq + 1) % 256 }, (List.range 12).map fun f => byte f :: slice m (26 * f) 26)

/-- The ports that carry summaries to a neighbour: the links of its bundle that are up, or their partners while none is (R208, R216).
Ports on WLP version 1 carry none (R250). -/
def State.summaryPorts (s : State) (d v : Nat) : List Nat :=
  let carries := fun p => s.portUp p && s.rd Reg.LNK_STATUS_VERSION p == 2
  let l := (s.portsTo d v).filter carries
  if l.isEmpty then ((s.portsTo d v).filterMap s.goodPartner).filter carries else l

/-- R208: the waggle period passes. Each neighbour gets a summary on one link of its bundle, the links in turn. -/
def execWagglePeriod (s : State) : Host.Outcome State Fault Refusal := s.clocked <|
  let turn := s.rt.waggleTurn
  let s := { s with rt := { s.rt with waggleTurn := turn + 1 } }
  let ports := (List.range 4).flatMap fun d => (List.range (s.widthOf 1 d)).filterMap fun v =>
    let l := s.summaryPorts d v
    l[turn % max 1 l.length]?
  ok (ports.foldl (fun s p => s.sendSummary p) s)

/-! ### Swaps (R188 to R190, R200, R214, R217 to R219) -/

/-- Bundles of a set: first port and number of ports of each dimension in use. -/
def State.spans (s : State) (set : Nat) : List (Nat × Nat) :=
  ((List.range 4).filter fun d => 1 < s.widthOf set d).map fun d => (s.baseOf set d, (s.widthOf set d - 1) * s.linksOf set d)

/-- No two ranges of a list overlap. -/
def disjoint : List (Nat × Nat) → Bool
  | [] => true
  | a :: l => (l.all fun b => decide (a.1 + a.2 ≤ b.1 ∨ b.1 + b.2 ≤ a.1)) && disjoint l

/-- The lanes of a set's lane map. -/
def State.lanesOf (s : State) (set : Nat) (request : Bool) : List Nat := (List.range 8).map fun tc => s.vlMap set tc request

/-- The shadow set passes R188, R189, R190, R214 and R217. -/
def State.shadowOk (s : State) : Bool :=
  ((List.range 4).all fun d => decide (1 ≤ s.widthOf 0 d ∧ s.widthOf 0 d ≤ 32 ∧ 1 ≤ s.linksOf 0 d ∧ s.linksOf 0 d ≤ 8))
    && decide (((List.range 4).map fun d => (s.widthOf 0 d - 1) * s.linksOf 0 d).sum ≤ 72)
    && s.coordLegal 0 (s.coord 0)
    && ((s.spans 0).all fun p => decide (p.1 + p.2 ≤ 72)) && disjoint (s.spans 0)
    && ((s.lanesOf 0 true).all fun v => !(s.lanesOf 0 false).contains v)
    && decide (((List.range 72).filter fun p => s.on Reg.RTE_PARTNER_ENABLE 0 p).map fun p => s.rd Reg.RTE_PARTNER_PORT 0 p).Nodup

/-- Copy a set of registers to the other: shadow to active, or back. -/
def State.copySet (s : State) (src dst : Nat) : State :=
  let lo := 0x1001000 + 0x1000 * src
  let at0 := 0x1001000 + 0x1000 * dst
  let part := (s.regs.filter fun p => lo ≤ p.1 ∧ p.1 < lo + 0x1000).map fun p => (p.1 - lo + at0, p.2)
  let s := s.resetRegs at0 (at0 + 0x1000)
  { s with regs := part.foldl (fun m p => mset m p.1 p.2) s.regs }

/-- Bits of a mask of 72 ports. -/
def maskOf (l : List Nat) : Nat := (l.map fun p => 2 ^ p).sum

/-- R200: clear each active matrix bit from a descend input to a climb output; the number of bits cleared. -/
def State.forceTurns (s : State) : State × Nat :=
  let climb := maskOf ((List.range 72).filter fun p => s.climbs 1 p)
  ((List.range 72).filter fun p => s.climbs 1 p).foldl (fun (a : State × Nat) i =>
    let row := a.1.rd Reg.RTE_TURN_LO_PERMIT 1 i + a.1.rd Reg.RTE_TURN_HI_PERMIT 1 i * 2 ^ 64
    let hit := row &&& climb
    if hit = 0 then a
    else
      (((a.1.wr Reg.RTE_TURN_LO_PERMIT ((row - hit) % 2 ^ 64) 1 i).wr Reg.RTE_TURN_HI_PERMIT ((row - hit) / 2 ^ 64) 1 i),
        a.2 + ((List.range 72).filter fun j => hit / 2 ^ j % 2 == 1).length)) (s, 0)

/-- A port lies in a bundle of the active set, or an active PARTNER entry names it (R41). -/
def State.portInUse (s : State) (p : Nat) : Bool :=
  (s.bundleOf 1 p).isSome || s.on Reg.RTE_PARTNER_ENABLE 1 p || (List.range 72).any fun q => s.partner q == some p

/-- R41: a swap that places MIRROR_OUT in a bundle or a PARTNER entry stops the mirror. -/
def State.mirrorStop (s : State) : State :=
  if s.on Reg.GLB_SPARE_XBAR_CTRL_MIRROR_EN ∧ s.portInUse (s.rd Reg.GLB_SPARE_XBAR_CTRL_MIRROR_OUT) then
    s.wr Reg.GLB_SPARE_XBAR_CTRL_MIRROR_EN 0
  else s

/-- The swap (R218): the shadow set is checked and made active, forced turns are cleared, the shadow is refilled. The refill,
which takes at most 1 µs, is complete within the step (log entry 29). -/
def State.swap (s : State) : State :=
  if !s.shadowOk then (s.wr Reg.RTE_SWAP_STATUS St.badDescriptor).configError Reg.RTE_SWAP_GO.base
  else
    let s := s.copySet 0 1
    let s := (List.range 72).foldl (fun (s : State) p => if s.on Reg.RTE_PARTNER_MISMATCH 1 p then s.wr Reg.RTE_PARTNER_MISMATCH 0 1 p else s) s
    let r := s.forceTurns
    let s := r.1.copySet 1 0
    let s := ((s.wr Reg.RTE_SWAP_STATUS 0).wr Reg.RTE_SWAP_FORCED r.2).wr Reg.RTE_SWAP_SWAPS (s.rd Reg.RTE_SWAP_SWAPS + 1)
    s.judgeAll.mirrorStop

/-- Writing RTE_SWAP.GO 1 (R218): ignored while PENDING; a timed swap waits unless its time has passed. -/
def State.swapGo (s : State) : State :=
  if s.on Reg.RTE_SWAP_PENDING ∨ s.on Reg.RTE_SWAP_BUSY then s
  else if s.on Reg.RTE_SWAP_AT_TIME ∧ s.time < s.rd Reg.RTE_SWAP_TIME_TIME then s.wr Reg.RTE_SWAP_PENDING 1
  else s.swap

/-! ### Coordinates announced on the links (R248) -/

/-- The versions that a port offers (R247). -/
def State.offers (s : State) (p : Nat) : Nat := if s.rd Reg.LNK_CFG_MAX_VERSION p = 1 then 1 else 3

/-- The lane sizes that LNK_VL_CELLS sets for a port (R245). -/
def State.laneCells (s : State) (p : Nat) : List Nat := (List.range 8).map fun v => s.rd (laneFld Reg.LNK_VL_CELLS_LO_CELLS0 v) p

/-- The body of a TRAIN block of a port with a version offer and lane sizes (R232, R247). -/
def State.trainBody (s : State) (p : Nat) (ready : Bool) (offer : Nat) (cells : List Nat) : List Byte :=
  let joined := s.on Reg.RTE_MGMT_JOINED
  [byte (flag ready 128 + offer), byte (flag joined 128 + p)] ++ beBytes 3 (if joined then s.coord else 0) ++ [0, 0]
    ++ beBytes 8 s.bt.fuses.serial ++ beBytes 12 (cells.foldl (fun a c => a * 4096 + c % 4096) 0)

/-- TRAIN blocks go out again on every link that is up, with the offer and the lane sizes in force unchanged, when COORD_VALID or COORD
has changed since `old` (R245, R248). -/
def State.announce (s old : State) : State :=
  if s.on Reg.RTE_MGMT_JOINED == old.on Reg.RTE_MGMT_JOINED && (!s.on Reg.RTE_MGMT_JOINED || s.coord == old.coord) then s
  else ((List.range 72).filter s.portUp).foldl (fun (s : State) p => s.control p 6 (s.trainBody p true (s.port p).offer (s.port p).rxCells)) s

/-- R218, R219: fabric time has reached RTE_SWAP_TIME. -/
def execTimedSwap (s : State) : Host.Outcome State Fault Refusal := s.clocked <|
  if s.on Reg.RTE_SWAP_PENDING ∧ s.rd Reg.RTE_SWAP_TIME_TIME ≤ s.time then
    ok ((s.wr Reg.RTE_SWAP_PENDING 0).swap.announce s)
  else ok s

/-! ### Management packets (R222 to R226) -/

/-- Send a management packet: a directed one on its listed port, another to the crossbar (R194, R223). While the crossbar is quiesced
it waits (R23). A list of ports that ends here, or names no network port, leads nowhere: the packet is gone (DESIGN CHOICE, log
entry 48). -/
def State.sendMgmt (s : State) (p : Packet) : State :=
  match p.body with
  | .mgmt h =>
    let port := nth h.outHops h.hopPtr
    if !h.directed then s.injectOwn p
    else if h.hopPtr < 14 ∧ port < 72 then
      let q := { p with body := .mgmt { h with hopPtr := h.hopPtr + 1 }, arrived := s.time }
      let x : InPkt := { port := 127, pkt := q, cells := p.cells, edge := some port }
      if !s.admits 2 then { s with rt := { s.rt with own := s.rt.own ++ [x] } }
      else
        let r := s.samplePacket x
        r.1.enter r.2
    else s
  | _ => s

/-- The EID that the device's own management packets carry: that of its first function that has one, 0 before it has joined
(R194). -/
def State.mgmtEid (s : State) : Nat :=
  if s.on Reg.RTE_MGMT_JOINED then ((List.range 2048).findSome? fun n => s.ownEid n).getD 0 else 0

/-- The path back of a directed request (R223). -/
def backPath (h : MgmtHeader) : List Nat := (h.returnHops.take h.hopCount).reverse

/-- Answer a management request (R223, R224): along the reverse of RETURN_HOPS, or to the coordinate of SRC_EID, which the keeper
reads in the EID table's register words (log entry 48). -/
def State.mgmtReply (s : State) (x : InPkt) (h : MgmtHeader) (status : Nat) (payload : List Byte := []) : State :=
  let hops := if h.directed then backPath h else []
  let r : MgmtHeader := { mop := h.mop, seq := h.seq, directed := h.directed, response := true, status := status, hopCount := hops.length, outHops := hops }
  let detours := s.rd Reg.RTE_ADAPT_MAX_DETOURS 1
  let net : NetHeader := { kind := 2, vl := s.rd Reg.RTE_MGMT_MGMT_VL, detoursLeft := detours, srcEid := s.mgmtEid }
  if h.directed then
    if h.hopCount = 0 then s.emit (.manager (Packet.toBytes { net := net, body := .mgmt r, payload := payload }))
    else s.sendMgmt { net := net, body := .mgmt r, payload := payload }
  else match s.eidLookup x.pkt.net.srcEid with
    | some (coord, _, _) => (s.eidMet x.pkt.net.srcEid).sendMgmt { net := { net with destCoord := coord }, body := .mgmt r, payload := payload }
    | none => s.eidMet x.pkt.net.srcEid

/-- A management packet for this device: a response or an event goes to the fabric manager here; a request of another
MVERSION is answered with VERSION_MISMATCH (R222), one of no known operation with BAD_DESCRIPTOR, any other waits for its
operation. -/
def State.takeMgmt (s : State) (x : InPkt) : State :=
  match x.pkt.body with
  | .mgmt h =>
    if h.response ∨ h.mop = 9 then s.emit (.manager x.pkt.toBytes)
    else if h.mversion ≠ 1 then s.mgmtReply x h St.versionMismatch
    else if h.mop = 0 ∨ 10 < h.mop then s.mgmtReply x h St.badDescriptor
    else { s with rt := { s.rt with mgmtIn := s.rt.mgmtIn ++ [x] } }
  | _ => s

/-- R223: the keeper takes the next packet of its queue: it records the arrival port of a directed packet and forwards the
packet, or takes it. -/
def execMgmtDirectedForward (s : State) : Host.Outcome State Fault Refusal := s.clocked <|
  match s.rt.keeper with
  | [] => ok s
  | x :: l =>
    let s := { s with rt := { s.rt with keeper := l } }
    match x.pkt.body with
    | .mgmt h =>
      let h := if h.directed ∧ x.port < 72 ∧ 0 < h.hopPtr then { h with returnHops := setNth h.returnHops (h.hopPtr - 1) x.port } else h
      let n := { x.pkt.net with phase := false, hops := 0, detoursLeft := s.rd Reg.RTE_ADAPT_MAX_DETOURS 1 }
      let p : Packet := { x.pkt with body := .mgmt h, net := n }
      if !h.directed ∨ h.hopPtr = h.hopCount then ok (s.takeMgmt { x with pkt := p }) else ok (s.sendMgmt p)
    | _ => ok s

end Sys2Proof.Machine
end

