-- ==== Sys2Proof/Machine/Link.lean ====
section
/-! DEFINITION. The reliable link: frames, acknowledgement, replay, the credit ledger and its resynchronisation, link-up, link
down, failover, violations, link exercise mode, the packet mirror (R41, R227 to R262). -/

namespace Sys2Proof.Machine

/-! ### Sending (R227 to R230, R234, R241) -/

/-- AVAIL of a lane (R241). -/
def State.avail (s : State) (p v : Nat) : Int := toSigned 16 (s.rd (laneFld Reg.LNK_AVAIL_LO_AVAIL0 v) p)

/-- Set AVAIL of a lane. -/
def State.setAvail (s : State) (p v : Nat) (x : Int) : State := s.wr (laneFld Reg.LNK_AVAIL_LO_AVAIL0 v) (ofInt 16 x) p

/-- The link header (R228). -/
def linkHeader (vl lsn len : Nat) (replay : Bool) : List Byte :=
  [byte (16 + vl % 8)] ++ beBytes 3 lsn ++ beBytes 2 len ++ [byte (flag replay 128), 0]

/-- Send a packet's frame: the debit of its lane, the marker's debit, the counters (R229, R230, R241). `corrupt` inverts the
lowest CRC bit (R260). -/
def State.frame0 (s : State) (p : Nat) (r : Replay) (replay corrupt : Bool) : State :=
  let h := linkHeader r.vl r.lsn r.bytes.length replay
  let c := crcLink (h ++ r.bytes)
  let c := if r.stomped then ~~~c else c
  let c := if corrupt then c ^^^ 1#32 else c
  let n := r.bytes.length
  let s := s.setAvail p r.vl (s.avail p r.vl - r.cells)
  let y := s.port p
  let s := if y.mark.isSome then s.setPort p { y with markDebit := setNth y.markDebit r.vl (nth y.markDebit r.vl + r.cells) } else s
  ((s.count 0x080 p).count 0x081 p r.cells).sendItem p false (.frame p h r.bytes c) (h ++ r.bytes ++ beBytes 4 c.toNat) fun g =>
    .frame { header := slice g 0 8, bytes := slice g 8 n, crc := BitVec.ofNat 32 (ofBE (slice g (8 + n) 4)) }

/-- The replay buffer's cells are shown (R234). -/
def State.replayShown (s : State) (p : Nat) : State :=
  s.wr Reg.LNK_LEDGER_REPLAY_CELLS (((s.port p).replay.map (·.cells)).sum) p

/-- A packet of a lane may start: credit, and replay space for a new one (R234, R241). -/
def State.maySend (s : State) (p v cells : Nat) (fresh : Bool) : Bool :=
  decide ((cells : Int) ≤ s.avail p v) && (!fresh || decide (s.rd Reg.LNK_LEDGER_REPLAY_CELLS p + cells ≤ 1536))

/-- Send a new packet: it takes the next LSN and a place in the replay buffer (R234). -/
def State.sendNew0 (s : State) (p vl cells : Nat) (bytes : List Byte) (stomped corrupt : Bool) : State :=
  let lsn := s.rd Reg.LNK_LEDGER_NEXT_LSN p
  let r : Replay := { lsn := lsn, vl := vl, cells := cells, bytes := bytes, stomped := stomped }
  let y := s.port p
  let s := (s.setPort p { y with replay := y.replay ++ [r] }).replayShown p
  (s.wr Reg.LNK_LEDGER_NEXT_LSN (lsn + 1) p).frame0 p r false corrupt

/-- The first transmission of a packet, with its CORRUPT draw (R260). -/
def State.sendFirst (s : State) (p vl cells : Nat) (bytes : List Byte) (stomped : Bool) : State :=
  let r := s.exDraw p Reg.LNK_EXER_CFG_CORRUPT_LOG2
  let s := if r.2 then r.1.sat Reg.LNK_EXER_COUNT_CORRUPTED 1 p else r.1
  s.sendNew0 p vl cells bytes stomped r.2

/-- MIRROR_COPY (R41): a packet that MIRROR_SRC sends (`dir` 2) or receives (`dir` 1) is copied to port 94, where it waits for
for its turn on MIRROR_OUT. The copy is discarded and counted while another waits there, where MIRROR_OUT lacks credit or replay
space, or while the crossbar takes nothing new in (R23). -/
def State.mirror (s : State) (p dir : Nat) (bytes : List Byte) (stomped : Bool) : State :=
  if s.on Reg.GLB_SPARE_XBAR_CTRL_MIRROR_EN ∧ s.rd Reg.GLB_SPARE_XBAR_CTRL_MIRROR_SRC = p
      ∧ (s.rd Reg.GLB_SPARE_XBAR_CTRL_MIRROR_DIR = dir ∨ s.rd Reg.GLB_SPARE_XBAR_CTRL_MIRROR_DIR = 3) then
    let out := s.rd Reg.GLB_SPARE_XBAR_CTRL_MIRROR_OUT
    let vl := s.rd Reg.GLB_SPARE_XBAR_CTRL_MIRROR_VL
    let cells := (bytes.length + 63) / 64
    if s.rt.mirrored.isNone ∧ s.admits 2 ∧ s.portUp out ∧ s.maySend out vl cells true then
      { s with rt := { s.rt with mirrored := some (out, { lsn := 0, vl := vl, cells := cells, bytes := bytes, stomped := stomped }) } }
    else s.sat Reg.GLB_SPARE_XBAR_STATUS_MIRROR_DROPPED 1
  else s

/-- A copy whose output lacks credit or replay space by now is discarded and counted (R41). -/
def State.mirrorFits (s : State) (p : Nat) : State :=
  match s.rt.mirrored with
  | some (q, r) =>
    if q = p ∧ !s.maySend p r.vl r.cells true then
      ({ s with rt := { s.rt with mirrored := none } }).sat Reg.GLB_SPARE_XBAR_STATUS_MIRROR_DROPPED 1
    else s
  | none => s

/-- Send a new packet, with its mirror copy. -/
def State.sendNew (s : State) (p vl cells : Nat) (bytes : List Byte) (stomped : Bool) : State :=
  (s.sendFirst p vl cells bytes stomped).mirror p 2 bytes stomped

/-- Send a packet of the replay buffer again (R239). -/
def State.sendReplay (s : State) (p : Nat) (r : Replay) : State := (s.frame0 p r true false).mirror p 2 r.bytes r.stomped

/-- An ACK_CREDIT block is due; one that waits already takes the NAK with it (R236). -/
def State.linkAck (s : State) (p : Nat) (nak : Bool) : State :=
  let y := s.port p
  if y.ctrl.any (·.1 == 1) then
    s.setPort p { y with ctrl := y.ctrl.map fun x => if x.1 = 1 ∧ nak then (1, [128]) else x }
  else s.control p 1 [byte (flag nak 128)]

/-- The body of an ACK_CREDIT block as it starts to leave: EXPECT - 1 and every credit that has accumulated, which it takes (R227,
R236). -/
def State.ackBody (s : State) (p : Nat) (b : List Byte) : State × List Byte :=
  let y := s.port p
  let ack := (s.rd Reg.LNK_RX_EXPECT_LSN p + 2 ^ 24 - 1) % 2 ^ 24
  let left := (List.range 8).map fun v => nth y.credit v - min 4096 (nth y.credit v)
  (s.setPort p { y with credit := left },
    b.take 1 ++ beBytes 3 ack ++ [0] ++ (List.range 8).flatMap fun v => beBytes 2 (min 4096 (nth y.credit v)))

/-- A loss causes one NAK while the NAK is armed (R237). -/
def State.linkNak (s : State) (p : Nat) : State :=
  if s.on Reg.LNK_RX_NAK_ARMED p then (s.wr Reg.LNK_RX_NAK_ARMED 0 p).linkAck p true else s

/-- Send the next marker; one that is outstanding is closed without effect (R243, R244). -/
def State.sendMark (s : State) (p : Nat) : State :=
  let y := s.port p
  let id := (y.markId + 1) % 256
  (s.setPort p { y with markId := id, mark := some id, markDebit := [] }).control p 2 [byte id]

/-! ### Failover (R254 to R256) -/

/-- Discard a port's unacknowledged packets (R252): they are counted, and lost swarm packets abort their epochs. -/
def State.discardUnacked (s : State) (p : Nat) : State :=
  let y := s.port p
  let l := y.replay ++ y.handed
  let s := (s.setPort p { y with replay := [], resend := [], handed := [], failover := none }).replayShown p
  let s := if l.isEmpty then s else s.tally Reg.LNK_FAILOVER_DISCARDED 0x08C p none l.length p
  l.foldl (fun s r => match (Packet.ofBytes r.bytes r.stomped).body with | .swarm h => s.swarmAbort h.gid 2 p (some h.epoch) (like := some h) | _ => s) s

/-- The unacknowledged packets of a port that has gone down fail over to its partner, or are discarded (R252, R254). -/
def State.failOver (s : State) (p : Nat) : State :=
  let y := s.port p
  if y.replay.isEmpty ∧ y.handed.isEmpty then s
  else match s.goodPartner p with
    | some q =>
      if s.rd Reg.LNK_STATUS_VERSION p = 2 ∧ s.rd Reg.LNK_STATUS_VERSION q = 2 then
        (s.setPort p { y with failover := some ⟨y.failSeq, q⟩, failSeq := (y.failSeq + 1) % 65536, resend := [] }).control q 7
          ([0, byte (s.rd Reg.LNK_STATUS_FAR_PORT p), 0, 0, 0] ++ beBytes 2 y.failSeq)
      else s.discardUnacked p
    | none => s.discardUnacked p

/-- LINK_DOWN (R252): a link that is up goes down with a cause. -/
def State.linkDown (s : State) (p cause : Nat) : State :=
  if !s.portUp p then s
  else
    let y := s.port p
    let waiting := y.egress.flatMap (·.2) ++ y.exHeld
    let s := s.setPort p { y with egress := [], exHeld := [], deficit := [], serving := [], mark := none, markDebit := [],
                                  frag := 0, fragBytes := [], lockLost := false, readySent := false, readyGot := false,
                                  ctrl := [], loop := [], retrained := false }
    let s := if s.rt.mirrored.any (·.1 == p) then
        ({ s with rt := { s.rt with mirrored := none } }).sat Reg.GLB_SPARE_XBAR_STATUS_MIRROR_DROPPED 1 else s
    let s := ((s.wr Reg.LNK_STATUS_STATE 3 p).wr Reg.LNK_STATUS_DOWN_CAUSE cause p).wr Reg.LNK_STATUS_DOWN_SEEN 1 p
    let s := ((s.emit (.transmit p false)).raise (0x040 + p) cause).tally Reg.LNK_LEAK_DOWNS 0x08A p none 1 p
    let s := s.failOver p
    let s := ((List.range 72).filter fun q => (s.port q).failover.any (·.via == p)).foldl State.discardUnacked s
    let s := waiting.foldl (fun s x => s.decideAgain p x) s
    settle (s.swarmLinkDown p)

/-! ### Violations (R257, R258) and replay events (R240, R251) -/

/-- Times of a window's width back from now. -/
def State.inWindow (s : State) (p : Nat) (l : List Nat) : List Nat :=
  (l.filter fun t => s.time - t ≤ 1000 * s.rd Reg.LNK_DOWN_WINDOW_US p) ++ [s.time]

/-- A violation of the partner: captured, a cause of link-down beyond VIOL_LIMIT, counted (R251, R257, R258). `down` is the cause by
which its own answer takes the link down. Where several sources rise, the lowest rises first (R405). -/
def State.violation (s : State) (p code : Nat) (b : List Byte) (down : Option Nat := none) : State :=
  let fresh := !s.on Reg.LNK_VIOL_VALID p
  let s := if !fresh then s
    else
      let s := (s.wr Reg.LNK_VIOL_VALID 1 p).wr Reg.LNK_VIOL_CODE code p
      (List.range 4).foldl (fun (s : State) w => s.wr Reg.LNK_VIOL_CAPTURE_BYTES (beAt b (8 * w) 8) p w) s
  let y := s.port p
  let l := s.inWindow p y.viols
  let s := s.setPort p { y with viols := l }
  let cause := if s.rd Reg.LNK_DOWN_VIOL_LIMIT p < l.length then some 3 else down
  let s := match cause with
    | some c => s.linkDown p c
    | none => s
  (if fresh then s.raise (0x088 + p) code else s).tally Reg.LNK_VIOL_COUNT 0x08F p none 1 p

/-- One replay event: the whole replay buffer is to be sent again; more than REPLAY_LIMIT in a window take the link down
(R239, R240, R251). -/
def State.replayEvent (s : State) (p : Nat) : State :=
  let s := s.tally Reg.LNK_ERR_REPLAYS 0x085 p none 1 p
  let y := s.port p
  let l := s.inWindow p y.replays
  let s := s.setPort p { y with replays := l, resend := y.replay.map (·.lsn) }
  if s.rd Reg.LNK_DOWN_REPLAY_LIMIT p < l.length then s.linkDown p 1 else s

/-! ### Receiving packets (R235, R237, R242, R257) -/

/-- Free cells of a receive lane. -/
def Port.free (y : Port) (v : Nat) : Nat := nth y.rxCells v - nth y.held v

/-- Credit that is due at once. -/
def State.creditDue (s : State) (p v c : Nat) : State :=
  let y := s.port p
  s.setPort p { y with credit := setNth y.credit v (nth y.credit v + c) }

/-- The header of a packet from a port on WLP version 1 becomes one of version 2 (R212). -/
def State.fromV1 (s : State) (p : Nat) (x : Packet) : Packet :=
  { x with net := { x.net with version := 2, colour := 0, detoursLeft := 0, ordered := true, phase := s.climbs 1 (s.rowOf p) } }

/-- A packet as it enters a lane of an input buffer. -/
def State.entering (s : State) (p v c : Nat) (x : Packet) : InPkt :=
  let x := if s.rd Reg.LNK_STATUS_VERSION p = 1 then s.fromV1 p x else x
  { port := p, pkt := { x with arrived := s.time, net := { x.net with vl := v } }, cells := c }

/-- A packet whose header version is not that of the link, or that is of no kind (R257). -/
def State.misfit (s : State) (p : Nat) (x : Packet) : Bool := x.net.version != s.rd Reg.LNK_STATUS_VERSION p || decide (2 < x.net.kind)

/-- An accepted packet: violation 9, or a place in its lane (R212, R231, R257). -/
def State.accept (s : State) (p v c : Nat) (b cap : List Byte) : State :=
  let x := Packet.ofBytes b false
  if s.misfit p x then (s.creditDue p v c).violation p 9 cap
  else
    let r := s.samplePacket (s.entering p v c x)
    let s := r.1.stamp r.2.tag 5
    let y := s.port p
    s.setPort p { y with held := setNth y.held v (nth y.held v + c), lanes := mset y.lanes v (mgetD y.lanes v [] ++ [r.2]) }

/-- The blocks with an invalid sync header are counted on their lanes, while those are locked (R271). -/
def State.syncBad (s : State) (p : Nat) (lanes : List Nat) : State :=
  lanes.foldl (fun s l =>
    if l < 2 ∧ s.on Reg.LAN_LANE_STATUS_BLOCK_LOCK p l then s.tally Reg.LAN_LANE_ERR_SYNC_BAD 0x040 (2 * p + l) none 1 p l else s) s

/-! ### Receiving link-control blocks (R232, R233, R257) -/

/-- The bits of a byte that a type gives a meaning (R232). -/
def ctrlMask (type i : Nat) : Nat :=
  match type with
  | 1 => if i = 1 then 0x80 else if (2 ≤ i ∧ i ≤ 4) ∨ (6 ≤ i ∧ i ≤ 21) then 0xFF else 0
  | 2 => if i = 1 then 0xFF else 0
  | 3 => if i = 1 ∨ (6 ≤ i ∧ i ≤ 21) then 0xFF else 0
  | 4 => if i = 1 then 0x80 else 0xFF
  | 5 => if i = 1 then 0x0F else 0xFF
  | 6 => if i = 1 then 0x83 else if i = 3 then 0x0F else if i = 6 ∨ i = 7 then 0 else 0xFF
  | 7 => if i = 1 then 0xC0 else if i = 2 then 0x7F else if 3 ≤ i ∧ i ≤ 7 then 0xFF else 0
  | _ => 0

/-- No reserved bit of a block is 1. -/
def ctrlClean (type : Nat) (b : List Byte) : Bool := (List.range 27).all fun i => at_ b (i + 1) &&& (255 - ctrlMask type (i + 1)) == 0

/-- The CRC of a link-control block holds (R232). -/
def ctrlWhole (b : List Byte) : Bool := b.length == 32 && beBytes 4 (crcLink (b.take 28)).toNat == b.drop 28

/-- A link-control block arrives on a port: with the test loops, the block that goes round or out again (R285). One that was damaged on
its way round a NEAR loop is taken by whatever block is looked for: its CRC fails. -/
def State.blockIn (s : State) (p type : Nat) (b : List Byte) (k : List Byte → State → State) : State :=
  match s.arrives p (.control p b) (.control b) fun x => match x with | .control c => at_ c 0 == type || !ctrlWhole c | _ => false with
  | (s, some (.control c)) => k c s
  | (s, _) => s

/-- What a block breaks beside its reserved fields: the lowest code, the cause by which an answer takes the link down, and the other
answers (R257). -/
structure Breach where
  code : Nat
  down : Option Nat := none
  answer : State → State := id

/-- The port's stream is parsed: the lanes are aligned (R269, R273). -/
def State.parses (s : State) (p : Nat) : Bool := s.on Reg.LAN_PORT_STATUS_ALIGNED p

/-- A block of a type arrives in a port state: one with an errored block, or whose CRC fails, is counted (R233, R271), one of a
reserved type, of a type that the agreed version lacks (R250), or with a reserved bit is a violation (R257), any other has its
meaning. A block discarded for a reserved bit is captured under the lowest code that what it says breaks, and the answers of the table
that need no more of it are given (R257; log entry 49). -/
def State.onBlock (s : State) (p type : Nat) (b : List Byte) (live : Bool) (breach : State → Option Breach) (f : State → State) : State :=
  let s := s.syncBad p ((b.drop 32).map (·.toNat))
  if !live ∨ !s.parses p then s
  else if !ctrlWhole b then s.tally Reg.LNK_ERR_CTRL_BAD 0x087 p none 1 p
  else if 8 ≤ at_ b 0 ∨ (at_ b 0 = 0 ∧ !ctrlClean 0 b) then s.violation p 10 b
  else if at_ b 0 ≠ type then s
  else if s.rd Reg.LNK_STATUS_VERSION p = 1 ∧ (type = 4 ∨ type = 5 ∨ type = 7) then s.violation p 10 b
  else if ctrlClean type b then f s
  else match breach s with
    | none => s.violation p 10 b
    | some x => x.answer (s.violation p (min x.code 10) b x.down)

/-- Release the replay buffer up to an acknowledged LSN (R238). -/
def State.release (s : State) (p a : Nat) : State :=
  let acked := s.rd Reg.LNK_LEDGER_ACKED_LSN p
  let y := s.port p
  let keep := y.replay.filter fun r => (a + 2 ^ 24 - acked) % 2 ^ 24 < (r.lsn + 2 ^ 24 - acked) % 2 ^ 24
  let left := keep.map (·.lsn)
  ((s.setPort p { y with replay := keep, resend := y.resend.filter fun l => left.contains l }).replayShown p).wr
    Reg.LNK_LEDGER_ACKED_LSN a p

/-- Add the credits of an ACK_CREDIT block; true when some sum was clamped (R241). -/
def State.addCredits (s : State) (p : Nat) (b : List Byte) : State × Bool :=
  let y := s.port p
  (List.range 8).foldl (fun (a : State × Bool) v =>
    let x := a.1.avail p v + (beAt b (6 + 2 * v) 2 : Nat)
    let m : Int := (nth y.adv v : Nat)
    if m < x then (a.1.setAvail p v m, true) else (a.1.setAvail p v x, a.2)) (s, false)

/-- The standing of an ACK_LSN (R238, R257): 0 where it is valid, 4 where it lies beyond the last LSN sent, 5 behind the current
acknowledgement. -/
def State.ackCode (s : State) (p a : Nat) : Nat :=
  let acked := s.rd Reg.LNK_LEDGER_ACKED_LSN p
  let last := (s.rd Reg.LNK_LEDGER_NEXT_LSN p + 2 ^ 24 - 1) % 2 ^ 24
  let da := (a + 2 ^ 24 - acked) % 2 ^ 24
  if da ≤ (last + 2 ^ 24 - acked) % 2 ^ 24 then 0 else if da < 2 ^ 23 then 4 else 5

/-- A RESYNC_MARK goes out at once, while the link is up (R257). -/
def State.markUp (s : State) (p : Nat) : State := if s.portUp p then s.sendMark p else s

/-- R236, R238, R239, R241, R257: an ACK_CREDIT block arrives. In a block that is discarded whole, credits that would lift a lane above
ADV count as code 1 all the same (DESIGN CHOICE, log entry 49). -/
def execAckCredit (port : Nat) (b : List Byte) (s : State) : Host.Outcome State Fault Refusal := s.atPins <|
  let breach := fun (s : State) =>
    let c := s.ackCode port (beAt b 2 3)
    let above := (s.addCredits port b).2
    if c = 0 ∧ !above then none
    else some { code := if above then 1 else c, answer := if c = 4 then fun s => s.markUp port else id : Breach }
  ok (s.blockIn port 1 b fun b s => s.onBlock port 1 b (s.portUp port) breach fun s =>
    let c := s.ackCode port (beAt b 2 3)
    if c = 4 then (s.violation port (if (s.addCredits port b).2 then 1 else 4) b).markUp port
    else
      let s := if c = 0 then s.release port (beAt b 2 3) else s
      let r := s.addCredits port b
      let s := if r.2 then r.1.violation port 1 b else if c = 5 then r.1.violation port 5 b else r.1
      if c = 0 ∧ bitAt b 1 7 ∧ s.portUp port then s.replayEvent port else s)

/-- R243: a RESYNC_MARK arrives: the report of the free cells goes out next, and no credit is pending. -/
def execResyncMark (port : Nat) (b : List Byte) (s : State) : Host.Outcome State Fault Refusal := s.atPins <|
  ok (s.blockIn port 2 b fun b s => s.onBlock port 2 b (s.portUp port) (fun _ => none) fun s =>
    let y := s.port port
    (s.setPort port { y with credit := [] }).control port 3
      ([byte (at_ b 1), 0, 0, 0, 0] ++ (List.range 8).flatMap fun v => beBytes 2 (y.free v)))

/-- Some FREE_v of a report lies above ADV[v] (R257). -/
def Port.freeAbove (y : Port) (b : List Byte) : Bool := (List.range 8).any fun v => decide (nth y.adv v < beAt b (6 + 2 * v) 2)

/-- What a report breaks: code 2, else code 3 (R257). -/
def State.reportBreach (s : State) (p : Nat) (b : List Byte) : Option Breach :=
  if (s.port p).freeAbove b then some { code := 2 } else if (s.port p).mark ≠ some (at_ b 1) then some { code := 3 } else none

/-- R243, R244, R257: a RESYNC_REPORT arrives. -/
def execResyncReport (port : Nat) (b : List Byte) (s : State) : Host.Outcome State Fault Refusal := s.atPins <|
  ok (s.blockIn port 3 b fun b s => s.onBlock port 3 b (s.portUp port) (fun s => s.reportBreach port b) fun s =>
    let y := s.port port
    let above := y.freeAbove b
    if y.mark ≠ some (at_ b 1) then s.violation port (if above then 2 else 3) b
    else
      let r := (List.range 8).foldl (fun (a : State × Nat) v =>
        let x : Int := (min (beAt b (6 + 2 * v) 2) (nth y.adv v) : Nat) - (nth y.markDebit v : Nat)
        (a.1.setAvail port v x, a.2 + (x - a.1.avail port v).toNat)) (s, 0)
      let s := r.1.setPort port { y with mark := none, markDebit := [] }
      let s := if 0 < r.2 then s.tally Reg.LNK_LEAK_CELLS_RECOVERED 0x089 port none r.2 port else s
      if above then s.violation port 2 b else s)

/-- R207, R208, R232: a WAGGLE fragment arrives. Twelve fragments in order make a summary, which replaces the one of its sender that
is kept. SEQ counts per link: only a summary of the same link can be older than the one kept (log entry 48). -/
def execWaggle (port : Nat) (b : List Byte) (s : State) : Host.Outcome State Fault Refusal := s.atPins <|
  ok (s.blockIn port 5 b fun b s => s.onBlock port 5 b (s.portUp port) (fun _ => none) fun s =>
    let y := s.port port
    let f := at_ b 1
    let sofar := if f = 0 then [] else y.fragBytes
    if f ≠ 0 ∧ f ≠ y.frag then s.setPort port { y with frag := 0, fragBytes := [] }
    else
      let m := sofar ++ slice b 2 26
      if f < 11 then s.setPort port { y with frag := f + 1, fragBytes := m }
      else
        let s := s.setPort port { y with frag := 0, fragBytes := [] }
        let x : Summary := { seq := at_ m 1, link := port, sender := beAt m 2 3 % 2 ^ 20, depth := slice m 8 288, since := s.root }
        let newer : Bool := match mget s.rt.summaries x.sender with
          | some o => o.link != port || (decide ((x.seq + 256 - o.seq) % 256 < 128) && x.seq != o.seq)
          | none => true
        if at_ m 0 / 16 = 1 ∧ newer then { s with rt := { s.rt with summaries := mset s.rt.summaries x.sender x } } else s)

/-! ### Link-up (R247 to R250, R280) -/

/-- A port may train (R263, R280, R288). -/
def State.trainable (s : State) (p : Nat) : Bool :=
  s.on Reg.LNK_CFG_ENABLE p && s.on Reg.LAN_EQ_STATUS_LOADED && decide (s.rd Reg.LAN_PORT_CFG_RATE p < 2)
    && !s.on Reg.LAN_PORT_CFG_RETIRED p && !s.bt.inReset

/-- An unlocked lane's eye reads 0 (R287). -/
def State.eyeOff (s : State) (p lane : Nat) : State := (s.wr Reg.LAN_LANE_STATUS_EYE_MV 0 p lane).wr Reg.LAN_LANE_STATUS_EYE_UI 0 p lane

/-- A port begins to train (R280): the transmitter starts, the receiver's stages start over. -/
def State.beginTraining (s : State) (p : Nat) : State :=
  let s := ((s.wr Reg.LNK_STATUS_STATE 1 p).wr Reg.LNK_STATUS_VERSION 0 p).wr Reg.LNK_STATUS_VERSION_FAIL 0 p
  let s := ((s.wr Reg.LAN_PORT_STATUS_STAGE 0 p).wr Reg.LAN_PORT_STATUS_ALIGNED 0 p)
  let s := (List.range 2).foldl (fun (s : State) l => ((((s.wr Reg.LAN_LANE_STATUS_SIGNAL 0 p l).wr Reg.LAN_LANE_STATUS_CDR_LOCK 0 p l).wr
    Reg.LAN_LANE_STATUS_BLOCK_LOCK 0 p l).wr Reg.LAN_LANE_STATUS_AM_LOCK 0 p l).eyeOff p l) s
  let y := s.port p
  let s := s.setPort p { y with train := none, readySent := false, readyGot := false, amMiss := [0, 0], amSeen := [none, none], ctrl := [],
                                loop := [], retrained := true, merged := false, block := 0, sinceMark := 0,
                                tx := y.tx.map fun x => { x with rx := x.scr, rxBip := x.bip } }
  if s.near p ∨ s.stopped p then s else s.emit (.transmit p true)

/-- Begin to train when the port may (R253, R280). -/
def State.tryTrain (s : State) (p : Nat) : State := if s.trainable p then s.beginTraining p else s

/-- The highest common version of two offers; 0 for none. -/
def commonVersion (a b : Nat) : Nat := if a / 2 % 2 = 1 ∧ b / 2 % 2 = 1 then 2 else if a % 2 = 1 ∧ b % 2 = 1 then 1 else 0

/-- Latch the far end from a TRAIN block, and judge cables and partners by it (R190, R217, R248). -/
def State.latchFar (s : State) (p : Nat) (b : List Byte) : State :=
  let s := ((s.wr Reg.LNK_STATUS_FAR_COORD_VALID (flag (bitAt b 2 7) 1) p).wr Reg.LNK_STATUS_FAR_PORT (at_ b 2 % 128) p).wr
    Reg.LNK_STATUS_FAR_COORD (beAt b 3 3 % 2 ^ 20) p
  let s := s.wr Reg.LNK_FAR_SERIAL_SERIAL (beAt b 8 8) p
  (s.setPort p { s.port p with latched := true }).judgeAll

/-- Lane fields of 12 bits of a TRAIN block. -/
def advertised (b : List Byte) (v : Nat) : Nat := beAt b 16 12 / 2 ^ (12 * (7 - v)) % 4096

/-- A lane has no block lock, or the port is not aligned (R274). -/
def State.lockMissing (s : State) (p : Nat) : Bool :=
  !(s.on Reg.LAN_LANE_STATUS_BLOCK_LOCK p 0 && s.on Reg.LAN_LANE_STATUS_BLOCK_LOCK p 1 && s.on Reg.LAN_PORT_STATUS_ALIGNED p)

/-- The link is up (R248): the ledger and the receiver start, the far end is latched. The lane sizes in force are those that its last
TRAIN block advertised (R245). -/
def State.linkUp (s : State) (p : Nat) (b : List Byte) : State :=
  let s := s.discardUnacked p
  let adv := (List.range 8).map (advertised b)
  let y := s.port p
  let s := s.setPort p { y with replay := [], resend := [], adv := adv, markDebit := [], mark := none, credit := [], frag := 0, fragBytes := [],
                                rxCells := if y.offered.isEmpty then s.laneCells p else y.offered, lockLost := s.lockMissing p,
                                block := 0 }
  let s := (((s.wr Reg.LNK_LEDGER_NEXT_LSN 0 p).wr Reg.LNK_LEDGER_ACKED_LSN 0xFFFFFF p).wr Reg.LNK_RX_EXPECT_LSN 0 p).wr
    Reg.LNK_RX_NAK_ARMED 1 p
  let s := (List.range 8).foldl (fun (s : State) v => s.setAvail p v (nth adv v : Nat)) s
  (s.wr Reg.LNK_STATUS_STATE 2 p).latchFar p b

/-- The link comes up when READY was both sent and received (R247). -/
def State.tryUp (s : State) (p : Nat) : State :=
  let y := s.port p
  match y.train with
  | some b => if y.readySent ∧ y.readyGot ∧ s.rd Reg.LNK_STATUS_STATE p = 1 then s.linkUp p b else s
  | none => s

/-- A TRAIN block on a link that is up lacks READY or offers other versions: cause 4 of R251 (R257). -/
def State.trainBreach (s : State) (p : Nat) (b : List Byte) : Option Breach :=
  if s.portUp p ∧ (!bitAt b 1 7 ∨ (s.port p).train.any (fun (o : List Byte) => at_ o 1 % 4 != at_ b 1 % 4)) then some { code := 11, down := some 4 }
  else none

/-- R247 to R250, R257: a TRAIN block arrives. -/
def execTrain (port : Nat) (b : List Byte) (s : State) : Host.Outcome State Fault Refusal := s.atPins <|
  let training := s.rd Reg.LNK_STATUS_STATE port == 1 && s.rd Reg.LAN_PORT_STATUS_STAGE port == 5
  ok (s.blockIn port 6 b fun b s => s.onBlock port 6 b (s.portUp port || training) (fun s => s.trainBreach port b) fun s =>
    let y := s.port port
    let offer := at_ b 1 % 4
    if s.portUp port then
      match s.trainBreach port b with
      | some x => s.violation port x.code b x.down
      | none => (s.setPort port { y with train := some b }).latchFar port b
    else
      let v := commonVersion (s.offers port) offer
      let s := (s.wr Reg.LNK_STATUS_VERSION v port).wr Reg.LNK_STATUS_VERSION_FAIL (if v = 0 then 1 else 0) port
      (s.setPort port { y with train := some b, readyGot := bitAt b 1 7 && v != 0 }).tryUp port)

/-- R247: the TRAIN timer of 1 µs in training: a TRAIN block is due, with READY once an offer with a common version has come. -/
def execTrainTimer (port : Nat) (s : State) : Host.Outcome State Fault Refusal := s.clocked <|
  if s.rd Reg.LNK_STATUS_STATE port = 1 ∧ s.rd Reg.LAN_PORT_STATUS_STAGE port = 5 then
    let ready := (s.port port).train.isSome && s.rd Reg.LNK_STATUS_VERSION port != 0
    let s := s.setPort port { s.port port with offer := s.offers port }
    ok (s.control port 6 (s.trainBody port ready (s.offers port) (s.laneCells port)))
  else ok s

/-- The waiting link-control block that is next leaves (R227). An ACK_CREDIT takes its contents now, a TIME block its T_TX, a summary
its samples; a TRAIN block with READY has then been sent (R247). -/
def State.controlLeaves (s : State) (p : Nat) (x : Nat × List Byte) : State :=
  let y := s.port p
  let rest := y.ctrl.erase x
  let s := s.setPort p { y with ctrl := rest }
  match x.1 with
  | 1 =>
    let a := s.ackBody p x.2
    a.1.sendControl p 1 a.2
  | 4 =>
    let asked := s.sc.syncOut.map fun o => if o.1 = beAt x.2 1 2 ∧ !bitAt x.2 0 7 then (o.1, s.time) else o
    let s := { s with sc := { s.sc with syncOut := asked } }
    s.sendControl p 4 (x.2.take 3 ++ beBytes 8 s.time ++ x.2.drop 11)
  | 5 =>
    if !x.2.isEmpty then s.sendControl p 5 x.2
    else
      let r := s.takeSummary p
      let s := r.1.setPort p { r.1.port p with ctrl := (r.2.drop 1).map (fun b => (5, b)) ++ rest }
      s.sendControl p 5 (r.2.headD [])
  | 6 =>
    let s := s.sendControl p 6 x.2
    let s := s.setPort p { s.port p with offered := (List.range 8).map (advertised (0 :: x.2)) }
    if bitAt x.2 0 7 then (s.setPort p { s.port p with readySent := true }).tryUp p else s
  | k => s.sendControl p k x.2

/-- R249, R281: 10 ms have passed since training began, and the link is not up. -/
def execTrainingTimeout (port : Nat) (s : State) : Host.Outcome State Fault Refusal := s.clocked <|
  if s.rd Reg.LNK_STATUS_STATE port = 1 then
    ok ((s.wr Reg.LNK_STATUS_STATE 3 port).wr Reg.LAN_PORT_STATUS_TRAIN_TIMEOUT_SEEN 1 port)
  else ok s

/-- R253: HOLDOFF_US has passed. -/
def execHoldoffExpiry (port : Nat) (s : State) : Host.Outcome State Fault Refusal := s.clocked <|
  if s.rd Reg.LNK_STATUS_STATE port = 3 ∧ s.on Reg.LNK_CFG_AUTO_RETRAIN port then ok (s.tryTrain port) else ok s

/-- LNK_CFG.ENABLE goes to 1 (R253, R280). -/
def State.linkEnabled (s : State) (p : Nat) : State := if s.rd Reg.LNK_STATUS_STATE p = 0 then s.tryTrain p else s

/-- A link is taken down with cause 5 and its port is held off: ENABLE 0, retirement, a port's block reset (R251, R253, R288). -/
def State.linkOff (s : State) (p : Nat) : State :=
  let training := s.rd Reg.LNK_STATUS_STATE p = 1
  let s := s.linkDown p 5
  let s := if training then s.emit (.transmit p false) else s
  s.wr Reg.LNK_STATUS_STATE 0 p

/-! ### Timers (R236, R240, R243, R244, R251) -/

/-- R236: the ACK interval with something to report, or 1 µs, has passed. -/
def execLinkAckTimer (port : Nat) (s : State) : Host.Outcome State Fault Refusal := s.clocked <|
  if s.portUp port then ok (s.linkAck port false) else ok s

/-- R240: the replay timer expires. -/
def execReplayTimeout (port : Nat) (s : State) : Host.Outcome State Fault Refusal := s.clocked <|
  if s.portUp port ∧ !(s.port port).replay.isEmpty then ok (s.replayEvent port) else ok s

/-- R243, R244: the resynchronisation period passes. -/
def execResyncPeriod (port : Nat) (s : State) : Host.Outcome State Fault Refusal := s.clocked <|
  if s.portUp port then ok (s.sendMark port) else ok s

/-- R251, R274: LOCK_LOSS_US has passed without lock. -/
def execLockLossTimeout (port : Nat) (s : State) : Host.Outcome State Fault Refusal := s.clocked <|
  if s.portUp port ∧ (s.port port).lockLost then ok (s.linkDown port 2) else ok s

/-! ### Failover over the partner (R254 to R256) -/

/-- A FAILOVER request that arrives on a port may be granted (R255). -/
def State.failoverOk (s : State) (port p : Nat) : Bool :=
  decide (p < 72) && s.partner p == some port && (s.portUp p || !(s.port p).retrained)

/-- The answer to a FAILOVER request, while the link is up: REFUSED, or the last LSN accepted (R254, R255). -/
def State.failoverAnswer (s : State) (port : Nat) (b : List Byte) (accept : Bool) : State :=
  let p := at_ b 2 % 128
  let last := (s.rd Reg.LNK_RX_EXPECT_LSN p + 2 ^ 24 - 1) % 2 ^ 24
  if !s.portUp port then s
  else s.control port 7 ([byte (128 + flag (!accept) 64), byte p] ++ (if accept then beBytes 3 last else [0, 0, 0]) ++ beBytes 2 (beAt b 6 2))

/-- R254, R255: a FAILOVER request arrives on a partner link. -/
def execFailoverRequest (port : Nat) (b : List Byte) (s : State) : Host.Outcome State Fault Refusal := s.atPins <|
  if bitAt b 1 7 then ok s
  else
    let breach := fun (s : State) =>
      if s.failoverOk port (at_ b 2 % 128) then none
      else some { code := 12, answer := fun s => s.failoverAnswer port b false : Breach }
    ok (s.blockIn port 7 b fun b s => s.onBlock port 7 b (s.portUp port) breach fun s =>
      let p := at_ b 2 % 128
      let accept := s.failoverOk port p
      (if accept then s.linkDown p 6 else s.violation port 12 b).failoverAnswer port b accept)

/-- R254, R256: a FAILOVER response arrives; one that matches no failover in progress is ignored. -/
def execFailoverResponse (port : Nat) (b : List Byte) (s : State) : Host.Outcome State Fault Refusal := s.atPins <|
  if !bitAt b 1 7 then ok s
  else ok (s.blockIn port 7 b fun b s => s.onBlock port 7 b (s.portUp port) (fun _ => none) fun s =>
    match (List.range 72).find? fun p => (s.port p).failover == some ⟨beAt b 6 2, port⟩ with
    | none => s
    | some p =>
      if bitAt b 1 6 then (s.tally Reg.LNK_FAILOVER_REFUSED 0x08D p none 1 p).discardUnacked p
      else
        let s := s.release p (beAt b 3 3)
        let y := s.port p
        let l := y.replay ++ y.handed
        let s := (s.setPort p { y with replay := [], handed := [], failover := none }).replayShown p
        let q := s.port port
        let s := s.setPort port { q with handed := q.handed ++ l }
        if l.isEmpty then s else s.tally Reg.LNK_FAILOVER_RESENT 0x08B p none l.length p)

/-- R256: no response within FAILOVER_US. -/
def execFailoverTimeout (port : Nat) (s : State) : Host.Outcome State Fault Refusal := s.clocked <|
  if (s.port port).failover.isSome then ok ((s.tally Reg.LNK_FAILOVER_TIMEOUTS 0x08E port none 1 port).discardUnacked port) else ok s

/-! ### Held packets of link exercise mode (R260, R262) -/

/-- Release the held packets of a port, or those of one lane: they go to the front of their lanes. -/
def State.releaseHeld (s : State) (p : Nat) (lane : Option Nat := none) : State :=
  let y := s.port p
  let mine := fun (x : InPkt) => lane.isNone || lane == some x.pkt.net.vl
  let eg := (y.exHeld.filter mine).foldr (fun x m => mset m x.pkt.net.vl (x :: mgetD m x.pkt.net.vl [])) y.egress
  s.setPort p { y with exHeld := y.exHeld.filter fun x => !mine x, egress := eg }

/-- R260: a packet has been held for 1 µs. -/
def execReorderRelease (port : Nat) (s : State) : Host.Outcome State Fault Refusal := s.clocked <| ok (s.releaseHeld port)

/-- EXERCISE_STOP (R262): the device holds no owner token: exercise mode ends on every port. -/
def State.exerciseStop (s : State) : State :=
  if s.on Reg.RTE_MGMT_OWNED then s
  else (List.range 72).foldl (fun s p => (if s.on Reg.LNK_EXER_CFG_ENABLE p then s.wr Reg.LNK_EXER_CFG_ENABLE 0 p else s).releaseHeld p) s

/-- Clear the owner token (R225). -/
def State.dropOwner (s : State) : State :=
  ({ s with rt := { s.rt with token := none, ownerPath := [], ownerEid := 0 } }.wr Reg.RTE_MGMT_OWNED 0).exerciseStop

end Sys2Proof.Machine
end

