-- ==== Sys2Proof/Machine/Lanes.lean ====
section
/-! DEFINITION. Network lanes: signal, clock and block lock, alignment markers, alignment, pattern checkers and error
injection, eye monitors, retirement of ports (R263 to R288). -/

namespace Sys2Proof.Machine

/-! ### Stages and lock (R274, R280, R281) -/

/-- Both lanes of a port have a status bit. -/
def State.bothLanes (s : State) (f : Fld) (p : Nat) : Bool := s.on f p 0 && s.on f p 1

/-- The stage that a port holds (R280): LINK once an aligned port has merged its lanes at a marker (R273). -/
def State.stageHeld (s : State) (p : Nat) : Nat :=
  if !s.bothLanes Reg.LAN_LANE_STATUS_SIGNAL p then 0
  else if !s.bothLanes Reg.LAN_LANE_STATUS_CDR_LOCK p then 1
  else if !s.bothLanes Reg.LAN_LANE_STATUS_BLOCK_LOCK p then 2
  else if !s.on Reg.LAN_PORT_STATUS_ALIGNED p then 3
  else if !(s.port p).merged then 4
  else 5

/-- After a change of a lane: STAGE follows while the port trains, and before LINK no TRAIN block waits to leave (R247, R281); while the
link is up, the time without lock runs until both lanes are locked and the port is aligned (R274). -/
def State.lanesShown (s : State) (p : Nat) : State :=
  if s.rd Reg.LNK_STATUS_STATE p = 1 then
    let y := s.port p
    let s := if s.stageHeld p < 5 then s.setPort p { y with ctrl := y.ctrl.filter (·.1 != 6) } else s
    s.wr Reg.LAN_PORT_STATUS_STAGE (s.stageHeld p) p
  else if s.portUp p then s.setPort p { s.port p with lockLost := s.lockMissing p }
  else s

/-- The receiver of a port works: it trains or its link is up. -/
def State.receiving (s : State) (p : Nat) : Bool := s.rd Reg.LNK_STATUS_STATE p == 1 || s.portUp p

/-- R280: signal is detected on a lane. -/
def execSignalDetect (port : Nat) (lane : Nat) (s : State) : Host.Outcome State Fault Refusal := s.atPins <|
  if s.receiving port ∧ lane < 2 then ok ((s.wr Reg.LAN_LANE_STATUS_SIGNAL 1 port lane).lanesShown port) else ok s

/-- R280: a lane's clock is recovered. -/
def execCdrLock (port : Nat) (lane : Nat) (s : State) : Host.Outcome State Fault Refusal := s.atPins <|
  if s.receiving port ∧ lane < 2 ∧ s.on Reg.LAN_LANE_STATUS_SIGNAL port lane then
    ok ((s.wr Reg.LAN_LANE_STATUS_CDR_LOCK 1 port lane).lanesShown port)
  else ok s

/-- On a NEAR_SERIAL loop a lane receives with the wrong polarity, when it inverts on one side only: no header is valid (R265,
R285). -/
def State.crossed (s : State) (p lane : Nat) : Bool :=
  s.rd Reg.LAN_PORT_CFG_LOOP p == 1
    && (s.rd Reg.LAN_PORT_CFG_TX_INV p / 2 ^ lane % 2 != s.rd Reg.LAN_PORT_CFG_RX_INV p / 2 ^ lane % 2)

/-- R270: 64 blocks in a row with a valid sync header, which a lane of wrong polarity never sees (R265). -/
def execBlockLockAcquired (port : Nat) (lane : Nat) (s : State) : Host.Outcome State Fault Refusal := s.atPins <|
  if s.receiving port ∧ lane < 2 ∧ s.on Reg.LAN_LANE_STATUS_CDR_LOCK port lane ∧ !s.crossed port lane then
    ok ((s.wr Reg.LAN_LANE_STATUS_BLOCK_LOCK 1 port lane).lanesShown port)
  else ok s

/-- LANE_LOCK_LOSS is raised while the link is up (R402). -/
def State.lockLossEvent (s : State) (p lane : Nat) : State := if s.portUp p then s.raise (0x0D0 + p) lane else s

/-- A lane loses block lock (R270, R274, R287). -/
def State.loseBlockLock (s : State) (p lane : Nat) : State :=
  if s.on Reg.LAN_LANE_STATUS_BLOCK_LOCK p lane then
    let s := ((s.wr Reg.LAN_LANE_STATUS_BLOCK_LOCK 0 p lane).wr Reg.LAN_LANE_STATUS_LOCK_LOSS_SEEN 1 p lane).eyeOff p lane
    ((s.lockLossEvent p lane).tally Reg.LAN_LANE_ERR_LOCK_LOSSES 0x042 (2 * p + lane) none 1 p lane).lanesShown p
  else s

/-- R270: 16 or more of the last 64 blocks had an invalid header. -/
def execBlockLockLoss (port : Nat) (lane : Nat) (s : State) : Host.Outcome State Fault Refusal := s.clocked <|
  if lane < 2 then ok (s.loseBlockLock port lane) else ok s

/-- R280, R281: a lane loses its signal, and its recovered clock with it, or the clock alone. -/
def execSignalLoss (port : Nat) (lane : Nat) (cdrOnly : Bool) (s : State) : Host.Outcome State Fault Refusal := s.clocked <|
  if 2 ≤ lane then ok s
  else
    let s := if cdrOnly then s else s.wr Reg.LAN_LANE_STATUS_SIGNAL 0 port lane
    ok ((s.wr Reg.LAN_LANE_STATUS_CDR_LOCK 0 port lane).lanesShown port)

/-! ### Alignment markers (R267, R269, R272, R273) -/

/-- Bits in which two bytes differ. -/
def bitErrors (a b : Byte) : Nat := ((List.range 8).filter fun i => (a ^^^ b).getLsbD i).length

/-- A marker position: a block without the sync header of a control block, an empty `marker`, is an error of its lane (R271). On a lane that
holds AM_LOCK it is a marker of its MARK with its BIP, or a miss. The first marker after alignment merges the lanes (R269, R272,
R273). -/
def State.markerIn (s : State) (port lane : Nat) (marker : List Byte) (bip : Byte) : State :=
  let s := if marker.isEmpty then s.syncBad port [lane] else s
  if lane < 2 ∧ s.on Reg.LAN_LANE_STATUS_AM_LOCK port lane then
    let m := laneMark (s.rd Reg.LAN_LANE_STATUS_LOGICAL port lane)
    let y := s.port port
    if marker.length = 8 ∧ slice marker 0 3 = m ∧ slice marker 4 3 = m.map (fun b => ~~~b) then
      let n := bitErrors (marker.getD 3 0) bip
      let s := s.setPort port { y with amMiss := setNth y.amMiss lane 0, merged := s.on Reg.LAN_PORT_STATUS_ALIGNED port }
      (if n = 0 then s else s.tally Reg.LAN_LANE_ERR_BIP_ERR 0x041 (2 * port + lane) none n port lane).lanesShown port
    else
      (s.setPort port { y with amMiss := setNth y.amMiss lane (nth y.amMiss lane + 1) }).tally
        Reg.LAN_LANE_ERR_AM_BAD 0x043 (2 * port + lane) none 1 port lane
  else s

/-- R269, R272: a marker position. `marker` holds the 8 bytes of a control block; at a block whose sync header is not 10 it is
empty. `bip` is what the receiver computes over what arrived, which from outside no other command carries (log entry 49). On a NEAR loop
the marker sent comes back with the receiver's BIP over the bits that went round, on a FAR loop it goes out again (R285). -/
def execAlignmentMarkerReceive (port : Nat) (lane : Nat) (marker : List Byte) (bip : Byte) (s : State) : Host.Outcome State Fault Refusal := s.atPins <|
  match s.arrives port (.marker port lane marker) (.marker lane marker bip)
      fun x => match x with | .marker l _ _ => l == lane | _ => false with
  | (t, some (.marker _ m b)) => ok (t.markerIn port lane m b)
  | (t, _) => ok t

/-- A lane loses AM_LOCK (R272, R274): it hunts for markers anew, and the port is no longer aligned. -/
def State.loseAmLock (s : State) (p lane : Nat) : State :=
  let y := s.port p
  let s := s.setPort p { y with amMiss := setNth y.amMiss lane 0, amSeen := y.amSeen.set lane none, merged := false }
  (((s.wr Reg.LAN_LANE_STATUS_AM_LOCK 0 p lane).wr Reg.LAN_PORT_STATUS_ALIGN_LOSS_SEEN 1 p).wr Reg.LAN_PORT_STATUS_ALIGNED 0 p).lockLossEvent p lane

/-- R272, R273: three markers of one MARK in a row. Two lanes of one MARK hold no lock, neither of them, until one finds another MARK;
with both lanes locked, the port is aligned when their markers lie at most 64 blocks apart. -/
def execAmLockAcquired (port : Nat) (lane : Nat) (logical : Nat) (skew : Nat) (s : State) : Host.Outcome State Fault Refusal := s.atPins <|
  if s.receiving port ∧ lane < 2 ∧ logical < 2 ∧ s.on Reg.LAN_LANE_STATUS_BLOCK_LOCK port lane
      ∧ !s.on Reg.LAN_LANE_STATUS_AM_LOCK port lane then
    let other := 1 - lane
    let both := s.on Reg.LAN_LANE_STATUS_AM_LOCK port other
    let y := s.port port
    let seen := y.amSeen.set lane (some logical)
    let s := s.setPort port { y with amSeen := seen }
    if y.amSeen.getD other none = some logical then
      let s := if both then s.loseAmLock port other else s
      ok ((s.setPort port { s.port port with amSeen := seen }).lanesShown port)
    else
      let y := s.port port
      let s := ((s.setPort port { y with amMiss := setNth y.amMiss lane 0, merged := false }).wr Reg.LAN_LANE_STATUS_AM_LOCK 1 port lane).wr
        Reg.LAN_LANE_STATUS_LOGICAL logical port lane
      if !both then ok (s.lanesShown port)
      else
        let s := s.wr Reg.LAN_PORT_STATUS_LANES_SWAPPED (if s.rd Reg.LAN_LANE_STATUS_LOGICAL port 0 = 1 then 1 else 0) port
        let s := (s.wr Reg.LAN_PORT_STATUS_SKEW_BLOCKS (if skew ≤ 64 then skew else 127) port).wr
          Reg.LAN_PORT_STATUS_ALIGNED (if skew ≤ 64 then 1 else 0) port
        ok (s.lanesShown port)
  else ok s

/-- R272, R274: four marker positions in a row without a marker of the lane's MARK. -/
def execAmLockLoss (port : Nat) (lane : Nat) (s : State) : Host.Outcome State Fault Refusal := s.clocked <|
  if lane < 2 ∧ s.on Reg.LAN_LANE_STATUS_AM_LOCK port lane ∧ 4 ≤ nth (s.port port).amMiss lane then
    ok ((s.loseAmLock port lane).lanesShown port)
  else ok s

/-! ### Patterns (R282 to R284) -/

/-- The checker of a lane sees the lane's own generator: the port is in the NEAR_SERIAL loop (R285). Otherwise its bits come from
outside, which no command carries: its lock and the loss of it are commands. -/
def State.selfChecked (s : State) (p lane : Nat) : Bool := s.rd Reg.LAN_PORT_CFG_LOOP p == 1 && s.on Reg.LAN_PAT_CFG_GEN_MODE p lane

/-- A checker loses lock (R283). -/
def State.checkerLost (s : State) (p lane : Nat) : State :=
  (s.wr Reg.LAN_PAT_STATUS_CHK_LOCK 0 p lane).wr Reg.LAN_PAT_STATUS_CHK_LOSS_SEEN 1 p lane

/-- R283: a checker has locked. -/
def execCheckerLock (port : Nat) (lane : Nat) (s : State) : Host.Outcome State Fault Refusal := s.clocked <|
  if lane < 2 ∧ s.on Reg.LAN_PAT_CFG_CHK_MODE port lane ∧ !s.selfChecked port lane then
    ok (s.wr Reg.LAN_PAT_STATUS_CHK_LOCK 1 port lane)
  else ok s

/-- R283: 32 of 128 consecutive bits from outside have mismatched: the checker loses lock. Each was counted as it came
(State.outsideBits). -/
def execCheckerLockLoss (port : Nat) (lane : Nat) (s : State) : Host.Outcome State Fault Refusal := s.clocked <|
  if lane < 2 ∧ s.on Reg.LAN_PAT_STATUS_CHK_LOCK port lane ∧ !s.selfChecked port lane then
    ok (s.checkerLost port lane)
  else ok s

/-- The pattern state of a lane. -/
def State.pattern (s : State) (p lane : Nat) : Pattern := (s.port p).patterns.getD lane {}

/-- Set it. -/
def State.setPattern (s : State) (p lane : Nat) (x : Pattern) : State :=
  s.setPort p { s.port p with patterns := (s.port p).patterns.set lane x }

/-- One burst of inverted generator bits, after the one in progress; without effect while the generator is off (R284). -/
def State.patternBurst (s : State) (p lane : Nat) : State :=
  if s.on Reg.LAN_PAT_CFG_GEN_MODE p lane then
    let n := s.rd Reg.LAN_PAT_CFG_BURST_LEN p lane
    let x := s.pattern p lane
    (s.setPattern p lane { x with bursts := x.bursts ++ [n] }).emit (.patternBurst p lane n)
  else s

/-- A checker of a changed mode starts over (R283). -/
def State.checkerRestart (s : State) (p lane : Nat) : State :=
  (s.setPattern p lane { s.pattern p lane with seen := [], run := 0, ref := [], misses := [] }).wr Reg.LAN_PAT_STATUS_CHK_LOCK 0 p lane

/-- Bits checked while locked: every 2^16 of them count one in BITS (R283). -/
def State.countChecked (s : State) (p lane n : Nat) : State :=
  let x := s.pattern p lane
  let s := s.setPattern p lane { x with checked := (x.checked + n) % 2 ^ 16 }
  if 2 ^ 16 ≤ x.checked + n then s.sat Reg.LAN_PAT_BITS_BITS ((x.checked + n) / 2 ^ 16) p lane else s

/-- The checker of a lane takes one received bit. -/
def State.checkBit (s : State) (p lane : Nat) (b : Bool) : State :=
  let locked := s.on Reg.LAN_PAT_STATUS_CHK_LOCK p lane
  let r := (s.pattern p lane).check (s.rd Reg.LAN_PAT_CFG_CHK_MODE p lane) (BitVec.ofNat 64 (s.rd Reg.LAN_PAT_USER_PATTERN p lane)) locked b
  let s := s.setPattern p lane r.1
  let s := if locked then s.countChecked p lane 1 else s
  match r.2 with
  | .none => s
  | .locked => s.wr Reg.LAN_PAT_STATUS_CHK_LOCK 1 p lane
  | .error => s.sat Reg.LAN_PAT_STATUS_ERRORS 1 p lane
  | .lost => (s.sat Reg.LAN_PAT_STATUS_ERRORS 1 p lane).checkerLost p lane

/-- The generator of a lane sends `n` bits. A PRBS that starts from nothing needs a state, which the spec does not give: a free value
that is not 0 (log entry 2). -/
def State.genBits (s : State) (p lane n : Nat) : State × List Bool :=
  let mode := s.rd Reg.LAN_PAT_CFG_GEN_MODE p lane
  let x := s.pattern p lane
  let m := 2 ^ prbsDegree mode - 1
  let fresh := decide (mode ≠ 4 ∧ x.gen % (m + 1) = 0)
  let x := if fresh then { x with gen := 1 + s.freeVal % m } else x
  let s := if fresh then s.takeFree else s
  let r := (List.range n).foldl (fun (a : Pattern × List Bool) _ =>
    let b := a.1.sendBit mode (BitVec.ofNat 64 (s.rd Reg.LAN_PAT_USER_PATTERN p lane))
    (b.1, a.2 ++ [b.2])) (x, [])
  (s.setPattern p lane r.1, r.2)

/-- A locked checker takes `n` bits from outside, which no command carries: how many of them mismatch is a free value, and each of those
counts one (R283; log entry 2). -/
def State.outsideBits (s : State) (p lane n : Nat) : State :=
  ((s.takeFree).sat Reg.LAN_PAT_STATUS_ERRORS (s.freeVal % (n + 1)) p lane).countChecked p lane n

/-- The patterns of a lane run for `n` symbols (R282, R283): the generator's bits leave as symbols, and on the NEAR_SERIAL loop its
checker takes them, with the lane's polarity. In the FAR loop the pins are driven with the looped bits, and a transmitter whose clock
has stopped sends nothing (R33, R285). -/
def State.patternLane (s : State) (p lane n : Nat) : State :=
  let on := s.on Reg.LAN_PAT_CFG_CHK_MODE p lane
  let s := if on ∧ !s.selfChecked p lane ∧ s.on Reg.LAN_PAT_STATUS_CHK_LOCK p lane then s.outsideBits p lane (2 * n) else s
  if !s.on Reg.LAN_PAT_CFG_GEN_MODE p lane ∨ s.stopped p ∨ s.rd Reg.LAN_PORT_CFG_LOOP p = 3 then s
  else
    let r := s.genBits p lane (2 * n)
    let s := r.1.emitLane p lane r.2
    if on ∧ s.selfChecked p lane then
      (r.2.zipIdx.map fun b => b.1 ^^ (s.crossed p lane && b.2 % 2 == 0)).foldl (fun s b => s.checkBit p lane b) s
    else s

/-- Ports and lanes with a pattern mode on. -/
def State.patternLanes (s : State) : List (Nat × Nat) :=
  s.regs.filterMap fun r =>
    let o := r.1 - 0x2810000
    if 0x2810000 ≤ r.1 ∧ o < 0x48000 ∧ (o % 0x1000 = 0x118 ∨ o % 0x1000 = 0x198) ∧ r.2.toNat % 128 ≠ 0 then
      some (o / 0x1000, (o % 0x1000 - 0x118) / 0x80)
    else none

/-- One ns of the patterns, the ns that ends at `ns + 1`: 106.25 or 53.125 symbols (R263), on the ports with power. -/
def State.patternTick (s : State) (ns : Nat) : State :=
  (s.patternLanes.filter fun x => s.powered x.1).foldl (fun s x =>
    let d := if s.rd Reg.LAN_PORT_CFG_RATE x.1 = 0 then 4 else 8
    s.patternLane x.1 x.2 (425 * (ns + 1) / d - 425 * ns / d)) s

/-- R284: INJECT_INTERVAL times 1,024 bits have passed. -/
def execInjectIntervalBurst (port : Nat) (lane : Nat) (s : State) : Host.Outcome State Fault Refusal := s.clocked <|
  if lane < 2 ∧ s.on Reg.LAN_PAT_CFG_INJECT_INTERVAL port lane then ok (s.patternBurst port lane) else ok s

/-! ### Eyes and retirement (R287, R288) -/

/-- The smaller of two openings, field by field. -/
def smallerEye (a : Option (Nat × Nat)) (b : Nat × Nat) : Nat × Nat :=
  match a with
  | some x => (min x.1 b.1, min x.2 b.2)
  | none => b

/-- R287: the eye monitor of a locked lane updates its fields, which saturate at their widths. -/
def execEyeMonitorUpdate (port : Nat) (lane : Nat) (mv : Nat) (ui : Nat) (s : State) : Host.Outcome State Fault Refusal := s.clocked <|
  if lane < 2 ∧ s.on Reg.LAN_LANE_STATUS_BLOCK_LOCK port lane then
    let e := (min mv 255, min ui 63)
    let y := s.port port
    let s := s.setPort port { y with eyeMin := y.eyeMin.set lane (some (smallerEye (y.eyeMin.getD lane none) e)) }
    ok ((s.wr Reg.LAN_LANE_STATUS_EYE_MV e.1 port lane).wr Reg.LAN_LANE_STATUS_EYE_UI e.2 port lane)
  else ok s

/-- The lanes of a port lose power (R263, R288): nothing is received, and no checker holds lock. -/
def State.lanesOff (s : State) (p : Nat) : State :=
  let s := (s.wr Reg.LAN_PORT_STATUS_STAGE 0 p).wr Reg.LAN_PORT_STATUS_ALIGNED 0 p
  (List.range 2).foldl (fun (s : State) l =>
    (((((s.wr Reg.LAN_LANE_STATUS_SIGNAL 0 p l).wr Reg.LAN_LANE_STATUS_CDR_LOCK 0 p l).wr Reg.LAN_LANE_STATUS_BLOCK_LOCK 0 p l).wr
      Reg.LAN_LANE_STATUS_AM_LOCK 0 p l).eyeOff p l).checkerRestart p l) s

/-- RETIRED goes to 1 (R288): the link goes down with cause 5, or training stops; the port is held at OFF. -/
def State.retirePort (s : State) (p : Nat) : State := (s.linkOff p).lanesOff p

/-- RETIRED goes to 0 (R288): the port trains as soon as it may. -/
def State.unretirePort (s : State) (p : Nat) : State := s.linkEnabled p

end Sys2Proof.Machine
end

