-- ==== Sys2Proof/Machine/Lichen.lean ====
section
/-! DEFINITION. The lichen monitor: re-plans, the core rail, retirement proposals, the lifetime log, hours, temperature and
the calendar (R417 to R429, R459, R460). -/

namespace Sys2Proof.Machine

/-! ### Retirement (R421 to R423) -/

/-- Two retirements concern the same port, or the same row. -/
def Retire.same (a b : Retire) : Bool :=
  a.row == b.row && if a.row then a.array == b.array && a.rowNo == b.rowNo else a.port == b.port

/-- BODY of a RETIRE record (R425). -/
def Retire.body (r : Retire) (undo : Bool) : Nat :=
  flag r.row 1 + flag undo 2 + r.port % 128 * 4 + r.lane % 2 * 2 ^ 9 + r.array % 65536 * 2 ^ 16 + r.rowNo % 65536 * 2 ^ 32
    + r.reason % 256 * 2 ^ 48

/-- The retirement that a RETIRE record names. -/
def Retire.ofBody (b : Nat) : Retire :=
  { row := b % 2 == 1, port := b / 4 % 128, lane := b / 2 ^ 9 % 2, array := b / 2 ^ 16 % 65536, rowNo := b / 2 ^ 32 % 65536,
    reason := b / 2 ^ 48 % 256 }

/-- LCH_LIFE.RETIRED shows the retirements in force; LCH_PROPOSAL and PENDING show the proposals (R422). -/
def State.retireShown (s : State) : State :=
  let s := s.wr Reg.LCH_LIFE_RETIRED s.lch.retired.length
  let s := s.wr Reg.LCH_RETIRE_CFG_PENDING s.lch.proposals.length
  let w : Nat := match s.lch.proposals with
    | [] => 0
    | p :: _ => 1 + flag p.what.row 2 + p.id % 256 * 2 ^ 8 + p.what.port % 128 * 2 ^ 16 + p.what.lane % 2 * 2 ^ 23
        + p.what.array % 65536 * 2 ^ 24 + p.what.rowNo % 65536 * 2 ^ 40 + p.what.reason % 256 * 2 ^ 56
  s.wr { Reg.LCH_PROPOSAL_VALID with w := 64 } w

/-- A retirement comes into force and is logged. -/
def State.logRetire (s : State) (r : Retire) : State :=
  let s := addRecord s 5 (r.body false)
  { s with lch := { s.lch with retired := s.lch.retired.filter (fun (x : Retire) => !x.same r) ++ [r] } }.retireShown

/-- A port's retirement ends and is logged with UNRETIRE 1 (R423). -/
def State.logUnretire (s : State) (r : Retire) : State :=
  let s := addRecord s 5 (r.body true)
  { s with lch := { s.lch with retired := s.lch.retired.filter fun (x : Retire) => !x.same r } }.retireShown

/-- A port's RETIRED goes to 1 for a reason (R288, R422, R423). -/
def State.retireFor (s : State) (r : Retire) : State :=
  ((s.wr Reg.LAN_PORT_CFG_RETIRED 1 r.port).retirePort r.port).logRetire r

/-- Software writes RETIRED of a port (R423): REASON 3. -/
def State.retireBySoftware (s : State) (p : Nat) (on : Bool) : State :=
  let r : Retire := { row := false, port := p, lane := 0, array := 0, rowNo := 0, reason := 3 }
  if on == s.on Reg.LAN_PORT_CFG_RETIRED p then s
  else if on then s.retireFor r
  else (s.logUnretire r).wr Reg.LAN_PORT_CFG_RETIRED 0 p |>.unretirePort p

/-- R421: a retirement is proposed, unless it is in force, waits already, or was declined too recently; a row needs a spare;
the queue holds 64. -/
def State.propose (s : State) (r : Retire) : State :=
  let hours := s.rd Reg.LCH_RETIRE_CFG_DECLINE_DAYS * 24
  if (s.lch.retired.any (·.same r)) ∨ (!r.row ∧ s.on Reg.LAN_PORT_CFG_RETIRED r.port)
    ∨ (s.lch.proposals.any (·.what.same r))
    ∨ (s.lch.declined.any fun d => d.1.same r && decide (s.rd Reg.LCH_LIFE_POH < d.2 + hours)) then s
  else if r.row ∧ (16 ≤ (s.lch.retired.filter fun x => x.row && x.array == r.array).length ∨ 120 ≤ s.lch.retired.length) then
    s.raise 0x344 r.array
  else if 64 ≤ s.lch.proposals.length then s.sat Reg.LCH_RETIRE_CFG_PROPOSALS_DROPPED 1
  else
    let id := s.lch.nextProposal
    let s := { s with lch := { s.lch with proposals := s.lch.proposals ++ [({ id := id, what := r } : Proposal)], nextProposal := (id + 1) % 256 } }
    s.retireShown.raise 0x343 id

/-- The worse lane of a port below a threshold since the last re-plan, if there is one (R421). -/
def State.worseLane (s : State) (p : Nat) : Option Nat :=
  let bad (e : Nat × Nat) : Bool :=
    decide (e.1 < s.rd Reg.LCH_RETIRE_CFG_EYE_MV_MIN) || decide (e.2 < s.rd Reg.LCH_RETIRE_CFG_EYE_UI_MIN)
  let y := s.port p
  match y.eyeMin.getD 0 none, y.eyeMin.getD 1 none with
  | some a, some b =>
    if bad a || bad b then some (if b.1 < a.1 ∨ (b.1 = a.1 ∧ b.2 < a.2) then 1 else 0) else none
  | some a, none => if bad a then some 0 else none
  | none, some b => if bad b then some 1 else none
  | none, none => none

/-- The smallest EYE_MV of any lane since the last re-plan; 0 while no lane has one (log entry 31). -/
def State.eyeWorst (s : State) : Nat :=
  let l := s.ports.flatMap fun p => p.2.eyeMin.filterMap fun e => e.map (·.1)
  match l with
  | [] => 0
  | a :: l => l.foldl min a

/-! ### Re-plan (R417 to R420) -/

/-- The target, LIMITED and the needed voltage of R418, all in mV. -/
def replanTarget (v0 slope d margin guardMin guardMax vmin vmax stepDown prev : Nat) : Nat × Bool × Nat :=
  let need := v0 + (slope * d + 9) / 10 + margin
  let t := max need (v0 + guardMin)
  let u := min t (min (v0 + guardMax) vmax)
  (max u (max vmin (prev - stepDown)), decide (u < t), need)

/-- A re-plan completes with a target in force: the record, REPLANS, REPLAN (R419, R460). -/
def State.replanDone (s : State) : State :=
  let t := s.lch.vset / 10
  let s := ((s.wr Reg.LCH_PLAN_TARGET_MV t).wr Reg.LCH_CTRL_BUSY 0).sat Reg.LCH_CTRL_REPLANS 1
  let body := t + s.rd Reg.LCH_PLAN_GUARD_MV * 2 ^ 16 + s.rd Reg.LCH_MEASURE_D * 2 ^ 24
    + s.rd Reg.LCH_MEASURE_SRAM_VMIN_MV * 2 ^ 40 + s.lch.planEye * 2 ^ 50 + s.rd Reg.LCH_PLAN_LIMITED * 2 ^ 58
  let s := addRecord { s with lch := { s.lch with lastTarget := some t } } 4 body
  s.raise 0x340 t

/-- A re-plan (R418 to R421): the measurement, the target, the proposals; the rail then moves step by step. A re-plan under
way is not started over. Of the sources that rise at once the lowest rises first (R405). -/
def State.replan (s : State) (m : Measurement) : State :=
  if s.on Reg.LCH_CTRL_BUSY then s
  else
    let v0 := s.rd Reg.LCH_PLAN_V0_MV
    let prev := s.lch.lastTarget.getD (s.rd Reg.LCH_ENVELOPE_VCORE_MAX_MV)
    let (t, limited, need) := replanTarget v0 (s.rd Reg.LCH_PLAN_SLOPE) m.d (s.rd Reg.LCH_ENVELOPE_MARGIN_MV)
      (s.rd Reg.LCH_ENVELOPE_GUARD_MIN_MV) (s.rd Reg.LCH_ENVELOPE_GUARD_MAX_MV) (s.rd Reg.LCH_ENVELOPE_VCORE_MIN_MV)
      (s.rd Reg.LCH_ENVELOPE_VCORE_MAX_MV) (s.rd Reg.LCH_ENVELOPE_STEP_DOWN_MV) prev
    let eye := s.eyeWorst
    let s := ((s.wr Reg.LCH_MEASURE_D m.d).wr Reg.LCH_MEASURE_WORST_PAIR m.pair).wr Reg.LCH_MEASURE_SRAM_VMIN_MV m.sramVmin
    let worse := (List.range 72).filterMap fun p => (s.worseLane p).map fun l => (p, l)
    let s := { s with
      ports := s.ports.map fun (p : Nat × Port) => (p.1, { p.2 with eyeMin := [none, none] })
      lch := { s.lch with vgoal := t * 10, planEye := eye } }
    let s := ((s.wr Reg.LCH_CTRL_BUSY 1).wr Reg.LCH_PLAN_GUARD_MV (ofInt 8 ((t : Int) - v0))).wr Reg.LCH_PLAN_LIMITED (flag limited 1)
    let s := if s.lch.vset = t * 10 then s.replanDone else s
    let s := if limited then s.raise 0x341 need else s
    let s := if 800 < m.sramVmin + s.rd Reg.LCH_CTRL_SRAM_MARGIN_MV then s.raise 0x342 m.sramVmin else s
    let s := worse.foldl (fun (s : State) x => s.propose { row := false, port := x.1, lane := x.2, array := 0, rowNo := 0, reason := 1 }) s
    (m.rows.filter fun r => decide (s.rd Reg.LCH_RETIRE_CFG_ROW_CE_LIMIT ≤ r.2.2)).foldl (fun (s : State) r =>
      s.propose { row := true, port := 0, lane := 0, array := r.1, rowNo := r.2.1, reason := 2 }) s

/-! ### The core rail (R419, R459, R460) -/

/-- The next set point towards the goal, at most 2.5 mV away, in 0.1 mV. -/
def Lichen.nextSet (l : Lichen) : Nat := if l.vset < l.vgoal then min (l.vset + 25) l.vgoal else max (l.vset - 25) l.vgoal

/-- R419, R460: one step of the rail is asked of the regulator, once it has answered the last command, a read-back included. -/
def execVcoreStep (s : State) : Host.Outcome State Fault Refusal := s.clocked <|
  let l := s.lch
  if s.on Reg.LCH_CTRL_BUSY ∧ l.vset ≠ l.vgoal ∧ !l.avsOut ∧ !l.avsRetry ∧ !l.avsRead then
    ok ({ s with lch := { l with avsOut := true, avsTries := 1 } }.emit (.avsWrite l.nextSet))
  else ok s

/-- R460: a failed write is tried again. -/
def execAvsRetryTimer (s : State) : Host.Outcome State Fault Refusal := s.clocked <|
  let l := s.lch
  if l.avsRetry then
    ok (({ s with lch := { l with avsRetry := false, avsOut := true, avsTries := l.avsTries + 1 } }.sat
      Reg.LCH_VR_STATUS_RETRIES 1).emit (.avsWrite l.nextSet))
  else ok s

/-- R460: the response to a Voltage write or a Voltage read. After the last step the voltage is read back; after the fourth
failure the move stops at the last confirmed voltage. The flag says that the re-plan has completed. -/
def State.avsResponse (s : State) (good : Bool) (readMv : Nat) : State × Bool :=
  let l := s.lch
  if l.avsOut then
    if good then
      let v := l.nextSet
      let s := { s with lch := { l with vset := v, avsOut := false } }.wr Reg.LCH_VR_STATUS_CONFIRMED_MV (v / 10)
      if v = l.vgoal then
        (({ s with lch := { s.lch with avsRead := true } }.emit .avsRead).replanDone, true)
      else (s, false)
    else if l.avsTries < 4 then ({ s with lch := { l with avsOut := false, avsRetry := true } }, false)
    else
      let s := { s with lch := { l with avsOut := false, vgoal := l.vset } }
      ((s.wr Reg.LCH_VR_STATUS_FAIL_SEEN 1).replanDone, true)
  else if l.avsRead then
    let s := { s with lch := { l with avsRead := false } }
    if !good then (s, false)
    else
      let s := s.wr Reg.LCH_VR_STATUS_READ_MV readMv
      (if readMv * 10 > l.vset + 100 ∨ l.vset > readMv * 10 + 100 then s.wr Reg.LCH_VR_STATUS_MISMATCH_SEEN 1 else s, false)
  else (s, false)

/-- R418: 24 power-on hours have passed since the last timed re-plan. -/
def execReplanTimer (m : Measurement) (s : State) : Host.Outcome State Fault Refusal := s.clocked <|
  if 24 ≤ s.lch.hoursSincePlan ∧ !s.on Reg.LCH_CTRL_BUSY then
    ok ({ s with lch := { s.lch with hoursSincePlan := 0 } }.replan m)
  else ok s

/-! ### Answers to proposals (R422) -/

/-- An answer carries the ID that is shown. -/
def State.answered (s : State) (id : Nat) : Option Retire :=
  match s.lch.proposals with
  | p :: _ => if p.id % 256 = id % 256 then some p.what else none
  | [] => none

/-- The proposal shown leaves the queue. -/
def State.proposalGone (s : State) : State := { s with lch := { s.lch with proposals := s.lch.proposals.tail } }.retireShown

/-- R422: an approval. -/
def State.approve (s : State) (id : Nat) : State :=
  match s.answered id with
  | none => s
  | some r => if r.row then s.proposalGone.logRetire r else s.proposalGone.retireFor r

/-- R422: a decline, remembered with its hour (R421). -/
def State.declineProposal (s : State) (id : Nat) : State :=
  match s.answered id with
  | none => s
  | some r =>
    let s := s.proposalGone
    { s with lch := { s.lch with declined := (s.lch.declined.filter fun d => !d.1.same r) ++ [(r, s.rd Reg.LCH_LIFE_POH)] } }

/-! ### The lifetime log (R424 to R427) -/

def logBase : Nat := 0x800000

/-- The next sector of the ring that is not skipped. -/
def nextSector (skipped : List Nat) : Nat → Nat → Nat
  | 0, h => h
  | n + 1, h => if skipped.contains ((h + 1) % 2048) then nextSector skipped n ((h + 1) % 2048) else (h + 1) % 2048

/-- Erase a range of flash. -/
def State.flashErase (s : State) (a n : Nat) : State :=
  { s with flash := s.flash.filter fun c => !(decide (a ≤ c.1) && decide (c.1 < a + n)) }

/-- Program bytes of flash. -/
def State.flashWrite (s : State) (a : Nat) (l : List Byte) : State := { s with flash := Memory.writeN 0xFF s.flash a l }

/-- Program a record into the next slot of the head sector, with the next SEQ (R424, R425). -/
def State.logWrite (s : State) (r : List Word) : State :=
  let n := s.rd Reg.LCH_LOG_STATUS_SEQ
  let s := s.flashWrite (logBase + 4096 * s.rd Reg.LCH_LOG_STATUS_HEAD_SECTOR + 32 * s.lch.headSlot) (ofWords (numbered n r))
  { s with lch := { s.lch with headSlot := s.lch.headSlot + 1 } }.wr Reg.LCH_LOG_STATUS_SEQ (n + 1)

/-- Program a record that firmware makes itself. -/
def State.logOwn (s : State) (type body body2 : Nat) (copy : Bool) : State := s.logWrite (recordWords s type false copy body body2)

/-- The thermal cycles that the log holds so far: those of the HOURLY records still to be programmed are not among them, so that a
restore counts each once (R425, R427; log entry 52). -/
def State.loggedCycles (s : State) : Nat :=
  s.rd Reg.LCH_LIFE_CYCLES - s.lch.hourCycles
    - (s.lch.buffer.map fun r => if bits (wordAt r 0) 0 8 = 2 then bits (wordAt r 2) 16 16 else 0).sum

/-- Open the head sector (R424): a CHECKPOINT, a copy of every retirement in force, and the next sector erased. -/
def State.logOpen (s : State) : State :=
  let h := s.rd Reg.LCH_LOG_STATUS_HEAD_SECTOR
  let s := { s with lch := { s.lch with headSlot := 0 } }.flashErase (logBase + 4096 * h) 4096
  let s := s.logOwn 7 (s.rd Reg.LCH_LIFE_POH + s.loggedCycles * 2 ^ 24 + s.lch.retired.length % 65536 * 2 ^ 48)
    s.lch.bootCount false
  let s := s.lch.retired.foldl (fun (s : State) r => s.logOwn 5 (r.body false) 0 true) s
  s.flashErase (logBase + 4096 * nextSector s.lch.skipped 2048 h) 4096

/-- Keeper firmware runs: a release was started and the device is not held in reset. -/
def State.firmwareRuns (s : State) : Bool :=
  !s.bt.inReset && s.rd Reg.BOOT_STATUS_SLOT != 3 && decide (2 < s.rd Reg.BOOT_STATUS_STAGE) && s.rd Reg.BOOT_STATUS_STAGE != 15

/-- A programmed record of a corrected source takes no more occurrences (R426). -/
def Lichen.programmed (l : Lichen) (r : List Word) : Lichen :=
  let k := bits (wordAt r 2) 0 10
  if recordOf k r ∧ mgetD l.folded k false then { l with folded := mset l.folded k (l.buffer.any (recordOf k)) } else l

/-- R424, R427: keeper firmware programs the next record of the retained buffer through the flash pins. A failed program or erase skips
the sector until the next power-on. -/
def execLogRecordProgram (good : Bool) (s : State) : Host.Outcome State Fault Refusal := s.atPins <|
  match nextRecord s.lch.folded (decide (64 ≤ s.lch.buffer.length)) s.lch.buffer with
  | none => ok s
  | some (r, rest) =>
    if !s.firmwareRuns ∨ s.bt.flashOp.isSome then ok s
    else
      let h := s.rd Reg.LCH_LOG_STATUS_HEAD_SECTOR
      let next := nextSector s.lch.skipped 2048 h
      if !good then
        let sec := if s.lch.headSlot = 128 then next else h
        let skipped := sec :: s.lch.skipped
        let s := { s with lch := { s.lch with skipped := skipped, headSlot := 0 } }
        let s := s.wr Reg.LCH_LOG_STATUS_HEAD_SECTOR (nextSector skipped 2048 sec)
        ok ((s.raise 0x015 ((logBase + 4096 * sec) / 4096)).raise 0x345 sec)
      else
        let s := if s.lch.headSlot = 128 then
            { s with lch := { s.lch with headSlot := 0 } }.wr Reg.LCH_LOG_STATUS_HEAD_SECTOR next
          else s
        let s := if s.lch.headSlot = 0 then s.logOpen else s
        let s := s.logWrite r
        ok ({ s with lch := Lichen.programmed { s.lch with buffer := rest } r }.wr Reg.LCH_LOG_STATUS_BUFFERED rest.length)

/-! ### Restoring from the log (R425, R427) -/

/-- TYPE, FORMAT, SEQ, BODY and BODY2 of a record. -/
def recType (r : List Word) : Nat := bits (wordAt r 0) 0 8
def recFormat (r : List Word) : Nat := bits (wordAt r 0) 48 8
def recSeq (r : List Word) : Nat := bits (wordAt r 0) 16 32
def recBody (r : List Word) : Nat := (wordAt r 2).toNat
def recBody2 (r : List Word) : Nat := bits (wordAt r 3) 0 32

/-- A slot holds a record whose CRC is good. -/
def recGood (b : List Byte) : Bool := (b.getD 0 0).toNat != 0xFF && ofLE (slice b 28 4) == (crcLink (slice b 0 28)).toNat

/-- Insert a record, by its SEQ. -/
def insertSeq (x : Nat × List Word) : List (Nat × List Word) → List (Nat × List Word)
  | [] => [x]
  | y :: l => if recSeq x.2 < recSeq y.2 then x :: y :: l else y :: insertSeq x l

/-- The good records of the log with their slot numbers, in rising SEQ. Only slots in which some byte is programmed can
hold one. -/
def State.logRecords (s : State) : List (Nat × List Word) :=
  let slots := (s.flash.filterMap fun c =>
    if logBase ≤ c.1 ∧ c.1 < logBase + 0x800000 then some ((c.1 - logBase) / 32) else none).eraseDups
  (slots.filterMap fun n =>
    let b := s.flashRead (logBase + 32 * n) 32
    if recGood b then some (n, toWords 4 b) else none).foldr insertSeq []

/-- POH, thermal cycles, retirements, boot count and the newest REPLAN target after one more record (R425, R427). -/
def State.restoreRecord (s : State) (r : List Word) : State :=
  let b := recBody r
  let poh := bits (wordAt r 1) 40 24
  let s := s.wr Reg.LCH_LIFE_POH (max poh (s.rd Reg.LCH_LIFE_POH))
  let t := recType r
  if t = 1 then { s with lch := { s.lch with bootCount := b % 2 ^ 32 } }
  else if t = 2 then s.wr Reg.LCH_LIFE_CYCLES (s.rd Reg.LCH_LIFE_CYCLES + b / 2 ^ 16 % 2 ^ 16)
  else if t = 4 then { s with lch := { s.lch with lastTarget := some (b % 65536) } }
  else if t = 5 then
    let x := Retire.ofBody b
    let l := s.lch.retired.filter fun y => !y.same x
    { s with lch := { s.lch with retired := if b / 2 % 2 = 1 then l else l ++ [x] } }
  else if t = 7 then
    { s with lch := { s.lch with bootCount := recBody2 r, retired := [] } }.wr Reg.LCH_LIFE_CYCLES (b / 2 ^ 24 % 2 ^ 24)
  else s

/-- R427: find the head, count foreign records, restore from the newest FORMAT 1 CHECKPOINT, the FORMAT 1 records after it
and those that wait in the retained buffer, with the thermal cycles of the hour under way; retired rows are then mapped to spares
(R422). The newest REPLAN target is that of the whole log (R418). A head in a sector to be skipped moves on (R424). -/
def State.logRestore (s : State) : State :=
  let l := s.logRecords
  let programmed := (l.filter fun r => recFormat r.2 == 1).map (·.2)
  let start := ((programmed.filter fun r => recType r == 7).getLast?).elim 0 recSeq
  let known := programmed ++ s.lch.buffer
  let s := { s with lch := { s.lch with
    retired := [], bootCount := 0
    lastTarget := ((known.filter fun r => recType r == 4).getLast?).map fun r => recBody r % 65536 } }
  let s := (s.wr Reg.LCH_LIFE_POH 0).wr Reg.LCH_LIFE_CYCLES 0
  let s := ((programmed.filter fun r => decide (start ≤ recSeq r)) ++ s.lch.buffer).foldl State.restoreRecord s
  let s := s.sat Reg.LCH_LIFE_CYCLES s.lch.hourCycles
  let s := s.wr Reg.LCH_LOG_STATUS_FOREIGN (min 16383 (l.filter fun r => recFormat r.2 != 1).length)
  let s := s.wr Reg.LCH_LOG_STATUS_SEQ ((l.map fun r => recSeq r.2 + 1).foldl max 0)
  let s := s.wr Reg.LCH_LOG_STATUS_BUFFERED s.lch.buffer.length
  let s := match l.getLast? with
    | some (n, _) =>
      if s.lch.skipped.contains (n / 128) then
        { s with lch := { s.lch with headSlot := 0 } }.wr Reg.LCH_LOG_STATUS_HEAD_SECTOR (nextSector s.lch.skipped 2048 (n / 128))
      else { s with lch := { s.lch with headSlot := n % 128 + 1 } }.wr Reg.LCH_LOG_STATUS_HEAD_SECTOR (n / 128)
    | none => { s with lch := { s.lch with headSlot := 0 } }.wr Reg.LCH_LOG_STATUS_HEAD_SECTOR (if s.lch.skipped.contains 0 then nextSector s.lch.skipped 2048 0 else 0)
  let rows := (s.lch.retired.filter (·.row)).map fun r => (r.array, r.rowNo)
  State.retireShown { s with lch := { s.lch with mapped := rows } }

/-! ### Hours, temperature, calendar (R426, R428, R429) -/

/-- R426, R428: an hour with the root PLL locked has passed: POH, the HOURLY record, and a new hour's limits. -/
def execPohHour (s : State) : Host.Outcome State Fault Refusal :=
  if !s.on Reg.GLB_CLK_STATUS_ROOT_LOCK then ok s
  else
    let l := s.lch
    let now := s.rd Reg.LCH_THERMAL_TJ_NOW
    let body := min 255 (l.hourTjMax.getD now) + min 255 (l.hourTjMin.getD now) * 2 ^ 8 + min 65535 l.hourCycles * 2 ^ 16
      + min 65535 l.hourCorr * 2 ^ 32 + min 65535 l.hourCont * 2 ^ 48
    let body2 := min 65535 l.hourFatal + min 65535 l.dropped * 2 ^ 16
    let s := { s with lch := { l with
      hourCount := 0, dropped := 0, folded := [], hourCorr := 0, hourCont := 0, hourFatal := 0, hourTjMax := none,
      hourTjMin := none, hourCycles := 0, hoursSincePlan := l.hoursSincePlan + 1 } }
    let s := s.sat Reg.LCH_LIFE_POH 1
    ok (addRecord s 2 body body2)

/-- Follow the thermal cycle (R428): a rise of CYCLE_DELTA_C above the last minimum, then a fall as large below the peak,
counts one. -/
def State.thermalCycle (s : State) (tj : Nat) : State :=
  let d := s.rd Reg.LCH_THERMAL_CYCLE_DELTA_C
  let l := s.lch
  match l.tjPeak with
  | none =>
    let low := match l.tjLow with | some x => min x tj | none => tj
    { s with lch := { l with tjLow := some low, tjPeak := if low + d ≤ tj then some tj else none } }
  | some p =>
    let p := max p tj
    if tj + d ≤ p then
      { s with lch := { l with tjLow := some tj, tjPeak := none, hourCycles := l.hourCycles + 1 } }.sat Reg.LCH_LIFE_CYCLES 1
    else { s with lch := { l with tjPeak := some p } }

/-- A lasting cause is present or gone (R404): its ACTIVE bit. -/
def State.setActive (s : State) (k : Nat) (on : Bool) : State :=
  let f := Reg.EVT_ACTIVE_ACTIVE
  let w := s.rd f (k / 64)
  s.wr f (if on then w ||| 2 ^ (k % 64) else w &&& (2 ^ 64 - 1 - 2 ^ (k % 64))) (k / 64)

/-- The ACTIVE bit of a source. -/
def State.isActive (s : State) (k : Nat) : Bool := bit (s.reg (Reg.EVT_ACTIVE_ACTIVE.addr (k / 64) 0) 0) (k % 64)

/-- R428, R402: the highest sensor reading, in °C. -/
def execThermalSample (tj : Nat) (s : State) : Host.Outcome State Fault Refusal := s.clocked <|
  if s.bt.inReset then ok s
  else
    let t := min tj 255
    let l := s.lch
    let s := { s with bt := { s.bt with tj := tj }, lch := { l with
      hourTjMax := some (max t (l.hourTjMax.getD 0)), hourTjMin := some (min t (l.hourTjMin.getD 255)) } }
    let s := ((s.wr Reg.LCH_THERMAL_TJ_NOW t).high Reg.LCH_THERMAL_TJ_MAX t).thermalCycle t
    if s.rd Reg.LCH_THERMAL_HIGH_C ≤ t then
      (if s.isActive 5 then ok s else ok ((s.setActive 5 true).raise 5 t))
    else ok (s.setActive 5 false)

/-- R429: the calendar is set: VALID, HOLDOVER cleared, and a record with the previous seconds. -/
def State.calendarSet (s : State) (seconds : Nat) : State :=
  let old := if s.on Reg.LCH_CALENDAR_VALID then s.rd Reg.LCH_CALENDAR_SECONDS else 0
  let s := ((s.wr Reg.LCH_CALENDAR_SECONDS seconds).wr Reg.LCH_CALENDAR_VALID 1).wr Reg.LCH_CALENDAR_HOLDOVER 0
  addRecord { s with lch := { s.lch with calNs := 0 } } 6 old

end Sys2Proof.Machine
end

