-- ==== Sys2Proof/Machine/Boot.lean ====
section
/-! DEFINITION. Start-up: the boot ROM, the partition and equalisation tables, the load of firmware, the boot sequence, and
what a chip-level reset keeps (R38, R277 to R279, R353, R430 to R433, R437 to R443, R449). -/

namespace Sys2Proof.Machine

/-! ### Firmware releases (R440, R441) -/

/-- The results of R441. -/
def Slot.ok : Nat := 0
def Slot.noImage : Nat := 1
def Slot.badFormat : Nat := 2
def Slot.badKey : Nat := 3
def Slot.badSignature : Nat := 4
def Slot.rollback : Nat := 5
def Slot.badContent : Nat := 6
def Slot.notTried : Nat := 15

/-- The start of a firmware slot: 0 A, 1 B (R439). -/
def slotBase (n : Nat) : Nat := 0x1000000 + 0x800000 * n

/-- The header words of the release in a slot. -/
def State.releaseWords (s : State) (base : Nat) : List Word := toWords 8 (s.flashRead base 64)

/-- The forager image of a release. -/
def State.foragerImage (s : State) (base : Nat) : List Byte :=
  let w := s.releaseWords base
  s.flashRead (base + bits (wordAt w 4) 0 32) (bits (wordAt w 4) 32 32)

/-- R441: the checks of one slot, in order. -/
def State.slotCheck (s : State) (base : Nat) : Nat :=
  let w := s.releaseWords base
  let len := bits (wordAt w 2) 0 32
  let inside (a n : Nat) : Bool := decide (a + n ≤ len)
  let sec := s.flashRead (base + len) 200
  let key := sec.take 97
  if bits (wordAt w 0) 0 32 ≠ 0x57524C53 then Slot.noImage
  else if bits (wordAt w 0) 32 8 ≠ 1 ∨ bits (wordAt w 0) 48 16 ≠ 0 ∨ bits (wordAt w 1) 24 40 ≠ 0 ∨ bits (wordAt w 2) 32 32 ≠ 0
      ∨ wordAt w 5 ≠ 0 ∨ wordAt w 6 ≠ 0 ∨ wordAt w 7 ≠ 0 ∨ len < 64 ∨ 8388408 < len
      ∨ !inside (bits (wordAt w 3) 0 32) (bits (wordAt w 3) 32 32) ∨ !inside (bits (wordAt w 4) 0 32) (bits (wordAt w 4) 32 32) then
    Slot.badFormat
  else if sha384 key ≠ s.bt.fuses.rootHash then Slot.badKey
  else if (sec.drop 97).take 7 ≠ List.replicate 7 0 ∨ !ecdsaVerify key (sec.drop 104) (s.flashRead base len) then Slot.badSignature
  else if bits (wordAt w 0) 40 8 < s.bt.fuses.minSvn then Slot.rollback
  else
    let img := s.foragerImage base
    let (code, _, _, _) := imageLens img
    if !imageHeader 1 img.length img ∨ !((codeWords (code / 4) (img.drop 64)).all fun c => (decodeWord 0 c).any firmwareAllows) then Slot.badContent
    else Slot.ok

/-- R441: the boot ROM tries the preferred slot and then the other, unless MODE is RECOVERY: the slot that runs, and the
results of slots A and B. -/
def State.bootRom (s : State) : Option Nat × Nat × Nat :=
  if s.bt.mode = 2 then (none, Slot.notTried, Slot.notTried)
  else
    let first := (Memory.read 0xFF s.flash 0).toNat % 2
    let a := s.slotCheck (slotBase first)
    if a = Slot.ok then (some first, if first = 0 then (a, Slot.notTried) else (Slot.notTried, a))
    else
      let b := s.slotCheck (slotBase (1 - first))
      (if b = Slot.ok then some (1 - first) else none, if first = 0 then (a, b) else (b, a))

/-! ### The store (R38, R433, R443) -/

/-- Base and size in GiB and use of each partition. -/
abbrev Parts := List (Nat × Nat × Nat)

/-- The default table of R38. -/
def defaultParts : Parts := [(0, 8, 1), (8, 4, 2), (12, 4, 3), (16, 4, 4), (20, 4, 5), (25, 103, 6), (24, 1, 8)]

/-- The partition table of flash, when it is valid (R443, R38). An absent partition reads 0 throughout. -/
def State.partTable (s : State) : Option Parts :=
  let b := s.flashRead 0x100000 160
  let w := toWords 20 b
  let n := bits (wordAt w 0) 32 8
  let zeroed := slice b 0 8 ++ List.replicate 4 (0 : Byte) ++ slice b 12 148
  let ps : Parts := (List.range n).map fun i =>
    let e := wordAt w (4 + i)
    if bits e 8 8 = 0 then (0, 0, 0) else (bits e 0 8, bits e 8 8, bits e 16 4)
  if bits (wordAt w 0) 0 32 = 0x50544252 ∧ 1 ≤ n ∧ n ≤ 16 ∧ bits (wordAt w 1) 0 32 = (crcLink zeroed).toNat
    ∧ (ps.all fun p => decide (p.1 + p.2.1 ≤ 128 ∧ p.2.2 ≤ 8))
    ∧ disjoint ((ps.filter fun p => p.2.1 != 0).map fun p => (p.1, p.2.1)) then some ps
  else none

/-- PARTITION_TABLE_LOAD (R38): the table of flash, or the default table with a configuration error. -/
def State.loadParts (s : State) : State :=
  let (ps, s) := match s.partTable with
    | some ps => (ps, s)
    | none => (defaultParts, s.configError 0x400)
  ps.zipIdx.foldl (fun (s : State) x =>
    ((s.wr Reg.GLB_STORE_PART_BASE_GIB x.1.1 x.2).wr Reg.GLB_STORE_PART_SIZE_GIB x.1.2.1 x.2).wr Reg.GLB_STORE_PART_USE x.1.2.2 x.2) s

/-- STORE_ZEROISE (R433): every byte of the store reads 0, and no unit holds an error. -/
def State.zeroise (s : State) : State := { s with store := [], poison := [] }.clearResv .store 0 (2 ^ 37)

/-! ### Equalisation (R277 to R279) -/

def eqBase : Nat := 0x200000

/-- The four conditions of R278 on a lane settings word. -/
def laneWordOk (w : Word) : Bool :=
  let pre2 := toSigned 4 (bits w 0 4)
  let pre1 := toSigned 8 (bits w 4 8)
  let main := bits w 12 8
  let post1 := toSigned 8 (bits w 20 8)
  decide (-32 ≤ pre1 ∧ pre1 ≤ 31 ∧ 32 ≤ main ∧ main ≤ 63 ∧ -32 ≤ post1 ∧ post1 ≤ 31)
    && decide (pre2.natAbs + pre1.natAbs + main + post1.natAbs ≤ 63) && bits w 61 3 == 0

/-- Raise the PLATFORM configuration error for a register (R279, R490). -/
def State.platformError (s : State) (a : Nat) : State := s.raise 0x003 (St.badDescriptor + a / 8 * 256)

/-- The result of R279 and the record that matches. -/
def State.eqCheck (s : State) : Nat × Nat :=
  let h := toWords 4 (s.flashRead eqBase 32)
  let n := bits (wordAt h 0) 40 8
  let len := bits (wordAt h 1) 0 32
  if bits (wordAt h 0) 0 32 ≠ 0x45514C4E then (1, 0)
  else if bits (wordAt h 0) 32 8 ≠ 1 ∨ n = 0 ∨ 64 < n ∨ len ≠ 32 + 1736 * n ∨ bits (wordAt h 0) 48 16 ≠ 0 ∨ wordAt h 2 ≠ 0
      ∨ wordAt h 3 ≠ 0 then (2, 0)
  else
    let b := s.flashRead eqBase len
    if bits (wordAt h 1) 32 32 ≠ (crcLink (slice b 0 12 ++ List.replicate 4 (0 : Byte) ++ b.drop 16)).toNat then (3, 0)
    else
      let hit := (List.range n).find? fun r =>
        let m := ofLE (s.flashRead (eqBase + 32 + 1736 * r) 2)
        (s.bt.boardId ^^^ m % 256) &&& (m / 256) == 0
      match hit with
      | some r => (0, r)
      | none => (4, 0)

/-- Set one port from its entry of a record, or OFF when the entry is rejected (R279), with RETIRED from the lifetime log
(R288). -/
def State.eqPort (s : State) (r p : Nat) : State :=
  let e := toWords 3 (s.flashRead (eqBase + 32 + 1736 * r + 8 + 24 * p) 24)
  let cfg := bits (wordAt e 0) 0 8
  let good := bits (wordAt e 0) 0 2 != 3 && bits (wordAt e 0) 2 2 != 3 && bits (wordAt e 0) 8 56 == 0
    && laneWordOk (wordAt e 1) && laneWordOk (wordAt e 2)
  if good then
    let s := (s.wr { Reg.LAN_PORT_CFG_RATE with w := 8 } cfg p).wr Reg.LAN_PORT_STATUS_EQ_VALID 1 p
    (s.wr { Reg.LAN_EQ_PRE2 with w := 64 } (wordAt e 1).toNat p 0).wr { Reg.LAN_EQ_PRE2 with w := 64 } (wordAt e 2).toNat p 1
  else ((s.wr Reg.LAN_PORT_CFG_RATE 2 p).wr Reg.LAN_PORT_STATUS_EQ_VALID 0 p).platformError (Reg.LAN_PORT_CFG_RATE.addr p 0)

/-- Apply the table's outcome to one port. -/
def State.eqApply (s : State) (result r p : Nat) : State :=
  let s := if result = 0 then s.eqPort r p else s.wr Reg.LAN_PORT_CFG_RATE 2 p
  if s.lch.retired.any fun x => !x.row && x.port == p then s.wr Reg.LAN_PORT_CFG_RETIRED 1 p else s

/-- EQ_TABLE_LOAD (R277): check the table, apply the matching record, set LOADED. -/
def State.eqLoad (s : State) : State :=
  let (result, r) := s.eqCheck
  let h := toWords 1 (s.flashRead eqBase 8)
  let s := if result = 0 then s else s.platformError 0x2800000
  let s := (List.range 72).foldl (fun (s : State) p => s.eqApply result r p) s
  let s := ((s.wr Reg.LAN_EQ_STATUS_RESULT result).wr Reg.LAN_EQ_STATUS_RECORD r).wr Reg.LAN_EQ_STATUS_FORMAT
    (if result = 1 then 0 else bits (wordAt h 0) 32 8)
  (s.wr Reg.LAN_EQ_STATUS_BOARD_ID s.bt.boardId).wr Reg.LAN_EQ_STATUS_LOADED 1

/-! ### Forager firmware (R353) -/

/-- The keeper copies the authenticated forager code into a hive and starts the firmware threads at ENTRY; the threads kept
for handlers are idle (R314, R353). -/
def State.startHive (s : State) (h : Nat) : State :=
  let s := { s with fg := { s.fg with
    sram := mset s.fg.sram h (Memory.writeN 0 [] 0 s.fg.fwCode), cycles := mset s.fg.cycles h 0 } }
  let own := 128 - s.rd Reg.MCH_HANDLER_THREADS
  (List.range 128).foldl (fun (s : State) i =>
    let x : Thread := if i < own then { st := .running, pc := s.fg.fwEntry, code := s.fg.fwCode.length } else {}
    s.setThread (128 * h + i) { x with nextAcc := (s.thread (128 * h + i)).nextAcc }) s

/-- FORAGER_FIRMWARE_LOAD (R353): from the release of a slot into every hive. -/
def State.loadForagers (s : State) (base : Nat) : State :=
  let img := s.foragerImage base
  let (code, ro, entry, _) := imageLens img
  let s := { s with fg := { s.fg with fwRodata := (img.drop (64 + code)).take ro, fwCode := (img.drop 64).take code, fwEntry := entry } }
  (List.range 8).foldl State.startHive s

/-! ### ALIVE (R413) -/

/-- Drive the ALIVE pin. -/
def State.setAlive (s : State) (level : Bool) : State :=
  if s.ft.aliveLevel == level then s else { s with ft := { s.ft with aliveLevel := level } }.emit (.alive level)

/-- A fatal source with EXT_ALIVE 1 has STATUS 1. -/
def State.aliveStopped (s : State) : Bool :=
  (List.range 1024).any fun k => classOf k == some 2 && bit (s.reg (Reg.EVT_STATUS_STATUS.addr (k / 64) 0) 0) (k % 64)
    && s.on Reg.EVT_SRC_CFG_EXT_ALIVE k

/-- Stop ALIVE, or let it toggle again with a rising edge (R413). -/
def State.aliveCheck (s : State) : State :=
  if !s.on Reg.FLT_ALIVE_START then s
  else if s.aliveStopped then
    (if s.on Reg.FLT_ALIVE_TOGGLING then ((s.wr Reg.FLT_ALIVE_TOGGLING 0).wr Reg.FLT_ALIVE_STOPPED_SEEN 1).setAlive false else s)
  else if s.on Reg.FLT_ALIVE_TOGGLING then s
  else (s.wr Reg.FLT_ALIVE_TOGGLING 1).setAlive true

/-- FLT_ALIVE.START is written 1. -/
def State.aliveStart (s : State) : State :=
  if s.on Reg.FLT_ALIVE_START then s
  else (((s.wr Reg.FLT_ALIVE_START 1).wr Reg.FLT_ALIVE_TOGGLING 1).setAlive true).aliveCheck

/-! ### Chip-level resets (R430 to R433) -/

/-- A register of the standby domain, the ones that read normally while the main rails are down (R406, R430, R467): EVT_STATUS_k,
EVT_ACTIVE_k, the logs, the class counts, the calendar, GLB_RAIL_STATUS. -/
def standbyReg (a : Nat) : Bool :=
  (0x100000 ≤ a && a < 0x100100) || (0x100220 ≤ a && a < 0x100248) || a == 0x200038 || a == 0x500

/-- What a reset that keeps the standby domain leaves in the registers: beside its own, the hours and SEQ that stand in the next record
of the retained buffer. -/
def keptReg (a : Nat) : Bool := standbyReg a || a == 0x200040 || a == 0x200050

/-- What is left right after a chip-level reset of a kind (R432): pins, fuses and flash always; the standby domain unless
power was lost, with the monitor's account of the hour under way and of what was declined (log entry 20); the latched straps at a warm
chip reset, where a written LOG_BINS takes effect (R123). The calendar runs on from the standby clock meanwhile (R429), and the next
lottery draw steps its LFSR from here on (R307). -/
def State.wipe (s : State) (kind : Nat) : State :=
  let off := (s.ports.filter fun p => s.rd Reg.LNK_STATUS_STATE p.1 = 1 ∨ s.rd Reg.LNK_STATUS_STATE p.1 = 2).map
    fun p => Output.transmit p.1 false
  let low := if s.ft.aliveLevel then [Output.alive false] else []
  let warm := 3 ≤ kind
  let keep := 2 ≤ kind
  let open0 := s.rd Reg.BOOT_STATUS_DEBUG_OPEN
  let bins := s.rd Reg.MCH_CONFIG_LOG_BINS
  let t : State := {
    regs := if keep then s.regs.filter fun p => keptReg p.1 else []
    sc := { cycle := s.root / 5 }
    root := s.root, flash := s.flash, out := s.out ++ off ++ low, free := s.free, pending := s.pending
    ft := { notifies := if keep then s.ft.notifies else [], refbStop := s.ft.refbStop, rootLost := s.ft.rootLost }
    lch := {
      buffer := if keep then s.lch.buffer else []
      skipped := if keep then s.lch.skipped else []
      hourCount := if keep then s.lch.hourCount else 0
      dropped := if keep then s.lch.dropped else 0
      folded := if keep then s.lch.folded else []
      hourCorr := if keep then s.lch.hourCorr else 0
      hourCont := if keep then s.lch.hourCont else 0
      hourFatal := if keep then s.lch.hourFatal else 0
      hourTjMax := if keep then s.lch.hourTjMax else none
      hourTjMin := if keep then s.lch.hourTjMin else none
      hourCycles := if keep then s.lch.hourCycles else 0
      tjLow := if keep then s.lch.tjLow else none
      tjPeak := if keep then s.lch.tjPeak else none
      declined := if keep then s.lch.declined else []
      vset := if keep then s.lch.vset else 8000
      vgoal := if keep then s.lch.vset else 8000
      calNs := if keep then s.lch.calNs else 0 }
    bt := {
      fuses := s.bt.fuses, kind := kind, resetLow := s.bt.resetLow, perst := s.bt.perst, stbyUp := s.bt.stbyUp
      railsUp := s.bt.railsUp, thermTrip := s.bt.thermTrip, tj := s.bt.tj
      boardId := if warm then s.bt.boardId else 0
      mode := if warm then s.bt.mode else 0
      lockout := keep && s.bt.lockout, idKeyOff := keep && s.bt.idKeyOff
      jtag := if keep then s.bt.jtag else none, isolated := keep && s.bt.isolated
      smbusOffset := if keep then s.bt.smbusOffset else 0 } }
  let t := if keep then t.wr Reg.LCH_CALENDAR_HOLDOVER 1 else t
  let t := if keep ∧ open0 ≠ 0 then t.wr Reg.BOOT_STATUS_DEBUG_OPEN open0 else t
  if warm ∧ bins ≠ 20 then { t.wr Reg.MCH_CONFIG_LOG_BINS bins with mt := { t.mt with logBins := bins } } else t

/-! ### The boot sequence (R437) -/

/-- R449: the device runs in factory test mode. -/
def State.factory (s : State) : Bool :=
  s.bt.mode == 1 && (!s.bt.fuses.production || bit (BitVec.ofNat 64 (s.rd Reg.BOOT_STATUS_DEBUG_OPEN)) 2)

/-- Steps 8 and 9 of R437: host functions answer, ALIVE starts, the equalisation is loaded and ports train. -/
def State.bootFinish (s : State) : State :=
  let s := s.wr Reg.BOOT_STATUS_STAGE 4
  let s := ((List.range 4).filter fun h => s.bt.perst / 2 ^ h % 2 = 0).foldl (fun (s : State) h => s.emit (.configReady h true)) s
  let s := (s.aliveStart.eqLoad).wr Reg.BOOT_STATUS_STAGE 5
  (List.range 72).foldl State.tryTrain s

/-- Rows with corrected errors that a number spells, 48 bits each: array, row, errors since the previous re-plan. -/
def rowsFrom : Nat → Nat → List (Nat × Nat × Nat)
  | 0, _ => []
  | f + 1, v => if v = 0 then [] else (v % 65536, v / 65536 % 65536, v / 2 ^ 32 % 65536) :: rowsFrom f (v / 2 ^ 48)

/-- A free measurement of the die: the re-plan of a boot measures it and nothing else does, and a free list of rows with corrected errors
(log entry 32). -/
def State.measure (s : State) : State × Measurement :=
  let d := s.freeVal % 65536
  let s := s.takeFree
  let p := s.freeVal % 64
  let s := s.takeFree
  let v := s.freeVal % 1024
  let s := s.takeFree
  (s.takeFree, { d := d, pair := p, sramVmin := v, rows := rowsFrom 1000 s.freeVal })

/-- The host ports out of reset answer configuration requests with Request Retry Status until HOST_READY (R438). -/
def State.retryPorts (s : State) : State :=
  ((List.range 4).filter fun h => s.bt.perst / 2 ^ h % 2 = 0).foldl (fun (s : State) h => s.emit (.configReady h false)) s

/-- The boot sequence from the release of reset: the root PLL locks, fuses are checked, straps, the boot ROM, the store, forager firmware,
the lifetime log, the re-plan. When the re-plan moves the rail, the rest follows at its end. -/
def State.boot (s : State) : State :=
  let f := s.bt.fuses
  let s := { s with bt := { s.bt with inReset := false }, ft := { s.ft with rootLost := false } }
  let s := f.bad.foldl (fun (s : State) w => s.raise 0x016 w) s.retryPorts
  let s := ((s.wr Reg.GLB_CLK_STATUS_ROOT_LOCK 1).wr Reg.BOOT_STATUS_FUSED_SVN f.minSvn).wr Reg.BOOT_SERIAL_SERIAL f.serial
  let s := (List.range 13).foldl (fun (s : State) i =>
    s.wr Reg.BOOT_ID_PUBKEY_BYTES (ofLE (slice (f.pubkey.take 97) (8 * i) 8)) i) s
  let s := (s.wr Reg.LCH_PLAN_V0_MV f.v0).wr Reg.LCH_PLAN_SLOPE f.slope
  let s := s.wr Reg.LCH_VR_STATUS_CONFIRMED_MV (s.lch.vset / 10)
  let s := s.wr Reg.LAN_EQ_STATUS_BOARD_ID s.bt.boardId
  let s := if s.bt.mode = 3 ∨ (s.bt.mode = 1 ∧ !s.factory) then { s with bt := { s.bt with mode := 0 } } else s
  let fact := flag s.factory 1
  let s := ((s.wr Reg.BOOT_STATUS_MODE s.bt.mode).wr Reg.BOOT_STATUS_FACTORY_TEST fact).wr Reg.FLT_CTRL_INJECT_EN fact
  let s := (s.wr Reg.BOOT_STATUS_RESET_KIND s.bt.kind).wr Reg.BOOT_STATUS_STAGE 1
  let (slot, ra, rb) := s.bootRom
  let s := (s.wr Reg.BOOT_STATUS_SLOT_A_RESULT ra).wr Reg.BOOT_STATUS_SLOT_B_RESULT rb
  match slot with
  | none =>
    let s := (s.wr Reg.BOOT_STATUS_SLOT 3).wr Reg.BOOT_STATUS_STAGE 15
    if s.bt.perst % 2 = 0 then s.emit (.configReady 0 true) else s
  | some n =>
    let w := s.releaseWords (slotBase n)
    let s := ((s.wr Reg.BOOT_STATUS_SLOT n).wr Reg.BOOT_STATUS_RELEASE_SVN (bits (wordAt w 0) 40 8)).wr Reg.BOOT_RELEASE_VERSION
      (bits (wordAt w 1) 0 24)
    let s := { s with bt := { s.bt with slotBase := slotBase n } }
    let s := ((s.wr Reg.BOOT_STATUS_STAGE 2).logRestore.loadParts.zeroise).loadForagers (slotBase n)
    let s := s.wr Reg.BOOT_STATUS_STAGE 3
    let s := { s with lch := { s.lch with bootCount := s.lch.bootCount + 1 } }
    let s := addRecord s 1 (s.lch.bootCount % 2 ^ 32 + s.bt.kind * 2 ^ 32)
    let (s, m) := s.measure
    let s := s.replan m
    if s.on Reg.LCH_CTRL_BUSY then s else s.bootFinish

/-- Nothing holds the device in reset. -/
def State.bootable (s : State) : Bool := !s.bt.resetLow && s.bt.railsUp == 31 && !s.bt.thermTrip && s.bt.stbyUp

/-- A chip-level reset (R430, R431): one that arrives while the device is held by a wider one is absorbed by it. A warm
chip reset keeps the root PLL, so it waits for the clocks. -/
def State.chipReset (s : State) (kind : Nat) : State :=
  if s.bt.inReset ∧ s.bt.kind < kind then s
  else
    let s := s.wipe kind
    if s.bootable ∧ (kind < 3 ∨ !s.ft.rootLost) then s.boot else s

/-- R460, R437: an AVSBus response; the boot goes on when the re-plan it waits for completes. -/
def execAvsResponse (good : Bool) (readMv : Nat) (s : State) : Host.Outcome State Fault Refusal := s.atPins <|
  let (s, done) := s.avsResponse good readMv
  ok (if done ∧ s.rd Reg.BOOT_STATUS_STAGE = 3 then s.bootFinish else s)

/-- R430: VDD_STBY rises into tolerance. A thermal trip is judged when this reset ends (R456). -/
def execPowerOnReset (s : State) : Host.Outcome State Fault Refusal :=
  ok ({ s with bt := { s.bt with stbyUp := true, resetLow := true, railsUp := 0 } }.wipe 1)

/-- R462: VDD_STBY falls below 2.9 V: the standby domain is lost with everything else. -/
def execStandbyPowerLoss (s : State) : Host.Outcome State Fault Refusal :=
  ok ({ s with bt := { s.bt with stbyUp := false, resetLow := true, railsUp := 0 } }.wipe 1)

/-- R465: CHIP_RESET_N is held low for a time; a pulse between 100 ns and 1 µs may be taken or not. The core that JTAG has isolated from
its pins does not see it (R447; log entry 19). -/
def execChipReset (lowNs : Nat) (taken : Bool) (s : State) : Host.Outcome State Fault Refusal :=
  if !s.bt.stbyUp ∨ s.bt.isolated ∨ lowNs < 100 ∨ (lowNs < 1000 ∧ !taken) then ok s
  else ok ({ s with bt := { s.bt with resetLow := true } }.chipReset 2)

/-- The hold ends: straps are latched, a thermal trip ends unless a sensor still reads 105 °C or more, and the boot
sequence runs (R437, R456, R464). -/
def State.releaseReset (s : State) (boardId : Byte) (mode : BitVec 2) (sensorTj : Nat) : State :=
  let s := { s with bt := { s.bt with
    boardId := boardId.toNat, mode := mode.toNat, tj := sensorTj, thermTrip := s.bt.thermTrip && decide (105 ≤ sensorTj) } }
  if s.bootable then s.boot else s

/-- R437: CHIP_RESET_N rises. With the rails up the boot sequence starts; a rail that is still low holds the device in reset, which
SEQUENCE_SEEN shows (R462). -/
def execChipResetNRelease (boardId : Byte) (mode : BitVec 2) (sensorTj : Nat) (s : State) : Host.Outcome State Fault Refusal :=
  if !s.bt.stbyUp ∨ !s.bt.resetLow ∨ s.bt.isolated then ok s
  else
    let s := { s with bt := { s.bt with resetLow := false } }
    if s.bt.railsUp ≠ 31 then ok (s.wr Reg.GLB_RAIL_STATUS_SEQUENCE_SEEN 1) else ok (s.releaseReset boardId mode sensorTj)

/-- R462: a main rail (CORE, SRAM, SDS, 1V2, 1V8 from 0 to 4) falls below its threshold, and is below it for a time. -/
def execRailUndervoltage (rail : Nat) (lowNs : Nat) (s : State) : Host.Outcome State Fault Refusal :=
  if 5 ≤ rail ∨ !s.bt.stbyUp then ok s
  else
    let up := s.bt.railsUp - s.bt.railsUp / 2 ^ rail % 2 * 2 ^ rail
    let s := s.wr (subFld Reg.GLB_RAIL_STATUS_CORE_OK rail 1) 0
    let s := if 2000 < lowNs then s.wr (subFld Reg.GLB_RAIL_STATUS_CORE_UV_SEEN rail 1) 1 else s
    let s := if s.bt.resetLow then s else s.wr Reg.GLB_RAIL_STATUS_SEQUENCE_SEEN 1
    ok ({ s with bt := { s.bt with railsUp := up }, lch := { s.lch with vset := if rail = 0 then 8000 else s.lch.vset } }.chipReset 2)

/-- R462: main rails, one bit each, have returned above their thresholds; once all of them have been there for 1 ms, the hold ends. -/
def execRailRestored (back : RailsBack) (mode : BitVec 2) (sensorTj : Nat) (s : State) : Host.Outcome State Fault Refusal :=
  if !s.bt.stbyUp ∨ s.bt.railsUp = 31 then ok s
  else
    let up := s.bt.railsUp ||| back.rails.toNat
    let s := { s with bt := { s.bt with railsUp := up } }.wr { Reg.GLB_RAIL_STATUS_CORE_OK with w := 5 } up
    if up ≠ 31 ∨ s.bt.resetLow then ok s else ok (s.releaseReset back.boardId mode sensorTj)

/-- R456: a die sensor reaches the trip temperature. -/
def execThermalTrip (tj : Nat) (s : State) : Host.Outcome State Fault Refusal :=
  if !s.bt.stbyUp then ok s
  else
    let s := (((s.emit .thermTrip).setAlive false).raise 0x006 tj).wr Reg.GLB_RAIL_STATUS_THERMTRIP_SEEN 1
    ok ({ s with bt := { s.bt with thermTrip := true, tj := tj } }.chipReset 2)

/-- R430: BOOT_RESET_CTRL.WARM with its key. -/
def State.warmReset (s : State) (kind : Nat) : State := if s.bt.inReset then s else s.chipReset kind

end Sys2Proof.Machine
end

