-- ==== Sys2Proof/Machine/Swarm.lean ====
section
/-! DEFINITION. The commands of the swarm: collective descriptors, swarm packets, staging, the epoch timer, frond writes and
reads, the reset of the swarm (R151 to R187). -/

namespace Sys2Proof.Machine

/-! ### Collective descriptors (R155 to R160) -/

/-- The member of a queue pair's function is the root of a descriptor's operation. -/
def State.atRoot (s : State) (x : Qp) (d : Desc) : Bool := s.ownEid x.fn == some (bits d.op1 0 20)

/-- The descriptor reads its input, and writes its output, at this member (R156). -/
def State.descReads (s : State) (x : Qp) (d : Desc) : Bool :=
  d.opcode == 0x41 || d.opcode == 0x42 || (d.opcode == 0x43 && s.atRoot x d)
def State.descWrites (s : State) (x : Qp) (d : Desc) : Bool :=
  d.opcode == 0x42 || (d.opcode == 0x41 && s.atRoot x d) || (d.opcode == 0x43 && !s.atRoot x d)

/-- Checks 2 to 5 of R158: the status and DETAIL of the first that fails. While SWM_CONFIG.ENABLE is 0 a collective gets INVALID_STATE
(log entry 10). -/
def State.collectiveFault (s : State) (n : Nat) (x : Qp) (d : Desc) : Option (Nat × Nat) :=
  let apart : Bool := decide (d.laddr = d.raddr) || decide (d.laddr + d.len ≤ d.raddr) || decide (d.raddr + d.len ≤ d.laddr)
  if s.descReads x d && s.descWrites x d && !apart then some (St.badDescriptor, 0)
  else match if s.on Reg.SWM_CONFIG_ENABLE then mget s.sw.fronds d.gid else none with
    | none => some (St.invalidState, 0)
    | some f =>
      if !f.isLocal ∨ f.qpn ≠ n then some (St.invalidState, 0)
      else if f.st = .aborted then some (St.aborted, f.lastReason)
      else
        let inp := if s.descReads x d then s.checkLocal d.lkey x.fn x.pd 0 d.laddr d.len else none
        let out := if s.descWrites x d then s.checkLocal d.rkey x.fn x.pd rLocalWrite d.raddr d.len else none
        match inp, out with
        | some dt, _ => some (St.localProt, dt)
        | none, some dt => some (St.localProt, dt)
        | none, none => none

/-- A descriptor's operation, as a swarm header names it (R168). -/
def Desc.swarmHeader (d : Desc) : SwarmHeader :=
  let o := d.opId
  { kind := 0, op := o.op, gid := d.gid, dtype := o.dtype, rop := o.rop, length := o.length, rootEid := o.rootEid }

/-- The member's descriptor joins the current epoch of its group, or starts one (R160, R163, R169). -/
def State.joinEpoch (s : State) (n gid : Nat) (d : Desc) : State :=
  match mget s.sw.fronds gid with
  | none => s
  | some f =>
    match f.cur with
    | some e =>
      if e.agrees d.opId false then s.setFrond gid { f with cur := some { e with member := some (n, d.id) } }
      else s.swarmAbort gid 3 127
    | none =>
      if !s.slotFree then s.swarmAbort gid 7 127 none none (some d.swarmHeader)
      else (s.setFrond gid { f with st := .active, cur := some { s.newEpoch f.epoch d.opId with member := some (n, d.id) } }).slotsShown

/-- Start a collective descriptor (R158 to R160). A quiesced SWARM crossing takes up no new one (R23). -/
def State.startCollective (s : State) (n : Nat) (x : Qp) (d : Desc) : State :=
  if !s.admits 4 then s
  else match s.collectiveFault n x d with
    | some (st, dt) =>
      if st = St.aborted then s.finishDesc n d.id St.aborted false dt
      else if st = St.localProt then (s.failDesc n d.id st false dt).drive (.abort d.gid 5)
      else s.failDesc n d.id st false dt
    | none =>
      let reads := s.descReads x d
      let writes := s.descWrites x d
      let s := s.modDesc n d.id fun y => { y with st := .sent, localRef := reads, outRef := writes }
      let s := if reads then s.takeRef (keyIndex d.lkey) else s
      let s := if writes then s.takeRef (keyIndex d.rkey) else s
      s.joinEpoch n d.gid d

/-- R156: BARRIER. -/
def execBarrier (fn : Nat) (q : Nat) (s : State) : Host.Outcome State Fault Refusal := s.clocked <| s.runSend fn q 0x40 s.startCollective

/-- R156: REDUCE. -/
def execReduce (fn : Nat) (q : Nat) (s : State) : Host.Outcome State Fault Refusal := s.clocked <| s.runSend fn q 0x41 s.startCollective

/-- R156: ALLREDUCE. -/
def execAllreduce (fn : Nat) (q : Nat) (s : State) : Host.Outcome State Fault Refusal := s.clocked <| s.runSend fn q 0x42 s.startCollective

/-- R156: BROADCAST. -/
def execBroadcast (fn : Nat) (q : Nat) (s : State) : Host.Outcome State Fault Refusal := s.clocked <| s.runSend fn q 0x43 s.startCollective

/-! ### Swarm packets (R154, R164 to R169, R183, R184) -/

/-- Process a delivered swarm packet of a kind: it leaves the delivered ones. An upward packet enters the queue of port 88, the
others that of port 89, which never waits (R165, R166). -/
def State.runSwarm (s : State) (port : Nat) (p : Packet) (row : Nat → Bool) : Host.Outcome State Fault Refusal :=
  match p.body, s.rt.delivered.find? fun x => x.port == port && x.pkt.same p with
  | .swarm h, some x =>
    if !row h.kind ∨ !s.admits 4 then ok s
    else
      let s := s.endTag x.tag
      let s := { s with rt := { s.rt with delivered := s.rt.delivered.erase x } }
      if h.kind = 0 then ok (settle { s with sw := { s.sw with up := s.sw.up ++ [(port, p)] } })
      else ok (settle (((s.swarmPacket port h p.payload).getD s).returnCredit port p))
  | _, _ => ok s

/-- R165: an upward packet, or one of the reserved kind (R169). -/
def execSwarmUpPacket (port : Nat) (p : Packet) (s : State) : Host.Outcome State Fault Refusal := s.clocked <| s.runSwarm port p fun k => k == 0 || k == 3

/-- R165: a downward packet. -/
def execSwarmDownPacket (port : Nat) (p : Packet) (s : State) : Host.Outcome State Fault Refusal := s.clocked <| s.runSwarm port p (· == 1)

/-- R183, R184: an ABORT packet. -/
def execSwarmAbortPacket (port : Nat) (p : Packet) (s : State) : Host.Outcome State Fault Refusal := s.clocked <| s.runSwarm port p (· == 2)

/-- R166: the downward forwarding from a staging cell has ended. -/
def execStagingCellFree (gid : Nat) (cell : Nat) (s : State) : Host.Outcome State Fault Refusal := s.clocked <|
  match mget s.sw.fronds gid with
  | some f =>
    if f.held.contains cell then
      ok (settle (s.setFrond gid { f with held := f.held.filter (· != cell) }))
    else ok s
  | none => ok s

/-- R181: the epoch timer of a frond expires. -/
def execEpochTimeout (gid : Nat) (s : State) : Host.Outcome State Fault Refusal := s.clocked <|
  match mget s.sw.fronds gid with
  | some f => if f.cur.isSome then ok (settle (s.swarmAbort gid 1 127)) else ok s
  | none => ok s

/-! ### Frond writes and reads (R153, R186) -/

/-- Write a frond entry: its status, and the state after. -/
def State.frondWrite (s : State) (gid : Nat) (ws : List Word) : State × Nat :=
  if gid = 0 ∨ 65535 < gid ∨ !s.frondOk ws then (s, St.badDescriptor)
  else
    let old := mget s.sw.fronds gid
    let s := match old with
      | some f => if f.cur.isSome then s.swarmAbort gid 6 127 else s
      | none => s
    if !bit (wordAt ws 0) 0 then ({ s with sw := { s.sw with fronds := mdel s.sw.fronds gid } }, St.success)
    else
      let last := ((mget s.sw.fronds gid).map (·.lastReason)).getD 0
      let f : Frond := { words := ws, epoch := bits (wordAt ws 0) 48 16, lastReason := last }
      let s := s.setFrond gid f
      (match f.isLocal, s.qp f.qpn with
        | true, some q => s.qevent q.fn 19 St.success gid
        | _, _ => s, St.success)

/-- SWM_FROND_STATE of a GID: state, epoch, last reason (R153). -/
def State.frondState (s : State) (gid : Nat) : Nat × Nat × Nat :=
  match mget s.sw.fronds gid with
  | some f =>
    (match f.st with | .idle => 0 | .active => 1 | .aborted => 2, (f.cur.map (·.number)).getD f.epoch, f.lastReason)
  | none => (3, 0, 0)

/-- The words of SWM_FROND_DATA. -/
def State.frondData (s : State) : List Word := (List.range 8).map fun i => BitVec.ofNat 64 (s.rd Reg.SWM_FROND_DATA_WORD i)

/-- Act on WRITE and READ of SWM_FROND_CTRL (R153); both bits at once write first. -/
def State.frondCtrl (s : State) (v : Word) : State :=
  let gid := bits v 0 16
  let s := if bit v 16 then
      let r := s.frondWrite gid s.frondData
      r.1.wr Reg.SWM_FROND_CTRL_STATUS r.2
    else s
  if bit v 17 then
    let r := s.frondState gid
    let ws := ((mget s.sw.fronds gid).map (·.words)).getD []
    let s := (List.range 8).foldl (fun s i => s.wr Reg.SWM_FROND_DATA_WORD (wordAt ws i).toNat i) s
    let s := ((s.wr Reg.SWM_FROND_STATE_STATE r.1).wr Reg.SWM_FROND_STATE_EPOCH r.2.1).wr Reg.SWM_FROND_STATE_LAST_REASON r.2.2
    s.wr Reg.SWM_FROND_CTRL_STATUS (if gid = 0 then St.badDescriptor else St.success)
  else s

/-- The reset of the swarm (R187): fronds, staging and slots go, and outstanding collectives complete FLUSHED. -/
def State.swarmReset (s : State) : State :=
  let s := s.sw.up.foldl (fun s x => s.returnCredit x.1 x.2) { s with sw := { s.sw with up := [] } }
  s.sw.fronds.foldl (fun s p =>
    let ids := s.memberDescs p.1 p.2
    let key := (((p.2.cur.bind (·.member)).bind fun m => (s.qp m.1).bind (·.desc m.2)).map (·.lkey)).getD 0
    let s := s.dropSwarmIo p.1 key
    let s := ids.foldl (fun s id => s.finishDesc p.2.qpn id St.flushed) s
    { s with sw := { s.sw with fronds := mdel s.sw.fronds p.1 } }) s

end Sys2Proof.Machine
end

