-- ==== Sys2Proof/Machine/Reset.lean ====
section
/-! DEFINITION. Function-level, host-port and block resets (R375, R377, R383, R414, R430 to R436). -/

namespace Sys2Proof.Machine

/-! ### Locks (R375, R377) -/

def lockBase : Nat := 0x3610000

/-- R375: words whose HOLDER is a reset source are listed in LCK_ORPHAN, and LOCK_ORPHAN is raised with their number. -/
def State.orphan (s : State) (src : Nat → Bool) : State :=
  let ws := s.regs.filterMap fun p =>
    if lockBase ≤ p.1 ∧ p.1 < lockBase + 0x8000 ∧ bits p.2 16 12 ≠ 0xFFF ∧ src (bits p.2 16 12) then some ((p.1 - lockBase) / 8) else none
  (ws.foldl (fun (s : State) w =>
    s.wr Reg.LCK_ORPHAN_HELD (s.rd Reg.LCK_ORPHAN_HELD (w / 64) ||| 2 ^ (w % 64)) (w / 64)) s).raise 0x282 ws.length

/-! ### Functions (R434) -/

/-- Accesses of threads under the keys of a function: no write lands, and a read goes on without its reference. -/
def State.dropKeyAccesses (s : State) (mine : Nat → Bool) : State :=
  s.fg.threads.foldl (fun (s : State) p =>
    if p.2.pend.any (fun a => a.key.any mine) then
      let l := p.2.pend.filter fun a => !(a.key.any mine && a.kind == .store)
      (s.modThread p.1 fun x =>
        { x with pend := l.map fun a => if a.key.any mine then { a with key := none } else a }).wake p.1
    else s) s

/-- A request packet of a function's queue pairs that this device has built. -/
def State.ownRequest (s : State) (fn : Nat) (x : InPkt) : Bool :=
  match x.pkt.body with
  | .wt h => isRequest h.opcode && x.port == 127 && s.ownEid fn == some x.pkt.net.srcEid
  | _ => false

/-- The request packets of a function that have not left are gone: the device issues none after its reset (R434). -/
def State.dropRequests (s : State) (fn : Nat) : State :=
  let mine := s.ownRequest fn
  let keep := fun (m : Map (List InPkt)) => m.map fun l => (l.1, l.2.filter fun x => !mine x)
  let gone := s.ports.flatMap fun p => (p.2.egress.flatMap (·.2)).filter mine
  let s := gone.foldl (fun (s : State) x => s.endTag x.tag) s
  { s with
    ports := s.ports.map fun (p : Nat × Port) => (p.1, { p.2 with egress := keep p.2.egress, exHeld := p.2.exHeld.filter fun x => !mine x })
    rt := { s.rt with inject := keep s.rt.inject } }

/-- What is left of what a function owns: nothing, or, in a block reset, its MSI-X configuration with the masks and pending bits, which is
PCIe configuration space (R432). -/
def Func.configOnly (f : Func) (block : Bool) : Option Func :=
  if block ∧ (!f.vectors.isEmpty ∨ f.msixOff) then some { vectors := f.vectors, msixOff := f.msixOff } else none

/-- What R434 does to one function, but for its locks: queue pairs go without completions, keys are revoked and freed,
handlers, records, queues, domains and the granted version go, its requests leave no more, and its translation context is disabled. A
`block` reset keeps its PCIe configuration space (R432). -/
def State.functionReset0 (s : State) (fn : Nat) (block : Bool := false) : State :=
  let qps := (s.tp.qps.filter fun p => p.2.fn == fn).map (·.1)
  let s := s.dropRequests fn
  let left := (mget s.tp.funcs fn).bind (·.configOnly block)
  let gone := qps.flatMap fun n => ((s.qp n).map fun q => (q.sq.filter fun d => d.collective && d.outstanding).map (·.gid)).getD []
  let s := qps.foldl State.removeQp s
  let s := gone.foldl (fun s g => s.drive (.abort g 5)) s
  let s := { s with
    tp := { s.tp with
      reads := s.tp.reads.filter fun p => p.2.fn != fn
      atomics := s.tp.atomics.filter fun p => p.2.fn != fn
      placements := s.tp.placements.filter fun p => p.2.fn != fn
      writes := s.tp.writes.filter fun w => w.fn != fn
      funcs := match left with
        | some f => mset s.tp.funcs fn f
        | none => mdel s.tp.funcs fn }
    mt := { s.mt with
      unexp := s.mt.unexp.filter fun u => u.fn != fn
      handlers := s.mt.handlers.filter fun p => p.2.fn != fn }
    xl := { s.xl with walks := s.xl.walks.filter fun p => p.2.ctx != fn, opens := s.xl.opens.filter fun a => a.fn != fn } }
  let keys := (s.km.entries.filter fun p => p.2.fn == fn && p.2.kind != 0).map (·.1)
  let s := s.dropKeyAccesses fun i => keys.contains i
  let s := keys.foldl (fun (s : State) i => s.setKey i { generation := nextGen (s.key i).generation }) s
  let s := { s with km := { s.km with freed := s.km.freed ++ keys } }
  let s := if s.on Reg.KEY_QUOTA_USED fn then s.wr Reg.KEY_QUOTA_USED 0 fn else s
  let s := s.resetRegs (Reg.TPT_ABI_REQUEST_MINOR.addr fn 0) (Reg.TPT_ABI_REQUEST_MINOR.addr fn 0 + 32)
  let s := s.discardContext fn
  let s := if s.on Reg.XLT_CTX_ENABLE fn then s.wr Reg.XLT_CTX_ENABLE 0 fn else s
  if qps.isEmpty && keys.isEmpty then s else (s.matchShown fn).ctxShown.keyShown

/-- The nonce of an open debug challenge is void (R448). -/
def State.voidNonce (s : State) : State := { s with bt := { s.bt with nonce := none } }

/-- R434 and R375 for the functions of a kind. -/
def State.functionResets (s : State) (mine : Nat → Bool) (block : Bool := false) : State :=
  let s := ((List.range 2048).filter mine).foldl (fun (s : State) n => s.functionReset0 n block) s.voidNonce
  settle (s.orphan fun x => decide (x < 2048) && mine x)

/-- R434: PCIe FLR of one function. In stage RECOVERY only function 0 is there (R441). -/
def execFunctionLevelReset (fn : Nat) (s : State) : Host.Outcome State Fault Refusal := s.atPins <|
  if 2048 ≤ fn ∨ s.bt.inReset ∨ (s.rd Reg.BOOT_STATUS_STAGE = 15 ∧ fn ≠ 0) then ok s
  else ok (s.functionResets fun n => n == fn)

/-! ### Host ports (R435, R438) -/

/-- A host link leaves L0 (R402). -/
def State.hostLinkDown (s : State) (l : Nat) : State :=
  if s.bt.linkUp / 2 ^ l % 2 = 0 then s
  else
    let s := { s with bt := { s.bt with linkUp := s.bt.linkUp - 2 ^ l, cxlLinks := s.bt.cxlLinks - s.bt.cxlLinks / 2 ^ l % 2 * 2 ^ l } }
    s.raise (0x2C0 + 8 * l + 2) 0

/-- R435: PERST#[h] goes low: the PCIe state of its links goes, their AER registers included, and its functions are reset. -/
def execHostPortReset (h : Nat) (s : State) : Host.Outcome State Fault Refusal := s.atPins <|
  if 4 ≤ h then ok s
  else
    let s := { s with bt := { s.bt with perst := s.bt.perst ||| 2 ^ h } }
    if s.bt.inReset then ok s
    else
      let s := (s.hostLinkDown (2 * h)).hostLinkDown (2 * h + 1)
      let s := { s with bt := { s.bt with aer := mdel (mdel s.bt.aer (2 * h)) (2 * h + 1) } }
      let a := Reg.KEY_CXL_MAP_ENABLE.addr (2 * h) 0
      ok ((s.resetRegs a (a + 16)).functionResets fun n => n / 512 == h)

/-- R438: PERST#[h] is released: the port's links answer configuration requests, with Request Retry Status until HOST_READY;
in stage RECOVERY only link 0 has a function (R441). -/
def execPerstRelease (h : Nat) (s : State) : Host.Outcome State Fault Refusal := s.atPins <|
  if 4 ≤ h then ok s
  else
    let s := { s with bt := { s.bt with perst := s.bt.perst - s.bt.perst / 2 ^ h % 2 * 2 ^ h } }
    let stage := s.rd Reg.BOOT_STATUS_STAGE
    if s.bt.inReset then ok s else ok (s.emit (.configReady h (decide (4 ≤ stage ∧ stage < 15) || (stage == 15 && h == 0))))

/-- R402: a host link leaves L0 other than by a requested power state. -/
def execHostLinkDown (link : Nat) (s : State) : Host.Outcome State Fault Refusal := s.clocked <| if link < 8 then ok (s.hostLinkDown link) else ok s

/-- R469: a host link trains to L0; it may run CXL. -/
def execHostLinkUp (link : Nat) (cxl : Bool) (s : State) : Host.Outcome State Fault Refusal := s.atPins <|
  if 8 ≤ link ∨ s.bt.inReset ∨ s.bt.perst / 2 ^ (link / 2) % 2 = 1 then ok s
  else
    let bit0 := 2 ^ link
    ok { s with bt := { s.bt with
      linkUp := s.bt.linkUp ||| bit0
      cxlLinks := if cxl then s.bt.cxlLinks ||| bit0 else s.bt.cxlLinks - s.bt.cxlLinks / bit0 % 2 * bit0 } }

/-! ### Block resets (R414, R436) -/

/-- The reset unit of a source (R401), as BOOT_RESET_CTRL.UNIT numbers it. -/
def resetUnit (k : Nat) : Option Nat :=
  if k < 0x040 then none
  else if k < 0x088 then some (k - 0x040)
  else if k < 0x0D0 then some (k - 0x088)
  else if k < 0x118 then some (k - 0x0D0)
  else if k < 0x140 then none
  else if k < 0x180 then some 80
  else if k < 0x1C0 then some (72 + (k - 0x180) / 8)
  else if k < 0x200 then none
  else if k < 0x240 then some 81
  else if k < 0x2C0 then some 82
  else if k < 0x340 then some 83
  else none

/-- R414, R436: port p: its link goes down with cause 5; its registers are reset, with the lane settings of the table and
RETIRED of the log. A port whose link is down keeps EXPECT until it begins training (R252). -/
def State.resetPort (s : State) (p : Nat) : State :=
  let st := s.rd Reg.LNK_STATUS_STATE p
  let up := st == 2
  let expect := s.rd Reg.LNK_RX_EXPECT_LSN p
  let s := if st = 1 then s.emit (.transmit p false) else s
  let s := s.linkDown p 5
  let s := (s.resetRegs (0x2000000 + 0x10000 * p) (0x2010000 + 0x10000 * p)).resetRegs (0x2810000 + 0x1000 * p) (0x2811000 + 0x1000 * p)
  let s := s.setPort p { s.port p with latched := false, patterns := [{}, {}] }
  let s := s.eqApply (s.rd Reg.LAN_EQ_STATUS_RESULT) (s.rd Reg.LAN_EQ_STATUS_RECORD) p
  let s := if st = 2 ∨ st = 3 then s.wr Reg.LNK_RX_EXPECT_LSN expect p else s
  if up then ((s.wr Reg.LNK_STATUS_STATE 3 p).wr Reg.LNK_STATUS_DOWN_CAUSE 5 p).wr Reg.LNK_STATUS_DOWN_SEEN 1 p
  else if st = 3 then s.wr Reg.LNK_STATUS_STATE 3 p
  else s.tryTrain p

/-- R414, R436: hive h: what its threads and its miss buffer hold is discarded, every queue pair it serves enters ERROR with
no causing descriptor, its SRAM is zeroed, its threads are in RESET, and locks of its threads are listed. -/
def State.resetHive (s : State) (h : Nat) : State :=
  let qps := (s.tp.qps.filter fun p => hiveOf p.1 == h).map (·.1)
  let s := qps.foldl (fun (s : State) n =>
    let s := s.stopHandler n none
    let s := s.enterError n St.flushed
    if (s.qp n).any (·.st == .error) then s.flushRq n else s) s
  let s := (List.range 128).foldl (fun (s : State) i =>
    let t := 128 * h + i
    let x := s.thread t
    let s := x.pend.foldl (fun (s : State) a => (match a.key with | some k => s.dropRef k | none => s).endTag a.tag) s
    let s := (s.endTag x.tag).finishPacket t
    s.setThread t { st := .reset, nextAcc := x.nextAcc }) s
  let s := { s with
    fg := { s.fg with sram := mset s.fg.sram h [], cycles := mset s.fg.cycles h 0, waiting := s.fg.waiting.filter fun w => w.1 != h }
    tp := { s.tp with miss := mset s.tp.miss h 0 } }
  settle ((s.wr Reg.TPT_MISS_STATUS_OCCUPANCY 0 h).orphan fun x => decide (0x800 + 128 * h ≤ x ∧ x < 0x800 + 128 * (h + 1)))

/-- R436: ROUTE: packets in the crossbar, and those that it has taken in at their inputs, are discarded; the router, the EID table, the
routing sets, the owner token and the egress scheduling are reset. The links hear that the device has left (R248). -/
def State.resetRoute (s : State) : State :=
  let old := s
  let inside := s.ports.flatMap fun p => p.2.egress.flatMap (·.2) ++ (p.2.lanes.flatMap (·.2)).filter (·.checked)
  let s := inside.foldl (fun (s : State) x => (s.endTag x.tag).returnCredit x.port x.pkt) s
  let s := { s with
    ports := s.ports.map fun (p : Nat × Port) => (p.1, { p.2 with
      lanes := p.2.lanes.map fun (l : Nat × List InPkt) => (l.1, l.2.filter fun x => !x.checked)
      egress := [], deficit := [], groupPtr := [], serving := [], gateBase := 0, gateCycle := 0, gateLen := 0, gateGuard := 81, gatePendAt := 0 })
    rt := { keeper := s.rt.keeper, mgmtIn := s.rt.mgmtIn, delivered := s.rt.delivered }
    sc := { cycle := s.root / 5 }
    tp := { s.tp with qps := s.tp.qps.map fun (p : Nat × Qp) => (p.1, { p.2 with throttled := [] }) } }
  (((s.resetRegs 0x1000000 0x2000000).resetRegs 0x3800000 0x3C00000).dropOwner.judgeAll).announce old

/-- R187: SWARM: every frond and its staging go; outstanding collectives of members complete FLUSHED. -/
def State.resetSwarm (s : State) : State := settle (s.swarmReset.resetRegs 0xC00000 0x1000000).slotsShown

/-- R434 for every function, in a block reset. -/
def State.resetFunctions (s : State) : State := s.functionResets (fun _ => true) true

/-- R436: STORE: every function, the swarm, the store zeroised, the CXL ranges disabled, every native lock word free. CXL.mem accesses that waited find no
range (R438). -/
def State.resetStore (s : State) : State :=
  let s := s.resetFunctions.resetSwarm.zeroise
  let s := { s with
    km := { s.km with entries := [] }
    mt := { s.mt with posted := [], unexp := [], handlers := [] } }
  let s := (List.range 8).foldl (fun (s : State) l => if s.on Reg.KEY_CXL_MAP_ENABLE l then s.wr Reg.KEY_CXL_MAP_ENABLE 0 l else s) s
  ((s.resetRegs 0x3600000 0x3800000).matchShown 0).keyShown.cxlPump

/-- R436: HOST: every function; the registers of the block. -/
def State.resetHost (s : State) : State :=
  let s := s.resetFunctions
  let s := (s.resetRegs 0x400000 0xA00000).resetRegs 0x3400000 0x3600000
  ((s.resetRegs 0x4000000 0x4200000).ctxShown.keyShown).xlShown

/-- A block reset of a unit (R409, R431, R436): one of a unit in block reset has no further effect. Sources that it raises do
not reset that unit again. -/
def State.blockReset (s : State) (u : Nat) : State :=
  if 83 < u ∨ s.bt.inReset ∨ s.ft.units.contains u then s
  else
    let before := s.ft.reactions.length
    let s := { s with ft := { s.ft with units := s.ft.units ++ [u] } }.voidNonce.wr Reg.BOOT_RESET_CTRL_BUSY 1
    let s := if u < 72 then s.resetPort u else if u < 80 then s.resetHive (u - 72) else if u = 80 then s.resetRoute
      else if u = 81 then s.resetSwarm else if u = 82 then s.resetStore else s.resetHost
    { s with ft := { s.ft with reactions := s.ft.reactions.zipIdx.map fun r =>
        if before ≤ r.2 ∧ resetUnit r.1.source = some u then { r.1 with suppress := true } else r.1 } }

/-- R436: a unit runs again; the keeper reloads a hive's code, of which it has a copy once a release runs (R353), and starts its
threads. -/
def execBlockResetComplete (unit : Nat) (s : State) : Host.Outcome State Fault Refusal := s.clocked <|
  if !s.ft.units.contains unit then ok s
  else
    let s := { s with ft := { s.ft with units := s.ft.units.erase unit } }
    let s := s.wr Reg.BOOT_RESET_CTRL_BUSY (flag (!s.ft.units.isEmpty) 1)
    ok (if 72 ≤ unit ∧ unit < 80 ∧ s.firmwareRuns then s.startHive (unit - 72) else s)

end Sys2Proof.Machine
end

