-- ==== Sys2Proof/Machine/React.lean ====
section
/-! DEFINITION. The reactions of event sources, ALIVE, SMBus notifies, and sources that the outside raises (R402, R407 to
R413). -/

namespace Sys2Proof.Machine

/-- Send a fault interrupt; one that cannot be sent is counted (R411). -/
def State.faultInt (s : State) (k : Nat) : State :=
  let (s, sent) := s.msix (256 * s.rd Reg.EVT_SRC_CFG_LINK k) (s.rd Reg.EVT_SRC_CFG_VECTOR k)
  if sent then s else s.sat Reg.FLT_CTRL_MSI_LOST 1

/-- Queue an SMBus Host Notify: the first of the list is on the bus, up to 16 wait; when a 17th is due, the oldest waiting
one becomes 0xFFFF (R412). -/
def State.notify (s : State) (word : Nat) : State :=
  match s.ft.notifies with
  | [] => { s with ft := { s.ft with notifies := [word] } }.emit (.smbusNotify word)
  | a :: l =>
    { s with ft := { s.ft with notifies := if l.length < 16 then a :: l ++ [word] else a :: 0xFFFF :: l.tail } }

/-- R412: a transfer ends and the next one starts. -/
def execHostNotifySent (s : State) : Host.Outcome State Fault Refusal :=
  match s.ft.notifies with
  | [] => ok s
  | _ :: l =>
    let s := { s with ft := { s.ft with notifies := l } }
    ok (match l with
      | [] => s
      | w :: _ => s.emit (.smbusNotify w))

/-- Send the EVENT packet of a source to the owner: back along the claim's path, or by coordinates to its EID (R224, R225,
R410). Its SEQ is a free value. Before the device has joined, no packet is injected (R226). -/
def State.forwardEvent (s : State) (r : Reaction) : State :=
  if s.rt.token.isNone ∨ (!s.on Reg.RTE_MGMT_JOINED ∧ s.rt.ownerPath ≠ [127]) then s
  else
    let n := s.freeVal % 65536
    let s := s.takeFree
    let path := s.rt.ownerPath
    let directed := !path.isEmpty
    let body : MgmtHeader := { mop := 9, seq := n, directed := directed, hopCount := path.length, outHops := path }
    let net : NetHeader := { kind := 2, vl := s.rd Reg.RTE_MGMT_MGMT_VL, detoursLeft := s.rd Reg.RTE_ADAPT_MAX_DETOURS 1, srcEid := s.mgmtEid }
    let payload := beBytes 2 r.source ++ List.replicate 6 (0 : Byte) ++ beBytes 8 r.due
    if path = [127] then
      s.emit (.manager (Packet.toBytes { net := net, body := .mgmt { body with hopCount := 0, outHops := [] }, payload := payload }))
    else if directed then s.sendMgmt { net := net, body := .mgmt body, payload := payload }
    else match s.eidLookup s.rt.ownerEid with
      | some (coord, _, _) => (s.eidMet s.rt.ownerEid).sendMgmt { net := { net with destCoord := coord }, body := .mgmt body, payload := payload }
      | none => s.eidMet s.rt.ownerEid

/-- AER registers of a host link. -/
def State.aerOf (s : State) (l : Nat) : Aer := mgetD s.bt.aer l {}

/-- A host link records an internal error in its AER status and sends the message that its mask and severity select (R412). -/
def State.aerReport (s : State) (corrected : Bool) (l : Nat) : State :=
  let a := s.aerOf l
  let b := if corrected then { a with corrected := true } else { a with uncorrectable := true }
  let masked := if corrected then a.maskCorrected else a.maskUncorrectable
  let s := { s with bt := { s.bt with aer := mset s.bt.aer l b } }
  if masked ∨ s.bt.linkUp / 2 ^ l % 2 = 0 then s else s.emit (.aer l (if corrected then 0 else if a.fatal then 2 else 1))

/-- Step 2 of R408 for one firing: the report to keeper firmware (R410), then INT, NMI, the EXT reactions, FM. -/
def State.react (s : State) (r : Reaction) : State :=
  let k := r.source
  let cls := (classOf k).getD 0
  let s := s.emit (.report k)
  let s := if s.on Reg.EVT_SRC_CFG_INT k then s.faultInt k else s
  let s := if s.on Reg.EVT_SRC_CFG_NMI k then s.emit .nmi else s
  let s := if s.on Reg.EVT_SRC_CFG_EXT_ALIVE k then s.aliveCheck else s
  let s := if s.on Reg.EVT_SRC_CFG_EXT_PCIE k then (List.range 8).foldl (fun (s : State) l => s.aerReport (cls == 0) l) s else s
  let s := if s.on Reg.EVT_SRC_CFG_EXT_SMBUS k then s.notify k else s
  if s.on Reg.EVT_SRC_CFG_FM k then s.forwardEvent r else s

/-- Insert a firing: by the time at which it became due, then by its source (R408). -/
def insertDue (x : Reaction) : List Reaction → List Reaction
  | [] => [x]
  | y :: l => if x.due < y.due ∨ (x.due = y.due ∧ x.source < y.source) then x :: y :: l else y :: insertDue x l

/-- R408, R409: the reactions that wait are sent in order; then block resets start together; a chip reset starts last and
alone. -/
def execReactionDispatch (s : State) : Host.Outcome State Fault Refusal := s.clocked <|
  let l := s.ft.reactions.foldl (fun l x => insertDue x l) []
  let s := { s with ft := { s.ft with reactions := [] } }
  let s := l.foldl State.react s
  if l.any fun r => s.on Reg.EVT_SRC_CFG_CHIP_RESET r.source then ok (s.warmReset 4)
  else
    let units := l.filterMap fun r => if s.on Reg.EVT_SRC_CFG_BLOCK_RESET r.source ∧ !r.suppress then resetUnit r.source else none
    ok (units.foldl State.blockReset s)

/-- R413: a half period of the ALIVE square wave ends. -/
def execAliveEdge (s : State) : Host.Outcome State Fault Refusal :=
  if s.on Reg.FLT_ALIVE_TOGGLING ∧ !s.ft.rootLost then ok (s.setAlive !s.ft.aliveLevel) else ok s

/-- R411: software unmasks a vector; a message that was held is sent. -/
def execMsixVectorUnmask (fn : Nat) (vec : Nat) (s : State) : Host.Outcome State Fault Refusal := s.atPins <|
  if 2048 ≤ fn ∨ 2048 ≤ vec ∨ s.bt.inReset then ok s
  else
    let f := s.func fn
    let v := mgetD f.vectors vec {}
    let s := s.setFunc fn { f with vectors := mset f.vectors vec { v with masked := false, pending := false } }
    ok (if v.pending then (s.msix fn vec).1 else s)

/-- R402: a store stack stops answering its controller. -/
def execStackFail (st : Nat) (s : State) : Host.Outcome State Fault Refusal := s.clocked <|
  if 4 ≤ st ∨ s.bt.inReset then ok s else ok (s.raise (0x240 + 16 * st + 2) 0)

/-- R402: an uncorrected error in a keeper core. -/
def execKeeperCoreError (core : Nat) (s : State) : Host.Outcome State Fault Refusal := s.clocked <|
  if 4 ≤ core ∨ s.bt.inReset then ok s else ok (s.raise (0x010 + core) 0)

/-- R402: a store stack raises its refresh rate for temperature. -/
def execStoreTempHigh (st : Nat) (temp : Nat) (s : State) : Host.Outcome State Fault Refusal := s.clocked <|
  if 4 ≤ st ∨ s.bt.inReset then ok s else ok (s.raise (0x240 + 16 * st + 3) temp)

/-! ### Clocks (R32, R33) -/

/-- R32: a 10 µs window of the REFCLK_B monitor ends, with an offset in 0.1 ppm. Being out of tolerance is a lasting cause
(R404). -/
def execRefbMonitorWindow (offset : Int) (absent : Bool) (s : State) : Host.Outcome State Fault Refusal := s.clocked <|
  if s.bt.inReset then ok s
  else
    let s := if absent then s else s.wr Reg.GLB_CLK_STATUS_REFB_OFFSET (ofInt 16 (max (-32768) (min 32767 offset)))
    if absent ∨ offset < -1000 ∨ 1000 < offset then
      let s := (s.wr Reg.GLB_CLK_STATUS_REFB_OK 0).wr Reg.GLB_CLK_STATUS_REFB_BAD_SEEN 1
      if s.isActive 1 then ok s else ok ((s.setActive 1 true).raise 1 (s.rd Reg.GLB_CLK_STATUS_REFB_OFFSET))
    else ok ((s.wr Reg.GLB_CLK_STATUS_REFB_OK 1).setActive 1 false)

/-- R33: the root PLL loses lock: every derived clock stops and state is held. -/
def execRootUnlock (s : State) : Host.Outcome State Fault Refusal :=
  if s.bt.inReset ∨ s.ft.rootLost then ok s
  else ok (({ s with ft := { s.ft with rootLost := true } }.wr Reg.GLB_CLK_STATUS_ROOT_LOCK 0).wr Reg.GLB_CLK_STATUS_ROOT_UNLOCK_SEEN 1)

/-- R33: lock returns, the clocks run again, and the clock fault is raised; a warm chip reset that waited for them runs. -/
def execRootRelock (s : State) : Host.Outcome State Fault Refusal :=
  if !s.ft.rootLost then ok s
  else
    let s := { s with ft := { s.ft with rootLost := false } }.wr Reg.GLB_CLK_STATUS_ROOT_LOCK 1
    ok (if s.bt.inReset then (if s.bootable then s.boot else s) else s.raise 0)

/-- Ports 36 to 71 whose transmitters are in use. -/
def State.refbPorts (s : State) : List Nat :=
  ((List.range 72).drop 36).filter fun p => decide (s.rd Reg.LNK_STATUS_STATE p = 1 ∨ s.rd Reg.LNK_STATUS_STATE p = 2)

/-- R33: REFCLK_B stops: the transmitters of ports 36 to 71 stop. -/
def execRefclkBStop (s : State) : Host.Outcome State Fault Refusal :=
  if s.ft.refbStop then ok s
  else ok (s.refbPorts.foldl (fun (s : State) p => s.emit (.transmit p false)) { s with ft := { s.ft with refbStop := true } })

/-- REFCLK_B runs again: those transmitters run again. -/
def execRefclkBRestore (s : State) : Host.Outcome State Fault Refusal :=
  if !s.ft.refbStop then ok s
  else ok (s.refbPorts.foldl (fun (s : State) p => s.emit (.transmit p true)) { s with ft := { s.ft with refbStop := false } })

end Sys2Proof.Machine
end

