-- ==== Sys2Proof/Machine/RegRules.lean ====
section
/-! DEFINITION. What a register write may change: where a register is held for a requester, who may write it, the merge of
a write field by field, and the rules that relate fields (R6, R11, R14, R473 to R479, R482, and the rules of each chapter). -/

namespace Sys2Proof.Machine

/-! ### Where a register is (R473, R474, R489) -/

/-- The function whose registers a requester sees in BAR0: its own, or function 0 of host link 0 for the other requesters
(log entry 33). -/
def Requester.fn : Requester → Nat
  | .host f => f
  | .bar4 f => f
  | _ => 0

/-- The requester is a virtual function. -/
def Requester.isVf : Requester → Bool
  | .host f => f % 256 != 0
  | .bar4 f => f % 256 != 0
  | _ => false

/-- The address at which the register of an aligned offset is held. -/
def homeOf (req : Requester) (off : Nat) : Option Nat :=
  let fn := Requester.fn req
  if Requester.isVf req then (if off < 32 then some (0x4000000 + 32 * fn + off) else none)
  else if 0x400000 ≤ off ∧ off < 0x400020 then some (0x4000000 + 32 * fn + (off - 0x400000))
  else if 0x801000 ≤ off ∧ off < 0x801800 then some (0x4100000 + 8 * (fn / 256 * 256) + (off - 0x801000))
  else if 0xA01000 ≤ off ∧ off < 0xA01800 then some (0x4200000 + 8 * (fn / 256 * 256) + (off - 0xA01000))
  else if off < 0x4000000 then some off else none

/-- The register array that holds an address. -/
def specOf (a : Nat) : Option RegSpec :=
  (regsAt a).find? fun r => decide (r.base ≤ a) &&
    (let d := a - r.base
     let i := d / r.s1
     let e := d - r.s1 * i
     if r.n1 = 1 then
       (if r.n2 = 1 then d == 0 else d % r.s2 == 0 && decide (d / r.s2 < r.n2))
     else decide (i < r.n1) && (if r.n2 = 1 then e == 0 else e % r.s2 == 0 && decide (e / r.s2 < r.n2)))

/-- The grant slot and view offset of an offset that lies in a counter view which the requester may see (R489). -/
def State.viewOf (s : State) (req : Requester) (off : Nat) : Option (Nat × Nat) :=
  let fn := Requester.fn req
  if Requester.isVf req then
    (if 0x80000 ≤ off ∧ off < 0xC0000 then
      let k := 32 * (fn / 256) + (off - 0x80000) / 0x2000
      if s.rd Reg.CTR_GRANT_FUNCTION k = fn then some (k, (off - 0x80000) % 0x2000) else none
    else none)
  else if 0x3E00000 ≤ off ∧ off < 0x4000000 then
    let k := (off - 0x3E00000) / 0x2000
    if s.rd Reg.CTR_GRANT_FUNCTION k / 256 = fn / 256 then some (k, (off - 0x3E00000) % 0x2000) else none
  else none

/-! ### Who may write (R373, R477) -/

/-- The source code of a requester at the lock unit (R371). -/
def sourceCode : Requester → Nat
  | .host f => f
  | .bar4 f => f
  | .keeper c => 0xC00 + c % 4
  | .smbus => 0xFFF
  | .thread t => 0x800 + t

/-- A lock word's group admits the requester (R373). -/
def State.lockAdmits (s : State) (g : Nat) (req : Requester) : Bool :=
  match req with
  | .host f => s.on Reg.LCK_GROUP_A_HOST_EN g && s.funcTest g f
  | .thread t => s.threadAdmitted g t
  | _ => true

/-- The physical function has write access under GLB_ADMIN. -/
def State.adminLink (s : State) (fn : Nat) : Bool := s.rd Reg.GLB_ADMIN_WRITE_LINKS / 2 ^ (fn / 256) % 2 == 1

/-- A CTR_CFG word that the physical function of a link may write without GLB_ADMIN (R477). -/
def ownFilter (link : Nat) (w : Word) : Bool := (bits w 20 2 == 1 || bits w 20 2 == 2) && bits w 22 11 / 256 == link

/-- The requester may write the register at an address (R444, R467, R477); `w` is the word that the write would give the register, in its
range or not. -/
def State.mayWrite (s : State) (req : Requester) (a : Nat) (w : Word) : Bool :=
  match req with
  | .host fn =>
    if 0x4000000 ≤ a then true
    else if 0x1100 ≤ a ∧ a < 0x1118 then fn == 0 && s.adminLink 0
    else if 0x3610000 ≤ a ∧ a < 0x3618000 then true
    else if 0x3C03000 ≤ a ∧ a < 0x3C03800 then (a - 0x3C03000) / 8 / 32 == fn / 256
    else if 0x3C00000 ≤ a ∧ a < 0x3C01000 then
      s.adminLink fn || ((a - 0x3C00000) / 8 / 64 == fn / 256 && ownFilter (fn / 256) (s.reg (a + 0x1000) 0))
    else if 0x3C01000 ≤ a ∧ a < 0x3C02000 then
      s.adminLink fn || ((a - 0x3C01000) / 8 / 64 == fn / 256 && ownFilter (fn / 256) w)
    else s.adminLink fn
  | .bar4 _ => false
  | .smbus => decide (a < 0x400000)
  | _ => true

/-! ### The merge of a write (R6, R11, R14, R475, R479) -/

/-- Bits of `a` that are not bits of `b`. -/
def andNot (a b : Nat) : Nat := a - (a &&& b)

/-- The value of a field after a write: what it holds, the bits written and the mask of the bits that the write covers. -/
def FieldSpec.next (f : FieldSpec) (old new mask : Nat) : Nat :=
  match f.acc with
  | .rw | .rwl => andNot old mask ||| (new &&& mask)
  | .w1c => andNot old (new &&& mask)
  | .w1s => old ||| (new &&& mask)
  | .ro | .wo | .rc => old

/-- The word that a write spells, in range or not. -/
def FieldSpec.raw (f : FieldSpec) (new mask x : Word) : Word :=
  putBits x f.lo f.w (f.next (bits x f.lo f.w) (bits new f.lo f.w) (bits mask f.lo f.w))

/-- A value lies in the range of a field. -/
def FieldSpec.legal (f : FieldSpec) (v : Nat) : Bool := (decide (f.mn ≤ v) && decide (v ≤ f.mx)) || (f.zok && v == 0)

/-- Merge one field into a word; the flag says that its range was broken. -/
def FieldSpec.merge (f : FieldSpec) (new mask : Word) (x : Word × Bool) : Word × Bool :=
  let old := bits x.1 f.lo f.w
  let v := f.next old (bits new f.lo f.w) (bits mask f.lo f.w)
  if v = old then x
  else if (f.acc == .rw || f.acc == .rwl) && !f.legal v then (x.1, true)
  else (putBits x.1 f.lo f.w v, x.2)

/-- The fields that a write may change now: locked ones, and reserved places of an array's last member, are left out (R14,
R22, R479), and so are a reserved number's configuration (R403) and FLT_INJECT outside factory test mode (R416). -/
def State.openFields (s : State) (a : Nat) (l : List FieldSpec) : List FieldSpec :=
  if a = 568 then l.filter (·.lo != 0)
  else if 0x101000 ≤ a ∧ a < 0x103000 ∧ (s.on Reg.FLT_CTRL_LOCK ∨ (classOf ((a - 0x101000) / 8)).isNone) then []
  else if a = 0x100208 ∧ !(s.factory && s.on Reg.FLT_CTRL_INJECT_EN) then []
  else if a = 1536 ∧ s.on Reg.GLB_ADMIN_LOCK then l.filter (·.lo != 0)
  else if a = 0x3000100 ∧ s.on Reg.FGR_HANDLER_POLICY_LOCK then l.filter (·.lo != 0)
  else if 0x3000108 ≤ a ∧ a < 0x3000138 ∧ s.on Reg.FGR_HANDLER_POLICY_LOCK then []
  else l

/-! ### Rules that relate fields -/

/-- The scope and attribution of a counter event (R483): whether a unit lies in its scope, and 0 for no filter, 1 for a
function, 2 for a function and domain. -/
def eventSpec (ev unit : Nat) : Option (Bool × Nat) :=
  let dev (k : Nat) : Option (Bool × Nat) := some (true, k)
  let upTo (n k : Nat) : Option (Bool × Nat) := some (decide (unit < n) || unit == 255, k)
  if ev < 4 then dev 0
  else if 0x40 ≤ ev ∧ ev < 0x44 then upTo 144 0
  else if 0x80 ≤ ev ∧ ev ≤ 0x90 then upTo 72 0
  else if 0xC0 ≤ ev ∧ ev ≤ 0xC6 then some (decide (unit < 72) || unit == 254 || unit == 255, 0)
  else if ev = 0xC7 then dev 2
  else if ev = 0xC8 then dev 0
  else if 0xC9 ≤ ev ∧ ev ≤ 0xCC then dev 2
  else if ev = 0xCD ∨ ev = 0xCE then upTo 72 0
  else if 0x100 ≤ ev ∧ ev ≤ 0x103 then upTo 8 2
  else if 0x104 ≤ ev ∧ ev ≤ 0x107 then dev 2
  else if 0x108 ≤ ev ∧ ev ≤ 0x10A then upTo 8 2
  else if 0x140 ≤ ev ∧ ev ≤ 0x144 then dev 0
  else if 0x180 ≤ ev ∧ ev ≤ 0x183 then upTo 4 0
  else if ev = 0x184 ∨ ev = 0x185 then dev 2
  else if 0x186 ≤ ev ∧ ev ≤ 0x189 then dev 0
  else if ev = 0x18A ∨ ev = 0x18B then upTo 22 0
  else if ev = 0x1C0 ∨ ev = 0x1C1 then upTo 8 2
  else if 0x1C2 ≤ ev ∧ ev ≤ 0x1CA then dev 2
  else if 0x1CB ≤ ev ∧ ev ≤ 0x1CD then dev 1
  else if 0x1CE ≤ ev ∧ ev ≤ 0x1D0 then dev 2
  else none

/-- A CTR_CFG word passes R482. -/
def counterOk (w : Word) : Bool :=
  match eventSpec (bits w 2 10) (bits w 12 8) with
  | some (u, k) => u && decide (bits w 20 2 ≤ k)
  | none => false

/-- The cells of the eight lanes of a port after a write of one of its two registers (R245). -/
def State.laneSum (s : State) (a p : Nat) (cand : Word) : Nat :=
  let other := s.reg (if a % 16 = 8 then a + 8 else a - 8) (Reg.LNK_VL_CELLS_LO_CELLS0).rst
  let sum (w : Word) : Nat := bits w 0 13 + bits w 16 13 + bits w 32 13 + bits w 48 13
  if p < 72 then sum cand + sum other else 0

/-- A CXL range breaks R107: it leaves the partition, enabled or not, or is enabled and meets an enabled range of another
link. -/
def State.cxlBad (s : State) (l : Nat) (w : Word) : Bool :=
  let size := ((s.partsOf 7).head?.map fun p => (s.partOf p).2 / 2 ^ 30).getD 0
  decide (size < bits w 8 8 + bits w 16 8) || bit w 0 && (List.range 8).any fun k => k != l && s.on Reg.KEY_CXL_MAP_ENABLE k
    && overlap (bits w 8 8) (bits w 16 8) (s.rd Reg.KEY_CXL_MAP_BASE_GIB k) (s.rd Reg.KEY_CXL_MAP_SIZE_GIB k)

/-- A compatibility range lies wholly in a NEAR_NETWORK partition (R379). -/
def State.compatOk (s : State) (base limit : Nat) : Bool :=
  decide (base ≤ limit) && s.inUse 6 (base * 4096) ((limit - base + 1) * 4096)

/-- MIRROR_OUT may serve (R41). -/
def State.mirrorOk (s : State) (w : Word) : Bool := bits w 51 7 != bits w 40 7 && !s.portInUse (bits w 51 7)

/-- The staging partition and the slots of a SWM_CONFIG word give less than 1 MiB per slot (R163). -/
def State.slotsBad (s : State) (w : Word) : Bool :=
  s.rd Reg.GLB_STORE_PART_USE (bits w 4 4) == 4 && decide ((s.partOf (bits w 4 4)).2 / bits w 16 13 < 2 ^ 20)

/-- The retransmit span in µs: the time from the first send of a packet to the end of its last interval (R76, R79). -/
def retxSpan (base retries : Nat) : Nat := base * (2 ^ (retries + 1) - 1)

/-- The retransmit span in force. -/
def State.span (s : State) : Nat := retxSpan (s.rd Reg.TPT_RETX_BASE_US) (s.rd Reg.TPT_RETX_MAX_RETRIES)

/-- Fields, by lowest bit, that keep their values because a rule between fields or registers is broken (R6 and the rules
of each chapter): the registers of the GLB to SWM blocks. R61 has only an IDLE_MS value judged against the retransmit span and the hold
time: a write of TPT_RETX or TPT_RESULT_HOLD that makes the present IDLE_MS too short is accepted (log entry 56). -/
def State.vetoLow (s : State) (a : Nat) (old cand : Word) : List Nat :=
  if a = 832 then
    (if bit old 0 then [16, 32] else []) ++ (if bit old 1 then [40, 51, 48, 58] else [])
      ++ (if bit cand 1 && !bit old 1 && !s.mirrorOk cand then [1] else [])
  else if 0x101000 ≤ a ∧ a < 0x103000 then
    let k := (a - 0x101000) / 8
    (if (resetUnit k).isNone then [2] else []) ++ (if classOf k = some 2 then [] else [4])
  else if a = 0x200000 then
    (if bits cand 16 10 < bits cand 0 10 then [0, 16] else []) ++ (if bits cand 40 8 < bits cand 32 8 then [32, 40] else [])
  else if a = 0x400100 then (if s.rd Reg.TPT_RESULT_HOLD_HOLD_US < retxSpan (bits cand 0 16) (bits cand 16 3) then [0, 16] else [])
  else if a = 0x400108 then (if bits cand 0 17 < s.span then [0] else [])
  else if a = 0x400118 then (if bits cand 0 16 * 1000 < s.span + s.rd Reg.TPT_RESULT_HOLD_HOLD_US then [0] else [])
  else if 0x800100 ≤ a ∧ a < 0x800140 then (if s.cxlBad ((a - 0x800100) / 8) cand then [0, 8, 16] else [])
  else if a = 0xA00000 then (if s.useBytes 2 < 2 ^ (9 + bits cand 0 5) + 64 then [0] else [])
  else if a = 0xA00008 then (if s.useBytes 3 < bits cand 0 26 * 1024 then [0] else [])
  else if a = 0xC00000 then
    (if bits cand 8 3 = bits cand 12 3 then [8, 12] else [])
      ++ (if bit old 0 then [4, 16]
        else if s.slotsBad cand then 4 :: 16 :: (if s.slotsBad (putBits (putBits cand 4 4 (bits old 4 4)) 16 13 (bits old 16 13)) then [0] else []) else [])
  else []

/-- The registers of the RTE to CTR blocks. -/
def State.vetoHigh (s : State) (a : Nat) (old cand : Word) : List Nat :=
  if a = 0x1000018 then (if bits cand 0 13 ≤ bits cand 16 12 then [0, 16] else [])
  else if 0x1001000 ≤ a ∧ a < 0x1002000 then
    (if s.on Reg.RTE_SWAP_PENDING || s.on Reg.RTE_SWAP_BUSY then List.range 64 else [])
  else if 0x2000000 ≤ a ∧ a < 0x2480000 then
    let p := (a - 0x2000000) / 0x10000
    let r := a % 0x10000
    if r = 0 then
      (if bit cand 0 && (s.on Reg.LAN_PAT_CFG_GEN_MODE p 0 || s.on Reg.LAN_PAT_CFG_GEN_MODE p 1 || s.on Reg.LAN_PAT_CFG_CHK_MODE p 0
          || s.on Reg.LAN_PAT_CFG_CHK_MODE p 1 || s.rd Reg.LAN_PORT_CFG_LOOP p == 3) then [0] else [])
    else if r = 8 ∨ r = 16 then (if 4096 < s.laneSum a p cand then [0, 16, 32, 48] else [])
    else if r = 0x108 then (if bits cand 0 20 < bits cand 20 20 then [0, 20] else [])
    else []
  else if 0x2810000 ≤ a ∧ a < 0x2858000 then
    let p := (a - 0x2810000) / 0x1000
    let r := a % 0x1000
    let up := s.on Reg.LNK_CFG_ENABLE p
    if r = 0 then (if up then [0, 4, 6, 9] else [])
    else if r = 0x100 ∨ r = 0x180 then (if up || !laneWordOk cand then List.range 64 else [])
    else if r = 0x118 ∨ r = 0x198 then
      let bad := up || !(decide (s.rd Reg.LAN_PORT_CFG_RATE p < 2))
      (if bad && bits cand 0 3 != 0 then [0] else []) ++ (if bad && bits cand 4 3 != 0 then [4] else [])
    else []
  else if 0x3601700 ≤ a ∧ a < 0x3601780 then
    let n := (a - 0x3601700) / 16
    if a % 16 = 0 then
      (if bit old 0 && bit cand 0 && !s.compatOk (bits cand 12 25) (s.rd Reg.LCK_COMPAT_LIMIT_PAGE n) then [12] else [])
    else
      (if s.on Reg.LCK_COMPAT_BASE_ENABLE n && !s.compatOk (s.rd Reg.LCK_COMPAT_BASE_PAGE n) (bits cand 12 25) then [12] else [])
  else if 0x3900000 ≤ a ∧ a < 0x3990000 then
    let p := (a - 0x3900000) / 0x2000
    let r := a % 0x2000
    if s.on Reg.SCH_GATE_CTRL_PENDING p then
      (if r = 0x28 then [16] else if r = 0x30 ∨ r = 0x38 ∨ (0x400 ≤ r ∧ r < 0xC00) then List.range 64 else [])
    else []
  else if 0x3C01000 ≤ a ∧ a < 0x3C02000 then (if counterOk cand then [] else List.range 64)
  else if a = 0x3C02008 then (if bit old 0 then (List.range 64).filter (· != 0) else [])
  else if 0x3C03000 ≤ a ∧ a < 0x3C03800 then
    let k := (a - 0x3C03000) / 8
    if bits cand 19 11 / 256 = k / 32 then []
    else if bits cand 19 11 ≠ bits old 19 11 then List.range 64 else [0]
  else []

/-- All rules between fields. -/
def State.veto (s : State) (a : Nat) (old cand : Word) : List Nat :=
  if a < 0x1000000 then s.vetoLow a old cand else s.vetoHigh a old cand

/-- The enable bits of a register (R6, R35). -/
def enables (a : Nat) : List Nat :=
  if a = 832 ∨ a = 0x3800018 then [0, 1]
  else if (0x800100 ≤ a ∧ a < 0x800140) ∨ a = 0xC00000 ∨ a = 0x3C02008
      ∨ (0x2000000 ≤ a ∧ a < 0x2480000 ∧ (a % 0x10000 = 0 ∨ a % 0x10000 = 0x100))
      ∨ (0x3900000 ≤ a ∧ a < 0x3990000 ∧ a % 0x2000 = 0x28) ∨ (0x3600000 ≤ a ∧ a < 0x3600800 ∧ a % 32 = 16)
      ∨ (0x3601700 ≤ a ∧ a < 0x3601780 ∧ a % 16 = 0) ∨ (0x3401000 ≤ a ∧ a < 0x3405000)
      ∨ (0x3C01000 ≤ a ∧ a < 0x3C02000) ∨ (0x3C03000 ≤ a ∧ a < 0x3C03800) then [0]
  else []

/-- The registers that their chapter declares checked as a whole (R278, R482). -/
def wholeChecked (a : Nat) : Bool :=
  (decide (0x2810000 ≤ a) && decide (a < 0x2858000) && (a % 0x1000 == 0x100 || a % 0x1000 == 0x180))
    || (decide (0x3C01000 ≤ a) && decide (a < 0x3C02000))

/-- Put the fields that a list names back to what they held; the flag says that one of them had changed. -/
def revert (l : List FieldSpec) (los : List Nat) (old cand : Word) : Word × Bool :=
  (l.filter fun f => los.contains f.lo).foldl (fun (x : Word × Bool) f =>
    if bits cand f.lo f.w = bits old f.lo f.w then x else (putBits x.1 f.lo f.w (bits old f.lo f.w), true)) (cand, false)

/-- The word that a register would hold after a write, and whether the write is rejected in part or whole (R6). -/
def State.candidate (s : State) (a : Nat) (r : RegSpec) (old new mask : Word) : Word × Bool :=
  let l := s.openFields a r.fields
  let (c, bad1) := l.foldl (fun x f => f.merge new mask x) (old, false)
  let bad2 := (enables a).filter fun e => bit c e && !bit old e
    && l.any fun f => f.acc == .rw && decide (1 < f.w) && !f.legal (bits c f.lo f.w)
  let (c, b3) := revert l (bad2 ++ s.veto a old c) old c
  let b4 := decide (0x2810000 ≤ a) && decide (a < 0x2858000) && wholeChecked a && bits (new &&& mask) 61 3 != 0
  let bad := bad1 || b3 || b4
  if bad && wholeChecked a then (old, true) else (c, bad)

end Sys2Proof.Machine
end

