-- ==== Sys2Proof/Machine/Sched.lean ====
section
/-! DEFINITION. Scheduling: owners of shared resources, time gates, the egress scheduler, fabric time, the comb arbiters (R34 to
R37, R298 to R312). -/

namespace Sys2Proof.Machine

/-! ### Owners of shared resources (R34 to R37) -/

/-- The owner code of a port's egress gate timer. -/
def State.gateOwner (s : State) (p : Nat) : Nat := s.rd (subFld Reg.GLB_GATE_OWNER_PORT_OWNER (p % 24) 2) (p / 24)

/-- Set it. -/
def State.setGateOwner (s : State) (p v : Nat) : State := s.wr (subFld Reg.GLB_GATE_OWNER_PORT_OWNER (p % 24) 2) v (p / 24)

/-! ### Time gates (R301 to R304) -/

/-- Entry `e` of a port's operational list: mask and interval. -/
def State.gateEntryOf (s : State) (p e : Nat) : Nat × Nat := (s.rd Reg.SCH_GATE_OPER_MASK p e, s.rd Reg.SCH_GATE_OPER_INTERVAL_NS p e)

/-- The entry in force at an offset within the cycle: its number, mask, and the time until it ends. The last entry holds until
the cycle ends, and the list is cut there (R301). -/
def walkGate (cycle off : Nat) : Nat → Nat → List (Nat × Nat) → Nat × Nat × Nat
  | e, _, [] => (e, 255, cycle - off)
  | e, at0, [(m, _)] => (e, m, if at0 ≤ off then cycle - off else 0)
  | e, at0, (m, i) :: l => if off < min cycle (at0 + i) then (e, m, min cycle (at0 + i) - off) else walkGate cycle off (e + 1) (at0 + i) l

/-- Entry `e` of a port's admin list. -/
def State.adminEntryOf (s : State) (p e : Nat) : Nat × Nat := (s.rd Reg.SCH_GATE_ADMIN_MASK p e, s.rd Reg.SCH_GATE_ADMIN_INTERVAL_NS p e)

/-- The entries of the admin list. -/
def State.adminList (s : State) (p : Nat) : List (Nat × Nat) := (List.range (s.rd Reg.SCH_GATE_CYCLE_LEN_M1 p + 1)).map (s.adminEntryOf p)

/-- The place of a time within a list that starts at `base`. -/
def listAt (base cycle : Nat) (l : List (Nat × Nat)) (t : Nat) : Nat × Nat × Nat :=
  let cycle := max 1 cycle
  walkGate cycle (((t : Int) - (base : Int)) % (cycle : Int)).toNat 0 0 l

/-- The entry of the operational list in force at a fabric time. -/
def State.gateAt (s : State) (p t : Nat) : Nat × Nat × Nat :=
  let y := s.port p
  listAt y.gateBase y.gateCycle ((List.range y.gateLen).map (s.gateEntryOf p)) t

/-- An accepted list governs from this fabric time on (R303). -/
def State.listDue (s : State) (p : Nat) : Option Nat := if s.on Reg.SCH_GATE_CTRL_PENDING p then some (s.port p).gatePendAt else none

/-- The mask of a port's gates at a fabric time and for how long it holds: by the accepted list from its start on, by the operational
one before that, and open where there is none (R301 to R303). -/
def State.maskAt (s : State) (p t : Nat) : Nat × Nat :=
  let cut := match s.listDue p with
    | some d => if t < d then some (d - t) else none
    | none => none
  let g := if (s.listDue p).any (fun d => decide (d ≤ t)) then (listAt (s.rd Reg.SCH_GATE_BASE_BASE p) (s.rd Reg.SCH_GATE_CYCLE_CYCLE_NS p) (s.adminList p) t).2
    else if s.on Reg.SCH_GATE_STATUS_ACTIVE p then (s.gateAt p t).2
    else (255, 10 ^ 10)
  (g.1, match cut with | some c => min c g.2 | none => g.2)

/-- Gates are in force on a port: enabled, with an operational list, or an accepted one to come. -/
def State.gated (s : State) (p : Nat) : Bool :=
  s.on Reg.SCH_GATE_CTRL_ENABLE p && (s.on Reg.SCH_GATE_STATUS_ACTIVE p || s.on Reg.SCH_GATE_CTRL_PENDING p)

/-- The guard band in force: that of the operational list, else the one that is set (R302). -/
def State.guardOf (s : State) (p : Nat) : Nat :=
  if s.on Reg.SCH_GATE_STATUS_ACTIVE p ∧ !(s.listDue p).any (fun d => decide (d ≤ s.time)) then (s.port p).gateGuard
  else s.rd Reg.SCH_GATE_CTRL_GUARD_NS p

/-- The gate of a lane is open from a time on for a number of nanoseconds. -/
def State.openFor (s : State) (p v : Nat) : Nat → Nat → Nat → Bool
  | 0, _, _ => false
  | f + 1, t, need =>
    let g := s.maskAt p t
    g.1 / 2 ^ v % 2 == 1 && (decide (need ≤ g.2) || s.openFor p v f (t + g.2) (need - g.2))

/-- A packet of a lane may start: its gate stays open for the guard band (R302). -/
def State.gateLets (s : State) (p v : Nat) : Bool := !s.gated p || s.openFor p v 10002 s.time (s.guardOf p)

/-- The gate's level on TIMEPULSE while the pin is the gate-debug output (R300). -/
def State.gateDebug (s : State) (p : Nat) : State :=
  if s.on Reg.SCH_PULSE_CFG_DEBUG_OUT ∧ s.rd Reg.GLB_RES_OWNER_TIMEPULSE = 2 ∧ s.rd Reg.SCH_PULSE_CFG_OUT_PORT = p then
    s.emit (.gateDebug (!s.gated p || (s.maskAt p s.time).1 / 2 ^ s.rd Reg.SCH_PULSE_CFG_OUT_LANE % 2 == 1))
  else s

/-- The current entry is shown. -/
def State.gateShown (s : State) (p : Nat) : State :=
  (if s.on Reg.SCH_GATE_STATUS_ACTIVE p then s.wr Reg.SCH_GATE_STATUS_ENTRY (s.gateAt p s.time).1 p else s).gateDebug p

/-- R303: the admin list passes: its fields lie in range, and every lane has an entry that opens it for more than GUARD_NS. -/
def State.adminOk (s : State) (p : Nat) : Bool :=
  let l := s.adminList p
  let cycle := s.rd Reg.SCH_GATE_CYCLE_CYCLE_NS p
  let guard := s.rd Reg.SCH_GATE_CTRL_GUARD_NS p
  decide (1000 ≤ cycle ∧ cycle ≤ 1000000000 ∧ guard ≤ 10000) && (l.all fun e => decide (1 ≤ e.2 ∧ e.2 ≤ 1000000000))
    && (List.range 8).all fun v => l.any fun e => e.1 / 2 ^ v % 2 == 1 && decide (guard < e.2)

/-- Writing SCH_GATE_CTRL.GO 1 (R303): ignored while a list waits; a list that passes waits for the first cycle start at or after
the later of now and BASE. -/
def State.gateGo (s : State) (p : Nat) : State :=
  if s.on Reg.SCH_GATE_CTRL_PENDING p then s
  else if !s.adminOk p then (s.wr Reg.SCH_GATE_CTRL_STATUS St.badDescriptor p).configError (Reg.SCH_GATE_CTRL_GO.addr p 0)
  else
    let base := s.rd Reg.SCH_GATE_BASE_BASE p
    let cycle := s.rd Reg.SCH_GATE_CYCLE_CYCLE_NS p
    let start := if s.time ≤ base then base else base + (s.time - base + cycle - 1) / cycle * cycle
    ((s.wr Reg.SCH_GATE_CTRL_STATUS 0 p).wr Reg.SCH_GATE_CTRL_PENDING 1 p).setPort p { s.port p with gatePendAt := start }

/-- R303: a cycle start arrives: the accepted list becomes operational. -/
def execGateListActivate (port : Nat) (s : State) : Host.Outcome State Fault Refusal := s.clocked <|
  let y := s.port port
  if s.on Reg.SCH_GATE_CTRL_PENDING port ∧ y.gatePendAt ≤ s.time then
    let n := s.rd Reg.SCH_GATE_CYCLE_LEN_M1 port + 1
    let s := (List.range n).foldl (fun (s : State) e =>
      (s.wr Reg.SCH_GATE_OPER_MASK (s.rd Reg.SCH_GATE_ADMIN_MASK port e) port e).wr Reg.SCH_GATE_OPER_INTERVAL_NS
        (s.rd Reg.SCH_GATE_ADMIN_INTERVAL_NS port e) port e) s
    let s := s.setPort port { y with gateBase := s.rd Reg.SCH_GATE_BASE_BASE port, gateCycle := s.rd Reg.SCH_GATE_CYCLE_CYCLE_NS port,
                                     gateLen := n, gateGuard := s.rd Reg.SCH_GATE_CTRL_GUARD_NS port }
    ok ((((s.wr Reg.SCH_GATE_CTRL_PENDING 0 port).wr Reg.SCH_GATE_STATUS_ACTIVE 1 port).sat Reg.SCH_GATE_STATUS_SWAPS 1 port).gateShown port)
  else ok s

/-- R301: an entry's interval ends: the list moves to its next entry or cycle, by fabric time as it stands (R304). -/
def execGateEntryAdvance (port : Nat) (s : State) : Host.Outcome State Fault Refusal := s.clocked <| ok (s.gateShown port)

/-! ### The egress scheduler (R305) -/

/-- The mirror copy that waits at crossbar port 95 for an output lane, where it competes like any packet (R41). -/
def State.mirrorHead (s : State) (p v : Nat) : Option InPkt :=
  match s.rt.mirrored with
  | some (q, r) => if q = p ∧ r.vl = v then some { port := 95, pkt := Packet.ofBytes r.bytes r.stomped, cells := r.cells, raw := some r.bytes } else none
  | none => none

/-- The head packet of an egress lane. The mirror's port goes first in its lane: which input does, the spec does not say (DESIGN
CHOICE, log entry 49). -/
def State.egressHead (s : State) (p v : Nat) : Option InPkt := s.mirrorHead p v <|> (mgetD (s.port p).egress v []).head?

/-- Quantum and group of a lane. -/
def State.quantum (s : State) (p v : Nat) : Nat := s.rd (laneFld Reg.SCH_EG_QUANTUM_LO_Q0 v) p
def State.laneGroup (s : State) (p v : Nat) : Nat := s.rd (subFld Reg.SCH_EG_GROUP_G0 v 2) p

/-- The lanes of a group whose head packet has credit, replay space and an open gate, which a failover resend that link exercise mode
held does not need (R304). -/
def State.readyLanes (s : State) (p g : Nat) : List Nat :=
  (List.range 8).filter fun v => s.laneGroup p v == g &&
    match s.egressHead p v with
    | some x => s.maySend p v x.cells true && ((x.raw.isSome && x.port != 95) || s.gateLets p v)
    | none => false

/-- Deficit round robin over the eligible lanes of a group: the lane served. -/
def drr (cells : Nat → Nat) (quantum : Nat → Nat) (e : List Nat) (g : Nat) : Nat → Port → Port × Option Nat
  | 0, y => (y, none)
  | f + 1, y =>
    let ptr := mgetD y.groupPtr g 0
    match (e.filter (ptr ≤ ·) ++ e.filter (· < ptr)).head? with
    | none => (y, none)
    | some v =>
      let d := mgetD y.deficit v 0 + (if mget y.serving g = some v then 0 else quantum v)
      if cells v ≤ d then
        ({ y with deficit := mset y.deficit v (d - cells v), groupPtr := mset y.groupPtr g v, serving := mset y.serving g v }, some v)
      else
        drr cells quantum e g f { y with deficit := mset y.deficit v d, groupPtr := mset y.groupPtr g ((v + 1) % 8), serving := mdel y.serving g }

/-- The lane that the scheduler chooses: groups in strict priority (R305). -/
def State.pickLane (s : State) (p : Nat) : State × Option Nat :=
  match (List.range 4).find? fun g => !(s.readyLanes p g).isEmpty with
  | none => (s, none)
  | some g =>
    let cells := fun v => match s.egressHead p v with | some x => x.cells | none => 0
    let r := drr cells (s.quantum p) (s.readyLanes p g) g 600 (s.port p)
    (s.setPort p r.1, r.2)

/-- The bytes of a packet as it leaves a port: PHASE 1 through a descending output, the detour taken off DETOURS_LEFT, and a
version 1 header where the link runs WLP 1 (R194, R196, R198, R212). A partner descends where the port it stands for does (R216). -/
def State.leaving (s : State) (p : Nat) (x : InPkt) : List Byte :=
  let n := x.pkt.net
  let n := { n with phase := n.phase || s.descends 1 (s.rowOf p), detoursLeft := if x.detour then n.detoursLeft - 1 else n.detoursLeft }
  let n := if s.rd Reg.LNK_STATUS_VERSION p = 1 then { n with version := 1, colour := 0, detoursLeft := 0, phase := false } else n
  x.raw.getD (Packet.toBytes { x.pkt with net := n })

/-- A packet is taken from the head of its egress lane; an empty lane's deficit is 0 (R305). -/
def State.popEgress (s : State) (p v : Nat) : State :=
  let y := s.port p
  let copy := (s.mirrorHead p v).isSome
  let l := if copy then mgetD y.egress v [] else (mgetD y.egress v []).drop 1
  let s := if copy then { s with rt := { s.rt with mirrored := none } } else s
  s.setPort p { y with egress := mset y.egress v l, deficit := if l.isEmpty then mset y.deficit v 0 else y.deficit
                       serving := if l.isEmpty then y.serving.filter (·.2 != v) else y.serving }

/-- Link exercise mode may hold the packet for reordering: ORDERED 0, neither swarm nor management (R260). -/
def reorderable (x : InPkt) : Bool := !x.pkt.net.ordered && x.pkt.net.kind == 0

/-- A packet is handed to the link: exercise mode may drop it or hold it back once; a swarm packet never leaves on a version 1 link
(R250); any other takes its LSN. It lets the packets held of its lane go. Its cells are returned, but for a stomped copy, which R242
leaves to its arrival, and its sample ends (R242, R260, R485). -/
def State.handOver (s : State) (p v : Nat) (x : InPkt) : State :=
  let gone := fun (s : State) => (if x.pkt.stomped then s else s.returnCredit x.port x.pkt).endTag x.tag
  if x.pkt.net.kind = 1 ∧ s.rd Reg.LNK_STATUS_VERSION p = 1 then
    gone (if x.raw.isSome then s.sat Reg.GLB_SPARE_XBAR_STATUS_MIRROR_DROPPED 1 else s.swarmStray)
  else
    let drop := if x.passed then (s, false) else s.exDraw p Reg.LNK_EXER_CFG_DROP_LOG2
    if drop.2 then gone ((drop.1.sat Reg.LNK_EXER_COUNT_DROPPED 1 p).releaseHeld p (some v))
    else
      let hold := if x.passed ∨ !reorderable x then (drop.1, false) else drop.1.exDraw p Reg.LNK_EXER_CFG_REORDER_LOG2
      let s := hold.1
      if hold.2 then
        let s := (s.sat Reg.LNK_EXER_COUNT_REORDERED 1 p).releaseHeld p (some v)
        let y := s.port p
        s.setPort p { y with exHeld := y.exHeld ++ [{ x with passed := true }] }
      else
        let s := if x.detour then s.tally Reg.RTE_DETOURS_DETOURS 0x0C6 (inputUnit x.port) else s
        let b := s.leaving p x
        let s := if x.port = 95 then s.sendFirst p v x.cells b x.pkt.stomped else s.sendNew p v x.cells b x.pkt.stomped
        gone ((((s.stamp x.tag 2).stamp x.tag 3).tagPort x.tag p).releaseHeld p (some v))

/-- The head packet of a lane is handed to the link. -/
def State.handToLink (s : State) (p v : Nat) (x : InPkt) : State := (s.popEgress p v).handOver p v x

/-- A packet that a failed partner handed over is handed to the link, its bytes unchanged (R254, R260). -/
def State.sendHanded (s : State) (p : Nat) (r : Replay) : State :=
  s.handOver p r.vl { port := 127, pkt := Packet.ofBytes r.bytes r.stomped, cells := r.cells, raw := some r.bytes }

/-- A port that has nothing to send sends IDLE (R227). -/
def State.idle (s : State) (p : Nat) : State := s.sendControl p 0 []

/-- The packet that an up port sends at a packet boundary: a replay, a failover resend, or the one that the scheduler chooses; IDLE
where none may start. A quiesced link starts no new packet (R23). -/
def State.nextPacketOut (s : State) (port : Nat) : State :=
  let y := s.port port
  match y.resend.findSome? fun l => y.replay.find? (·.lsn == l) with
  | some r =>
    if s.maySend port r.vl r.cells false then
      ((s.setPort port { y with resend := y.resend.filter (· != r.lsn) }).bufferMet port).sendReplay port r
    else s.idle port
  | none =>
    if !s.admits 1 then s.idle port
    else match y.handed with
    | r :: l => if s.maySend port r.vl r.cells true then (s.setPort port { y with handed := l }).sendHanded port r else s.idle port
    | [] =>
      let r := (s.mirrorFits port).pickLane port
      match r.2.bind fun v => (r.1.egressHead port v).map fun x => (v, x) with
      | some (v, x) => r.1.handToLink port v x
      | none => r.1.idle port

/-- What a transmitting port sends next: the link-control block that waits first in order, else a packet; a port in training sends blocks
only (R227, R280). -/
def State.egressStep (s : State) (p : Nat) : State :=
  match (s.port p).nextControl with
  | some x => s.controlLeaves p x
  | none => if s.portUp p then s.nextPacketOut p else s.idle p

/-- The port sends on until the next markers have left; IDLE only where nothing else waits (R227, R267). -/
def State.toMarker : Nat → State → Nat → State
  | 0, s, p => s.idleToMarker p
  | f + 1, s, p =>
    let t := s.egressStep p
    if (t.port p).sinceMark < (s.port p).sinceMark then t else State.toMarker f t p

/-- R267, R269: the stream reaches the place of the next markers, of which each lane inserts its own: what has not been sent of it is
sent now (log entry 49). -/
def execAlignmentMarkerInsert (port : Nat) (s : State) : Host.Outcome State Fault Refusal := s.clocked <|
  if s.receiving port ∧ s.admits 0 ∧ !s.stopped port then ok (State.toMarker 8200 s port) else ok s

/-- R305: at a packet boundary a port sends the next link-control block that waits, else a packet; a port in training sends blocks
only (R227, R280). A quiesced lane layer, and a transmitter whose clock has stopped, take nothing (R23, R33). -/
def execEgressSelect (port : Nat) (s : State) : Host.Outcome State Fault Refusal := s.clocked <|
  if !s.admits 0 ∨ s.stopped port then ok s
  else if !s.portUp port ∧ s.rd Reg.LNK_STATUS_STATE port ≠ 1 then ok s
  else ok (s.egressStep port)

/-! ### Packets that arrive on a link (R230, R235) -/

/-- R230: the copy of a packet, forwarded cut-through, had begun to leave before the packet's CRC failed or showed it stomped, and
ends stomped. A copy can have begun where no packet stands before it: its input lane is empty, its output sends neither a replay
nor another packet and has it chosen at once. Where it cannot, nothing is forwarded. -/
def State.passOn (s : State) (port v c : Nat) (b : List Byte) : State :=
  let p := Packet.ofBytes b false
  if s.misfit port p ∨ !s.admits 1 ∨ !s.admits 2 ∨ !(mgetD (s.port port).lanes v []).isEmpty then s
  else
    let x := s.entering port v c p
    match s.arrival x with
    | .route q fixed =>
      let r := s.samplePacket { x with pkt := { q with stomped := true }, checked := true }
      let x := r.2
      let t := r.1.stamp x.tag 5
      let t := if fixed then t.tally Reg.RTE_COUNT_PHASE_FIXED 0x0C5 (inputUnit port) else t
      let h := t.choose x
      match h.2 with
      | none => s
      | some cd =>
        let t := h.1
        let y := t.port cd.out
        if !t.portUp cd.out ∨ !t.admits 0 ∨ t.stopped cd.out ∨ !y.ctrl.isEmpty ∨ !y.resend.isEmpty ∨ !y.handed.isEmpty
            ∨ t.rt.mirrored.any (·.1 == cd.out) ∨ !(mgetD y.egress v []).isEmpty then s
        else
          let x := { x with detour := cd.detour }
          let k := ((t.stamp x.tag 1).toEgress cd.out x).pickLane cd.out
          if k.2 = some v then k.1.handToLink cd.out v x else s
    | _ => s

/-- A packet arrives on a link whose stream is parsed (R235, R269); a copy of one that fails its CRC or is stomped may have been forwarded (R230). A violation
that takes the link down leaves nothing to NAK (R252). -/
def State.frameIn (s : State) (port : Nat) (f : LinkFrame) : State :=
  let h := f.header
  let len := beAt h 4 2
  let v := at_ h 0 % 8
  let c := (len + 63) / 64
  let crc := crcLink (h ++ f.bytes)
  let whole := f.errored.isEmpty && h.length == 8 && f.bytes.length == len
  let good := whole && f.crc == crc
  let stomped := whole && f.crc == ~~~crc
  let legal := decide (at_ h 0 / 8 = 2 ∧ 16 ≤ len ∧ len ≤ 4160 ∧ at_ h 6 % 128 = 0 ∧ at_ h 7 = 0)
  let cap := slice (h ++ f.bytes) 0 32
  let up := s.portUp port
  let lsn := beAt h 1 3
  let expect := s.rd Reg.LNK_RX_EXPECT_LSN port
  let d := (lsn + 2 ^ 24 - expect) % 2 ^ 24
  let nak := fun (s : State) => if s.portUp port then s.linkNak port else s
  let s := s.syncBad port f.errored
  if !up ∨ !s.parses port then s
  else if !good ∧ !stomped then
    let s := if f.begun ∧ h.length = 8 ∧ f.bytes.length = len ∧ legal ∧ d = 0 ∧ c ≤ (s.port port).free v then s.passOn port v c f.bytes else s
    nak (s.tally Reg.LNK_ERR_CRC_BAD 0x084 port none 1 port)
  else
    let s := if stomped then s.tally Reg.LNK_ERR_STOMPED 0x088 port none 1 port else s
    if !legal then nak (if good then s.violation port 8 cap else s)
    else
      let s := (s.mirror port 1 f.bytes stomped).count 0x082 port
      let s := s.count 0x083 port c
      let s := if good ∧ bitAt h 6 7 then s.wr Reg.LNK_RX_NAK_ARMED 1 port else s
      let outside := decide (2048 ≤ d ∧ d < 2 ^ 23)
      if (s.port port).free v < c then nak (s.violation port (if outside then 6 else 7) cap)
      else
        if d = 0 then
          let s := (s.wr Reg.LNK_RX_EXPECT_LSN (expect + 1) port).wr Reg.LNK_RX_NAK_ARMED 1 port
          if stomped then (if f.begun then s.passOn port v c f.bytes else s).creditDue port v c else s.accept port v c f.bytes cap
        else
          let s := s.creditDue port v c
          if d < 2048 then nak (s.tally Reg.LNK_ERR_DUPLICATES 0x086 port none 1 port)
          else if outside then s.violation port 6 cap
          else s.tally Reg.LNK_ERR_DUPLICATES 0x086 port none 1 port

/-- R235: a packet arrives on a link; on a NEAR loop it is the one that the port sent, on a FAR loop it goes out again (R285). -/
def execLinkPacketReceive (port : Nat) (f : LinkFrame) (s : State) : Host.Outcome State Fault Refusal := s.atPins <|
  match s.arrives port (.frame port f.header f.bytes f.crc) (.frame f) fun x => match x with | .frame _ => true | _ => false with
  | (s, some (.frame g)) => ok (s.frameIn port g)
  | (s, _) => ok s

/-! ### Fabric time (R298 to R300) -/

/-- The slew for a total offset (R299): it is gained or lost over one SYNC_US, at no more than 100 ppm, 1 ns in 10,000. -/
def State.paceFor (s : State) (total : Int) : Int :=
  if total = 0 then 0
  else
    let d : Int := (max 10000 (1000 * s.rd Reg.SCH_TIME_CFG_SYNC_US / total.natAbs) : Nat)
    if 0 < total then d else -d

/-- The servo acts on an offset (R299): what is left of the last slew carries over. After a step the gates take their positions
again (R304). -/
def State.servo (s : State) (th : Int) : State :=
  let lim : Int := 2 ^ 31 - 1
  let s := s.wr Reg.SCH_TIME_STATUS_OFFSET_NS (ofInt 32 (max (-lim) (min lim th)))
  if (s.rd Reg.SCH_TIME_CFG_STEP_NS : Int) < th.natAbs then
    let s := { s with time := ofInt 64 (s.time + th), sc := { s.sc with good := 0, slew := 0, pace := 0 } }
    let s := (s.wr Reg.SCH_TIME_STATUS_STEP_SEEN 1).wr Reg.SCH_TIME_STATUS_LOCKED 0
    let s := (List.range 72).foldl State.gateShown s
    (s.sat Reg.SCH_TIME_STATUS_STEPS 1).raise 0x004 (ofInt 32 th)
  else
    let good := if th.natAbs ≤ 5 then s.sc.good + 1 else 0
    let s := { s with sc := { s.sc with good := good, slew := s.sc.slew + th, pace := s.paceFor (s.sc.slew + th) } }
    if 20 < th.natAbs then s.wr Reg.SCH_TIME_STATUS_LOCKED 0
    else if 8 ≤ good then s.wr Reg.SCH_TIME_STATUS_LOCKED 1
    else s

/-- R298, R299: a child's exchange period passes: four periods without a response end the lock, and the next request goes out on
the parent port. -/
def execTimeSyncTimer (s : State) : Host.Outcome State Fault Refusal := s.clocked <|
  if s.rd Reg.SCH_TIME_CFG_ROLE ≠ 1 then ok s
  else
    let silent := if s.sc.syncOut.isSome then s.sc.silent + 1 else 0
    let s := if silent = 4 then ({ s with sc := { s.sc with good := 0 } }.wr Reg.SCH_TIME_STATUS_LOCKED 0).wr Reg.SCH_TIME_STATUS_NO_RESPONSE_SEEN 1
      else s
    let seq := (s.sc.syncSeq + 1) % 65536
    let s := { s with sc := { s.sc with silent := silent, syncSeq := seq, syncOut := some (seq, s.time) } }
    let p := s.rd Reg.SCH_TIME_CFG_PARENT_PORT
    if s.portUp p ∧ s.rd Reg.LNK_STATUS_VERSION p = 2 then
      ok (s.control p 4 ([0] ++ beBytes 2 seq ++ beBytes 8 s.time))
    else ok s

/-- R298: a TIME request arrives and is answered at once. -/
def execTimeRequest (port : Nat) (b : List Byte) (s : State) : Host.Outcome State Fault Refusal := s.atPins <|
  if bitAt b 1 7 then ok s
  else ok (s.blockIn port 4 b fun b s => s.onBlock port 4 b (s.portUp port) (fun _ => none) fun s =>
    s.control port 4 ([128] ++ slice b 2 2 ++ beBytes 8 s.time ++ beBytes 8 s.time ++ slice b 4 8))

/-- R298, R299: a TIME response arrives; one that does not match the outstanding request is discarded. Half a nanosecond is
rounded down (log entry 30). -/
def execTimeResponse (port : Nat) (b : List Byte) (s : State) : Host.Outcome State Fault Refusal := s.atPins <|
  if !bitAt b 1 7 then ok s
  else ok (s.blockIn port 4 b fun b s => s.onBlock port 4 b (s.portUp port) (fun _ => none) fun s =>
    match s.sc.syncOut with
    | some (seq, t1) =>
      if s.rd Reg.SCH_TIME_CFG_ROLE = 1 ∧ s.rd Reg.SCH_TIME_CFG_PARENT_PORT = port ∧ beAt b 2 2 = seq then
        let t2 : Int := (beAt b 12 8 : Nat)
        let t3 : Int := (beAt b 4 8 : Nat)
        let asym : Int := toSigned 16 (s.rd Reg.SCH_TIME_ASYM_ASYM_NS port)
        { s with sc := { s.sc with syncOut := none, silent := 0 } }.servo (((t2 - (t1 : Int)) + (t3 - (s.time : Int)) - asym) / 2)
      else s
    | none => s)

/-- R300: a rising edge of TIMEPULSE marks a whole second; a ROOT_PULSE device takes the difference to its own nearest one. -/
def execTimepulseEdge (s : State) : Host.Outcome State Fault Refusal := s.atPins <|
  if s.rd Reg.SCH_TIME_CFG_ROLE = 2 ∧ s.rd Reg.GLB_RES_OWNER_TIMEPULSE = 1 ∧ s.on Reg.SCH_PULSE_CFG_PULSE_IN then
    let r := s.time % 1000000000
    ok (s.servo (if r < 500000000 then -(r : Int) else (1000000000 - r : Nat)))
  else ok s

/-! ### The comb arbiters (R306 to R311) -/

/-- Requesters of an arbiter (R306); 0 for no arbiter. -/
def arbSize (u : Nat) : Nat :=
  if u < 4 then 21 else if u = 4 then 17 else if u < 13 then 17 else if u < 21 then 9 else if u = 21 then 17 else 0

/-- The lottery LFSR after so many steps: x^32 + x^31 + x^29 + x + 1 (R307). -/
def lotterySteps : Nat → Nat → Nat
  | 0, x => x
  | n + 1, x => lotterySteps n (lfsr [31, 30, 28, 0] x)

/-- A 32-bit word rotated left. -/
def rotl32 (x u : Nat) : Nat := x % 2 ^ 32 * 2 ^ (u % 32) % 2 ^ 32 + x % 2 ^ 32 / 2 ^ (32 - u % 32)

/-- The requester whose range holds `x`, ranges laid end to end (R307). -/
def drawTicket : List (Nat × Nat) → Nat → Option Nat
  | [], _ => none
  | (r, n) :: l, x => if x < n then some r else drawTicket l (x - n)

/-- The class winner among the candidates: the highest class, round robin from its pointer (R308). -/
def classWinner (cls : Nat → Nat) (ptr : Map Nat) (c : List Nat) : Option (Nat × Nat) :=
  (List.range 4).findSome? fun k =>
    let l := c.filter fun r => cls r == k
    let p := mgetD ptr k 0
    (l.filter (p ≤ ·) ++ l.filter (· < p)).head?.map fun r => (k, r)

/-- The oldest request; equal ages go to the lower number (R310). -/
def oldest (reqs : List (Nat × Nat)) : Option Nat :=
  (reqs.foldl (fun (a : Option (Nat × Nat)) x =>
    match a with
    | none => some x
    | some y => if x.2 < y.2 ∨ (x.2 = y.2 ∧ x.1 < y.1) then some x else a) none).map (·.1)

/-- R307 to R311: an arbiter decides in a comb cycle among the pending requests, each with the cycle in which it was first raised:
by lottery, by class, or, for every N-th grant, for the oldest request. -/
def execArbiterDecision (u : Nat) (cycle : Nat) (reqs : List (Nat × Nat)) (s : State) : Host.Outcome State Fault Refusal := s.clocked <|
  let s := { s with sc := { s.sc with lottery := lotterySteps (cycle - s.sc.cycle) s.sc.lottery, cycle := max cycle s.sc.cycle } }
  let a := mgetD s.sc.arbs u {}
  let reqs := reqs.filter fun x => x.1 < arbSize u
  let cands := (reqs.map (·.1)).eraseDups.filter fun r => !(mgetD a.reqs r {}).backoff
  let cands := (List.range (arbSize u)).filter cands.contains
  let tickets := cands.map fun r => (r, s.rd Reg.SCH_ARB_REQ_TICKETS u r)
  let total := (tickets.map (·.2)).sum
  let forced := (a.grants + 1) % max 1 (s.rd Reg.SCH_ARB_CFG_N u) = 0
  let byClass := classWinner (fun r => s.rd Reg.SCH_ARB_REQ_CLASS u r) a.ptr cands
  let lottery := s.rd Reg.SCH_ARB_CFG_MODE u = 0 ∧ total ≠ 0
  let winner := if forced then oldest reqs
    else if lottery then drawTicket tickets (rotl32 s.sc.lottery u * total / 2 ^ 32)
    else byClass.map (·.2)
  match winner with
  | none => ok s
  | some w =>
    let lose := fun (m : Map ArbReq) r => if r = w then m else mset m r { losses := min 11 ((mgetD m r {}).losses + 1), backoff := true }
    let a := { a with grants := a.grants + 1, reqs := mset (cands.foldl lose a.reqs) w {}
                      ptr := if forced ∨ lottery then a.ptr else match byClass with | some (k, r) => mset a.ptr k (r + 1) | none => a.ptr }
    let s := { s with sc := { s.sc with arbs := mset s.sc.arbs u a } }
    let waited := cycle - ((reqs.find? (·.1 == w)).map (·.2)).getD cycle
    let s := (s.high Reg.SCH_ARB_REQ_WAIT_MAX waited u w).count 0x18A u
    ok (if forced then s.tally Reg.SCH_ARB_CFG_FORCED 0x18B u none 1 u else s)

/-- R309: a requester's backoff ends. -/
def execBackoffExpiry (u : Nat) (r : Nat) (s : State) : Host.Outcome State Fault Refusal := s.clocked <|
  let a := mgetD s.sc.arbs u {}
  ok { s with sc := { s.sc with arbs := mset s.sc.arbs u { a with reqs := mmod a.reqs r fun x => { x with backoff := false } } } }

end Sys2Proof.Machine
end

