-- ==== Sys2Proof/Machine/RegAccess.lean ====
section
/-! DEFINITION. Register accesses: what a write does beyond its fields, what a read shows and clears, and the commands that
are writes of one register (R23, R34 to R41, R473 to R489 and the rules of each chapter). -/

namespace Sys2Proof.Machine

/-! ### Shared resources (R34 to R37) -/

/-- Claim a resource for a feature (R35): the owner after, and whether the claim succeeds. -/
def claimOwner (owner code : Nat) : Nat × Bool := if owner = 0 ∨ owner = code then (code, true) else (owner, false)

/-- The outcome of a claim: STATUS and the enable bit, or STATUS CONFLICT and the configuration error. -/
def State.claimed (s : State) (good : Bool) (en st : Fld) (a i : Nat) : State :=
  if good then (s.wr st St.success i).wr en 1 i else (s.wr st St.conflict i).configError a St.conflict

/-- A feature of a shared resource is switched by a write of its enable bit. -/
def State.claimSpare (s : State) (en : Fld) (code : Nat) (was want : Bool) : State :=
  if want = was then s
  else if !want then s.wr en 0
  else
    let r := claimOwner (s.rd Reg.GLB_RES_OWNER_SPARE_XBAR) code
    ((if r.2 then s.wr Reg.GLB_RES_OWNER_SPARE_XBAR r.1 else s).claimed r.2 en Reg.GLB_SPARE_XBAR_CTRL_STATUS 832 0)

/-- TIMEPULSE (R300). -/
def State.claimPulse (s : State) (en : Fld) (code : Nat) (was want : Bool) : State :=
  if want = was then s
  else if !want then s.wr en 0
  else
    let r := claimOwner (s.rd Reg.GLB_RES_OWNER_TIMEPULSE) code
    ((if r.2 then s.wr Reg.GLB_RES_OWNER_TIMEPULSE r.1 else s).claimed r.2 en Reg.SCH_PULSE_CFG_STATUS 0x3800018 0)

/-- The gate timer of a port for time gates (R303). -/
def State.gateSwitch (s : State) (p : Nat) (was want : Bool) : State :=
  if want = was then s
  else if !want then (s.wr Reg.SCH_GATE_CTRL_ENABLE 0 p).gateShown p
  else
    let r := claimOwner (s.gateOwner p) 1
    ((if r.2 then s.setGateOwner p r.1 else s).claimed r.2 Reg.SCH_GATE_CTRL_ENABLE Reg.SCH_GATE_CTRL_STATUS
      (Reg.SCH_GATE_CTRL_ENABLE.addr p 0) p).gateShown p

/-- Link exercise mode (R259, R260). -/
def State.exerciseSwitch (s : State) (p : Nat) (was want : Bool) : State :=
  if want = was then s
  else if !want then (s.wr Reg.LNK_EXER_CFG_ENABLE 0 p).releaseHeld p
  else if !s.on Reg.RTE_MGMT_OWNED then
    (s.wr Reg.LNK_EXER_CFG_STATUS St.invalidState p).configError (Reg.LNK_EXER_CFG_ENABLE.addr p 0)
  else
    let r := claimOwner (s.gateOwner p) 2
    let s := if r.2 then (s.setGateOwner p r.1).setPort p { s.port p with exLfsr := s.rd Reg.LNK_EXER_SEED_SEED p } else s
    s.claimed r.2 Reg.LNK_EXER_CFG_ENABLE Reg.LNK_EXER_CFG_STATUS (Reg.LNK_EXER_CFG_ENABLE.addr p 0) p

/-- The swarm claims its staging partition (R163, R35). -/
def State.swarmSwitch (s : State) (was want : Bool) : State :=
  if want = was then s
  else if !want then s.wr Reg.SWM_CONFIG_ENABLE 0
  else
    let n := s.rd Reg.SWM_CONFIG_PARTITION
    if s.rd Reg.GLB_STORE_PART_SIZE_GIB n ≠ 0 ∧ s.rd Reg.GLB_STORE_PART_USE n = 4 then s.wr Reg.SWM_CONFIG_ENABLE 1
    else s.configError 0xC00000 St.conflict

/-- The sampler claims its ring and draws its first intervals, or stops and drops its tags (R484 to R486). -/
def State.samplerSwitch (s : State) (was want : Bool) : State :=
  if want = was then s
  else if !want then { s with ctr := { s.ctr with tags := [] } }.tagsShown.wr Reg.CTR_SAMPLE_CFG_ENABLE 0
  else
    let n := s.rd Reg.CTR_SAMPLE_CFG_PARTITION
    let good := s.rd Reg.GLB_STORE_PART_SIZE_GIB n != 0 && s.rd Reg.GLB_STORE_PART_USE n == 8
    let s := s.claimed good Reg.CTR_SAMPLE_CFG_ENABLE Reg.CTR_SAMPLE_STATUS_CLAIM_STATUS 0x3C02008 0
    if good then (s.drawInterval false).drawInterval true else s

/-- A compatibility range is enabled inside a NEAR_NETWORK partition (R379). -/
def State.compatSwitch (s : State) (n : Nat) (was want : Bool) : State :=
  if want = was then s
  else if !want then s.wr Reg.LCK_COMPAT_BASE_ENABLE 0 n
  else if s.compatOk (s.rd Reg.LCK_COMPAT_BASE_PAGE n) (s.rd Reg.LCK_COMPAT_LIMIT_PAGE n) then s.wr Reg.LCK_COMPAT_BASE_ENABLE 1 n
  else s.configError (Reg.LCK_COMPAT_BASE_ENABLE.addr n 0) St.conflict

/-- R37: a release returns a resource whose owner is disabled. -/
def State.resRelease (s : State) (n : Nat) : State :=
  let refuse := s.configError 800 St.conflict
  if n = 0 then
    let o := s.rd Reg.GLB_RES_OWNER_TIMEPULSE
    if (o = 1 ∧ s.on Reg.SCH_PULSE_CFG_PULSE_IN) ∨ (o = 2 ∧ s.on Reg.SCH_PULSE_CFG_DEBUG_OUT) then refuse
    else s.wr Reg.GLB_RES_OWNER_TIMEPULSE 0
  else if n = 1 then
    let o := s.rd Reg.GLB_RES_OWNER_SPARE_XBAR
    if (o = 1 ∧ s.on Reg.GLB_SPARE_XBAR_CTRL_LOOP_EN) ∨ (o = 2 ∧ s.on Reg.GLB_SPARE_XBAR_CTRL_MIRROR_EN) then refuse
    else s.wr Reg.GLB_RES_OWNER_SPARE_XBAR 0
  else if n ≤ 73 then
    let o := s.gateOwner (n - 2)
    if (o = 1 ∧ s.on Reg.SCH_GATE_CTRL_ENABLE (n - 2)) ∨ (o = 2 ∧ s.on Reg.LNK_EXER_CFG_ENABLE (n - 2)) then refuse
    else s.setGateOwner (n - 2) 0
  else s

/-! ### Locks (R376, R380) -/

/-- Count, log and report a force. -/
def State.logForce (s : State) (compat : Bool) (ident source place src info : Nat) : State :=
  let s := (s.raise 0x283 info).tally Reg.LCK_STATUS_FORCES 0x188
  if s.on Reg.LCK_FORCE_LOG0_VALID then s
    else (((((s.wr Reg.LCK_FORCE_LOG0_VALID 1).wr Reg.LCK_FORCE_LOG0_COMPAT (flag compat 1)).wr Reg.LCK_FORCE_LOG0_IDENTITY ident).wr
      Reg.LCK_FORCE_LOG0_SOURCE source).wr Reg.LCK_FORCE_LOG1_WHERE place).wr Reg.LCK_FORCE_LOG1_BY src

/-- R376: free a native word, whatever its holder. -/
def State.forceWord (s : State) (w src : Nat) : State :=
  let i := s.rd Reg.LCK_WORD_IDENTITY w
  let h := s.rd Reg.LCK_WORD_HOLDER w
  let s := (s.wr Reg.LCK_WORD_IDENTITY 0 w).wr Reg.LCK_WORD_HOLDER 0xFFF w
  let s := s.wr (subFld Reg.LCK_ORPHAN_HELD (w % 64) 1) 0 (w / 64)
  s.logForce false i h w src w

/-- R380: free a compatibility word at an aligned store address. -/
def State.forceCompat (s : State) (a src : Nat) : State :=
  if a % 8 ≠ 0 then s.configError 0x3601608
  else
    let w := ofLE (s.storeRead a 8)
    (s.commit a (leBytes 8 0)).logForce true (w % 2 ^ 16) (w / 2 ^ 16 % 2 ^ 32) a src (a / 8)

/-- R372, R373: a write of LCK_WORD_w. -/
def State.lockWordWrite (s : State) (req : Requester) (w value : Nat) : State :=
  if s.lockAdmits (w / 64) req then s.lockWrite w value (sourceCode req) else s.tally Reg.LCK_STATUS_RIGHTS_DENIED 0x187

/-! ### The commands of BOOT_RESET_CTRL and BOOT_FLASH_CMD (R430, R436, R442, R444) -/

/-- R442: raise the fused minimum SVN to that of the running release. -/
def State.svnCommit (s : State) : State :=
  let v := s.rd Reg.BOOT_STATUS_RELEASE_SVN
  if v ≤ s.bt.fuses.minSvn then s
  else { s with bt := { s.bt with fuses := { s.bt.fuses with minSvn := v } } }.wr Reg.BOOT_STATUS_FUSED_SVN v

/-- The guard value of WARM and SVN_COMMIT. -/
def resetKey : Nat := 0xD480

/-- A write of BOOT_RESET_CTRL: SVN_COMMIT, then WARM, or else BLOCK_GO on the unit that UNIT names. -/
def State.resetCtrl (s : State) (w : Word) : State :=
  let s := if bit w 10 ∧ bits w 48 16 = resetKey then s.svnCommit else s
  if bit w 8 ∧ bits w 48 16 = resetKey then s.warmReset 3
  else if bit w 7 then s.blockReset (s.rd Reg.BOOT_RESET_CTRL_UNIT) else s

/-- R444: a flash command starts while none is under way. -/
def State.flashGo (s : State) (op : Nat) : State :=
  if op = 0 then s
  else if 4 < op then s.configError 0x1110
  else if s.on Reg.BOOT_FLASH_CMD_BUSY then s
  else { s with bt := { s.bt with
      flashOp := some op, flashAddr := s.rd Reg.BOOT_FLASH_ADDR_ADDR, flashData := s.rd Reg.BOOT_FLASH_DATA_DATA } }.wr Reg.BOOT_FLASH_CMD_BUSY 1

/-! ### Crossings (R23, R24) -/

/-- A crossing still holds work that it admitted (R23): LINK a resend or what a partner handed over; ROUTE packets in the crossbar; HIVE
packets in windows and handler runs; SWARM packets at port 88; STORE and HOST the accesses that are under way. -/
def State.workHeld (s : State) (n : Nat) : Bool :=
  let access (p : Target → Bool) : Bool := s.fg.threads.any fun x => x.2.pend.any fun a => p a.target && !a.performed && !a.queued
  match n with
  | 1 => s.ports.any fun p => !p.2.resend.isEmpty || !p.2.handed.isEmpty
  | 2 => (s.ports.any fun p => p.2.egress.any fun l => !l.2.isEmpty) || s.rt.mirrored.isSome || !s.spare.inFlight.isEmpty
  | 3 => s.fg.threads.any fun x => x.2.window.isSome || x.2.run.isSome
  | 4 => !s.sw.up.isEmpty
  | 5 => (s.tp.placements.any (·.2.store)) || (s.tp.atomics.any (·.2.store)) || access (· == .store)
  | 6 => !s.tp.reads.isEmpty || (s.tp.placements.any fun p => !p.2.store) || (s.tp.atomics.any fun p => !p.2.store) || !s.xl.walks.isEmpty
      || !s.tp.writes.isEmpty || access fun t => match t with | .host _ => true | _ => false
  | _ => false

/-- QUIESCE of a crossing was written: a new quiesce starts its drain timeout, a resume ends the drain. -/
def State.quiesceSwitch (s : State) (n : Nat) (was want : Bool) : State :=
  if want = was then s
  else if want then { s with ft := { s.ft with drains := s.ft.drains.filter (· != n) ++ [n] } }
  else settle ({ s with ft := { s.ft with drains := s.ft.drains.filter (· != n) } }.wr Reg.GLB_CROSSING_CTRL_QUIESCED 0 n).pumpAll.cxlPump

/-! ### The sampler's records (R487, R489) -/

/-- The words of the record that an index names; none without a ring. -/
def State.sampleWords (s : State) (index : Nat) : Option (List Word) :=
  let (base, n) := s.sampleRing
  if n = 0 then none else some (toWords 8 (s.storeRead (base + index % n * 64) 64))

/-- R487: copy a record into CTR_SAMPLE_DATA. -/
def State.sampleCopy (s : State) (index : Nat) : State :=
  match s.sampleWords index with
  | none => s
  | some ws => (List.range 8).foldl (fun (s : State) w => s.wr Reg.CTR_SAMPLE_DATA_WORD (wordAt ws w).toNat w) s

/-- R489: an INDEX write of a slot's own view. -/
def State.viewCopy (s : State) (slot : Nat) (index : Word) : State :=
  { s with ctr := { s.ctr with views := mset s.ctr.views slot (index, (s.sampleWords index.toNat).getD []) } }

/-- A slot shows samples. -/
def State.viewSamples (s : State) (slot : Nat) : Bool := s.on Reg.CTR_GRANT_ENABLE slot && s.on Reg.CTR_GRANT_SAMPLES slot

/-- A record belongs to a slot's owner. -/
def State.ownsRecord (s : State) (slot : Nat) (ws : List Word) : Bool :=
  let w := wordAt ws 0
  bit w 11 && bits w 12 11 == s.rd Reg.CTR_GRANT_FUNCTION slot && bits w 23 16 == s.rd Reg.CTR_GRANT_PD slot

/-- What a view shows at an aligned offset (R489). -/
def State.viewRead (s : State) (slot off : Nat) : Word :=
  if off < 0x1000 then
    let w := s.reg (Reg.CTR_CFG_EVENT.addr (off / 8) 0) 0
    if bits w 20 2 = 2 ∧ bits w 22 11 = s.rd Reg.CTR_GRANT_FUNCTION slot
        ∧ bits w 33 16 = s.rd Reg.CTR_GRANT_PD slot then s.reg (Reg.CTR_COUNT_VALUE.addr (off / 8) 0) 0
    else 0
  else if !s.viewSamples slot then 0
  else
    let v := mgetD s.ctr.views slot (0, [])
    if off = 0x1000 then BitVec.ofNat 64 (s.rd Reg.CTR_SAMPLE_PROD_PROD)
    else if off = 0x1008 then v.1
    else if 0x1040 ≤ off ∧ off < 0x1080 then
      let k := (off - 0x1040) / 8
      if s.ownsRecord slot v.2 then (if k = 0 then wordAt v.2 0 ||| 2 else wordAt v.2 k)
      else if k = 1 then wordAt v.2 1 else 0
    else 0

/-! ### What a write does beyond its fields -/

/-- Fields that a write leaves to its action: enables that claim a resource, START, RETIRED, the calendar, whole lock
words. -/
def deferred (a : Nat) : List Nat :=
  if a = 832 ∨ a = 0x3800018 then [0, 1]
  else if 0x2810000 ≤ a ∧ a < 0x2858000 ∧ a % 0x1000 = 0 then [8]
  else if a = 0xC00000 ∨ a = 0x3C02008 ∨ a = 0x100210 ∨ a = 0x200038 then [0]
  else if 0x2000000 ≤ a ∧ a < 0x2480000 ∧ a % 0x10000 = 0x100 then [0]
  else if 0x3900000 ≤ a ∧ a < 0x3990000 ∧ a % 0x2000 = 0x28 then [0]
  else if 0x3601700 ≤ a ∧ a < 0x3601780 ∧ a % 16 = 0 then [0]
  else if 0x3610000 ≤ a ∧ a < 0x3618000 then [0]
  else []

/-- One write of a register: who, where, the words before, as the fields end up, and as written (with 0 outside the written
half). -/
structure Write where
  req : Requester
  addr : Nat
  old : Word
  cand : Word
  new : Word
  mask : Word
  /-- The measurement of a re-plan that a write of REPLAN starts. -/
  meas : Option Measurement := none
  deriving DecidableEq, Repr

/-- A bit of the register goes from its old value to the new one: was, want. -/
def Write.was (w : Write) (k : Nat) : Bool := bit w.old k
def Write.want (w : Write) (k : Nat) : Bool := bit w.cand k

/-- A write of a seed of `n` bits takes effect: the register holds what was written (R6). -/
def Write.takes (w : Write) (n : Nat) : Bool := bits (w.new ^^^ w.cand) 0 n == 0 && bit w.mask 0

/-- Actions of the GLB, BOOT, EVT, FLT and LCH blocks. -/
def State.actPlatform (s : State) (w : Write) : State :=
  let a := w.addr
  if 512 ≤ a ∧ a < 576 then s.quiesceSwitch ((a - 512) / 8) (w.was 0) (w.want 0)
  else if a = 800 then (if bit w.mask 0 then s.resRelease (bits w.new 0 8) else s)
  else if a = 832 then
    (s.claimSpare Reg.GLB_SPARE_XBAR_CTRL_LOOP_EN 1 (w.was 0) (w.want 0)).claimSpare Reg.GLB_SPARE_XBAR_CTRL_MIRROR_EN 2 (w.was 1) (w.want 1)
  else if a = 0x1008 then s.resetCtrl w.new
  else if a = 0x1110 then s.flashGo (bits w.new 0 3)
  else if 0x100000 ≤ a ∧ a < 0x100080 then
    let k := (a - 0x100000) / 8
    (s.wr Reg.EVT_STATUS_STATUS (s.rd Reg.EVT_STATUS_STATUS k ||| (w.old.toNat &&& s.rd Reg.EVT_ACTIVE_ACTIVE k)) k).aliveCheck
  else if 0x101000 ≤ a ∧ a < 0x103000 then s.aliveCheck
  else if a = 0x100208 then
    (if bit w.new 10 ∧ s.on Reg.FLT_CTRL_INJECT_EN ∧ s.factory then
      s.raise (s.rd Reg.FLT_INJECT_SOURCE) (s.rd Reg.FLT_INJECT_INFO) true
    else s)
  else if a = 0x100210 then (if w.want 0 then s.aliveStart else s)
  else if a = 0x200018 then
    (if bit w.new 0 then
      (match w.meas with
        | some m => s.replan m
        | none => let (s, m) := s.measure; s.replan m)
    else s)
  else if a = 0x200030 then
    let id := s.rd Reg.LCH_PROPOSAL_CMD_ID
    let s := if bit w.new 8 then s.approve id else s
    if bit w.new 9 then s.declineProposal id else s
  else if a = 0x200038 then s.calendarSet (bits w.cand 0 40)
  else s

/-- Actions of the TPT, KEY, MCH, SWM and RTE blocks. -/
def State.actHost (s : State) (w : Write) : State :=
  let a := w.addr
  if 0x4000000 ≤ a ∧ a < 0x4010000 then
    let fn := (a - 0x4000000) / 32
    if a % 32 = 0 ∧ bit w.new 16 then s.abiGo fn
    else if a % 32 = 24 ∧ bit w.new 0 then s.cmdGo fn else s
  else if a = 0xA00008 then
    (if s.rd Reg.MCH_UNEXP_POOL_KIB = s.mt.poolKib then s.wr Reg.MCH_UNEXP_PENDING 0
    else if s.mt.unexp.isEmpty then { s with mt := { s.mt with poolKib := s.rd Reg.MCH_UNEXP_POOL_KIB } }.wr Reg.MCH_UNEXP_PENDING 0
    else s.wr Reg.MCH_UNEXP_PENDING 1)
  else if a = 0xA00028 then settle (s.tp.qps.foldl (fun (s : State) p => s.drainRq p.1) s)
  else if a = 0xC00000 then (s.swarmSwitch (w.was 0) (w.want 0)).slotsShown
  else if a = 0xC00020 then
    settle (s.frondCtrl (BitVec.ofNat 64 (s.rd Reg.SWM_FROND_CTRL_GID + bits w.new 16 2 * 2 ^ 16)))
  else if a = 0x1000018 then (List.range 16).foldl State.throttleCheck s
  else if 0x1400000 ≤ a ∧ a < 0x1800000 then
    let e := (a - 0x1400000) / 4
    let s := if bit w.mask 0 then s.eidFresh e else s
    if bit w.mask 32 then s.eidFresh (e + 1) else s
  else if a = 0x1000008 then (if bit w.new 2 then s.dropOwner else s)
  else if a = 0x1000100 then
    let pend := bit w.old 2
    let s := if bit w.new 4 ∧ pend then s.wr Reg.RTE_SWAP_PENDING 0 else s
    if bit w.new 0 ∧ !pend then s.swapGo.announce s else s
  else s

/-- Actions of the LNK, LAN, SCH, XLT, ORD, LCK and CTR blocks. -/
def State.actLink (s : State) (w : Write) : State :=
  let a := w.addr
  if 0x2000000 ≤ a ∧ a < 0x2480000 then
    let p := (a - 0x2000000) / 0x10000
    if a % 0x10000 = 0 then
      (if w.was 0 && !w.want 0 then settle (s.linkOff p) else if !w.was 0 && w.want 0 then s.linkEnabled p else s)
    else if a % 0x10000 = 0x100 then s.exerciseSwitch p (w.was 0) (w.want 0) else s
  else if 0x2810000 ≤ a ∧ a < 0x2858000 then
    let p := (a - 0x2810000) / 0x1000
    let r := a % 0x1000
    if r = 0 then
      let s := if s.rd Reg.LAN_PORT_CFG_RATE p = 2 then s.lanesOff p else s
      (if w.was 8 = w.want 8 then s else settle (s.retireBySoftware p (w.want 8)))
    else if r = 0x118 ∨ r = 0x198 then
      let l := (r - 0x118) / 0x80
      let s := if bits w.old 4 3 = bits w.cand 4 3 then s else s.checkerRestart p l
      if bit w.new 8 then s.patternBurst p l else s
    else s
  else if a = 0x3800000 then (if s.on Reg.SCH_TIME_CFG_ROLE then s else { s with sc := { s.sc with slew := 0, pace := 0 } })
  else if a = 0x3800018 then
    let s := (s.claimPulse Reg.SCH_PULSE_CFG_PULSE_IN 1 (w.was 0) (w.want 0)).claimPulse Reg.SCH_PULSE_CFG_DEBUG_OUT 2 (w.was 1) (w.want 1)
    s.gateDebug (s.rd Reg.SCH_PULSE_CFG_OUT_PORT)
  else if a = 0x3800028 then
    (if w.takes 32 then
      { s with sc := { s.sc with lottery := s.rd Reg.SCH_ARB_SEED_SEED, cycle := max s.sc.cycle (s.root / 5) } } else s)
  else if 0x3900000 ≤ a ∧ a < 0x3990000 ∧ a % 0x2000 = 0x28 then
    let p := (a - 0x3900000) / 0x2000
    let s := s.gateSwitch p (w.was 0) (w.want 0)
    if bit w.new 1 then s.gateGo p else s
  else if 0x3401000 ≤ a ∧ a < 0x3405000 then settle (s.contextWritten ((a - 0x3401000) / 8))
  else if a = 0x3601600 then (if bit w.new 12 then s.forceWord (s.rd Reg.LCK_FORCE_INDEX) (sourceCode w.req) else s)
  else if a = 0x3601608 then s.forceCompat (bits w.new 0 37) (sourceCode w.req)
  else if 0x3601700 ≤ a ∧ a < 0x3601780 ∧ a % 16 = 0 then s.compatSwitch ((a - 0x3601700) / 16) (w.was 0) (w.want 0)
  else if 0x3610000 ≤ a ∧ a < 0x3618000 then (if bit w.mask 0 then s.lockWordWrite w.req ((a - 0x3610000) / 8) (bits w.new 0 16) else s)
  else if a = 0x3C02000 then
    (if bit w.new 1 then { s with regs := s.regs.filter fun p => !(decide (0x3C00000 ≤ p.1) && decide (p.1 < 0x3C01000)) } else s)
  else if a = 0x3C02008 then s.samplerSwitch (w.was 0) (w.want 0)
  else if a = 0x3C02020 then
    (if w.takes 32 then { s with ctr := { s.ctr with sampleLfsr := s.rd Reg.CTR_SAMPLE_SEED_SEED } } else s)
  else if a = 0x3C02028 then s.sampleCopy (s.rd Reg.CTR_SAMPLE_INDEX_INDEX)
  else s

/-- What a write does beyond its fields. -/
def State.act (s : State) (w : Write) : State :=
  if w.addr < 0x400000 then s.actPlatform w
  else if w.addr < 0x2000000 ∨ 0x4000000 ≤ w.addr then s.actHost w
  else s.actLink w

/-! ### Accesses (R474 to R479) -/

/-- Capture a forbidden write or a refused access while the log is free (R478). -/
def State.captureAccess (s : State) (req : Requester) (kind off size : Nat) : State :=
  if s.on Reg.GLB_ACCESS_LOG0_VALID then s
  else ((((s.wr Reg.GLB_ACCESS_LOG0_VALID 1).wr Reg.GLB_ACCESS_LOG0_KIND kind).wr Reg.GLB_ACCESS_LOG0_REQUESTER (Requester.fn req)).wr
    Reg.GLB_ACCESS_LOG1_OFFSET off).wr Reg.GLB_ACCESS_LOG1_SIZE (if 8 ≤ size then 0 else size)

/-- BAR0 accepts an access of this size at this offset: 8 or, from a host, 4 bytes, naturally aligned (R475). -/
def accessOk (req : Requester) (off size : Nat) : Bool :=
  (size == 8 && off % 8 == 0) || (size == 4 && off % 4 == 0 && match req with | .host _ => true | _ => false)

/-- The bytes of a register word that an access covers. -/
def accessMask (off size : Nat) : Word :=
  if size = 4 then (if off % 8 = 0 then 0xFFFFFFFF#64 else 0xFFFFFFFF00000000#64) else BitVec.allOnes 64

/-- The device lets a requester reach the register space: not in reset, the clocks running, a host function on a link that JTAG has not
cut off; in stage RECOVERY only the GLB block of the physical function of host link 0 (R33, R441, R447; log entry 34). -/
def State.reaches (s : State) (req : Requester) (off : Nat) : Bool :=
  !s.bt.inReset && !s.ft.rootLost && match req with
    | .host f => decide (f < 2048) && !s.bt.isolated && (s.rd Reg.BOOT_STATUS_STAGE != 15 || (f == 0 && decide (off < 0x100000)))
    | .bar4 _ => false
    | .keeper c => decide (c < 4)
    | _ => true

/-- The write of one register. -/
def State.writeAt (s : State) (req : Requester) (off size a : Nat) (new mask : Word) (meas : Option Measurement) : State :=
  match specOf a with
  | none => s
  | some r =>
    let old := s.reg a r.rst
    if !s.mayWrite req a (r.fields.foldl (fun x f => f.raw new mask x) old) then (s.sat Reg.GLB_ADMIN_DENIED 1).captureAccess req 1 off size
    else
      let (cand, bad) := s.candidate a r old new mask
      let store := (revert r.fields (deferred a) old cand).1
      let s := if store = old then s else { s with regs := mset s.regs a store }
      let s := if bad then s.configError a else s
      s.act { req := req, addr := a, old := old, cand := cand, new := new &&& mask, mask := mask, meas := meas }

/-- A register write (R473 to R479). A value of 4 bytes is given in the low half of `v`. -/
def State.regWrite (s : State) (req : Requester) (off size : Nat) (v : Word) (meas : Option Measurement := none) : State :=
  if !s.reaches req off then s
  else if !accessOk req off size then (s.captureAccess req 2 off size).emit (.unsupportedRequest req)
  else
    let mask := accessMask off size
    let new := if size = 4 ∧ off % 8 = 4 then v <<< 32 else v
    let w := off / 8 * 8
    match s.viewOf req w with
    | some (k, o) =>
      if o = 0x1008 ∧ s.viewSamples k then
        s.viewCopy k ((mgetD s.ctr.views k (0, [])).1 &&& ~~~mask ||| (new &&& mask))
      else s
    | none =>
      match homeOf req w with
      | none => s
      | some a => s.writeAt req off size a new mask meas

/-- EVT_SUMMARY as it reads now. -/
def State.evtSummary (s : State) : Nat :=
  let some1 (c : Nat) : Bool := (List.range 1024).any fun k => classOf k == some c
    && bit (s.reg (Reg.EVT_STATUS_STATUS.addr (k / 64) 0) 0) (k % 64)
  ((List.range 16).map fun k => flag (s.on Reg.EVT_STATUS_STATUS k) (2 ^ k)).sum + flag (some1 0) (2 ^ 16) + flag (some1 1) (2 ^ 17)
    + flag (some1 2) (2 ^ 18)

/-- FGR_HIVE_STATUS of a hive as it reads now. -/
def State.hiveStatus (s : State) (h : Nat) : Nat :=
  let l := (s.fg.threads.filter fun p => p.1 / 128 == h).map (·.2)
  (l.filter (·.st == .running)).length % 256 + (l.filter (·.run.isSome)).length % 128 * 2 ^ 8
    + (l.filter (·.st == .stopped)).length % 256 * 2 ^ 16
    + min 255 ((s.fg.waiting.filter fun w => hiveOf w.1 == h).length) * 2 ^ 24

/-- BOOT_STATUS as it reads now: STAGE goes on to JOINED and READY (R437). -/
def State.bootStatus (s : State) : Word :=
  let w := s.reg 0x1000 0
  if bits w 0 4 = 5 ∧ s.on Reg.RTE_MGMT_JOINED then putBits w 0 4 (if s.on Reg.SCH_TIME_STATUS_LOCKED then 7 else 6) else w

/-- Two EID-table entries as they read: one with an uncorrected error has VALID 0 (R402). -/
def State.eidShown (s : State) (e : Nat) (w : Word) : Word :=
  let w := if s.eidBad e then putBits w 31 1 0 else w
  if s.eidBad (e + 1) then putBits w 63 1 0 else w

/-- What a register reads. -/
def State.showReg (s : State) (a rst : Nat) : Word :=
  if a = 0x1000 then s.bootStatus
  else if a = 0x100100 then BitVec.ofNat 64 s.evtSummary
  else if a = 0x200010 then putBits (s.reg a rst) 48 8 s.eyeWorst
  else if a = 0xA00018 then putBits (s.reg a rst) 0 27 s.postCapacity
  else if a = 0xC00010 then putBits (s.reg a rst) 13 18 s.stagePerSlot
  else if 0x3000000 ≤ a ∧ a < 0x3000040 then BitVec.ofNat 64 (s.hiveStatus ((a - 0x3000000) / 8))
  else if a = 0x3800010 then BitVec.ofNat 64 s.time
  else if 0x1400000 ≤ a ∧ a < 0x1800000 then s.eidShown ((a - 0x1400000) / 4) (s.reg a rst)
  else s.reg a rst

/-- The word with its RC fields at 0. -/
def clearRc (l : List FieldSpec) (w : Word) : Word :=
  l.foldl (fun w f => if f.acc == .rc then putBits w f.lo f.w 0 else w) w

/-- The read of one register: the state after, with RC fields cleared by an 8-byte read (R11, R475), and the value. -/
def State.readAt (s : State) (req : Requester) (size a : Nat) : State × Word :=
  match specOf a with
  | none => (s, 0)
  | some r =>
    if 0x3610000 ≤ a ∧ a < 0x3618000 ∧ !s.lockAdmits ((a - 0x3610000) / 512) req then
      (s.tally Reg.LCK_STATUS_RIGHTS_DENIED 0x187, BitVec.allOnes 64)
    else
      let w := clearRc r.fields (s.reg a r.rst)
      (if size = 8 ∧ w ≠ s.reg a r.rst then { s with regs := mset s.regs a w } else s, s.showReg a r.rst)

/-- A register read: the state after and the value; none where the access is refused or nothing answers. -/
def State.regRead (s : State) (req : Requester) (off size : Nat) : State × Option Word :=
  if !s.reaches req off then (s, none)
  else if !accessOk req off size then ((s.captureAccess req 2 off size).emit (.unsupportedRequest req), none)
  else
    let half (v : Word) : Word := if size = 8 then v else if off % 8 = 0 then v.setWidth 32 |>.setWidth 64 else v >>> 32
    let w := off / 8 * 8
    match s.viewOf req w with
    | some (k, o) => (s, some (half (s.viewRead k o)))
    | none =>
      match homeOf req w with
      | none => (s, some 0)
      | some a => let r := s.readAt req size a; (r.1, some (half r.2))

/-! ### BAR4 (R411, R473) -/

/-- What BAR4 of a function holds at an aligned offset: the MSI-X table with the message address, the message data and the mask bit, the
pending bits, and, of a link that runs CXL, component and device registers of CXL 3.1, which are free values (log entry 53). -/
def State.bar4Word (s : State) (fn off : Nat) : Word :=
  let vecs := (s.func fn).vectors
  if off < 0x8000 then
    let v := mgetD vecs (off / 16) {}
    if off % 16 = 0 then BitVec.ofNat 64 v.addr else BitVec.ofNat 64 (v.data % 2 ^ 32 + flag v.masked (2 ^ 32))
  else if off < 0x8100 then
    BitVec.ofNat 64 (((List.range 64).map fun i => flag (mgetD vecs (8 * (off - 0x8000) + i) {}).pending (2 ^ i)).sum)
  else if 0x10000 ≤ off ∧ s.bt.cxlLinks / 2 ^ (fn / 256) % 2 = 1 then BitVec.ofNat 64 s.freeVal
  else 0

/-- Write the MSI-X table of a function; a message that was held is sent when its vector is unmasked. -/
def State.bar4Write (s : State) (fn off : Nat) (w : Word) : State :=
  if 0x8000 ≤ off then s
  else
    let f := s.func fn
    let v := mgetD f.vectors (off / 16) {}
    if off % 16 = 0 then s.setFunc fn { f with vectors := mset f.vectors (off / 16) { v with addr := w.toNat / 4 * 4 } }
    else
      let send := v.pending && !bit w 32
      let v := { v with data := bits w 0 32, masked := bit w 32, pending := v.pending && bit w 32 }
      let s := s.setFunc fn { f with vectors := mset f.vectors (off / 16) v }
      if send then (s.msix fn (off / 16)).1 else s

/-- A function answers in BAR4 of this device: out of reset, the clocks running, on a link that JTAG has not cut off, inside the BAR; in stage
RECOVERY only the physical function of host link 0 is there (R441, R473). -/
def State.bar4Reaches (s : State) (fn off : Nat) : Bool :=
  !s.bt.inReset && !s.ft.rootLost && !s.bt.isolated && decide (fn < 2048) && decide (off < if fn % 256 = 0 then 0x20000 else 0x10000)
    && (s.rd Reg.BOOT_STATUS_STAGE != 15 || fn == 0)

/-- An access to BAR4, with the word to write: naturally aligned, of 4 or 8 bytes, as in BAR0 (log entry 53). -/
def State.bar4Access (s : State) (fn off size : Nat) (v : Option Word) : State :=
  if !s.bar4Reaches fn off then s
  else if !accessOk (.host fn) off size then s.emit (.unsupportedRequest (.bar4 fn))
  else
    let w := off / 8 * 8
    let held := s.bar4Word fn w
    match v with
    | some v =>
      let mask := accessMask off size
      let new := if size = 4 ∧ off % 8 = 4 then v <<< 32 else v
      s.bar4Write fn w (held &&& ~~~mask ||| (new &&& mask))
    | none =>
      let s := if 0x10000 ≤ w then s.takeFree else s
      s.emit (.regValue (.bar4 fn) (if size = 8 then held else if off % 8 = 0 then held &&& 0xFFFFFFFF#64 else held >>> 32))

/-! ### The rows that are accesses -/

/-- R6: a register write, or a write to BAR4. -/
def execRegisterWrite (req : Requester) (off : Nat) (size : Nat) (v : Word) (s : State) : Host.Outcome State Fault Refusal :=
  match req with
  | .bar4 fn => ok (s.bar4Access fn off size (some v))
  | _ => ok (s.regWrite req off size v)

/-- R11: a register read, or a read of BAR4; RC fields clear in an 8-byte read. -/
def execRegisterReadClear (req : Requester) (off : Nat) (size : Nat) (s : State) : Host.Outcome State Fault Refusal :=
  match req with
  | .bar4 fn => ok (s.bar4Access fn off size none)
  | _ =>
    let r := s.regRead req off size
    ok (match r.2 with
      | some v => r.1.emit (.regValue req v)
      | none => r.1)

/-- The domain controller of an address (R22). -/
def domainOf (a : Nat) : Nat :=
  let k := configSource a
  if k = 0x118 then 0 else if k = 0x119 then 1 else if k = 0x140 then 2 else if k = 0x1C0 then 3 else if k = 0x200 then 4
  else if k = 0x280 then 5 else if k = 0x300 then 6 else 7

/-- The domain controller that serves an offset for a requester: DC7 for the counter views (R22, R489), else that of the
register's block. -/
def State.domainAt (s : State) (req : Requester) (w : Nat) : Option Nat :=
  if (s.viewOf req w).isSome ∨ (Requester.isVf req ∧ 0x80000 ≤ w ∧ w < 0xC0000) then some 7 else (homeOf req w).map domainOf

/-- R26: a domain controller does not answer: a read returns all ones, a write is discarded, and the event names the
domain. -/
def execRegisterAccessTimeout (req : Requester) (off : Nat) (write : Bool) (s : State) : Host.Outcome State Fault Refusal :=
  if !s.reaches req off then ok s
  else
    match s.domainAt req (off / 8 * 8) with
    | none => ok s
    | some d =>
      let s := if write then s else s.emit (.regValue req (BitVec.allOnes 64))
      ok (s.raise 0x002 d)

/-- A word with one bit set. -/
def setBit (v : Word) (k : Nat) : Word := v ||| BitVec.ofNat 64 (2 ^ k)

/-- A word with one bit cleared. -/
def clearBit (v : Word) (k : Nat) : Word := v &&& ~~~BitVec.ofNat 64 (2 ^ k)

/-- An 8-byte write of the register at an offset. -/
def State.write8 (s : State) (req : Requester) (off : Nat) (v : Word) : Host.Outcome State Fault Refusal := ok (s.regWrite req off 8 v)

/-- An 8-byte write of member `i` of an array of `n` registers. -/
def State.writeArr (s : State) (req : Requester) (f : Fld) (i n : Nat) (v : Word) : Host.Outcome State Fault Refusal :=
  if i < n then s.write8 req (f.addr i 0) v else ok s

/-- R23: QUIESCE 1 to a crossing. -/
def execQuiesce (req : Requester) (n : Nat) (v : Word) (s : State) : Host.Outcome State Fault Refusal :=
  s.writeArr req Reg.GLB_CROSSING_CTRL_QUIESCE n 8 (setBit v 0)

/-- R23: QUIESCE 0 to a crossing. -/
def execResume (req : Requester) (n : Nat) (v : Word) (s : State) : Host.Outcome State Fault Refusal :=
  s.writeArr req Reg.GLB_CROSSING_CTRL_QUIESCE n 8 (clearBit v 0)

/-- R23: the admitted work of a quiesced crossing has drained. -/
def execQuiesceDrained (n : Nat) (s : State) : Host.Outcome State Fault Refusal := s.clocked <|
  if n < 7 ∧ s.on Reg.GLB_CROSSING_CTRL_QUIESCE n ∧ !s.workHeld n then
    ok ({ s with ft := { s.ft with drains := s.ft.drains.filter (· != n) } }.wr Reg.GLB_CROSSING_CTRL_QUIESCED 1 n)
  else ok s

/-- R24: the drain timeout of a crossing passes with work held. -/
def execQuiesceTimeout (n : Nat) (s : State) : Host.Outcome State Fault Refusal := s.clocked <|
  if s.ft.drains.contains n then
    ok (({ s with ft := { s.ft with drains := s.ft.drains.filter (· != n) } }.wr Reg.GLB_CROSSING_CTRL_DRAIN_TIMED_OUT 1 n).raise (0x008 + n))
  else ok s

/-- R37: a write of GLB_RES_RELEASE. -/
def execResRelease (req : Requester) (v : Word) (s : State) : Host.Outcome State Fault Refusal := s.write8 req 800 v

/-- R40: LOOP_EN 1. -/
def execLoopEn (req : Requester) (v : Word) (s : State) : Host.Outcome State Fault Refusal := s.write8 req 832 (setBit v 0)

/-- R40: LOOP_EN 0. -/
def execLoopDisable (req : Requester) (v : Word) (s : State) : Host.Outcome State Fault Refusal := s.write8 req 832 (clearBit v 0)

/-- R41: MIRROR_EN 1. -/
def execMirrorEn (req : Requester) (v : Word) (s : State) : Host.Outcome State Fault Refusal := s.write8 req 832 (setBit v 1)

/-- R41: MIRROR_EN 0. -/
def execMirrorDisable (req : Requester) (v : Word) (s : State) : Host.Outcome State Fault Refusal := s.write8 req 832 (clearBit v 1)

/-- R43: GO of TPT_ABI_REQUEST, at its offset in the window of the function. -/
def execAbiRequest (req : Requester) (fn : Nat) (v : Word) (s : State) : Host.Outcome State Fault Refusal :=
  if Requester.fn req = fn then s.write8 req (if Requester.isVf req then 0 else 0x400000) (setBit v 16) else ok s

/-- R153: WRITE of SWM_FROND_CTRL. -/
def execFrondCtrlWrite (req : Requester) (v : Word) (s : State) : Host.Outcome State Fault Refusal := s.write8 req 0xC00020 (setBit v 16)

/-- R153: READ of SWM_FROND_CTRL. -/
def execFrondCtrlRead (req : Requester) (v : Word) (s : State) : Host.Outcome State Fault Refusal := s.write8 req 0xC00020 (setBit v 17)

/-- R163: ENABLE of SWM_CONFIG. -/
def execSwarmEnable (req : Requester) (v : Word) (s : State) : Host.Outcome State Fault Refusal := s.write8 req 0xC00000 (setBit v 0)

/-- R218: GO of RTE_SWAP. -/
def execRouteSwap (req : Requester) (v : Word) (s : State) : Host.Outcome State Fault Refusal := s.write8 req 0x1000100 (setBit v 0)

/-- R218: CANCEL of RTE_SWAP. -/
def execSwapCancel (req : Requester) (v : Word) (s : State) : Host.Outcome State Fault Refusal := s.write8 req 0x1000100 (setBit v 4)

/-- R225: RELEASE of RTE_MGMT. -/
def execRteMgmtRelease (req : Requester) (v : Word) (s : State) : Host.Outcome State Fault Refusal := s.write8 req 0x1000008 (setBit v 2)

/-- R280: LNK_CFG.ENABLE 1. -/
def execLinkEnable (req : Requester) (port : Nat) (v : Word) (s : State) : Host.Outcome State Fault Refusal :=
  s.writeArr req Reg.LNK_CFG_ENABLE port 72 (setBit v 0)

/-- R251: LNK_CFG.ENABLE 0. -/
def execLinkDisable (req : Requester) (port : Nat) (v : Word) (s : State) : Host.Outcome State Fault Refusal :=
  s.writeArr req Reg.LNK_CFG_ENABLE port 72 (clearBit v 0)

/-- R259: LNK_EXER_CFG.ENABLE 1. -/
def execExerciseEnable (req : Requester) (port : Nat) (v : Word) (s : State) : Host.Outcome State Fault Refusal :=
  s.writeArr req Reg.LNK_EXER_CFG_ENABLE port 72 (setBit v 0)

/-- R284: INJECT_ONE of a lane. -/
def execInjectOne (req : Requester) (port : Nat) (lane : Nat) (v : Word) (s : State) : Host.Outcome State Fault Refusal :=
  if port < 72 ∧ lane < 2 then s.write8 req (Reg.LAN_PAT_CFG_INJECT_ONE.addr port lane) (setBit v 8) else ok s

/-- R288: RETIRED 1. -/
def execPortRetire (req : Requester) (port : Nat) (v : Word) (s : State) : Host.Outcome State Fault Refusal :=
  s.writeArr req Reg.LAN_PORT_CFG_RATE port 72 (setBit v 8)

/-- R288: RETIRED 0. -/
def execPortUnretire (req : Requester) (port : Nat) (v : Word) (s : State) : Host.Outcome State Fault Refusal :=
  s.writeArr req Reg.LAN_PORT_CFG_RATE port 72 (clearBit v 8)

/-- R300: PULSE_IN 1. -/
def execPulseInClaim (req : Requester) (v : Word) (s : State) : Host.Outcome State Fault Refusal := s.write8 req 0x3800018 (setBit v 0)

/-- R300: DEBUG_OUT 1. -/
def execDebugOutClaim (req : Requester) (v : Word) (s : State) : Host.Outcome State Fault Refusal := s.write8 req 0x3800018 (setBit v 1)

/-- R303: GO of SCH_GATE_CTRL. -/
def execGateGo (req : Requester) (port : Nat) (v : Word) (s : State) : Host.Outcome State Fault Refusal :=
  s.writeArr req Reg.SCH_GATE_CTRL_ENABLE port 72 (setBit v 1)

/-- R303: ENABLE 1 of SCH_GATE_CTRL. -/
def execGateEnable (req : Requester) (port : Nat) (v : Word) (s : State) : Host.Outcome State Fault Refusal :=
  s.writeArr req Reg.SCH_GATE_CTRL_ENABLE port 72 (setBit v 0)

/-- R303: ENABLE 0 of SCH_GATE_CTRL. -/
def execGateDisable (req : Requester) (port : Nat) (v : Word) (s : State) : Host.Outcome State Fault Refusal :=
  s.writeArr req Reg.SCH_GATE_CTRL_ENABLE port 72 (clearBit v 0)

/-- R372: a nonzero identity written to LCK_WORD_w. -/
def execLckWordClaim (req : Requester) (w : Nat) (v : Word) (s : State) : Host.Outcome State Fault Refusal :=
  if bits v 0 16 = 0 then ok s else s.writeArr req Reg.LCK_WORD_IDENTITY w 4096 v

/-- R372: identity 0 written to LCK_WORD_w. -/
def execLckWordRelease (req : Requester) (w : Nat) (v : Word) (s : State) : Host.Outcome State Fault Refusal :=
  s.writeArr req Reg.LCK_WORD_IDENTITY w 4096 (putBits v 0 16 0)

/-- R376: GO of LCK_FORCE. -/
def execLckForce (req : Requester) (v : Word) (s : State) : Host.Outcome State Fault Refusal := s.write8 req 0x3601600 (setBit v 12)

/-- R380: a write of LCK_COMPAT_FORCE. -/
def execLckCompatForce (req : Requester) (v : Word) (s : State) : Host.Outcome State Fault Refusal := s.write8 req 0x3601608 v

/-- R379: ENABLE 1 of LCK_COMPAT_n_BASE. -/
def execCompatRangeEnable (req : Requester) (n : Nat) (v : Word) (s : State) : Host.Outcome State Fault Refusal :=
  s.writeArr req Reg.LCK_COMPAT_BASE_ENABLE n 8 (setBit v 0)

/-- R383: a write of XLT_CTX_n. -/
def execXltCtxWrite (req : Requester) (n : Nat) (v : Word) (s : State) : Host.Outcome State Fault Refusal :=
  s.writeArr req Reg.XLT_CTX_ENABLE n 2048 v

/-- R404: a write of EVT_STATUS_k. -/
def execEvtStatusClear (req : Requester) (k : Nat) (v : Word) (s : State) : Host.Outcome State Fault Refusal :=
  s.writeArr req Reg.EVT_STATUS_STATUS k 16 v

/-- R416: GO of FLT_INJECT. -/
def execFaultInject (req : Requester) (v : Word) (s : State) : Host.Outcome State Fault Refusal := s.write8 req 0x100208 (setBit v 10)

/-- R413: START of FLT_ALIVE. -/
def execAliveStart (req : Requester) (v : Word) (s : State) : Host.Outcome State Fault Refusal := s.write8 req 0x100210 (setBit v 0)

/-- R410: LOCK of FLT_CTRL. -/
def execFltLock (req : Requester) (v : Word) (s : State) : Host.Outcome State Fault Refusal := s.write8 req 0x100200 (setBit v 0)

/-- R479: LOCK of FGR_HANDLER_POLICY. -/
def execHandlerPolicyLock (req : Requester) (v : Word) (s : State) : Host.Outcome State Fault Refusal := s.write8 req 0x3000100 (setBit v 1)

/-- R479: LOCK of GLB_ADMIN. -/
def execAdminLock (req : Requester) (v : Word) (s : State) : Host.Outcome State Fault Refusal := s.write8 req 1536 (setBit v 8)

/-- R418: REPLAN of LCH_CTRL, with what the monitor measures. -/
def execReplan (req : Requester) (v : Word) (m : Measurement) (s : State) : Host.Outcome State Fault Refusal :=
  ok (s.regWrite req 0x200018 8 (setBit v 0) (some m))

/-- R422: APPROVE of LCH_PROPOSAL_CMD. -/
def execProposalApprove (req : Requester) (v : Word) (s : State) : Host.Outcome State Fault Refusal := s.write8 req 0x200030 (setBit v 8)

/-- R422: DECLINE of LCH_PROPOSAL_CMD. -/
def execProposalDecline (req : Requester) (v : Word) (s : State) : Host.Outcome State Fault Refusal := s.write8 req 0x200030 (setBit v 9)

/-- R429: a write of LCH_CALENDAR. -/
def execCalendarSet (req : Requester) (v : Word) (s : State) : Host.Outcome State Fault Refusal := s.write8 req 0x200038 v

/-- R430: WARM of BOOT_RESET_CTRL. -/
def execWarmChipReset (req : Requester) (v : Word) (s : State) : Host.Outcome State Fault Refusal := s.write8 req 0x1008 (setBit v 8)

/-- R436: BLOCK_GO of BOOT_RESET_CTRL. -/
def execBlockGo (req : Requester) (v : Word) (s : State) : Host.Outcome State Fault Refusal := s.write8 req 0x1008 (setBit v 7)

/-- R442: SVN_COMMIT of BOOT_RESET_CTRL. -/
def execSvnCommit (req : Requester) (v : Word) (s : State) : Host.Outcome State Fault Refusal := s.write8 req 0x1008 (setBit v 10)

/-- R444: OP 1 of BOOT_FLASH_CMD. -/
def execFlashErase (req : Requester) (v : Word) (s : State) : Host.Outcome State Fault Refusal := s.write8 req 0x1110 (putBits v 0 3 1)

/-- R444: OP 2 of BOOT_FLASH_CMD. -/
def execFlashProgram (req : Requester) (v : Word) (s : State) : Host.Outcome State Fault Refusal := s.write8 req 0x1110 (putBits v 0 3 2)

/-- R444: OP 3 of BOOT_FLASH_CMD. -/
def execFlashRead (req : Requester) (v : Word) (s : State) : Host.Outcome State Fault Refusal := s.write8 req 0x1110 (putBits v 0 3 3)

/-- R444: OP 4 of BOOT_FLASH_CMD. -/
def execFlashVerify (req : Requester) (v : Word) (s : State) : Host.Outcome State Fault Refusal := s.write8 req 0x1110 (putBits v 0 3 4)

/-- R481: a write of CTR_COUNT_n. -/
def execCounterSet (req : Requester) (n : Nat) (v : Word) (s : State) : Host.Outcome State Fault Refusal :=
  s.writeArr req Reg.CTR_COUNT_VALUE n 512 v

/-- R481: CLEAR_ALL of CTR_CTRL. -/
def execClearAll (req : Requester) (v : Word) (s : State) : Host.Outcome State Fault Refusal := s.write8 req 0x3C02000 (setBit v 1)

/-- R481: a write of FREEZE in CTR_CTRL. -/
def execFreeze (req : Requester) (v : Word) (s : State) : Host.Outcome State Fault Refusal := s.write8 req 0x3C02000 v

/-- R486: ENABLE 1 of CTR_SAMPLE_CFG. -/
def execSamplerEnable (req : Requester) (v : Word) (s : State) : Host.Outcome State Fault Refusal := s.write8 req 0x3C02008 (setBit v 0)

/-- R487: a write of CTR_SAMPLE_INDEX. -/
def execSampleIndexCopy (req : Requester) (v : Word) (s : State) : Host.Outcome State Fault Refusal := s.write8 req 0x3C02028 v

end Sys2Proof.Machine
end

