-- ==== Sys2Proof/Machine/ForagerMem.lean ====
section
/-! DEFINITION. How a thread's accesses are performed, acknowledged and failed: the order among them, forwarding, reserved
pairs, atomics, and the calls that wait for data of a host (R26, R102, R103, R328 to R333, R357 to R370, R492). -/

namespace Sys2Proof.Machine

/-! ### Order (R359, R360) -/

/-- The accesses of a thread before one of its own, in program order. -/
def Thread.before (x : Thread) (a : Access) : List Access := x.pend.takeWhile (·.id != a.id)

/-- An LR or an SC: the reservation passes from one to the other in program order (R329, R365, R366). -/
def Access.pairs (a : Access) : Bool := a.kind == .lr || a.kind == .sc

/-- An access may be performed: it is issued, and no earlier device access before a device access, no earlier access that shares a
byte, and no earlier LR or SC before another, is still to be performed. -/
def Thread.mayPerform (x : Thread) (a : Access) : Bool :=
  !a.queued && (x.before a).all fun b =>
    b.performed || !((b.device && a.device) || (b.pairs && a.pairs) || b.meets a.target a.addr a.width)

/-- A device access has issued: every earlier device access of the thread is performed (R359). -/
def Thread.deviceIssued (x : Thread) (a : Access) : Bool := !a.queued && (x.before a).all fun b => b.performed || !b.device

/-- The thread's own earlier store that a normal load may read before it is performed: the last earlier access that shares a
byte, where it covers the load (R360). -/
def Thread.ownStore (x : Thread) (a : Access) : Option Access :=
  match ((x.before a).filter fun b => !b.performed && b.meets a.target a.addr a.width).getLast? with
  | some b => if a.kind = .load ∧ !a.device ∧ b.kind = .store ∧ !b.device ∧ !b.queued ∧ b.addr ≤ a.addr ∧ a.addr + a.width ≤ b.addr + b.width
      then some b else none
  | none => none

/-! ### The end of accesses -/

/-- Take accesses out of those in progress; their keys' in-use references are released (R109, R319). -/
def State.dropAccesses (s : State) (t : Nat) (gone : Access → Bool) : State :=
  let l := (s.thread t).pend.filter gone
  let s := s.modThread t fun x => { x with pend := x.pend.filter fun a => !gone a }
  l.foldl (fun (s : State) a => match a.key with | some k => s.dropRef k | none => s) s

/-- Change one access in progress. -/
def State.modAccess (s : State) (t k : Nat) (f : Access → Access) : State :=
  s.modThread t fun x => { x with pend := x.pend.map fun a => if a.id = k then f a else a }

/-- An access that gives a value is complete: the register, the sampler, and a thread that it held goes on (R313, R485). -/
def State.completeAccess (s : State) (t : Nat) (a : Access) (v : Word) : State :=
  let s := s.dropAccesses t fun b => b.group == a.group && b.kind == a.kind
  let s := (((s.stamp a.tag 2).stamp a.tag 3).stamp a.tag 4).endTag a.tag
  match a.rd with
  | none => s
  | some rd => if a.holds then s.result t rd v else s.setReg t rd v

/-- The bytes that the pieces of a group have read. -/
def groupBytes (l : List Access) : List Byte := l.foldl (fun b a => putBytes b a.off (leBytes a.width a.data)) (List.replicate ((l.headD
  { id := 0, kind := .load, target := .reg, addr := 0, width := 0, total := 0 }).total) 0)

/-- A call whose source has been read goes on: COPY's writes, PSEND's packet. While it must wait, its pieces stay and the
command is given again. -/
def State.finishCall (s : State) (t : Nat) (a : Access) (b : List Byte) : State :=
  let x := s.thread t
  let drop (s : State) : State := s.dropAccesses t fun c => c.call && c.group == a.group
  match x.wait with
  | .copy rd dst _ fail =>
    (match s.copyTo t (BitVec.ofNat 32 (s.codeWord t x.pc)) rd (BitVec.ofNat 64 dst) fail b with
    | (s, none) => s
    | (s, some k) => k (drop s))
  | .send rd hdr _ =>
    (match s.psendOut t (s.outPacket (slice x.out 0 hdr) b) with
    | (s, false) => s
    | (s, true) => (drop s).result t rd (callResult St.success 0 0))
  | _ => drop s

/-- A group of read pieces, each performed, gives its value. -/
def State.finishGroup (s : State) (t : Nat) (a : Access) : State :=
  let l := (s.thread t).pend.filter fun b => b.kind == .load && b.group == a.group
  if !l.all (·.performed) then s
  else if a.call then s.finishCall t a (groupBytes l)
  else s.completeAccess t a (extend a.signed a.total (ofLE (groupBytes l)))

/-- A call's source cannot be read (R331, R339, R492): the bytes before the failure that were copied are a free number (log entry
2). -/
def State.failCall (s : State) (t : Nat) (a : Access) (detail : Nat) : State :=
  let x := s.thread t
  let l := x.pend.filter fun b => b.call && b.group == a.group
  let good := (l.filter fun b => !b.performed).foldl (fun m b => min m b.off) a.total
  let b := groupBytes l
  let s := s.dropAccesses t fun c => c.call && c.group == a.group
  let w := BitVec.ofNat 32 (s.codeWord t x.pc)
  match x.wait with
  | .copy rd dst _ _ =>
    let done := s.freeVal % (good + 1)
    let s := s.takeFree
    let r := s.copyPart t (BitVec.ofNat 64 dst) done b
    r.1.callFails t w rd Cause.bus a.faddr detail r.2
  | .send rd _ _ => s.result t rd (callResult (detail % 256) (detail / 256) 0)
  | _ => s

/-- An access ends without its effect: its instruction traps BUS with REMOTE_OP_ERROR and a DETAIL, with TRAP_PC at it, though later
instructions may have issued by then (R331, R368, R492; log entry 50). A thread that has stopped takes no trap. -/
def State.failAccess (s : State) (t : Nat) (a : Access) (detail : Nat) : State :=
  let d := trapDetail St.remoteOpError detail
  if a.call then s.failCall t a d
  else
    let s := s.dropAccesses t fun b => b.group == a.group && b.kind == a.kind
    let s := s.endTag a.tag
    if (s.thread t).st ≠ .running then s
    else s.trap t { cause := Cause.bus, pc := a.pc, word := s.codeWord t a.pc, info := a.faddr, detail := d }

/-! ### Failing device accesses (R368 to R370) -/

/-- The target code of an access (R355): 0 the store, 1 + l host link l, 15 REG. -/
def Access.code (a : Access) : Nat :=
  match a.target with
  | .store => 0
  | .host l => 1 + l
  | _ => 15

/-- Capture a failure of a device access while the log is free. -/
def State.logTimeout (s : State) (t : Nat) (a : Access) (err : Bool) : State :=
  if s.on Reg.ORD_TIMEOUT_LOG0_VALID then s
  else
    let s := ((s.wr Reg.ORD_TIMEOUT_LOG0_VALID 1).wr Reg.ORD_TIMEOUT_LOG0_STORE (flag (a.kind == .store) 1)).wr
      Reg.ORD_TIMEOUT_LOG0_EARLY (flag a.early 1)
    (((s.wr Reg.ORD_TIMEOUT_LOG0_ERROR_COMPLETION (flag err 1)).wr Reg.ORD_TIMEOUT_LOG0_TARGET a.code).wr
      Reg.ORD_TIMEOUT_LOG0_THREAD (threadId t)).wr Reg.ORD_TIMEOUT_LOG1_ADDRESS a.addr

/-- The thread waits at a fence for a store. -/
def Thread.fenceOn (x : Thread) (a : Access) : Bool :=
  match x.wait with
  | .fence 3 _ => true
  | .fence 1 _ => false
  | .fence _ _ => !a.performed
  | .exit => !a.performed
  | _ => false

/-- A device store retires as failed (R369, R370, R333). -/
def State.failStore (s : State) (t : Nat) (a : Access) (err : Bool) : State :=
  let x := s.thread t
  let s := ((s.logTimeout t a err).raise 0x281 (threadId t)).tally Reg.ORD_COUNT_FAILED_STORES 0x184 0 (s.threadOwner t)
  let s := s.modThread t fun x =>
    if x.fenceOn a then { x with fenceFail := true }
    else if x.st = .running ∧ x.trapEn / 2 % 2 = 1 then { x with contained := some a.faddr } else x
  let s := s.dropAccesses t fun b => b.id == a.id
  if x.wait = .none then s else s.wake t

/-- A device access that returns a value ends without data (R368). -/
def State.failLoad (s : State) (t : Nat) (a : Access) (err : Bool) : State :=
  ((s.tally Reg.ORD_COUNT_FAILED_LOADS 0x185 0 (s.threadOwner t)).logTimeout t a err).failAccess t a (if err then 14 else 13)

/-! ### Performing an access -/

/-- What a read at its point of order gives. -/
inductive Got where
  | data (v : Nat)
  | fail (detail : Nat)
  | wait
  deriving DecidableEq, Repr

/-- Read the bytes of an access at its point of order (R357). An uncorrected error of the store or of hive SRAM fails it (R331,
R402). -/
def State.readAccess (s : State) (t : Nat) (a : Access) (r : HostRes) : State × Got :=
  match a.target with
  | .hive h =>
    (match s.sramMet h a.addr a.width with
    | (s, true) => (s, .fail 23)
    | (s, false) => (s, .data (ofLE (Memory.readN 0 (s.sramOf h) a.addr a.width))))
  | .store =>
    if !s.storeAnswers then (s, .wait)
    else (match s.fetchStore a.addr a.width with
      | (s, some b) => (s, .data (ofLE b))
      | (s, none) => (s, .fail 11))
  | .reg =>
    (match s.regRead (.thread t) a.addr a.width with
    | (s, some v) => (s, .data v.toNat)
    | (_, none) => (s, .wait))
  | .host l =>
    (match r with
    | .data b => (s.count 0x1C1 l a.width (s.threadOwner t), .data (ofLE (slice b 0 a.width)))
    | .error => (s, .fail 14)
    | .poisoned => (s.linkLogs l r, .fail 14)
    | .timeout => (s.linkLogs l r, .fail 13))
  | .rodata => (s, .data (ofLE (slice (s.rodata t) a.addr a.width)))

/-- Write bytes at the point of order of a hive's SRAM or of the store. -/
def State.writeMemory (s : State) (t : Nat) (target : Target) (addr : Nat) (b : List Byte) : State :=
  match target with
  | .hive h => (s.sramWrite h addr b).clearResv (.hive h) addr b.length
  | .store => s.placeStore addr b (threadSource t)
  | _ => s

/-- A piece of a store is written to the store. One of a misaligned store that touches a compatibility range is discarded with the
others, and the store is counted once (R379). -/
def State.storePiece (s : State) (t : Nat) (a : Access) : State :=
  if a.total ≤ 8 ∧ a.width < a.total ∧ s.compatRange (a.addr - a.off) a.total then
    (if a.off = 0 then s.tally Reg.LCK_STATUS_COMPAT_DISCARDS 0x189 else s)
  else s.writeMemory t a.target a.addr a.bytes

/-- A read piece is performed (R357, R360). -/
def State.performLoad (s : State) (t : Nat) (a : Access) (r : HostRes) : State :=
  let keep (s : State) (v : Nat) : State :=
    let s := s.modAccess t a.id ({ · with performed := true, data := v })
    (if a.call ∧ a.device then s.askNext t else s).finishGroup t { a with performed := true, data := v }
  match (s.thread t).ownStore a with
  | some b =>
    if a.target = .store ∧ s.compatRange a.addr a.width then s
    else keep s (ofLE (slice b.bytes (a.addr - b.addr) a.width))
  | none =>
    if !(s.thread t).mayPerform a then s
    else match s.readAccess t a r with
      | (s, .data v) => keep s v
      | (s, .fail d) => if a.device ∧ d ≠ 11 ∧ d ≠ 23 then s.failLoad t a (d == 14) else s.failAccess t a d
      | (s, .wait) => s

/-- A store reaches its point of order (R357, R358). A normal store and a REG store are then performed; a device store waits
for its acknowledgement, for which a zero-length read follows it on a host link. -/
def State.performStore (s : State) (t : Nat) (a : Access) : State :=
  let gone (s : State) : State := s.dropAccesses t fun b => b.id == a.id
  match a.target with
  | .reg => (gone s).regWrite (.thread t) a.addr 8 (BitVec.ofNat 64 (ofLE a.bytes))
  | .hive _ => (gone s).writeMemory t a.target a.addr a.bytes
  | .store =>
    if !s.storeAnswers then s
    else
      let s := s.storePiece t a
      if a.device then s.modAccess t a.id ({ · with reached := true, performed := a.early }) else gone s
  | .host l =>
    let s := (s.emit (.hostWrite l a.addr a.bytes)).count 0x1C0 l a.bytes.length (s.threadOwner t)
    if a.device then (s.modAccess t a.id ({ · with reached := true, performed := a.early })).emit (.hostRead l a.addr 0 (accessId t a.id))
    else gone s
  | .rodata => gone s

/-- LR reads and takes the reservation, unless an event of R329 has come since it issued (R329, R365). -/
def State.performLr (s : State) (t : Nat) (a : Access) : State :=
  match s.readAccess t a .error with
  | (s, .data v) => (s.modThread t fun x => if a.void then x else { x with resv := some (a.target, a.addr / 128) }).completeAccess t a (BitVec.ofNat 64 v)
  | (s, .fail d) => s.failAccess t a d
  | (s, .wait) => s

/-- SC writes only while the thread's reservation covers the granule, and clears it (R329, R366). -/
def State.performSc (s : State) (t : Nat) (a : Access) : State :=
  if a.target = .store ∧ !s.storeAnswers then s
  else
    let good : Bool := (s.thread t).resv == some (a.target, a.addr / 128)
    let s := if good then s.writeMemory t a.target a.addr a.bytes else s
    (s.modThread t ({ · with resv := none })).completeAccess t a (boolWord (!good))

/-- Issue the CAS of an emulated atomic of a thread (R102). -/
def State.accessCas (s : State) (t : Nat) (a : Access) (seen tries : Nat) : State :=
  let new := atomicResult (0x10 + a.fn) (8 * a.width) seen a.op0.toNat a.op1.toNat
  match a.target with
  | .host l => ((s.modAccess t a.id ({ · with stage := 2, seen := seen, tries := tries })).emit
      (.hostAtomic l a.addr 2 seen new a.width (accessId t a.id))).count 0x1C0 l (2 * a.width) (s.threadOwner t)
  | _ => s

/-- ATOM at its target (R330, R364, R102, R103). -/
def State.performAtomic (s : State) (t : Nat) (a : Access) (r : HostRes) : State :=
  match a.target with
  | .host l =>
    (match r with
    | .data b =>
      let old := ofLE (slice b 0 a.width)
      let s := s.count 0x1C1 l a.width (s.threadOwner t)
      if a.stage = 0 ∨ (a.stage = 2 ∧ old = a.seen) then s.completeAccess t a (BitVec.ofNat 64 old)
      else if a.stage = 1 then s.accessCas t a old 1
      else if s.rd Reg.KEY_HOST_ATOMIC_CAS_LIMIT ≤ a.tries then s.failAccess t a 10
      else s.accessCas t a old (a.tries + 1)
    | .error => if a.device then s.failLoad t a true else s.failAccess t a 14
    | .poisoned =>
      let s := s.linkLogs l r
      if a.device then s.failLoad t a true else s.failAccess t a 14
    | .timeout =>
      let s := s.linkLogs l r
      if a.device then s.failLoad t a false else s.failAccess t a 13)
  | _ =>
    match s.readAccess t a r with
    | (s, .data old) =>
      let new := atomicResult (0x10 + a.fn) (8 * a.width) old a.op0.toNat a.op1.toNat
      let s := match a.target with
        | .store => (s.commit a.addr (leBytes a.width new)).countAtomic a.addr (s.threadOwner t)
        | _ => s.writeMemory t a.target a.addr (leBytes a.width new)
      s.completeAccess t a (BitVec.ofNat 64 old)
    | (s, .fail d) => s.failAccess t a d
    | (s, .wait) => s

/-- The access of a thread with a number. -/
def Thread.access (x : Thread) (k : Nat) : Option Access := x.pend.find? (·.id == k)

/-- R357: an access of a thread is performed at its point of order, or the data of a host returns. Where the order of R359 or
R360 forbids it yet, nothing happens and the command is given again (log entry 5). -/
def execForagerAccessResponse (t : Nat) (k : Nat) (r : HostRes) (s : State) : Host.Outcome State Fault Refusal := s.clocked <|
  match (s.thread t).access k with
  | none => ok s
  | some a =>
    if a.performed then ok (if a.kind = .load then settle ((s.finishGroup t a).wake t) else s)
    else if a.reached then ok s
    else if a.kind = .load then ok (settle ((s.performLoad t a r).wake t))
    else if !(s.thread t).mayPerform a then ok s
    else
      let u := match a.kind with
        | .store => s.performStore t a
        | .lr => s.performLr t a
        | .sc => s.performSc t a
        | .atomic => s.performAtomic t a r
        | .load => s
      ok (settle (u.wake t))

/-- R358: the acknowledgement of a device store that has reached its point of order. -/
def execDeviceStoreAck (t : Nat) (k : Nat) (s : State) : Host.Outcome State Fault Refusal := s.clocked <|
  match (s.thread t).access k with
  | none => ok s
  | some a => if a.reached then ok (settle ((s.dropAccesses t fun b => b.id == k).wake t)) else ok s

/-- R368, R369, R370, R26: the response timeout of a device access that has issued passes, or the target reports an error first. A REG access
ends as R26 says: a read returns all ones, a write is discarded and retires as failed. -/
def execDeviceAccessTimeout (t : Nat) (k : Nat) (err : Bool) (s : State) : Host.Outcome State Fault Refusal := s.clocked <|
  match (s.thread t).access k with
  | none => ok s
  | some a =>
    if !a.device ∨ !(s.thread t).deviceIssued a then ok s
    else if a.target = .reg then
      let s := match homeOf (.thread t) (a.addr / 8 * 8) with
        | some h => s.raise 0x002 (domainOf h)
        | none => s
      if a.kind = .store then ok (settle (s.failStore t a false))
      else ok (settle ((s.modAccess t k ({ · with performed := true, data := 2 ^ 64 - 1 })).finishGroup t
        { a with performed := true, data := 2 ^ 64 - 1 }))
    else if a.kind = .store then ok (settle (s.failStore t a err))
    else if a.performed then ok s
    else ok (settle (s.failLoad t a err))

end Sys2Proof.Machine
end

