-- ==== Sys2Proof/Machine/Mgmt.lean ====
section
/-! DEFINITION. The management operations that the fabric manager asks of this device (R222 to R226, R153, R218). -/

namespace Sys2Proof.Machine

/-- The outcome of an operation: the state, STATUS and the response's payload. -/
abbrev MgmtDone := State × Nat × List Byte

/-- Run the operation of the first waiting request if it has this MOP: an operation routed by coordinates before the join, and
one that needs the token without it, are refused (R224, R225). -/
def State.mgmtOp (s : State) (mop : Nat) (needsToken : Bool) (f : InPkt → MgmtHeader → List Byte → State → MgmtDone) :
    Host.Outcome State Fault Refusal :=
  match s.rt.mgmtIn with
  | [] => ok s
  | x :: l =>
    match x.pkt.body with
    | .mgmt h =>
      if h.mop ≠ mop then ok s
      else
        let s := { s with rt := { s.rt with mgmtIn := l } }.corrected (fun e => match e with | .keeper _ => true | _ => false) 0x014
        if !h.directed ∧ !s.on Reg.RTE_MGMT_JOINED then ok (s.mgmtReply x h St.invalidState)
        else if needsToken ∧ s.rt.token ≠ some (BitVec.ofNat 64 h.token) then ok (s.mgmtReply x h St.protNak)
        else
          let r := f x h x.pkt.payload s
          ok (settle (r.1.mgmtReply x h r.2.1 r.2.2))
    | _ => ok s

/-- An 8-byte field of a management payload. -/
def word8 (b : List Byte) (i : Nat) : Nat := beAt b i 8

/-- R225: CLAIM. -/
def execClaim (s : State) : Host.Outcome State Fault Refusal := s.clocked <|
  s.mgmtOp 1 false fun x h b s =>
    let v := BitVec.ofNat 64 (word8 b 0)
    if b.length ≠ 8 ∨ v = 0 then (s, St.badDescriptor, [])
    else if s.rt.token.elim false (· != BitVec.ofNat 64 h.token) then (s, St.protNak, [])
    else
      let path := if !h.directed then [] else if h.hopCount = 0 then [127] else backPath h
      ({ s with rt := { s.rt with token := some v, ownerPath := path, ownerEid := x.pkt.net.srcEid } }.wr Reg.RTE_MGMT_OWNED 1,
        St.success, [])

/-- R225: RELEASE. -/
def execRelease (s : State) : Host.Outcome State Fault Refusal := s.clocked <|
  s.mgmtOp 2 true fun _ _ b s => if b.isEmpty then (s.dropOwner, St.success, []) else (s, St.badDescriptor, [])

/-- The range of registers of READ_REG and WRITE_REG: offset and count. -/
def regRange (b : List Byte) : Option (Nat × Nat) :=
  let off := word8 b 0
  let n := word8 b 8
  if 16 ≤ b.length ∧ off % 8 = 0 ∧ 1 ≤ n ∧ n ≤ 64 ∧ off + 8 * n ≤ 2 ^ 26 then some (off, n) else none

/-- Read registers in rising order as the keeper. -/
def State.mgmtRead (s : State) (off n : Nat) : State × List Byte :=
  (List.range n).foldl (fun (acc : State × List Byte) i =>
    let r := acc.1.regRead (.keeper 0) (off + 8 * i) 8
    (r.1, acc.2 ++ beBytes 8 ((r.2.getD 0).toNat))) (s, [])

/-- R224: READ_REG. -/
def execReadReg (s : State) : Host.Outcome State Fault Refusal := s.clocked <|
  s.mgmtOp 3 false fun _ _ b s =>
    match regRange b with
    | some (off, n) =>
      if b.length ≠ 16 then (s, St.badDescriptor, [])
      else
        let r := s.mgmtRead off n
        (r.1, St.success, r.2)
    | none => (s, St.badDescriptor, [])

/-- R224: WRITE_REG: keeper accesses in rising order, with R6 and R14. -/
def execWriteReg (s : State) : Host.Outcome State Fault Refusal := s.clocked <|
  s.mgmtOp 4 true fun _ _ b s =>
    match regRange b with
    | some (off, n) =>
      if b.length ≠ 16 + 8 * n then (s, St.badDescriptor, [])
      else ((List.range n).foldl (fun (s : State) i => s.regWrite (.keeper 0) (off + 8 * i) 8 (BitVec.ofNat 64 (word8 b (16 + 8 * i)))) s,
        St.success, [])
    | none => (s, St.badDescriptor, [])

/-- Set RTE_FUNC_EID from the entries of ASSIGN (R224). -/
def State.setFuncEids (s : State) (b : List Byte) (n : Nat) : State :=
  (List.range n).foldl (fun (s : State) i =>
    let e := beAt b (20 + 4 * i) 4
    let f := e / 2 ^ 21
    (s.wr Reg.RTE_FUNC_EID_EID (e % 2 ^ 20) f).wr Reg.RTE_FUNC_EID_VALID (e / 2 ^ 20 % 2) f) s

/-- R224, R226: ASSIGN: the shadow SHAPE and BASE, the swap at once, the EIDs of the functions, JOINED. -/
def execAssign (s : State) : Host.Outcome State Fault Refusal := s.clocked <|
  s.mgmtOp 5 true fun _ _ b s =>
    let n := beAt b 16 4
    let shape := BitVec.ofNat 64 (word8 b 0)
    let base := BitVec.ofNat 64 (word8 b 8)
    if b.length < 20 ∨ b.length ≠ 20 + 4 * n ∨ s.on Reg.RTE_SWAP_PENDING then (s, St.badDescriptor, [])
    else
      let t := (s.regWrite (.keeper 0) 0x1001000 8 shape).regWrite (.keeper 0) 0x1001008 8 base
      if t.reg 0x1001000 0x111104104100000 ≠ shape ∨ t.reg 0x1001008 0 ≠ base then (t, St.badDescriptor, [])
      else
        let u := t.swap
        if u.rd Reg.RTE_SWAP_STATUS ≠ St.success then (u, St.badDescriptor, [])
        else (((u.setFuncEids b n).wr Reg.RTE_MGMT_JOINED 1).announce s, St.success, [])

/-- R221, R224: EID_WRITE. -/
def execEidWrite (s : State) : Host.Outcome State Fault Refusal := s.clocked <|
  s.mgmtOp 6 true fun _ _ b s =>
    let first := beAt b 0 4
    let n := beAt b 4 4
    if b.length < 8 ∨ n = 0 ∨ 1022 < n ∨ b.length ≠ 8 + 4 * n ∨ 2 ^ 20 < first + n then (s, St.badDescriptor, [])
    else ((List.range n).foldl (fun (s : State) i =>
      (s.eidFresh (first + i)).wr (subFld Reg.RTE_EID_WORD_WORD ((first + i) % 2) 32) (beAt b (8 + 4 * i) 4 &&& eidMask) ((first + i) / 2)) s, St.success, [])

/-- R153, R224: FROND_WRITE. -/
def execFrondWrite (s : State) : Host.Outcome State Fault Refusal := s.clocked <|
  s.mgmtOp 7 true fun _ _ b s =>
    if b.length ≠ 72 then (s, St.badDescriptor, [])
    else
      let r := s.frondWrite (beAt b 0 2) ((List.range 8).map fun i => BitVec.ofNat 64 (word8 b (8 + 8 * i)))
      (r.1, r.2, [])

/-- R218, R224: SWAP at a fabric time, or at once. -/
def execSwap (s : State) : Host.Outcome State Fault Refusal := s.clocked <|
  s.mgmtOp 8 true fun _ _ b s =>
    let time := word8 b 0
    if b.length ≠ 8 ∨ s.on Reg.RTE_SWAP_PENDING then (s, St.badDescriptor, [])
    else
      let t := ((s.wr Reg.RTE_SWAP_AT_TIME (if time = 0 then 0 else 1)).wr Reg.RTE_SWAP_TIME_TIME time).swapGo.announce s
      if !t.on Reg.RTE_SWAP_PENDING ∧ t.rd Reg.RTE_SWAP_STATUS ≠ St.success then (t, St.badDescriptor, []) else (t, St.success, [])

/-- R224: ECHO. -/
def execEcho (s : State) : Host.Outcome State Fault Refusal := s.clocked <| s.mgmtOp 10 false fun _ _ b s => (s, St.success, b)

end Sys2Proof.Machine
end

