-- ==== Sys2Proof/Machine/Secure.lean ====
section
/-! DEFINITION. The end of a flash command, JTAG and the debug unlock, the SMBus target, and the crossbar loopback test (R40,
R444, R447, R448, R467). -/

namespace Sys2Proof.Machine

/-! ### Flash commands (R444) -/

/-- A range of flash where ERASE and PROGRAM are refused: the lifetime log and the slot that is running. -/
def State.flashGuarded (s : State) (a : Nat) : Bool :=
  let slot := s.rd Reg.BOOT_STATUS_SLOT
  (decide (logBase ≤ a) && decide (a < 0x1000000))
    || (decide (slot < 2) && decide (slotBase slot ≤ a) && decide (a < slotBase slot + 0x800000))

/-- The end of a flash operation: the state with its effect, and STATUS. -/
def State.flashEnd (s : State) (op addr data : Nat) (good : Bool) : State × Nat :=
  if op = 1 then
    if addr % 4096 ≠ 0 then (s, St.badDescriptor)
    else if s.flashGuarded addr then (s, St.conflict)
    else if good then (s.flashErase addr 4096, St.success) else (s.raise 0x015 (addr / 4096), St.invalidState)
  else if op = 2 then
    if addr % 8 ≠ 0 then (s, St.badDescriptor)
    else if s.flashGuarded addr then (s, St.conflict)
    else if good then (s.flashWrite addr (leBytes 8 data), St.success) else (s.raise 0x015 (addr / 4096), St.invalidState)
  else if op = 3 then
    if 2 ^ 25 < addr + 8 then (s, St.badDescriptor)
    else if good then (s.wr Reg.BOOT_FLASH_DATA_DATA (ofLE (s.flashRead addr 8)), St.success)
    else (s.raise 0x015 (addr / 4096), St.invalidState)
  else if addr ≠ slotBase 0 ∧ addr ≠ slotBase 1 then (s, St.badDescriptor)
  else if good then (s.wr Reg.BOOT_FLASH_CMD_RESULT (s.slotCheck addr), St.success)
  else (s.raise 0x015 (addr / 4096), St.invalidState)

/-- R444: the flash command under way ends; the flash itself may have failed. -/
def execFlashCommandDone (ok0 : Bool) (s : State) : Host.Outcome State Fault Refusal := s.atPins <|
  match s.bt.flashOp with
  | none => ok s
  | some op =>
    let r := s.flashEnd op s.bt.flashAddr s.bt.flashData ok0
    let s := { r.1 with bt := { r.1.bt with flashOp := none } }
    ok ((s.wr Reg.BOOT_FLASH_CMD_BUSY 0).wr Reg.BOOT_FLASH_CMD_STATUS r.2)

/-! ### JTAG and the debug unlock (R447, R448) -/

/-- The identity-key engine works: not in factory test mode, and not since a debug unlock (R448, R449). -/
def State.engineOn (s : State) : Bool := !s.bt.idKeyOff && !s.factory

/-- R446: what the engine answers to keeper firmware that asks for a signature with the identity key, which no access reads. -/
def State.identitySign (s : State) (msg : List Byte) : Option (List Byte) :=
  if s.engineOn then some (Config.sign s.bt.fuses.identity msg) else none

/-- An instruction that isolates the core from its pins while it is loaded (R447). -/
def isolates (i : JtagInstr) : Bool :=
  match i with
  | .highz => true
  | .extest => true
  | .extestPulse => true
  | .extestTrain => true
  | _ => false

/-- What an instruction acts as: on a production part with no open debug scope, one beyond the list is BYPASS (R447). -/
def State.jtagActs (s : State) (i : JtagInstr) : JtagInstr :=
  if i = .other ∧ s.bt.fuses.production ∧ s.rd Reg.BOOT_STATUS_DEBUG_OPEN = 0 then .bypass else i

/-- Load a JTAG instruction: the core is isolated, or a warm chip reset ends an isolation. -/
def State.jtagLoad (s : State) (i : JtagInstr) : State :=
  let j := s.jtagActs i
  let t := { s with bt := { s.bt with jtag := some j, isolated := isolates j } }
  if s.bt.isolated ∧ !isolates j then t.warmReset 5 else t

/-- R447: a JTAG instruction is loaded. -/
def execJtagInstructionLoad (i : JtagInstr) (s : State) : Host.Outcome State Fault Refusal :=
  if s.bt.stbyUp then ok (s.jtagLoad i) else ok s

/-- R448: DBG_CHALLENGE shifts out the serial and a nonce of 48 bytes, unless a failed response was less than 1 s ago. -/
def execDbgChallenge (nonce : List Byte) (s : State) : Host.Outcome State Fault Refusal := s.clocked <|
  if !s.bt.stbyUp then ok s
  else
    let s := s.jtagLoad .dbgChallenge
    if s.bt.lockout then ok s
    else
      let n := slice nonce 0 48
      ok ({ s with bt := { s.bt with nonce := some n } }.emit (.tdo (beBytes 8 s.bt.fuses.serial ++ n)))

/-- The response proves the debug key over the open challenge and the scope. -/
def State.responseOk (s : State) (scope : Byte) (key sig : List Byte) : Bool :=
  match s.bt.nonce with
  | none => false
  | some n => key.length == 97 && sig.length == 96 && sha384 key == s.bt.fuses.debugHash
      && ecdsaVerify key sig (beBytes 8 s.bt.fuses.serial ++ n ++ [scope])

/-- R448: DBG_RESPONSE: on success the identity-key engine is off, the scopes open, and a warm chip reset follows; else the
nonce is void and challenges are not answered for 1 s. -/
def execDbgResponse (scope : Byte) (key : List Byte) (sig : List Byte) (s : State) : Host.Outcome State Fault Refusal := s.clocked <|
  if !s.bt.stbyUp then ok s
  else
    let s := s.jtagLoad .dbgResponse
    if s.responseOk scope key sig then
      let t := { s with bt := { s.bt with nonce := none, idKeyOff := true } }
      ok ((t.wr Reg.BOOT_STATUS_DEBUG_OPEN (t.rd Reg.BOOT_STATUS_DEBUG_OPEN ||| scope.toNat % 8)).warmReset 5)
    else ok { s with bt := { s.bt with nonce := none, lockout := true } }

/-- R448: 1 s has passed since the failed response. -/
def execDbgLockoutExpiry (s : State) : Host.Outcome State Fault Refusal := s.clocked <| ok { s with bt := { s.bt with lockout := false } }

/-! ### The SMBus target (R467) -/

/-- R467: SET_OFFSET: a block of 4 bytes that spell an 8-byte-aligned offset; another block leaves the offset as it is (log
entry 40). -/
def execSetOffset (bytes : List Byte) (pecOk : Bool) (s : State) : Host.Outcome State Fault Refusal :=
  if !s.bt.stbyUp ∨ s.bt.isolated then ok s
  else if !pecOk then ok (s.emit .smbusNak)
  else if bytes.length = 4 ∧ ofLE bytes % 8 = 0 then ok { s with bt := { s.bt with smbusOffset := ofLE bytes } }
  else ok s

/-- R467: READ of the 8 bytes at the offset: PLATFORM registers only, and the standby domain's while the main rails are
down. -/
def execRead (pecOk : Bool) (s : State) : Host.Outcome State Fault Refusal :=
  let a := s.bt.smbusOffset
  let ones := leBytes 8 (2 ^ 64 - 1)
  if !s.bt.stbyUp ∨ s.bt.isolated then ok s
  else if !pecOk then ok (s.emit .smbusNak)
  else if 0x400000 ≤ a then ok (s.emit (.smbusData ones))
  else if s.bt.inReset ∨ s.ft.rootLost then
    (if standbyReg a then
      let r := s.readAt .smbus 8 a
      ok (r.1.emit (.smbusData (leBytes 8 r.2.toNat)))
    else ok (s.emit (.smbusData ones)))
  else
    let r := s.regRead .smbus a 8
    ok (r.1.emit (.smbusData (match r.2 with | some v => leBytes 8 v.toNat | none => ones)))

/-- R467: WRITE of 8 bytes at the offset: discarded outside the PLATFORM domain. -/
def execWrite (bytes : List Byte) (pecOk : Bool) (s : State) : Host.Outcome State Fault Refusal :=
  let a := s.bt.smbusOffset
  if !s.bt.stbyUp ∨ s.bt.isolated then ok s
  else if !pecOk then ok (s.emit .smbusNak)
  else if 0x400000 ≤ a ∨ bytes.length ≠ 8 then ok s
  else ok (s.regWrite .smbus a 8 (BitVec.ofNat 64 (ofLE bytes)))

/-! ### The crossbar loopback test (R40) -/

/-- The next bit of PRBS31, x^31 + x^28 + 1, in the form of log entry 28: the state after it, and the bit. -/
def prbs31Bit (x : Nat) : Nat × Nat :=
  let b := (x / 2 ^ 30 + x / 2 ^ 27) % 2
  (x * 2 % 2 ^ 31 + b, b)

/-- The next byte of the sequence, most significant bit first. -/
def prbs31Byte (x : Nat) : Nat × Byte :=
  let r := (List.range 8).foldl (fun (acc : Nat × Nat) _ => let q := prbs31Bit acc.1; (q.1, acc.2 * 2 + q.2)) (x, 0)
  (r.1, BitVec.ofNat 8 r.2)

/-- The next `n` bytes of the sequence. -/
def prbs31Bytes : Nat → Nat → Nat × List Byte
  | 0, x => (x, [])
  | n + 1, x =>
    let q := prbs31Byte x
    let r := prbs31Bytes n q.1
    (r.1, q.2 :: r.2)

/-- R40: the generator sends its next packet into the crossbar, while the ROUTE crossing admits new work (R23). Its packet count and
PRBS31 sequence go on where they were when LOOP_EN is cleared and set again (log entry 56). -/
def execLoopPacketGenerate (s : State) : Host.Outcome State Fault Refusal := s.clocked <|
  if !s.on Reg.GLB_SPARE_XBAR_CTRL_LOOP_EN ∨ !s.admits 2 then ok s
  else
    let r := prbs31Bytes (s.rd Reg.GLB_SPARE_XBAR_CTRL_LOOP_LEN - 16) s.spare.prbs
    let p := beBytes 4 s.spare.count ++ List.replicate 12 0 ++ r.2
    ok ({ s with spare := { count := (s.spare.count + 1) % 2 ^ 32, prbs := r.1, inFlight := s.spare.inFlight ++ [p] } }.emit (.loopback p))

/-- R40: the checker receives a packet, compares it with the one that the generator sent, and counts it. -/
def execLoopPacketCheck (rx : List Byte) (s : State) : Host.Outcome State Fault Refusal := s.clocked <|
  match s.spare.inFlight with
  | [] => ok s
  | p :: l =>
    let t := { s with spare := { s.spare with inFlight := l } }.sat Reg.GLB_SPARE_XBAR_STATUS_LOOP_PACKETS 1
    ok (if rx = p then t else t.sat Reg.GLB_SPARE_XBAR_STATUS_LOOP_ERRORS 1)

end Sys2Proof.Machine
end

