-- ==== Sys2Proof/Machine/Dispatch.lean ====
section
/-! DEFINITION. The dispatch: one arm per constructor of `Instr`. -/

namespace Sys2Proof.Machine

/-- The effect of a command on everything but the queue. -/
def exec (i : Instr) (s : State) : Host.Outcome State Fault Refusal :=
  match i with
  | .add t rd ra rb => Sys2Proof.Machine.execAdd t rd ra rb s
  | .sub t rd ra rb => Sys2Proof.Machine.execSub t rd ra rb s
  | .and t rd ra rb => Sys2Proof.Machine.execAnd t rd ra rb s
  | .or t rd ra rb => Sys2Proof.Machine.execOr t rd ra rb s
  | .xor t rd ra rb => Sys2Proof.Machine.execXor t rd ra rb s
  | .sll t rd ra rb => Sys2Proof.Machine.execSll t rd ra rb s
  | .srl t rd ra rb => Sys2Proof.Machine.execSrl t rd ra rb s
  | .sra t rd ra rb => Sys2Proof.Machine.execSra t rd ra rb s
  | .slt t rd ra rb => Sys2Proof.Machine.execSlt t rd ra rb s
  | .sltu t rd ra rb => Sys2Proof.Machine.execSltu t rd ra rb s
  | .mul t rd ra rb => Sys2Proof.Machine.execMul t rd ra rb s
  | .mulhu t rd ra rb => Sys2Proof.Machine.execMulhu t rd ra rb s
  | .mulh t rd ra rb => Sys2Proof.Machine.execMulh t rd ra rb s
  | .divu t rd ra rb => Sys2Proof.Machine.execDivu t rd ra rb s
  | .remu t rd ra rb => Sys2Proof.Machine.execRemu t rd ra rb s
  | .min t rd ra rb => Sys2Proof.Machine.execMin t rd ra rb s
  | .max t rd ra rb => Sys2Proof.Machine.execMax t rd ra rb s
  | .minu t rd ra rb => Sys2Proof.Machine.execMinu t rd ra rb s
  | .maxu t rd ra rb => Sys2Proof.Machine.execMaxu t rd ra rb s
  | .clz t rd ra rb => Sys2Proof.Machine.execClz t rd ra rb s
  | .ctz t rd ra rb => Sys2Proof.Machine.execCtz t rd ra rb s
  | .popc t rd ra rb => Sys2Proof.Machine.execPopc t rd ra rb s
  | .bswap t rd ra rb => Sys2Proof.Machine.execBswap t rd ra rb s
  | .bswap4 t rd ra rb => Sys2Proof.Machine.execBswap4 t rd ra rb s
  | .crc8 t rd ra rb => Sys2Proof.Machine.execCrc8 t rd ra rb s
  | .addi t rd ra imm => Sys2Proof.Machine.execAddi t rd ra imm s
  | .andi t rd ra imm => Sys2Proof.Machine.execAndi t rd ra imm s
  | .ori t rd ra imm => Sys2Proof.Machine.execOri t rd ra imm s
  | .xori t rd ra imm => Sys2Proof.Machine.execXori t rd ra imm s
  | .slti t rd ra imm => Sys2Proof.Machine.execSlti t rd ra imm s
  | .sltiu t rd ra imm => Sys2Proof.Machine.execSltiu t rd ra imm s
  | .shifti t rd ra imm => Sys2Proof.Machine.execShifti t rd ra imm s
  | .lih t rd imm => Sys2Proof.Machine.execLih t rd imm s
  | .lb t rd ra imm => Sys2Proof.Machine.execLb t rd ra imm s
  | .lbu t rd ra imm => Sys2Proof.Machine.execLbu t rd ra imm s
  | .lh t rd ra imm => Sys2Proof.Machine.execLh t rd ra imm s
  | .lhu t rd ra imm => Sys2Proof.Machine.execLhu t rd ra imm s
  | .lw t rd ra imm => Sys2Proof.Machine.execLw t rd ra imm s
  | .lwu t rd ra imm => Sys2Proof.Machine.execLwu t rd ra imm s
  | .ld t rd ra imm => Sys2Proof.Machine.execLd t rd ra imm s
  | .sb t rb ra imm => Sys2Proof.Machine.execSb t rb ra imm s
  | .sh t rb ra imm => Sys2Proof.Machine.execSh t rb ra imm s
  | .sw t rb ra imm => Sys2Proof.Machine.execSw t rb ra imm s
  | .sd t rb ra imm => Sys2Proof.Machine.execSd t rb ra imm s
  | .lr t rd ra imm => Sys2Proof.Machine.execLr t rd ra imm s
  | .sc t rd ra rb => Sys2Proof.Machine.execSc t rd ra rb s
  | .atomFadd t rd ra rb rc fnHi => Sys2Proof.Machine.execAtomFadd t rd ra rb rc fnHi s
  | .atomCswap t rd ra rb rc fnHi => Sys2Proof.Machine.execAtomCswap t rd ra rb rc fnHi s
  | .atomSwap t rd ra rb rc fnHi => Sys2Proof.Machine.execAtomSwap t rd ra rb rc fnHi s
  | .atomAnd t rd ra rb rc fnHi => Sys2Proof.Machine.execAtomAnd t rd ra rb rc fnHi s
  | .atomOr t rd ra rb rc fnHi => Sys2Proof.Machine.execAtomOr t rd ra rb rc fnHi s
  | .atomXor t rd ra rb rc fnHi => Sys2Proof.Machine.execAtomXor t rd ra rb rc fnHi s
  | .atomSmin t rd ra rb rc fnHi => Sys2Proof.Machine.execAtomSmin t rd ra rb rc fnHi s
  | .atomSmax t rd ra rb rc fnHi => Sys2Proof.Machine.execAtomSmax t rd ra rb rc fnHi s
  | .beq t rb ra imm => Sys2Proof.Machine.execBeq t rb ra imm s
  | .bne t rb ra imm => Sys2Proof.Machine.execBne t rb ra imm s
  | .blt t rb ra imm => Sys2Proof.Machine.execBlt t rb ra imm s
  | .bge t rb ra imm => Sys2Proof.Machine.execBge t rb ra imm s
  | .bltu t rb ra imm => Sys2Proof.Machine.execBltu t rb ra imm s
  | .bgeu t rb ra imm => Sys2Proof.Machine.execBgeu t rb ra imm s
  | .jal t rd imm => Sys2Proof.Machine.execJal t rd imm s
  | .jalr t rd ra imm => Sys2Proof.Machine.execJalr t rd ra imm s
  | .fenceFull t rd => Sys2Proof.Machine.execFenceFull t rd s
  | .fenceAcquire t rd => Sys2Proof.Machine.execFenceAcquire t rd s
  | .fenceRelease t rd => Sys2Proof.Machine.execFenceRelease t rd s
  | .fenceDevice t rd => Sys2Proof.Machine.execFenceDevice t rd s
  | .csrr t rd csr => Sys2Proof.Machine.execCsrr t rd csr s
  | .csrw t ra csr => Sys2Proof.Machine.execCsrw t ra csr s
  | .pwld t rd ra imm => Sys2Proof.Machine.execPwld t rd ra imm s
  | .pwst t rb ra imm => Sys2Proof.Machine.execPwst t rb ra imm s
  | .pnext t rd => Sys2Proof.Machine.execPnext t rd s
  | .psend t rd ra rb rc => Sys2Proof.Machine.execPsend t rd ra rb rc s
  | .pdone t rd => Sys2Proof.Machine.execPdone t rd s
  | .eidlk t rd ra => Sys2Proof.Machine.execEidlk t rd ra s
  | .copy t rd ra rb rc => Sys2Proof.Machine.execCopy t rd ra rb rc s
  | .place t rd ra rb rc => Sys2Proof.Machine.execPlace t rd ra rb rc s
  | .arrive t rd ra => Sys2Proof.Machine.execArrive t rd ra s
  | .post t rd ra => Sys2Proof.Machine.execPost t rd ra s
  | .cancel t rd ra => Sys2Proof.Machine.execCancel t rd ra s
  | .lclaim t rd ra => Sys2Proof.Machine.execLclaim t rd ra s
  | .lrel t rd ra => Sys2Proof.Machine.execLrel t rd ra s
  | .lclaimw t rd ra => Sys2Proof.Machine.execLclaimw t rd ra s
  | .lrelw t rd ra => Sys2Proof.Machine.execLrelw t rd ra s
  | .evraise t ra rb => Sys2Proof.Machine.execEvraise t ra rb s
  | .sysNop t => Sys2Proof.Machine.execSysNop t s
  | .yieldSlot t => Sys2Proof.Machine.execYieldSlot t s
  | .trap t ra => Sys2Proof.Machine.execTrap t ra s
  | .exit t => Sys2Proof.Machine.execExit t s
  | .xret t ra => Sys2Proof.Machine.execXret t ra s
  | .wait t rd => Sys2Proof.Machine.execWait t rd s
  | .registerWrite req off size v => Sys2Proof.Machine.execRegisterWrite req off size v s
  | .registerReadClear req off size => Sys2Proof.Machine.execRegisterReadClear req off size s
  | .quiesce req n v => Sys2Proof.Machine.execQuiesce req n v s
  | .resume req n v => Sys2Proof.Machine.execResume req n v s
  | .quiesceDrained n => Sys2Proof.Machine.execQuiesceDrained n s
  | .quiesceTimeout n => Sys2Proof.Machine.execQuiesceTimeout n s
  | .registerAccessTimeout req off write => Sys2Proof.Machine.execRegisterAccessTimeout req off write s
  | .refbMonitorWindow offset absent => Sys2Proof.Machine.execRefbMonitorWindow offset absent s
  | .rootUnlock => Sys2Proof.Machine.execRootUnlock s
  | .rootRelock => Sys2Proof.Machine.execRootRelock s
  | .refclkBStop => Sys2Proof.Machine.execRefclkBStop s
  | .resRelease req v => Sys2Proof.Machine.execResRelease req v s
  | .loopEn req v => Sys2Proof.Machine.execLoopEn req v s
  | .loopDisable req v => Sys2Proof.Machine.execLoopDisable req v s
  | .loopPacketGenerate => Sys2Proof.Machine.execLoopPacketGenerate s
  | .loopPacketCheck rx => Sys2Proof.Machine.execLoopPacketCheck rx s
  | .mirrorEn req v => Sys2Proof.Machine.execMirrorEn req v s
  | .mirrorDisable req v => Sys2Proof.Machine.execMirrorDisable req v s
  | .abiRequest req fn v => Sys2Proof.Machine.execAbiRequest req fn v s
  | .cmdBlockReadDone fn r => Sys2Proof.Machine.execCmdBlockReadDone fn r s
  | .commandTimeExpiry fn => Sys2Proof.Machine.execCommandTimeExpiry fn s
  | .createPd fn => Sys2Proof.Machine.execCreatePd fn s
  | .destroyPd fn => Sys2Proof.Machine.execDestroyPd fn s
  | .createCq fn => Sys2Proof.Machine.execCreateCq fn s
  | .destroyCq fn => Sys2Proof.Machine.execDestroyCq fn s
  | .createEq fn => Sys2Proof.Machine.execCreateEq fn s
  | .createQp fn qpn => Sys2Proof.Machine.execCreateQp fn qpn s
  | .modifyQpInit fn => Sys2Proof.Machine.execModifyQpInit fn s
  | .modifyQpReady fn => Sys2Proof.Machine.execModifyQpReady fn s
  | .modifyQpPaused fn => Sys2Proof.Machine.execModifyQpPaused fn s
  | .modifyQpError fn => Sys2Proof.Machine.execModifyQpError fn s
  | .modifyQpReset fn => Sys2Proof.Machine.execModifyQpReset fn s
  | .destroyQp fn => Sys2Proof.Machine.execDestroyQp fn s
  | .queryQp fn => Sys2Proof.Machine.execQueryQp fn s
  | .regMr fn => Sys2Proof.Machine.execRegMr fn s
  | .deregMr fn => Sys2Proof.Machine.execDeregMr fn s
  | .allocWindow fn => Sys2Proof.Machine.execAllocWindow fn s
  | .freeWindow fn => Sys2Proof.Machine.execFreeWindow fn s
  | .regHandler fn image => Sys2Proof.Machine.execRegHandler fn image s
  | .deregHandler fn => Sys2Proof.Machine.execDeregHandler fn s
  | .setShaper fn => Sys2Proof.Machine.execSetShaper fn s
  | .setPolicer fn => Sys2Proof.Machine.execSetPolicer fn s
  | .invXltContext fn => Sys2Proof.Machine.execInvXltContext fn s
  | .invXltRange fn => Sys2Proof.Machine.execInvXltRange fn s
  | .xltInvalidationDrain fn => Sys2Proof.Machine.execXltInvalidationDrain fn s
  | .sendDoorbell fn q size v => Sys2Proof.Machine.execSendDoorbell fn q size v s
  | .recvDoorbell fn q size v => Sys2Proof.Machine.execRecvDoorbell fn q size v s
  | .cqDoorbell fn c size v => Sys2Proof.Machine.execCqDoorbell fn c size v s
  | .eqDoorbell fn size v => Sys2Proof.Machine.execEqDoorbell fn size v s
  | .sendDescriptorRead fn q r => Sys2Proof.Machine.execSendDescriptorRead fn q r s
  | .recvDescriptorRead fn q r => Sys2Proof.Machine.execRecvDescriptorRead fn q r s
  | .nop fn q => Sys2Proof.Machine.execNop fn q s
  | .put fn q => Sys2Proof.Machine.execPut fn q s
  | .get fn q => Sys2Proof.Machine.execGet fn q s
  | .atomicFadd fn q => Sys2Proof.Machine.execAtomicFadd fn q s
  | .atomicCswap fn q => Sys2Proof.Machine.execAtomicCswap fn q s
  | .atomicSwap fn q => Sys2Proof.Machine.execAtomicSwap fn q s
  | .atomicAnd fn q => Sys2Proof.Machine.execAtomicAnd fn q s
  | .atomicOr fn q => Sys2Proof.Machine.execAtomicOr fn q s
  | .atomicXor fn q => Sys2Proof.Machine.execAtomicXor fn q s
  | .atomicSmin fn q => Sys2Proof.Machine.execAtomicSmin fn q s
  | .atomicSmax fn q => Sys2Proof.Machine.execAtomicSmax fn q s
  | .sendTagged fn q => Sys2Proof.Machine.execSendTagged fn q s
  | .bindWindow fn q => Sys2Proof.Machine.execBindWindow fn q s
  | .unbindWindow fn q => Sys2Proof.Machine.execUnbindWindow fn q s
  | .barrier fn q => Sys2Proof.Machine.execBarrier fn q s
  | .reduce fn q => Sys2Proof.Machine.execReduce fn q s
  | .allreduce fn q => Sys2Proof.Machine.execAllreduce fn q s
  | .broadcast fn q => Sys2Proof.Machine.execBroadcast fn q s
  | .recvTagged fn q => Sys2Proof.Machine.execRecvTagged fn q s
  | .sendPacketBuild fn q => Sys2Proof.Machine.execSendPacketBuild fn q s
  | .peerStateFreed fn q => Sys2Proof.Machine.execPeerStateFreed fn q s
  | .contextWaitDeadline fn q => Sys2Proof.Machine.execContextWaitDeadline fn q s
  | .seStateIdleExpiry qpn peerEid peerQpn => Sys2Proof.Machine.execSeStateIdleExpiry qpn peerEid peerQpn s
  | .wtPut port p => Sys2Proof.Machine.execWtPut port p s
  | .getReq port p => Sys2Proof.Machine.execGetReq port p s
  | .getResp port p => Sys2Proof.Machine.execGetResp port p s
  | .atomicReq port p => Sys2Proof.Machine.execAtomicReq port p s
  | .atomicResp port p => Sys2Proof.Machine.execAtomicResp port p s
  | .ack port p => Sys2Proof.Machine.execAck port p s
  | .nak port p => Sys2Proof.Machine.execNak port p s
  | .eager port p => Sys2Proof.Machine.execEager port p s
  | .rts port p => Sys2Proof.Machine.execRts port p s
  | .fin port p => Sys2Proof.Machine.execFin port p s
  | .contextFetchDone qpn peerEid peerQpn uncorrected => Sys2Proof.Machine.execContextFetchDone qpn peerEid peerQpn uncorrected s
  | .ackDelayExpiry qpn peerEid peerQpn => Sys2Proof.Machine.execAckDelayExpiry qpn peerEid peerQpn s
  | .retransmitTimeout qpn peerEid peerQpn psn => Sys2Proof.Machine.execRetransmitTimeout qpn peerEid peerQpn psn s
  | .stateMissHintExpiry qpn peerEid peerQpn psn => Sys2Proof.Machine.execStateMissHintExpiry qpn peerEid peerQpn psn s
  | .stateMissDeadline qpn peerEid peerQpn psn => Sys2Proof.Machine.execStateMissDeadline qpn peerEid peerQpn psn s
  | .resultHoldExpiry qpn peerEid peerQpn psn => Sys2Proof.Machine.execResultHoldExpiry qpn peerEid peerQpn psn s
  | .placementIssued id => Sys2Proof.Machine.execPlacementIssued id s
  | .hostReadDataReturn id r => Sys2Proof.Machine.execHostReadDataReturn id r s
  | .hostAtomicResponse id r => Sys2Proof.Machine.execHostAtomicResponse id r s
  | .storeAtomicDone id => Sys2Proof.Machine.execStoreAtomicDone id s
  | .keyDrainComplete idx => Sys2Proof.Machine.execKeyDrainComplete idx s
  | .keyDrainStall idx => Sys2Proof.Machine.execKeyDrainStall idx s
  | .cxlMemRead link addr => Sys2Proof.Machine.execCxlMemRead link addr s
  | .cxlMemWrite link addr bytes => Sys2Proof.Machine.execCxlMemWrite link addr bytes s
  | .postingResume => Sys2Proof.Machine.execPostingResume s
  | .poolResizeApply => Sys2Proof.Machine.execPoolResizeApply s
  | .fullHintExpiry qpn peerEid peerQpn => Sys2Proof.Machine.execFullHintExpiry qpn peerEid peerQpn s
  | .receiverFullDeadline qpn peerEid peerQpn psn => Sys2Proof.Machine.execReceiverFullDeadline qpn peerEid peerQpn psn s
  | .rndvWaitExpiry qpn peerEid peerQpn psn => Sys2Proof.Machine.execRndvWaitExpiry qpn peerEid peerQpn psn s
  | .handlerStart fn q t => Sys2Proof.Machine.execHandlerStart fn q t s
  | .frondCtrlWrite req v => Sys2Proof.Machine.execFrondCtrlWrite req v s
  | .frondCtrlRead req v => Sys2Proof.Machine.execFrondCtrlRead req v s
  | .swarmEnable req v => Sys2Proof.Machine.execSwarmEnable req v s
  | .swarmUpPacket port p => Sys2Proof.Machine.execSwarmUpPacket port p s
  | .swarmDownPacket port p => Sys2Proof.Machine.execSwarmDownPacket port p s
  | .swarmAbortPacket port p => Sys2Proof.Machine.execSwarmAbortPacket port p s
  | .stagingCellFree gid cell => Sys2Proof.Machine.execStagingCellFree gid cell s
  | .epochTimeout gid => Sys2Proof.Machine.execEpochTimeout gid s
  | .routerArrival port lane => Sys2Proof.Machine.execRouterArrival port lane s
  | .routingDecision port lane => Sys2Proof.Machine.execRoutingDecision port lane s
  | .egressSelect port => Sys2Proof.Machine.execEgressSelect port s
  | .wagglePeriod => Sys2Proof.Machine.execWagglePeriod s
  | .routeSwap req v => Sys2Proof.Machine.execRouteSwap req v s
  | .timedSwap => Sys2Proof.Machine.execTimedSwap s
  | .swapCancel req v => Sys2Proof.Machine.execSwapCancel req v s
  | .throttleRelease group => Sys2Proof.Machine.execThrottleRelease group s
  | .mgmtDirectedForward => Sys2Proof.Machine.execMgmtDirectedForward s
  | .claim => Sys2Proof.Machine.execClaim s
  | .release => Sys2Proof.Machine.execRelease s
  | .readReg => Sys2Proof.Machine.execReadReg s
  | .writeReg => Sys2Proof.Machine.execWriteReg s
  | .assign => Sys2Proof.Machine.execAssign s
  | .eidWrite => Sys2Proof.Machine.execEidWrite s
  | .frondWrite => Sys2Proof.Machine.execFrondWrite s
  | .swap => Sys2Proof.Machine.execSwap s
  | .echo => Sys2Proof.Machine.execEcho s
  | .rteMgmtRelease req v => Sys2Proof.Machine.execRteMgmtRelease req v s
  | .linkPacketReceive port f => Sys2Proof.Machine.execLinkPacketReceive port f s
  | .ackCredit port b => Sys2Proof.Machine.execAckCredit port b s
  | .resyncMark port b => Sys2Proof.Machine.execResyncMark port b s
  | .resyncReport port b => Sys2Proof.Machine.execResyncReport port b s
  | .timeRequest port b => Sys2Proof.Machine.execTimeRequest port b s
  | .timeResponse port b => Sys2Proof.Machine.execTimeResponse port b s
  | .waggle port b => Sys2Proof.Machine.execWaggle port b s
  | .train port b => Sys2Proof.Machine.execTrain port b s
  | .failoverRequest port b => Sys2Proof.Machine.execFailoverRequest port b s
  | .failoverResponse port b => Sys2Proof.Machine.execFailoverResponse port b s
  | .linkAckTimer port => Sys2Proof.Machine.execLinkAckTimer port s
  | .replayTimeout port => Sys2Proof.Machine.execReplayTimeout port s
  | .resyncPeriod port => Sys2Proof.Machine.execResyncPeriod port s
  | .trainTimer port => Sys2Proof.Machine.execTrainTimer port s
  | .lockLossTimeout port => Sys2Proof.Machine.execLockLossTimeout port s
  | .holdoffExpiry port => Sys2Proof.Machine.execHoldoffExpiry port s
  | .failoverTimeout port => Sys2Proof.Machine.execFailoverTimeout port s
  | .trainingTimeout port => Sys2Proof.Machine.execTrainingTimeout port s
  | .linkEnable req port v => Sys2Proof.Machine.execLinkEnable req port v s
  | .linkDisable req port v => Sys2Proof.Machine.execLinkDisable req port v s
  | .exerciseEnable req port v => Sys2Proof.Machine.execExerciseEnable req port v s
  | .reorderRelease port => Sys2Proof.Machine.execReorderRelease port s
  | .signalDetect port lane => Sys2Proof.Machine.execSignalDetect port lane s
  | .cdrLock port lane => Sys2Proof.Machine.execCdrLock port lane s
  | .blockLockAcquired port lane => Sys2Proof.Machine.execBlockLockAcquired port lane s
  | .blockLockLoss port lane => Sys2Proof.Machine.execBlockLockLoss port lane s
  | .alignmentMarkerInsert port => Sys2Proof.Machine.execAlignmentMarkerInsert port s
  | .alignmentMarkerReceive port lane marker bip => Sys2Proof.Machine.execAlignmentMarkerReceive port lane marker bip s
  | .amLockAcquired port lane logical skew => Sys2Proof.Machine.execAmLockAcquired port lane logical skew s
  | .amLockLoss port lane => Sys2Proof.Machine.execAmLockLoss port lane s
  | .checkerLock port lane => Sys2Proof.Machine.execCheckerLock port lane s
  | .checkerLockLoss port lane => Sys2Proof.Machine.execCheckerLockLoss port lane s
  | .injectOne req port lane v => Sys2Proof.Machine.execInjectOne req port lane v s
  | .injectIntervalBurst port lane => Sys2Proof.Machine.execInjectIntervalBurst port lane s
  | .eyeMonitorUpdate port lane mv ui => Sys2Proof.Machine.execEyeMonitorUpdate port lane mv ui s
  | .portRetire req port v => Sys2Proof.Machine.execPortRetire req port v s
  | .portUnretire req port v => Sys2Proof.Machine.execPortUnretire req port v s
  | .shaperRelease fn q => Sys2Proof.Machine.execShaperRelease fn q s
  | .timeSyncTimer => Sys2Proof.Machine.execTimeSyncTimer s
  | .timepulseEdge => Sys2Proof.Machine.execTimepulseEdge s
  | .pulseInClaim req v => Sys2Proof.Machine.execPulseInClaim req v s
  | .debugOutClaim req v => Sys2Proof.Machine.execDebugOutClaim req v s
  | .gateGo req port v => Sys2Proof.Machine.execGateGo req port v s
  | .gateEnable req port v => Sys2Proof.Machine.execGateEnable req port v s
  | .gateDisable req port v => Sys2Proof.Machine.execGateDisable req port v s
  | .gateListActivate port => Sys2Proof.Machine.execGateListActivate port s
  | .gateEntryAdvance port => Sys2Proof.Machine.execGateEntryAdvance port s
  | .arbiterDecision u cycle reqs => Sys2Proof.Machine.execArbiterDecision u cycle reqs s
  | .backoffExpiry u r => Sys2Proof.Machine.execBackoffExpiry u r s
  | .threadWake t reason => Sys2Proof.Machine.execThreadWake t reason s
  | .packetHandoff t p port handle fromMiss verified => Sys2Proof.Machine.execPacketHandoff t p port handle fromMiss verified s
  | .crcVerdict t ok => Sys2Proof.Machine.execCrcVerdict t ok s
  | .foragerAccessResponse t k r => Sys2Proof.Machine.execForagerAccessResponse t k r s
  | .handlerBudgetExhausted t => Sys2Proof.Machine.execHandlerBudgetExhausted t s
  | .deviceStoreAck t k => Sys2Proof.Machine.execDeviceStoreAck t k s
  | .deviceAccessTimeout t k err => Sys2Proof.Machine.execDeviceAccessTimeout t k err s
  | .lckWordClaim req w v => Sys2Proof.Machine.execLckWordClaim req w v s
  | .lckWordRelease req w v => Sys2Proof.Machine.execLckWordRelease req w v s
  | .lckForce req v => Sys2Proof.Machine.execLckForce req v s
  | .lckCompatForce req v => Sys2Proof.Machine.execLckCompatForce req v s
  | .compatRangeEnable req n v => Sys2Proof.Machine.execCompatRangeEnable req n v s
  | .walkReadResponse id r => Sys2Proof.Machine.execWalkReadResponse id r s
  | .adCasResponse id r => Sys2Proof.Machine.execAdCasResponse id r s
  | .walkTimeout id => Sys2Proof.Machine.execWalkTimeout id s
  | .xltCtxWrite req n v => Sys2Proof.Machine.execXltCtxWrite req n v s
  | .prefetchWalk fn va => Sys2Proof.Machine.execPrefetchWalk fn va s
  | .reactionDispatch => Sys2Proof.Machine.execReactionDispatch s
  | .evtStatusClear req k v => Sys2Proof.Machine.execEvtStatusClear req k v s
  | .faultInject req v => Sys2Proof.Machine.execFaultInject req v s
  | .aliveStart req v => Sys2Proof.Machine.execAliveStart req v s
  | .fltLock req v => Sys2Proof.Machine.execFltLock req v s
  | .handlerPolicyLock req v => Sys2Proof.Machine.execHandlerPolicyLock req v s
  | .adminLock req v => Sys2Proof.Machine.execAdminLock req v s
  | .replan req v m => Sys2Proof.Machine.execReplan req v m s
  | .replanTimer m => Sys2Proof.Machine.execReplanTimer m s
  | .vcoreStep => Sys2Proof.Machine.execVcoreStep s
  | .avsResponse ok readMv => Sys2Proof.Machine.execAvsResponse ok readMv s
  | .avsRetryTimer => Sys2Proof.Machine.execAvsRetryTimer s
  | .proposalApprove req v => Sys2Proof.Machine.execProposalApprove req v s
  | .proposalDecline req v => Sys2Proof.Machine.execProposalDecline req v s
  | .calendarSet req v => Sys2Proof.Machine.execCalendarSet req v s
  | .pohHour => Sys2Proof.Machine.execPohHour s
  | .thermalSample tj => Sys2Proof.Machine.execThermalSample tj s
  | .logRecordProgram ok => Sys2Proof.Machine.execLogRecordProgram ok s
  | .thermalTrip tj => Sys2Proof.Machine.execThermalTrip tj s
  | .powerOnReset => Sys2Proof.Machine.execPowerOnReset s
  | .chipReset lowNs taken => Sys2Proof.Machine.execChipReset lowNs taken s
  | .warmChipReset req v => Sys2Proof.Machine.execWarmChipReset req v s
  | .blockGo req v => Sys2Proof.Machine.execBlockGo req v s
  | .blockResetComplete unit => Sys2Proof.Machine.execBlockResetComplete unit s
  | .hostPortReset h => Sys2Proof.Machine.execHostPortReset h s
  | .perstRelease h => Sys2Proof.Machine.execPerstRelease h s
  | .functionLevelReset fn => Sys2Proof.Machine.execFunctionLevelReset fn s
  | .svnCommit req v => Sys2Proof.Machine.execSvnCommit req v s
  | .flashErase req v => Sys2Proof.Machine.execFlashErase req v s
  | .flashProgram req v => Sys2Proof.Machine.execFlashProgram req v s
  | .flashRead req v => Sys2Proof.Machine.execFlashRead req v s
  | .flashVerify req v => Sys2Proof.Machine.execFlashVerify req v s
  | .flashCommandDone ok => Sys2Proof.Machine.execFlashCommandDone ok s
  | .dbgChallenge nonce => Sys2Proof.Machine.execDbgChallenge nonce s
  | .dbgResponse scope key sig => Sys2Proof.Machine.execDbgResponse scope key sig s
  | .dbgLockoutExpiry => Sys2Proof.Machine.execDbgLockoutExpiry s
  | .jtagInstructionLoad instruction => Sys2Proof.Machine.execJtagInstructionLoad instruction s
  | .railUndervoltage rail lowNs => Sys2Proof.Machine.execRailUndervoltage rail lowNs s
  | .railRestored back mode sensorTj => Sys2Proof.Machine.execRailRestored back mode sensorTj s
  | .setOffset bytes pecOk => Sys2Proof.Machine.execSetOffset bytes pecOk s
  | .read pecOk => Sys2Proof.Machine.execRead pecOk s
  | .write bytes pecOk => Sys2Proof.Machine.execWrite bytes pecOk s
  | .counterSet req n v => Sys2Proof.Machine.execCounterSet req n v s
  | .clearAll req v => Sys2Proof.Machine.execClearAll req v s
  | .freeze req v => Sys2Proof.Machine.execFreeze req v s
  | .samplerEnable req v => Sys2Proof.Machine.execSamplerEnable req v s
  | .sampleHoldExpiry tag => Sys2Proof.Machine.execSampleHoldExpiry tag s
  | .sampleIndexCopy req v => Sys2Proof.Machine.execSampleIndexCopy req v s
  | .chipResetNRelease boardId mode sensorTj => Sys2Proof.Machine.execChipResetNRelease boardId mode sensorTj s
  | .hostLinkDown link => Sys2Proof.Machine.execHostLinkDown link s
  | .hostLinkUp link cxl => Sys2Proof.Machine.execHostLinkUp link cxl s
  | .refclkBRestore => Sys2Proof.Machine.execRefclkBRestore s
  | .stackFail st => Sys2Proof.Machine.execStackFail st s
  | .keeperCoreError core => Sys2Proof.Machine.execKeeperCoreError core s
  | .storeTempHigh st temp => Sys2Proof.Machine.execStoreTempHigh st temp s
  | .signalLoss port lane cdrOnly => Sys2Proof.Machine.execSignalLoss port lane cdrOnly s
  | .standbyPowerLoss => Sys2Proof.Machine.execStandbyPowerLoss s
  | .aliveEdge => Sys2Proof.Machine.execAliveEdge s
  | .msixVectorUnmask fn vec => Sys2Proof.Machine.execMsixVectorUnmask fn vec s
  | .hostNotifySent => Sys2Proof.Machine.execHostNotifySent s

end Sys2Proof.Machine
end

