-- ==== Sys2Proof/Machine/Tick.lean ====
section
/-! DEFINITION. A tick of the clocks, 1 ns long, which is what a step does when no command waits (R29, R30, R33, R298, R299, R317,
R429, R483; log entry 1). -/

namespace Sys2Proof.Machine

/-- Credit waits of one ns: two crossbar cycles for each port whose head packet lacks credit (R483). -/
def State.countCreditWaits (s : State) : State :=
  (s.ports.filter fun p => s.rd Reg.LNK_STATUS_STATE p.1 == 2).foldl (fun (s : State) p =>
    if (List.range 8).any fun v => match s.egressHead p.1 v with
        | some x => decide (s.avail p.1 v < (x.cells : Int))
        | none => false
    then s.count 0x090 p.1 2 else s) s

/-- One second of the calendar (R429). -/
def State.calendarSecond (s : State) : State :=
  { s with lch := { s.lch with calNs := 0 } }.wr Reg.LCH_CALENDAR_SECONDS (s.rd Reg.LCH_CALENDAR_SECONDS + 1)

/-- A tick while the root clock runs: fabric time with its slew, the hives' cycle counters, the counted cycles, the patterns of the
lanes, the calendar. The slew, of a device that follows a parent or the pin, lasts until its offset is used up; after four silent
periods it goes on (R298, R299). -/
def State.tickRunning (s : State) : State :=
  let up : Bool := decide (0 < s.sc.pace)
  let slewNow : Bool := s.on Reg.SCH_TIME_CFG_ROLE && s.sc.pace != 0 && (s.sc.slew != 0 || decide (4 ≤ s.sc.silent)) && s.root / 8 % s.sc.pace.natAbs == 0
  let dt : Nat := if slewNow then (if up then 2 else 0) else 1
  let slew : Int := if slewNow ∧ s.sc.slew ≠ 0 then (if up then s.sc.slew - 1 else s.sc.slew + 1) else s.sc.slew
  let hive := (s.root + 8) / 5 - s.root / 5
  let cycles := (List.range 8).foldl (fun m h => mset m h (mgetD m h 0 + hive)) s.fg.cycles
  let ns := s.root / 8
  let s := { s with
    root := s.root + 8, time := (s.time + dt) % 2 ^ 64, sc := { s.sc with slew := slew }, fg := { s.fg with cycles := cycles } }
  let s := ((s.count 0x000 0 2).countCreditWaits).patternTick ns
  if 10 ^ 9 ≤ s.lch.calNs + 1 then s.calendarSecond else { s with lch := { s.lch with calNs := s.lch.calNs + 1 } }

/-- A tick on the standby clock alone, which is within 200 ppm of its rate: how far it is off is a free value (log entry
2). -/
def State.tickStandby (s : State) : State :=
  let s := s.wr Reg.LCH_CALENDAR_HOLDOVER 1
  if 10 ^ 9 - 200000 + s.freeVal % 400001 ≤ s.lch.calNs + 1 then s.takeFree.calendarSecond
  else { s with lch := { s.lch with calNs := s.lch.calNs + 1 } }

/-- A tick of 1 ns. -/
def tick (s : State) : State :=
  if !s.bt.stbyUp then s
  else if s.bt.inReset ∨ s.ft.rootLost then s.tickStandby
  else s.tickRunning

end Sys2Proof.Machine
end

