-- ==== Sys2Proof/WellFormed.lean ====
section
/-! DEFINITION. Which commands are well formed: numbers within the ranges that the spec gives them, and fields of an
instruction that R324 requires to be 0. -/

namespace Sys2Proof

/-- A requester that exists: a function of R42, one of the four keeper cores, a thread (R313). -/
def reqOk (req : Requester) : Bool :=
  match req with
  | .host fn => decide (fn < 2048)
  | .bar4 fn => decide (fn < 2048)
  | .keeper core => decide (core < 4)
  | .smbus => true
  | .thread t => decide (t < 1024)

/-- The control registers that R317 lists. -/
def csrListed (n : Nat) : Bool := decide (n ≤ 0x004) || (decide (0x008 ≤ n) && decide (n ≤ 0x01A))

/-- A well-formed command. -/
def Instr.wf (i : Instr) : Bool :=
  match i with
  | .add t _ _ _ => decide (t < 1024)
  | .sub t _ _ _ => decide (t < 1024)
  | .and t _ _ _ => decide (t < 1024)
  | .or t _ _ _ => decide (t < 1024)
  | .xor t _ _ _ => decide (t < 1024)
  | .sll t _ _ _ => decide (t < 1024)
  | .srl t _ _ _ => decide (t < 1024)
  | .sra t _ _ _ => decide (t < 1024)
  | .slt t _ _ _ => decide (t < 1024)
  | .sltu t _ _ _ => decide (t < 1024)
  | .mul t _ _ _ => decide (t < 1024)
  | .mulhu t _ _ _ => decide (t < 1024)
  | .mulh t _ _ _ => decide (t < 1024)
  | .divu t _ _ _ => decide (t < 1024)
  | .remu t _ _ _ => decide (t < 1024)
  | .min t _ _ _ => decide (t < 1024)
  | .max t _ _ _ => decide (t < 1024)
  | .minu t _ _ _ => decide (t < 1024)
  | .maxu t _ _ _ => decide (t < 1024)
  | .clz t _ _ rb => decide (t < 1024) && rb == 0
  | .ctz t _ _ rb => decide (t < 1024) && rb == 0
  | .popc t _ _ rb => decide (t < 1024) && rb == 0
  | .bswap t _ _ rb => decide (t < 1024) && rb == 0
  | .bswap4 t _ _ rb => decide (t < 1024) && rb == 0
  | .crc8 t _ _ _ => decide (t < 1024)
  | .addi t _ _ _ => decide (t < 1024)
  | .andi t _ _ _ => decide (t < 1024)
  | .ori t _ _ _ => decide (t < 1024)
  | .xori t _ _ _ => decide (t < 1024)
  | .slti t _ _ _ => decide (t < 1024)
  | .sltiu t _ _ _ => decide (t < 1024)
  | .shifti t _ _ imm => decide (t < 1024) && decide (imm.toNat < 256)
  | .lih t _ _ => decide (t < 1024)
  | .lb t _ _ _ => decide (t < 1024)
  | .lbu t _ _ _ => decide (t < 1024)
  | .lh t _ _ _ => decide (t < 1024)
  | .lhu t _ _ _ => decide (t < 1024)
  | .lw t _ _ _ => decide (t < 1024)
  | .lwu t _ _ _ => decide (t < 1024)
  | .ld t _ _ _ => decide (t < 1024)
  | .sb t _ _ _ => decide (t < 1024)
  | .sh t _ _ _ => decide (t < 1024)
  | .sw t _ _ _ => decide (t < 1024)
  | .sd t _ _ _ => decide (t < 1024)
  | .lr t _ _ imm => decide (t < 1024) && imm == 0
  | .sc t _ _ _ => decide (t < 1024)
  | .atomFadd t _ _ _ _ fnHi => decide (t < 1024) && decide (fnHi.toNat < 2)
  | .atomCswap t _ _ _ _ fnHi => decide (t < 1024) && decide (fnHi.toNat < 2)
  | .atomSwap t _ _ _ _ fnHi => decide (t < 1024) && decide (fnHi.toNat < 2)
  | .atomAnd t _ _ _ _ fnHi => decide (t < 1024) && decide (fnHi.toNat < 2)
  | .atomOr t _ _ _ _ fnHi => decide (t < 1024) && decide (fnHi.toNat < 2)
  | .atomXor t _ _ _ _ fnHi => decide (t < 1024) && decide (fnHi.toNat < 2)
  | .atomSmin t _ _ _ _ fnHi => decide (t < 1024) && decide (fnHi.toNat < 2)
  | .atomSmax t _ _ _ _ fnHi => decide (t < 1024) && decide (fnHi.toNat < 2)
  | .beq t _ _ _ => decide (t < 1024)
  | .bne t _ _ _ => decide (t < 1024)
  | .blt t _ _ _ => decide (t < 1024)
  | .bge t _ _ _ => decide (t < 1024)
  | .bltu t _ _ _ => decide (t < 1024)
  | .bgeu t _ _ _ => decide (t < 1024)
  | .jal t _ _ => decide (t < 1024)
  | .jalr t _ _ _ => decide (t < 1024)
  | .fenceFull t _ => decide (t < 1024)
  | .fenceAcquire t _ => decide (t < 1024)
  | .fenceRelease t _ => decide (t < 1024)
  | .fenceDevice t _ => decide (t < 1024)
  | .csrr t _ csr => decide (t < 1024) && csrListed csr.toNat
  | .csrw t _ csr => decide (t < 1024) && csrListed csr.toNat
  | .pwld t _ _ _ => decide (t < 1024)
  | .pwst t _ _ _ => decide (t < 1024)
  | .pnext t _ => decide (t < 1024)
  | .psend t _ _ _ _ => decide (t < 1024)
  | .pdone t _ => decide (t < 1024)
  | .eidlk t _ _ => decide (t < 1024)
  | .copy t _ _ _ _ => decide (t < 1024)
  | .place t _ _ _ _ => decide (t < 1024)
  | .arrive t _ _ => decide (t < 1024)
  | .post t _ _ => decide (t < 1024)
  | .cancel t _ _ => decide (t < 1024)
  | .lclaim t _ _ => decide (t < 1024)
  | .lrel t _ _ => decide (t < 1024)
  | .lclaimw t _ _ => decide (t < 1024)
  | .lrelw t _ _ => decide (t < 1024)
  | .evraise t _ _ => decide (t < 1024)
  | .sysNop t => decide (t < 1024)
  | .yieldSlot t => decide (t < 1024)
  | .trap t _ => decide (t < 1024)
  | .exit t => decide (t < 1024)
  | .xret t _ => decide (t < 1024)
  | .wait t _ => decide (t < 1024)
  | .registerWrite req _ size _ => reqOk req && (size == 4 || size == 8)
  | .registerReadClear req _ size => reqOk req && (size == 4 || size == 8)
  | .quiesce req n _ => reqOk req && decide (n < 8)
  | .resume req n _ => reqOk req && decide (n < 8)
  | .quiesceDrained n => decide (n < 8)
  | .quiesceTimeout n => decide (n < 8)
  | .registerAccessTimeout req _ _ => reqOk req
  | .refbMonitorWindow _ _ => true
  | .rootUnlock => true
  | .rootRelock => true
  | .refclkBStop => true
  | .resRelease req _ => reqOk req
  | .loopEn req _ => reqOk req
  | .loopDisable req _ => reqOk req
  | .loopPacketGenerate => true
  | .loopPacketCheck _ => true
  | .mirrorEn req _ => reqOk req
  | .mirrorDisable req _ => reqOk req
  | .abiRequest req fn _ => reqOk req && decide (fn < 2048)
  | .cmdBlockReadDone fn _ => decide (fn < 2048)
  | .commandTimeExpiry fn => decide (fn < 2048)
  | .createPd fn => decide (fn < 2048)
  | .destroyPd fn => decide (fn < 2048)
  | .createCq fn => decide (fn < 2048)
  | .destroyCq fn => decide (fn < 2048)
  | .createEq fn => decide (fn < 2048)
  | .createQp fn qpn => decide (fn < 2048) && decide (qpn < 2 ^ 24)
  | .modifyQpInit fn => decide (fn < 2048)
  | .modifyQpReady fn => decide (fn < 2048)
  | .modifyQpPaused fn => decide (fn < 2048)
  | .modifyQpError fn => decide (fn < 2048)
  | .modifyQpReset fn => decide (fn < 2048)
  | .destroyQp fn => decide (fn < 2048)
  | .queryQp fn => decide (fn < 2048)
  | .regMr fn => decide (fn < 2048)
  | .deregMr fn => decide (fn < 2048)
  | .allocWindow fn => decide (fn < 2048)
  | .freeWindow fn => decide (fn < 2048)
  | .regHandler fn _ => decide (fn < 2048)
  | .deregHandler fn => decide (fn < 2048)
  | .setShaper fn => decide (fn < 2048)
  | .setPolicer fn => decide (fn < 2048)
  | .invXltContext fn => decide (fn < 2048)
  | .invXltRange fn => decide (fn < 2048)
  | .xltInvalidationDrain fn => decide (fn < 2048)
  | .sendDoorbell fn q size _ => decide (fn < 2048) && decide (q < 2 ^ 21) && (size == 4 || size == 8)
  | .recvDoorbell fn q size _ => decide (fn < 2048) && decide (q < 2 ^ 21) && (size == 4 || size == 8)
  | .cqDoorbell fn _ size _ => decide (fn < 2048) && (size == 4 || size == 8)
  | .eqDoorbell fn size _ => decide (fn < 2048) && (size == 4 || size == 8)
  | .sendDescriptorRead fn q _ => decide (fn < 2048) && decide (q < 2 ^ 21)
  | .recvDescriptorRead fn q _ => decide (fn < 2048) && decide (q < 2 ^ 21)
  | .nop fn q => decide (fn < 2048) && decide (q < 2 ^ 21)
  | .put fn q => decide (fn < 2048) && decide (q < 2 ^ 21)
  | .get fn q => decide (fn < 2048) && decide (q < 2 ^ 21)
  | .atomicFadd fn q => decide (fn < 2048) && decide (q < 2 ^ 21)
  | .atomicCswap fn q => decide (fn < 2048) && decide (q < 2 ^ 21)
  | .atomicSwap fn q => decide (fn < 2048) && decide (q < 2 ^ 21)
  | .atomicAnd fn q => decide (fn < 2048) && decide (q < 2 ^ 21)
  | .atomicOr fn q => decide (fn < 2048) && decide (q < 2 ^ 21)
  | .atomicXor fn q => decide (fn < 2048) && decide (q < 2 ^ 21)
  | .atomicSmin fn q => decide (fn < 2048) && decide (q < 2 ^ 21)
  | .atomicSmax fn q => decide (fn < 2048) && decide (q < 2 ^ 21)
  | .sendTagged fn q => decide (fn < 2048) && decide (q < 2 ^ 21)
  | .bindWindow fn q => decide (fn < 2048) && decide (q < 2 ^ 21)
  | .unbindWindow fn q => decide (fn < 2048) && decide (q < 2 ^ 21)
  | .barrier fn q => decide (fn < 2048) && decide (q < 2 ^ 21)
  | .reduce fn q => decide (fn < 2048) && decide (q < 2 ^ 21)
  | .allreduce fn q => decide (fn < 2048) && decide (q < 2 ^ 21)
  | .broadcast fn q => decide (fn < 2048) && decide (q < 2 ^ 21)
  | .recvTagged fn q => decide (fn < 2048) && decide (q < 2 ^ 21)
  | .sendPacketBuild fn q => decide (fn < 2048) && decide (q < 2 ^ 21)
  | .peerStateFreed fn q => decide (fn < 2048) && decide (q < 2 ^ 21)
  | .contextWaitDeadline fn q => decide (fn < 2048) && decide (q < 2 ^ 21)
  | .seStateIdleExpiry qpn peerEid peerQpn => decide (qpn < 2 ^ 24) && decide (peerEid < 2 ^ 20) && decide (peerQpn < 2 ^ 24)
  | .wtPut port _ => decide (port < 72)
  | .getReq port _ => decide (port < 72)
  | .getResp port _ => decide (port < 72)
  | .atomicReq port _ => decide (port < 72)
  | .atomicResp port _ => decide (port < 72)
  | .ack port _ => decide (port < 72)
  | .nak port _ => decide (port < 72)
  | .eager port _ => decide (port < 72)
  | .rts port _ => decide (port < 72)
  | .fin port _ => decide (port < 72)
  | .contextFetchDone qpn peerEid peerQpn _ => decide (qpn < 2 ^ 24) && decide (peerEid < 2 ^ 20) && decide (peerQpn < 2 ^ 24)
  | .ackDelayExpiry qpn peerEid peerQpn => decide (qpn < 2 ^ 24) && decide (peerEid < 2 ^ 20) && decide (peerQpn < 2 ^ 24)
  | .retransmitTimeout qpn peerEid peerQpn psn => decide (qpn < 2 ^ 24) && decide (peerEid < 2 ^ 20) && decide (peerQpn < 2 ^ 24) && decide (psn < 2 ^ 24)
  | .stateMissHintExpiry qpn peerEid peerQpn psn => decide (qpn < 2 ^ 24) && decide (peerEid < 2 ^ 20) && decide (peerQpn < 2 ^ 24) && decide (psn < 2 ^ 24)
  | .stateMissDeadline qpn peerEid peerQpn psn => decide (qpn < 2 ^ 24) && decide (peerEid < 2 ^ 20) && decide (peerQpn < 2 ^ 24) && decide (psn < 2 ^ 24)
  | .resultHoldExpiry qpn peerEid peerQpn psn => decide (qpn < 2 ^ 24) && decide (peerEid < 2 ^ 20) && decide (peerQpn < 2 ^ 24) && decide (psn < 2 ^ 24)
  | .placementIssued _ => true
  | .hostReadDataReturn _ _ => true
  | .hostAtomicResponse _ _ => true
  | .storeAtomicDone _ => true
  | .keyDrainComplete _ => true
  | .keyDrainStall _ => true
  | .cxlMemRead link _ => decide (link < 8)
  | .cxlMemWrite link _ _ => decide (link < 8)
  | .postingResume => true
  | .poolResizeApply => true
  | .fullHintExpiry qpn peerEid peerQpn => decide (qpn < 2 ^ 24) && decide (peerEid < 2 ^ 20) && decide (peerQpn < 2 ^ 24)
  | .receiverFullDeadline qpn peerEid peerQpn psn => decide (qpn < 2 ^ 24) && decide (peerEid < 2 ^ 20) && decide (peerQpn < 2 ^ 24) && decide (psn < 2 ^ 24)
  | .rndvWaitExpiry qpn peerEid peerQpn psn => decide (qpn < 2 ^ 24) && decide (peerEid < 2 ^ 20) && decide (peerQpn < 2 ^ 24) && decide (psn < 2 ^ 24)
  | .handlerStart fn q t => decide (fn < 2048) && decide (q < 2 ^ 21) && decide (t < 1024)
  | .frondCtrlWrite req _ => reqOk req
  | .frondCtrlRead req _ => reqOk req
  | .swarmEnable req _ => reqOk req
  | .swarmUpPacket port _ => decide (port < 72)
  | .swarmDownPacket port _ => decide (port < 72)
  | .swarmAbortPacket port _ => decide (port < 72)
  | .stagingCellFree gid _ => decide (gid < 65536)
  | .epochTimeout gid => decide (gid < 65536)
  | .routerArrival port lane => decide (port < 72) && decide (lane < 2)
  | .routingDecision port lane => decide (port < 72) && decide (lane < 2)
  | .egressSelect port => decide (port < 72)
  | .wagglePeriod => true
  | .routeSwap req _ => reqOk req
  | .timedSwap => true
  | .swapCancel req _ => reqOk req
  | .throttleRelease group => decide (group < 16)
  | .mgmtDirectedForward => true
  | .claim => true
  | .release => true
  | .readReg => true
  | .writeReg => true
  | .assign => true
  | .eidWrite => true
  | .frondWrite => true
  | .swap => true
  | .echo => true
  | .rteMgmtRelease req _ => reqOk req
  | .linkPacketReceive port _ => decide (port < 72)
  | .ackCredit port _ => decide (port < 72)
  | .resyncMark port _ => decide (port < 72)
  | .resyncReport port _ => decide (port < 72)
  | .timeRequest port _ => decide (port < 72)
  | .timeResponse port _ => decide (port < 72)
  | .waggle port _ => decide (port < 72)
  | .train port _ => decide (port < 72)
  | .failoverRequest port _ => decide (port < 72)
  | .failoverResponse port _ => decide (port < 72)
  | .linkAckTimer port => decide (port < 72)
  | .replayTimeout port => decide (port < 72)
  | .resyncPeriod port => decide (port < 72)
  | .trainTimer port => decide (port < 72)
  | .lockLossTimeout port => decide (port < 72)
  | .holdoffExpiry port => decide (port < 72)
  | .failoverTimeout port => decide (port < 72)
  | .trainingTimeout port => decide (port < 72)
  | .linkEnable req port _ => reqOk req && decide (port < 72)
  | .linkDisable req port _ => reqOk req && decide (port < 72)
  | .exerciseEnable req port _ => reqOk req && decide (port < 72)
  | .reorderRelease port => decide (port < 72)
  | .signalDetect port lane => decide (port < 72) && decide (lane < 2)
  | .cdrLock port lane => decide (port < 72) && decide (lane < 2)
  | .blockLockAcquired port lane => decide (port < 72) && decide (lane < 2)
  | .blockLockLoss port lane => decide (port < 72) && decide (lane < 2)
  | .alignmentMarkerInsert port => decide (port < 72)
  | .alignmentMarkerReceive port lane _ _ => decide (port < 72) && decide (lane < 2)
  | .amLockAcquired port lane _ _ => decide (port < 72) && decide (lane < 2)
  | .amLockLoss port lane => decide (port < 72) && decide (lane < 2)
  | .checkerLock port lane => decide (port < 72) && decide (lane < 2)
  | .checkerLockLoss port lane => decide (port < 72) && decide (lane < 2)
  | .injectOne req port lane _ => reqOk req && decide (port < 72) && decide (lane < 2)
  | .injectIntervalBurst port lane => decide (port < 72) && decide (lane < 2)
  | .eyeMonitorUpdate port lane _ _ => decide (port < 72) && decide (lane < 2)
  | .portRetire req port _ => reqOk req && decide (port < 72)
  | .portUnretire req port _ => reqOk req && decide (port < 72)
  | .shaperRelease fn q => decide (fn < 2048) && decide (q < 2 ^ 21)
  | .timeSyncTimer => true
  | .timepulseEdge => true
  | .pulseInClaim req _ => reqOk req
  | .debugOutClaim req _ => reqOk req
  | .gateGo req port _ => reqOk req && decide (port < 72)
  | .gateEnable req port _ => reqOk req && decide (port < 72)
  | .gateDisable req port _ => reqOk req && decide (port < 72)
  | .gateListActivate port => decide (port < 72)
  | .gateEntryAdvance port => decide (port < 72)
  | .arbiterDecision u _ _ => decide (u < 22)
  | .backoffExpiry u _ => decide (u < 22)
  | .threadWake t _ => decide (t < 1024)
  | .packetHandoff t _ port _ _ _ => decide (t < 1024) && decide (port < 72)
  | .crcVerdict t _ => decide (t < 1024)
  | .foragerAccessResponse t _ _ => decide (t < 1024)
  | .handlerBudgetExhausted t => decide (t < 1024)
  | .deviceStoreAck t _ => decide (t < 1024)
  | .deviceAccessTimeout t _ _ => decide (t < 1024)
  | .lckWordClaim req w _ => reqOk req && decide (w < 4096)
  | .lckWordRelease req w _ => reqOk req && decide (w < 4096)
  | .lckForce req _ => reqOk req
  | .lckCompatForce req _ => reqOk req
  | .compatRangeEnable req n _ => reqOk req && decide (n < 8)
  | .walkReadResponse _ _ => true
  | .adCasResponse _ _ => true
  | .walkTimeout _ => true
  | .xltCtxWrite req n _ => reqOk req && decide (n < 2048)
  | .prefetchWalk fn _ => decide (fn < 2048)
  | .reactionDispatch => true
  | .evtStatusClear req k _ => reqOk req && decide (k < 16)
  | .faultInject req _ => reqOk req
  | .aliveStart req _ => reqOk req
  | .fltLock req _ => reqOk req
  | .handlerPolicyLock req _ => reqOk req
  | .adminLock req _ => reqOk req
  | .replan req _ _ => reqOk req
  | .replanTimer _ => true
  | .vcoreStep => true
  | .avsResponse _ _ => true
  | .avsRetryTimer => true
  | .proposalApprove req _ => reqOk req
  | .proposalDecline req _ => reqOk req
  | .calendarSet req _ => reqOk req
  | .pohHour => true
  | .thermalSample _ => true
  | .logRecordProgram _ => true
  | .thermalTrip _ => true
  | .powerOnReset => true
  | .chipReset _ _ => true
  | .warmChipReset req _ => reqOk req
  | .blockGo req _ => reqOk req
  | .blockResetComplete _ => true
  | .hostPortReset h => decide (h < 4)
  | .perstRelease h => decide (h < 4)
  | .functionLevelReset fn => decide (fn < 2048)
  | .svnCommit req _ => reqOk req
  | .flashErase req _ => reqOk req
  | .flashProgram req _ => reqOk req
  | .flashRead req _ => reqOk req
  | .flashVerify req _ => reqOk req
  | .flashCommandDone _ => true
  | .dbgChallenge _ => true
  | .dbgResponse _ _ _ => true
  | .dbgLockoutExpiry => true
  | .jtagInstructionLoad _ => true
  | .railUndervoltage rail _ => decide (rail < 5)
  | .railRestored _ _ _ => true
  | .setOffset _ _ => true
  | .read _ => true
  | .write _ _ => true
  | .counterSet req n _ => reqOk req && decide (n < 512)
  | .clearAll req _ => reqOk req
  | .freeze req _ => reqOk req
  | .samplerEnable req _ => reqOk req
  | .sampleHoldExpiry _ => true
  | .sampleIndexCopy req _ => reqOk req
  | .chipResetNRelease _ _ _ => true
  | .hostLinkDown link => decide (link < 8)
  | .hostLinkUp link _ => decide (link < 8)
  | .refclkBRestore => true
  | .stackFail _ => true
  | .keeperCoreError core => decide (core < 4)
  | .storeTempHigh _ _ => true
  | .signalLoss port lane _ => decide (port < 72) && decide (lane < 2)
  | .standbyPowerLoss => true
  | .aliveEdge => true
  | .msixVectorUnmask fn _ => decide (fn < 2048)
  | .hostNotifySent => true

end Sys2Proof
end

