-- ==== Sys2Proof/Safety.lean ====
section
/-! DEFINITION. What a safe run is, in the terms that claims use: a command completes, the canonical forms of what the state
holds, and the conditions under which a thread's instruction issues and what follows from its issue. -/

namespace Sys2Proof.Machine

/-- A command has an effect in a state: it ends in no fault and no refusal. -/
def Completes (i : Instr) (s : State) : Prop := ∃ t, exec i s = .next t

/-- The memories of the device are in their canonical form: store, flash and the hives' SRAM (R103, R318, R439). -/
def State.memoryWf (s : State) : Bool :=
  Memory.wf 0 s.store && Memory.wf 0xFF s.flash && s.fg.sram.all fun p => Memory.wf 0 p.2

/-- The register file lists its addresses in rising order. -/
def State.regsWf (s : State) : Bool := Map.wf s.regs

/-- The derived clocks run, so that commands act (R33). -/
abbrev State.clocks (s : State) : Prop := s.ft.rootLost = false

/-- The derived clocks run, and JTAG has not isolated the core from its pins (R31, R33, R447). -/
abbrev State.pins (s : State) : Prop := s.ft.rootLost = false ∧ s.bt.isolated = false

/-- Commands of what goes on while the root clock is unlocked: clocks, rails, resets, JTAG, the SMBus target (R33, R430, R447, R462,
R467). -/
def standbyCommand : Instr → Bool
  | .rootRelock | .refclkBStop | .refclkBRestore | .thermalTrip .. | .powerOnReset | .standbyPowerLoss | .chipReset .. | .chipResetNRelease ..
  | .railUndervoltage .. | .railRestored .. | .jtagInstructionLoad .. | .setOffset .. | .read .. | .write .. | .hostNotifySent => true
  | _ => false

/-! ### Instructions of a thread -/

/-- The instruction issues on the thread now: the clocks run, the thread runs and waits for nothing, no load that the instruction waits
for is on its way, no error is due, a handler has budget and may use the instruction, its word is legal, and a packet in the window has
passed its CRC where that matters (R33, R313, R315, R324, R333, R337, R346). -/
def State.canIssue (s : State) (t : Nat) (i : Instr) : Bool :=
  let x := s.thread t
  let w := (encodeWord i).getD 0
  !s.ft.rootLost && decide (t < 1024) && x.st == .running && x.wait == .none && !x.waitsOn w && x.contained.isNone
    && !(x.priv == 1 && x.budget == 0) && wordOk i t && !illegalUse (x.priv == 1) i && !(x.priv == 1 && !handlerAllows i)
    && !(effectful w && (x.discarded || x.unverified))

/-- Nothing beside the instruction happens as the thread issues: the sampler is off and follows nothing of the thread, no bit error waits
to be met, and no access of the thread waits for a walk (R402, R484, R485). -/
def State.calm (s : State) (t : Nat) : Bool :=
  !s.on Reg.CTR_SAMPLE_CFG_ENABLE && (s.thread t).tag.isNone && s.soft.isEmpty && s.xl.opens.all fun a => !(a.who == .thread t)

/-- The counters after one instruction of a thread (R483). -/
def State.counted (s : State) (t : Nat) : State := s.count 0x100 (t / 128) 1 (s.threadOwner t)

/-- A thread that has paid for one instruction: a handler's BUDGET_LEFT falls by 1 (R346), and a load that issued before it may trap no
more (log entry 50). -/
def Thread.spent (x : Thread) : Thread := { x with budget := if x.priv = 1 then x.budget - 1 else x.budget, last := none }

/-- The state in which an instruction of a thread has its effect: counted, and taken from a handler's budget. -/
def State.fired (s : State) (t : Nat) : State := (s.counted t).setThread t (s.thread t).spent

/-- The state after an instruction that changes its own thread and nothing else: the counters count it, and the thread is as
`f` makes it. -/
def State.stepped (s : State) (t : Nat) (f : Thread → Thread) : Host.Outcome State Fault Refusal :=
  .next ((s.counted t).setThread t (f (s.thread t).spent))

/-- A thread whose instruction has written `v` to `rd` and goes on with the next word. -/
def Thread.wrote (rd : GReg) (v : Word) (x : Thread) : Thread := { x.put rd v with pc := x.pc + 4 }

/-- A firmware thread that has trapped: cause, information and detail, and where it goes on (R345). -/
def Thread.trapped (cause : Nat) (info : Word) (detail : Nat) (x : Thread) : Thread :=
  { x.loseResv with trapCause := cause, trapPc := x.pc, trapInfo := info, trapDetail := detail, inTrap := true, pc := x.trapVec }

/-- A firmware thread that is not in its trap routine, with a trap routine inside its code (R345). -/
def Thread.mayTrap (x : Thread) : Bool := x.run.isNone && !x.inTrap && inCode x.code x.trapVec

/-! ### Accesses of a thread -/

/-- An access of `n` bytes at a forager address lies in hive SRAM or in the store without key and device attribute, at an aligned
address `p` of its target: one piece, and no walk (R318, R354, R367). -/
def State.lands (s : State) (t : Nat) (a : Word) (n kind : Nat) (tg : Target) (p : Nat) : Prop :=
  s.resolve t a n kind = (s, .ok { target := tg, pieces := [(p, n)] }) ∧ bits a 60 4 < 2 ∧ p % n = 0
    ∧ (tg = .store ∨ ∃ h, tg = .hive h)

/-- Nothing of the thread's accesses under way shares a byte with a range of a target. -/
def Thread.clear (x : Thread) (tg : Target) (p n : Nat) : Bool := x.pend.all fun a => a.performed || !a.meets tg p n

/-- A thread that has issued one more access and goes on at `pc`. -/
def Thread.accessed (a : Access) (pc : Nat) (x : Thread) : Thread :=
  { x with pend := x.pend ++ [{ a with id := x.nextAcc }], nextAcc := x.nextAcc + 1, pc := pc }

/-- A thread that has issued a read that gives a value, and goes on (R344). -/
def Thread.asked (a : Access) (pc : Nat) (x : Thread) : Thread := { x.accessed a pc with last := some x.nextAcc }

/-- A thread without one of its accesses. -/
def Thread.without (k : Nat) (x : Thread) : Thread := { x with pend := x.pend.filter fun a => a.id != k }

/-- The unit reads and writes of hive SRAM or store for an access that nothing holds up: the access number `k` of the thread,
keyless, untagged, alone in its group, not performed, and free to be performed; the thread waits for nothing (R357, R359, R360). -/
def State.due (s : State) (t k : Nat) (a : Access) : Bool :=
  let x := s.thread t
  x.access k == some a && a.id == k && a.key.isNone && a.tag.isNone && x.tag.isNone && !a.performed && !a.reached && !a.call && !a.device
    && x.pend.all (fun b => b == a || (b.group != a.group && b.id != k)) && x.mayPerform a && (x.ownStore a).isNone && x.wait == .none
    && a.off == 0

/-! ### Register writes -/

/-- The word that the register at an address would hold after an 8-byte write, and whether a rule rejects part of it (R6). -/
def State.wordAfter (s : State) (a : Nat) (v : Word) : Word × Bool :=
  match specOf a with
  | some r => s.candidate a r (s.reg a r.rst) v (BitVec.allOnes 64)
  | none => (0, true)

/-- An 8-byte write of a value by a requester at an offset is let in, names the register at `a`, may be made, and breaks no rule
(R6, R473 to R477). -/
def State.accepts (s : State) (req : Requester) (off a : Nat) (v : Word) : Prop :=
  s.reaches req off = true ∧ off % 8 = 0 ∧ s.viewOf req off = none ∧ homeOf req off = some a ∧ (∀ w, s.mayWrite req a w = true)
    ∧ (s.wordAfter a v).2 = false

/-- The state with the fields of a write in their register, but for those that the write's action sets. -/
def State.stored (s : State) (a : Nat) (v : Word) : State :=
  match specOf a with
  | some r =>
    let w := (revert r.fields (deferred a) (s.reg a r.rst) (s.wordAfter a v).1).1
    if w = s.reg a r.rst then s else { s with regs := mset s.regs a w }
  | none => s

/-- The record of an accepted 8-byte write, for its action. -/
def State.writeOf (s : State) (req : Requester) (a : Nat) (v : Word) : Write :=
  { req := req, addr := a, old := ((specOf a).map fun r => s.reg a r.rst).getD 0, cand := (s.wordAfter a v).1, new := v,
    mask := BitVec.allOnes 64 }

/-! ### Network ports -/

/-- A command answers a next state, and that state has a property. -/
def Leads (i : Instr) (s : State) (P : State → Prop) : Prop := ∃ t, exec i s = .next t ∧ P t

/-- A block of a type is one that a port in the agreed version takes: its length, its CRC, its type, no reserved bit (R232, R233, R250,
R257). -/
def State.takesBlock (s : State) (p type : Nat) (b : List Byte) : Prop :=
  b.length = 32 ∧ beBytes 4 (crcLink (b.take 28)).toNat = b.drop 28 ∧ at_ b 0 = type ∧ type < 8 ∧ ctrlClean type b = true
    ∧ (s.rd Reg.LNK_STATUS_VERSION p = 1 → type ≠ 4 ∧ type ≠ 5 ∧ type ≠ 7)

/-- The frame of a packet with a link header (R228, R229): LSN, lane and bytes, whole, with the right CRC. -/
def soundFrame (f : LinkFrame) (v lsn : Nat) (b : List Byte) : Prop :=
  f.header = linkHeader v lsn b.length false ∧ f.bytes = b ∧ f.errored = [] ∧ f.begun = false ∧ f.crc = crcLink (f.header ++ b)
    ∧ 16 ≤ b.length ∧ b.length ≤ 4160 ∧ v < 8 ∧ lsn < 2 ^ 24

end Sys2Proof.Machine
end

