-- ==== Sys2Proof/Certificates/Slice0/Obligations.lean ====
section
/-! DEFINITION. The statements for the provers, each with the rules it comes from. -/

open Sys2Proof Sys2Proof.Machine

/-- A step runs the command at the front of the queue, on the state with the rest of the queue.
With no command waiting a step is one tick of the clocks, 1 ns (a choice of the model: log entry 1). -/
def Obligations.StepRunsTheFrontCommand : Prop :=
  (∀ (c : Instr) (l : List Instr) (s : State), step { s with pending := c :: l } = exec c { s with pending := l })
  ∧ (∀ s : State, s.pending = [] → step s = .next (tick s))

/-- From R325: every ALU instruction that issues writes its value to rd, goes on with the next word, and changes nothing else. A unary one with
an rb, and a word with FN[10:5] other than 0, is illegal.
From R325: what CLZ, CTZ, POPC, BSWAP, BSWAP4 and CRC8 compute: the leading and trailing zero bits, the one bits, the bytes in reverse order,
and the CRC-32C of the words' bytes. -/
def Obligations.AluInstructionsWriteTheirValue : Prop :=
  (∀ (s : State) (t : Nat) (rd ra rb : GReg), s.calm t → (s.thread t).pc + 4 < (s.thread t).code →
    let a := s.greg t ra
    let b := s.greg t rb
    let gives (i : Instr) (v : Word) : Prop := s.canIssue t i → exec i s = s.stepped t (Thread.wrote rd v)
    gives (.add t rd ra rb) (a + b) ∧ gives (.sub t rd ra rb) (a - b) ∧ gives (.and t rd ra rb) (a &&& b)
      ∧ gives (.or t rd ra rb) (a ||| b) ∧ gives (.xor t rd ra rb) (a ^^^ b) ∧ gives (.sll t rd ra rb) (a <<< (b.toNat % 64))
      ∧ gives (.srl t rd ra rb) (a >>> (b.toNat % 64)) ∧ gives (.sra t rd ra rb) (a.sshiftRight (b.toNat % 64))
      ∧ gives (.slt t rd ra rb) (if a.toInt < b.toInt then 1 else 0) ∧ gives (.sltu t rd ra rb) (if a.toNat < b.toNat then 1 else 0)
      ∧ gives (.mul t rd ra rb) (BitVec.ofNat 64 (a.toNat * b.toNat))
      ∧ gives (.mulhu t rd ra rb) (BitVec.ofNat 64 (a.toNat * b.toNat / 2 ^ 64))
      ∧ gives (.mulh t rd ra rb) (BitVec.ofInt 64 (a.toInt * b.toInt / 2 ^ 64))
      ∧ gives (.divu t rd ra rb) (if b = 0 then BitVec.allOnes 64 else BitVec.ofNat 64 (a.toNat / b.toNat))
      ∧ gives (.remu t rd ra rb) (if b = 0 then a else BitVec.ofNat 64 (a.toNat % b.toNat))
      ∧ gives (.min t rd ra rb) (BitVec.ofInt 64 (min a.toInt b.toInt)) ∧ gives (.max t rd ra rb) (BitVec.ofInt 64 (max a.toInt b.toInt))
      ∧ gives (.minu t rd ra rb) (BitVec.ofNat 64 (min a.toNat b.toNat)) ∧ gives (.maxu t rd ra rb) (BitVec.ofNat 64 (max a.toNat b.toNat))
      ∧ gives (.clz t rd ra rb) (BitVec.ofNat 64 (leadingZeros a)) ∧ gives (.ctz t rd ra rb) (BitVec.ofNat 64 (trailingZeros a))
      ∧ gives (.popc t rd ra rb) (BitVec.ofNat 64 (oneBits a)) ∧ gives (.bswap t rd ra rb) (reverseBytes 8 a)
      ∧ gives (.bswap4 t rd ra rb) (reverseBytes 4 a) ∧ gives (.crc8 t rd ra rb) (crc8Step a b)
      ∧ (∀ i ∈ [.clz t rd ra rb, .ctz t rd ra rb, .popc t rd ra rb, .bswap t rd ra rb, .bswap4 t rd ra rb], rb ≠ 0 → wordOk i t = false)
      ∧ ∀ w, opOf w = 0x01 → 32 ≤ (fnOf w).toNat → decodeWord t w = none)
  ∧ (∀ a : Word,
    (leadingZeros a = 64 ↔ a = 0) ∧ (a ≠ 0 → leadingZeros a < 64 ∧ 2 ^ (63 - leadingZeros a) ≤ a.toNat ∧ a.toNat < 2 ^ (64 - leadingZeros a))
    ∧ (trailingZeros a = 64 ↔ a = 0)
    ∧ (a ≠ 0 → a.getLsbD (trailingZeros a) = true ∧ ∀ k < trailingZeros a, a.getLsbD k = false)
    ∧ (∀ i < 8, (reverseBytes 8 a).extractLsb' (8 * i) 8 = a.extractLsb' (8 * (7 - i)) 8)
    ∧ (∀ i < 4, (reverseBytes 4 a).extractLsb' (8 * i) 8 = a.extractLsb' (8 * (3 - i)) 8)
    ∧ (reverseBytes 4 a).extractLsb' 32 32 = 0
    ∧ oneBits a = ((List.range 64).map fun k => if a.getLsbD k then 1 else 0).sum
    ∧ (∀ b, (crc8Step a b).extractLsb' 32 32 = 0)
    ∧ ∀ l : List Word, ~~~((l.foldl crc8Step 0xFFFFFFFF).setWidth 32) = crc32c (l.flatMap fun w => beBytes 8 w.toNat))

/-- From R326: every ALU instruction with an immediate that issues writes its value to rd, goes on with the next word, and changes
nothing else. -/
def Obligations.ImmediateInstructionsWriteTheirValue : Prop :=
  ∀ (s : State) (t : Nat) (rd ra : GReg) (imm : BitVec 16) (imm21 : BitVec 21), s.calm t → (s.thread t).pc + 4 < (s.thread t).code →
    let a := s.greg t ra
    let gives (i : Instr) (v : Word) : Prop := s.canIssue t i → exec i s = s.stepped t (Thread.wrote rd v)
    gives (.addi t rd ra imm) (a + imm.signExtend 64) ∧ gives (.andi t rd ra imm) (a &&& imm.setWidth 64)
      ∧ gives (.ori t rd ra imm) (a ||| imm.setWidth 64) ∧ gives (.xori t rd ra imm) (a ^^^ imm.setWidth 64)
      ∧ gives (.slti t rd ra imm) (if a.toInt < imm.toInt then 1 else 0)
      ∧ gives (.sltiu t rd ra imm) (if a.toNat < imm.toNat then 1 else 0)
      ∧ (imm.toNat < 64 → gives (.shifti t rd ra imm) (a <<< imm.toNat))
      ∧ (64 ≤ imm.toNat → imm.toNat < 128 → gives (.shifti t rd ra imm) (a >>> (imm.toNat - 64)))
      ∧ (128 ≤ imm.toNat → imm.toNat < 192 → gives (.shifti t rd ra imm) (a.sshiftRight (imm.toNat - 128)))
      ∧ (192 ≤ imm.toNat → imm.toNat < 256 → gives (.shifti t rd ra imm) (a.rotateRight (imm.toNat - 192)))
      ∧ (256 ≤ imm.toNat → wordOk (.shifti t rd ra imm) t = false)
      ∧ gives (.lih t rd imm21) (imm21.signExtend 64 <<< 16)

/-- From R327: a branch goes to PC + 4 × IMM16 where its comparison holds and the target lies in the code, and on to the next word
where it does not hold; a jump writes PC + 4 to rd, even where rd is ra.
From R327, R345: on a firmware thread outside its trap routine a branch that holds or a jump whose target is not 4-byte aligned or lies outside the code
traps FETCH at the jump, with the target offset in TRAP_INFO, and an instruction that falls through the last word traps FETCH
there. -/
def Obligations.BranchesAndJumpsGoToTheirTarget : Prop :=
  (∀ (s : State) (t : Nat) (rd rb ra : GReg) (imm : BitVec 16) (imm21 : BitVec 21), s.calm t →
    let x := s.thread t
    let a := s.greg t ra
    let b := s.greg t rb
    let branch (i : Instr) (c : Prop) : Prop := s.canIssue t i →
      (c → inCode x.code (x.pc + 4 * imm.toInt) → exec i s = s.stepped t fun y => { y with pc := (x.pc + 4 * imm.toInt).toNat })
      ∧ (¬c → x.pc + 4 < x.code → exec i s = s.stepped t fun y => { y with pc := x.pc + 4 })
    let jump (i : Instr) (target : Int) : Prop := s.canIssue t i → inCode x.code target →
      exec i s = s.stepped t fun y => { y.put rd (BitVec.ofNat 64 (x.pc + 4)) with pc := target.toNat }
    branch (.beq t rb ra imm) (a = b) ∧ branch (.bne t rb ra imm) (a ≠ b) ∧ branch (.blt t rb ra imm) (a.toInt < b.toInt)
      ∧ branch (.bge t rb ra imm) (b.toInt ≤ a.toInt) ∧ branch (.bltu t rb ra imm) (a.toNat < b.toNat)
      ∧ branch (.bgeu t rb ra imm) (b.toNat ≤ a.toNat) ∧ jump (.jal t rd imm21) (x.pc + 4 * imm21.toInt)
      ∧ jump (.jalr t rd ra imm) (a + imm.signExtend 64).toNat)
  ∧ (∀ (s : State) (t : Nat) (rd ra rb : GReg) (imm : BitVec 16) (imm21 : BitVec 21), s.calm t → (s.thread t).mayTrap →
    let x := s.thread t
    let a := s.greg t ra
    let b := s.greg t rb
    let leaves (i : Instr) (holds : Prop) : Prop := s.canIssue t i → holds → inCode x.code (x.pc + 4 * imm.toInt) = false →
      exec i s = s.stepped t (Thread.trapped 3 (BitVec.ofInt 64 (x.pc + 4 * imm.toInt)) 0)
    (leaves (.beq t rb ra imm) (a = b) ∧ leaves (.bne t rb ra imm) (a ≠ b) ∧ leaves (.blt t rb ra imm) (a.toInt < b.toInt)
      ∧ leaves (.bge t rb ra imm) (b.toInt ≤ a.toInt) ∧ leaves (.bltu t rb ra imm) (a.toNat < b.toNat)
      ∧ leaves (.bgeu t rb ra imm) (b.toNat ≤ a.toNat))
    ∧ (s.canIssue t (.jal t rd imm21) → inCode x.code (x.pc + 4 * imm21.toInt) = false →
      exec (.jal t rd imm21) s = s.stepped t (Thread.trapped 3 (BitVec.ofInt 64 (x.pc + 4 * imm21.toInt)) 0))
    ∧ (s.canIssue t (.jalr t rd ra imm) → inCode x.code (s.greg t ra + imm.signExtend 64).toNat = false →
      exec (.jalr t rd ra imm) s = s.stepped t (Thread.trapped 3 (s.greg t ra + imm.signExtend 64) 0))
    ∧ (s.canIssue t (.sysNop t) → x.code ≤ x.pc + 4 →
      exec (.sysNop t) s = s.stepped t fun y => Thread.trapped 3 (BitVec.ofNat 64 (x.pc + 4)) 0 { y with pc := x.pc + 4 }))

/-- From R332, R333, R363: a fence whose earlier accesses have come as far as its kind asks completes at once: no store has failed
under it, so it writes 0 to rd; while they have not, the thread waits at the fence.
From R333, R363: a fence that waited completes when the last access it waits for is performed: it writes its fault flag to rd, 1 where a store that
it waited for has failed, which also sets BFAULT, and with TRAP_EN.BARRIER a firmware thread outside its trap routine then traps BARRIER
with TRAP_PC at the fence. A fence does not go on while another access that it waits for is under way.
From R369, R333: a device store without an acknowledgement in its time, or with an error, completes the fence that waits for it with the flag 1.
From R342, R343, R347, R329: what the system instructions do on a thread of firmware, and EVRAISE of a firmware source.
From R343: the hive's signal gives the reason to rd of a thread that waits in WAIT, and the thread goes on. -/
def Obligations.FencesAndSystemInstructions : Prop :=
  (∀ (s : State) (t : Nat) (rd : GReg), s.calm t → (s.thread t).pc + 4 < (s.thread t).code →
    let x := s.thread t
    let performed : Prop := ∀ a ∈ x.pend, a.performed = true
    let loaded : Prop := ∀ a ∈ x.pend, a.performed = true ∨ a.kind = .store
    let fence (i : Instr) (kind : Nat) (met : Prop) : Prop := s.canIssue t i →
      (met → exec i s = s.stepped t fun y => { y.wrote rd 0 with fenceFail := false })
      ∧ (¬met → exec i s = s.stepped t fun y => { y with wait := .fence kind rd, fenceFail := false })
    fence (.fenceFull t rd) 0 performed ∧ fence (.fenceAcquire t rd) 1 loaded ∧ fence (.fenceRelease t rd) 2 performed
      ∧ fence (.fenceDevice t rd) 3 (x.pend = []))
  ∧ (∀ (s : State) (t : Nat) (rd ra rb : GReg), s.calm t →
    let x := s.thread t
    let k := (s.greg t ra).toNat % 1024
    (s.canIssue t (.sysNop t) → x.pc + 4 < x.code → exec (.sysNop t) s = s.stepped t fun y => { y with pc := y.pc + 4 })
    ∧ (s.canIssue t (.yieldSlot t) → x.pc + 4 < x.code →
        exec (.yieldSlot t) s = s.stepped t fun y => { y.loseResv with pc := y.pc + 4 })
    ∧ (s.canIssue t (.trap t ra) → x.mayTrap → exec (.trap t ra) s = s.stepped t (Thread.trapped 9 (s.greg t ra) 0))
    ∧ (s.canIssue t (.xret t ra) → inCode x.code (if s.greg t ra = 1 then x.trapPc else x.trapPc + 4 : Nat) →
        exec (.xret t ra) s = s.stepped t fun y =>
          { y with pc := if s.greg t ra = 1 then x.trapPc else x.trapPc + 4, inTrap := false })
    ∧ (s.canIssue t (.wait t rd) → exec (.wait t rd) s = s.stepped t fun y => { y.loseResv with wait := .signal rd })
    ∧ (s.canIssue t (.exit t) → x.run = none → x.pend = [] → x.window = none →
        exec (.exit t) s = s.stepped t fun y => { nextAcc := y.nextAcc })
    ∧ (s.canIssue t (.evraise t ra rb) → x.run = none → x.pc + 4 < x.code → 0x380 ≤ k → k < 0x3C0 →
        exec (.evraise t ra rb) s = .next ((((s.counted t).setThread t x.spent).raise k ((s.greg t rb).toNat % 2 ^ 32)).setThread t
          { x.spent with pc := x.pc + 4 })))
  ∧ (∀ (s : State) (t k h kind : Nat) (rd : GReg) (a : Access) (r : HostRes), s.clocks → s.quiet → s.soft = [] → (s.thread t).access k = some a →
    a.key = none → a.tag = none → a.performed = false → a.reached = false → a.call = false → a.device = false → a.queued = false →
    a.target = .hive h → (s.thread t).wait = .fence kind rd → (s.thread t).tag = none → (s.thread t).last = none →
    (s.thread t).pc + 4 < (s.thread t).code →
    let x := s.thread t
    let performs := exec (.foragerAccessResponse t k r) s
    let u := ((s.setThread t { x with pend := [] }).sramWrite h a.addr a.bytes).clearResv (.hive h) a.addr a.bytes.length
    let flag : Word := if x.fenceFail then 1 else 0
    let y := { (u.thread t).put rd flag with bfault := x.bfault || x.fenceFail, fenceFail := false, wait := .none }
    (a.kind = .store → kind ≠ 1 → x.pend = [a] → (x.fenceFail = false ∨ x.trapEn % 2 = 0) →
      performs = .next (u.setThread t { y with pc := x.pc + 4 }))
    ∧ (a.kind = .store → kind ≠ 1 → x.pend = [a] → x.fenceFail = true → x.trapEn % 2 = 1 → { x with wait := .none }.mayTrap →
      (s.xl.opens.all fun o => !(o.who == .thread t)) = true → performs = .next (u.setThread t (Thread.trapped 7 0 0 y)))
    ∧ (a.kind = .load → kind = 1 → x.pend = [a] → a.total = a.width → a.off = 0 → ∀ g, a.rd = some g → x.fenceFail = false →
      performs = .next (s.setThread t { ({ x with pend := [] }.put g
        (extend a.signed a.width (ofLE (Memory.readN 0 (s.sramOf h) a.addr a.width)))).put rd 0 with wait := .none, pc := x.pc + 4 }))
    ∧ (∀ b : Access, x.pend = [a, b] → b.id ≠ k → b.performed = false → b.kind ≠ .store → a.kind = .store →
      performs = .next (let v := ((s.setThread t { x with pend := [b] }).sramWrite h a.addr a.bytes).clearResv (.hive h) a.addr a.bytes.length; v)))
  ∧ (∀ (s : State) (t k kind : Nat) (rd : GReg) (a : Access) (err : Bool), s.clocks → s.quiet → (s.thread t).pend = [a] → a.id = k → a.key = none →
    a.device = true → a.kind = .store → a.queued = false → a.target ≠ .reg → (s.thread t).wait = .fence kind rd → kind ≠ 1 →
    (kind = 3 ∨ a.performed = false) → (s.thread t).tag = none → (s.thread t).last = none → (s.thread t).pc + 4 < (s.thread t).code →
    (s.thread t).trapEn % 2 = 0 →
    ∃ u, exec (.deviceAccessTimeout t k err) s = .next u
      ∧ u.thread t = { ({ s.thread t with pend := [] }.put rd 1) with bfault := true, fenceFail := false, wait := .none, pc := (s.thread t).pc + 4 }
      ∧ bit (u.reg (Reg.EVT_STATUS_STATUS.addr 10 0) 0) 1 = true)
  ∧ (∀ (s : State) (t : Nat) (rd : GReg) (reason : Word), s.clocks → (s.thread t).wait = .signal rd → (s.thread t).tag = none →
    (s.thread t).pc + 4 < (s.thread t).code →
    exec (.threadWake t reason) s = .next (s.setThread t { (s.thread t).wrote rd reason with wait := .none }))

/-- From R317: CSRR writes the control register's value to rd; the instruction has already been taken from BUDGET_LEFT. The values are
those of the table.
From R317: CSRW writes the control register's fields, and nothing else of the thread; BFAULT is cleared by writing 1.
From R316: g0 reads 0, and a write to it is discarded: an instruction whose rd is g0 changes no register. -/
def Obligations.ControlRegistersReadAndWrite : Prop :=
  (∀ (s : State) (t : Nat) (rd : GReg) (n : BitVec 16), s.calm t → (s.thread t).pc + 4 < (s.thread t).code → s.canIssue t (.csrr t rd n) →
    (csrAccess ((s.thread t).priv == 1) n.toNat).any (·.1) →
    let x := (s.thread t).spent
    let gives (v : Nat) : Prop := exec (.csrr t rd n) s = s.stepped t (Thread.wrote rd (BitVec.ofNat 64 v))
    let handler : Prop := x.priv = 1
    (n = 0 → gives (0x1000 + t)) ∧ (n = 1 → gives x.priv) ∧ (n = 2 → gives (if handler then x.budget else 0)) ∧ (n = 3 → gives s.time)
      ∧ (n = 4 → gives (mgetD s.fg.cycles (t / 128) 0)) ∧ (8 ≤ n.toNat → n.toNat ≤ 15 → gives (mgetD x.ks (n.toNat - 8) 0))
      ∧ (n = 0x10 → gives (if x.bfault then 1 else 0)) ∧ (n = 0x11 → gives (if handler then 0 else x.trapEn)) ∧ (n = 0x12 → gives x.trapCause)
      ∧ (n = 0x13 → gives x.trapPc) ∧ (n = 0x14 → gives x.trapInfo.toNat) ∧ (n = 0x15 → gives x.trapDetail) ∧ (n = 0x16 → gives x.trapVec)
      ∧ (n = 0x17 → gives (if x.inTrap then 1 else 0)) ∧ (n = 0x18 → gives x.accDomain) ∧ (n = 0x19 → gives x.qpCtx)
      ∧ (n = 0x1A → gives (if handler then x.events else 0)))
  ∧ (∀ (s : State) (t : Nat) (ra : GReg) (n : BitVec 16), s.calm t → (s.thread t).pc + 4 < (s.thread t).code → s.canIssue t (.csrw t ra n) →
    (csrAccess ((s.thread t).priv == 1) n.toNat).any (·.2) →
    let v := s.greg t ra
    let sets (f : Thread → Thread) : Prop := exec (.csrw t ra n) s = s.stepped t fun y => { f y with pc := y.pc + 4 }
    (8 ≤ n.toNat → n.toNat ≤ 15 → sets fun y => { y with ks := mset y.ks (n.toNat - 8) (v.toNat % 2 ^ 32) })
      ∧ (n = 0x10 → sets fun y => { y with bfault := y.bfault && !v.getLsbD 0 }) ∧ (n = 0x11 → sets fun y => { y with trapEn := v.toNat % 4 })
      ∧ (n = 0x16 → sets fun y => { y with trapVec := v.toNat % 2 ^ 32 })
      ∧ (n = 0x18 → sets fun y => { y with accDomain := v.toNat % 2 ^ 11 + v.toNat / 2 ^ 16 % 2 ^ 16 * 2 ^ 16 })
      ∧ (n = 0x19 → sets fun y => { y with qpCtx := v.toNat % 2 ^ 24 }))
  ∧ (∀ (x : Thread) (v : Word) (r : GReg), x.get 0 = 0 ∧ x.put 0 v = x ∧ (x.put r v).get r = (if r = 0 then 0 else v)
    ∧ ∀ q : GReg, q ≠ r → (x.put r v).get q = x.get q)

/-- From R317, R324, R345: on a firmware thread outside its trap routine a control register that is not listed, or a unary operation
with an rb, traps ILLEGAL with the word in TRAP_INFO; a listed register that firmware may not write traps PRIVILEGE.
From R342: EVRAISE of a handler posts one HANDLER_EVENT record with its code to its function's event queue, takes one from its
events, and goes on; with no event left it traps EVENT_LIMIT.
From R346: a running handler with no budget left that waits for nothing traps BUDGET.
From R323, R347: an instruction that handlers may not use traps PRIVILEGE with its word, and the handler's run ends with
HANDLER_FAULT. -/
def Obligations.IllegalWordsAndHandlersTrap : Prop :=
  (∀ (s : State) (t : Nat) (rd ra rb : GReg) (n : BitVec 16), s.calm t → s.canIssue t (.sysNop t) → (s.thread t).pend = [] →
    (s.thread t).window = none → (s.thread t).mayTrap → (s.thread t).priv = 0 →
    let word (i : Instr) : Word := ((encodeWord i).getD 0).setWidth 64
    let traps (i : Instr) (cause : Nat) : Prop := exec i s = s.stepped t (Thread.trapped cause (word i) 0)
    (csrAccess false n.toNat = none → traps (.csrr t rd n) 1 ∧ traps (.csrw t ra n) 1)
      ∧ (csrAccess false n.toNat = some (true, false) → traps (.csrw t ra n) 2)
      ∧ (rb ≠ 0 → traps (.clz t rd ra rb) 1 ∧ traps (.ctz t rd ra rb) 1 ∧ traps (.popc t rd ra rb) 1 ∧ traps (.bswap t rd ra rb) 1
          ∧ traps (.bswap4 t rd ra rb) 1))
  ∧ (∀ (s : State) (t : Nat) (ra : GReg) (r : Run), s.calm t → s.canIssue t (.evraise t ra 0) → (s.thread t).run = some r →
    let x := s.thread t
    let u := (s.counted t).setThread t x.spent
    let idx := ((s.qp r.qpn).map (·.idx)).getD 0
    let word := 20 + idx % 2 ^ 21 * 2 ^ 24 + (s.greg t ra).toNat % 2 ^ 16 * 2 ^ 45
    (0 < x.events → x.pc + 4 < x.code →
      exec (.evraise t ra 0) s = .next (settle ((u.post { fn := r.fn, bytes := leBytes 8 word ++ leBytes 8 s.time, use := .eq r.fn }).setThread t
        { x.spent with events := x.events - 1, pc := x.pc + 4 })))
    ∧ (x.events = 0 → exec (.evraise t ra 0) s
        = .next (u.trapAt t ((encodeWord (.evraise t ra 0)).getD 0) Cause.eventLimit 0)))
  ∧ (∀ (s : State) (t : Nat), s.clocks → (s.thread t).st = .running → (s.thread t).wait = .none → (s.thread t).priv = 1 → (s.thread t).budget = 0 →
    (s.thread t).pend = [] →
    exec (.handlerBudgetExhausted t) s
      = .next (s.trapAt t (BitVec.ofNat 32 (s.codeWord t (s.thread t).pc)) Cause.budget 0))
  ∧ (∀ (s : State) (t : Nat) (rd ra rb rc : GReg) (imm : BitVec 16) (r : Run), s.calm t → s.canIssue t (.sysNop t) → (s.thread t).priv = 1 →
    (s.thread t).run = some r → (s.thread t).pend = [] → (s.thread t).window = none →
    let x := s.thread t
    let u := (s.counted t).setThread t { x.spent with resv := none }
    let traps (i : Instr) : Prop := ∀ w, encodeWord i = some w → exec i s
      = .next ((((u.logHandlerTrap r ⟨2, x.pc, w.toNat, w.toNat, 0⟩).tally Reg.FGR_HCOUNT_TRAPS 0x10A (t / 128) (some (r.fn, r.pd))).endRun t r
        (some 2)))
    traps (.pwld t rd ra imm) ∧ traps (.pwst t rb ra imm) ∧ traps (.pnext t rd) ∧ traps (.psend t rd ra rb rc) ∧ traps (.pdone t rd)
      ∧ traps (.eidlk t rd ra) ∧ traps (.place t rd ra rb rc) ∧ traps (.arrive t rd ra) ∧ traps (.post t rd ra) ∧ traps (.cancel t rd ra)
      ∧ traps (.xret t ra) ∧ traps (.wait t rd) ∧ traps (.csrw t ra 0x11))

/-- From R318, R354: where forager addresses lie: hive memory and handler frames, the store, REG, and read-only data; the spaces without
meaning, and those that a handler may not use, trap ACCESS.
From R367: a misaligned access is cut into pieces that each lie in one aligned 8-byte unit, and that together are the access. -/
def Obligations.AddressSpacesAndPieces : Prop :=
  (∀ (s : State) (t : Nat) (a : Word) (n kind : Nat),
    let x := s.thread t
    let space := a.toNat / 2 ^ 60
    let off := a.toNat % 2 ^ 60
    let at0 (tg : Target) (p : Nat) (dev : Bool) : Prop := s.resolve t a n kind = (s, .ok { target := tg, pieces := [(p, n)], device := dev })
    let none : Prop := s.resolve t a n kind = (s, .trap 5 0)
    (space = 0 → x.priv = 0 → off + n ≤ 2 ^ 21 → (kind = accRead ∨ 2 ^ 20 ≤ off) → at0 (.hive (t / 128)) off false)
    ∧ (space = 0 → x.priv = 0 → (2 ^ 21 < off + n ∨ kind ≠ accRead ∧ off < 2 ^ 20) → none)
    ∧ (space = 0 → x.priv = 1 → off + n ≤ 4096 → at0 (.hive (t / 128)) (0x180000 + 4096 * (127 - t % 128) + off) false)
    ∧ (space = 0 → x.priv = 1 → 4096 < off + n → none)
    ∧ (space = 1 → x.priv = 0 → off + n ≤ 2 ^ 37 → (∀ b, off ≤ b → b < off + n → s.rat 0 b = .none) → at0 .store off false)
    ∧ (space = 3 → x.priv = 0 → off + n ≤ 2 ^ 26 → n % 8 = 0 → at0 .reg off true)
    ∧ (space = 4 → kind = accRead → off + n ≤ (s.rodata t).length → at0 .rodata off false)
    ∧ (space = 4 → kind ≠ accRead → none) ∧ (5 ≤ space → space < 8 → none) ∧ ((space = 1 ∨ space = 2 ∨ space = 3) → x.priv = 1 → none)
    ∧ (12 < space → x.priv = 1 → none))
  ∧ (∀ a n : Nat, n ≤ 8 →
    let l := ({ target := .store, pieces := [(a, n)] } : Spot).units
    (∀ u ∈ l, 0 < u.width ∧ u.addr / 8 = (u.addr + u.width - 1) / 8 ∧ u.addr = a + u.off ∧ u.off + u.width ≤ n)
    ∧ (∀ i < n, ∃ u ∈ l, u.off ≤ i ∧ i < u.off + u.width) ∧ ((l.map (·.width)).sum = n)
    ∧ (a % 8 + n ≤ 8 → 0 < n → l = [{ addr := a, width := n, off := 0 }]))

/-- From R328, R344: a load that issues adds its read to the accesses of the thread, and the thread goes on; the data come to rd later (log entry
50).
From R331, R344, R105: a load of the store that meets an uncorrected error traps BUS with REMOTE_OP_ERROR and STORE_POISON.
From R318, R328: a load from read-only data gives its value at once.
From R328: a store that issues adds its write, the low bytes of rb in little-endian order, and the thread goes on. -/
def Obligations.LoadsAndStoresIssue : Prop :=
  (∀ (s : State) (t : Nat) (rd ra : GReg) (imm : BitVec 16) (tg : Target) (p : Nat), s.calm t → (s.thread t).pc + 4 < (s.thread t).code →
    let x := s.thread t
    let a := s.greg t ra + imm.signExtend 64
    let loads (i : Instr) (n : Nat) (sign : Bool) : Prop := s.canIssue t i → s.lands t a n accRead tg p →
      ((tg = .store → s.poisoned p n = false) → exec i s = s.stepped t (Thread.asked
        { id := 0, kind := .load, target := tg, addr := p, width := n, group := x.nextAcc, total := n, rd := some rd, signed := sign,
          faddr := a.toNat, pc := x.pc } (x.pc + 4)))
      ∧ (tg = .store → s.poisoned p n = true → x.clear tg p n →
        exec i s = .next (((s.fired t).reportPoison p n).trapAt t ((encodeWord i).getD 0) 6 a.toNat 0xB0D))
    loads (.lb t rd ra imm) 1 true ∧ loads (.lbu t rd ra imm) 1 false ∧ loads (.lh t rd ra imm) 2 true ∧ loads (.lhu t rd ra imm) 2 false
      ∧ loads (.lw t rd ra imm) 4 true ∧ loads (.lwu t rd ra imm) 4 false ∧ loads (.ld t rd ra imm) 8 false)
  ∧ (∀ (s : State) (t : Nat) (rd ra : GReg) (imm : BitVec 16), s.calm t → (s.thread t).pc + 4 < (s.thread t).code →
    let a := s.greg t ra + imm.signExtend 64
    let off := a.toNat % 2 ^ 60
    let loads (i : Instr) (n : Nat) (v : Nat → Word) : Prop := s.canIssue t i → a.toNat / 2 ^ 60 = 4 → off + n ≤ (s.rodata t).length →
      exec i s = s.stepped t (Thread.wrote rd (v (ofLE (((s.rodata t).drop off).take n))))
    loads (.lb t rd ra imm) 1 (fun v => (BitVec.ofNat 8 v).signExtend 64) ∧ loads (.lbu t rd ra imm) 1 (BitVec.ofNat 64)
      ∧ loads (.lh t rd ra imm) 2 (fun v => (BitVec.ofNat 16 v).signExtend 64) ∧ loads (.lhu t rd ra imm) 2 (BitVec.ofNat 64)
      ∧ loads (.lw t rd ra imm) 4 (fun v => (BitVec.ofNat 32 v).signExtend 64) ∧ loads (.lwu t rd ra imm) 4 (BitVec.ofNat 64)
      ∧ loads (.ld t rd ra imm) 8 (BitVec.ofNat 64))
  ∧ (∀ (s : State) (t : Nat) (rb ra : GReg) (imm : BitVec 16) (tg : Target) (p : Nat), s.calm t → (s.thread t).pc + 4 < (s.thread t).code →
    let x := s.thread t
    let a := s.greg t ra + imm.signExtend 64
    let stores (i : Instr) (n : Nat) : Prop := s.canIssue t i → s.lands t a n accWrite tg p →
      exec i s = s.stepped t (Thread.accessed
        { id := 0, kind := .store, target := tg, addr := p, width := n, group := x.nextAcc, total := n,
          bytes := leBytes n (s.greg t rb).toNat, faddr := a.toNat, pc := x.pc } (x.pc + 4))
    stores (.sb t rb ra imm) 1 ∧ stores (.sh t rb ra imm) 2 ∧ stores (.sw t rb ra imm) 4 ∧ stores (.sd t rb ra imm) 8)

/-- From R329, R330, R344: LR, SC and ATOM that issue at an aligned address of hive SRAM or store add their access, and the thread goes on; the
value comes to rd later (log entry 50).
From R328 to R330, R345: on a firmware thread outside its trap routine: LR and SC of HOSTVA, REG or RODATA and ATOM of REG or RODATA trap
UNSUPPORTED, a misaligned one elsewhere ALIGN, a load or a store of an address space without meaning ACCESS, each with the address in TRAP_INFO. -/
def Obligations.ReservedPairsAndAtomicsIssue : Prop :=
  (∀ (s : State) (t : Nat) (rd ra rb rc : GReg) (hi : BitVec 3) (tg : Target) (p : Nat), s.calm t → (s.thread t).pc + 4 < (s.thread t).code →
    let x := s.thread t
    let a := s.greg t ra
    let n := if hi.getLsbD 0 then 4 else 8
    let adds (i : Instr) (b : Access) : Prop :=
      exec i s = s.stepped t (Thread.asked { b with target := tg, addr := p, group := x.nextAcc, rd := some rd, faddr := a.toNat, pc := x.pc } (x.pc + 4))
    (s.canIssue t (.lr t rd ra 0) → a.toNat % 8 = 0 → s.lands t a 8 accRead tg p → x.clear tg p 8 → (tg = .store → s.poisoned p 8 = false) →
      adds (.lr t rd ra 0) { id := 0, kind := .lr, target := tg, addr := p, width := 8 })
    ∧ (s.canIssue t (.sc t rd ra rb) → a.toNat % 8 = 0 → s.lands t a 8 accWrite tg p → x.clear tg p 8 →
      adds (.sc t rd ra rb) { id := 0, kind := .sc, target := tg, addr := p, width := 8, bytes := leBytes 8 (s.greg t rb).toNat })
    ∧ ∀ (fn : Nat) (i : Instr), (fn, i) ∈ [(0, .atomFadd t rd ra rb rc hi), (1, .atomCswap t rd ra rb rc hi), (2, .atomSwap t rd ra rb rc hi),
        (3, .atomAnd t rd ra rb rc hi), (4, .atomOr t rd ra rb rc hi), (5, .atomXor t rd ra rb rc hi), (6, .atomSmin t rd ra rb rc hi),
        (7, .atomSmax t rd ra rb rc hi)] →
      s.canIssue t i → a.toNat % n = 0 → s.lands t a n accAtomic tg p → (tg = .store → !s.compatRange p n) → x.clear tg p n →
        (tg = .store → s.poisoned p n = false) →
      adds i
        { id := 0, kind := .atomic, target := tg, addr := p, width := n, fn := fn, op0 := s.greg t rb, op1 := s.greg t rc, total := n,
          stage := if fn < 3 then 0 else 1 })
  ∧ (∀ (s : State) (t : Nat) (rd ra rb rc : GReg) (imm : BitVec 16) (hi : BitVec 3) (i : Instr), s.calm t → (s.thread t).mayTrap →
    (s.thread t).priv = 0 → s.canIssue t i →
    let a := s.greg t ra
    let traps (cause : Nat) (info : Word) : Prop := exec i s = s.stepped t (Thread.trapped cause info 0)
    let space := a.toNat / 2 ^ 60
    (i ∈ [.lr t rd ra 0, .sc t rd ra rb] → (2 ≤ space → space ≤ 4 → traps 12 a) ∧ (space < 2 ∨ 4 < space → a.toNat % 8 ≠ 0 → traps 4 a))
    ∧ (i ∈ [.atomFadd t rd ra rb rc hi, .atomCswap t rd ra rb rc hi, .atomSwap t rd ra rb rc hi, .atomAnd t rd ra rb rc hi,
        .atomOr t rd ra rb rc hi, .atomXor t rd ra rb rc hi, .atomSmin t rd ra rb rc hi, .atomSmax t rd ra rb rc hi] →
      (space = 3 ∨ space = 4 → traps 12 a)
      ∧ (space < 3 ∨ 4 < space → a.toNat % (if hi.getLsbD 0 then 4 else 8) ≠ 0 → traps 4 a))
    ∧ (i ∈ [.lb t rd ra imm, .lbu t rd ra imm, .lh t rd ra imm, .lhu t rd ra imm, .lw t rd ra imm, .lwu t rd ra imm, .ld t rd ra imm,
        .sb t rb ra imm, .sh t rb ra imm, .sw t rb ra imm, .sd t rb ra imm] →
      5 ≤ (a + imm.signExtend 64).toNat / 2 ^ 60 → (a + imm.signExtend 64).toNat / 2 ^ 60 < 8 → traps 5 (a + imm.signExtend 64)))

/-- From R328 to R330, R357, R365, R366: what an access of hive SRAM does when it is performed. A load writes its extended bytes to rd; a
store writes its bytes and clears the reservations on its granule; LR reads and reserves the granule, unless an event of R329 has come since it
issued; SC writes only under its
reservation, clears it, and answers 0 for success; ATOM writes its result and answers the old value.
From R357, R103: a load and a store of the store's bytes: read at their point of order, committed there.
From R358: the acknowledgement of a device store that has reached its point of order ends it.
From R368, R345: a device load of a firmware thread outside its trap routine that gets no answer in its time, or an error, traps BUS
with REMOTE_OP_ERROR and TARGET_TIMEOUT or TARGET_ERROR, and the address in TRAP_INFO.
From R402: a load of hive SRAM that meets an uncorrected error there traps BUS likewise with SRAM_POISON, and HIVE_SRAM_UNCORR is raised. -/
def Obligations.AccessesPerform : Prop :=
  (∀ (s : State) (t k h : Nat) (a : Access) (rd : GReg) (r : HostRes), s.clocks → s.quiet → s.soft = [] → s.due t k a → a.target = .hive h →
    let x := (s.thread t).without k
    let old := ofLE (Memory.readN 0 (s.sramOf h) a.addr a.width)
    let gives (u : State) (y : Thread) : Prop := exec (.foragerAccessResponse t k r) s = .next (u.setThread t y)
    let wrote (u : State) (b : List Byte) : State := (u.sramWrite h a.addr b).clearResv (.hive h) a.addr b.length
    (a.kind = .load → a.rd = some rd → a.total = a.width → gives s (x.put rd (extend a.signed a.width old)))
    ∧ (a.kind = .store → exec (.foragerAccessResponse t k r) s = .next (wrote (s.setThread t x) a.bytes))
    ∧ (a.kind = .lr → a.rd = some rd → a.void = false → gives s ({ x with resv := some (.hive h, a.addr / 128) }.put rd (BitVec.ofNat 64 old)))
    ∧ (a.kind = .lr → a.rd = some rd → a.void = true → gives s (x.put rd (BitVec.ofNat 64 old)))
    ∧ (a.kind = .sc → a.rd = some rd → x.resv = some (.hive h, a.addr / 128) →
        gives (wrote s a.bytes) ({ x with resv := none }.put rd 0))
    ∧ (a.kind = .sc → a.rd = some rd → x.resv ≠ some (.hive h, a.addr / 128) → gives s ({ x with resv := none }.put rd 1))
    ∧ (a.kind = .atomic → a.rd = some rd →
        let u := wrote s (leBytes a.width (atomicResult (0x10 + a.fn) (8 * a.width) old a.op0.toNat a.op1.toNat))
        gives u (((u.thread t).without k).put rd (BitVec.ofNat 64 old))))
  ∧ (∀ (s : State) (t k : Nat) (a : Access) (rd : GReg) (r : HostRes), s.clocks → s.quiet → s.soft = [] → s.due t k a → a.target = .store → s.storeAnswers →
    a.total = a.width → !s.compatRange a.addr a.width →
    let x := (s.thread t).without k
    (a.kind = .load → a.rd = some rd → !s.poisoned a.addr a.width →
      exec (.foragerAccessResponse t k r) s = .next ((s.count 0x180 (stackOf a.addr) a.width).setThread t
        (x.put rd (extend a.signed a.width (ofLE (s.storeRead a.addr a.width))))))
    ∧ (a.kind = .store → a.bytes.length = a.width →
      ∃ u, exec (.foragerAccessResponse t k r) s = .next u ∧ u.store = Memory.writeN 0 s.store a.addr a.bytes ∧ (u.thread t).pend = x.pend))
  ∧ (∀ (s : State) (t k : Nat) (a : Access), s.clocks → s.quiet → (s.thread t).access k = some a → a.reached → a.key = none → (s.thread t).wait = .none →
    (∀ b ∈ (s.thread t).pend, b.id = k → b.key = none) →
    exec (.deviceStoreAck t k) s = .next (s.setThread t ((s.thread t).without k)))
  ∧ (∀ (s : State) (t k : Nat) (a : Access) (err : Bool), s.clocks → s.quiet → (s.thread t).access k = some a → a.device → !a.performed → a.queued = false →
    (s.thread t).st = .running → a.kind = .load → a.rd ≠ none → !a.call → a.target ≠ .reg → a.key = none → a.tag = none → (s.thread t).tag = none → (s.thread t).pend = [a] →
    (s.thread t).mayTrap →
    ∃ u, exec (.deviceAccessTimeout t k err) s = .next u ∧ (u.thread t).trapCause = 6 ∧ (u.thread t).trapPc = a.pc
      ∧ (u.thread t).trapInfo = BitVec.ofNat 64 a.faddr ∧ (u.thread t).trapDetail = 0x0D + 256 * (if err then 14 else 13)
      ∧ (u.thread t).inTrap = true ∧ (u.thread t).pc = (s.thread t).trapVec ∧ (u.thread t).pend = [])
  ∧ (∀ (s : State) (t k h off : Nat) (a : Access) (r : HostRes), s.clocks → s.quiet → s.due t k a → a.target = .hive h → a.kind = .load → a.rd ≠ none →
    s.soft = [⟨.hive h off, false⟩] → a.addr ≤ off → off < a.addr + a.width → (s.thread t).st = .running → (s.thread t).last = none →
    (s.thread t).mayTrap → h < 8 →
    ∃ u, exec (.foragerAccessResponse t k r) s = .next u ∧ (u.thread t).trapCause = 6 ∧ (u.thread t).trapPc = a.pc
      ∧ (u.thread t).trapInfo = BitVec.ofNat 64 a.faddr ∧ (u.thread t).trapDetail = 0x0D + 256 * 23 ∧ (u.thread t).inTrap = true
      ∧ (u.thread t).pc = (s.thread t).trapVec ∧ bit (u.reg (Reg.EVT_STATUS_STATUS.addr 6 0) 0) (8 * h + 2) = true)

/-- From R335, R336: window loads and stores, the end of a packet, and the EID table. A window load reads 1, 2, 4 or 8 bytes in
big-endian order from the 128 bytes of the window, a store writes the 64 of the outgoing header.
From R336, R67: PDONE and PNEXT end the packet in the window: the cells that it held are credit of its port again.
From R334, R336: a packet that waits for its hive goes to a thread that waits in PNEXT: it fills the window, and rd is 0.
From R337, R231: a good CRC verdict lets the thread that waits for it go on; a bad one ends the packet, and the instruction that waits, or
else the thread's next one with an effect, traps DISCARDED; a good one lets the writes of a PLACE go. -/
def Obligations.PacketWindowsAndHandover : Prop :=
  (∀ (s : State) (t : Nat) (rd ra rb : GReg) (imm : BitVec 16), s.calm t → (s.thread t).pc + 4 < (s.thread t).code →
    let x := s.thread t
    let n := 2 ^ (imm.toNat / 2 ^ 14)
    let a := (s.greg t ra).toNat + imm.toNat % 2 ^ 14
    (s.canIssue t (.pwld t rd ra imm) → a + n ≤ 128 → exec (.pwld t rd ra imm) s
        = s.stepped t (Thread.wrote rd (match x.window with
          | some w => BitVec.ofNat 64 (ofBE (slice w.bytes a n))
          | none => 0)))
    ∧ (s.canIssue t (.pwld t rd ra imm) → 128 < a + n → x.mayTrap →
        exec (.pwld t rd ra imm) s = s.stepped t (Thread.trapped 5 (BitVec.ofNat 64 a) 0))
    ∧ (s.canIssue t (.pwst t rb ra imm) → a + n ≤ 64 → exec (.pwst t rb ra imm) s
        = s.stepped t fun y => { y with out := putBytes (slice x.out 0 64) a (beBytes n (s.greg t rb).toNat), pc := y.pc + 4 })
    ∧ (s.canIssue t (.pwst t rb ra imm) → 64 < a + n → x.mayTrap →
        exec (.pwst t rb ra imm) s = s.stepped t (Thread.trapped 5 (BitVec.ofNat 64 a) 0))
    ∧ (s.canIssue t (.pnext t rd) → exec (.pnext t rd) s
        = .next (let u := (s.fired t).finishPacket t; u.setThread t { (u.thread t).loseResv with wait := .packet rd }))
    ∧ (s.canIssue t (.pdone t rd) → exec (.pdone t rd) s
        = .next (let u := (s.fired t).finishPacket t; u.setThread t ((u.thread t).wrote rd 0)))
    ∧ (s.canIssue t (.eidlk t rd ra) → exec (.eidlk t rd ra) s
        = s.stepped t (Thread.wrote rd (BitVec.ofNat 64 ((s.counted t).eidEntry ((s.greg t ra).toNat % 2 ^ 20))))))
  ∧ (∀ (s : State) (t : Nat) (w : InWindow), (s.thread t).window = some w → w.tag = none → w.fromMiss = false → w.port < 72 →
    w.pkt.cells ≤ nth (s.port w.port).held w.pkt.net.vl →
    let p := s.port w.port
    let v := w.pkt.net.vl
    s.finishPacket t = (s.setThread t { s.thread t with window := none }).setPort w.port
      { p with held := setNth p.held v (nth p.held v - w.pkt.cells), credit := setNth p.credit v (nth p.credit v + w.pkt.cells) })
  ∧ (∀ (s : State) (t port handle : Nat) (rd : GReg) (d : InPkt) (verified : Bool), s.clocks → (s.thread t).wait = .packet rd → s.admits 3 →
    servedBy d.pkt (t / 128) → s.rt.delivered = [d] → d.port = port → d.tag = none → (s.thread t).tag = none →
    (s.thread t).pc + 4 < (s.thread t).code →
    ∃ u w, exec (.packetHandoff t d.pkt port handle false verified) s = .next u
      ∧ u.thread t = { ({ s.thread t with window := some w, discarded := verified && d.pkt.stomped }.put rd 0) with
          pc := (s.thread t).pc + 4, wait := .none }
      ∧ w.pkt = d.pkt ∧ w.port = port ∧ w.handle = handle ∧ w.arrived = d.pkt.arrived ∧ w.fromMiss = false
      ∧ w.verified = (verified && !d.pkt.stomped) ∧ u.rt.delivered = [])
  ∧ (∀ (s : State) (t : Nat) (w : InWindow), s.clocks → (s.thread t).window = some w → w.verified = false → w.tag = none →
    let x := s.thread t
    let ends (d : Bool) : State := (s.setThread t { x with discarded := d }).finishPacket t
    (w.pkt.stomped = false → exec (.crcVerdict t true) s
      = .next (s.setThread t { x with window := some { w with verified := true }, wait := if x.wait = .crc then .none else x.wait,
                                      pend := x.pend.map fun a => { a with queued := false } }))
    ∧ ((∀ a ∈ x.pend, a.queued = false) →
      (x.wait ≠ .crc → exec (.crcVerdict t false) s = .next (settle ((ends true).wake t)))
      ∧ (x.wait = .crc → exec (.crcVerdict t false) s = .next ((ends false).trap t ⟨11, x.pc, (ends false).codeWord t x.pc, 0, 0⟩))))

/-- From R339, R357: COPY issues one read for each unit of its source and waits for them; a source of read-only data is there at once. When
the last read has come the writes of the destination are added, and rd is success with the bytes done. A length of 0 does nothing, one
above 1 MiB answers BAD_DESCRIPTOR.
From R337, R339: PLACE adds the writes of the packet's payload, which wait for the CRC verdict while there is none.
From R338: PSEND sends the header of the outgoing window, with the fields of injection written by the device, and no payload where the
length is 0: a packet that is no WT packet goes to the crossbar at once. With a payload it first issues the reads of its source and waits
for them. A header length that is no multiple of 16 from 16 to 64, or a payload above 4,096 bytes, traps ILLEGAL. -/
def Obligations.CallsCopyPlaceAndSend : Prop :=
  (∀ (s v : State) (t : Nat) (rd ra rb rc : GReg) (x y : Spot), v.calm t → (v.thread t).pc + 4 < (v.thread t).code →
    (∀ r, (v.thread t).run = some r → r.stop = false) →
    let dst := s.greg t ra
    let src := s.greg t rb
    let n := (s.greg t rc).toNat
    let w := (s.thread t).window
    let payload := w.elim [] fun w => w.pkt.payload
    let done : Word := BitVec.ofNat 64 (n * 2 ^ 32)
    let copy := Instr.copy t rd ra rb rc
    let place := Instr.place t rd ra rb rc
    let free (x : Spot) : Prop := x.misfit = false ∧ (v.thread t).deviceBusy x = false
    (s.canIssue t copy → 0 < n → n ≤ 2 ^ 20 → s.resolve t src n accRead = (v, .ok x) → x.target ≠ .rodata → free x → (v.thread t).clash x = false →
      exec copy s = .next (let u := (v.fired t).askSource t x n src.toNat; u.setThread t { u.thread t with wait := .copy rd dst.toNat n }))
    ∧ (s.canIssue t copy → 0 < n → n ≤ 2 ^ 20 → s.resolve t src n accRead = (s, .ok x) → x.target = .rodata → (s.thread t).clash x = false →
      (s.thread t).deviceBusy x = false → x.misfit = false → ∀ p, x.pieces = [(p, n)] → s.resolve t dst n accWrite = (v, .ok y) → free y →
      exec copy s = .next (((v.fired t).addWrites t y (slice (s.rodata t) p n) dst.toNat false).result t rd done))
    ∧ (s.canIssue t place → 0 < n → src.toNat + n ≤ payload.length → s.resolve t dst n accWrite = (v, .ok y) → free y → v.thread t = s.thread t →
      w.bind (·.tag) = none →
      exec place s = .next (((v.fired t).addWrites t y (slice payload src.toNat n) dst.toNat true (s.thread t).unverified).result t rd done))
    ∧ (v = s → n = 0 → (s.canIssue t copy → exec copy s = s.stepped t (Thread.wrote rd 0))
      ∧ (s.canIssue t place → src.toNat ≤ payload.length → exec place s = s.stepped t (Thread.wrote rd 0)))
    ∧ (v = s → s.canIssue t copy → 2 ^ 20 < n → (s.thread t).priv = 0 → exec copy s = s.stepped t (Thread.wrote rd 0x0C)))
  ∧ (∀ (s : State) (t k h dst : Nat) (rd : GReg) (a : Access) (r : HostRes) (y : Spot), s.clocks → s.quiet → s.soft = [] → (s.thread t).pend = [a] → a.id = k →
    a.kind = .load → a.call = true → a.rd = none → a.target = .hive h → a.device = false → a.performed = false → a.reached = false →
    a.queued = false → a.key = none → a.off = 0 → a.total = a.width → 0 < a.width →
    (s.thread t).wait = .copy rd dst a.width → (s.thread t).run = none → (s.thread t).tag = none → (s.thread t).pc + 4 < (s.thread t).code →
    let x := s.thread t
    let old := Memory.readN 0 (s.sramOf h) a.addr a.width
    let u := s.setThread t { x with pend := [{ a with performed := true, data := ofLE old }] }
    let v := s.setThread t { x with pend := [] }
    u.resolve t (BitVec.ofNat 64 dst) a.width accWrite = (u, .ok y) → y.misfit = false → y.device = false →
    exec (.foragerAccessResponse t k r) s = .next (settle ((v.addWrites t y old (BitVec.ofNat 64 dst).toNat false).result t rd
      (BitVec.ofNat 64 (a.width * 2 ^ 32)))))
  ∧ (∀ (s v : State) (t : Nat) (rd ra rb rc : GReg) (y : Spot), s.calm t → s.canIssue t (.psend t rd ra rb rc) →
    (s.thread t).pc + 4 < (s.thread t).code →
    let x := s.thread t
    let hdr := (s.greg t rc).toNat
    let len := (s.greg t rb).toNat
    let src := s.greg t ra
    let p := s.outPacket (slice x.out 0 hdr) []
    let fine : Prop := 16 ≤ hdr ∧ hdr ≤ 64 ∧ hdr % 16 = 0 ∧ len ≤ 4096
    let sends (u : State) : Prop := exec (.psend t rd ra rb rc) s = .next u
    (fine → len = 0 → (∀ a ∈ x.pend, a.place = false) → (∀ h, p.body ≠ .wt h) →
      sends (let u := s.injectOwn p true; (u.fired t).setThread t ((u.thread t).spent.wrote rd 0)))
    ∧ (fine → 0 < len → (∀ a ∈ x.pend, a.place = false) → s.resolve t src len accRead = (v, .ok y) → v.calm t → y.target ≠ .rodata →
      y.misfit = false → (v.thread t).clash y = false → (v.thread t).deviceBusy y = false →
      sends (let u := (v.fired t).askSource t y len src.toNat; u.setThread t { u.thread t with wait := .send rd hdr len }))
    ∧ (¬fine → x.mayTrap → exec (.psend t rd ra rb rc) s
      = s.stepped t (Thread.trapped 1 (((encodeWord (.psend t rd ra rb rc)).getD 0).setWidth 64) 0)))

/-- From R340: a match call reads its envelope from hive memory, acts on the lists of the match unit, and answers in rd; an envelope with a 1
in a reserved field answers all ones.
From R117, R119, R120, R340: ARRIVE takes the posted entry it matches and answers its handle, else it keeps a record and answers 0; POST takes
the record it matches, else it adds a posted entry, in ascending posting sequence, with the next number consumed either way; CANCEL removes both lists' entries of its queue pair and answers how many. -/
def Obligations.MatchCallsActOnTheirLists : Prop :=
  (∀ (s : State) (t p : Nat) (rd ra : GReg) (e : Envelope), s.calm t →
    let x := s.thread t
    let a := s.greg t ra
    let b := Memory.readN 0 (s.sramOf (t / 128)) p 32
    let u := (s.fired t).matchOp e.qpn ((s.qp e.qpn).bind (·.owner))
    a.toNat % 32 = 0 → a.toNat / 2 ^ 60 = 0 → s.lands t a 32 accRead (.hive (t / 128)) p → x.clear (.hive (t / 128)) p 32 →
    (readEnvelope b = some e →
      (s.canIssue t (.arrive t rd ra) → exec (.arrive t rd ra) s = .next ((State.arrive e u).1.result t rd (State.arrive e u).2))
      ∧ (s.canIssue t (.post t rd ra) → exec (.post t rd ra) s = .next ((State.postCall e u).1.result t rd (State.postCall e u).2))
      ∧ (s.canIssue t (.cancel t rd ra) → exec (.cancel t rd ra) s = .next ((State.cancelCall e u).1.result t rd (State.cancelCall e u).2)))
    ∧ (readEnvelope b = none → x.pc + 4 < x.code →
      (s.canIssue t (.arrive t rd ra) → exec (.arrive t rd ra) s = s.stepped t (Thread.wrote rd (BitVec.allOnes 64)))
      ∧ (s.canIssue t (.post t rd ra) → exec (.post t rd ra) s = s.stepped t (Thread.wrote rd (BitVec.allOnes 64)))
      ∧ (s.canIssue t (.cancel t rd ra) → exec (.cancel t rd ra) s = s.stepped t (Thread.wrote rd (BitVec.allOnes 64)))))
  ∧ (∀ (s : State) (e : Envelope) (p : Posted) (u : Unexp) (v : Word),
    (s.selectPosted e.qpn e.ctx e.source e.tag = some p → p.handle = some v →
      (State.arrive e s).2 = v ∧ (State.arrive e s).1.mt.posted = s.mt.posted.erase p ∧ (State.arrive e s).1.mt.unexp = s.mt.unexp)
    ∧ (s.selectPosted e.qpn e.ctx e.source e.tag = none → (State.arrive e s).2 = 0 ∧ (State.arrive e s).1.mt.posted = s.mt.posted
      ∧ ∃ r, (State.arrive e s).1.mt.unexp = s.mt.unexp ++ [r] ∧ r.qpn = e.qpn ∧ r.ctx = e.ctx ∧ r.source = e.source ∧ r.tag = e.tag
        ∧ r.handle = some e.handle)
    ∧ (s.selectUnexp e.cls e.qpn e.ctx e.source e.tag = some u → u.handle = some v →
      (State.postCall e s).2 = v ∧ (State.postCall e s).1.mt.posted = s.mt.posted
        ∧ (State.postCall e s).1.mt.nextSeq = s.mt.nextSeq + 1)
    ∧ (s.selectUnexp e.cls e.qpn e.ctx e.source e.tag = none → (State.postCall e s).2 = 0
      ∧ ∃ q l r, s.mt.posted = l ++ r ∧ (State.postCall e s).1.mt.posted = l ++ q :: r ∧ (∀ p ∈ l, p.seq < q.seq) ∧ (∀ p ∈ r.head?, q.seq ≤ p.seq) ∧ q.qpn = e.qpn ∧ q.cls = e.cls ∧ q.ctx = e.ctx ∧ q.source = e.source
        ∧ q.tag = e.tag ∧ q.handle = some e.handle ∧ q.seq = s.mt.nextSeq ∧ (State.postCall e s).1.mt.nextSeq = s.mt.nextSeq + 1)
    ∧ ((State.cancelCall e s).1.mt.posted = s.mt.posted.filter fun q => q.qpn != e.qpn)
    ∧ (State.cancelCall e s).2 = BitVec.ofNat 64 ((s.mt.posted.filter fun q => q.qpn == e.qpn).length
      + (s.mt.unexp.filter fun r => r.qpn == e.qpn).length))

/-- From R341, R372, R373: LCLAIM of a free word gives it to the thread and LREL by its holder frees it; the claim of a held word changes
nothing; a thread without rights gets all ones. The answer in rd is the word's identity, THREAD_ID for a claim that won (log entry 51).
From R341, R378: LCLAIMW of a free compatibility word writes the thread's identity and source there, LRELW by its holder writes
0; the answer is the word's identity. -/
def Obligations.LockCallsClaimAndRelease : Prop :=
  (∀ (s : State) (t : Nat) (rd ra : GReg), s.calm t → (s.thread t).pc + 4 < (s.thread t).code → (s.thread t).pend = [] →
    let w := (s.greg t ra).toNat % 4096
    let u := s.fired t
    let answers (i : Instr) (u : State) (v : Nat) : Prop := exec i s = .next (u.setThread t ((u.thread t).wrote rd (BitVec.ofNat 64 v)))
    let taking := Instr.lclaim t rd ra
    let giving := Instr.lrel t rd ra
    let put (i h : Nat) : State := (u.wr Reg.LCK_WORD_IDENTITY i w).wr Reg.LCK_WORD_HOLDER h w
    (s.threadAdmitted (w / 64) t → s.storeAnswers →
      (s.canIssue t taking → u.rd Reg.LCK_WORD_IDENTITY w = 0 → answers taking (put (0x1000 + t) (0x800 + t)) (0x1000 + t))
      ∧ (s.canIssue t taking → u.rd Reg.LCK_WORD_IDENTITY w ≠ 0 → answers taking u (u.rd Reg.LCK_WORD_IDENTITY w))
      ∧ (s.canIssue t giving → u.rd Reg.LCK_WORD_HOLDER w = 0x800 + t → answers giving (put 0 0xFFF) 0)
      ∧ (s.canIssue t giving → u.rd Reg.LCK_WORD_HOLDER w ≠ 0x800 + t → let r := u.tally Reg.LCK_STATUS_BAD_RELEASE 0x186
          answers giving r (r.rd Reg.LCK_WORD_IDENTITY w)))
    ∧ (¬s.threadAdmitted (w / 64) t → (s.canIssue t taking → answers taking (u.tally Reg.LCK_STATUS_RIGHTS_DENIED 0x187) (2 ^ 64 - 1))
      ∧ (s.canIssue t giving → answers giving (u.tally Reg.LCK_STATUS_RIGHTS_DENIED 0x187) (2 ^ 64 - 1))))
  ∧ (∀ (s : State) (t p : Nat) (rd ra : GReg), s.calm t → (s.thread t).pc + 4 < (s.thread t).code → (s.thread t).pend = [] →
    s.storeAnswers → s.lands t (s.greg t ra) 8 accWrite .store p → (s.greg t ra).toNat % 8 = 0 → !s.poisoned p 8 →
    let w := ofLE (s.storeRead p 8)
    let answers (i : Instr) (u : State) (v : Nat) : Prop := exec i s = .next (u.setThread t ((u.thread t).wrote rd (BitVec.ofNat 64 v)))
    let put (v : Nat) : State := (s.fired t).commit p (leBytes 8 v)
    (s.canIssue t (.lclaimw t rd ra) → (w % 2 ^ 16 = 0 → answers (.lclaimw t rd ra) (put (0x1000 + t + (0x800 + t) * 2 ^ 16)) (0x1000 + t))
      ∧ (w % 2 ^ 16 ≠ 0 → answers (.lclaimw t rd ra) (s.fired t) (w % 2 ^ 16)))
    ∧ (s.canIssue t (.lrelw t rd ra) → (w / 2 ^ 16 % 2 ^ 32 = 0x800 + t → answers (.lrelw t rd ra) (put 0) 0)
      ∧ (w / 2 ^ 16 % 2 ^ 32 ≠ 0x800 + t → answers (.lrelw t rd ra) ((s.fired t).tally Reg.LCK_STATUS_BAD_RELEASE 0x186) (w % 2 ^ 16))))

/-- From R6, R24, R35, R300, R303, R410, R413, R416 to R429, R436, R442, R444: the commands that write one register of the platform
blocks. An accepted write stores its fields, and then: a quiesce starts its drain, a release returns a resource, an enable claims one,
a reset, flash or monitor command starts.
From R22 to R24, R37, R40, R41, R444: what the switches and claims of the platform do: a new quiesce starts a drain and a resume ends it;
a claim of a free resource takes it with STATUS 0, a claim of one that another feature owns ends in CONFLICT with the configuration
error; a release frees a resource whose owner is disabled; a flash command starts while none is under way. -/
def Obligations.PlatformRegisterCommands : Prop :=
  (∀ (s : State) (req : Requester) (v : Word) (n : Nat) (m : Measurement),
    let acts (i : Instr) (a : Nat) (x : Word) (f : State → Write → State) : Prop :=
      s.accepts req a a x → exec i s = .next (f (s.stored a x) (s.writeOf req a x))
    let crossing (u : State) (w : Write) : State := u.quiesceSwitch n (w.was 0) (w.want 0)
    let spare (u : State) (w : Write) : State := (u.claimSpare Reg.GLB_SPARE_XBAR_CTRL_LOOP_EN 1 (w.was 0) (w.want 0)).claimSpare
      Reg.GLB_SPARE_XBAR_CTRL_MIRROR_EN 2 (w.was 1) (w.want 1)
    (n < 8 → acts (.quiesce req n v) (512 + 8 * n) (setBit v 0) crossing)
    ∧ (n < 8 → acts (.resume req n v) (512 + 8 * n) (clearBit v 0) crossing)
    ∧ acts (.resRelease req v) 800 v (fun u _ => u.resRelease (v.toNat % 256))
    ∧ acts (.loopEn req v) 832 (setBit v 0) spare ∧ acts (.loopDisable req v) 832 (clearBit v 0) spare
    ∧ acts (.mirrorEn req v) 832 (setBit v 1) spare ∧ acts (.mirrorDisable req v) 832 (clearBit v 1) spare
    ∧ acts (.adminLock req v) 1536 (setBit v 8) (fun u _ => u)
    ∧ acts (.warmChipReset req v) 0x1008 (setBit v 8) (fun u _ => u.resetCtrl (setBit v 8))
    ∧ acts (.blockGo req v) 0x1008 (setBit v 7) (fun u _ => u.resetCtrl (setBit v 7))
    ∧ acts (.svnCommit req v) 0x1008 (setBit v 10) (fun u _ => u.resetCtrl (setBit v 10))
    ∧ acts (.flashErase req v) 0x1110 (putBits v 0 3 1) (fun u _ => u.flashGo 1)
    ∧ acts (.flashProgram req v) 0x1110 (putBits v 0 3 2) (fun u _ => u.flashGo 2)
    ∧ acts (.flashRead req v) 0x1110 (putBits v 0 3 3) (fun u _ => u.flashGo 3)
    ∧ acts (.flashVerify req v) 0x1110 (putBits v 0 3 4) (fun u _ => u.flashGo 4)
    ∧ (n < 16 → acts (.evtStatusClear req n v) (0x100000 + 8 * n) v (fun u w => (u.wr Reg.EVT_STATUS_STATUS
        (u.rd Reg.EVT_STATUS_STATUS n ||| (w.old.toNat &&& u.rd Reg.EVT_ACTIVE_ACTIVE n)) n).aliveCheck))
    ∧ acts (.fltLock req v) 0x100200 (setBit v 0) (fun u _ => u)
    ∧ acts (.faultInject req v) 0x100208 (setBit v 10) (fun u _ => if u.on Reg.FLT_CTRL_INJECT_EN ∧ u.factory then
        u.raise (u.rd Reg.FLT_INJECT_SOURCE) (u.rd Reg.FLT_INJECT_INFO) true else u)
    ∧ acts (.aliveStart req v) 0x100210 (setBit v 0) (fun u w => if w.want 0 then u.aliveStart else u)
    ∧ acts (.replan req v m) 0x200018 (setBit v 0) (fun u _ => u.replan m)
    ∧ (v.getLsbD 9 = false → acts (.proposalApprove req v) 0x200030 (setBit v 8) (fun u _ => u.approve (u.rd Reg.LCH_PROPOSAL_CMD_ID)))
    ∧ (v.getLsbD 8 = false → acts (.proposalDecline req v) 0x200030 (setBit v 9)
        (fun u _ => u.declineProposal (u.rd Reg.LCH_PROPOSAL_CMD_ID)))
    ∧ acts (.calendarSet req v) 0x200038 v (fun u w => u.calendarSet (bits w.cand 0 40)))
  ∧ (∀ (s : State) (n op : Nat),
    s.quiesceSwitch n false true = { s with ft := { s.ft with drains := s.ft.drains.filter (· != n) ++ [n] } }
    ∧ (s.quiet → s.tp.qps = [] → s.bt.cxlWait = [] → s.quiesceSwitch n true false
        = { s with ft := { s.ft with drains := s.ft.drains.filter (· != n) } }.wr Reg.GLB_CROSSING_CTRL_QUIESCED 0 n)
    ∧ (s.rd Reg.GLB_RES_OWNER_SPARE_XBAR = 0 → s.claimSpare Reg.GLB_SPARE_XBAR_CTRL_LOOP_EN 1 false true
        = ((s.wr Reg.GLB_RES_OWNER_SPARE_XBAR 1).wr Reg.GLB_SPARE_XBAR_CTRL_STATUS 0).wr Reg.GLB_SPARE_XBAR_CTRL_LOOP_EN 1)
    ∧ (s.rd Reg.GLB_RES_OWNER_SPARE_XBAR = 1 → s.claimSpare Reg.GLB_SPARE_XBAR_CTRL_MIRROR_EN 2 false true
        = (s.wr Reg.GLB_SPARE_XBAR_CTRL_STATUS 0x0B).configError 832 0x0B)
    ∧ (s.rd Reg.GLB_RES_OWNER_TIMEPULSE = 0 → s.claimPulse Reg.SCH_PULSE_CFG_DEBUG_OUT 2 false true
        = ((s.wr Reg.GLB_RES_OWNER_TIMEPULSE 2).wr Reg.SCH_PULSE_CFG_STATUS 0).wr Reg.SCH_PULSE_CFG_DEBUG_OUT 1)
    ∧ (s.on Reg.GLB_SPARE_XBAR_CTRL_LOOP_EN = false → s.on Reg.GLB_SPARE_XBAR_CTRL_MIRROR_EN = false →
        s.resRelease 1 = s.wr Reg.GLB_RES_OWNER_SPARE_XBAR 0)
    ∧ (s.rd Reg.GLB_RES_OWNER_SPARE_XBAR = 1 → s.on Reg.GLB_SPARE_XBAR_CTRL_LOOP_EN = true → s.resRelease 1 = s.configError 800 0x0B)
    ∧ (1 ≤ op → op ≤ 4 → s.on Reg.BOOT_FLASH_CMD_BUSY = false → s.flashGo op
        = { s with bt := { s.bt with flashOp := some op, flashAddr := s.rd Reg.BOOT_FLASH_ADDR_ADDR, flashData := s.rd Reg.BOOT_FLASH_DATA_DATA
            } }.wr Reg.BOOT_FLASH_CMD_BUSY 1)
    ∧ (s.on Reg.BOOT_FLASH_CMD_BUSY = true → op ≤ 4 → s.flashGo op = s))

/-- From R43, R153, R163, R218, R225, R251, R259, R280, R284, R288: the commands that write one register of the transport, swarm, router, link
and lane blocks. -/
def Obligations.NetworkRegisterCommands : Prop :=
  ∀ (s : State) (req : Requester) (v : Word) (fn port lane : Nat),
    let acts (i : Instr) (a : Nat) (x : Word) (f : State → Write → State) : Prop :=
      s.accepts req a a x → exec i s = .next (f (s.stored a x) (s.writeOf req a x))
    let frond (bit1 : Nat) (u : State) (_ : Write) : State :=
      settle (u.frondCtrl (BitVec.ofNat 64 (u.rd Reg.SWM_FROND_CTRL_GID + bits (setBit v bit1) 16 2 * 2 ^ 16)))
    let pend (w : Write) : Bool := w.was 2
    let link (u : State) (w : Write) : State :=
      if w.was 0 ∧ !w.want 0 then settle (u.linkOff port) else if !w.was 0 ∧ w.want 0 then u.linkEnabled port else u
    let retire (u : State) (w : Write) : State :=
      let u := if u.rd Reg.LAN_PORT_CFG_RATE port = 2 then u.lanesOff port else u
      if w.was 8 = w.want 8 then u else settle (u.retireBySoftware port (w.want 8))
    (Requester.fn req = fn → fn < 2048 → s.accepts req (if Requester.isVf req then 0 else 0x400000) (0x4000000 + 32 * fn) (setBit v 16) →
      exec (.abiRequest req fn v) s = .next ((s.stored (0x4000000 + 32 * fn) (setBit v 16)).abiGo fn))
    ∧ acts (.frondCtrlWrite req v) 0xC00020 (setBit v 16) (frond 16) ∧ acts (.frondCtrlRead req v) 0xC00020 (setBit v 17) (frond 17)
    ∧ acts (.swarmEnable req v) 0xC00000 (setBit v 0) (fun u w => (u.swarmSwitch (w.was 0) (w.want 0)).slotsShown)
    ∧ acts (.rteMgmtRelease req v) 0x1000008 (setBit v 2) (fun u _ => u.dropOwner)
    ∧ (v.getLsbD 4 = false → acts (.routeSwap req v) 0x1000100 (setBit v 0) (fun u w => if pend w then u else u.swapGo.announce u))
    ∧ (v.getLsbD 0 = false → acts (.swapCancel req v) 0x1000100 (setBit v 4)
        (fun u w => if pend w then u.wr Reg.RTE_SWAP_PENDING 0 else u))
    ∧ (port < 72 →
      acts (.linkEnable req port v) (0x2000000 + 0x10000 * port) (setBit v 0) link
      ∧ acts (.linkDisable req port v) (0x2000000 + 0x10000 * port) (clearBit v 0) link
      ∧ acts (.exerciseEnable req port v) (0x2000100 + 0x10000 * port) (setBit v 0) (fun u w => u.exerciseSwitch port (w.was 0) (w.want 0))
      ∧ acts (.portRetire req port v) (0x2810000 + 0x1000 * port) (setBit v 8) retire
      ∧ acts (.portUnretire req port v) (0x2810000 + 0x1000 * port) (clearBit v 8) retire
      ∧ (lane < 2 → acts (.injectOne req port lane v) (0x2810118 + 0x1000 * port + 0x80 * lane) (setBit v 8) (fun u w =>
        (if bits w.old 4 3 = bits w.cand 4 3 then u else u.checkerRestart port lane).patternBurst port lane)))

/-- From R300, R303, R372 to R383, R479, R481, R486, R487: the commands that write one register of the scheduling, forager, translation, lock
and counter blocks.
From R10, R14, R479: what accepted writes leave in registers that nothing else acts on: the value of a read-write field, and a lock that
is set stays set; while FLT_CTRL is locked, no EVT_SRC_CFG field changes. -/
def Obligations.UnitRegisterCommands : Prop :=
  (∀ (s : State) (req : Requester) (v : Word) (n : Nat),
    let acts (i : Instr) (a : Nat) (x : Word) (f : State → Write → State) : Prop :=
      s.accepts req a a x → exec i s = .next (f (s.stored a x) (s.writeOf req a x))
    let pulse (u : State) (w : Write) : State :=
      let u := (u.claimPulse Reg.SCH_PULSE_CFG_PULSE_IN 1 (w.was 0) (w.want 0)).claimPulse Reg.SCH_PULSE_CFG_DEBUG_OUT 2 (w.was 1) (w.want 1)
      u.gateDebug (u.rd Reg.SCH_PULSE_CFG_OUT_PORT)
    let gate (go : Bool) (u : State) (w : Write) : State :=
      let u := u.gateSwitch n (w.was 0) (w.want 0)
      if go then u.gateGo n else u
    acts (.pulseInClaim req v) 0x3800018 (setBit v 0) pulse ∧ acts (.debugOutClaim req v) 0x3800018 (setBit v 1) pulse
    ∧ (n < 72 → acts (.gateGo req n v) (0x3900028 + 0x2000 * n) (setBit v 1) (gate true)
      ∧ acts (.gateEnable req n v) (0x3900028 + 0x2000 * n) (setBit v 0) (gate (v.getLsbD 1))
      ∧ acts (.gateDisable req n v) (0x3900028 + 0x2000 * n) (clearBit v 0) (gate (v.getLsbD 1)))
    ∧ (n < 4096 → (v.toNat % 2 ^ 16 ≠ 0 →
        acts (.lckWordClaim req n v) (0x3610000 + 8 * n) v (fun u _ => u.lockWordWrite req n (v.toNat % 2 ^ 16)))
      ∧ acts (.lckWordRelease req n v) (0x3610000 + 8 * n) (putBits v 0 16 0) (fun u _ => u.lockWordWrite req n 0))
    ∧ acts (.lckForce req v) 0x3601600 (setBit v 12) (fun u _ => u.forceWord (u.rd Reg.LCK_FORCE_INDEX) (sourceCode req))
    ∧ acts (.lckCompatForce req v) 0x3601608 v (fun u _ => u.forceCompat (v.toNat % 2 ^ 37) (sourceCode req))
    ∧ (n < 8 → acts (.compatRangeEnable req n v) (0x3601700 + 16 * n) (setBit v 0) (fun u w => u.compatSwitch n (w.was 0) (w.want 0)))
    ∧ (n < 2048 → acts (.xltCtxWrite req n v) (0x3401000 + 8 * n) v (fun u _ => settle (u.contextWritten n)))
    ∧ acts (.handlerPolicyLock req v) 0x3000100 (setBit v 1) (fun u _ => u)
    ∧ (n < 512 → acts (.counterSet req n v) (0x3C00000 + 8 * n) v (fun u _ => u))
    ∧ acts (.clearAll req v) 0x3C02000 (setBit v 1) (fun u _ => u.resetRegs 0x3C00000 0x3C01000)
    ∧ (v.getLsbD 1 = false → acts (.freeze req v) 0x3C02000 v (fun u _ => u))
    ∧ acts (.samplerEnable req v) 0x3C02008 (setBit v 0) (fun u w => u.samplerSwitch (w.was 0) (w.want 0))
    ∧ acts (.sampleIndexCopy req v) 0x3C02028 v (fun u _ => u.sampleCopy (u.rd Reg.CTR_SAMPLE_INDEX_INDEX)))
  ∧ (∀ (s : State) (v : Word),
    (s.stored 0x3C02000 v).on Reg.CTR_CTRL_FREEZE = v.getLsbD 0
    ∧ (s.stored 0x3C00000 v).rd Reg.CTR_COUNT_VALUE 0 = v.toNat % 2 ^ 48
    ∧ (s.stored 0x3C00FF8 v).rd Reg.CTR_COUNT_VALUE 511 = v.toNat % 2 ^ 48
    ∧ (s.stored 0x100200 (setBit v 0)).on Reg.FLT_CTRL_LOCK = true
    ∧ (s.on Reg.FLT_CTRL_LOCK = true → (s.stored 0x100200 v).on Reg.FLT_CTRL_LOCK = true)
    ∧ (s.on Reg.FLT_CTRL_LOCK = true → ∀ k < 1024, s.stored (0x101000 + 8 * k) v = s)
    ∧ (s.stored 0x3000100 (setBit v 1)).on Reg.FGR_HANDLER_POLICY_LOCK = true ∧ (s.stored 1536 (setBit v 8)).on Reg.GLB_ADMIN_LOCK = true
    ∧ (s.stored 0x200030 v).rd Reg.LCH_PROPOSAL_CMD_ID = v.toNat % 2 ^ 8)

/-- From R7, R476, R478: a register write of 8 bytes that a rule of who may write forbids stores nothing, and is counted and captured; an
access of another size or alignment is answered Unsupported Request and captured.
From R11, R475: an 8-byte read returns the register and sets its RC fields to 0, a 4-byte read returns its half and clears nothing; a read
of an offset without a register returns 0.
From R6, R23: the plain write of a register is the write that the commands of one register are, and a write at an offset without a
register changes nothing.
From R26: a register access that a domain controller does not answer: a read returns all ones, a write is discarded; the event names the
domain, which is 7 for the counter views of functions.
From R411, R473: BAR4 holds a function's MSI-X table: the message address, the message data and the mask bit of each vector, and the pending
bits, which a write does not change. -/
def Obligations.RegisterAccesses : Prop :=
  (∀ (s : State) (f off size a : Nat) (v : Word) (r : RegSpec), s.reaches (.host f) off → s.viewOf (.host f) (off / 8 * 8) = none →
    homeOf (.host f) (off / 8 * 8) = some a → specOf a = some r → 0x3C04000 ≤ a ∨ a < 0x3C00000 → a < 0x3610000 ∨ 0x3618000 ≤ a →
    a < 0x4000000 → (∀ g, s.adminLink g = false) →
    (off % 8 = 0 → exec (.registerWrite (.host f) off 8 v) s
      = .next ((s.sat Reg.GLB_ADMIN_DENIED 1).captureAccess (.host f) 1 off 8))
    ∧ (accessOk (.host f) off size = false → exec (.registerWrite (.host f) off size v) s
        = .next ((s.captureAccess (.host f) 2 off size).emit (.unsupportedRequest (.host f)))
      ∧ exec (.registerReadClear (.host f) off size) s
        = .next ((s.captureAccess (.host f) 2 off size).emit (.unsupportedRequest (.host f)))))
  ∧ (∀ (s : State) (req : Requester) (off a : Nat) (r : RegSpec), s.reaches req off → off % 8 = 0 → s.viewOf req off = none →
    (homeOf req off = some a → specOf a = some r → a < 0x3610000 ∨ 0x3618000 ≤ a →
      (let w := clearRc r.fields (s.reg a r.rst)
       let u := if w = s.reg a r.rst then s else { s with regs := mset s.regs a w }
       exec (.registerReadClear req off 8) s = .next (u.emit (.regValue req (s.showReg a r.rst))))
      ∧ ∀ f, req = .host f → exec (.registerReadClear req off 4) s
        = .next (s.emit (.regValue req (BitVec.ofNat 64 ((s.showReg a r.rst).toNat % 2 ^ 32)))))
    ∧ (homeOf req off = none → exec (.registerReadClear req off 8) s = .next (s.emit (.regValue req 0))))
  ∧ (∀ (s : State) (req : Requester) (off : Nat) (v : Word), s.reaches req off → off % 8 = 0 → s.viewOf req off = none →
    (∀ a, s.accepts req off a v → exec (.registerWrite req off 8 v) s = .next ((s.stored a v).act (s.writeOf req a v)))
    ∧ (homeOf req off = none → exec (.registerWrite req off 8 v) s = .next s)
    ∧ (∀ a, homeOf req off = some a → specOf a = none → exec (.registerWrite req off 8 v) s = .next s))
  ∧ (∀ (s : State) (req : Requester) (off : Nat), s.reaches req off →
    let ends (d : Nat) : Prop := exec (.registerAccessTimeout req off true) s = .next (s.raise 2 d)
      ∧ exec (.registerAccessTimeout req off false) s = .next ((s.emit (.regValue req (BitVec.allOnes 64))).raise 2 d)
    (∀ a, s.viewOf req (off / 8 * 8) = none → homeOf req (off / 8 * 8) = some a → ends (domainOf a))
    ∧ (∀ k, s.viewOf req (off / 8 * 8) = some k → ends 7))
  ∧ (∀ (s : State) (fn k : Nat) (v : Word), k < 2048 → s.bar4Reaches fn (16 * k) →
    let f := s.func fn
    let old := mgetD f.vectors k {}
    let writes (off : Nat) (x : Vector) : Prop := exec (.registerWrite (.bar4 fn) off 8 v) s = .next (s.setFunc fn { f with vectors := mset f.vectors k x })
    let reads (off n : Nat) : Prop := exec (.registerReadClear (.bar4 fn) off 8) s = .next (s.emit (.regValue (.bar4 fn) (BitVec.ofNat 64 n)))
    writes (16 * k) { old with addr := v.toNat / 4 * 4 }
    ∧ (v.getLsbD 32 = true → writes (16 * k + 8) { old with data := v.toNat % 2 ^ 32, masked := true })
    ∧ (v.getLsbD 32 = false → old.pending = false → writes (16 * k + 8) { old with data := v.toNat % 2 ^ 32, masked := false })
    ∧ reads (16 * k) old.addr ∧ reads (16 * k + 8) (old.data % 2 ^ 32 + if old.masked then 2 ^ 32 else 0)
    ∧ ∃ w, exec (.registerReadClear (.bar4 fn) (0x8000 + k / 64 * 8) 8) s = .next (s.emit (.regValue (.bar4 fn) w)) ∧ w.getLsbD (k % 64) = old.pending)

/-- From R43: the handshake: a function that holds objects gets INVALID_STATE, a major version other than 2 VERSION_MISMATCH, else the minor
version is the lower of the one asked for and 3.
From R46: a written GO reads the 64-byte block at TPT_CMD_ADDR on the function's host link; a GO while a command is busy is counted and
does nothing else.
From R46, R492: when the block has been read the command is in hand; a command before the handshake ends INVALID_STATE, one that is not well
formed BAD_DESCRIPTOR, and a failed read REMOTE_OP_ERROR with TARGET_ERROR or TARGET_TIMEOUT; a timeout is an
uncorrectable error of the host link.
From R46: a completed command shows BUSY 0, DONE 1, its status and its result, and nothing else of the device changes with it. -/
def Obligations.CommandBlocksOfFunctions : Prop :=
  (∀ (s : State) (fn : Nat),
    let f := s.func fn
    let answers (u : State) (st : Nat) : Prop := s.abiGo fn = (u.wr Reg.TPT_ABI_STATUS_STATUS st fn).wr Reg.TPT_ABI_STATUS_DONE 1 fn
    let m := min (s.rd Reg.TPT_ABI_REQUEST_MINOR fn) 3
    (f.holdsObjects → answers s 0x12) ∧ (!f.holdsObjects → s.rd Reg.TPT_ABI_REQUEST_MAJOR fn ≠ 2 → answers s 0x0E)
    ∧ (!f.holdsObjects → s.rd Reg.TPT_ABI_REQUEST_MAJOR fn = 2 →
        answers (((s.setFunc fn { f with major := 2, minor := m }).wr Reg.TPT_ABI_STATUS_MAJOR 2 fn).wr Reg.TPT_ABI_STATUS_MINOR m fn) 0))
  ∧ (∀ (s : State) (fn : Nat), s.rd Reg.TPT_CMD_ADDR_ADDR fn % 64 = 0 →
    (s.on Reg.TPT_CMD_CTRL_BUSY fn = false → ∃ u, s.cmdGo fn = u ∧ u.on Reg.TPT_CMD_CTRL_BUSY fn = true
      ∧ u.on Reg.TPT_CMD_CTRL_DONE fn = false ∧ (u.func fn).cmd = some {}
      ∧ (s.bt.isolated = false → u.out = s.out ++ [.hostRead (fn / 256) (s.rd Reg.TPT_CMD_ADDR_ADDR fn) 64 s.tp.nextId]))
    ∧ (s.on Reg.TPT_CMD_CTRL_BUSY fn = true →
        s.cmdGo fn = s.tally Reg.TPT_VIOLATION_CMD_OVERLAP 0x1C3 0 (some (fn, 0))))
  ∧ (∀ (s : State) (fn : Nat) (c : Cmd) (b : List Byte), s.pins → (s.func fn).cmd = some c → c.read = false →
    let ws := toWords 8 (slice b 0 64)
    let f := s.func fn
    (f.major ≠ 0 → cmdOk f.minor ws → exec (.cmdBlockReadDone fn (.data b)) s
      = .next (s.setFunc fn { f with cmd := some { c with words := ws, read := true } }))
    ∧ (f.major = 0 → exec (.cmdBlockReadDone fn (.data b)) s = .next (s.cmdDone fn 0x12))
    ∧ (f.major ≠ 0 → !cmdOk f.minor ws → exec (.cmdBlockReadDone fn (.data b)) s = .next (s.cmdDone fn 0x0C))
    ∧ exec (.cmdBlockReadDone fn .error) s = .next (s.cmdDone fn 0x0D 14)
    ∧ exec (.cmdBlockReadDone fn .timeout) s = .next ((s.raise (0x2C1 + 8 * (fn / 256)) (2 ^ 14)).cmdDone fn 0x0D 13))
  ∧ (∀ (s : State) (fn st res : Nat), st < 2 ^ 8 → res < 2 ^ 32 →
    let u := s.cmdDone fn st res
    u.on Reg.TPT_CMD_CTRL_BUSY fn = false ∧ u.on Reg.TPT_CMD_CTRL_DONE fn = true ∧ u.rd Reg.TPT_CMD_CTRL_STATUS fn = st
      ∧ u.rd Reg.TPT_CMD_CTRL_RESULT fn = res ∧ u.func fn = { s.func fn with cmd := none }
      ∧ (∀ g, g ≠ fn → u.func g = s.func g) ∧ (∀ a, a ≠ Reg.TPT_CMD_CTRL_BUSY.addr fn 0 → mget u.regs a = mget s.regs a)
      ∧ u.km = s.km ∧ u.mt = s.mt ∧ u.fg = s.fg ∧ u.out = s.out ∧ u.store = s.store ∧ u.tp.qps = s.tp.qps)

/-- From R45, R46, R57, R493: what the commands on protection domains, completion queues and event queues do, each on its normal path and on the
object that is there already, is not there, or is in use. -/
def Obligations.DomainAndQueueCommands : Prop :=
  ∀ (s : State) (fn : Nat) (ws : List Word), s.quiet → s.clocks →
    let f := s.func fn
    let i := cmdObject ws
    let log := (wordAt ws 1).toNat % 256
    let vec := (wordAt ws 1).toNat / 2 ^ 16 % 2 ^ 11
    let base := (wordAt ws 2).toNat
    let ends (c : Instr) (u : State) (st : Nat) : Prop := exec c s = .next (u.cmdDone fn st)
    (s.cmdOf fn 1 = some ws → i < 65536 → (mget f.pds i = none → (s.tp.funcs.map fun p => p.2.pds.length).sum < 65536 →
        ends (.createPd fn) (s.setFunc fn { f with pds := mset f.pds i {} }) 0) ∧ (mget f.pds i ≠ none → ends (.createPd fn) s 0x12))
    ∧ (s.cmdOf fn 2 = some ws → i < 65536 → (mget f.pds i ≠ none → !s.pdUsed fn i →
        ends (.destroyPd fn) (s.setFunc fn { f with pds := mdel f.pds i }) 0) ∧ (s.pdUsed fn i ∨ mget f.pds i = none → ends (.destroyPd fn) s 0x12))
    ∧ (s.cmdOf fn 3 = some ws → idxOk fn i → 6 ≤ log → log ≤ 20 → base % 4096 = 0 → (mget f.cqs i = none →
        ends (.createCq fn) (s.setFunc fn { f with cqs := mset f.cqs i { log := log, vector := vec, base := base } }) 0)
        ∧ (mget f.cqs i ≠ none → ends (.createCq fn) s 0x12))
    ∧ (s.cmdOf fn 4 = some ws → idxOk fn i → (mget f.cqs i ≠ none → !s.cqUsed fn i →
        ends (.destroyCq fn) (s.setFunc fn { f with cqs := mdel f.cqs i }) 0) ∧ (s.cqUsed fn i ∨ mget f.cqs i = none → ends (.destroyCq fn) s 0x12))
    ∧ (s.cmdOf fn 5 = some ws → i = 0 → 6 ≤ log → log ≤ 20 → base % 4096 = 0 → (f.eq = none →
        ends (.createEq fn) (s.setFunc fn { f with eq := some { log := log, vector := vec, base := base } }) 0)
        ∧ (f.eq ≠ none → ends (.createEq fn) s 0x12))

/-- From R46, R60 to R64: the commands on queue pairs: creation, the five target states, destruction, and the query of state and next PSN.
From R64, R65: a queue pair that enters ERROR leaves every state but RESET for ERROR, holds no packet, and writes its event; one in ERROR or
RESET stays as it is. -/
def Obligations.QueuePairCommands : Prop :=
  (∀ (s : State) (fn n qpn : Nat) (ws : List Word) (q : Qp), s.quiet → s.clocks → idxOk fn (cmdObject ws) →
    let f := s.func fn
    let eid := (wordAt ws 2).toNat % 2 ^ 20
    let peer := (wordAt ws 2).toNat / 2 ^ 32 % 2 ^ 24
    let new := newQp fn qpn ws
    let ends (c : Instr) (u : State) (st res : Nat) : Prop := exec c s = .next (settle (u.cmdDone fn st res))
    (s.cmdOf fn 6 = some ws → qpn < 2 ^ 24 → s.qp qpn = none → createQpOk fn f.minor ws → mget f.qps new.idx = none →
      mget f.pds new.pd ≠ none → mget f.cqs new.sendCq ≠ none → (new.rqLog = 0 ∨ mget f.cqs new.recvCq ≠ none) → s.poolUsed < s.poolSize →
      ends (.createQp fn qpn) ((((s.setFunc fn { f with qps := mset f.qps new.idx qpn }).setQp qpn new).touch qpn).ctxShown) 0 qpn)
    ∧ (s.qpnOf fn (cmdObject ws) = some n → s.qp n = some q →
      (s.cmdOf fn 8 = some ws → (q.st = .reset ∨ q.st = .error → ends (.destroyQp fn) (s.removeQp n) 0 0)
        ∧ (q.st = .ready → ends (.destroyQp fn) s 0x12 0))
      ∧ (s.cmdOf fn 9 = some ws → ends (.queryQp fn) s 0
        (q.st.code + 256 * if q.shared then 0 else match q.conns with | (_, c) :: _ => c.nextPsn | [] => 0))
      ∧ (s.cmdOf fn 7 = some ws →
        let target := (wordAt ws 1).toNat % 8
        (target = 1 → q.st = .reset → ends (.modifyQpInit fn) (s.setQp n { q with st := .init }) 0 0)
        ∧ (target = 1 → q.st ≠ .reset → ends (.modifyQpInit fn) s 0x12 0)
        ∧ (target = 2 → q.st = .init → !q.shared → s.ownEid fn ≠ none → s.eidLookup eid ≠ none → ends (.modifyQpReady fn) (s.setQp n
            { q with st := .ready, pausedSent := false, peerEid := eid, peerQpn := peer, conns := [(connKey eid peer,
                ({ peerEid := eid, peerQpn := peer, nextPsn := (wordAt ws 3).toNat % 2 ^ 24,
                   epsn := (wordAt ws 3).toNat / 2 ^ 32 % 2 ^ 24 } : Conn))] }) 0 0)
        ∧ (target = 2 → q.st = .paused → s.ownEid fn ≠ none →
            ends (.modifyQpReady fn) (s.setQp n { q with st := .ready, pausedSent := false }) 0 0)
        ∧ (target = 2 → q.st = .init ∨ q.st = .paused → s.ownEid fn = none → ends (.modifyQpReady fn) s 0x12 2)
        ∧ (target = 2 → q.st = .init → !q.shared → s.ownEid fn ≠ none → s.eidLookup eid = none → ends (.modifyQpReady fn) s 0x12 1)
        ∧ (target = 3 → q.st = .ready →
            ends (.modifyQpPaused fn) ((s.setQp n { q with st := .paused, pausedSent := false }).drainSq n) 0 0)
        ∧ (target = 3 → q.st = .init → ends (.modifyQpPaused fn) s 0x12 0)
        ∧ (target = 4 → q.st ≠ .reset → ends (.modifyQpError fn) (s.enterError n 0x01) 0 0)
        ∧ (target = 0 → q.st = .reset → ends (.modifyQpReset fn) s 0 0)
        ∧ (target = 0 → q.st ≠ .reset → !q.resetting → ∀ r, (s.beginReset n).qp n = some r → !r.unread → r.handlerRun = none →
            let u := s.beginReset n
            ends (.modifyQpReset fn) (((({ u with bt := { u.bt with nonce := none } } : State).setQp n r.cleared).dropResults n none).matchShown fn) 0 0))))
  ∧ (∀ (s : State) (n st : Nat) (c : Option Nat) (q : Qp), s.qp n = some q →
    (q.st = .error ∨ q.st = .reset → s.enterError n st c = s)
    ∧ (q.st ≠ .error → q.st ≠ .reset → ∃ r, (s.enterError n st c).qp n = some r ∧ r.st = .error ∧ r.shaped = none ∧ r.fins = [] ∧ r.waits = []
      ∧ (∀ p ∈ r.conns, p.2.track = [] ∧ p.2.latch = none) ∧ ∃ w ∈ (s.enterError n st c).tp.writes, w.use = .eq q.fn))

/-- From R87 to R89, R110: the commands on regions and windows: a new key takes the next index and the generation that the index last reached; a
region whose accesses have ended is free at once, else its command waits for the drain. -/
def Obligations.RegionAndWindowCommands : Prop :=
  ∀ (s : State) (fn i : Nat) (ws : List Word), s.quiet → s.clocks → cmdObject ws = 0 →
    let pd := (wordAt ws 1).toNat % 2 ^ 16
    let rights := (wordAt ws 1).toNat / 2 ^ 16 % 2 ^ 8
    let store := (wordAt ws 1).getLsbD 24
    let base := (wordAt ws 2).toNat
    let len := (wordAt ws 3).toNat
    let a := (wordAt ws 4).toNat
    let k := (wordAt ws 1).toNat % 2 ^ 32
    let e := s.key (keyIndex k)
    let ends (c : Instr) (u : State) (st res : Nat) : Prop := exec c s = .next (u.cmdDone fn st res)
    (mget (s.func fn).pds pd ≠ none → !s.quotaFull fn → s.freeIndex = some i →
      (s.cmdOf fn 0x0A = some ws → rights < 32 → 0 < len → len ≤ 2 ^ 48 → (store → s.inUse 6 a len) →
        let u := s.newKey i
          { kind := 1, rights := rights, store := store, pd := pd, fn := fn, base := base, length := len,
            storeAddr := if store then a else 0 }
        ends (.regMr fn) u 0 (u.keyOf i))
      ∧ (s.cmdOf fn 0x0C = some ws → let u := s.newKey i { kind := 2, pd := pd, fn := fn }; ends (.allocWindow fn) u 0 (u.keyOf i)))
    ∧ (s.cmdOf fn 0x0B = some ws → s.keyCase fn k 1 = none → !s.hasBound (keyIndex k) → !e.draining → !e.revoked →
      let v := s.revoke (keyIndex k)
      let u := v.setKey (keyIndex k) { v.key (keyIndex k) with revoked := true }
      (e.inUse = 0 → ends (.deregMr fn) (u.freeKey (keyIndex k)) 0 0)
      ∧ (e.inUse ≠ 0 → exec (.deregMr fn) s = .next (u.waitForKey fn (keyIndex k))))
    ∧ (s.cmdOf fn 0x0B = some ws → s.keyCase fn k 1 = none → s.hasBound (keyIndex k) → ends (.deregMr fn) s 0x12 0)
    ∧ (s.cmdOf fn 0x0D = some ws → s.keyCase fn k 2 = none → !e.bound → !e.draining →
      ends (.freeWindow fn) ((s.setKey (keyIndex k) { e with generation := if e.generation = 255 then 1 else e.generation + 1 }).freeKey
        (keyIndex k)) 0 0)
    ∧ (s.cmdOf fn 0x0D = some ws → s.keyCase fn k 2 = none → e.bound → ends (.freeWindow fn) s 0x12 0)

/-- From R145, R351, R352: a handler whose image passes its checks is installed under a free index of its function from 1 to 1023, which is the
result; a handler that nothing uses is removed. Which free index it is, the spec leaves open (log entry 2).
From R293, R296: SET_SHAPER gives a queue pair its rate, depth and pre-colour, and its level, filled so far at the old rate, is clamped; SET_POLICER of a physical function gives
a domain its rates; one of a virtual function ends INVALID_STATE. -/
def Obligations.HandlerAndRateCommands : Prop :=
  (∀ (s v : State) (fn : Nat) (ws : List Word) (b : List Byte) (ps : List (Nat × Nat)) (se : List Bool) (c : Nat × Nat), s.quiet → s.clocks →
    let f := s.func fn
    let pd := (wordAt ws 1).toNat % 2 ^ 16
    let len := (wordAt ws 3).toNat % 2 ^ 32
    let i := cmdObject ws
    (s.cmdOf fn 0x0E = some ws → i = 0 → 64 ≤ len → len ≤ 262144 → mget f.pds pd ≠ none → s.scratch → f.handlers.length < 1023 →
      s.mt.handlers.length < 16384 → s.translate (.command fn) fn (wordAt ws 2).toNat len accRead = (v, .ok ps se c) → v.quiet → v.imageFault len b = none →
      ∃ u j h, exec (.regHandler fn (.data b)) s = .next u ∧ 1 ≤ j ∧ j ≤ 1023 ∧ j ∉ f.handlers ∧ (u.func fn).handlers = j :: f.handlers
        ∧ mget u.mt.handlers (1024 * fn + j) = some h ∧ h.pd = pd ∧ h.entry = (imageLens b).2.2.1
        ∧ h.rodata = (b.drop (64 + (imageLens b).1)).take (imageLens b).2.1
        ∧ u.rd Reg.TPT_CMD_CTRL_STATUS fn = 0 ∧ u.rd Reg.TPT_CMD_CTRL_RESULT fn = j)
    ∧ (s.cmdOf fn 0x0F = some ws → 1 ≤ i → i ≤ 1023 → (f.handlers.contains i → !s.handlerUsed fn i → exec (.deregHandler fn) s
        = .next (({ s.setFunc fn { f with handlers := f.handlers.filter (· != i) } with
            mt := { s.mt with handlers := mdel s.mt.handlers (1024 * fn + i) } } : State).cmdDone fn 0))
      ∧ (s.handlerUsed fn i → exec (.deregHandler fn) s = .next (s.cmdDone fn 0x12))))
  ∧ (∀ (s : State) (fn n : Nat) (ws : List Word) (q : Qp) (p : Policer), s.quiet → s.clocks →
    let rate := (wordAt ws 1).toNat % 2 ^ 20
    let old := q.shaper.refill s.time
    let pre := (wordAt ws 1).toNat / 2 ^ 20 % 4
    let burst := (wordAt ws 2).toNat % 2 ^ 24
    let pir := (wordAt ws 1).toNat / 2 ^ 20 % 2 ^ 20
    let cbs := (wordAt ws 2).toNat % 2 ^ 32
    let pbs := (wordAt ws 2).toNat / 2 ^ 32
    let b (k : Nat) : Bool := (wordAt ws 1).getLsbD k
    let g := fn + cmdObject ws / 65536
    let pd := cmdObject ws % 65536
    let fill := b 40 && !p.enable
    (s.cmdOf fn 0x10 = some ws → idxOk fn (cmdObject ws) → s.qpnOf fn (cmdObject ws) = some n → s.qp n = some q → rate ≤ 1000000 → pre ≠ 3 →
      4160 ≤ burst → q.st ≠ .reset → exec (.setShaper fn) s = .next ((s.setQp n { q with
        precolour := pre, shaper := { old with rate := rate, burst := burst, tokens := min old.tokens burst } }).cmdDone fn 0))
    ∧ (s.cmdOf fn 0x11 = some ws → 0 < rate → rate ≤ pir → pir ≤ 1000000 → 4160 ≤ cbs → 4160 ≤ pbs →
      (fn % 256 = 0 → mget (s.func g).pds pd = some p → exec (.setPolicer fn) s = .next ((s.setFunc g { s.func g with
        pds := mset (s.func g).pds pd
          { enable := b 40, aware := b 41, mark := b 42, tc := p.tc.reset rate cbs s.time fill, tp := p.tp.reset pir pbs s.time fill }
        }).cmdDone fn 0))
      ∧ (fn % 256 ≠ 0 → exec (.setPolicer fn) s = .next (s.cmdDone fn 0x12))))

/-- From R398, R399: INV_XLT discards the cached entries of its scope and completes once no access holds one of their translations; while one
does, it waits, and the end of the last completes it. A command that still waits when its time passes ends REMOTE_OP_ERROR where it waits
for its block or for a handler's image, INVALID_STATE with detail 1 where it waits for accesses, and INVALID_STATE where it is a reset whose
descriptors have not been read (this last is the model's choice, log entry 44). -/
def Obligations.InvalidationsAndCommandTimes : Prop :=
  ∀ (s : State) (fn ctx : Nat) (ws : List Word) (w : List Nat × List (Nat × Nat)) (c : Cmd), s.clocks →
    let va := (wordAt ws 2).toNat % 2 ^ 57
    let n := (wordAt ws 3).toNat % 2 ^ 58
    let f := s.func fn
    (s.quiet → s.cmdOf fn 0x12 = some ws → cmdObject ws % 65536 = 0 → invContext fn (cmdObject ws) = some ctx →
      ((wordAt ws 1).getLsbD 0 = false →
        let u := (s.awaitHolders ctx 0 (2 ^ 57)).discardContext ctx
        (u.drained (s.holders ctx 0 (2 ^ 57)) → exec (.invXltContext fn) s = .next (u.cmdDone fn 0))
        ∧ (¬u.drained (s.holders ctx 0 (2 ^ 57)) → exec (.invXltContext fn) s = .next (u.setFunc fn { f with
            cmd := f.cmd.map fun c => { c with waitInv := some (s.holders ctx 0 (2 ^ 57)) } })))
      ∧ ((wordAt ws 1).getLsbD 0 = true → 0 < n → n ≤ 2 ^ 57 → va + n ≤ 2 ^ 57 →
        let u := (s.awaitHolders ctx va n).discardRange ctx va n
        (u.drained (s.holders ctx va n) → exec (.invXltRange fn) s = .next (u.cmdDone fn 0))
        ∧ (¬u.drained (s.holders ctx va n) → exec (.invXltRange fn) s = .next (u.setFunc fn { f with
            cmd := f.cmd.map fun c => { c with waitInv := some (s.holders ctx va n) } }))))
    ∧ (f.cmd = some c → c.waitInv = some w → s.drained w → exec (.xltInvalidationDrain fn) s = .next (s.cmdDone fn 0))
    ∧ (f.cmd = some c → c.read = false → exec (.commandTimeExpiry fn) s = .next (s.cmdDone fn 0x0D 13))
    ∧ (f.cmd = some c → c.read = true → (c.waitKey ≠ none ∨ c.waitInv ≠ none) →
        exec (.commandTimeExpiry fn) s = .next (s.cmdDone fn 0x12 1))
    ∧ (f.cmd = some c → c.read = true → c.waitKey = none → c.waitInv = none →
        (cmdCode c.words = 0x0E → exec (.commandTimeExpiry fn) s = .next ((s.forgetAccesses (· == .command fn)).cmdDone fn 0x0D 13))
        ∧ (∀ n q, cmdCode c.words = 0x07 → s.qpnOf fn (cmdObject c.words) = some n → s.qp n = some q → q.resetting →
          exec (.commandTimeExpiry fn) s = .next (s.cmdDone fn 0x12)))

/-- From R48: a producer index is judged modulo 2^32: one that does not move forward, or is 2^31 or more ahead, is ignored, one that stays within the ring makes its
descriptors visible, one that does not is an overrun.
From R47: the offsets of BAR2 that are the doorbells of a queue pair, a completion queue and the event queue of a physical and of a virtual
function.
From R42, R47, R48, R57, R58, R63, R493: the doorbells: an 8-byte write to a queue that takes it moves the producer or the consumer index; an
overrun takes the queue pair to ERROR; a completion queue is armed, or signals at once while entries wait; any other doorbell is counted and
does nothing else. -/
def Obligations.DoorbellsAreJudged : Prop :=
  (∀ (prod read size v : Nat), v < 2 ^ 32 → read ≤ prod → prod - read ≤ size → size ≤ 2 ^ 16 →
    (v = prod % 2 ^ 32 → judgeProducer prod read size v = .ignored)
    ∧ (∀ k, 2 ^ 31 ≤ k → k < 2 ^ 32 → v = (prod + k) % 2 ^ 32 → judgeProducer prod read size v = .ignored)
    ∧ (∀ p, judgeProducer prod read size v = .visible p → prod < p ∧ p % 2 ^ 32 = v ∧ p - read ≤ size)
    ∧ (∀ k, 0 < k → prod + k - read ≤ size → v = (prod + k) % 2 ^ 32 → judgeProducer prod read size v = .visible (prod + k))
    ∧ (∀ k, size < prod + k - read → k < 2 ^ 31 → v = (prod + k) % 2 ^ 32 → 0 < k → judgeProducer prod read size v = .overrun))
  ∧ (∀ fn i : Nat, idxOk fn i →
    let vf := fn % 256 ≠ 0
    doorbellAt fn (16 * i) = some (.send i) ∧ doorbellAt fn (16 * i + 8) = some (.recv i)
    ∧ doorbellAt fn ((if vf then 0x80000 else 0x2000000) + 8 * i) = some (.cq i)
    ∧ doorbellAt fn (if vf then 0xFF000 else 0x3800000) = some .eq)
  ∧ (∀ (s : State) (fn i n size : Nat) (v : Word) (x : Qp) (c : Cq) (e : Eq), s.pins → idxOk fn i →
    let f := s.func fn
    let lo := v.toNat % 2 ^ 32
    let ignored (d : Instr) : Prop := exec d s = .next (s.tally Reg.TPT_VIOLATION_DOORBELL_IGNORED 0x1C2 0 (some (fn, 0)))
    (s.doorbellQp fn i size = some (n, x) →
      let send := judgeProducer x.sqProd x.sqRead (2 ^ x.sqLog) lo
      let recv := judgeProducer x.rqProd x.rqRead (2 ^ x.rqLog) lo
      (∀ p, send = .visible p → exec (.sendDoorbell fn i size v) s = .next (s.setQp n { x with sqProd := p }))
      ∧ (send = .ignored → exec (.sendDoorbell fn i size v) s = .next s)
      ∧ (send = .overrun → exec (.sendDoorbell fn i size v) s = .next (settle (s.enterError n 0x0C)))
      ∧ (∀ p, x.rqLog ≠ 0 → recv = .visible p → s.quiet → !(s.setQp n { x with rqProd := p }).postingHeld →
          exec (.recvDoorbell fn i size v) s = .next (s.setQp n { x with rqProd := p }))
      ∧ (x.rqLog ≠ 0 → recv = .overrun → exec (.recvDoorbell fn i size v) s = .next (settle (s.enterError n 0x0C)))
      ∧ (x.rqLog = 0 → ignored (.recvDoorbell fn i size v)))
    ∧ (s.doorbellQp fn i size = none → ignored (.sendDoorbell fn i size v) ∧ ignored (.recvDoorbell fn i size v))
    ∧ (mget f.cqs i = some c → f.major ≠ 0 →
      let u (arm : Bool) := s.setFunc fn { f with cqs := mset f.cqs i { c with consumed := lo, armed := arm } }
      (v.getLsbD 32 = false → exec (.cqDoorbell fn i 8 v) s = .next (u c.armed))
      ∧ (v.getLsbD 32 = true → c.produced % 2 ^ 32 = lo → c.produced < 2 ^ 32 → exec (.cqDoorbell fn i 8 v) s = .next (u true))
      ∧ (v.getLsbD 32 = true → c.produced < 2 ^ 32 → c.produced ≠ lo →
          exec (.cqDoorbell fn i 8 v) s = .next ((u false).msix fn c.vector).1))
    ∧ (mget f.cqs i = none ∨ size ≠ 8 ∨ f.major = 0 → ignored (.cqDoorbell fn i size v))
    ∧ (f.eq = some e → f.major ≠ 0 → exec (.eqDoorbell fn 8 v) s = .next (s.setFunc fn { f with eq := some { e with consumed := lo } }))
    ∧ (f.eq = none ∨ size ≠ 8 ∨ f.major = 0 → ignored (.eqDoorbell fn size v)))

/-- From R49, R52: a send descriptor is read at its place in the ring, and joins the send queue when it passes its checks; a receive descriptor
does so with the receives that are to be posted. Each read writes the count of descriptors read to the consumer record.
From R117, R120: the first receive that is to be posted takes the waiting record that it matches, else it joins the posted receives of its
class; a rendezvous that spans receives which are still to be posted waits for them (R142). -/
def Obligations.DescriptorsAreReadAndPosted : Prop :=
  (∀ (s v : State) (fn i n : Nat) (x : Qp) (b : List Byte) (ps : List (Nat × Nat)) (se : List Bool) (c : Nat × Nat), s.pins → s.qpnOf fn i = some n → s.qp n = some x →
    x.readDead = false → s.admits 6 →
    let ws := toWords 8 (slice b 0 64)
    let got (v : State) : State := ((ps.foldl (fun s p => s.emit (.hostRead (x.fn / 256) p.1 p.2 v.tp.nextId)) v.newId).count
      0x1C1 (x.fn / 256) 64 x.owner).count 0x1CE 0 1 x.owner
    let d := descOf x.nextId ws
    let r := recvOf x.nextId v.mt.nextSeq x.rqRead ws
    (x.sqProd ≠ x.sqRead → x.st = .ready → s.translate (.descriptor n false) x.fn (x.sqBase + 64 * (x.sqRead % 2 ^ x.sqLog)) 64 accRead = (v, .ok ps se c) →
      v.qp n = some x → sendOk x ((got v).func fn).minor ws → exec (.sendDescriptorRead fn i (.data b)) s
        = .next (settle (((((got v).setQp n { x with sqRead := x.sqRead + 1, nextId := x.nextId + 1, sq := x.sq ++ [d] }).postRecord n x
            false (x.sqRead + 1)).needPeer n d).peerWait n)))
    ∧ (x.rqProd ≠ x.rqRead → x.st = .ready → !s.postingHeld →
      s.translate (.descriptor n true) x.fn (x.rqBase + 64 * (x.rqRead % 2 ^ x.rqLog)) 64 accRead = (v, .ok ps se c) → v.qp n = some x →
      recvOk ((got v).func fn).minor ws → r.handler = 0 → r.len = 0 → exec (.recvDescriptorRead fn i (.data b)) s
        = .next (settle (((({ (got v).postingOpens with mt := { v.mt with nextSeq := v.mt.nextSeq + 1 } } : State).setQp n { x with
            rqRead := x.rqRead + 1, nextId := x.nextId + 1, rq := x.rq ++ [r], postedFull := false }).postRecord n x true
            (x.rqRead + 1)).pumpQp n)))
    ∧ (x.sqProd ≠ x.sqRead → x.st = .ready → s.translate (.descriptor n false) x.fn (x.sqBase + 64 * (x.sqRead % 2 ^ x.sqLog)) 64 accRead = (v, .ok ps se c) →
      exec (.sendDescriptorRead fn i .error) s = .next (settle ((ps.foldl (fun s p => s.emit
        (.hostRead (x.fn / 256) p.1 p.2 v.tp.nextId)) v.newId).readFails n 0x0D))))
  ∧ (∀ (s : State) (fn i n : Nat) (x : Qp) (r : Recv), s.clocks → s.qpnOf fn i = some n → s.qp n = some x → x.rq.find? (·.st == .staged) = some r →
    x.st = .ready → s.postCapacity ≠ 0 →
    let u := s.matchOp n x.owner
    let cls := classFor r.anySource r.anyTag
    (∀ rec0, s.selectUnexp cls n r.ctx r.source r.tag = some rec0 →
      let waits : Bool := rec0.rts && rec0.handle.isNone && s.runOpen x r rec0.length
      (waits = false → exec (.recvTagged fn i) s = .next (settle (u.takeRecord n r.id rec0)))
      ∧ (waits = true → exec (.recvTagged fn i) s = .next s))
    ∧ (s.selectUnexp cls n r.ctx r.source r.tag = none → s.quiet →
      let p : Posted := { qpn := n, recv := r.id, cls := cls, ctx := r.ctx, source := r.source, tag := r.tag, seq := r.seq }
      let w := u.modRecv n r.id ({ · with st := .posted })
      let w := (w.post1 p).matchShown x.fn
      !w.postingHeld → exec (.recvTagged fn i) s = .next w))

/-- From R51, R53, R81, R82, R90 to R93, R115, R126: the send descriptors: where the one that send processing has come to has the opcode, it
starts: a NOP finishes, a transfer passes its local check and begins to build packets, or fails LOCAL_PROT_ERROR, a tagged send chooses its
protocol, an atomic has no local check, a window is bound or unbound.
From R90 to R93: a bind whose checks pass gives the window its range, rights and place, and finishes with the window's key; an unbind of a
bound window raises its generation, starts its drain, and waits for it. -/
def Obligations.SendDescriptorsStart : Prop :=
  (∀ (s : State) (fn i n : Nat) (x : Qp) (d : Desc), s.clocks → s.qpnOf fn i = some n → s.qp n = some x →
    let starts (c : Instr) (u : State) : Prop := exec c s = .next (settle (u.peerWait n))
    let building (u : State) : State := u.modDesc n d.id ({ · with st := .building 0 })
    let checked (right len : Nat) : Prop := s.checkLocal d.lkey x.fn x.pd right d.laddr len = none
    let rndv : Bool := s.rd Reg.MCH_CONFIG_EAGER_THRESHOLD < d.msgLen
    (x.startable 0x00 = some d → starts (.nop fn i) (s.finishDesc n d.id 0))
    ∧ (x.startable 0x01 = some d →
      (d.len = 0 → starts (.put fn i) (building s))
      ∧ (d.len ≠ 0 → checked 0 d.len → starts (.put fn i) (building (s.takeLocal n d)))
      ∧ (d.len ≠ 0 → ∀ dt, s.checkLocal d.lkey x.fn x.pd 0 d.laddr d.len = some dt → starts (.put fn i) (s.failDesc n d.id 0x04 false dt)))
    ∧ (x.startable 0x03 = some d →
      (d.len ≠ 0 → checked 1 d.len → starts (.get fn i) (building (s.takeLocal n d)))
      ∧ (d.len = 0 → checked 1 0 → starts (.get fn i) (s.finishDesc n d.id 0))
      ∧ (∀ dt, s.checkLocal d.lkey x.fn x.pd 1 d.laddr d.len = some dt → starts (.get fn i) (s.failDesc n d.id 0x04 false dt)))
    ∧ (x.startable 0x10 = some d → starts (.atomicFadd fn i) (building s))
    ∧ (x.startable 0x11 = some d → starts (.atomicCswap fn i) (building s))
    ∧ (x.startable 0x12 = some d → starts (.atomicSwap fn i) (building s))
    ∧ (x.startable 0x13 = some d → starts (.atomicAnd fn i) (building s))
    ∧ (x.startable 0x14 = some d → starts (.atomicOr fn i) (building s))
    ∧ (x.startable 0x15 = some d → starts (.atomicXor fn i) (building s))
    ∧ (x.startable 0x16 = some d → starts (.atomicSmin fn i) (building s))
    ∧ (x.startable 0x17 = some d → starts (.atomicSmax fn i) (building s))
    ∧ (x.startable 0x20 = some d → let u := s.modDesc n d.id ({ · with rndv := rndv })
      (checked (if rndv then 2 else 0) d.msgLen → starts (.sendTagged fn i) (building (u.takeLocal n d)))
      ∧ (∀ dt, s.checkLocal d.lkey x.fn x.pd (if rndv then 2 else 0) d.laddr d.msgLen = some dt →
          starts (.sendTagged fn i) (u.failDesc n d.id 0x04 false dt)))
    ∧ (x.startable 0x30 = some d → starts (.bindWindow fn i) (s.bindWindow n x d))
    ∧ (x.startable 0x31 = some d → starts (.unbindWindow fn i) (s.unbindWindow n x d)))
  ∧ (∀ (s : State) (n : Nat) (q : Qp) (d : Desc), q.firstSent d →
    let w := keyIndex d.rkey
    let v := s.bringKey w
    let p := v.key (keyIndex d.lkey)
    (s.checkBind q d = none → s.bindWindow n q d = (v.setKey w { v.key w with
        bound := true, rights := d.op0.toNat % 2 ^ 8, base := d.laddr, length := d.len, parent := keyIndex d.lkey, store := p.store,
        storeAddr := if p.store then p.storeAddr + (d.laddr - p.base) else 0 }).finishDesc n d.id 0 false 0 (BitVec.ofNat 64 d.rkey))
    ∧ (∀ dt, s.checkBind q d = some dt → s.bindWindow n q d = s.failDesc n d.id 0x04 false dt)
    ∧ (s.checkWindow d.rkey q.fn q.pd = none → (s.key w).generation = keyGen d.rkey → (s.key w).bound →
      let e := (s.unbindWindow n q d).key w
      e.bound = false ∧ e.draining = true ∧ (n, d.id) ∈ e.unbind
        ∧ e.generation = if (s.key w).generation = 255 then 1 else (s.key w).generation + 1))

/-- From R62, R73, R290: send processing takes its next step; a packet that waits at the shaper goes once the bucket holds its length; a per-peer
state that has become free goes to the descriptor that waits for it, one that does not come in time fails it, and one that is idle is
reclaimed.
From R61, R62: the connection of a new peer takes its first PSN from the counter of the device, which goes up by 2^20. -/
def Obligations.SendProcessingGoesOn : Prop :=
  (∀ (s : State) (fn i n k psn : Nat) (x : Qp) (d : Desc) (b : List Byte) (t : Track) (c : Conn), s.clocks → s.qpnOf fn i = some n → s.qp n = some x →
    let bucket := x.shaper.refill s.time
    let len := 16 + wtSize t.hdr.ext + b.length
    exec (.sendPacketBuild fn i) s = .next (settle (s.sendStep n))
    ∧ (x.shaped = some (k, psn, b) → s.track n k psn = some t → bucket.rate ≠ 0 → (len ≤ bucket.tokens → exec (.shaperRelease fn i) s
        = .next (settle ((s.setQp n { x with shaper := { bucket with tokens := bucket.tokens - len }, shaped := none }).launch n k psn b)))
      ∧ (bucket.tokens < len → exec (.shaperRelease fn i) s = .next (s.setQp n { x with shaper := bucket })))
    ∧ (x.waitsForPeer = some d → exec (.peerStateFreed fn i) s = .next (settle ((s.needPeer n d).peerWait n)))
    ∧ (x.waitsForPeer = some d → x.exhausted = some d.id → exec (.contextWaitDeadline fn i) s = .next (settle (s.failDesc n d.id 0x13)))
    ∧ (k = connKey c.peerEid c.peerQpn → mget x.conns k = some c → x.shared → c.track = [] → c.unplaced = [] → mget x.waits k = none →
        (∀ g ∈ s.tp.granted, g.qpn = n → g.conn ≠ k) →
      exec (.seStateIdleExpiry n c.peerEid c.peerQpn) s
        = .next ((s.setQp n ({ x with conns := mdel x.conns k } : Qp).unlatched).dropResults n (some k))))
  ∧ (∀ (s : State) (n : Nat) (q : Qp) (d : Desc), s.qp n = some q → q.shared → d.talks →
      mget q.conns (connKey d.destEid d.destQpn) = none →
    (s.poolUsed < s.poolSize → ∃ r c, (s.needPeer n d).qp n = some r ∧ mget r.conns (connKey d.destEid d.destQpn) = some c
      ∧ c.nextPsn = s.tp.sePsn ∧ c.sync = true ∧ c.peerEid = d.destEid ∧ c.peerQpn = d.destQpn
      ∧ (s.needPeer n d).tp.sePsn = (s.tp.sePsn + 2 ^ 20) % 2 ^ 24)
    ∧ (s.poolSize ≤ s.poolUsed → s.needPeer n d = s)
    ∧ (q.waitsForPeer = some d → q.exhausted ≠ some d.id → q.st ≠ .error → ∃ r, (s.peerWait n).qp n = some r ∧ r.exhausted = some d.id
      ∧ r.conns = q.conns ∧ ∃ w ∈ (s.peerWait n).tp.writes, w.use = .eq q.fn))

/-- From R69, R70, R76, R134, R135, R140: the timers of request packets. A packet whose retransmit timer expires is sent again with its interval
doubled, or fails RETRY_EXCEEDED after its last retry; the hint of a STATE_MISS or RECEIVER_FULL NAK ends the hold; the deadlines fail the
descriptor with their detail. -/
def Obligations.RequestTimers : Prop :=
  ∀ (s : State) (n eid qpn psn : Nat) (x : Qp) (c : Conn) (t : Track) (d : Desc) (u : State), s.clocks → s.qp n = some x →
    let k := connKey eid qpn
    s.track n k psn = some t →
    (t.timer = true → t.hold = .none → (s.rd Reg.TPT_RETX_MAX_RETRIES ≤ t.retries →
        exec (.retransmitTimeout n eid qpn psn) s = .next (settle (s.failTrack n t 0x0A false 0)))
      ∧ (t.retries < s.rd Reg.TPT_RETX_MAX_RETRIES → s.resend n k psn = (u, true) → exec (.retransmitTimeout n eid qpn psn) s
        = .next (settle ((u.modTrack n k psn fun y =>
            { y with retries := t.retries + 1, intervalUs := 2 * t.intervalUs }).count 0x1D0 0 1 x.owner))))
    ∧ (t.hold = .stateMiss → s.resend n k psn = (u, true) → exec (.stateMissHintExpiry n eid qpn psn) s
        = .next (settle (u.modTrack n k psn ({ · with hold := .none }))))
    ∧ (t.missSince = true → exec (.stateMissDeadline n eid qpn psn) s = .next (settle (s.failTrack n t 0x0A false 1)))
    ∧ (mget x.conns k = some c → exec (.fullHintExpiry n eid qpn) s
        = .next (settle ((c.track.filter fun y => y.hold == .full).foldl (fun s y => s.resendHeld n k y.psn) s)))
    ∧ (t.fullSince = true → s.on Reg.MCH_RETRY_FULL_DEADLINE_MS → exec (.receiverFullDeadline n eid qpn psn) s
        = .next (settle (s.failTrack n t 0x0A false 2)))
    ∧ (x.sq = [d] → d.rtsPsn = some psn → d.rndvWait = true → d.st = .sent → x.connOf d = k → s.on Reg.MCH_RETRY_RNDV_WAIT_MS →
        exec (.rndvWaitExpiry n eid qpn psn) s = .next (settle (s.failDesc n d.id 0x0A false 3)))

/-- From R291: a bucket fills at its rate: RATE megabits a second for the time that has passed, kept to the byte with its remainder, and never
above its depth.
From R294: the policer colours a packet by its two buckets: green takes from both, yellow from the peak bucket only, red from none; a disabled
policer keeps the pre-colour. -/
def Obligations.BucketsFillAndPolicersColour : Prop :=
  (∀ (b : Bucket) (t1 t2 : Nat), b.last ≤ t1 → t1 ≤ t2 →
    (b.refill t1).tokens ≤ max b.burst b.tokens ∧ (b.refill t1).last = t1 ∧ (b.refill t1).rem < 8000
    ∧ (b.refill t1).tokens = min b.burst (b.tokens + (b.rate * (t1 - b.last) + b.rem) / 8000)
    ∧ (b.tokens ≤ b.burst → ((b.refill t1).refill t2).tokens = (b.refill t2).tokens ∧ ((b.refill t1).refill t2).rem = (b.refill t2).rem))
  ∧ (∀ (p : Policer) (now pre len : Nat), pre < 3 →
    let tc := p.tc.refill now
    let tp := p.tp.refill now
    let c := if p.aware then pre else 0
    (p.enable = false → p.judge now pre len = (p, pre))
    ∧ (p.enable = true → (c = 2 ∨ tp.tokens < len → p.judge now pre len = ({ p with tc := tc, tp := tp }, 2))
      ∧ (c ≠ 2 → len ≤ tp.tokens → (c = 1 ∨ tc.tokens < len →
          p.judge now pre len = ({ p with tc := tc, tp := { tp with tokens := tp.tokens - len } }, 1))
        ∧ (c = 0 → len ≤ tc.tokens → p.judge now pre len
            = ({ p with tc := { tc with tokens := tc.tokens - len }, tp := { tp with tokens := tp.tokens - len } }, 0)))))

/-- From R230, R235, R237, R242: a packet arrives on a link that is up and aligned: the next one advances EXPECT, arms the NAK and enters its lane; one out
of sequence returns its cells at once and causes one NAK while the NAK is armed; one whose CRC fails, or which has a block with a bad sync
header, returns none and does so too; one for which its lane has no room is a violation.
From R236 to R239, R241: an ACK_CREDIT block with a valid ACK_LSN releases the replay buffer up to it and adds its credits; a NAK queues
all that is left for replay. -/
def Obligations.PacketsAreClassified : Prop :=
  (∀ (s : State) (p v lsn : Nat) (f : LinkFrame) (b : List Byte), s.pins → p < 72 → s.portUp p → s.rd Reg.LAN_PORT_CFG_LOOP p = 0 → soundFrame f v lsn b →
    s.on Reg.GLB_SPARE_XBAR_CTRL_MIRROR_EN = false → s.on Reg.LAN_PORT_STATUS_ALIGNED p →
    let c := (b.length + 63) / 64
    let e := s.rd Reg.LNK_RX_EXPECT_LSN p
    let d := (lsn + 2 ^ 24 - e) % 2 ^ 24
    let u := (s.count 0x082 p).count 0x083 p c
    let nak (t : State) : State := if t.portUp p then t.linkNak p else t
    let cap := slice (f.header ++ b) 0 32
    let dup := (u.creditDue p v c).tally Reg.LNK_ERR_DUPLICATES 0x086 p none 1 p
    (c ≤ (s.port p).free v →
      (d = 0 → exec (.linkPacketReceive p f) s = .next (((u.wr Reg.LNK_RX_EXPECT_LSN (e + 1) p).wr Reg.LNK_RX_NAK_ARMED 1 p).accept p v c b cap))
      ∧ (0 < d → d < 2048 → exec (.linkPacketReceive p f) s = .next (dup.linkNak p))
      ∧ (2048 ≤ d → d < 2 ^ 23 → exec (.linkPacketReceive p f) s
        = .next ((u.creditDue p v c).violation p 6 cap))
      ∧ (2 ^ 23 ≤ d → exec (.linkPacketReceive p f) s = .next dup))
    ∧ ((s.port p).free v < c → exec (.linkPacketReceive p f) s
        = .next (nak (u.violation p (if 2048 ≤ d ∧ d < 2 ^ 23 then 6 else 7) cap)))
    ∧ (∀ es : List Nat, es ≠ [] → exec (.linkPacketReceive p { f with errored := es }) s
        = .next (((s.syncBad p es).tally Reg.LNK_ERR_CRC_BAD 0x084 p none 1 p).linkNak p))
    ∧ (∀ x : BitVec 32, x ≠ f.crc → x ≠ ~~~f.crc → exec (.linkPacketReceive p { f with crc := x }) s
        = .next ((s.tally Reg.LNK_ERR_CRC_BAD 0x084 p none 1 p).linkNak p))
    ∧ (s.on Reg.LNK_RX_NAK_ARMED p = false → s.linkNak p = s))
  ∧ (∀ (s : State) (p : Nat) (b : List Byte), s.pins → p < 72 → s.portUp p → s.rd Reg.LAN_PORT_CFG_LOOP p = 0 →
    s.on Reg.LAN_PORT_STATUS_ALIGNED p → s.takesBlock p 1 b →
    let a := beAt b 2 3
    let acked := s.rd Reg.LNK_LEDGER_ACKED_LSN p
    let last := (s.rd Reg.LNK_LEDGER_NEXT_LSN p + 2 ^ 24 - 1) % 2 ^ 24
    let y := s.port p
    (a + 2 ^ 24 - acked) % 2 ^ 24 ≤ (last + 2 ^ 24 - acked) % 2 ^ 24 →
    (∀ v < 8, s.avail p v + (beAt b (6 + 2 * v) 2 : Nat) ≤ (nth y.adv v : Nat) ∧ nth y.adv v < 4096) →
      (bitAt b 1 7 = false → Leads (.ackCredit p b) s fun t =>
        t.rd Reg.LNK_LEDGER_ACKED_LSN p = a
        ∧ (t.port p).replay = y.replay.filter (fun r => decide ((a + 2 ^ 24 - acked) % 2 ^ 24 < (r.lsn + 2 ^ 24 - acked) % 2 ^ 24))
        ∧ (∀ v < 8, t.avail p v = s.avail p v + (beAt b (6 + 2 * v) 2 : Nat))
        ∧ t.rd Reg.LNK_LEDGER_REPLAY_CELLS p = (((t.port p).replay.map (·.cells)).sum) % 2 ^ Reg.LNK_LEDGER_REPLAY_CELLS.w
        ∧ t.out = s.out ∧ ∀ q, q ≠ p → t.port q = s.port q)
      ∧ (bitAt b 1 7 = true → exec (.ackCredit p b) s = .next (((s.release p a).addCredits p b).1.replayEvent p)))

/-- From R207, R232, R243, R247, R248, R254, R256, R298: the other link-control blocks that a port takes. A marker is answered with the free
cells, a report that matches sets the credits, a waggle fragment joins its summary, a TRAIN block settles the version and brings the link
up, a time request is answered, a time response moves the servo, and a failover is asked and answered.
From R233, R250, R257: a block that a port in the up state does not take: one whose CRC fails is counted, with its blocks of a bad
sync header (log entry 49: the numbers after its 32 bytes are the lanes of those blocks), one with a reserved type or bit, IDLE among them, is
a violation with its code, and nothing else happens. An ACK_CREDIT block that is discarded for a reserved bit and breaks another rule is captured
under the lowest code, and one beyond the last LSN sent has its RESYNC_MARK (credits that count though the block is discarded are the
model's choice, log entry 49). -/
def Obligations.ControlBlocksAct : Prop :=
  (∀ (s : State) (p : Nat) (b : List Byte), s.pins → p < 72 → s.rd Reg.LAN_PORT_CFG_LOOP p = 0 →
    s.on Reg.LAN_PORT_STATUS_ALIGNED p →
    let y := s.port p
    let takes (type : Nat) : Prop := s.portUp p ∧ s.takesBlock p type b
    let far := at_ b 2 % 128
    (takes 2 → exec (.resyncMark p b) s = .next ((s.setPort p { y with credit := [] }).control p 3
      ([byte (at_ b 1), 0, 0, 0, 0] ++ (List.range 8).flatMap fun v => beBytes 2 (y.free v))))
    ∧ (takes 3 → y.mark = some (at_ b 1) → (∀ v < 8, beAt b (6 + 2 * v) 2 ≤ nth y.adv v ∧ nth y.adv v < 4096 ∧ nth y.markDebit v < 2 ^ 15) →
      Leads (.resyncReport p b) s fun t => (t.port p).mark = none
        ∧ ∀ v < 8, t.avail p v = (beAt b (6 + 2 * v) 2 : Int) - (nth y.markDebit v : Int))
    ∧ (takes 5 → at_ b 1 < 11 → (at_ b 1 = 0 ∨ at_ b 1 = y.frag) → exec (.waggle p b) s = .next (s.setPort p { y with
        frag := at_ b 1 + 1, fragBytes := (if at_ b 1 = 0 then [] else y.fragBytes) ++ slice b 2 26 }))
    ∧ (takes 5 → at_ b 1 = 11 → y.frag = 11 → at_ y.fragBytes 0 / 16 = 1 → y.fragBytes.length = 286 →
      mget s.rt.summaries (beAt y.fragBytes 2 3 % 2 ^ 20) = none → Leads (.waggle p b) s fun t =>
        let m := y.fragBytes ++ slice b 2 26
        mget t.rt.summaries (beAt m 2 3 % 2 ^ 20) = some { seq := at_ m 1, link := p, sender := beAt m 2 3 % 2 ^ 20, depth := slice m 8 288, since := s.root })
    ∧ (s.rd Reg.LNK_STATUS_STATE p = 1 → s.rd Reg.LAN_PORT_STATUS_STAGE p = 5 → s.takesBlock p 6 b →
      let v := commonVersion (s.offers p) (at_ b 1 % 4)
      let u := (s.wr Reg.LNK_STATUS_VERSION v p).wr Reg.LNK_STATUS_VERSION_FAIL (if v = 0 then 1 else 0) p
      exec (.train p b) s = .next ((u.setPort p { y with train := some b, readyGot := bitAt b 1 7 && v != 0 }).tryUp p))
    ∧ (takes 4 → bitAt b 1 7 = false → exec (.timeRequest p b) s
        = .next (s.control p 4 ([128] ++ slice b 2 2 ++ beBytes 8 s.time ++ beBytes 8 s.time ++ slice b 4 8)))
    ∧ (∀ t1, takes 4 → bitAt b 1 7 = true → s.sc.syncOut = some (beAt b 2 2, t1) → s.rd Reg.SCH_TIME_CFG_ROLE = 1 →
      s.rd Reg.SCH_TIME_CFG_PARENT_PORT = p → exec (.timeResponse p b) s = .next
        (State.servo { s with sc := { s.sc with syncOut := none, silent := 0 } } ((((beAt b 12 8 : Nat) - (t1 : Int))
          + ((beAt b 4 8 : Nat) - (s.time : Int)) - toSigned 16 (s.rd Reg.SCH_TIME_ASYM_ASYM_NS p)) / 2)))
    ∧ (takes 7 → bitAt b 1 7 = false → far < 72 → s.partner far = some p → (s.port far).retrained = false → s.portUp far = false →
      exec (.failoverRequest p b) s = .next (s.control p 7 ([128, byte far]
        ++ beBytes 3 ((s.rd Reg.LNK_RX_EXPECT_LSN far + 2 ^ 24 - 1) % 2 ^ 24) ++ beBytes 2 (beAt b 6 2))))
    ∧ (∀ q, takes 7 → bitAt b 1 7 = true → bitAt b 1 6 = false → q ≠ p →
      (List.range 72).find? (fun r => (s.port r).failover == some ⟨beAt b 6 2, p⟩) = some q →
      Leads (.failoverResponse p b) s fun t => (t.port q).failover = none ∧ (t.port q).replay = [] ∧ (t.port q).handed = []
        ∧ (t.port p).handed = y.handed ++ (((s.release q (beAt b 3 3)).port q).replay ++ (s.port q).handed)))
  ∧ (∀ (s : State) (p : Nat) (b : List Byte), s.pins → s.rd Reg.LAN_PORT_CFG_LOOP p = 0 → s.portUp p →
    s.on Reg.LAN_PORT_STATUS_ALIGNED p →
    let all (f : Nat → List Byte → Instr) (t : State) : Prop := exec (f p b) s = .next t
    let each (t : State) : Prop := all .ackCredit t ∧ all .resyncMark t ∧ all .resyncReport t ∧ all .waggle t ∧ all .train t
    (b.length ≠ 32 ∨ beBytes 4 (crcLink (b.take 28)).toNat ≠ b.drop 28 →
      each ((s.syncBad p ((b.drop 32).map (·.toNat))).tally Reg.LNK_ERR_CTRL_BAD 0x087 p none 1 p))
    ∧ (b.length = 32 → beBytes 4 (crcLink (b.take 28)).toNat = b.drop 28 → (8 ≤ at_ b 0 ∨ at_ b 0 = 0 ∧ ctrlClean 0 b = false) → each (s.violation p 10 b))
    ∧ (b.length = 32 → beBytes 4 (crcLink (b.take 28)).toNat = b.drop 28 → at_ b 0 = 1 → ctrlClean 1 b = false →
      let acked := s.rd Reg.LNK_LEDGER_ACKED_LSN p
      let last := (s.rd Reg.LNK_LEDGER_NEXT_LSN p + 2 ^ 24 - 1) % 2 ^ 24
      let d := (beAt b 2 3 + 2 ^ 24 - acked) % 2 ^ 24
      let sent : Prop := d ≤ (last + 2 ^ 24 - acked) % 2 ^ 24
      let above := (s.addCredits p b).2
      (sent → above = false → all .ackCredit (s.violation p 10 b)) ∧ (sent → above = true → all .ackCredit (s.violation p 1 b))
      ∧ (¬sent → 2 ^ 23 ≤ d → all .ackCredit (s.violation p (if above then 1 else 5) b))
      ∧ (¬sent → d < 2 ^ 23 → all .ackCredit ((s.violation p (if above then 1 else 4) b).markUp p))))

/-- From R236, R240, R243, R247, R249, R251, R253, R256, R260: the timers of a port: acknowledgements, replay, resynchronisation, training, lock
loss, hold-off, failover, and packets held for reordering.
From R227, R236: of the link-control blocks that wait, a RESYNC_REPORT leaves first, else one of the foremost type; an ACK_CREDIT block takes
EXPECT - 1 and the credits that have accumulated as it leaves.
From R247, R248, R252: the link comes up with fresh LSNs and the partner's credits; it goes down with its cause: it stops
transmitting and keeps EXPECT, what waits to leave is decided again, its unacknowledged packets fail over, and failovers over it end.
From R252, R254: the unacknowledged packets of a port with a good partner on WLP 2 are kept for it, and it is asked with FAILOVER; without
one they are discarded and counted. -/
def Obligations.LinkTimersAndState : Prop :=
  (∀ (s : State) (p : Nat), s.clocks →
    let y := s.port p
    (s.portUp p → exec (.linkAckTimer p) s = .next (s.linkAck p false))
    ∧ (s.portUp p → y.replay ≠ [] → exec (.replayTimeout p) s = .next (s.replayEvent p))
    ∧ (s.portUp p → exec (.resyncPeriod p) s = .next (s.sendMark p))
    ∧ (s.rd Reg.LNK_STATUS_STATE p = 1 → s.rd Reg.LAN_PORT_STATUS_STAGE p = 5 →
      let ready := y.train.isSome && s.rd Reg.LNK_STATUS_VERSION p != 0
      let u := s.setPort p { y with offer := s.offers p }
      exec (.trainTimer p) s = .next (u.control p 6 (s.trainBody p ready (s.offers p) (s.laneCells p))))
    ∧ (s.portUp p → y.lockLost = true → exec (.lockLossTimeout p) s = .next (s.linkDown p 2))
    ∧ (s.rd Reg.LNK_STATUS_STATE p = 3 → s.on Reg.LNK_CFG_AUTO_RETRAIN p → s.trainable p → exec (.holdoffExpiry p) s = .next (s.beginTraining p))
    ∧ (y.failover.isSome → exec (.failoverTimeout p) s
        = .next ((s.tally Reg.LNK_FAILOVER_TIMEOUTS 0x08E p none 1 p).discardUnacked p))
    ∧ (s.rd Reg.LNK_STATUS_STATE p = 1 → Leads (.trainingTimeout p) s fun t =>
        t.rd Reg.LNK_STATUS_STATE p = 3 ∧ t.rd Reg.LAN_PORT_STATUS_TRAIN_TIMEOUT_SEEN p = 1 ∧ t.ports = s.ports ∧ t.out = s.out)
    ∧ (∀ x, y.exHeld = [x] → Leads (.reorderRelease p) s fun t => (t.port p).exHeld = []
        ∧ mgetD (t.port p).egress x.pkt.net.vl [] = x :: mgetD y.egress x.pkt.net.vl [] ∧ t.regs = s.regs))
  ∧ (∀ (y : Port) (x : Nat × List Byte), y.nextControl = some x → x ∈ y.ctrl ∧ (∀ z ∈ y.ctrl, ctrlRank x.1 ≤ ctrlRank z.1)
    ∧ ((∃ b, (3, b) ∈ y.ctrl) → x.1 = 3))
  ∧ (∀ (s : State) (p : Nat) (f : Byte), s.near p = false → s.bt.isolated = false →
    let c := (s.port p).credit
    let t := s.controlLeaves p (1, [f])
    .control p (controlBlock 1 ([f] ++ beBytes 3 ((s.rd Reg.LNK_RX_EXPECT_LSN p + 2 ^ 24 - 1) % 2 ^ 24) ++ [0]
        ++ (List.range 8).flatMap fun v => beBytes 2 (min 4096 (nth c v)))) ∈ t.out
      ∧ ∀ v < 8, nth (t.port p).credit v = nth c v - min 4096 (nth c v))
  ∧ (∀ (s : State) (p cause : Nat) (b : List Byte), p < 72 →
    (s.portUp p → cause < 8 → s.quiet → s.sw.fronds = [] → (s.port p).egress = [] → (s.port p).exHeld = [] → (s.port p).replay = [] →
      (s.port p).handed = [] → (∀ q < 72, (s.port q).failover = none) → s.bt.isolated = false →
      let t := s.linkDown p cause
      t.rd Reg.LNK_STATUS_STATE p = 3 ∧ t.rd Reg.LNK_STATUS_DOWN_CAUSE p = cause ∧ t.rd Reg.LNK_STATUS_DOWN_SEEN p = 1
        ∧ t.out = s.out ++ [.transmit p false] ∧ (t.port p).ctrl = [] ∧ (t.port p).mark = none
        ∧ ∀ q, q ≠ p → t.port q = s.port q)
    ∧ (s.portUp p → cause < 8 → s.bt.isolated = false → ∃ u : State,
      u.rd Reg.LNK_STATUS_STATE p = 3 ∧ u.rd Reg.LNK_STATUS_DOWN_CAUSE p = cause ∧ u.rd Reg.LNK_STATUS_DOWN_SEEN p = 1
      ∧ u.out = s.out ++ [.transmit p false] ∧ (∀ q, q ≠ p → u.port q = s.port q)
      ∧ (u.port p).egress = [] ∧ (u.port p).exHeld = [] ∧ (u.port p).ctrl = [] ∧ (u.port p).mark = none
      ∧ (u.port p).replay = (s.port p).replay ∧ (u.port p).handed = (s.port p).handed ∧ (u.port p).lanes = (s.port p).lanes
      ∧ u.rd Reg.LNK_RX_EXPECT_LSN p = s.rd Reg.LNK_RX_EXPECT_LSN p
      ∧ let v := u.failOver p
        let w := ((List.range 72).filter fun q => (v.port q).failover.any (·.via == p)).foldl State.discardUnacked v
        s.linkDown p cause = settle ((((s.port p).egress.flatMap (·.2) ++ (s.port p).exHeld).foldl
          (fun r x => r.decideAgain p x) w).swarmLinkDown p))
    ∧ (s.portUp p = false → s.linkDown p cause = s)
    ∧ ((s.port p).replay = [] → (s.port p).handed = [] → (∀ q, (s.port q).latched = false) → (∀ q < 72, s.partner q = none) →
      s.bundleOf 1 p = none →
      let t := s.linkUp p b
      t.rd Reg.LNK_LEDGER_NEXT_LSN p = 0 ∧ t.rd Reg.LNK_RX_EXPECT_LSN p = 0 ∧ t.rd Reg.LNK_LEDGER_ACKED_LSN p = 2 ^ 24 - 1
        ∧ t.rd Reg.LNK_RX_NAK_ARMED p = 1 ∧ t.rd Reg.LNK_STATUS_FAR_COORD p = beAt b 3 3 % 2 ^ 20
        ∧ ∀ v < 8, t.avail p v = (advertised b v : Int)))
  ∧ (∀ (s : State) (p q : Nat),
    let y := s.port p
    let good := s.goodPartner p = some q ∧ s.rd Reg.LNK_STATUS_VERSION p = 2 ∧ s.rd Reg.LNK_STATUS_VERSION q = 2
    (y.replay = [] → y.handed = [] → s.failOver p = s)
    ∧ (y.replay ++ y.handed ≠ [] → good → s.failOver p = (s.setPort p
        { y with failover := some ⟨y.failSeq, q⟩, failSeq := (y.failSeq + 1) % 65536, resend := [] }).control q 7
          ([0, byte (s.rd Reg.LNK_STATUS_FAR_PORT p), 0, 0, 0] ++ beBytes 2 y.failSeq))
    ∧ (y.replay ++ y.handed ≠ [] → s.goodPartner p = none ∨ s.rd Reg.LNK_STATUS_VERSION p ≠ 2 → s.failOver p = s.discardUnacked p)
    ∧ (y.replay ++ y.handed ≠ [] → (∀ r ∈ y.replay ++ y.handed, ∀ h, (Packet.ofBytes r.bytes r.stomped).body ≠ .swarm h) →
      s.discardUnacked p = ((s.setPort p { y with replay := [], resend := [], handed := [], failover := none }).wr
        Reg.LNK_LEDGER_REPLAY_CELLS 0 p).tally Reg.LNK_FAILOVER_DISCARDED 0x08C p none (y.replay ++ y.handed).length p))

/-- From R267, R270, R272, R273, R280, R281: the stages of a lane's receiver: signal, clock, block lock, alignment markers; STAGE follows while
the port trains.
From R265 to R269: what a transmitter sends: the blocks of its stream go to the two lanes in turn, scrambled, as symbols of the lane's
polarity, and after 16,383 of them on each lane both insert their markers, which carry the parity of what was sent since the last; a
descrambler in step gives back the bits. At the place of the markers the port has sent on, at its packet boundaries, until they have left.
From R269, R270, R272, R274, R281, R283, R284, R287: what a lane loses and counts, its pattern checker and generator, its eye monitor. -/
def Obligations.LanesLockAndMeasure : Prop :=
  (∀ (s : State) (p l logical skew : Nat), p < 72 → l < 2 → logical < 2 → s.pins → s.receiving p →
    let shows (i : Instr) (f : Fld) : Prop := Leads i s fun t => t.rd f p l = 1
      ∧ (s.rd Reg.LNK_STATUS_STATE p = 1 → t.rd Reg.LAN_PORT_STATUS_STAGE p = t.stageHeld p)
    let o := 1 - l
    let both := s.on Reg.LAN_LANE_STATUS_AM_LOCK p o
    shows (.signalDetect p l) Reg.LAN_LANE_STATUS_SIGNAL
    ∧ (s.on Reg.LAN_LANE_STATUS_SIGNAL p l → shows (.cdrLock p l) Reg.LAN_LANE_STATUS_CDR_LOCK)
    ∧ (s.on Reg.LAN_LANE_STATUS_CDR_LOCK p l → s.crossed p l = false → shows (.blockLockAcquired p l) Reg.LAN_LANE_STATUS_BLOCK_LOCK)
    ∧ (s.on Reg.LAN_LANE_STATUS_BLOCK_LOCK p l → s.on Reg.LAN_LANE_STATUS_AM_LOCK p l = false →
      (s.port p).amSeen.getD o none ≠ some logical →
      Leads (.amLockAcquired p l logical skew) s fun t => t.rd Reg.LAN_LANE_STATUS_AM_LOCK p l = 1
        ∧ t.rd Reg.LAN_LANE_STATUS_LOGICAL p l = logical
        ∧ (both = true → t.rd Reg.LAN_PORT_STATUS_ALIGNED p = (if skew ≤ 64 then 1 else 0)
          ∧ t.rd Reg.LAN_PORT_STATUS_SKEW_BLOCKS p = (if skew ≤ 64 then skew else 127)
          ∧ t.rd Reg.LAN_PORT_STATUS_LANES_SWAPPED p = (if l = logical then 0 else 1)))
    ∧ (s.on Reg.LAN_LANE_STATUS_BLOCK_LOCK p l → s.on Reg.LAN_LANE_STATUS_AM_LOCK p l = false →
      (s.port p).amSeen.getD o none = some logical →
      Leads (.amLockAcquired p l logical skew) s fun t =>
        t.rd Reg.LAN_LANE_STATUS_AM_LOCK p l = 0 ∧ t.rd Reg.LAN_LANE_STATUS_AM_LOCK p o = 0
        ∧ (both = true → t.rd Reg.LAN_PORT_STATUS_ALIGNED p = 0 ∧ t.rd Reg.LAN_PORT_STATUS_ALIGN_LOSS_SEEN p = 1))
    ∧ (s.admits 0 → s.stopped p = false → exec (.alignmentMarkerInsert p) s = .next (State.toMarker 8200 s p)
      ∧ (((s.egressStep p).port p).sinceMark < (s.port p).sinceMark → exec (.alignmentMarkerInsert p) s = .next (s.egressStep p))))
  ∧ (∀ (s : State) (p : Nat) (ctrl : Bool) (b : List Byte) (x0 x1 : LaneTx),
    let y := s.port p
    let inv (l : Nat) : Bool := s.rd Reg.LAN_PORT_CFG_TX_INV p / 2 ^ l % 2 == 1
    let mark (l : Nat) (x : LaneTx) : List Output := [.marker p l (markerBytes l x.bip),
      .symbols p l (symbolsOf (inv l) (syncBits true ++ txBits (markerBytes l x.bip)))]
    y.tx = [x0, x1] → s.near p = false → s.on Reg.LNK_EXER_CFG_ENABLE p = false →
      s.stopped p = false → s.bt.isolated = false →
      (s.sendMarkers p).out = s.out ++ mark 0 x0 ++ mark 1 x1
      ∧ (y.block % 2 = 0 → y.sinceMark + 1 < 32766 → let r := scramble x0.scr (txBits b)
        (s.sendBlock p ctrl b).1.out = s.out ++ [.symbols p 0 (symbolsOf (inv 0) (syncBits ctrl ++ r.2))]
        ∧ ((s.sendBlock p ctrl b).1.port p).tx = [{ x0 with scr := r.1, bip := bipOver x0.bip r.2 }, x1]
        ∧ ((s.sendBlock p ctrl b).1.port p).block = y.block + 1)
      ∧ (32766 ≤ y.sinceMark + 1 → ((s.sendBlock p ctrl b).1.port p).sinceMark = 0))
  ∧ (∀ (st : BitVec 58) (l : List Bool), (descramble st (scramble st l).2).2 = l ∧ (descramble st (scramble st l).2).1 = (scramble st l).1)
  ∧ (∀ (inv a b : Bool), polar inv (polar inv (levelOf a b)) = levelOf a b ∧ levelOf a b < 4)
  ∧ (∀ (s : State) (p l mv ui : Nat) (m : List Byte) (bip : Byte) (cdrOnly : Bool), s.pins → p < 72 → l < 2 →
    let y := s.port p
    let mark := laneMark (s.rd Reg.LAN_LANE_STATUS_LOGICAL p l)
    let fits : Prop := m.length = 8 ∧ slice m 0 3 = mark ∧ slice m 4 3 = mark.map (fun b => ~~~b)
    (s.on Reg.LAN_LANE_STATUS_BLOCK_LOCK p l → s.portUp p = false → Leads (.blockLockLoss p l) s fun t =>
      t.rd Reg.LAN_LANE_STATUS_BLOCK_LOCK p l = 0 ∧ t.rd Reg.LAN_LANE_STATUS_LOCK_LOSS_SEEN p l = 1
        ∧ t.rd Reg.LAN_LANE_STATUS_EYE_MV p l = 0 ∧ t.rd Reg.LAN_LANE_STATUS_EYE_UI p l = 0)
    ∧ (Leads (.signalLoss p l cdrOnly) s fun t => t.rd Reg.LAN_LANE_STATUS_CDR_LOCK p l = 0
        ∧ t.rd Reg.LAN_LANE_STATUS_SIGNAL p l = if cdrOnly then s.rd Reg.LAN_LANE_STATUS_SIGNAL p l else 0)
    ∧ (s.on Reg.LAN_LANE_STATUS_AM_LOCK p l → s.rd Reg.LAN_PORT_CFG_LOOP p = 0 →
      let hit := s.setPort p { y with amMiss := setNth y.amMiss l 0, merged := s.on Reg.LAN_PORT_STATUS_ALIGNED p }
      (fits → bitErrors (m.getD 3 0) bip = 0 → exec (.alignmentMarkerReceive p l m bip) s
          = .next (hit.lanesShown p))
      ∧ (fits → bitErrors (m.getD 3 0) bip ≠ 0 → exec (.alignmentMarkerReceive p l m bip) s
          = .next ((hit.tally Reg.LAN_LANE_ERR_BIP_ERR 0x041 (2 * p + l) none (bitErrors (m.getD 3 0) bip) p l).lanesShown p))
      ∧ (¬fits → exec (.alignmentMarkerReceive p l m bip) s
          = .next (((if m = [] then s.syncBad p [l] else s).setPort p { y with amMiss := setNth y.amMiss l (nth y.amMiss l + 1) }).tally Reg.LAN_LANE_ERR_AM_BAD 0x043
            (2 * p + l) none 1 p l)))
    ∧ (s.on Reg.LAN_LANE_STATUS_AM_LOCK p l → (4 ≤ nth y.amMiss l → s.portUp p = false → Leads (.amLockLoss p l) s fun t => t.rd Reg.LAN_LANE_STATUS_AM_LOCK p l = 0
          ∧ t.rd Reg.LAN_PORT_STATUS_ALIGNED p = 0 ∧ t.rd Reg.LAN_PORT_STATUS_ALIGN_LOSS_SEEN p = 1))
    ∧ (s.on Reg.LAN_PAT_CFG_CHK_MODE p l → s.selfChecked p l = false →
        Leads (.checkerLock p l) s fun t => t.rd Reg.LAN_PAT_STATUS_CHK_LOCK p l = 1 ∧ t.ports = s.ports)
    ∧ (s.on Reg.LAN_PAT_STATUS_CHK_LOCK p l → s.selfChecked p l = false → Leads (.checkerLockLoss p l) s fun t =>
        t.rd Reg.LAN_PAT_STATUS_CHK_LOCK p l = 0 ∧ t.rd Reg.LAN_PAT_STATUS_CHK_LOSS_SEEN p l = 1 ∧ t.ports = s.ports)
    ∧ (s.on Reg.LAN_PAT_CFG_INJECT_INTERVAL p l → s.on Reg.LAN_PAT_CFG_GEN_MODE p l →
        let n := s.rd Reg.LAN_PAT_CFG_BURST_LEN p l
        let x := s.pattern p l
        exec (.injectIntervalBurst p l) s = .next ((s.setPattern p l { x with bursts := x.bursts ++ [n] }).emit (.patternBurst p l n)))
    ∧ (s.on Reg.LAN_LANE_STATUS_BLOCK_LOCK p l → Leads (.eyeMonitorUpdate p l mv ui) s fun t =>
        t.rd Reg.LAN_LANE_STATUS_EYE_MV p l = min mv 255 ∧ t.rd Reg.LAN_LANE_STATUS_EYE_UI p l = min ui 63))

/-- From R195, R226: a packet that reaches a router is checked in the order of the rule, and is discarded, delivered here, or kept at its place
for a routing decision.
From R205, R206, R215, R305: a routing decision takes the head of its lane and queues it for the chosen output, or discards it; an egress
port sends a waiting link-control block first, then a replay, packets handed over by its partner, those of its lanes, a mirror copy among them, and
IDLE where nothing waits (R227); a throttled group is released below LO_CELLS.
From R208, R218, R219, R298: periods of the router: each neighbour gets one summary, on a link of its bundle, the links in turn; a summary
lasts four periods; and a timed swap happens at its fabric time. A
swap whose shadow set breaks a rule changes no routing set. -/
def Obligations.RoutersPassPacketsOn : Prop :=
  (∀ (s : State) (p lane : Nat) (x : InPkt) (before rest : List InPkt), s.clocks →
    let n := x.pkt.net
    let directed : Bool := match x.pkt.body with | .mgmt h => h.directed | _ => false
    let u := s.bufferMet p
    let put (l : List InPkt) : State := u.setPort p { u.port p with lanes := mset (s.port p).lanes lane l }
    (s.soft = [] → u = s) ∧
    let fix (t : State) (b : Bool) : State := if b then t.tally Reg.RTE_COUNT_PHASE_FIXED 0x0C5 (inputUnit x.port) else t
    (s.on Reg.RTE_MGMT_JOINED = false → directed = false → s.arrival x = .discard .noRoute)
    ∧ (s.on Reg.RTE_MGMT_JOINED = true → (n.hops = 15 → s.arrival x = .discard .hopLimit)
      ∧ (n.hops ≠ 15 → n.phase = true → s.descends 1 (s.rowOf x.port) = true → s.arrival x = .discard .turnViolation)
      ∧ (n.hops ≠ 15 → n.phase = false → hopByHop x.pkt = false → n.destCoord ≠ s.coord →
        s.arrival x = .route { x.pkt with net := { n with phase := s.climbs 1 (s.rowOf x.port), hops := n.hops + 1 } } (s.climbs 1 (s.rowOf x.port)))
      ∧ (n.hops ≠ 15 → n.phase = false → hopByHop x.pkt = false → n.destCoord = s.coord → n.kind = 0 → s.isOwnEid n.destEid = false →
        s.arrival x = .discard .misdelivered))
    ∧ (s.admits 2 → mgetD (s.port p).lanes lane [] = before ++ x :: rest → (∀ y ∈ before, y.checked = true) → x.checked = false →
      (∀ why, u.arrival x = .discard why → exec (.routerArrival p lane) s = .next ((put (before ++ rest)).discard why x))
      ∧ (∀ q b, u.arrival x = .deliver q b →
          exec (.routerArrival p lane) s = .next ((fix (put (before ++ rest)) b).deliverLocal { x with pkt := q, checked := true }))
      ∧ (∀ q b, u.arrival x = .route q b →
          exec (.routerArrival p lane) s = .next (fix (put (before ++ { x with pkt := q, checked := true } :: rest)) b))))
  ∧ (∀ (s : State) (p lane g : Nat) (x : InPkt) (rest : List InPkt) (c : Cand) (r : Replay) (l : List Replay) (t : State) (cb : Nat × List Byte), s.clocks →
    let y := s.port p
    (s.admits 2 → p < 72 → mgetD y.lanes lane [] = x :: rest → x.checked = true →
      exec (.routingDecision p lane) s = .next ((s.setPort p { y with lanes := mset y.lanes lane rest }).decideOutput x))
    ∧ (s.choose x = (t, none) → s.decideOutput x = t.discard (if x.pkt.net.ordered then .orderedBroken else .noRoute) x)
    ∧ (s.choose x = (t, some c) → t.egressDrop c.out x.pkt.net = none →
        s.decideOutput x = (t.stamp x.tag 1).toEgress c.out { x with detour := c.detour })
    ∧ (s.admits 0 → s.stopped p = false → (s.portUp p ∨ s.rd Reg.LNK_STATUS_STATE p = 1) → y.nextControl = some cb →
        exec (.egressSelect p) s = .next (s.controlLeaves p cb))
    ∧ (s.admits 0 → s.stopped p = false → s.rd Reg.LNK_STATUS_STATE p = 1 → y.nextControl = none →
        exec (.egressSelect p) s = .next (s.sendControl p 0 []))
    ∧ (s.admits 0 → s.stopped p = false → s.portUp p → y.nextControl = none →
      (y.resend = [r.lsn] → y.replay = r :: l → s.maySend p r.vl r.cells false →
        exec (.egressSelect p) s = .next (((s.setPort p { y with resend := [] }).bufferMet p).sendReplay p r))
      ∧ (s.admits 1 → y.resend = [] → y.handed = r :: l → s.maySend p r.vl r.cells true →
        exec (.egressSelect p) s = .next ((s.setPort p { y with handed := l }).sendHanded p r))
      ∧ (s.admits 1 → y.resend = [] → y.handed = [] → (s.mirrorFits p).pickLane p = (t, none) →
        exec (.egressSelect p) s = .next (t.sendControl p 0 []))
      ∧ (s.admits 1 → y.resend = [] → y.handed = [] → ∀ v, (s.mirrorFits p).pickLane p = (t, some v) → t.egressHead p v = some x →
        exec (.egressSelect p) s = .next (t.handToLink p v x)))
    ∧ (s.rt.mirrored = none → s.mirrorFits p = s)
    ∧ (s.rt.mirrored = some (p, r) → (s.maySend p r.vl r.cells true → s.mirrorFits p = s
        ∧ s.egressHead p r.vl = some { port := 95, pkt := Packet.ofBytes r.bytes r.stomped, cells := r.cells, raw := some r.bytes })
      ∧ (s.maySend p r.vl r.cells true = false → s.mirrorFits p
        = ({ s with rt := { s.rt with mirrored := none } } : State).sat Reg.GLB_SPARE_XBAR_STATUS_MIRROR_DROPPED 1))
    ∧ (g < 16 → s.throttled g → s.groupCells g < s.rd Reg.RTE_THROTTLE_LO_CELLS →
        Leads (.throttleRelease g) s fun t => t.throttled g = false ∧ ∀ h < 16, h ≠ g → t.throttled h = s.throttled h))
  ∧ (∀ (s : State), s.clocks →
    (Leads .wagglePeriod s fun t => t.rt.waggleTurn = s.rt.waggleTurn + 1 ∧ t.regs = s.regs
      ∧ t.rt.summaries = s.rt.summaries
      ∧ let due (d v : Nat) : Option Nat := (s.summaryPorts d v)[s.rt.waggleTurn % max 1 (s.summaryPorts d v).length]?
        (∀ d v q, d < 4 → v < s.widthOf 1 d → due d v = some q → (5, []) ∈ (t.port q).ctrl)
        ∧ (∀ q, (∀ d v, d < 4 → v < s.widthOf 1 d → due d v ≠ some q) → t.port q = s.port q))
    ∧ (∀ w q v m, mget s.rt.summaries w = some m → (∃ p < 72, s.neighbour 1 p = some w ∧ s.portUp p) →
      (1600 * s.rd Reg.RTE_WAGGLE_PERIOD < s.root - m.since → s.waggleCode w q v = 8)
      ∧ (s.root - m.since ≤ 1600 * s.rd Reg.RTE_WAGGLE_PERIOD → s.waggleCode w q v
        = if v % 2 = 0 then at_ m.depth (4 * q + v / 2) / 16 else at_ m.depth (4 * q + v / 2) % 16))
    ∧ (s.on Reg.RTE_SWAP_PENDING → s.rd Reg.RTE_SWAP_TIME_TIME ≤ s.time →
        exec .timedSwap s = .next ((s.wr Reg.RTE_SWAP_PENDING 0).swap.announce s))
    ∧ (s.shadowOk = false → s.swap.rd Reg.RTE_SWAP_STATUS = 0x0C
      ∧ ∀ a, 0x1001000 ≤ a → a < 0x1003000 → mget s.swap.regs a = mget s.regs a))

/-- From R196, R198, R200, R202 to R204: an adaptive choice is a permitted candidate on a port that is in use, and of the least cost; with LOOKAHEAD,
of those whose onward outputs are not all reported full, where there is one. A packet that has descended never climbs, and one without
detours left goes straight. -/
def Obligations.RoutingChoosesTheCheapest : Prop :=
  ∀ (s : State) (n : NetHeader) (row input : Nat) (c : Cand), s.chooseAdaptive n row input = some c →
    let leads (d : Cand) : Prop := s.onward n d ≠ some 15
    let kept (d : Cand) : Prop := d ∈ s.candidates n row
      ∧ (s.on Reg.RTE_WAGGLE_LOOKAHEAD = true → (∃ e ∈ s.candidates n row, leads e) → leads d)
    kept c ∧ s.permits 1 row c.col = true ∧ (s.usable c.out = true ∨ s.standIn c.col = some c.out)
    ∧ (∀ d, kept d → s.cost n c ≤ s.cost n d)
    ∧ (n.phase = true → c.goal < coordOf s.coord c.dim)
    ∧ (n.detoursLeft = 0 → c.detour = false ∧ c.goal = coordOf n.destCoord c.dim)

/-- From R222, R223: the keeper takes its next management packet: it records where a directed one came from, and sends it on or takes it; a
request with an operation of its own waits, one with none is refused.
From R153, R218, R221, R224 to R226: the operations of the fabric manager, each answered with its status: a claim and a release of the owner
token, register reads and writes as the keeper, an assignment, EID entries, a frond's words, a swap, an echo. -/
def Obligations.ManagementPacketsAct : Prop :=
  (∀ (s : State) (x : InPkt) (l : List InPkt) (h : MgmtHeader), s.clocks → s.rt.keeper = x :: l → x.pkt.body = .mgmt h →
    let k := if h.directed ∧ x.port < 72 ∧ 0 < h.hopPtr then { h with returnHops := setNth h.returnHops (h.hopPtr - 1) x.port } else h
    let n := { x.pkt.net with phase := false, hops := 0, detoursLeft := s.rd Reg.RTE_ADAPT_MAX_DETOURS 1 }
    let q : Packet := { x.pkt with body := .mgmt k, net := n }
    let u : State := { s with rt := { s.rt with keeper := l } }
    (h.directed = true → h.hopPtr ≠ h.hopCount → exec .mgmtDirectedForward s = .next (u.sendMgmt q))
    ∧ (h.directed = false ∨ h.hopPtr = h.hopCount →
      (h.response = true ∨ h.mop = 9 → exec .mgmtDirectedForward s = .next (u.emit (.manager (Packet.toBytes q))))
      ∧ (h.response = false → h.mop ≠ 9 → h.mversion ≠ 1 →
          exec .mgmtDirectedForward s = .next (u.mgmtReply { x with pkt := q } k 0x0E))
      ∧ (h.response = false → h.mop ≠ 9 → h.mversion = 1 → (h.mop = 0 ∨ 10 < h.mop) →
          exec .mgmtDirectedForward s = .next (u.mgmtReply { x with pkt := q } k 0x0C))
      ∧ (h.response = false → h.mversion = 1 → h.mop ∈ [1, 2, 3, 4, 5, 6, 7, 8, 10] → exec .mgmtDirectedForward s
          = .next { s with rt := { s.rt with keeper := l, mgmtIn := s.rt.mgmtIn ++ [{ x with pkt := q }] } })))
  ∧ (∀ (s : State) (x : InPkt) (l : List InPkt) (h : MgmtHeader), s.clocks → s.rt.mgmtIn = x :: l → x.pkt.body = .mgmt h →
    let b := x.pkt.payload
    let u := State.corrected { s with rt := { s.rt with mgmtIn := l } } (fun e => match e with | .keeper _ => true | _ => false) 0x014
    (s.soft = [] → u = { s with rt := { s.rt with mgmtIn := l } }) ∧ ((h.directed = true ∨ u.on Reg.RTE_MGMT_JOINED = true) →
    let done (i : Instr) (mop : Nat) (r : MgmtDone) : Prop := h.mop = mop → exec i s = .next (settle (r.1.mgmtReply x h r.2.1 r.2.2))
    let owned : Prop := u.rt.token = some (BitVec.ofNat 64 h.token)
    let v := BitVec.ofNat 64 (word8 b 0)
    let off := word8 b 0
    let n := word8 b 8
    let range : Prop := off % 8 = 0 ∧ 1 ≤ n ∧ n ≤ 64 ∧ off + 8 * n ≤ 2 ^ 26
    (b.length = 8 → v ≠ 0 → (u.rt.token = none ∨ owned) → h.directed = false → done .claim 1 (State.wr { u with rt := { u.rt with
        token := some v, ownerPath := [], ownerEid := x.pkt.net.srcEid } } Reg.RTE_MGMT_OWNED 1, 0, []))
    ∧ (b.length = 8 → v ≠ 0 → ∀ w, u.rt.token = some w → ¬owned → done .claim 1 (u, 0x03, []))
    ∧ (owned → b = [] → done .release 2 (u.dropOwner, 0, []))
    ∧ (¬owned → h.mop = 2 → exec .release s = .next (u.mgmtReply x h 0x03))
    ∧ (b.length = 16 → range → done .readReg 3 ((u.mgmtRead off n).1, 0, (u.mgmtRead off n).2))
    ∧ (owned → b.length = 16 + 8 * n → range → done .writeReg 4 ((List.range n).foldl (fun (t : State) i =>
        t.regWrite (.keeper 0) (off + 8 * i) 8 (BitVec.ofNat 64 (word8 b (16 + 8 * i)))) u, 0, []))
    ∧ (owned → b.length = 20 → beAt b 16 4 = 0 → u.on Reg.RTE_SWAP_PENDING = false →
      let t := (u.regWrite (.keeper 0) 0x1001000 8 v).regWrite (.keeper 0) 0x1001008 8 (BitVec.ofNat 64 (word8 b 8))
      t.reg 0x1001000 0x111104104100000 = v → t.reg 0x1001008 0 = BitVec.ofNat 64 (word8 b 8) → t.swap.rd Reg.RTE_SWAP_STATUS = 0 →
      done .assign 5 ((t.swap.wr Reg.RTE_MGMT_JOINED 1).announce u, 0, []))
    ∧ (owned → b.length = 12 → beAt b 4 4 = 1 → beAt b 0 4 < 2 ^ 20 → done .eidWrite 6
        ((u.eidFresh (beAt b 0 4)).wr (subFld Reg.RTE_EID_WORD_WORD (beAt b 0 4 % 2) 32) (beAt b 8 4 &&& 0x8F7FFFFF) (beAt b 0 4 / 2), 0, []))
    ∧ (owned → b.length = 72 → let r := u.frondWrite (beAt b 0 2) ((List.range 8).map fun i => BitVec.ofNat 64 (word8 b (8 + 8 * i)))
        done .frondWrite 7 (r.1, r.2, []))
    ∧ (owned → b.length = 8 → off = 0 → u.on Reg.RTE_SWAP_PENDING = false → u.on Reg.RTE_SWAP_BUSY = false →
      let w := (u.wr Reg.RTE_SWAP_AT_TIME 0).wr Reg.RTE_SWAP_TIME_TIME 0
      (w.swap.announce u).rd Reg.RTE_SWAP_STATUS = 0 → done .swap 8 (w.swap.announce u, 0, []))
    ∧ done .echo 10 (u, 0, b)))

/-- From R60 to R79, R94 to R103, R119, R137: a delivered packet of a WT opcode is processed by the command of its opcode: it leaves the delivered
packets, and has the effect of `rxPacket`.
From R74, R77, R94, R95, R97: a request in a connection's window: one outside it is counted; one that came before is acknowledged again; a new
PUT is refused where the key does not allow it, and else is taken and placed. -/
def Obligations.ReceivedPacketsAct : Prop :=
  (∀ (s : State) (port : Nat) (p : Packet) (h : WtHeader) (x : InPkt), s.clocks → p.body = .wt h → s.admits 3 →
    s.rt.delivered.find? (fun y => y.port == port && y.pkt.same p) = some x → x.tag = none →
    let t := s.rxPacket port x.pkt h
    t.tp.todo.contains .wait = false →
    let takes (i : Instr) (op : Nat) : Prop := h.opcode = op →
      exec i s = .next (settle { t with rt := { t.rt with delivered := t.rt.delivered.erase x } })
    takes (.wtPut port p) 0x01 ∧ takes (.getReq port p) 0x02 ∧ takes (.getResp port p) 0x03 ∧ takes (.atomicReq port p) 0x04
    ∧ takes (.atomicResp port p) 0x05 ∧ takes (.eager port p) 0x06 ∧ takes (.rts port p) 0x07 ∧ takes (.fin port p) 0x08
    ∧ takes (.ack port p) 0x10 ∧ takes (.nak port p) 0x11)
  ∧ (∀ (s : State) (n k : Nat) (q : Qp) (c : Conn) (p : Packet) (h : WtHeader), h.opcode = 0x01 → s.grant n k h = none →
    let cls := classify c.epsn c.bitmap h.psn
    let b := p.payload
    let e := s.key (keyIndex h.key)
    (cls = .outside → s.rxRequest n k q c p h = (s.tally Reg.TPT_VIOLATION_WINDOW 0x1C5 0 q.owner, .none))
    ∧ (cls = .duplicate ∨ cls = .old → s.rxRequest n k q c p h = (s.noteRequest n k h.solicitAck, .none))
    ∧ (cls = .new →
      (∀ d, s.checkRemote h.key q.fn q.pd rWrite h.address b.length = some d →
        s.rxRequest n k q c p h = ((s.keyFails q.owner 0x03 d p.net.srcEid h.key h.destQpn h.opcode).nakNew p h q c 0x03, .none))
      ∧ (s.checkRemote h.key q.fn q.pd rWrite h.address b.length = none → b = [] →
        s.rxRequest n k q c p h = ((s.modConn n k (·.accept h.psn 1)).noteRequest n k h.solicitAck, .none))
      ∧ (s.checkRemote h.key q.fn q.pd rWrite h.address b.length = none → b ≠ [] → e.store = true → ∃ pl : Placement, pl.store = true ∧ pl.key = some (keyIndex h.key) ∧ pl.use = .put n k h.psn h.solicitAck
          ∧ pl.pieces = [(e.storeAt h.address, b)]
          ∧ mget (s.rxRequest n k q c p h).1.tp.placements s.tp.nextId = some pl
          ∧ ((s.rxRequest n k q c p h).1.key (keyIndex h.key)).inUse = e.inUse + 1)))

/-- From R73, R74: an accepted PSN is new no more, and every other PSN that was new stays new; EPSN moves over received PSNs only. -/
def Obligations.RequestsAreTakenOnce : Prop :=
  ∀ (c : Conn) (psn q : Nat), psn < 2 ^ 24 → q < 2 ^ 24 → c.epsn < 2 ^ 24 → classify c.epsn c.bitmap psn = .new →
    let d := c.accept psn 1
    classify d.epsn d.bitmap psn ≠ .new ∧ d.epsn < 2 ^ 24
    ∧ (q ≠ psn → classify c.epsn c.bitmap q = .new → classify d.epsn d.bitmap q = .new)
    ∧ (q ≠ psn → classify d.epsn d.bitmap q = .new → classify c.epsn c.bitmap q = .new ∨ classify c.epsn c.bitmap q = .outside)
    ∧ (psnDiff psn c.epsn ≠ 0 → c.bitmap % 2 = 0 → d.epsn = c.epsn)

/-- From R67, R75, R78: the timers of the responder: an acknowledgement that was delayed goes out, a cached result is dropped, and a context that has
been fetched lets its packets go on.
From R75, R82, R97, R102, R103, R109, R131, R492: what hosts and the store answer: a placement that is issued lets its request be acknowledged and
drops its key, data that returns goes to what waits for it (a timeout is an uncorrectable error of the host link), and an atomic writes its new value and answers with the old one. -/
def Obligations.ResponderEventsAct : Prop :=
  (∀ (s : State) (n eid qpn psn : Nat) (x : Qp) (c : Conn),
    let k := connKey eid qpn
    s.clocks → s.qp n = some x →
    (mget x.conns k = some c → c.ackTimer = true → exec (.ackDelayExpiry n eid qpn) s = .next (s.sendAck n k))
    ∧ (Leads (.resultHoldExpiry n eid qpn psn) s fun t => t.tp.results = s.tp.results.filter fun e =>
        !(e.qpn == n && e.conn == k && e.psn == psn && e.value.isSome))
    ∧ (x.fetches.contains k = true → mgetD x.waits k [] = [] → exec (.contextFetchDone n eid qpn false) s
        = .next (settle (((s.setQp n { x with fetches := x.fetches.filter (· != k) }).touch n).pump 600 n k))))
  ∧ (∀ (s : State) (id : Nat) (pl : Placement) (r : HostRead) (a : AtomicOp) (b : List Byte) (n k psn d off key : Nat) (so : Bool) (t : Track), s.pins →
    let s1 : State := { s with tp := { s.tp with reads := mdel s.tp.reads id } }
    let back := s1.count 0x1C1 r.link r.len (s1.readOwner r.use)
    let sent := s.issue pl ((s.placeOwner pl.use).orElse fun _ => some (pl.fn, 0))
    let issued := ((sent.stamp pl.tag 6).stamp pl.tag 7).endTag pl.tag
    let late := s1.raise (0x2C1 + 8 * r.link) (2 ^ 14)
    let gone : State := { issued with tp := { issued.tp with placements := mdel issued.tp.placements id } }
    let freed := match pl.key with | some i => gone.dropRef i | none => gone
    let old := ofLE (s.storeRead a.addr a.width)
    (mget s.tp.placements id = some pl → s.admits (if pl.store then 5 else 6) →
      (pl.use = .put n k psn so → exec (.placementIssued id) s = .next (settle ((freed.placedPsn n k psn).noteRequest n k so)))
      ∧ (pl.use = .get n k psn d → exec (.placementIssued id) s
        = .next (settle ((freed.modDesc n d fun y => { y with placing := y.placing - 1 }).checkDone n d))))
    ∧ (mget s.tp.reads id = some r →
      (r.use = .source n d off key → exec (.hostReadDataReturn id (.data b)) s = .next (settle (back.sourceReturn n d off key (.data b) r.len)))
      ∧ (r.use = .resend n k psn key →
        exec (.hostReadDataReturn id (.data b)) s = .next (settle ((back.dropRef key).launch n k psn (slice b 0 r.len))))
      ∧ (r.use = .resend n k psn key → (s1.dropRef key).track n k psn = some t →
        exec (.hostReadDataReturn id .error) s = .next (settle ((s1.dropRef key).failTrack n t 0x0D false 14))
        ∧ exec (.hostReadDataReturn id .timeout) s = .next (settle ((late.dropRef key).failTrack n t 0x0D false 13))))
    ∧ (mget s.tp.atomics id = some a → a.store = false →
      let seen := ofLE (slice b 0 a.width)
      let u := s.count 0x1C1 a.link a.width (s.qpOwner a.qpn)
      (a.stage = 0 → exec (.hostAtomicResponse id (.data b)) s = .next (settle (u.atomicDone id a seen)))
      ∧ (a.stage = 1 → exec (.hostAtomicResponse id (.data b)) s = .next (u.atomicCas id a seen 1))
      ∧ (a.stage = 2 → seen = a.seen.toNat → exec (.hostAtomicResponse id (.data b)) s = .next (settle (u.atomicDone id a seen)))
      ∧ (a.stage = 2 → seen ≠ a.seen.toNat → a.tries < s.rd Reg.KEY_HOST_ATOMIC_CAS_LIMIT →
        exec (.hostAtomicResponse id (.data b)) s = .next (u.atomicCas id a seen (a.tries + 1))))
    ∧ (mget s.tp.atomics id = some a → a.store = true → s.admits 5 → s.poisoned a.addr a.width = false →
      exec (.storeAtomicDone id) s = .next (settle ((((s.storeCorrects a.addr a.width).commit a.addr (leBytes a.width (atomicResult a.opcode (8 * a.width) old a.op0.toNat
        a.op1.toNat))).countAtomic a.addr ((s.qp a.qpn).bind (·.owner))).atomicDone id a old))))

/-- From R82: the atomic operations on values of a width: sum, compare and swap, swap, the bitwise ones, and the signed minimum and maximum; the
result always fits in the width. -/
def Obligations.AtomicOperationsAsTheTableSays : Prop :=
  ∀ (w old op0 op1 : Nat), w = 32 ∨ w = 64 → old < 2 ^ w →
    let a := op0 % 2 ^ w
    let b := op1 % 2 ^ w
    (∀ op, atomicResult op w old op0 op1 = atomicResult op w old a b)
    ∧ atomicResult 0x10 w old a b = (old + a) % 2 ^ w ∧ atomicResult 0x11 w old a b = (if old = a then b else old)
    ∧ atomicResult 0x12 w old a b = b
    ∧ (∀ i, (atomicResult 0x13 w old a b).testBit i = (old.testBit i && a.testBit i))
    ∧ (∀ i, (atomicResult 0x14 w old a b).testBit i = (old.testBit i || a.testBit i))
    ∧ (∀ i, (atomicResult 0x15 w old a b).testBit i = (old.testBit i ^^ a.testBit i))
    ∧ toSigned w (atomicResult 0x16 w old a b) = min (toSigned w old) (toSigned w a)
    ∧ toSigned w (atomicResult 0x17 w old a b) = max (toSigned w old) (toSigned w a)
    ∧ ∀ op ∈ [0x10, 0x11, 0x12, 0x13, 0x14, 0x15, 0x16, 0x17], atomicResult op w old a b < 2 ^ w

/-- From R103, R105: a write commits its bytes in the store: they read back, every other byte reads as before, the memory keeps its canonical form,
no unit gains an error, and every unit that the write covers loses its own. -/
def Obligations.StoreCommitsReadBack : Prop :=
  ∀ (s : State) (a : Nat) (l : List Byte), Memory.wf 0 s.store = true →
    let t := s.commit a l
    t.storeRead a l.length = l ∧ (∀ x, x < a ∨ a + l.length ≤ x → Memory.read 0 t.store x = Memory.read 0 s.store x)
    ∧ Memory.wf 0 t.store = true ∧ (∀ u ∈ t.poison, u ∈ s.poison)
    ∧ (∀ u ∈ s.poison, u ∈ t.poison ↔ l = [] ∨ ¬(a ≤ 8 * u ∧ 8 * u + 8 ≤ a + l.length))
    ∧ t.flash = s.flash ∧ t.out = s.out

/-- From R107, R108, R110 to R112, R124, R129, R147: accesses over CXL.mem to a line of a mapped range and outside it, which wait while the STORE crossing is quiesced (R23); the end and the stall of a
key's drain; posting that resumes; a pool that takes its new size; a handler that starts on an idle thread of its hive, whose zeroed frame may end another thread's reservation. -/
def Obligations.MemoryKeyAndHandlerEvents : Prop :=
  ∀ (s : State) (link addr a idx fn i n t : Nat) (l : List Byte) (x : Qp) (r : Recv) (h : Handler), s.pins →
    let e := s.key idx
    let held := s.on Reg.GLB_CROSSING_CTRL_QUIESCE 5
    let waits (r : CxlReq) : State := { s with bt := { s.bt with cxlWait := s.bt.cxlWait ++ [r] } }
    (s.cxlLine link addr = some a → held = false → s.poisoned a 64 = false →
      exec (.cxlMemRead link addr) s = .next (((s.storeCorrects a 64).count 0x180 (stackOf a) 64).emit (.cxlData link (some (s.storeRead a 64)) false)))
    ∧ (s.cxlLine link addr = some a → held = true → exec (.cxlMemRead link addr) s = .next (waits { link := link, line := addr })
      ∧ exec (.cxlMemWrite link addr (l.map some)) s = .next (waits { link := link, line := addr, write := some (l.map some) }))
    ∧ (s.cxlLine link addr = some a → held = false → l.length = 64 → exec (.cxlMemWrite link addr (l.map some)) s = .next (s.commit a l))
    ∧ (s.cxlLine link addr = none → exec (.cxlMemRead link addr) s = .next (s.emit (.cxlData link none false))
      ∧ exec (.cxlMemWrite link addr (l.map some)) s = .next (s.emit (.cxlUnsupported link)))
    ∧ (e.draining = true → e.inUse = 0 →
      let cmd := s.tp.funcs.find? fun p => (p.2.cmd.bind (·.waitKey)) == some idx
      (∀ g, cmd = some (fn, g) → exec (.keyDrainComplete idx) s = .next (settle ((s.freeKey idx).cmdDone fn 0x00)))
      ∧ (cmd = none → e.unbind = [] → e.kind ≠ 1 → exec (.keyDrainComplete idx) s = .next (settle (s.drainEnds idx)))
      ∧ (cmd = none → e.kind = 1 → exec (.keyDrainComplete idx) s = .next (s.drainEnds idx)))
    ∧ (e.draining = true → e.timers ≠ 0 → e.inUse ≠ 0 →
      exec (.keyDrainStall idx) s = .next ((s.setKey idx { e with stalled := true, timers := e.timers - 1 }).raise 0x301 (s.keyOf idx)))
    ∧ (s.postingHeld = false → Leads .postingResume s fun u => (∀ q ∈ u.tp.qps, q.2.postedFull = false) ∧ u.mt = s.mt ∧ u.regs = s.regs)
    ∧ (s.on Reg.MCH_UNEXP_PENDING → s.mt.unexp = [] → Leads .poolResizeApply s fun u =>
        u.mt.poolKib = s.rd Reg.MCH_UNEXP_POOL_KIB ∧ u.rd Reg.MCH_UNEXP_PENDING = 0 ∧ u.tp = s.tp)
    ∧ (s.admits 3 → s.qpnOf fn i = some n → s.qp n = some x → x.handlerDue = some r → mget s.mt.handlers (handlerKey fn r.handler) = some h →
      (s.thread t).st = .idle → s.handlerThread (hiveOf n) t → Leads (.handlerStart fn i t) s fun u =>
        let y := u.thread t
        y.st = .running ∧ y.priv = 1 ∧ y.pc = h.entry ∧ y.code = 4 * h.code.length ∧ y.budget = s.rd Reg.MCH_HANDLER_BUDGET
          ∧ y.get 1 = BitVec.ofNat 64 r.laddr ∧ y.get 3 = r.msgTag ∧ y.get 6 = BitVec.ofNat 64 r.status ∧ y.get 5 = r.userId
          ∧ y.run.isSome ∧ (∀ v, v ≠ t → { u.thread v with resv := none } = { s.thread v with resv := none })
          ∧ (u.qp n).map (·.handlerRun) = some (some r.id))

/-- From R387, R390, R391, R393: a walk goes on with the entry that it has read: an invalid entry or a wrong leaf faults, a pointer goes down a level, a
leaf without its bits has them set by a CAS, and any other leaf ends the walk in the cache; and packets that waited for it go on. A CAS that
finds another entry starts over, and faults after the last retry.
From R396: a walk that set out from a cached copy of another slot, and finds there no leaf that covers its address, goes on with its own slot (the
model's way, log entry 55).
From R390: a walk that ends for an access to its entries installs nothing. -/
def Obligations.WalksGoOn : Prop :=
  (∀ (s : State) (id fn va : Nat) (w : Walk) (b : List Byte) (e : Word), s.pins → mget s.xl.walks id = some w →
    let v := BitVec.ofNat 64 (ofLE (slice b 0 8))
    let u := s.count 0x1C1 (w.ctx / 256) 8 (s.walkOwner w)
    let reads (t : State) : Prop := exec (.walkReadResponse id (.data b)) s = .next (settle t.pumpAll)
    let fault (d : Nat) := u.walkFails id w 0x05 d w.level w.addr
    let node : Cached := ⟨w.ctx, w.level, w.va / spanOf w.level, w.addr, v⟩
    (w.cas = none →
      (bit v 0 = false → reads (fault 17))
      ∧ (bit v 0 = true → bit v 1 = false → w.level = 0 → reads (fault 20))
      ∧ (bit v 0 = true → bit v 1 = false → w.level ≠ 0 → w.slot = none →
        reads (u.descend 5 id { w with level := w.level - 1, nodes := w.nodes ++ [node] } (entryAddr v)))
      ∧ (bit v 0 = true → bit v 1 = false → w.level ≠ 0 → w.slot ≠ none → reads (u.ownSlot id w))
      ∧ (bit v 0 = true → bit v 1 = true → leafOk v w.level = false → reads (fault 20))
      ∧ (bit v 0 = true → bit v 1 = true → leafOk v w.level = true → leafCovers w.level w.slotNo w.va v = false → reads (u.ownSlot id w))
      ∧ (bit v 0 = true → bit v 1 = true → leafOk v w.level = true → leafCovers w.level w.slotNo w.va v = true →
        (∀ d, leafDenied v w.kind = some d → reads (fault d))
        ∧ (leafDenied v w.kind = none → needsBits w.ad v w.kind = true → w.prefetch = false → reads (u.walkCas id w v))
        ∧ (leafDenied v w.kind = none → needsBits w.ad v w.kind = false ∨ w.prefetch = true → reads (u.walkEnds id w v)))
      ∧ exec (.walkReadResponse id .error) s = .next (settle (s.walkFails id w 0x06 14 w.level w.addr).pumpAll))
    ∧ (w.cas = some e → v = e → exec (.adCasResponse id (.data b)) s = .next (settle (u.walkEnds id w (withBits e w.kind)).pumpAll))
    ∧ (w.cas = some e → v ≠ e →
      let r := u.tally Reg.XLT_COUNT_AD_RESTARTS 0x1CD 0 (some (w.ctx, 0))
      let t := ({ r with xl := { r.xl with leaves := r.xl.leaves.filter fun c => !(c.ctx == w.ctx && c.addr == w.addr) } } : State).xlShown
      let x := { w with tries := w.tries + 1, cas := none }
      exec (.adCasResponse id (.data b)) s = .next (settle (if w.tries + 1 = r.rd Reg.XLT_CFG_AD_RETRIES then
        t.walkFails id x 0x05 21 w.level w.addr else t.walkRead id x).pumpAll))
    ∧ exec (.walkTimeout id) s = .next (settle (s.walkFails id w 0x06 13 w.level w.addr).pumpAll)
    ∧ (fn < 2048 → va < 2 ^ 57 → s.on Reg.XLT_CFG_PREFETCH → s.on Reg.XLT_CTX_ENABLE fn → (∀ c ∈ s.xl.leaves, c.covers fn va = false) →
      (∀ y ∈ s.xl.walks, y.2.ctx = fn → y.2.va / 4096 ≠ va / 4096) →
      exec (.prefetchWalk fn va) s = .next (settle (s.startWalk (s.opened (.command fn) fn va 1 accRead) va true none))))
  ∧ (∀ (s : State) (id d level addr : Nat) (w : Walk), let t := s.walkFails id w 0x06 d level addr
    t.xl.leaves = s.xl.leaves ∧ t.xl.nodes = s.xl.nodes ∧ mget t.xl.walks id = none)

/-- From R154 to R156, R158, R160, R163 to R166, R181, R183: collective descriptors join an epoch of their group; downward and abort packets act on
it; an upward packet enters the queue of port 88, whose head acts on the epoch or waits there; a staging cell is freed; the epoch timer aborts.
From R182, R183: an abort ends the epoch of a group: the frond is aborted with its reason, holds no epoch, slot or cell, and its
lost epoch is counted. An aborted frond is not aborted again. -/
def Obligations.SwarmEventsAct : Prop :=
  (∀ (s : State) (fn i n gid port cell : Nat) (x : Qp) (d : Desc) (f : Frond) (p : Packet) (h : SwarmHeader) (y : InPkt) (v : State),
    s.clocks →
    let joins (c : Instr) (op : Nat) : Prop := s.qpnOf fn i = some n → s.qp n = some x → x.startable op = some d → s.admits 4 →
      s.collectiveFault n x d = none →
      let u := s.modDesc n d.id fun z => { z with st := .sent, localRef := s.descReads x d, outRef := s.descWrites x d }
      let u := if s.descReads x d then u.takeRef (keyIndex d.lkey) else u
      let u := if s.descWrites x d then u.takeRef (keyIndex d.rkey) else u
      exec c s = .next (settle ((u.joinEpoch n d.gid d).peerWait n))
    let taken : State := { s with rt := { s.rt with delivered := s.rt.delivered.erase y } }
    let there : Prop := p.body = .swarm h ∧ s.admits 4 ∧ s.rt.delivered.find? (fun z => z.port == port && z.pkt.same p) = some y ∧ y.tag = none
    let acts (c : Instr) (kind : Nat) : Prop := there → h.kind = kind → taken.swarmPacket port h p.payload = some v →
      exec c s = .next (settle (v.returnCredit port p))
    (joins (.barrier fn i) 0x40 ∧ joins (.reduce fn i) 0x41 ∧ joins (.allreduce fn i) 0x42 ∧ joins (.broadcast fn i) 0x43)
    ∧ (acts (.swarmDownPacket port p) 1 ∧ acts (.swarmAbortPacket port p) 2)
    ∧ (there → h.kind = 0 → exec (.swarmUpPacket port p) s = .next (settle { taken with sw := { s.sw with up := s.sw.up ++ [(port, p)] } }))
    ∧ (p.body = .swarm h → s.sw.up = [(port, p)] →
      (s.swarmPacket port h p.payload = some v → s.upDrain 1 = State.returnCredit { v with sw := { v.sw with up := [] } } port p)
      ∧ (s.swarmPacket port h p.payload = none → s.upDrain 1 = s))
    ∧ (mget s.sw.fronds gid = some f →
      (f.held.contains cell = true → exec (.stagingCellFree gid cell) s
        = .next (settle (s.setFrond gid { f with held := f.held.filter (· != cell) })))
      ∧ (f.cur.isSome → exec (.epochTimeout gid) s = .next (settle (s.swarmAbort gid 1 127)))
      ∧ (f.cur = none → s.slotFree = true → mget (s.joinEpoch n gid d).sw.fronds gid
        = some { f with st := .active, cur := some { s.newEpoch f.epoch d.opId with member := some (n, d.id) } })
      ∧ (f.cur = none → s.slotFree = false → s.joinEpoch n gid d = s.swarmAbort gid 7 127 none none (some d.swarmHeader))))
  ∧ (∀ (s : State) (gid reason port : Nat) (f : Frond), mget s.sw.fronds gid = some f →
    (f.st = .aborted → s.swarmAbort gid reason port = s)
    ∧ (f.st ≠ .aborted → mget (s.swarmAbort gid reason port).sw.fronds gid = some { f with
        st := .aborted, cur := none, nxt := none, held := [], epoch := (f.cur.map (·.number)).getD f.epoch, lastReason := reason })
    ∧ (∀ g, g ≠ gid → mget (s.swarmAbort gid reason port).sw.fronds g = mget s.sw.fronds g))

/-- From R173, R176, R178: exact partials combine by addition of 2,240-bit integers, which wraps, the OR of NZ and the rule for special values, in any order and along any tree, to
the same state; and a partial that is sent up arrives as it was. -/
def Obligations.ExactSumsKeepNoOrder : Prop :=
  (∀ a b c : Exact, a.join b = b.join a ∧ (a.join b).join c = a.join (b.join c)
    ∧ (a.special = 0 → b.special = 0 → ((a.join b).acc - (a.acc + b.acc)) % 2 ^ 2240 = 0 ∧ -(2 ^ 2239) ≤ (a.join b).acc ∧ (a.join b).acc < 2 ^ 2239
      ∧ (-(2 ^ 2239) ≤ a.acc + b.acc → a.acc + b.acc < 2 ^ 2239 → (a.join b).acc = a.acc + b.acc))
    ∧ (a.join b).nz = (a.nz || b.nz)
    ∧ ((a.join b).special ≠ 0 → (a.join b).acc = 0) ∧ (a.special = 0 → (a.join b).special = b.special)
    ∧ (a.special = b.special → (a.join b).special = a.special) ∧ (a.special = 3 → (a.join b).special = 3)
    ∧ (a.special = 1 → b.special = 2 → (a.join b).special = 3))
  ∧ (∀ l m : List Exact, l.Perm m → l.foldl Exact.join {} = m.foldl Exact.join {})
  ∧ ∀ x : Exact, x.acc.natAbs < 2 ^ 2239 → x.special < 4 → (x.special ≠ 0 → x.acc = 0) → readPartials 1 x.toBytes = some [x]

/-- From R174, R177: every finite value of a format enters a sum exactly, and rounding it gives its own bits back; an infinity and a NaN do so too,
the NaN as the canonical one. -/
def Obligations.FormatsRoundTrip : Prop :=
  ∀ (dtype : Nat) (f : Fmt), fmtOf dtype = some f → ∀ v < 2 ^ f.w,
    (f.isNan v = false → f.round (f.decode v) = v) ∧ (f.isNan v = true → f.round (f.decode v) = f.nan)
    ∧ (f.decode v).acc.natAbs < 2 ^ 2098 ∧ ((f.decode v).special ≠ 0 → (f.decode v).acc = 0)

/-- From R298 to R300: fabric time. A child asks its parent once a period, and gives up its lock after four without an answer; the servo steps a large
offset and adds a small one to what it still has to slew, and locks after eight good samples in a row; a pulse gives a root its offset to the nearest second. -/
def Obligations.FabricTimeIsServed : Prop :=
  ∀ (s : State) (th : Int), s.pins →
    let seq := (s.sc.syncSeq + 1) % 65536
    let p := s.rd Reg.SCH_TIME_CFG_PARENT_PORT
    let asked (n : Nat) (t : State) : State := { t with sc := { t.sc with silent := n, syncSeq := seq, syncOut := some (seq, s.time) } }
    (s.rd Reg.SCH_TIME_CFG_ROLE = 1 → s.portUp p → s.rd Reg.LNK_STATUS_VERSION p = 2 → (s.sc.syncOut = none →
        exec .timeSyncTimer s = .next ((asked 0 s).control p 4 ([0] ++ beBytes 2 seq ++ beBytes 8 s.time)))
      ∧ (s.sc.syncOut.isSome → s.sc.silent ≠ 3 →
        exec .timeSyncTimer s = .next ((asked (s.sc.silent + 1) s).control p 4 ([0] ++ beBytes 2 seq ++ beBytes 8 s.time)))
      ∧ (s.sc.syncOut.isSome → s.sc.silent = 3 → Leads .timeSyncTimer s fun t =>
          t.rd Reg.SCH_TIME_STATUS_LOCKED = 0 ∧ t.rd Reg.SCH_TIME_STATUS_NO_RESPONSE_SEEN = 1 ∧ t.sc.silent = 4))
    ∧ (s.rd Reg.SCH_TIME_CFG_ROLE = 2 → s.rd Reg.GLB_RES_OWNER_TIMEPULSE = 1 → s.on Reg.SCH_PULSE_CFG_PULSE_IN →
      (s.time % 1000000000 < 500000000 → exec .timepulseEdge s = .next (s.servo (-((s.time % 1000000000 : Nat) : Int))))
      ∧ (500000000 ≤ s.time % 1000000000 → exec .timepulseEdge s = .next (s.servo ((1000000000 - s.time % 1000000000 : Nat) : Int))))
    ∧ ((s.rd Reg.SCH_TIME_CFG_STEP_NS : Int) < th.natAbs → (s.servo th).time = ofInt 64 (s.time + th)
      ∧ (s.servo th).rd Reg.SCH_TIME_STATUS_STEP_SEEN = 1 ∧ (s.servo th).rd Reg.SCH_TIME_STATUS_LOCKED = 0 ∧ (s.servo th).sc.slew = 0 ∧ (s.servo th).sc.pace = 0)
    ∧ ((th.natAbs : Int) ≤ s.rd Reg.SCH_TIME_CFG_STEP_NS → (s.servo th).time = s.time ∧ (s.servo th).sc.slew = s.sc.slew + th ∧ (s.servo th).sc.pace = s.paceFor (s.sc.slew + th)
      ∧ (20 < th.natAbs → (s.servo th).rd Reg.SCH_TIME_STATUS_LOCKED = 0)
      ∧ (th.natAbs ≤ 5 → 7 ≤ s.sc.good → (s.servo th).rd Reg.SCH_TIME_STATUS_LOCKED = 1)
      ∧ (5 < th.natAbs → th.natAbs ≤ 20 → (s.servo th).rd Reg.SCH_TIME_STATUS_LOCKED = s.rd Reg.SCH_TIME_STATUS_LOCKED ∧ (s.servo th).sc.good = 0))

/-- From R301, R303, R304: an accepted gate list takes the admin list's place at its cycle start, and the entry shown follows fabric time.
From R301: the entry in force at an offset of the cycle is the one whose interval holds it, and the last entry holds to the cycle's end. -/
def Obligations.GatesFollowTheirLists : Prop :=
  (∀ (s : State) (p : Nat), s.clocks → p < 72 → s.on Reg.SCH_PULSE_CFG_DEBUG_OUT = false →
    (s.on Reg.SCH_GATE_CTRL_PENDING p → (s.port p).gatePendAt ≤ s.time → Leads (.gateListActivate p) s fun t =>
      let n := s.rd Reg.SCH_GATE_CYCLE_LEN_M1 p + 1
      t.rd Reg.SCH_GATE_CTRL_PENDING p = 0 ∧ t.rd Reg.SCH_GATE_STATUS_ACTIVE p = 1 ∧ (t.port p).gateLen = n
        ∧ (t.port p).gateBase = s.rd Reg.SCH_GATE_BASE_BASE p ∧ (t.port p).gateCycle = s.rd Reg.SCH_GATE_CYCLE_CYCLE_NS p
        ∧ (t.port p).gateGuard = s.rd Reg.SCH_GATE_CTRL_GUARD_NS p
        ∧ ∀ e < n, t.rd Reg.SCH_GATE_OPER_MASK p e = s.rd Reg.SCH_GATE_ADMIN_MASK p e
          ∧ t.rd Reg.SCH_GATE_OPER_INTERVAL_NS p e = s.rd Reg.SCH_GATE_ADMIN_INTERVAL_NS p e)
    ∧ (s.on Reg.SCH_GATE_STATUS_ACTIVE p → exec (.gateEntryAdvance p) s = .next (s.wr Reg.SCH_GATE_STATUS_ENTRY (s.gateAt p s.time).1 p))
    ∧ (s.on Reg.SCH_GATE_STATUS_ACTIVE p = false → exec (.gateEntryAdvance p) s = .next s))
  ∧ (∀ (cycle off : Nat) (l : List (Nat × Nat)), off < cycle → l ≠ [] →
    let ends (k : Nat) : Nat := ((l.take k).map (·.2)).sum
    ∃ k m i r, l[k]? = some (m, i) ∧ walkGate cycle off 0 0 l = (k, m, r) ∧ ends k ≤ off ∧ 0 < r ∧ off + r ≤ cycle
      ∧ (k + 1 < l.length → off + r = min cycle (ends (k + 1))) ∧ (k + 1 = l.length → off + r = cycle))

/-- From R307 to R311: an arbiter with a candidate grants one request: a candidate, or on every N-th grant the oldest request; the grant ends the
winner's losses, and every other candidate loses and backs off. A backoff ends without other effect. -/
def Obligations.ArbitersGrantOneRequest : Prop :=
  ∀ (s : State) (u cycle r0 c0 : Nat) (reqs : List (Nat × Nat)),
    let a := mgetD s.sc.arbs u {}
    let free (r : Nat) : Bool := (reqs.map (·.1)).contains r && !(mgetD a.reqs r {}).backoff
    s.clocks → (∀ x ∈ reqs, x.1 < arbSize u) → (r0, c0) ∈ reqs → free r0 = true →
      (Leads (.arbiterDecision u cycle reqs) s fun t =>
        let b := mgetD t.sc.arbs u {}
        ∃ w c, (w, c) ∈ reqs ∧ b.grants = a.grants + 1 ∧ mgetD b.reqs w {} = {}
          ∧ (∀ r, r ≠ w → free r = true → mgetD b.reqs r {} = { losses := min 11 ((mgetD a.reqs r {}).losses + 1), backoff := true })
          ∧ (∀ r, r ≠ w → free r = false → mgetD b.reqs r {} = mgetD a.reqs r {})
          ∧ ((a.grants + 1) % max 1 (s.rd Reg.SCH_ARB_CFG_N u) = 0 → ∀ x ∈ reqs, c ≤ x.2)
          ∧ ((a.grants + 1) % max 1 (s.rd Reg.SCH_ARB_CFG_N u) ≠ 0 → free w = true))
      ∧ (∀ q, mget a.reqs r0 = some q → Leads (.backoffExpiry u r0) s fun t =>
        mget (mgetD t.sc.arbs u {}).reqs r0 = some { q with backoff := false } ∧ t.regs = s.regs)

/-- From R402, R405, R406, R408: an occurrence of a source sets its STATUS bit and no other, is captured in the first log while that is free, counts its class,
and lets its reactions wait when the bit was 0. -/
def Obligations.OccurrencesAreRecorded : Prop :=
  ∀ (s : State) (k info c : Nat) (inj sup : Bool), classOf k = some c →
    let t := raise1 s k info inj sup
    let old := bit (BitVec.ofNat 64 (s.rd Reg.EVT_STATUS_STATUS (k / 64))) (k % 64)
    (∀ n < 16, ∀ i < 64, bit (BitVec.ofNat 64 (t.rd Reg.EVT_STATUS_STATUS n)) i
      = (bit (BitVec.ofNat 64 (s.rd Reg.EVT_STATUS_STATUS n)) i || decide (64 * n + i = k)))
    ∧ (s.rd Reg.FLT_FIRST_LOG0_VALID = 0 → t.rd Reg.FLT_FIRST_LOG0_VALID = 1 ∧ t.rd Reg.FLT_FIRST_LOG0_SOURCE = k
      ∧ t.rd Reg.FLT_FIRST_LOG0_CLASS = c ∧ t.rd Reg.FLT_FIRST_LOG0_INFO = info % 2 ^ 32 ∧ t.rd Reg.FLT_FIRST_LOG1_TIME = s.time % 2 ^ 64)
    ∧ (s.rd Reg.FLT_FIRST_LOG0_VALID ≠ 0 → t.rd Reg.FLT_FIRST_LOG0_SOURCE = s.rd Reg.FLT_FIRST_LOG0_SOURCE)
    ∧ (c = 2 → t.rd Reg.FLT_CLASS_COUNT_FATAL = min (s.rd Reg.FLT_CLASS_COUNT_FATAL + 1) (2 ^ 16 - 1))
    ∧ (c ≠ 2 → t.rd Reg.FLT_CLASS_COUNT_FATAL = s.rd Reg.FLT_CLASS_COUNT_FATAL)
    ∧ t.rd Reg.FLT_CLASS_COUNT_CORRECTED = (if c = 0 then min (s.rd Reg.FLT_CLASS_COUNT_CORRECTED + 1) (2 ^ 32 - 1)
        else s.rd Reg.FLT_CLASS_COUNT_CORRECTED)
    ∧ t.rd Reg.FLT_CLASS_COUNT_CONTAINED = (if c = 1 then min (s.rd Reg.FLT_CLASS_COUNT_CONTAINED + 1) (2 ^ 16 - 1)
        else s.rd Reg.FLT_CLASS_COUNT_CONTAINED)
    ∧ t.ft.reactions = (if old then s.ft.reactions else s.ft.reactions ++ [⟨k, info % 2 ^ 32, sup, s.time⟩])

/-- From R33, R402, R408 to R413, R469: reactions that wait are sent, keeper firmware is told of every one, and a host link's AER state records
it; sources that the outside raises; what ALIVE, MSI-X vectors and notifies do. -/
def Obligations.ReactionsAndOutsideSources : Prop :=
  ∀ (s : State) (r : Reaction) (n vec temp word w2 : Nat) (l : List Nat), s.pins →
    let u := State.react { s with ft := { s.ft with reactions := [] } } r
    let f := s.func n
    let v := mgetD f.vectors vec {}
    let unmasked := s.setFunc n { f with vectors := mset f.vectors vec { v with masked := false, pending := false } }
    (s.ft.reactions = [r] → u.on Reg.EVT_SRC_CFG_CHIP_RESET r.source = false → u.on Reg.EVT_SRC_CFG_BLOCK_RESET r.source = false →
      exec .reactionDispatch s = .next u)
    ∧ (s.ft.reactions = [r] → u.on Reg.EVT_SRC_CFG_CHIP_RESET r.source = true → exec .reactionDispatch s = .next (u.warmReset 4))
    ∧ (s.ft.reactions = [r] → (∀ a : Fld, a = Reg.EVT_SRC_CFG_CHIP_RESET ∨ a = Reg.EVT_SRC_CFG_BLOCK_RESET ∨ a = Reg.EVT_SRC_CFG_FM →
        s.on a r.source = false) → Leads .reactionDispatch s fun t => Output.report r.source ∈ t.out
      ∧ (s.on Reg.EVT_SRC_CFG_NMI r.source = true → Output.nmi ∈ t.out)
      ∧ (s.on Reg.EVT_SRC_CFG_EXT_PCIE r.source = true → classOf r.source = some 0 → n < 8 → (t.aerOf n).corrected = true
        ∧ ((s.aerOf n).maskCorrected = false → s.bt.linkUp / 2 ^ n % 2 = 1 → Output.aer n 0 ∈ t.out)))
    ∧ (s.bt.inReset = false → n < 4 → exec (.stackFail n) s = .next (s.raise (0x242 + 16 * n))
      ∧ exec (.keeperCoreError n) s = .next (s.raise (0x010 + n)) ∧ exec (.storeTempHigh n temp) s = .next (s.raise (0x243 + 16 * n) temp))
    ∧ (s.on Reg.FLT_ALIVE_TOGGLING → Leads .aliveEdge s fun t =>
        t.ft.aliveLevel = !s.ft.aliveLevel ∧ t.out = s.out ++ [.alive (!s.ft.aliveLevel)] ∧ t.regs = s.regs)
    ∧ (n < 2048 → vec < 2048 → s.bt.inReset = false → v.pending = false → exec (.msixVectorUnmask n vec) s = .next unmasked)
    ∧ (n < 2048 → vec < 2048 → s.bt.inReset = false → v.pending = true → f.msixOff = false →
        s.bt.linkUp / 2 ^ (n / 256) % 2 = 1 → exec (.msixVectorUnmask n vec) s = .next (unmasked.emit (.msix n vec)))
    ∧ (s.ft.notifies = word :: w2 :: l → exec .hostNotifySent s
        = .next (State.emit { s with ft := { s.ft with notifies := w2 :: l } } (.smbusNotify w2)))
    ∧ (s.ft.notifies = [word] → exec .hostNotifySent s = .next { s with ft := { s.ft with notifies := [] } })

/-- From R23, R24, R32, R33, R40, R402, R469: clocks, crossings, the loopback test, host links. While the root clock is unlocked, every command
outside the standby domain leaves the state as it is. -/
def Obligations.PlatformEventsAct : Prop :=
  ∀ (s : State) (n : Nat) (off : Int) (absent cxl : Bool) (b rx : List Byte) (l : List (List Byte)), s.bt.inReset = false →
    (s.clocks → s.workHeld n = true → exec (.quiesceDrained n) s = .next s)
    ∧ (s.clocks → n < 7 → s.on Reg.GLB_CROSSING_CTRL_QUIESCE n → s.workHeld n = false → Leads (.quiesceDrained n) s fun t =>
      t.rd Reg.GLB_CROSSING_CTRL_QUIESCED n = 1 ∧ t.ft.drains = s.ft.drains.filter (· != n) ∧ t.out = s.out)
    ∧ (s.clocks → s.ft.drains.contains n = true → exec (.quiesceTimeout n) s = .next ((State.wr { s with ft := { s.ft with
        drains := s.ft.drains.filter (· != n) } } Reg.GLB_CROSSING_CTRL_DRAIN_TIMED_OUT 1 n).raise (0x008 + n)))
    ∧ (s.clocks → absent = true ∨ off < -1000 ∨ 1000 < off → Leads (.refbMonitorWindow off absent) s fun t =>
        t.rd Reg.GLB_CLK_STATUS_REFB_OK = 0 ∧ t.rd Reg.GLB_CLK_STATUS_REFB_BAD_SEEN = 1)
    ∧ (s.clocks → absent = false → -1000 ≤ off → off ≤ 1000 → Leads (.refbMonitorWindow off absent) s fun t =>
        t.rd Reg.GLB_CLK_STATUS_REFB_OK = 1 ∧ toSigned 16 (t.rd Reg.GLB_CLK_STATUS_REFB_OFFSET) = off)
    ∧ (s.ft.rootLost = false → Leads .rootUnlock s fun t => t.ft.rootLost = true ∧ t.rd Reg.GLB_CLK_STATUS_ROOT_LOCK = 0
        ∧ t.rd Reg.GLB_CLK_STATUS_ROOT_UNLOCK_SEEN = 1 ∧ t.fg = s.fg ∧ t.out = s.out)
    ∧ (s.ft.rootLost = true → exec .rootRelock s
          = .next ((State.wr { s with ft := { s.ft with rootLost := false } } Reg.GLB_CLK_STATUS_ROOT_LOCK 1).raise 0)
        ∧ (s.on Reg.GLB_CLK_STATUS_ROOT_LOCK = false → ∀ i : Instr, standbyCommand i = false → exec i s = .next s))
    ∧ (s.bt.isolated = false → s.ft.refbStop = false → Leads .refclkBStop s fun t => t.ft.refbStop = true ∧ t.regs = s.regs
        ∧ t.out = s.out ++ s.refbPorts.map fun p => .transmit p false)
    ∧ (s.bt.isolated = false → s.ft.refbStop = true → Leads .refclkBRestore s fun t => t.ft.refbStop = false ∧ t.regs = s.regs
        ∧ t.out = s.out ++ s.refbPorts.map fun p => .transmit p true)
    ∧ (s.clocks → s.on Reg.GLB_SPARE_XBAR_CTRL_LOOP_EN → s.admits 2 = true → Leads .loopPacketGenerate s fun t => ∃ p, t.spare.inFlight = s.spare.inFlight ++ [p]
        ∧ t.out = s.out ++ [.loopback p] ∧ p.take 4 = beBytes 4 s.spare.count ∧ p.length = 16 + (s.rd Reg.GLB_SPARE_XBAR_CTRL_LOOP_LEN - 16)
        ∧ t.spare.count = (s.spare.count + 1) % 2 ^ 32)
    ∧ (s.clocks → s.spare.inFlight = b :: l → Leads (.loopPacketCheck rx) s fun t => t.spare.inFlight = l
        ∧ t.rd Reg.GLB_SPARE_XBAR_STATUS_LOOP_ERRORS = (if rx = b then s.rd Reg.GLB_SPARE_XBAR_STATUS_LOOP_ERRORS
          else min (s.rd Reg.GLB_SPARE_XBAR_STATUS_LOOP_ERRORS + 1) (2 ^ Reg.GLB_SPARE_XBAR_STATUS_LOOP_ERRORS.w - 1)))
    ∧ (s.clocks → n < 8 → s.bt.linkUp / 2 ^ n % 2 = 1 → Leads (.hostLinkDown n) s fun t => t.bt.linkUp = s.bt.linkUp - 2 ^ n)
    ∧ (s.pins → n < 8 → s.bt.perst / 2 ^ (n / 2) % 2 = 0 → Leads (.hostLinkUp n cxl) s fun t =>
        t.bt.linkUp / 2 ^ n % 2 = 1 ∧ (t.bt.cxlLinks / 2 ^ n % 2 = 1 ↔ cxl = true) ∧ t.regs = s.regs)

/-- From R418, R419, R424 to R428, R460: the lifetime monitor: timed re-plans, the rail's steps of at most 2.5 mV with their retries, hours, temperature
samples, and records that are programmed with the next SEQ. -/
def Obligations.LifetimeMonitorActs : Prop :=
  ∀ (s : State) (m : Measurement) (tj mv : Nat) (r : List Word) (l : List (List Word)), s.pins →
    let x := s.lch
    (24 ≤ x.hoursSincePlan → s.on Reg.LCH_CTRL_BUSY = false →
      exec (.replanTimer m) s = .next (State.replan { s with lch := { x with hoursSincePlan := 0 } } m))
    ∧ (s.on Reg.LCH_CTRL_BUSY → x.vset ≠ x.vgoal → x.avsOut = false → x.avsRetry = false → x.avsRead = false → Leads .vcoreStep s fun t => ∃ v,
        t.out = s.out ++ [.avsWrite v] ∧ v ≤ x.vset + 25 ∧ x.vset ≤ v + 25 ∧ v ≠ x.vset ∧ (x.vset ≤ v ∧ v ≤ x.vgoal ∨ x.vgoal ≤ v ∧ v ≤ x.vset)
        ∧ t.lch = { x with avsOut := true, avsTries := 1 })
    ∧ (x.avsRetry = true → Leads .avsRetryTimer s fun t => t.out = s.out ++ [.avsWrite x.nextSet] ∧ t.lch.avsOut = true
        ∧ t.lch.avsTries = x.avsTries + 1)
    ∧ (x.avsOut = true → x.nextSet ≠ x.vgoal → Leads (.avsResponse true mv) s fun t => t.lch.vset = x.nextSet ∧ t.lch.avsOut = false
        ∧ t.rd Reg.LCH_VR_STATUS_CONFIRMED_MV = x.nextSet / 10 % 2 ^ Reg.LCH_VR_STATUS_CONFIRMED_MV.w)
    ∧ (x.avsOut = true → x.avsTries < 4 → exec (.avsResponse false mv) s = .next { s with lch := { x with avsOut := false, avsRetry := true } })
    ∧ (s.on Reg.GLB_CLK_STATUS_ROOT_LOCK → Leads .pohHour s fun t => t.lch.hoursSincePlan = x.hoursSincePlan + 1
        ∧ (x.buffer.length < 64 → ∃ h, t.lch.buffer = x.buffer ++ [h] ∧ bits (wordAt h 0) 0 8 = 2)
        ∧ t.lch.hourCount ≤ 1 ∧ t.lch.folded = [] ∧ t.rd Reg.LCH_LIFE_POH = min (s.rd Reg.LCH_LIFE_POH + 1) (2 ^ Reg.LCH_LIFE_POH.w - 1))
    ∧ (s.bt.inReset = false → Leads (.thermalSample tj) s fun t => t.rd Reg.LCH_THERMAL_TJ_NOW = min tj 255 ∧ t.bt.tj = tj
        ∧ t.rd Reg.LCH_THERMAL_TJ_MAX = max (s.rd Reg.LCH_THERMAL_TJ_MAX) (min tj 255))
    ∧ (nextRecord x.folded (decide (64 ≤ x.buffer.length)) x.buffer = some (r, l) → s.firmwareRuns → s.bt.flashOp = none → 0 < x.headSlot →
      x.headSlot < 128 → Memory.wf 0xFF s.flash = true →
      Leads (.logRecordProgram true) s fun t => t.lch.buffer = l
        ∧ t.flashRead (0x800000 + 4096 * s.rd Reg.LCH_LOG_STATUS_HEAD_SECTOR + 32 * x.headSlot) 32 = ofWords (numbered (s.rd Reg.LCH_LOG_STATUS_SEQ) r)
        ∧ t.lch.headSlot = x.headSlot + 1)

/-- From R429 to R438, R456, R462, R465: resets. What a reset of each kind keeps and clears, what holds the device in reset, and what lets it run.
A chip-level reset keeps flash and fuses; all but a power-on reset keep the standby domain, and a warm one keeps straps, LOG_BINS and the debug
state too. A wider reset absorbs a narrower one. A block reset clears its unit, which takes no new work meanwhile, and is not done twice; a function
reset takes the function's record, keys, reads, placements, handlers, walks and translation context. -/
def Obligations.ResetsKeepAndClear : Prop :=
  ∀ (s : State) (lowNs tj rail unit h fn k : Nat) (rails : BitVec 5) (id : Byte) (mode : BitVec 2),
    let kept (t : State) : Prop := t.flash = s.flash ∧ t.bt.fuses = s.bt.fuses ∧ t.pending = s.pending ∧ t.store = [] ∧ t.fg = {} ∧ t.tp = {}
      ∧ t.km = {} ∧ t.bt.inReset = true
    let standby (t : State) : Prop := (∀ a, standbyReg a = true → a ≠ Reg.LCH_CALENDAR_SECONDS.addr 0 0 → mget t.regs a = mget s.regs a)
      ∧ t.rd Reg.LCH_CALENDAR_SECONDS = s.rd Reg.LCH_CALENDAR_SECONDS ∧ t.rd Reg.LCH_CALENDAR_VALID = s.rd Reg.LCH_CALENDAR_VALID
      ∧ t.rd Reg.LCH_CALENDAR_HOLDOVER = 1 ∧ t.lch.buffer = s.lch.buffer ∧ t.lch.skipped = s.lch.skipped ∧ t.lch.declined = s.lch.declined
      ∧ t.lch.dropped = s.lch.dropped ∧ t.ft.notifies = s.ft.notifies ∧ t.bt.lockout = s.bt.lockout ∧ t.bt.jtag = s.bt.jtag
    let recovers (t : State) : Prop := t.bt.inReset = false ∧ t.bt.mode = 2 ∧ t.bt.boardId = id.toNat ∧ t.rd Reg.BOOT_STATUS_STAGE = 15
      ∧ t.rd Reg.BOOT_STATUS_SLOT = 3 ∧ t.rd Reg.GLB_CLK_STATUS_ROOT_LOCK = 1
    let railsOk : Fld := { Reg.GLB_RAIL_STATUS_CORE_OK with w := 5 }
    (Leads .powerOnReset s fun t => kept t ∧ t.regs = [] ∧ t.bt.stbyUp = true ∧ t.bt.kind = 1 ∧ t.bt.mode = 0 ∧ t.bt.lockout = false)
    ∧ (Leads .standbyPowerLoss s fun t => kept t ∧ t.regs = [] ∧ t.bt.stbyUp = false)
    ∧ (s.bt.stbyUp = true → s.bt.isolated = false → s.bt.inReset = false → 1000 ≤ lowNs → Leads (.chipReset lowNs false) s fun t =>
        kept t ∧ standby t ∧ t.bt.kind = 2 ∧ t.bt.resetLow = true ∧ t.bt.mode = 0 ∧ t.rd Reg.MCH_CONFIG_LOG_BINS = 20)
    ∧ (lowNs < 100 → exec (.chipReset lowNs false) s = .next s)
    ∧ (3 ≤ k → s.bootable = true → s.bt.inReset = false → s.clocks → s.warmReset k = (s.wipe k).boot ∧ kept (s.wipe k) ∧ standby (s.wipe k)
        ∧ (s.wipe k).bt.kind = k ∧ (s.wipe k).bt.mode = s.bt.mode ∧ (s.wipe k).bt.boardId = s.bt.boardId
        ∧ (s.wipe k).rd Reg.MCH_CONFIG_LOG_BINS = s.rd Reg.MCH_CONFIG_LOG_BINS
        ∧ (s.wipe k).rd Reg.BOOT_STATUS_DEBUG_OPEN = s.rd Reg.BOOT_STATUS_DEBUG_OPEN)
    ∧ (s.bt.inReset = true → s.bt.kind < k → s.chipReset k = s)
    ∧ (s.bt.stbyUp = true → Leads (.thermalTrip tj) s fun t => t.flash = s.flash ∧ t.bt.thermTrip = true ∧ t.bt.inReset = true
        ∧ Output.thermTrip ∈ t.out ∧ t.rd Reg.GLB_RAIL_STATUS_THERMTRIP_SEEN = 1)
    ∧ (s.bt.stbyUp = true → s.bt.inReset = false → rail < 5 → s.bt.railsUp = 31 → Leads (.railUndervoltage rail lowNs) s fun t =>
        kept t ∧ t.bt.railsUp = 31 - 2 ^ rail ∧ t.rd (subFld Reg.GLB_RAIL_STATUS_CORE_OK rail 1) = 0
        ∧ (2000 < lowNs → t.rd (subFld Reg.GLB_RAIL_STATUS_CORE_UV_SEEN rail 1) = 1))
    ∧ (s.bt.stbyUp = true → s.bt.railsUp < 31 → (s.bt.resetLow = true ∨ s.bt.railsUp ||| rails.toNat ≠ 31) →
        Leads (.railRestored ⟨rails, id⟩ mode tj) s fun t => t.bt.railsUp = s.bt.railsUp ||| rails.toNat
        ∧ t.rd railsOk = s.bt.railsUp ||| rails.toNat ∧ t.out = s.out ∧ t.bt.inReset = s.bt.inReset)
    ∧ (s.bt.stbyUp = true → s.bt.railsUp < 31 → s.bt.resetLow = false → s.bt.railsUp ||| rails.toNat = 31 → mode = 2 → tj < 105 →
        Leads (.railRestored ⟨rails, id⟩ mode tj) s recovers)
    ∧ (s.bt.stbyUp = true → s.bt.isolated = false → s.bt.resetLow = true → s.bt.railsUp = 31 → mode = 2 → tj < 105 →
        Leads (.chipResetNRelease id mode tj) s recovers)
    ∧ (s.bt.stbyUp = true → s.bt.isolated = false → s.bt.resetLow = true → s.bt.railsUp ≠ 31 → Leads (.chipResetNRelease id mode tj) s fun t =>
        t.bt.inReset = s.bt.inReset ∧ t.bt.resetLow = false ∧ t.rd Reg.GLB_RAIL_STATUS_SEQUENCE_SEEN = 1)
    ∧ (s.clocks → s.ft.units.contains unit = true → unit < 72 ∨ 80 ≤ unit ∨ s.firmwareRuns = false → Leads (.blockResetComplete unit) s fun t =>
        t.ft.units = s.ft.units.erase unit ∧ t.rd Reg.BOOT_RESET_CTRL_BUSY = (if s.ft.units.erase unit = [] then 0 else 1))
    ∧ (83 < unit ∨ s.bt.inReset = true ∨ s.ft.units.contains unit = true → s.blockReset unit = s)
    ∧ (∀ c : Nat × Nat, c ∈ [(80, 2), (81, 4), (82, 5), (83, 6)] → s.ft.units.contains c.1 = true → s.admits c.2 = false)
    ∧ (s.bt.inReset = false → s.ft.units.contains unit = false →
      let t := s.blockReset unit
      (unit < 72 → s.portUp unit = true → t.rd Reg.LNK_STATUS_STATE unit = 3 ∧ t.rd Reg.LNK_STATUS_DOWN_CAUSE unit = 5
        ∧ t.rd Reg.LNK_STATUS_DOWN_SEEN unit = 1)
      ∧ (h < 8 → unit = 72 + h → ∃ (u : State) (l : List Reaction), t = { settle u with ft := { (settle u).ft with reactions := l } } ∧ mget u.fg.sram h = some []
        ∧ (∀ w ∈ u.fg.waiting, w.1 ≠ h) ∧ u.rd Reg.TPT_MISS_STATUS_OCCUPANCY h = 0)
      ∧ (unit = 80 → t.rd Reg.RTE_MGMT_JOINED = 0 ∧ t.rd Reg.RTE_MGMT_OWNED = 0 ∧ t.rt.inject = [])
      ∧ (unit = 82 → t.km.entries = [] ∧ t.mt.posted = [] ∧ t.mt.unexp = [] ∧ t.mt.handlers = []
        ∧ (∀ w < 4096, t.rd Reg.LCK_WORD_IDENTITY w = 0 ∧ t.rd Reg.LCK_WORD_HOLDER w = 0xFFF) ∧ ∀ l < 8, t.rd Reg.KEY_CXL_MAP_ENABLE l = 0)
      ∧ (unit = 83 → ∀ n < 2048, t.rd Reg.XLT_CTX_ENABLE n = 0))
    ∧ (s.pins → fn < 2048 → s.bt.inReset = false → s.rd Reg.BOOT_STATUS_STAGE ≠ 15 ∨ fn = 0 →
        Leads (.functionLevelReset fn) s fun t => t = s.functionResets (fun n => n == fn)
          ∧ ((∀ x ∈ s.fg.threads, ∀ a ∈ x.2.pend, a.key = none) → ∃ u : State, t = settle (u.orphan fun x => decide (x < 2048) && x == fn)
          ∧ mget u.tp.funcs fn = none ∧ u.rd Reg.XLT_CTX_ENABLE fn = 0 ∧ (∀ i, (u.key i).fn = fn → (u.key i).kind = 0)
          ∧ (∀ p ∈ u.tp.reads, p.2.fn ≠ fn) ∧ (∀ p ∈ u.tp.placements, p.2.fn ≠ fn) ∧ (∀ p ∈ u.tp.atomics, p.2.fn ≠ fn)
          ∧ (∀ w ∈ u.tp.writes, w.fn ≠ fn) ∧ (∀ p ∈ u.mt.handlers, p.2.fn ≠ fn) ∧ (∀ m ∈ u.mt.unexp, m.fn ≠ fn)
          ∧ (∀ p ∈ u.xl.walks, p.2.ctx ≠ fn) ∧ (∀ a ∈ u.xl.opens, a.fn ≠ fn) ∧ (∀ l ∈ u.xl.leaves, l.ctx ≠ fn) ∧ ∀ l ∈ u.xl.nodes, l.ctx ≠ fn))
    ∧ (s.pins → h < 4 → s.bt.inReset = false → s.bt.linkUp = 0 → exec (.hostPortReset h) s = .next ((State.resetRegs { s with
        bt := { s.bt with perst := s.bt.perst ||| 2 ^ h, aer := mdel (mdel s.bt.aer (2 * h)) (2 * h + 1) } }
          (Reg.KEY_CXL_MAP_ENABLE.addr (2 * h) 0) (Reg.KEY_CXL_MAP_ENABLE.addr (2 * h) 0 + 16)).functionResets fun n => n / 512 == h))
    ∧ (s.pins → h < 4 → s.bt.inReset = false → s.bt.perst / 2 ^ h % 2 = 1 → 4 ≤ s.rd Reg.BOOT_STATUS_STAGE → s.rd Reg.BOOT_STATUS_STAGE < 15 →
        exec (.perstRelease h) s = .next (State.emit { s with bt := { s.bt with perst := s.bt.perst - 2 ^ h } } (.configReady h true)))

/-- From R40, R444, R447, R448, R467, R485, R486: the end of a flash command, JTAG instructions and the debug unlock, the SMBus target, and a sample whose
time is over. While JTAG isolates the core, the pins do nothing, and loading another instruction ends in a warm reset. -/
def Obligations.FlashDebugAndSmbusAct : Prop :=
  ∀ (s : State) (i : JtagInstr) (nonce key sig b : List Byte) (scope : Byte) (tag : Nat) (x : Tag), s.bt.stbyUp = true →
    let a := s.bt.flashAddr
    let ends (op : Nat) (P : State → Prop) : Prop := s.clocks → s.bt.flashOp = some op → Leads (.flashCommandDone true) s fun t =>
      t.bt.flashOp = none ∧ t.rd Reg.BOOT_FLASH_CMD_BUSY = 0 ∧ t.rd Reg.BOOT_FLASH_CMD_STATUS = 0 ∧ P t
    let off := s.bt.smbusOffset
    (s.bt.isolated = false →
    (s.flashGuarded a = false → a % 4096 = 0 → ends 1 fun t => ∀ y, Memory.read 0xFF t.flash y
      = if a / 4096 * 4096 ≤ y ∧ y < a / 4096 * 4096 + 4096 then 0xFF else Memory.read 0xFF s.flash y)
    ∧ (s.clocks → s.bt.flashOp = some 1 → a % 4096 ≠ 0 → Leads (.flashCommandDone true) s fun t =>
        t.flash = s.flash ∧ t.rd Reg.BOOT_FLASH_CMD_STATUS = St.badDescriptor)
    ∧ (s.flashGuarded a = false → a % 8 = 0 → Memory.wf 0xFF s.flash = true → ends 2 fun t =>
        t.flashRead a 8 = leBytes 8 s.bt.flashData ∧ ∀ y, y < a ∨ a + 8 ≤ y → Memory.read 0xFF t.flash y = Memory.read 0xFF s.flash y)
    ∧ (a + 8 ≤ 2 ^ 25 → ends 3 fun t => t.rd Reg.BOOT_FLASH_DATA_DATA = ofLE (s.flashRead a 8) ∧ t.flash = s.flash)
    ∧ (a = 0x1000000 ∨ a = 0x1800000 → ends 4 fun t => t.rd Reg.BOOT_FLASH_CMD_RESULT = s.slotCheck a ∧ t.flash = s.flash)
    ∧ (exec (.jtagInstructionLoad i) s
        = .next { s with bt := { s.bt with jtag := some (s.jtagActs i), isolated := isolates (s.jtagActs i) } })
    ∧ (s.clocks → s.bt.lockout = false → Leads (.dbgChallenge nonce) s fun t => t.bt.nonce = some (slice nonce 0 48)
        ∧ t.out = s.out ++ [.tdo (beBytes 8 s.bt.fuses.serial ++ slice nonce 0 48)])
    ∧ (s.clocks → s.responseOk scope key sig = false → Leads (.dbgResponse scope key sig) s fun t =>
        t.bt.nonce = none ∧ t.bt.lockout = true ∧ t.regs = s.regs)
    ∧ (s.clocks → s.responseOk scope key sig = true → s.bt.inReset = false → Leads (.dbgResponse scope key sig) s fun t =>
        ∃ u : State, t = u.chipReset 5 ∧ u.bt.idKeyOff = true ∧ u.bt.nonce = none
          ∧ u.rd Reg.BOOT_STATUS_DEBUG_OPEN = (s.rd Reg.BOOT_STATUS_DEBUG_OPEN ||| scope.toNat % 8))
    ∧ (s.clocks → exec .dbgLockoutExpiry s = .next { s with bt := { s.bt with lockout := false } })
    ∧ (b.length = 4 → ofLE b % 8 = 0 → exec (.setOffset b true) s = .next { s with bt := { s.bt with smbusOffset := ofLE b } })
    ∧ (off < 0x400000 → s.bt.inReset = false → s.ft.rootLost = false → ∀ u v, s.regRead .smbus off 8 = (u, some v) →
        exec (.read true) s = .next (u.emit (.smbusData (leBytes 8 v.toNat))))
    ∧ (off < 0x400000 → s.bt.inReset = true → standbyReg off = false → exec (.read true) s = .next (s.emit (.smbusData (leBytes 8 (2 ^ 64 - 1)))))
    ∧ (off < 0x400000 → b.length = 8 → exec (.write b true) s = .next (s.regWrite .smbus off 8 (BitVec.ofNat 64 (ofLE b))))
    ∧ (exec (.setOffset b false) s = .next (s.emit .smbusNak) ∧ exec (.read false) s = .next (s.emit .smbusNak)
      ∧ exec (.write b false) s = .next (s.emit .smbusNak))
    ∧ (s.clocks → s.ctr.tags.find? (·.id == tag) = some x → s.sampleRing.2 ≠ 0 → Memory.wf 0 s.store = true → Leads (.sampleHoldExpiry tag) s fun t =>
        let n := s.rd Reg.CTR_SAMPLE_PROD_PROD
        t.ctr.tags = s.ctr.tags.filter (·.id != tag) ∧ t.storeRead (s.sampleRing.1 + 64 * (n % s.sampleRing.2)) 64 = x.record n true))
    ∧ (s.bt.isolated = true → (isolates (s.jtagActs i) = false →
        exec (.jtagInstructionLoad i) s = .next (State.warmReset { s with bt := { s.bt with jtag := some (s.jtagActs i), isolated := false } } 5))
      ∧ exec (.setOffset b true) s = .next s ∧ exec (.read true) s = .next s ∧ exec (.write b true) s = .next s
      ∧ exec (.flashCommandDone true) s = .next s)

/-- From R22, R26, R69, R126, R146, R288, R371, R400, R410, R430: what reset leaves in registers whose reset value the spec gives; no
command waits, the device is held in reset, and every list of the state is in its canonical form.
From R322 to R343: words written out bit by bit from the formats and tables decode to the instructions they stand for. -/
def Obligations.ResetAndWordsOfTheSpec : Prop :=
  (let s := State.reset
  s.memoryWf = true ∧ s.regsWf = true ∧ s.pending = [] ∧ s.bt.inReset = true ∧ s.rd Reg.GLB_REG_TIMEOUT_TIMEOUT_US = 20
  ∧ s.rd Reg.TPT_RETX_BASE_US = 20 ∧ s.rd Reg.TPT_RETX_MAX_RETRIES = 7 ∧ s.rd Reg.MCH_CONFIG_LOG_BINS = 20
  ∧ s.rd Reg.MCH_HANDLER_BUDGET = 20000 ∧ s.rd Reg.MCH_HANDLER_THREADS = 16
  ∧ (∀ n < 8, s.rd Reg.GLB_CROSSING_CTRL_DRAIN_TIMEOUT n = 100 ∧ s.admits n = true)
  ∧ (∀ k < 1024, s.rd Reg.EVT_SRC_CFG_CLASS k = (classOf k).getD 0
    ∧ bits (s.reg (Reg.EVT_SRC_CFG_INT.addr k 0) 0) 0 7 = 0
    ∧ s.rd Reg.EVT_SRC_CFG_FM k = if (0x040 ≤ k ∧ k < 0x088) ∨ k = 0x141 ∨ k = 0x201 then 1 else 0)
  ∧ (∀ w < 4096, s.rd Reg.LCK_WORD_IDENTITY w = 0 ∧ s.rd Reg.LCK_WORD_HOLDER w = 0xFFF)
  ∧ (∀ p < 72, s.portUp p = false ∧ s.rd Reg.LNK_STATUS_STATE p = 0)
  ∧ ∀ n, (s.func n).major = 0 ∧ (s.qp n).isNone = true)
  ∧ (∀ t : Nat,
    let word (w : BitVec 32) (i : Instr) : Prop := decodeWord t w = some i
    -- FN 0 | rb 2 | ra 1 | rd 3 | OP 0x01
    word 0b00000000000000100000100011000001#32 (.add t 3 1 2)
    -- IMM16 -1 | ra 4 | rd 5 | OP 0x04
    ∧ word 0b11111111111111110010000101000100#32 (.addi t 5 4 0xFFFF)
    -- IMM21 0x155555 | rd 31 | OP 0x0B
    ∧ word 0b10101010101010101010111111001011#32 (.lih t 31 0x155555)
    -- IMM16 8 | ra 2 | rd 1 | OP 0x16
    ∧ word 0b00000000000010000001000001010110#32 (.ld t 1 2 8)
    -- IMM16 -8 | ra 2 | rb 7 | OP 0x1B
    ∧ word 0b11111111111110000001000111011011#32 (.sd t 7 2 0xFFF8)
    -- FN6 0b001111 | rc 4 | rb 3 | ra 2 | rd 1 | OP 0x1E
    ∧ word 0b00111100100000110001000001011110#32 (.atomSmax t 1 2 3 4 1)
    -- IMM16 -2 | ra 6 | rb 5 | OP 0x22
    ∧ word 0b11111111111111100011000101100010#32 (.blt t 5 6 0xFFFE)
    -- IMM21 1 | rd 31 | OP 0x26
    ∧ word 0b00000000000000000000111111100110#32 (.jal t 31 1)
    -- FN 3 | rb 0 | ra 0 | rd 9 | OP 0x28
    ∧ word 0b00000000011000000000001001101000#32 (.fenceDevice t 9)
    -- IMM16 0x12 | ra 0 | rd 8 | OP 0x2C
    ∧ word 0b00000000000100100000001000101100#32 (.csrr t 8 0x12)
    -- FN6 1 | rc 13 | rb 12 | ra 11 | rd 10 | OP 0x32
    ∧ word 0b00000101101011000101101010110010#32 (.psend t 10 11 12 13)
    -- FN6 1 | rc 4 | rb 3 | ra 2 | rd 1 | OP 0x34
    ∧ word 0b00000100100000110001000001110100#32 (.place t 1 2 3 4)
    -- FN6 2 | rc 0 | rb 0 | ra 6 | rd 5 | OP 0x36
    ∧ word 0b00001000000000000011000101110110#32 (.cancel t 5 6)
    -- FN 1 | rb 0 | ra 20 | rd 19 | OP 0x38
    ∧ word 0b00000000001000001010010011111000#32 (.lrel t 19 20)
    -- FN 0 | rb 18 | ra 17 | rd 0 | OP 0x3A
    ∧ word 0b00000000000100101000100000111010#32 (.evraise t 17 18)
    -- FN 4 | rb 0 | ra 1 | rd 0 | OP 0x3C
    ∧ word 0b00000000100000000000100000111100#32 (.xret t 1)
    ∧ decodeWord t 0 = none)

/-- From R322 to R324: the words of instructions lose nothing. The word of every well-formed instruction decodes to it, with every operand
at every value, and a word that decodes is the word of the instruction it decodes to, so no two words spell one instruction. -/
def Obligations.InstructionWordsRoundTrip : Prop :=
  (∀ (i : Instr) (w : BitVec 32), Instr.wf i = true → encodeWord i = some w → ∃ t, t < 1024 ∧ decodeWord t w = some i)
  ∧ (∀ (t : Nat) (w : BitVec 32) (i : Instr), decodeWord t w = some i → encodeWord i = some w ∧ (t < 1024 → wordOk i t = true))
  ∧ ∀ (t u : Nat) (w : BitVec 32), (decodeWord t w).isSome = (decodeWord u w).isSome

/-- From R6, R16, R103, R318, R439: the register file lists its addresses in rising order, and the store, the flash and the SRAM of every hive
stand in their canonical form; every command and every step keeps both, and the state after reset has them. -/
def Obligations.StepsKeepTheCanonicalForms : Prop :=
  (State.reset.regsWf = true ∧ State.reset.memoryWf = true)
  ∧ (∀ (i : Instr) (s t : State), s.regsWf = true → s.memoryWf = true → exec i s = .next t → t.regsWf = true ∧ t.memoryWf = true)
  ∧ (∀ s t : State, s.regsWf = true → s.memoryWf = true → step s = .next t → t.regsWf = true ∧ t.memoryWf = true)
end

