-- ==== Sys2Proof/Laws/State.lean ====
section
/-! SUPPORT. One lemma per field per update of the state, true by unfolding: what an update does not touch reads as before. -/

namespace Sys2Proof.Machine

variable (s : State)

@[simp] theorem State.wr_root (f : Fld) (v i j : Nat) : (s.wr f v i j).root = s.root := rfl
@[simp] theorem State.wr_time (f : Fld) (v i j : Nat) : (s.wr f v i j).time = s.time := rfl
@[simp] theorem State.wr_tp (f : Fld) (v i j : Nat) : (s.wr f v i j).tp = s.tp := rfl
@[simp] theorem State.wr_km (f : Fld) (v i j : Nat) : (s.wr f v i j).km = s.km := rfl
@[simp] theorem State.wr_mt (f : Fld) (v i j : Nat) : (s.wr f v i j).mt = s.mt := rfl
@[simp] theorem State.wr_sw (f : Fld) (v i j : Nat) : (s.wr f v i j).sw = s.sw := rfl
@[simp] theorem State.wr_rt (f : Fld) (v i j : Nat) : (s.wr f v i j).rt = s.rt := rfl
@[simp] theorem State.wr_ports (f : Fld) (v i j : Nat) : (s.wr f v i j).ports = s.ports := rfl
@[simp] theorem State.wr_sc (f : Fld) (v i j : Nat) : (s.wr f v i j).sc = s.sc := rfl
@[simp] theorem State.wr_fg (f : Fld) (v i j : Nat) : (s.wr f v i j).fg = s.fg := rfl
@[simp] theorem State.wr_xl (f : Fld) (v i j : Nat) : (s.wr f v i j).xl = s.xl := rfl
@[simp] theorem State.wr_ft (f : Fld) (v i j : Nat) : (s.wr f v i j).ft = s.ft := rfl
@[simp] theorem State.wr_lch (f : Fld) (v i j : Nat) : (s.wr f v i j).lch = s.lch := rfl
@[simp] theorem State.wr_bt (f : Fld) (v i j : Nat) : (s.wr f v i j).bt = s.bt := rfl
@[simp] theorem State.wr_ctr (f : Fld) (v i j : Nat) : (s.wr f v i j).ctr = s.ctr := rfl
@[simp] theorem State.wr_spare (f : Fld) (v i j : Nat) : (s.wr f v i j).spare = s.spare := rfl
@[simp] theorem State.wr_store (f : Fld) (v i j : Nat) : (s.wr f v i j).store = s.store := rfl
@[simp] theorem State.wr_poison (f : Fld) (v i j : Nat) : (s.wr f v i j).poison = s.poison := rfl
@[simp] theorem State.wr_soft (f : Fld) (v i j : Nat) : (s.wr f v i j).soft = s.soft := rfl
@[simp] theorem State.wr_flash (f : Fld) (v i j : Nat) : (s.wr f v i j).flash = s.flash := rfl
@[simp] theorem State.wr_out (f : Fld) (v i j : Nat) : (s.wr f v i j).out = s.out := rfl
@[simp] theorem State.wr_free (f : Fld) (v i j : Nat) : (s.wr f v i j).free = s.free := rfl
@[simp] theorem State.wr_pending (f : Fld) (v i j : Nat) : (s.wr f v i j).pending = s.pending := rfl

@[simp] theorem State.sat_root (f : Fld) (n i j : Nat) : (s.sat f n i j).root = s.root := rfl
@[simp] theorem State.sat_time (f : Fld) (n i j : Nat) : (s.sat f n i j).time = s.time := rfl
@[simp] theorem State.sat_tp (f : Fld) (n i j : Nat) : (s.sat f n i j).tp = s.tp := rfl
@[simp] theorem State.sat_km (f : Fld) (n i j : Nat) : (s.sat f n i j).km = s.km := rfl
@[simp] theorem State.sat_mt (f : Fld) (n i j : Nat) : (s.sat f n i j).mt = s.mt := rfl
@[simp] theorem State.sat_sw (f : Fld) (n i j : Nat) : (s.sat f n i j).sw = s.sw := rfl
@[simp] theorem State.sat_rt (f : Fld) (n i j : Nat) : (s.sat f n i j).rt = s.rt := rfl
@[simp] theorem State.sat_ports (f : Fld) (n i j : Nat) : (s.sat f n i j).ports = s.ports := rfl
@[simp] theorem State.sat_sc (f : Fld) (n i j : Nat) : (s.sat f n i j).sc = s.sc := rfl
@[simp] theorem State.sat_fg (f : Fld) (n i j : Nat) : (s.sat f n i j).fg = s.fg := rfl
@[simp] theorem State.sat_xl (f : Fld) (n i j : Nat) : (s.sat f n i j).xl = s.xl := rfl
@[simp] theorem State.sat_ft (f : Fld) (n i j : Nat) : (s.sat f n i j).ft = s.ft := rfl
@[simp] theorem State.sat_lch (f : Fld) (n i j : Nat) : (s.sat f n i j).lch = s.lch := rfl
@[simp] theorem State.sat_bt (f : Fld) (n i j : Nat) : (s.sat f n i j).bt = s.bt := rfl
@[simp] theorem State.sat_ctr (f : Fld) (n i j : Nat) : (s.sat f n i j).ctr = s.ctr := rfl
@[simp] theorem State.sat_spare (f : Fld) (n i j : Nat) : (s.sat f n i j).spare = s.spare := rfl
@[simp] theorem State.sat_store (f : Fld) (n i j : Nat) : (s.sat f n i j).store = s.store := rfl
@[simp] theorem State.sat_poison (f : Fld) (n i j : Nat) : (s.sat f n i j).poison = s.poison := rfl
@[simp] theorem State.sat_soft (f : Fld) (n i j : Nat) : (s.sat f n i j).soft = s.soft := rfl
@[simp] theorem State.sat_flash (f : Fld) (n i j : Nat) : (s.sat f n i j).flash = s.flash := rfl
@[simp] theorem State.sat_out (f : Fld) (n i j : Nat) : (s.sat f n i j).out = s.out := rfl
@[simp] theorem State.sat_free (f : Fld) (n i j : Nat) : (s.sat f n i j).free = s.free := rfl
@[simp] theorem State.sat_pending (f : Fld) (n i j : Nat) : (s.sat f n i j).pending = s.pending := rfl

@[simp] theorem State.high_root (f : Fld) (v i j : Nat) : (s.high f v i j).root = s.root := rfl
@[simp] theorem State.high_time (f : Fld) (v i j : Nat) : (s.high f v i j).time = s.time := rfl
@[simp] theorem State.high_tp (f : Fld) (v i j : Nat) : (s.high f v i j).tp = s.tp := rfl
@[simp] theorem State.high_km (f : Fld) (v i j : Nat) : (s.high f v i j).km = s.km := rfl
@[simp] theorem State.high_mt (f : Fld) (v i j : Nat) : (s.high f v i j).mt = s.mt := rfl
@[simp] theorem State.high_sw (f : Fld) (v i j : Nat) : (s.high f v i j).sw = s.sw := rfl
@[simp] theorem State.high_rt (f : Fld) (v i j : Nat) : (s.high f v i j).rt = s.rt := rfl
@[simp] theorem State.high_ports (f : Fld) (v i j : Nat) : (s.high f v i j).ports = s.ports := rfl
@[simp] theorem State.high_sc (f : Fld) (v i j : Nat) : (s.high f v i j).sc = s.sc := rfl
@[simp] theorem State.high_fg (f : Fld) (v i j : Nat) : (s.high f v i j).fg = s.fg := rfl
@[simp] theorem State.high_xl (f : Fld) (v i j : Nat) : (s.high f v i j).xl = s.xl := rfl
@[simp] theorem State.high_ft (f : Fld) (v i j : Nat) : (s.high f v i j).ft = s.ft := rfl
@[simp] theorem State.high_lch (f : Fld) (v i j : Nat) : (s.high f v i j).lch = s.lch := rfl
@[simp] theorem State.high_bt (f : Fld) (v i j : Nat) : (s.high f v i j).bt = s.bt := rfl
@[simp] theorem State.high_ctr (f : Fld) (v i j : Nat) : (s.high f v i j).ctr = s.ctr := rfl
@[simp] theorem State.high_spare (f : Fld) (v i j : Nat) : (s.high f v i j).spare = s.spare := rfl
@[simp] theorem State.high_store (f : Fld) (v i j : Nat) : (s.high f v i j).store = s.store := rfl
@[simp] theorem State.high_poison (f : Fld) (v i j : Nat) : (s.high f v i j).poison = s.poison := rfl
@[simp] theorem State.high_soft (f : Fld) (v i j : Nat) : (s.high f v i j).soft = s.soft := rfl
@[simp] theorem State.high_flash (f : Fld) (v i j : Nat) : (s.high f v i j).flash = s.flash := rfl
@[simp] theorem State.high_out (f : Fld) (v i j : Nat) : (s.high f v i j).out = s.out := rfl
@[simp] theorem State.high_free (f : Fld) (v i j : Nat) : (s.high f v i j).free = s.free := rfl
@[simp] theorem State.high_pending (f : Fld) (v i j : Nat) : (s.high f v i j).pending = s.pending := rfl

@[simp] theorem State.resetRegs_root (lo hi : Nat) : (s.resetRegs lo hi).root = s.root := rfl
@[simp] theorem State.resetRegs_time (lo hi : Nat) : (s.resetRegs lo hi).time = s.time := rfl
@[simp] theorem State.resetRegs_tp (lo hi : Nat) : (s.resetRegs lo hi).tp = s.tp := rfl
@[simp] theorem State.resetRegs_km (lo hi : Nat) : (s.resetRegs lo hi).km = s.km := rfl
@[simp] theorem State.resetRegs_mt (lo hi : Nat) : (s.resetRegs lo hi).mt = s.mt := rfl
@[simp] theorem State.resetRegs_sw (lo hi : Nat) : (s.resetRegs lo hi).sw = s.sw := rfl
@[simp] theorem State.resetRegs_rt (lo hi : Nat) : (s.resetRegs lo hi).rt = s.rt := rfl
@[simp] theorem State.resetRegs_ports (lo hi : Nat) : (s.resetRegs lo hi).ports = s.ports := rfl
@[simp] theorem State.resetRegs_sc (lo hi : Nat) : (s.resetRegs lo hi).sc = s.sc := rfl
@[simp] theorem State.resetRegs_fg (lo hi : Nat) : (s.resetRegs lo hi).fg = s.fg := rfl
@[simp] theorem State.resetRegs_xl (lo hi : Nat) : (s.resetRegs lo hi).xl = s.xl := rfl
@[simp] theorem State.resetRegs_ft (lo hi : Nat) : (s.resetRegs lo hi).ft = s.ft := rfl
@[simp] theorem State.resetRegs_lch (lo hi : Nat) : (s.resetRegs lo hi).lch = s.lch := rfl
@[simp] theorem State.resetRegs_bt (lo hi : Nat) : (s.resetRegs lo hi).bt = s.bt := rfl
@[simp] theorem State.resetRegs_ctr (lo hi : Nat) : (s.resetRegs lo hi).ctr = s.ctr := rfl
@[simp] theorem State.resetRegs_spare (lo hi : Nat) : (s.resetRegs lo hi).spare = s.spare := rfl
@[simp] theorem State.resetRegs_store (lo hi : Nat) : (s.resetRegs lo hi).store = s.store := rfl
@[simp] theorem State.resetRegs_poison (lo hi : Nat) : (s.resetRegs lo hi).poison = s.poison := rfl
@[simp] theorem State.resetRegs_soft (lo hi : Nat) : (s.resetRegs lo hi).soft = s.soft := rfl
@[simp] theorem State.resetRegs_flash (lo hi : Nat) : (s.resetRegs lo hi).flash = s.flash := rfl
@[simp] theorem State.resetRegs_out (lo hi : Nat) : (s.resetRegs lo hi).out = s.out := rfl
@[simp] theorem State.resetRegs_free (lo hi : Nat) : (s.resetRegs lo hi).free = s.free := rfl
@[simp] theorem State.resetRegs_pending (lo hi : Nat) : (s.resetRegs lo hi).pending = s.pending := rfl

@[simp] theorem State.emit_regs (o : Output) : (s.emit o).regs = s.regs := by unfold State.emit; split <;> rfl
@[simp] theorem State.emit_root (o : Output) : (s.emit o).root = s.root := by unfold State.emit; split <;> rfl
@[simp] theorem State.emit_time (o : Output) : (s.emit o).time = s.time := by unfold State.emit; split <;> rfl
@[simp] theorem State.emit_tp (o : Output) : (s.emit o).tp = s.tp := by unfold State.emit; split <;> rfl
@[simp] theorem State.emit_km (o : Output) : (s.emit o).km = s.km := by unfold State.emit; split <;> rfl
@[simp] theorem State.emit_mt (o : Output) : (s.emit o).mt = s.mt := by unfold State.emit; split <;> rfl
@[simp] theorem State.emit_sw (o : Output) : (s.emit o).sw = s.sw := by unfold State.emit; split <;> rfl
@[simp] theorem State.emit_rt (o : Output) : (s.emit o).rt = s.rt := by unfold State.emit; split <;> rfl
@[simp] theorem State.emit_ports (o : Output) : (s.emit o).ports = s.ports := by unfold State.emit; split <;> rfl
@[simp] theorem State.emit_sc (o : Output) : (s.emit o).sc = s.sc := by unfold State.emit; split <;> rfl
@[simp] theorem State.emit_fg (o : Output) : (s.emit o).fg = s.fg := by unfold State.emit; split <;> rfl
@[simp] theorem State.emit_xl (o : Output) : (s.emit o).xl = s.xl := by unfold State.emit; split <;> rfl
@[simp] theorem State.emit_ft (o : Output) : (s.emit o).ft = s.ft := by unfold State.emit; split <;> rfl
@[simp] theorem State.emit_lch (o : Output) : (s.emit o).lch = s.lch := by unfold State.emit; split <;> rfl
@[simp] theorem State.emit_bt (o : Output) : (s.emit o).bt = s.bt := by unfold State.emit; split <;> rfl
@[simp] theorem State.emit_ctr (o : Output) : (s.emit o).ctr = s.ctr := by unfold State.emit; split <;> rfl
@[simp] theorem State.emit_spare (o : Output) : (s.emit o).spare = s.spare := by unfold State.emit; split <;> rfl
@[simp] theorem State.emit_store (o : Output) : (s.emit o).store = s.store := by unfold State.emit; split <;> rfl
@[simp] theorem State.emit_poison (o : Output) : (s.emit o).poison = s.poison := by unfold State.emit; split <;> rfl
@[simp] theorem State.emit_soft (o : Output) : (s.emit o).soft = s.soft := by unfold State.emit; split <;> rfl
@[simp] theorem State.emit_flash (o : Output) : (s.emit o).flash = s.flash := by unfold State.emit; split <;> rfl
@[simp] theorem State.emit_free (o : Output) : (s.emit o).free = s.free := by unfold State.emit; split <;> rfl
@[simp] theorem State.emit_pending (o : Output) : (s.emit o).pending = s.pending := by unfold State.emit; split <;> rfl

@[simp] theorem State.takeFree_regs : (s.takeFree).regs = s.regs := rfl
@[simp] theorem State.takeFree_root : (s.takeFree).root = s.root := rfl
@[simp] theorem State.takeFree_time : (s.takeFree).time = s.time := rfl
@[simp] theorem State.takeFree_tp : (s.takeFree).tp = s.tp := rfl
@[simp] theorem State.takeFree_km : (s.takeFree).km = s.km := rfl
@[simp] theorem State.takeFree_mt : (s.takeFree).mt = s.mt := rfl
@[simp] theorem State.takeFree_sw : (s.takeFree).sw = s.sw := rfl
@[simp] theorem State.takeFree_rt : (s.takeFree).rt = s.rt := rfl
@[simp] theorem State.takeFree_ports : (s.takeFree).ports = s.ports := rfl
@[simp] theorem State.takeFree_sc : (s.takeFree).sc = s.sc := rfl
@[simp] theorem State.takeFree_fg : (s.takeFree).fg = s.fg := rfl
@[simp] theorem State.takeFree_xl : (s.takeFree).xl = s.xl := rfl
@[simp] theorem State.takeFree_ft : (s.takeFree).ft = s.ft := rfl
@[simp] theorem State.takeFree_lch : (s.takeFree).lch = s.lch := rfl
@[simp] theorem State.takeFree_bt : (s.takeFree).bt = s.bt := rfl
@[simp] theorem State.takeFree_ctr : (s.takeFree).ctr = s.ctr := rfl
@[simp] theorem State.takeFree_spare : (s.takeFree).spare = s.spare := rfl
@[simp] theorem State.takeFree_store : (s.takeFree).store = s.store := rfl
@[simp] theorem State.takeFree_poison : (s.takeFree).poison = s.poison := rfl
@[simp] theorem State.takeFree_soft : (s.takeFree).soft = s.soft := rfl
@[simp] theorem State.takeFree_flash : (s.takeFree).flash = s.flash := rfl
@[simp] theorem State.takeFree_out : (s.takeFree).out = s.out := rfl
@[simp] theorem State.takeFree_pending : (s.takeFree).pending = s.pending := rfl

@[simp] theorem State.storeWrite_regs (a : Nat) (l : List Byte) : (s.storeWrite a l).regs = s.regs := rfl
@[simp] theorem State.storeWrite_root (a : Nat) (l : List Byte) : (s.storeWrite a l).root = s.root := rfl
@[simp] theorem State.storeWrite_time (a : Nat) (l : List Byte) : (s.storeWrite a l).time = s.time := rfl
@[simp] theorem State.storeWrite_tp (a : Nat) (l : List Byte) : (s.storeWrite a l).tp = s.tp := rfl
@[simp] theorem State.storeWrite_km (a : Nat) (l : List Byte) : (s.storeWrite a l).km = s.km := rfl
@[simp] theorem State.storeWrite_mt (a : Nat) (l : List Byte) : (s.storeWrite a l).mt = s.mt := rfl
@[simp] theorem State.storeWrite_sw (a : Nat) (l : List Byte) : (s.storeWrite a l).sw = s.sw := rfl
@[simp] theorem State.storeWrite_rt (a : Nat) (l : List Byte) : (s.storeWrite a l).rt = s.rt := rfl
@[simp] theorem State.storeWrite_ports (a : Nat) (l : List Byte) : (s.storeWrite a l).ports = s.ports := rfl
@[simp] theorem State.storeWrite_sc (a : Nat) (l : List Byte) : (s.storeWrite a l).sc = s.sc := rfl
@[simp] theorem State.storeWrite_fg (a : Nat) (l : List Byte) : (s.storeWrite a l).fg = s.fg := rfl
@[simp] theorem State.storeWrite_xl (a : Nat) (l : List Byte) : (s.storeWrite a l).xl = s.xl := rfl
@[simp] theorem State.storeWrite_ft (a : Nat) (l : List Byte) : (s.storeWrite a l).ft = s.ft := rfl
@[simp] theorem State.storeWrite_lch (a : Nat) (l : List Byte) : (s.storeWrite a l).lch = s.lch := rfl
@[simp] theorem State.storeWrite_bt (a : Nat) (l : List Byte) : (s.storeWrite a l).bt = s.bt := rfl
@[simp] theorem State.storeWrite_ctr (a : Nat) (l : List Byte) : (s.storeWrite a l).ctr = s.ctr := rfl
@[simp] theorem State.storeWrite_spare (a : Nat) (l : List Byte) : (s.storeWrite a l).spare = s.spare := rfl
@[simp] theorem State.storeWrite_poison (a : Nat) (l : List Byte) : (s.storeWrite a l).poison = s.poison := rfl
@[simp] theorem State.storeWrite_soft (a : Nat) (l : List Byte) : (s.storeWrite a l).soft = s.soft := rfl
@[simp] theorem State.storeWrite_flash (a : Nat) (l : List Byte) : (s.storeWrite a l).flash = s.flash := rfl
@[simp] theorem State.storeWrite_out (a : Nat) (l : List Byte) : (s.storeWrite a l).out = s.out := rfl
@[simp] theorem State.storeWrite_free (a : Nat) (l : List Byte) : (s.storeWrite a l).free = s.free := rfl
@[simp] theorem State.storeWrite_pending (a : Nat) (l : List Byte) : (s.storeWrite a l).pending = s.pending := rfl

@[simp] theorem State.clearPoison_regs (a n : Nat) : (s.clearPoison a n).regs = s.regs := rfl
@[simp] theorem State.clearPoison_root (a n : Nat) : (s.clearPoison a n).root = s.root := rfl
@[simp] theorem State.clearPoison_time (a n : Nat) : (s.clearPoison a n).time = s.time := rfl
@[simp] theorem State.clearPoison_tp (a n : Nat) : (s.clearPoison a n).tp = s.tp := rfl
@[simp] theorem State.clearPoison_km (a n : Nat) : (s.clearPoison a n).km = s.km := rfl
@[simp] theorem State.clearPoison_mt (a n : Nat) : (s.clearPoison a n).mt = s.mt := rfl
@[simp] theorem State.clearPoison_sw (a n : Nat) : (s.clearPoison a n).sw = s.sw := rfl
@[simp] theorem State.clearPoison_rt (a n : Nat) : (s.clearPoison a n).rt = s.rt := rfl
@[simp] theorem State.clearPoison_ports (a n : Nat) : (s.clearPoison a n).ports = s.ports := rfl
@[simp] theorem State.clearPoison_sc (a n : Nat) : (s.clearPoison a n).sc = s.sc := rfl
@[simp] theorem State.clearPoison_fg (a n : Nat) : (s.clearPoison a n).fg = s.fg := rfl
@[simp] theorem State.clearPoison_xl (a n : Nat) : (s.clearPoison a n).xl = s.xl := rfl
@[simp] theorem State.clearPoison_ft (a n : Nat) : (s.clearPoison a n).ft = s.ft := rfl
@[simp] theorem State.clearPoison_lch (a n : Nat) : (s.clearPoison a n).lch = s.lch := rfl
@[simp] theorem State.clearPoison_bt (a n : Nat) : (s.clearPoison a n).bt = s.bt := rfl
@[simp] theorem State.clearPoison_ctr (a n : Nat) : (s.clearPoison a n).ctr = s.ctr := rfl
@[simp] theorem State.clearPoison_spare (a n : Nat) : (s.clearPoison a n).spare = s.spare := rfl
@[simp] theorem State.clearPoison_store (a n : Nat) : (s.clearPoison a n).store = s.store := rfl
@[simp] theorem State.clearPoison_flash (a n : Nat) : (s.clearPoison a n).flash = s.flash := rfl
@[simp] theorem State.clearPoison_out (a n : Nat) : (s.clearPoison a n).out = s.out := rfl
@[simp] theorem State.clearPoison_free (a n : Nat) : (s.clearPoison a n).free = s.free := rfl
@[simp] theorem State.clearPoison_pending (a n : Nat) : (s.clearPoison a n).pending = s.pending := rfl

@[simp] theorem State.sramWrite_regs (h a : Nat) (l : List Byte) : (s.sramWrite h a l).regs = s.regs := rfl
@[simp] theorem State.sramWrite_root (h a : Nat) (l : List Byte) : (s.sramWrite h a l).root = s.root := rfl
@[simp] theorem State.sramWrite_time (h a : Nat) (l : List Byte) : (s.sramWrite h a l).time = s.time := rfl
@[simp] theorem State.sramWrite_tp (h a : Nat) (l : List Byte) : (s.sramWrite h a l).tp = s.tp := rfl
@[simp] theorem State.sramWrite_km (h a : Nat) (l : List Byte) : (s.sramWrite h a l).km = s.km := rfl
@[simp] theorem State.sramWrite_mt (h a : Nat) (l : List Byte) : (s.sramWrite h a l).mt = s.mt := rfl
@[simp] theorem State.sramWrite_sw (h a : Nat) (l : List Byte) : (s.sramWrite h a l).sw = s.sw := rfl
@[simp] theorem State.sramWrite_rt (h a : Nat) (l : List Byte) : (s.sramWrite h a l).rt = s.rt := rfl
@[simp] theorem State.sramWrite_ports (h a : Nat) (l : List Byte) : (s.sramWrite h a l).ports = s.ports := rfl
@[simp] theorem State.sramWrite_sc (h a : Nat) (l : List Byte) : (s.sramWrite h a l).sc = s.sc := rfl
@[simp] theorem State.sramWrite_xl (h a : Nat) (l : List Byte) : (s.sramWrite h a l).xl = s.xl := rfl
@[simp] theorem State.sramWrite_ft (h a : Nat) (l : List Byte) : (s.sramWrite h a l).ft = s.ft := rfl
@[simp] theorem State.sramWrite_lch (h a : Nat) (l : List Byte) : (s.sramWrite h a l).lch = s.lch := rfl
@[simp] theorem State.sramWrite_bt (h a : Nat) (l : List Byte) : (s.sramWrite h a l).bt = s.bt := rfl
@[simp] theorem State.sramWrite_ctr (h a : Nat) (l : List Byte) : (s.sramWrite h a l).ctr = s.ctr := rfl
@[simp] theorem State.sramWrite_spare (h a : Nat) (l : List Byte) : (s.sramWrite h a l).spare = s.spare := rfl
@[simp] theorem State.sramWrite_store (h a : Nat) (l : List Byte) : (s.sramWrite h a l).store = s.store := rfl
@[simp] theorem State.sramWrite_poison (h a : Nat) (l : List Byte) : (s.sramWrite h a l).poison = s.poison := rfl
@[simp] theorem State.sramWrite_flash (h a : Nat) (l : List Byte) : (s.sramWrite h a l).flash = s.flash := rfl
@[simp] theorem State.sramWrite_out (h a : Nat) (l : List Byte) : (s.sramWrite h a l).out = s.out := rfl
@[simp] theorem State.sramWrite_free (h a : Nat) (l : List Byte) : (s.sramWrite h a l).free = s.free := rfl
@[simp] theorem State.sramWrite_pending (h a : Nat) (l : List Byte) : (s.sramWrite h a l).pending = s.pending := rfl

@[simp] theorem State.setPort_regs (p : Nat) (x : Port) : (s.setPort p x).regs = s.regs := rfl
@[simp] theorem State.setPort_root (p : Nat) (x : Port) : (s.setPort p x).root = s.root := rfl
@[simp] theorem State.setPort_time (p : Nat) (x : Port) : (s.setPort p x).time = s.time := rfl
@[simp] theorem State.setPort_tp (p : Nat) (x : Port) : (s.setPort p x).tp = s.tp := rfl
@[simp] theorem State.setPort_km (p : Nat) (x : Port) : (s.setPort p x).km = s.km := rfl
@[simp] theorem State.setPort_mt (p : Nat) (x : Port) : (s.setPort p x).mt = s.mt := rfl
@[simp] theorem State.setPort_sw (p : Nat) (x : Port) : (s.setPort p x).sw = s.sw := rfl
@[simp] theorem State.setPort_rt (p : Nat) (x : Port) : (s.setPort p x).rt = s.rt := rfl
@[simp] theorem State.setPort_sc (p : Nat) (x : Port) : (s.setPort p x).sc = s.sc := rfl
@[simp] theorem State.setPort_fg (p : Nat) (x : Port) : (s.setPort p x).fg = s.fg := rfl
@[simp] theorem State.setPort_xl (p : Nat) (x : Port) : (s.setPort p x).xl = s.xl := rfl
@[simp] theorem State.setPort_ft (p : Nat) (x : Port) : (s.setPort p x).ft = s.ft := rfl
@[simp] theorem State.setPort_lch (p : Nat) (x : Port) : (s.setPort p x).lch = s.lch := rfl
@[simp] theorem State.setPort_bt (p : Nat) (x : Port) : (s.setPort p x).bt = s.bt := rfl
@[simp] theorem State.setPort_ctr (p : Nat) (x : Port) : (s.setPort p x).ctr = s.ctr := rfl
@[simp] theorem State.setPort_spare (p : Nat) (x : Port) : (s.setPort p x).spare = s.spare := rfl
@[simp] theorem State.setPort_store (p : Nat) (x : Port) : (s.setPort p x).store = s.store := rfl
@[simp] theorem State.setPort_poison (p : Nat) (x : Port) : (s.setPort p x).poison = s.poison := rfl
@[simp] theorem State.setPort_soft (p : Nat) (x : Port) : (s.setPort p x).soft = s.soft := rfl
@[simp] theorem State.setPort_flash (p : Nat) (x : Port) : (s.setPort p x).flash = s.flash := rfl
@[simp] theorem State.setPort_out (p : Nat) (x : Port) : (s.setPort p x).out = s.out := rfl
@[simp] theorem State.setPort_free (p : Nat) (x : Port) : (s.setPort p x).free = s.free := rfl
@[simp] theorem State.setPort_pending (p : Nat) (x : Port) : (s.setPort p x).pending = s.pending := rfl

@[simp] theorem State.setThread_regs (t : Nat) (x : Thread) : (s.setThread t x).regs = s.regs := rfl
@[simp] theorem State.setThread_root (t : Nat) (x : Thread) : (s.setThread t x).root = s.root := rfl
@[simp] theorem State.setThread_time (t : Nat) (x : Thread) : (s.setThread t x).time = s.time := rfl
@[simp] theorem State.setThread_tp (t : Nat) (x : Thread) : (s.setThread t x).tp = s.tp := rfl
@[simp] theorem State.setThread_km (t : Nat) (x : Thread) : (s.setThread t x).km = s.km := rfl
@[simp] theorem State.setThread_mt (t : Nat) (x : Thread) : (s.setThread t x).mt = s.mt := rfl
@[simp] theorem State.setThread_sw (t : Nat) (x : Thread) : (s.setThread t x).sw = s.sw := rfl
@[simp] theorem State.setThread_rt (t : Nat) (x : Thread) : (s.setThread t x).rt = s.rt := rfl
@[simp] theorem State.setThread_ports (t : Nat) (x : Thread) : (s.setThread t x).ports = s.ports := rfl
@[simp] theorem State.setThread_sc (t : Nat) (x : Thread) : (s.setThread t x).sc = s.sc := rfl
@[simp] theorem State.setThread_xl (t : Nat) (x : Thread) : (s.setThread t x).xl = s.xl := rfl
@[simp] theorem State.setThread_ft (t : Nat) (x : Thread) : (s.setThread t x).ft = s.ft := rfl
@[simp] theorem State.setThread_lch (t : Nat) (x : Thread) : (s.setThread t x).lch = s.lch := rfl
@[simp] theorem State.setThread_bt (t : Nat) (x : Thread) : (s.setThread t x).bt = s.bt := rfl
@[simp] theorem State.setThread_ctr (t : Nat) (x : Thread) : (s.setThread t x).ctr = s.ctr := rfl
@[simp] theorem State.setThread_spare (t : Nat) (x : Thread) : (s.setThread t x).spare = s.spare := rfl
@[simp] theorem State.setThread_store (t : Nat) (x : Thread) : (s.setThread t x).store = s.store := rfl
@[simp] theorem State.setThread_poison (t : Nat) (x : Thread) : (s.setThread t x).poison = s.poison := rfl
@[simp] theorem State.setThread_soft (t : Nat) (x : Thread) : (s.setThread t x).soft = s.soft := rfl
@[simp] theorem State.setThread_flash (t : Nat) (x : Thread) : (s.setThread t x).flash = s.flash := rfl
@[simp] theorem State.setThread_out (t : Nat) (x : Thread) : (s.setThread t x).out = s.out := rfl
@[simp] theorem State.setThread_free (t : Nat) (x : Thread) : (s.setThread t x).free = s.free := rfl
@[simp] theorem State.setThread_pending (t : Nat) (x : Thread) : (s.setThread t x).pending = s.pending := rfl

@[simp] theorem State.setFunc_regs (fn : Nat) (x : Func) : (s.setFunc fn x).regs = s.regs := rfl
@[simp] theorem State.setFunc_root (fn : Nat) (x : Func) : (s.setFunc fn x).root = s.root := rfl
@[simp] theorem State.setFunc_time (fn : Nat) (x : Func) : (s.setFunc fn x).time = s.time := rfl
@[simp] theorem State.setFunc_km (fn : Nat) (x : Func) : (s.setFunc fn x).km = s.km := rfl
@[simp] theorem State.setFunc_mt (fn : Nat) (x : Func) : (s.setFunc fn x).mt = s.mt := rfl
@[simp] theorem State.setFunc_sw (fn : Nat) (x : Func) : (s.setFunc fn x).sw = s.sw := rfl
@[simp] theorem State.setFunc_rt (fn : Nat) (x : Func) : (s.setFunc fn x).rt = s.rt := rfl
@[simp] theorem State.setFunc_ports (fn : Nat) (x : Func) : (s.setFunc fn x).ports = s.ports := rfl
@[simp] theorem State.setFunc_sc (fn : Nat) (x : Func) : (s.setFunc fn x).sc = s.sc := rfl
@[simp] theorem State.setFunc_fg (fn : Nat) (x : Func) : (s.setFunc fn x).fg = s.fg := rfl
@[simp] theorem State.setFunc_xl (fn : Nat) (x : Func) : (s.setFunc fn x).xl = s.xl := rfl
@[simp] theorem State.setFunc_ft (fn : Nat) (x : Func) : (s.setFunc fn x).ft = s.ft := rfl
@[simp] theorem State.setFunc_lch (fn : Nat) (x : Func) : (s.setFunc fn x).lch = s.lch := rfl
@[simp] theorem State.setFunc_bt (fn : Nat) (x : Func) : (s.setFunc fn x).bt = s.bt := rfl
@[simp] theorem State.setFunc_ctr (fn : Nat) (x : Func) : (s.setFunc fn x).ctr = s.ctr := rfl
@[simp] theorem State.setFunc_spare (fn : Nat) (x : Func) : (s.setFunc fn x).spare = s.spare := rfl
@[simp] theorem State.setFunc_store (fn : Nat) (x : Func) : (s.setFunc fn x).store = s.store := rfl
@[simp] theorem State.setFunc_poison (fn : Nat) (x : Func) : (s.setFunc fn x).poison = s.poison := rfl
@[simp] theorem State.setFunc_soft (fn : Nat) (x : Func) : (s.setFunc fn x).soft = s.soft := rfl
@[simp] theorem State.setFunc_flash (fn : Nat) (x : Func) : (s.setFunc fn x).flash = s.flash := rfl
@[simp] theorem State.setFunc_out (fn : Nat) (x : Func) : (s.setFunc fn x).out = s.out := rfl
@[simp] theorem State.setFunc_free (fn : Nat) (x : Func) : (s.setFunc fn x).free = s.free := rfl
@[simp] theorem State.setFunc_pending (fn : Nat) (x : Func) : (s.setFunc fn x).pending = s.pending := rfl

@[simp] theorem State.setQp_regs (q : Nat) (x : Qp) : (s.setQp q x).regs = s.regs := rfl
@[simp] theorem State.setQp_root (q : Nat) (x : Qp) : (s.setQp q x).root = s.root := rfl
@[simp] theorem State.setQp_time (q : Nat) (x : Qp) : (s.setQp q x).time = s.time := rfl
@[simp] theorem State.setQp_km (q : Nat) (x : Qp) : (s.setQp q x).km = s.km := rfl
@[simp] theorem State.setQp_mt (q : Nat) (x : Qp) : (s.setQp q x).mt = s.mt := rfl
@[simp] theorem State.setQp_sw (q : Nat) (x : Qp) : (s.setQp q x).sw = s.sw := rfl
@[simp] theorem State.setQp_rt (q : Nat) (x : Qp) : (s.setQp q x).rt = s.rt := rfl
@[simp] theorem State.setQp_ports (q : Nat) (x : Qp) : (s.setQp q x).ports = s.ports := rfl
@[simp] theorem State.setQp_sc (q : Nat) (x : Qp) : (s.setQp q x).sc = s.sc := rfl
@[simp] theorem State.setQp_fg (q : Nat) (x : Qp) : (s.setQp q x).fg = s.fg := rfl
@[simp] theorem State.setQp_xl (q : Nat) (x : Qp) : (s.setQp q x).xl = s.xl := rfl
@[simp] theorem State.setQp_ft (q : Nat) (x : Qp) : (s.setQp q x).ft = s.ft := rfl
@[simp] theorem State.setQp_lch (q : Nat) (x : Qp) : (s.setQp q x).lch = s.lch := rfl
@[simp] theorem State.setQp_bt (q : Nat) (x : Qp) : (s.setQp q x).bt = s.bt := rfl
@[simp] theorem State.setQp_ctr (q : Nat) (x : Qp) : (s.setQp q x).ctr = s.ctr := rfl
@[simp] theorem State.setQp_spare (q : Nat) (x : Qp) : (s.setQp q x).spare = s.spare := rfl
@[simp] theorem State.setQp_store (q : Nat) (x : Qp) : (s.setQp q x).store = s.store := rfl
@[simp] theorem State.setQp_poison (q : Nat) (x : Qp) : (s.setQp q x).poison = s.poison := rfl
@[simp] theorem State.setQp_soft (q : Nat) (x : Qp) : (s.setQp q x).soft = s.soft := rfl
@[simp] theorem State.setQp_flash (q : Nat) (x : Qp) : (s.setQp q x).flash = s.flash := rfl
@[simp] theorem State.setQp_out (q : Nat) (x : Qp) : (s.setQp q x).out = s.out := rfl
@[simp] theorem State.setQp_free (q : Nat) (x : Qp) : (s.setQp q x).free = s.free := rfl
@[simp] theorem State.setQp_pending (q : Nat) (x : Qp) : (s.setQp q x).pending = s.pending := rfl

@[simp] theorem State.newId_regs : (s.newId).regs = s.regs := rfl
@[simp] theorem State.newId_root : (s.newId).root = s.root := rfl
@[simp] theorem State.newId_time : (s.newId).time = s.time := rfl
@[simp] theorem State.newId_km : (s.newId).km = s.km := rfl
@[simp] theorem State.newId_mt : (s.newId).mt = s.mt := rfl
@[simp] theorem State.newId_sw : (s.newId).sw = s.sw := rfl
@[simp] theorem State.newId_rt : (s.newId).rt = s.rt := rfl
@[simp] theorem State.newId_ports : (s.newId).ports = s.ports := rfl
@[simp] theorem State.newId_sc : (s.newId).sc = s.sc := rfl
@[simp] theorem State.newId_fg : (s.newId).fg = s.fg := rfl
@[simp] theorem State.newId_xl : (s.newId).xl = s.xl := rfl
@[simp] theorem State.newId_ft : (s.newId).ft = s.ft := rfl
@[simp] theorem State.newId_lch : (s.newId).lch = s.lch := rfl
@[simp] theorem State.newId_bt : (s.newId).bt = s.bt := rfl
@[simp] theorem State.newId_ctr : (s.newId).ctr = s.ctr := rfl
@[simp] theorem State.newId_spare : (s.newId).spare = s.spare := rfl
@[simp] theorem State.newId_store : (s.newId).store = s.store := rfl
@[simp] theorem State.newId_poison : (s.newId).poison = s.poison := rfl
@[simp] theorem State.newId_soft : (s.newId).soft = s.soft := rfl
@[simp] theorem State.newId_flash : (s.newId).flash = s.flash := rfl
@[simp] theorem State.newId_out : (s.newId).out = s.out := rfl
@[simp] theorem State.newId_free : (s.newId).free = s.free := rfl
@[simp] theorem State.newId_pending : (s.newId).pending = s.pending := rfl

/-- While the derived clocks run a clocked meaning is the meaning itself (R33). -/
theorem State.clocked_runs (h : s.ft.rootLost = false) (o : Host.Outcome State Fault Refusal) : s.clocked o = o := by
  simp [State.clocked, h]

/-- While the derived clocks run and the core is not isolated, a meaning at a pin is the meaning itself (R31, R33). -/
theorem State.atPins_runs (h : s.ft.rootLost = false) (g : s.bt.isolated = false) (o : Host.Outcome State Fault Refusal) : s.atPins o = o := by
  simp [State.atPins, h, g]

end Sys2Proof.Machine
end

