-- ==== Sys2Proof/Laws/Maps.lean ====
section
/-! SUPPORT. Maps, parts of the state by number, and byte strings: what a read gives after a write. -/

namespace Sys2Proof.Machine

/-! ### Maps -/

@[simp] theorem mget_nil {β : Type} (a : Nat) : mget ([] : Map β) a = none := rfl

@[simp] theorem mget_mset_same {β : Type} (m : Map β) (a : Nat) (v : β) : mget (mset m a v) a = some v := by
  induction m with
  | nil => simp [mset, mget]
  | cons p m ih =>
    obtain ⟨k, w⟩ := p
    simp only [mset]
    split
    · simp [mget]
    · split
      · simp [mget]
      · next h => simp [mget, h, ih]

theorem mget_mset_other {β : Type} (m : Map β) (a b : Nat) (v : β) (h : b ≠ a) : mget (mset m a v) b = mget m b := by
  induction m with
  | nil => simp [mset, mget, Ne.symm h]
  | cons p m ih =>
    obtain ⟨k, w⟩ := p
    simp only [mset]
    split
    · simp [mget, Ne.symm h]
    · split
      · next hk => subst hk; simp [mget, Ne.symm h]
      · simp only [mget, ih]

theorem mget_mset {β : Type} (m : Map β) (a b : Nat) (v : β) : mget (mset m a v) b = if b = a then some v else mget m b := by
  split
  · next h => subst h; exact mget_mset_same m b v
  · next h => exact mget_mset_other m a b v h

@[simp] theorem mgetD_mset_same {β : Type} (m : Map β) (a : Nat) (v d : β) : mgetD (mset m a v) a d = v := by
  simp [mgetD]

theorem mgetD_mset_other {β : Type} (m : Map β) (a b : Nat) (v d : β) (h : b ≠ a) : mgetD (mset m a v) b d = mgetD m b d := by
  simp [mgetD, mget_mset_other m a b v h]

/-- Setting a key twice keeps the second value. -/
@[simp] theorem mset_mset_same {β : Type} (m : Map β) (a : Nat) (v w : β) : mset (mset m a v) a w = mset m a w := by
  induction m with
  | nil => simp [mset]
  | cons p m ih =>
    obtain ⟨k, u⟩ := p
    by_cases h : a < k
    · simp [mset, h]
    · by_cases h2 : k = a
      · subst h2; simp [mset]
      · simp [mset, h, h2, ih]

theorem mset_keys_above {β : Type} (m : Map β) (a b : Nat) (v : β) (h : ∀ p ∈ m, b < p.1) (ha : b < a) :
    ∀ p ∈ mset m a v, b < p.1 := by
  induction m with
  | nil => simp [mset, ha]
  | cons q m ih =>
    obtain ⟨k, w⟩ := q
    have hk : b < k := h (k, w) (by simp)
    have ht : ∀ p ∈ m, b < p.1 := fun p hp => h p (by simp [hp])
    simp only [mset]
    split
    · intro p hp
      simp only [List.mem_cons] at hp
      rcases hp with rfl | rfl | hp
      · exact ha
      · exact hk
      · exact ht p hp
    · split
      · intro p hp
        simp only [List.mem_cons] at hp
        rcases hp with rfl | hp
        · exact ha
        · exact ht p hp
      · intro p hp
        simp only [List.mem_cons] at hp
        rcases hp with rfl | hp
        · exact hk
        · exact ih ht p hp

theorem map_wf_cons {β : Type} (k : Nat) (v : β) (m : Map β) : Map.wf ((k, v) :: m) = true ↔ (∀ p ∈ m, k < p.1) ∧ Map.wf m = true := by
  simp [Map.wf]

/-- Setting a key keeps the keys in rising order. -/
theorem mset_wf {β : Type} (m : Map β) (a : Nat) (v : β) (h : Map.wf m = true) : Map.wf (mset m a v) = true := by
  induction m with
  | nil => simp [mset, Map.wf]
  | cons p m ih =>
    obtain ⟨k, w⟩ := p
    obtain ⟨h1, h2⟩ := (map_wf_cons k w m).1 h
    simp only [mset]
    split
    · next hk =>
      refine (map_wf_cons _ _ _).2 ⟨?_, h⟩
      intro p hp
      simp only [List.mem_cons] at hp
      rcases hp with rfl | hp
      · exact hk
      · exact Nat.lt_trans hk (h1 p hp)
    · split
      · next hk => subst hk; exact (map_wf_cons _ _ _).2 ⟨h1, h2⟩
      · next hlt hne => exact (map_wf_cons _ _ _).2 ⟨mset_keys_above m a k v h1 (by omega), ih h2⟩

/-! ### Parts of the state by number -/

@[simp] theorem thread_setThread_same (s : State) (t : Nat) (x : Thread) : (s.setThread t x).thread t = x := by
  simp [State.thread, State.setThread]

theorem thread_setThread_other (s : State) (t u : Nat) (x : Thread) (h : u ≠ t) : (s.setThread t x).thread u = s.thread u := by
  simp [State.thread, State.setThread, mgetD_mset_other _ _ _ _ _ h]

@[simp] theorem setThread_setThread (s : State) (t : Nat) (x y : Thread) : (s.setThread t x).setThread t y = s.setThread t y := by
  simp [State.setThread]

@[simp] theorem port_setPort_same (s : State) (p : Nat) (x : Port) : (s.setPort p x).port p = x := by
  simp [State.port, State.setPort]

theorem port_setPort_other (s : State) (p q : Nat) (x : Port) (h : q ≠ p) : (s.setPort p x).port q = s.port q := by
  simp [State.port, State.setPort, mgetD_mset_other _ _ _ _ _ h]

@[simp] theorem func_setFunc_same (s : State) (fn : Nat) (x : Func) : (s.setFunc fn x).func fn = x := by
  simp [State.func, State.setFunc]

theorem func_setFunc_other (s : State) (fn g : Nat) (x : Func) (h : g ≠ fn) : (s.setFunc fn x).func g = s.func g := by
  simp [State.func, State.setFunc, mgetD_mset_other _ _ _ _ _ h]

@[simp] theorem qp_setQp_same (s : State) (q : Nat) (x : Qp) : (s.setQp q x).qp q = some x := by
  simp [State.qp, State.setQp]

theorem qp_setQp_other (s : State) (q r : Nat) (x : Qp) (h : r ≠ q) : (s.setQp q x).qp r = s.qp r := by
  simp [State.qp, State.setQp, mget_mset_other _ _ _ _ h]

@[simp] theorem thread_wr (s : State) (f : Fld) (v i j t : Nat) : (s.wr f v i j).thread t = s.thread t := rfl
@[simp] theorem port_wr (s : State) (f : Fld) (v i j p : Nat) : (s.wr f v i j).port p = s.port p := rfl
@[simp] theorem func_wr (s : State) (f : Fld) (v i j fn : Nat) : (s.wr f v i j).func fn = s.func fn := rfl
@[simp] theorem qp_wr (s : State) (f : Fld) (v i j q : Nat) : (s.wr f v i j).qp q = s.qp q := rfl

/-! ### Byte strings -/

@[simp] theorem leBytes_length (n v : Nat) : (leBytes n v).length = n := by
  induction n generalizing v with
  | zero => rfl
  | succ n ih => simp [leBytes, ih]

theorem ofLE_leBytes (n v : Nat) : ofLE (leBytes n v) = v % 256 ^ n := by
  induction n generalizing v with
  | zero => simp [leBytes, ofLE, Nat.mod_one]
  | succ n ih =>
    have h : v % 256 ^ (n + 1) = v % 256 + 256 * (v / 256 % 256 ^ n) := by
      rw [Nat.pow_succ, Nat.mul_comm, Nat.mod_mul]
    simp only [leBytes, ofLE, ih, BitVec.toNat_ofNat, h]

end Sys2Proof.Machine
end

