-- ==== Sys2Proof/Laws/Regs.lean ====
section
/-! SUPPORT. Register fields: what a read gives after a write of the same field, of another field, of another register. -/

namespace Sys2Proof.Machine

theorem reg_wr_same (s : State) (f : Fld) (v i j rst : Nat) :
    (s.wr f v i j).reg (f.addr i j) rst = putBits (s.reg (f.addr i j) f.rst) f.lo f.w v := by
  simp [State.reg, State.wr]

theorem reg_wr_other (s : State) (f : Fld) (v i j a rst : Nat) (h : a ≠ f.addr i j) : (s.wr f v i j).reg a rst = s.reg a rst := by
  simp [State.reg, State.wr, mget_mset_other _ _ _ _ h]

/-- What `putBits` computes fits in 64 bits. -/
theorem putBits_arith (x lo w v : Nat) (hx : x < 2 ^ 64) (hw : lo + w ≤ 64) :
    x - x / 2 ^ lo % 2 ^ w * 2 ^ lo + v % 2 ^ w * 2 ^ lo =
      x % 2 ^ lo + 2 ^ lo * (v % 2 ^ w + 2 ^ w * (x / 2 ^ (lo + w))) ∧
    x % 2 ^ lo + 2 ^ lo * (v % 2 ^ w + 2 ^ w * (x / 2 ^ (lo + w))) < 2 ^ 64 := by
  have hdm : x = x % 2 ^ lo + 2 ^ lo * (x / 2 ^ lo % 2 ^ w + 2 ^ w * (x / 2 ^ (lo + w))) := by
    have h1 := Nat.mod_add_div x (2 ^ lo)
    have h2 := Nat.mod_add_div (x / 2 ^ lo) (2 ^ w)
    rw [Nat.div_div_eq_div_mul, ← Nat.pow_add] at h2
    rw [h2, h1]
  have hlo : x % 2 ^ lo < 2 ^ lo := Nat.mod_lt _ (Nat.two_pow_pos lo)
  have hv : v % 2 ^ w < 2 ^ w := Nat.mod_lt _ (Nat.two_pow_pos w)
  have hq : x / 2 ^ (lo + w) < 2 ^ (64 - (lo + w)) := by
    rw [Nat.div_lt_iff_lt_mul (Nat.two_pow_pos _), ← Nat.pow_add]
    rwa [show 64 - (lo + w) + (lo + w) = 64 by omega]
  constructor
  · generalize x / 2 ^ (lo + w) = q at *
    generalize x / 2 ^ lo % 2 ^ w = m at *
    generalize x % 2 ^ lo = r at *
    subst hdm
    generalize 2 ^ lo = p
    rw [Nat.mul_add, Nat.mul_add, Nat.mul_comm m p, Nat.mul_comm (v % 2 ^ w) p]
    omega
  · have h3 : v % 2 ^ w + 2 ^ w * (x / 2 ^ (lo + w)) < 2 ^ w * 2 ^ (64 - (lo + w)) := by
      calc v % 2 ^ w + 2 ^ w * (x / 2 ^ (lo + w)) < 2 ^ w * (x / 2 ^ (lo + w) + 1) := by rw [Nat.mul_add]; omega
        _ ≤ _ := Nat.mul_le_mul_left _ hq
    have h4 : 2 ^ lo * (v % 2 ^ w + 2 ^ w * (x / 2 ^ (lo + w)) + 1) ≤ 2 ^ lo * (2 ^ w * 2 ^ (64 - (lo + w))) :=
      Nat.mul_le_mul_left _ h3
    have h5 : 2 ^ lo * (2 ^ w * 2 ^ (64 - (lo + w))) = 2 ^ 64 := by
      rw [← Nat.pow_add, ← Nat.pow_add]; congr 1; omega
    rw [Nat.mul_add] at h4
    omega

/-- A field that was put reads as it was put. -/
theorem bits_putBits_same (x : Word) (lo w v : Nat) (hw : lo + w ≤ 64) : bits (putBits x lo w v) lo w = v % 2 ^ w := by
  obtain ⟨h1, h2⟩ := putBits_arith x.toNat lo w v x.isLt hw
  have hlo : x.toNat % 2 ^ lo < 2 ^ lo := Nat.mod_lt _ (Nat.two_pow_pos lo)
  have hd : (x.toNat % 2 ^ lo + 2 ^ lo * (v % 2 ^ w + 2 ^ w * (x.toNat / 2 ^ (lo + w)))) / 2 ^ lo
      = v % 2 ^ w + 2 ^ w * (x.toNat / 2 ^ (lo + w)) := by
    rw [Nat.add_mul_div_left _ _ (Nat.two_pow_pos lo), Nat.div_eq_of_lt hlo, Nat.zero_add]
  simp only [bits, putBits, h1, BitVec.toNat_ofNat, Nat.mod_eq_of_lt h2, Nat.shiftRight_eq_div_pow, hd]
  rw [Nat.add_mul_mod_self_left, Nat.mod_mod]

/-- A field that shares no bit with the one that was put reads as before. -/
theorem bits_putBits_other (x : Word) (lo w v lo2 w2 : Nat) (hw : lo + w ≤ 64) (h : lo2 + w2 ≤ lo ∨ lo + w ≤ lo2) :
    bits (putBits x lo w v) lo2 w2 = bits x lo2 w2 := by
  obtain ⟨h1, h2⟩ := putBits_arith x.toNat lo w v x.isLt hw
  simp only [bits, putBits, h1, BitVec.toNat_ofNat, Nat.mod_eq_of_lt h2, Nat.shiftRight_eq_div_pow]
  have hlo : x.toNat % 2 ^ lo < 2 ^ lo := Nat.mod_lt _ (Nat.two_pow_pos lo)
  have hv : v % 2 ^ w < 2 ^ w := Nat.mod_lt _ (Nat.two_pow_pos w)
  rcases h with h | h
  · have hp : 2 ^ lo = 2 ^ (lo2 + w2) * 2 ^ (lo - (lo2 + w2)) := by rw [← Nat.pow_add]; congr 1; omega
    have key : ∀ y, y / 2 ^ lo2 % 2 ^ w2 = y % 2 ^ (lo2 + w2) / 2 ^ lo2 := fun y => by
      rw [Nat.pow_add, Nat.mod_mul_right_div_self]
    rw [key, key x.toNat, hp, Nat.mul_assoc, Nat.add_mul_mod_self_left, Nat.mod_mul_right_mod]
  · have hp : 2 ^ lo2 = 2 ^ (lo + w) * 2 ^ (lo2 - (lo + w)) := by rw [← Nat.pow_add]; congr 1; omega
    have hd : (x.toNat % 2 ^ lo + 2 ^ lo * (v % 2 ^ w + 2 ^ w * (x.toNat / 2 ^ (lo + w)))) / 2 ^ (lo + w) = x.toNat / 2 ^ (lo + w) := by
      rw [Nat.pow_add 2 lo w, ← Nat.div_div_eq_div_mul, Nat.add_mul_div_left _ _ (Nat.two_pow_pos lo), Nat.div_eq_of_lt hlo, Nat.zero_add,
        Nat.add_mul_div_left _ _ (Nat.two_pow_pos w), Nat.div_eq_of_lt hv, Nat.zero_add]
    rw [hp, ← Nat.div_div_eq_div_mul, hd, Nat.div_div_eq_div_mul]

/-- A field of the same register that shares no bit with the one written reads as before. -/
theorem rd_wr_field (s : State) (f g : Fld) (v i j k l : Nat) (ha : g.addr k l = f.addr i j) (hr : g.rst = f.rst) (hw : f.lo + f.w ≤ 64)
    (h : g.lo + g.w ≤ f.lo ∨ f.lo + f.w ≤ g.lo) : (s.wr f v i j).rd g k l = s.rd g k l := by
  simp only [State.rd, ha, reg_wr_same, hr]
  exact bits_putBits_other _ _ _ _ _ _ hw h

/-- A field reads as it was written, cut to its width. -/
theorem rd_wr_same (s : State) (f : Fld) (v i j : Nat) (hw : f.lo + f.w ≤ 64) : (s.wr f v i j).rd f i j = v % 2 ^ f.w := by
  simp only [State.rd, reg_wr_same]
  exact bits_putBits_same _ _ _ _ hw

/-- A field of another register reads as before. -/
theorem rd_wr_other (s : State) (f g : Fld) (v i j k l : Nat) (h : g.addr k l ≠ f.addr i j) :
    (s.wr f v i j).rd g k l = s.rd g k l := by
  simp only [State.rd, reg_wr_other _ _ _ _ _ _ _ h]

theorem wr_wf (s : State) (f : Fld) (v i j : Nat) (h : Map.wf s.regs = true) : Map.wf (s.wr f v i j).regs = true :=
  mset_wf _ _ _ h

end Sys2Proof.Machine
end

