-- ==== Sys2Proof/Laws/Events.lean ====
section
/-! SUPPORT. Events and counters change the registers, the fault state and the lichen state only; the sampler does nothing while
it is off; a state in which nothing is left to do is settled. -/

namespace Sys2Proof.Machine

/-- The registers that raising and counting write: event status, fault logs and counters, the state of the lifetime log, the performance
counters. -/
def eventAddr (a : Nat) : Bool :=
  (0x100000 ≤ a && a < 0x101000) || (0x200000 ≤ a && a < 0x201000) || (0x3C00000 ≤ a && a < 0x3C01000)

/-- What stays when only fault state, lichen state and the registers of `eventAddr` change. -/
def State.sameBut (s t : State) : Prop :=
  ∃ r f l, t = { s with regs := r, ft := f, lch := l } ∧ ∀ a, eventAddr a = false → mget r a = mget s.regs a

theorem sameBut_refl (s : State) : s.sameBut s := ⟨s.regs, s.ft, s.lch, rfl, fun _ _ => rfl⟩

theorem sameBut_trans {s t u : State} (h1 : s.sameBut t) (h2 : t.sameBut u) : s.sameBut u := by
  obtain ⟨r, f, l, rfl, e1⟩ := h1
  obtain ⟨r', f', l', rfl, e2⟩ := h2
  exact ⟨r', f', l', rfl, fun a h => (e2 a h).trans (e1 a h)⟩

theorem wr_sameBut (s : State) (f : Fld) (v i j : Nat) (h : eventAddr (f.addr i j) = true) : s.sameBut (s.wr f v i j) :=
  ⟨_, s.ft, s.lch, rfl, fun a ha => mget_mset_other _ _ _ _ fun e => by rw [e, h] at ha; cases ha⟩

theorem sat_sameBut (s : State) (f : Fld) (v i j : Nat) (h : eventAddr (f.addr i j) = true) : s.sameBut (s.sat f v i j) :=
  wr_sameBut _ _ _ _ _ h

theorem sameBut_ft {s t : State} (h : s.sameBut t) (x : Faults) : s.sameBut { t with ft := x } :=
  sameBut_trans h ⟨t.regs, x, t.lch, rfl, fun _ _ => rfl⟩

theorem sameBut_lch {s t : State} (h : s.sameBut t) (x : Lichen) : s.sameBut { t with lch := x } :=
  sameBut_trans h ⟨t.regs, t.ft, x, rfl, fun _ _ => rfl⟩

theorem sameBut_ite {s a b : State} (c : Prop) [Decidable c] (ha : s.sameBut a) (hb : s.sameBut b) : s.sameBut (if c then a else b) := by
  split
  · exact ha
  · exact hb

theorem addRecord_sameBut (s : State) (type body body2 : Nat) (inj copy free : Bool) :
    s.sameBut (addRecord s type body body2 inj copy free) := by
  unfold addRecord
  split
  · exact sameBut_lch (sameBut_refl s) _
  · exact sameBut_trans (sameBut_lch (sameBut_refl s) _) (wr_sameBut _ _ _ _ _ (by decide))

theorem eventRecord_sameBut (s : State) (k info cls : Nat) (inj fired : Bool) : s.sameBut (eventRecord s k info cls inj fired) := by
  unfold eventRecord
  dsimp only
  split
  · split
    · exact sameBut_ite _ (sameBut_lch (sameBut_refl s) _) (sameBut_refl s)
    · exact sameBut_ite _ (sameBut_ite _ (sameBut_lch (addRecord_sameBut _ _ _ _ _ _ _) _) (addRecord_sameBut _ _ _ _ _ _ _)) (sameBut_refl s)
  · exact sameBut_ite _ (addRecord_sameBut _ _ _ _ _ _ _) (sameBut_refl s)

theorem capture_sameBut (s : State) (a b c d e f : Fld) (k i n : Nat) (inj : Bool)
    (h : eventAddr (a.addr 0 0) = true ∧ eventAddr (b.addr 0 0) = true ∧ eventAddr (c.addr 0 0) = true ∧ eventAddr (d.addr 0 0) = true ∧ eventAddr (e.addr 0 0) = true
      ∧ eventAddr (f.addr 0 0) = true) : s.sameBut (capture s a b c d e f k i n inj) := by
  obtain ⟨ha, hb, hc, hd, he, hf⟩ := h
  unfold capture
  split
  · exact sameBut_refl s
  · exact sameBut_trans (sameBut_trans (sameBut_trans (sameBut_trans (sameBut_trans (wr_sameBut _ _ _ _ _ ha) (wr_sameBut _ _ _ _ _ hb))
      (wr_sameBut _ _ _ _ _ hc)) (wr_sameBut _ _ _ _ _ hd)) (wr_sameBut _ _ _ _ _ he)) (wr_sameBut _ _ _ _ _ hf)

theorem classOf_lt {k c : Nat} (h : classOf k = some c) : k < 1024 := by
  by_contra hk
  have : ∀ n, n ≤ 1024 → ¬k < n := fun n hn => by omega
  simp only [classOf, this 0x40 (by omega), this 0x088 (by omega), this 0x118 (by omega), this 0x11B (by omega), this 0x140 (by omega),
    this 0x180 (by omega), this 0x1C0 (by omega), this 0x200 (by omega), this 0x240 (by omega), this 0x280 (by omega),
    this 0x2C0 (by omega), this 0x300 (by omega), this 0x340 (by omega), this 0x380 (by omega), this 0x3A0 (by omega),
    this 0x3B8 (by omega), this 0x3C0 (by omega), this 0x400 (by omega), if_false] at h
  exact absurd h (by simp)

theorem raise1_sameBut (s : State) (k info : Nat) (inj sup : Bool) : s.sameBut (raise1 s k info inj sup) := by
  unfold raise1
  split
  · exact sameBut_refl s
  · next c hc =>
    have hk := classOf_lt hc
    have h : ∀ t u : State, s.sameBut t → t.sameBut u → s.sameBut u := fun _ _ => sameBut_trans
    refine sameBut_ite _ (sameBut_ft ?_ _) ?_ <;>
    · refine h _ _ ?_ (eventRecord_sameBut _ _ _ _ _ _)
      refine sameBut_lch (h _ _ ?_ (sat_sameBut _ _ _ _ _ (by split <;> (try split) <;> decide))) _
      refine sameBut_ite _ (h _ _ ?_ (capture_sameBut _ _ _ _ _ _ _ _ _ _ _ (by decide))) ?_ <;>
      exact h _ _ (wr_sameBut _ _ _ _ _ (by simp [Fld.addr, Reg.EVT_STATUS_STATUS, eventAddr]; omega))
        (capture_sameBut _ _ _ _ _ _ _ _ _ _ _ (by decide))

theorem advance_sameBut (s : State) (c n : Nat) (hc : c < 512) : s.sameBut (advance s c n).1 := by
  have h1 : eventAddr (Reg.CTR_COUNT_VALUE.addr c 0) = true := by simp [Fld.addr, Reg.CTR_COUNT_VALUE, eventAddr]; omega
  have h2 : eventAddr (Reg.CTR_COUNT_OVF.addr c 0) = true := by simp [Fld.addr, Reg.CTR_COUNT_OVF, eventAddr]; omega
  unfold advance
  dsimp only
  split
  · exact wr_sameBut _ _ _ _ _ h1
  · exact sameBut_trans (wr_sameBut _ _ _ _ _ h1) (wr_sameBut _ _ _ _ _ h2)

theorem counting_lt (s : State) (ev unit : Nat) (o : Owner) : ∀ c ∈ counting s ev unit o, c < 512 := by
  intro c hc
  unfold counting at hc
  split at hc
  · simp at hc
  · simp only [List.mem_filterMap] at hc
    obtain ⟨p, -, hp⟩ := hc
    split at hp
    · simp only [Option.some.injEq] at hp
      omega
    · simp at hp

theorem counters_sameBut (l : List Nat) (n : Nat) (a : State × List Item) (h : ∀ c ∈ l, c < 512) :
    a.1.sameBut (l.foldl (fun (a : State × List Item) c => let b := advance a.1 c n; (b.1, a.2 ++ b.2)) a).1 := by
  induction l generalizing a with
  | nil => exact sameBut_refl _
  | cons c l ih => exact sameBut_trans (advance_sameBut a.1 c n (h c (by simp))) (ih _ fun d hd => h d (by simp [hd]))

theorem cascade_sameBut (f : Nat) (l : List Item) (s : State) : s.sameBut (cascade f l s) := by
  induction f generalizing l s with
  | zero => exact sameBut_refl s
  | succ f ih =>
    match l with
    | [] => exact sameBut_refl s
    | .event k info inj sup :: l =>
      simp only [cascade]
      split
      · exact ih _ _
      · exact sameBut_trans (raise1_sameBut s k info inj sup) (ih _ _)
    | .count ev unit n o :: l =>
      simp only [cascade]
      exact sameBut_trans (counters_sameBut (counting s ev unit o) n (s, []) (counting_lt s ev unit o)) (ih _ _)

/-- Raising an event changes only registers, fault state and lichen state. -/
theorem raise_sameBut (s : State) (k info : Nat) (inj sup : Bool) : s.sameBut (s.raise k info inj sup) := cascade_sameBut _ _ _

/-- Counting an occurrence changes only registers, fault state and lichen state. -/
theorem count_sameBut (s : State) (ev unit n : Nat) (o : Owner) : s.sameBut (s.count ev unit n o) := by
  unfold State.count
  split
  · exact sameBut_refl s
  · exact cascade_sameBut _ _ _

/-- A register outside `eventAddr` reads as before. -/
theorem sameBut_reg {s t : State} (h : s.sameBut t) (a rst : Nat) (ha : eventAddr a = false) : t.reg a rst = s.reg a rst := by
  obtain ⟨r, f, l, rfl, e⟩ := h
  simp only [State.reg, e a ha]

/-- A field of a register outside `eventAddr` reads as before. -/
theorem sameBut_rd {s t : State} (h : s.sameBut t) (f : Fld) (i j : Nat) (ha : eventAddr (f.addr i j) = false) :
    t.rd f i j = s.rd f i j := by
  simp only [State.rd, sameBut_reg h _ _ ha]

/-- Counting leaves every field outside `eventAddr` as it is. -/
theorem count_rd (s : State) (ev unit n : Nat) (o : Owner) (f : Fld) (i j : Nat) (ha : eventAddr (f.addr i j) = false) :
    (s.count ev unit n o).rd f i j = s.rd f i j := sameBut_rd (count_sameBut s ev unit n o) f i j ha

/-- Raising leaves every field outside `eventAddr` as it is. -/
theorem raise_rd (s : State) (k info : Nat) (inj sup : Bool) (f : Fld) (i j : Nat) (ha : eventAddr (f.addr i j) = false) :
    (s.raise k info inj sup).rd f i j = s.rd f i j := sameBut_rd (raise_sameBut s k info inj sup) f i j ha

/-- What stays keeps the sampler's switch. -/
theorem sameBut_sampler {s t : State} (h : s.sameBut t) : t.on Reg.CTR_SAMPLE_CFG_ENABLE = s.on Reg.CTR_SAMPLE_CFG_ENABLE := by
  simp only [State.on, sameBut_rd h Reg.CTR_SAMPLE_CFG_ENABLE 0 0 (by decide)]

@[simp] theorem count_fg (s : State) (ev unit n : Nat) (o : Owner) : (s.count ev unit n o).fg = s.fg := by
  obtain ⟨r, f, l, h, -⟩ := count_sameBut s ev unit n o
  rw [h]

@[simp] theorem count_ctr (s : State) (ev unit n : Nat) (o : Owner) : (s.count ev unit n o).ctr = s.ctr := by
  obtain ⟨r, f, l, h, -⟩ := count_sameBut s ev unit n o
  rw [h]

@[simp] theorem count_tp (s : State) (ev unit n : Nat) (o : Owner) : (s.count ev unit n o).tp = s.tp := by
  obtain ⟨r, f, l, h, -⟩ := count_sameBut s ev unit n o
  rw [h]

@[simp] theorem count_xl (s : State) (ev unit n : Nat) (o : Owner) : (s.count ev unit n o).xl = s.xl := by
  obtain ⟨r, f, l, h, -⟩ := count_sameBut s ev unit n o
  rw [h]

/-! ### Bit errors -/

/-- Where no bit error waits, none is met. -/
theorem corrected_none (s : State) (p : SoftSite → Bool) (k : Nat) (h : s.soft = []) : s.corrected p k = s := by
  simp [State.corrected, State.softAt, h]

/-- A read of hive SRAM in which no bit error waits meets none. -/
theorem sramMet_none (s : State) (h a n : Nat) (hs : s.soft = []) : s.sramMet h a n = (s, false) := by
  simp [State.sramMet, corrected_none _ _ _ hs, State.softAt, hs]

/-! ### The sampler -/

@[simp] theorem stamp_none (s : State) (k : Nat) : s.stamp none k = s := rfl
@[simp] theorem endTag_none (s : State) (b : Bool) : s.endTag none b = s := rfl

/-- The sampler takes nothing while it is off. -/
theorem sample_off (s : State) (packet : Bool) (o : Owner) (what : Nat) (whr : Word) (th t0 : Nat)
    (h : s.on Reg.CTR_SAMPLE_CFG_ENABLE = false) : s.sample packet o what whr th t0 = (s, none) := by
  simp [State.sample, State.eligible, h]

/-! ### Settling -/

/-- A state in which nothing is left to do is settled. -/
theorem settle_quiet (s : State) (h : s.quiet = true) : settle s = s := by
  simp [settle, State.rounds, h]

end Sys2Proof.Machine
end

