-- ==== Sys2Proof/Laws/Exec.lean ====
section
/-! SUPPORT. For every command, the meaning that `exec` gives it: one equation per constructor, so that no proof has to reduce
the dispatch. -/

namespace Sys2Proof.Machine

@[simp] theorem exec_add (t : Nat) (rd : GReg) (ra : GReg) (rb : GReg) (s : State) : exec (.add t rd ra rb) s = execAdd t rd ra rb s := rfl
@[simp] theorem exec_sub (t : Nat) (rd : GReg) (ra : GReg) (rb : GReg) (s : State) : exec (.sub t rd ra rb) s = execSub t rd ra rb s := rfl
@[simp] theorem exec_and (t : Nat) (rd : GReg) (ra : GReg) (rb : GReg) (s : State) : exec (.and t rd ra rb) s = execAnd t rd ra rb s := rfl
@[simp] theorem exec_or (t : Nat) (rd : GReg) (ra : GReg) (rb : GReg) (s : State) : exec (.or t rd ra rb) s = execOr t rd ra rb s := rfl
@[simp] theorem exec_xor (t : Nat) (rd : GReg) (ra : GReg) (rb : GReg) (s : State) : exec (.xor t rd ra rb) s = execXor t rd ra rb s := rfl
@[simp] theorem exec_sll (t : Nat) (rd : GReg) (ra : GReg) (rb : GReg) (s : State) : exec (.sll t rd ra rb) s = execSll t rd ra rb s := rfl
@[simp] theorem exec_srl (t : Nat) (rd : GReg) (ra : GReg) (rb : GReg) (s : State) : exec (.srl t rd ra rb) s = execSrl t rd ra rb s := rfl
@[simp] theorem exec_sra (t : Nat) (rd : GReg) (ra : GReg) (rb : GReg) (s : State) : exec (.sra t rd ra rb) s = execSra t rd ra rb s := rfl
@[simp] theorem exec_slt (t : Nat) (rd : GReg) (ra : GReg) (rb : GReg) (s : State) : exec (.slt t rd ra rb) s = execSlt t rd ra rb s := rfl
@[simp] theorem exec_sltu (t : Nat) (rd : GReg) (ra : GReg) (rb : GReg) (s : State) : exec (.sltu t rd ra rb) s = execSltu t rd ra rb s := rfl
@[simp] theorem exec_mul (t : Nat) (rd : GReg) (ra : GReg) (rb : GReg) (s : State) : exec (.mul t rd ra rb) s = execMul t rd ra rb s := rfl
@[simp] theorem exec_mulhu (t : Nat) (rd : GReg) (ra : GReg) (rb : GReg) (s : State) : exec (.mulhu t rd ra rb) s = execMulhu t rd ra rb s := rfl
@[simp] theorem exec_mulh (t : Nat) (rd : GReg) (ra : GReg) (rb : GReg) (s : State) : exec (.mulh t rd ra rb) s = execMulh t rd ra rb s := rfl
@[simp] theorem exec_divu (t : Nat) (rd : GReg) (ra : GReg) (rb : GReg) (s : State) : exec (.divu t rd ra rb) s = execDivu t rd ra rb s := rfl
@[simp] theorem exec_remu (t : Nat) (rd : GReg) (ra : GReg) (rb : GReg) (s : State) : exec (.remu t rd ra rb) s = execRemu t rd ra rb s := rfl
@[simp] theorem exec_min (t : Nat) (rd : GReg) (ra : GReg) (rb : GReg) (s : State) : exec (.min t rd ra rb) s = execMin t rd ra rb s := rfl
@[simp] theorem exec_max (t : Nat) (rd : GReg) (ra : GReg) (rb : GReg) (s : State) : exec (.max t rd ra rb) s = execMax t rd ra rb s := rfl
@[simp] theorem exec_minu (t : Nat) (rd : GReg) (ra : GReg) (rb : GReg) (s : State) : exec (.minu t rd ra rb) s = execMinu t rd ra rb s := rfl
@[simp] theorem exec_maxu (t : Nat) (rd : GReg) (ra : GReg) (rb : GReg) (s : State) : exec (.maxu t rd ra rb) s = execMaxu t rd ra rb s := rfl
@[simp] theorem exec_clz (t : Nat) (rd : GReg) (ra : GReg) (rb : GReg) (s : State) : exec (.clz t rd ra rb) s = execClz t rd ra rb s := rfl
@[simp] theorem exec_ctz (t : Nat) (rd : GReg) (ra : GReg) (rb : GReg) (s : State) : exec (.ctz t rd ra rb) s = execCtz t rd ra rb s := rfl
@[simp] theorem exec_popc (t : Nat) (rd : GReg) (ra : GReg) (rb : GReg) (s : State) : exec (.popc t rd ra rb) s = execPopc t rd ra rb s := rfl
@[simp] theorem exec_bswap (t : Nat) (rd : GReg) (ra : GReg) (rb : GReg) (s : State) : exec (.bswap t rd ra rb) s = execBswap t rd ra rb s := rfl
@[simp] theorem exec_bswap4 (t : Nat) (rd : GReg) (ra : GReg) (rb : GReg) (s : State) : exec (.bswap4 t rd ra rb) s = execBswap4 t rd ra rb s := rfl
@[simp] theorem exec_crc8 (t : Nat) (rd : GReg) (ra : GReg) (rb : GReg) (s : State) : exec (.crc8 t rd ra rb) s = execCrc8 t rd ra rb s := rfl
@[simp] theorem exec_addi (t : Nat) (rd : GReg) (ra : GReg) (imm : BitVec 16) (s : State) : exec (.addi t rd ra imm) s = execAddi t rd ra imm s := rfl
@[simp] theorem exec_andi (t : Nat) (rd : GReg) (ra : GReg) (imm : BitVec 16) (s : State) : exec (.andi t rd ra imm) s = execAndi t rd ra imm s := rfl
@[simp] theorem exec_ori (t : Nat) (rd : GReg) (ra : GReg) (imm : BitVec 16) (s : State) : exec (.ori t rd ra imm) s = execOri t rd ra imm s := rfl
@[simp] theorem exec_xori (t : Nat) (rd : GReg) (ra : GReg) (imm : BitVec 16) (s : State) : exec (.xori t rd ra imm) s = execXori t rd ra imm s := rfl
@[simp] theorem exec_slti (t : Nat) (rd : GReg) (ra : GReg) (imm : BitVec 16) (s : State) : exec (.slti t rd ra imm) s = execSlti t rd ra imm s := rfl
@[simp] theorem exec_sltiu (t : Nat) (rd : GReg) (ra : GReg) (imm : BitVec 16) (s : State) : exec (.sltiu t rd ra imm) s = execSltiu t rd ra imm s := rfl
@[simp] theorem exec_shifti (t : Nat) (rd : GReg) (ra : GReg) (imm : BitVec 16) (s : State) : exec (.shifti t rd ra imm) s = execShifti t rd ra imm s := rfl
@[simp] theorem exec_lih (t : Nat) (rd : GReg) (imm : BitVec 21) (s : State) : exec (.lih t rd imm) s = execLih t rd imm s := rfl
@[simp] theorem exec_lb (t : Nat) (rd : GReg) (ra : GReg) (imm : BitVec 16) (s : State) : exec (.lb t rd ra imm) s = execLb t rd ra imm s := rfl
@[simp] theorem exec_lbu (t : Nat) (rd : GReg) (ra : GReg) (imm : BitVec 16) (s : State) : exec (.lbu t rd ra imm) s = execLbu t rd ra imm s := rfl
@[simp] theorem exec_lh (t : Nat) (rd : GReg) (ra : GReg) (imm : BitVec 16) (s : State) : exec (.lh t rd ra imm) s = execLh t rd ra imm s := rfl
@[simp] theorem exec_lhu (t : Nat) (rd : GReg) (ra : GReg) (imm : BitVec 16) (s : State) : exec (.lhu t rd ra imm) s = execLhu t rd ra imm s := rfl
@[simp] theorem exec_lw (t : Nat) (rd : GReg) (ra : GReg) (imm : BitVec 16) (s : State) : exec (.lw t rd ra imm) s = execLw t rd ra imm s := rfl
@[simp] theorem exec_lwu (t : Nat) (rd : GReg) (ra : GReg) (imm : BitVec 16) (s : State) : exec (.lwu t rd ra imm) s = execLwu t rd ra imm s := rfl
@[simp] theorem exec_ld (t : Nat) (rd : GReg) (ra : GReg) (imm : BitVec 16) (s : State) : exec (.ld t rd ra imm) s = execLd t rd ra imm s := rfl
@[simp] theorem exec_sb (t : Nat) (rb : GReg) (ra : GReg) (imm : BitVec 16) (s : State) : exec (.sb t rb ra imm) s = execSb t rb ra imm s := rfl
@[simp] theorem exec_sh (t : Nat) (rb : GReg) (ra : GReg) (imm : BitVec 16) (s : State) : exec (.sh t rb ra imm) s = execSh t rb ra imm s := rfl
@[simp] theorem exec_sw (t : Nat) (rb : GReg) (ra : GReg) (imm : BitVec 16) (s : State) : exec (.sw t rb ra imm) s = execSw t rb ra imm s := rfl
@[simp] theorem exec_sd (t : Nat) (rb : GReg) (ra : GReg) (imm : BitVec 16) (s : State) : exec (.sd t rb ra imm) s = execSd t rb ra imm s := rfl
@[simp] theorem exec_lr (t : Nat) (rd : GReg) (ra : GReg) (imm : BitVec 16) (s : State) : exec (.lr t rd ra imm) s = execLr t rd ra imm s := rfl
@[simp] theorem exec_sc (t : Nat) (rd : GReg) (ra : GReg) (rb : GReg) (s : State) : exec (.sc t rd ra rb) s = execSc t rd ra rb s := rfl
@[simp] theorem exec_atomFadd (t : Nat) (rd : GReg) (ra : GReg) (rb : GReg) (rc : GReg) (fnHi : BitVec 3) (s : State) : exec (.atomFadd t rd ra rb rc fnHi) s = execAtomFadd t rd ra rb rc fnHi s := rfl
@[simp] theorem exec_atomCswap (t : Nat) (rd : GReg) (ra : GReg) (rb : GReg) (rc : GReg) (fnHi : BitVec 3) (s : State) : exec (.atomCswap t rd ra rb rc fnHi) s = execAtomCswap t rd ra rb rc fnHi s := rfl
@[simp] theorem exec_atomSwap (t : Nat) (rd : GReg) (ra : GReg) (rb : GReg) (rc : GReg) (fnHi : BitVec 3) (s : State) : exec (.atomSwap t rd ra rb rc fnHi) s = execAtomSwap t rd ra rb rc fnHi s := rfl
@[simp] theorem exec_atomAnd (t : Nat) (rd : GReg) (ra : GReg) (rb : GReg) (rc : GReg) (fnHi : BitVec 3) (s : State) : exec (.atomAnd t rd ra rb rc fnHi) s = execAtomAnd t rd ra rb rc fnHi s := rfl
@[simp] theorem exec_atomOr (t : Nat) (rd : GReg) (ra : GReg) (rb : GReg) (rc : GReg) (fnHi : BitVec 3) (s : State) : exec (.atomOr t rd ra rb rc fnHi) s = execAtomOr t rd ra rb rc fnHi s := rfl
@[simp] theorem exec_atomXor (t : Nat) (rd : GReg) (ra : GReg) (rb : GReg) (rc : GReg) (fnHi : BitVec 3) (s : State) : exec (.atomXor t rd ra rb rc fnHi) s = execAtomXor t rd ra rb rc fnHi s := rfl
@[simp] theorem exec_atomSmin (t : Nat) (rd : GReg) (ra : GReg) (rb : GReg) (rc : GReg) (fnHi : BitVec 3) (s : State) : exec (.atomSmin t rd ra rb rc fnHi) s = execAtomSmin t rd ra rb rc fnHi s := rfl
@[simp] theorem exec_atomSmax (t : Nat) (rd : GReg) (ra : GReg) (rb : GReg) (rc : GReg) (fnHi : BitVec 3) (s : State) : exec (.atomSmax t rd ra rb rc fnHi) s = execAtomSmax t rd ra rb rc fnHi s := rfl
@[simp] theorem exec_beq (t : Nat) (rb : GReg) (ra : GReg) (imm : BitVec 16) (s : State) : exec (.beq t rb ra imm) s = execBeq t rb ra imm s := rfl
@[simp] theorem exec_bne (t : Nat) (rb : GReg) (ra : GReg) (imm : BitVec 16) (s : State) : exec (.bne t rb ra imm) s = execBne t rb ra imm s := rfl
@[simp] theorem exec_blt (t : Nat) (rb : GReg) (ra : GReg) (imm : BitVec 16) (s : State) : exec (.blt t rb ra imm) s = execBlt t rb ra imm s := rfl
@[simp] theorem exec_bge (t : Nat) (rb : GReg) (ra : GReg) (imm : BitVec 16) (s : State) : exec (.bge t rb ra imm) s = execBge t rb ra imm s := rfl
@[simp] theorem exec_bltu (t : Nat) (rb : GReg) (ra : GReg) (imm : BitVec 16) (s : State) : exec (.bltu t rb ra imm) s = execBltu t rb ra imm s := rfl
@[simp] theorem exec_bgeu (t : Nat) (rb : GReg) (ra : GReg) (imm : BitVec 16) (s : State) : exec (.bgeu t rb ra imm) s = execBgeu t rb ra imm s := rfl
@[simp] theorem exec_jal (t : Nat) (rd : GReg) (imm : BitVec 21) (s : State) : exec (.jal t rd imm) s = execJal t rd imm s := rfl
@[simp] theorem exec_jalr (t : Nat) (rd : GReg) (ra : GReg) (imm : BitVec 16) (s : State) : exec (.jalr t rd ra imm) s = execJalr t rd ra imm s := rfl
@[simp] theorem exec_fenceFull (t : Nat) (rd : GReg) (s : State) : exec (.fenceFull t rd) s = execFenceFull t rd s := rfl
@[simp] theorem exec_fenceAcquire (t : Nat) (rd : GReg) (s : State) : exec (.fenceAcquire t rd) s = execFenceAcquire t rd s := rfl
@[simp] theorem exec_fenceRelease (t : Nat) (rd : GReg) (s : State) : exec (.fenceRelease t rd) s = execFenceRelease t rd s := rfl
@[simp] theorem exec_fenceDevice (t : Nat) (rd : GReg) (s : State) : exec (.fenceDevice t rd) s = execFenceDevice t rd s := rfl
@[simp] theorem exec_csrr (t : Nat) (rd : GReg) (csr : BitVec 16) (s : State) : exec (.csrr t rd csr) s = execCsrr t rd csr s := rfl
@[simp] theorem exec_csrw (t : Nat) (ra : GReg) (csr : BitVec 16) (s : State) : exec (.csrw t ra csr) s = execCsrw t ra csr s := rfl
@[simp] theorem exec_pwld (t : Nat) (rd : GReg) (ra : GReg) (imm : BitVec 16) (s : State) : exec (.pwld t rd ra imm) s = execPwld t rd ra imm s := rfl
@[simp] theorem exec_pwst (t : Nat) (rb : GReg) (ra : GReg) (imm : BitVec 16) (s : State) : exec (.pwst t rb ra imm) s = execPwst t rb ra imm s := rfl
@[simp] theorem exec_pnext (t : Nat) (rd : GReg) (s : State) : exec (.pnext t rd) s = execPnext t rd s := rfl
@[simp] theorem exec_psend (t : Nat) (rd : GReg) (ra : GReg) (rb : GReg) (rc : GReg) (s : State) : exec (.psend t rd ra rb rc) s = execPsend t rd ra rb rc s := rfl
@[simp] theorem exec_pdone (t : Nat) (rd : GReg) (s : State) : exec (.pdone t rd) s = execPdone t rd s := rfl
@[simp] theorem exec_eidlk (t : Nat) (rd : GReg) (ra : GReg) (s : State) : exec (.eidlk t rd ra) s = execEidlk t rd ra s := rfl
@[simp] theorem exec_copy (t : Nat) (rd : GReg) (ra : GReg) (rb : GReg) (rc : GReg) (s : State) : exec (.copy t rd ra rb rc) s = execCopy t rd ra rb rc s := rfl
@[simp] theorem exec_place (t : Nat) (rd : GReg) (ra : GReg) (rb : GReg) (rc : GReg) (s : State) : exec (.place t rd ra rb rc) s = execPlace t rd ra rb rc s := rfl
@[simp] theorem exec_arrive (t : Nat) (rd : GReg) (ra : GReg) (s : State) : exec (.arrive t rd ra) s = execArrive t rd ra s := rfl
@[simp] theorem exec_post (t : Nat) (rd : GReg) (ra : GReg) (s : State) : exec (.post t rd ra) s = execPost t rd ra s := rfl
@[simp] theorem exec_cancel (t : Nat) (rd : GReg) (ra : GReg) (s : State) : exec (.cancel t rd ra) s = execCancel t rd ra s := rfl
@[simp] theorem exec_lclaim (t : Nat) (rd : GReg) (ra : GReg) (s : State) : exec (.lclaim t rd ra) s = execLclaim t rd ra s := rfl
@[simp] theorem exec_lrel (t : Nat) (rd : GReg) (ra : GReg) (s : State) : exec (.lrel t rd ra) s = execLrel t rd ra s := rfl
@[simp] theorem exec_lclaimw (t : Nat) (rd : GReg) (ra : GReg) (s : State) : exec (.lclaimw t rd ra) s = execLclaimw t rd ra s := rfl
@[simp] theorem exec_lrelw (t : Nat) (rd : GReg) (ra : GReg) (s : State) : exec (.lrelw t rd ra) s = execLrelw t rd ra s := rfl
@[simp] theorem exec_evraise (t : Nat) (ra : GReg) (rb : GReg) (s : State) : exec (.evraise t ra rb) s = execEvraise t ra rb s := rfl
@[simp] theorem exec_sysNop (t : Nat) (s : State) : exec (.sysNop t) s = execSysNop t s := rfl
@[simp] theorem exec_yieldSlot (t : Nat) (s : State) : exec (.yieldSlot t) s = execYieldSlot t s := rfl
@[simp] theorem exec_trap (t : Nat) (ra : GReg) (s : State) : exec (.trap t ra) s = execTrap t ra s := rfl
@[simp] theorem exec_exit (t : Nat) (s : State) : exec (.exit t) s = execExit t s := rfl
@[simp] theorem exec_xret (t : Nat) (ra : GReg) (s : State) : exec (.xret t ra) s = execXret t ra s := rfl
@[simp] theorem exec_wait (t : Nat) (rd : GReg) (s : State) : exec (.wait t rd) s = execWait t rd s := rfl
@[simp] theorem exec_registerWrite (req : Requester) (off : Nat) (size : Nat) (v : Word) (s : State) : exec (.registerWrite req off size v) s = execRegisterWrite req off size v s := rfl
@[simp] theorem exec_registerReadClear (req : Requester) (off : Nat) (size : Nat) (s : State) : exec (.registerReadClear req off size) s = execRegisterReadClear req off size s := rfl
@[simp] theorem exec_quiesce (req : Requester) (n : Nat) (v : Word) (s : State) : exec (.quiesce req n v) s = execQuiesce req n v s := rfl
@[simp] theorem exec_resume (req : Requester) (n : Nat) (v : Word) (s : State) : exec (.resume req n v) s = execResume req n v s := rfl
@[simp] theorem exec_quiesceDrained (n : Nat) (s : State) : exec (.quiesceDrained n) s = execQuiesceDrained n s := rfl
@[simp] theorem exec_quiesceTimeout (n : Nat) (s : State) : exec (.quiesceTimeout n) s = execQuiesceTimeout n s := rfl
@[simp] theorem exec_registerAccessTimeout (req : Requester) (off : Nat) (write : Bool) (s : State) : exec (.registerAccessTimeout req off write) s = execRegisterAccessTimeout req off write s := rfl
@[simp] theorem exec_refbMonitorWindow (offset : Int) (absent : Bool) (s : State) : exec (.refbMonitorWindow offset absent) s = execRefbMonitorWindow offset absent s := rfl
@[simp] theorem exec_rootUnlock (s : State) : exec .rootUnlock s = execRootUnlock s := rfl
@[simp] theorem exec_rootRelock (s : State) : exec .rootRelock s = execRootRelock s := rfl
@[simp] theorem exec_refclkBStop (s : State) : exec .refclkBStop s = execRefclkBStop s := rfl
@[simp] theorem exec_resRelease (req : Requester) (v : Word) (s : State) : exec (.resRelease req v) s = execResRelease req v s := rfl
@[simp] theorem exec_loopEn (req : Requester) (v : Word) (s : State) : exec (.loopEn req v) s = execLoopEn req v s := rfl
@[simp] theorem exec_loopDisable (req : Requester) (v : Word) (s : State) : exec (.loopDisable req v) s = execLoopDisable req v s := rfl
@[simp] theorem exec_loopPacketGenerate (s : State) : exec .loopPacketGenerate s = execLoopPacketGenerate s := rfl
@[simp] theorem exec_loopPacketCheck (rx : List Byte) (s : State) : exec (.loopPacketCheck rx) s = execLoopPacketCheck rx s := rfl
@[simp] theorem exec_mirrorEn (req : Requester) (v : Word) (s : State) : exec (.mirrorEn req v) s = execMirrorEn req v s := rfl
@[simp] theorem exec_mirrorDisable (req : Requester) (v : Word) (s : State) : exec (.mirrorDisable req v) s = execMirrorDisable req v s := rfl
@[simp] theorem exec_abiRequest (req : Requester) (fn : Nat) (v : Word) (s : State) : exec (.abiRequest req fn v) s = execAbiRequest req fn v s := rfl
@[simp] theorem exec_cmdBlockReadDone (fn : Nat) (r : HostRes) (s : State) : exec (.cmdBlockReadDone fn r) s = execCmdBlockReadDone fn r s := rfl
@[simp] theorem exec_commandTimeExpiry (fn : Nat) (s : State) : exec (.commandTimeExpiry fn) s = execCommandTimeExpiry fn s := rfl
@[simp] theorem exec_createPd (fn : Nat) (s : State) : exec (.createPd fn) s = execCreatePd fn s := rfl
@[simp] theorem exec_destroyPd (fn : Nat) (s : State) : exec (.destroyPd fn) s = execDestroyPd fn s := rfl
@[simp] theorem exec_createCq (fn : Nat) (s : State) : exec (.createCq fn) s = execCreateCq fn s := rfl
@[simp] theorem exec_destroyCq (fn : Nat) (s : State) : exec (.destroyCq fn) s = execDestroyCq fn s := rfl
@[simp] theorem exec_createEq (fn : Nat) (s : State) : exec (.createEq fn) s = execCreateEq fn s := rfl
@[simp] theorem exec_createQp (fn : Nat) (qpn : Nat) (s : State) : exec (.createQp fn qpn) s = execCreateQp fn qpn s := rfl
@[simp] theorem exec_modifyQpInit (fn : Nat) (s : State) : exec (.modifyQpInit fn) s = execModifyQpInit fn s := rfl
@[simp] theorem exec_modifyQpReady (fn : Nat) (s : State) : exec (.modifyQpReady fn) s = execModifyQpReady fn s := rfl
@[simp] theorem exec_modifyQpPaused (fn : Nat) (s : State) : exec (.modifyQpPaused fn) s = execModifyQpPaused fn s := rfl
@[simp] theorem exec_modifyQpError (fn : Nat) (s : State) : exec (.modifyQpError fn) s = execModifyQpError fn s := rfl
@[simp] theorem exec_modifyQpReset (fn : Nat) (s : State) : exec (.modifyQpReset fn) s = execModifyQpReset fn s := rfl
@[simp] theorem exec_destroyQp (fn : Nat) (s : State) : exec (.destroyQp fn) s = execDestroyQp fn s := rfl
@[simp] theorem exec_queryQp (fn : Nat) (s : State) : exec (.queryQp fn) s = execQueryQp fn s := rfl
@[simp] theorem exec_regMr (fn : Nat) (s : State) : exec (.regMr fn) s = execRegMr fn s := rfl
@[simp] theorem exec_deregMr (fn : Nat) (s : State) : exec (.deregMr fn) s = execDeregMr fn s := rfl
@[simp] theorem exec_allocWindow (fn : Nat) (s : State) : exec (.allocWindow fn) s = execAllocWindow fn s := rfl
@[simp] theorem exec_freeWindow (fn : Nat) (s : State) : exec (.freeWindow fn) s = execFreeWindow fn s := rfl
@[simp] theorem exec_regHandler (fn : Nat) (image : HostRes) (s : State) : exec (.regHandler fn image) s = execRegHandler fn image s := rfl
@[simp] theorem exec_deregHandler (fn : Nat) (s : State) : exec (.deregHandler fn) s = execDeregHandler fn s := rfl
@[simp] theorem exec_setShaper (fn : Nat) (s : State) : exec (.setShaper fn) s = execSetShaper fn s := rfl
@[simp] theorem exec_setPolicer (fn : Nat) (s : State) : exec (.setPolicer fn) s = execSetPolicer fn s := rfl
@[simp] theorem exec_invXltContext (fn : Nat) (s : State) : exec (.invXltContext fn) s = execInvXltContext fn s := rfl
@[simp] theorem exec_invXltRange (fn : Nat) (s : State) : exec (.invXltRange fn) s = execInvXltRange fn s := rfl
@[simp] theorem exec_xltInvalidationDrain (fn : Nat) (s : State) : exec (.xltInvalidationDrain fn) s = execXltInvalidationDrain fn s := rfl
@[simp] theorem exec_sendDoorbell (fn : Nat) (q : Nat) (size : Nat) (v : Word) (s : State) : exec (.sendDoorbell fn q size v) s = execSendDoorbell fn q size v s := rfl
@[simp] theorem exec_recvDoorbell (fn : Nat) (q : Nat) (size : Nat) (v : Word) (s : State) : exec (.recvDoorbell fn q size v) s = execRecvDoorbell fn q size v s := rfl
@[simp] theorem exec_cqDoorbell (fn : Nat) (c : Nat) (size : Nat) (v : Word) (s : State) : exec (.cqDoorbell fn c size v) s = execCqDoorbell fn c size v s := rfl
@[simp] theorem exec_eqDoorbell (fn : Nat) (size : Nat) (v : Word) (s : State) : exec (.eqDoorbell fn size v) s = execEqDoorbell fn size v s := rfl
@[simp] theorem exec_sendDescriptorRead (fn : Nat) (q : Nat) (r : HostRes) (s : State) : exec (.sendDescriptorRead fn q r) s = execSendDescriptorRead fn q r s := rfl
@[simp] theorem exec_recvDescriptorRead (fn : Nat) (q : Nat) (r : HostRes) (s : State) : exec (.recvDescriptorRead fn q r) s = execRecvDescriptorRead fn q r s := rfl
@[simp] theorem exec_nop (fn : Nat) (q : Nat) (s : State) : exec (.nop fn q) s = execNop fn q s := rfl
@[simp] theorem exec_put (fn : Nat) (q : Nat) (s : State) : exec (.put fn q) s = execPut fn q s := rfl
@[simp] theorem exec_get (fn : Nat) (q : Nat) (s : State) : exec (.get fn q) s = execGet fn q s := rfl
@[simp] theorem exec_atomicFadd (fn : Nat) (q : Nat) (s : State) : exec (.atomicFadd fn q) s = execAtomicFadd fn q s := rfl
@[simp] theorem exec_atomicCswap (fn : Nat) (q : Nat) (s : State) : exec (.atomicCswap fn q) s = execAtomicCswap fn q s := rfl
@[simp] theorem exec_atomicSwap (fn : Nat) (q : Nat) (s : State) : exec (.atomicSwap fn q) s = execAtomicSwap fn q s := rfl
@[simp] theorem exec_atomicAnd (fn : Nat) (q : Nat) (s : State) : exec (.atomicAnd fn q) s = execAtomicAnd fn q s := rfl
@[simp] theorem exec_atomicOr (fn : Nat) (q : Nat) (s : State) : exec (.atomicOr fn q) s = execAtomicOr fn q s := rfl
@[simp] theorem exec_atomicXor (fn : Nat) (q : Nat) (s : State) : exec (.atomicXor fn q) s = execAtomicXor fn q s := rfl
@[simp] theorem exec_atomicSmin (fn : Nat) (q : Nat) (s : State) : exec (.atomicSmin fn q) s = execAtomicSmin fn q s := rfl
@[simp] theorem exec_atomicSmax (fn : Nat) (q : Nat) (s : State) : exec (.atomicSmax fn q) s = execAtomicSmax fn q s := rfl
@[simp] theorem exec_sendTagged (fn : Nat) (q : Nat) (s : State) : exec (.sendTagged fn q) s = execSendTagged fn q s := rfl
@[simp] theorem exec_bindWindow (fn : Nat) (q : Nat) (s : State) : exec (.bindWindow fn q) s = execBindWindow fn q s := rfl
@[simp] theorem exec_unbindWindow (fn : Nat) (q : Nat) (s : State) : exec (.unbindWindow fn q) s = execUnbindWindow fn q s := rfl
@[simp] theorem exec_barrier (fn : Nat) (q : Nat) (s : State) : exec (.barrier fn q) s = execBarrier fn q s := rfl
@[simp] theorem exec_reduce (fn : Nat) (q : Nat) (s : State) : exec (.reduce fn q) s = execReduce fn q s := rfl
@[simp] theorem exec_allreduce (fn : Nat) (q : Nat) (s : State) : exec (.allreduce fn q) s = execAllreduce fn q s := rfl
@[simp] theorem exec_broadcast (fn : Nat) (q : Nat) (s : State) : exec (.broadcast fn q) s = execBroadcast fn q s := rfl
@[simp] theorem exec_recvTagged (fn : Nat) (q : Nat) (s : State) : exec (.recvTagged fn q) s = execRecvTagged fn q s := rfl
@[simp] theorem exec_sendPacketBuild (fn : Nat) (q : Nat) (s : State) : exec (.sendPacketBuild fn q) s = execSendPacketBuild fn q s := rfl
@[simp] theorem exec_peerStateFreed (fn : Nat) (q : Nat) (s : State) : exec (.peerStateFreed fn q) s = execPeerStateFreed fn q s := rfl
@[simp] theorem exec_contextWaitDeadline (fn : Nat) (q : Nat) (s : State) : exec (.contextWaitDeadline fn q) s = execContextWaitDeadline fn q s := rfl
@[simp] theorem exec_seStateIdleExpiry (qpn : Nat) (peerEid : Nat) (peerQpn : Nat) (s : State) : exec (.seStateIdleExpiry qpn peerEid peerQpn) s = execSeStateIdleExpiry qpn peerEid peerQpn s := rfl
@[simp] theorem exec_wtPut (port : Nat) (p : Packet) (s : State) : exec (.wtPut port p) s = execWtPut port p s := rfl
@[simp] theorem exec_getReq (port : Nat) (p : Packet) (s : State) : exec (.getReq port p) s = execGetReq port p s := rfl
@[simp] theorem exec_getResp (port : Nat) (p : Packet) (s : State) : exec (.getResp port p) s = execGetResp port p s := rfl
@[simp] theorem exec_atomicReq (port : Nat) (p : Packet) (s : State) : exec (.atomicReq port p) s = execAtomicReq port p s := rfl
@[simp] theorem exec_atomicResp (port : Nat) (p : Packet) (s : State) : exec (.atomicResp port p) s = execAtomicResp port p s := rfl
@[simp] theorem exec_ack (port : Nat) (p : Packet) (s : State) : exec (.ack port p) s = execAck port p s := rfl
@[simp] theorem exec_nak (port : Nat) (p : Packet) (s : State) : exec (.nak port p) s = execNak port p s := rfl
@[simp] theorem exec_eager (port : Nat) (p : Packet) (s : State) : exec (.eager port p) s = execEager port p s := rfl
@[simp] theorem exec_rts (port : Nat) (p : Packet) (s : State) : exec (.rts port p) s = execRts port p s := rfl
@[simp] theorem exec_fin (port : Nat) (p : Packet) (s : State) : exec (.fin port p) s = execFin port p s := rfl
@[simp] theorem exec_contextFetchDone (qpn : Nat) (peerEid : Nat) (peerQpn : Nat) (uncorrected : Bool) (s : State) : exec (.contextFetchDone qpn peerEid peerQpn uncorrected) s = execContextFetchDone qpn peerEid peerQpn uncorrected s := rfl
@[simp] theorem exec_ackDelayExpiry (qpn : Nat) (peerEid : Nat) (peerQpn : Nat) (s : State) : exec (.ackDelayExpiry qpn peerEid peerQpn) s = execAckDelayExpiry qpn peerEid peerQpn s := rfl
@[simp] theorem exec_retransmitTimeout (qpn : Nat) (peerEid : Nat) (peerQpn : Nat) (psn : Nat) (s : State) : exec (.retransmitTimeout qpn peerEid peerQpn psn) s = execRetransmitTimeout qpn peerEid peerQpn psn s := rfl
@[simp] theorem exec_stateMissHintExpiry (qpn : Nat) (peerEid : Nat) (peerQpn : Nat) (psn : Nat) (s : State) : exec (.stateMissHintExpiry qpn peerEid peerQpn psn) s = execStateMissHintExpiry qpn peerEid peerQpn psn s := rfl
@[simp] theorem exec_stateMissDeadline (qpn : Nat) (peerEid : Nat) (peerQpn : Nat) (psn : Nat) (s : State) : exec (.stateMissDeadline qpn peerEid peerQpn psn) s = execStateMissDeadline qpn peerEid peerQpn psn s := rfl
@[simp] theorem exec_resultHoldExpiry (qpn : Nat) (peerEid : Nat) (peerQpn : Nat) (psn : Nat) (s : State) : exec (.resultHoldExpiry qpn peerEid peerQpn psn) s = execResultHoldExpiry qpn peerEid peerQpn psn s := rfl
@[simp] theorem exec_placementIssued (id : Nat) (s : State) : exec (.placementIssued id) s = execPlacementIssued id s := rfl
@[simp] theorem exec_hostReadDataReturn (id : Nat) (r : HostRes) (s : State) : exec (.hostReadDataReturn id r) s = execHostReadDataReturn id r s := rfl
@[simp] theorem exec_hostAtomicResponse (id : Nat) (r : HostRes) (s : State) : exec (.hostAtomicResponse id r) s = execHostAtomicResponse id r s := rfl
@[simp] theorem exec_storeAtomicDone (id : Nat) (s : State) : exec (.storeAtomicDone id) s = execStoreAtomicDone id s := rfl
@[simp] theorem exec_keyDrainComplete (idx : Nat) (s : State) : exec (.keyDrainComplete idx) s = execKeyDrainComplete idx s := rfl
@[simp] theorem exec_keyDrainStall (idx : Nat) (s : State) : exec (.keyDrainStall idx) s = execKeyDrainStall idx s := rfl
@[simp] theorem exec_cxlMemRead (link : Nat) (addr : Nat) (s : State) : exec (.cxlMemRead link addr) s = execCxlMemRead link addr s := rfl
@[simp] theorem exec_cxlMemWrite (link : Nat) (addr : Nat) (bytes : List (Option Byte)) (s : State) : exec (.cxlMemWrite link addr bytes) s = execCxlMemWrite link addr bytes s := rfl
@[simp] theorem exec_postingResume (s : State) : exec .postingResume s = execPostingResume s := rfl
@[simp] theorem exec_poolResizeApply (s : State) : exec .poolResizeApply s = execPoolResizeApply s := rfl
@[simp] theorem exec_fullHintExpiry (qpn : Nat) (peerEid : Nat) (peerQpn : Nat) (s : State) : exec (.fullHintExpiry qpn peerEid peerQpn) s = execFullHintExpiry qpn peerEid peerQpn s := rfl
@[simp] theorem exec_receiverFullDeadline (qpn : Nat) (peerEid : Nat) (peerQpn : Nat) (psn : Nat) (s : State) : exec (.receiverFullDeadline qpn peerEid peerQpn psn) s = execReceiverFullDeadline qpn peerEid peerQpn psn s := rfl
@[simp] theorem exec_rndvWaitExpiry (qpn : Nat) (peerEid : Nat) (peerQpn : Nat) (psn : Nat) (s : State) : exec (.rndvWaitExpiry qpn peerEid peerQpn psn) s = execRndvWaitExpiry qpn peerEid peerQpn psn s := rfl
@[simp] theorem exec_handlerStart (fn : Nat) (q : Nat) (t : Nat) (s : State) : exec (.handlerStart fn q t) s = execHandlerStart fn q t s := rfl
@[simp] theorem exec_frondCtrlWrite (req : Requester) (v : Word) (s : State) : exec (.frondCtrlWrite req v) s = execFrondCtrlWrite req v s := rfl
@[simp] theorem exec_frondCtrlRead (req : Requester) (v : Word) (s : State) : exec (.frondCtrlRead req v) s = execFrondCtrlRead req v s := rfl
@[simp] theorem exec_swarmEnable (req : Requester) (v : Word) (s : State) : exec (.swarmEnable req v) s = execSwarmEnable req v s := rfl
@[simp] theorem exec_swarmUpPacket (port : Nat) (p : Packet) (s : State) : exec (.swarmUpPacket port p) s = execSwarmUpPacket port p s := rfl
@[simp] theorem exec_swarmDownPacket (port : Nat) (p : Packet) (s : State) : exec (.swarmDownPacket port p) s = execSwarmDownPacket port p s := rfl
@[simp] theorem exec_swarmAbortPacket (port : Nat) (p : Packet) (s : State) : exec (.swarmAbortPacket port p) s = execSwarmAbortPacket port p s := rfl
@[simp] theorem exec_stagingCellFree (gid : Nat) (cell : Nat) (s : State) : exec (.stagingCellFree gid cell) s = execStagingCellFree gid cell s := rfl
@[simp] theorem exec_epochTimeout (gid : Nat) (s : State) : exec (.epochTimeout gid) s = execEpochTimeout gid s := rfl
@[simp] theorem exec_routerArrival (port : Nat) (lane : Nat) (s : State) : exec (.routerArrival port lane) s = execRouterArrival port lane s := rfl
@[simp] theorem exec_routingDecision (port : Nat) (lane : Nat) (s : State) : exec (.routingDecision port lane) s = execRoutingDecision port lane s := rfl
@[simp] theorem exec_egressSelect (port : Nat) (s : State) : exec (.egressSelect port) s = execEgressSelect port s := rfl
@[simp] theorem exec_wagglePeriod (s : State) : exec .wagglePeriod s = execWagglePeriod s := rfl
@[simp] theorem exec_routeSwap (req : Requester) (v : Word) (s : State) : exec (.routeSwap req v) s = execRouteSwap req v s := rfl
@[simp] theorem exec_timedSwap (s : State) : exec .timedSwap s = execTimedSwap s := rfl
@[simp] theorem exec_swapCancel (req : Requester) (v : Word) (s : State) : exec (.swapCancel req v) s = execSwapCancel req v s := rfl
@[simp] theorem exec_throttleRelease (group : Nat) (s : State) : exec (.throttleRelease group) s = execThrottleRelease group s := rfl
@[simp] theorem exec_mgmtDirectedForward (s : State) : exec .mgmtDirectedForward s = execMgmtDirectedForward s := rfl
@[simp] theorem exec_claim (s : State) : exec .claim s = execClaim s := rfl
@[simp] theorem exec_release (s : State) : exec .release s = execRelease s := rfl
@[simp] theorem exec_readReg (s : State) : exec .readReg s = execReadReg s := rfl
@[simp] theorem exec_writeReg (s : State) : exec .writeReg s = execWriteReg s := rfl
@[simp] theorem exec_assign (s : State) : exec .assign s = execAssign s := rfl
@[simp] theorem exec_eidWrite (s : State) : exec .eidWrite s = execEidWrite s := rfl
@[simp] theorem exec_frondWrite (s : State) : exec .frondWrite s = execFrondWrite s := rfl
@[simp] theorem exec_swap (s : State) : exec .swap s = execSwap s := rfl
@[simp] theorem exec_echo (s : State) : exec .echo s = execEcho s := rfl
@[simp] theorem exec_rteMgmtRelease (req : Requester) (v : Word) (s : State) : exec (.rteMgmtRelease req v) s = execRteMgmtRelease req v s := rfl
@[simp] theorem exec_linkPacketReceive (port : Nat) (f : LinkFrame) (s : State) : exec (.linkPacketReceive port f) s = execLinkPacketReceive port f s := rfl
@[simp] theorem exec_ackCredit (port : Nat) (b : List Byte) (s : State) : exec (.ackCredit port b) s = execAckCredit port b s := rfl
@[simp] theorem exec_resyncMark (port : Nat) (b : List Byte) (s : State) : exec (.resyncMark port b) s = execResyncMark port b s := rfl
@[simp] theorem exec_resyncReport (port : Nat) (b : List Byte) (s : State) : exec (.resyncReport port b) s = execResyncReport port b s := rfl
@[simp] theorem exec_timeRequest (port : Nat) (b : List Byte) (s : State) : exec (.timeRequest port b) s = execTimeRequest port b s := rfl
@[simp] theorem exec_timeResponse (port : Nat) (b : List Byte) (s : State) : exec (.timeResponse port b) s = execTimeResponse port b s := rfl
@[simp] theorem exec_waggle (port : Nat) (b : List Byte) (s : State) : exec (.waggle port b) s = execWaggle port b s := rfl
@[simp] theorem exec_train (port : Nat) (b : List Byte) (s : State) : exec (.train port b) s = execTrain port b s := rfl
@[simp] theorem exec_failoverRequest (port : Nat) (b : List Byte) (s : State) : exec (.failoverRequest port b) s = execFailoverRequest port b s := rfl
@[simp] theorem exec_failoverResponse (port : Nat) (b : List Byte) (s : State) : exec (.failoverResponse port b) s = execFailoverResponse port b s := rfl
@[simp] theorem exec_linkAckTimer (port : Nat) (s : State) : exec (.linkAckTimer port) s = execLinkAckTimer port s := rfl
@[simp] theorem exec_replayTimeout (port : Nat) (s : State) : exec (.replayTimeout port) s = execReplayTimeout port s := rfl
@[simp] theorem exec_resyncPeriod (port : Nat) (s : State) : exec (.resyncPeriod port) s = execResyncPeriod port s := rfl
@[simp] theorem exec_trainTimer (port : Nat) (s : State) : exec (.trainTimer port) s = execTrainTimer port s := rfl
@[simp] theorem exec_lockLossTimeout (port : Nat) (s : State) : exec (.lockLossTimeout port) s = execLockLossTimeout port s := rfl
@[simp] theorem exec_holdoffExpiry (port : Nat) (s : State) : exec (.holdoffExpiry port) s = execHoldoffExpiry port s := rfl
@[simp] theorem exec_failoverTimeout (port : Nat) (s : State) : exec (.failoverTimeout port) s = execFailoverTimeout port s := rfl
@[simp] theorem exec_trainingTimeout (port : Nat) (s : State) : exec (.trainingTimeout port) s = execTrainingTimeout port s := rfl
@[simp] theorem exec_linkEnable (req : Requester) (port : Nat) (v : Word) (s : State) : exec (.linkEnable req port v) s = execLinkEnable req port v s := rfl
@[simp] theorem exec_linkDisable (req : Requester) (port : Nat) (v : Word) (s : State) : exec (.linkDisable req port v) s = execLinkDisable req port v s := rfl
@[simp] theorem exec_exerciseEnable (req : Requester) (port : Nat) (v : Word) (s : State) : exec (.exerciseEnable req port v) s = execExerciseEnable req port v s := rfl
@[simp] theorem exec_reorderRelease (port : Nat) (s : State) : exec (.reorderRelease port) s = execReorderRelease port s := rfl
@[simp] theorem exec_signalDetect (port : Nat) (lane : Nat) (s : State) : exec (.signalDetect port lane) s = execSignalDetect port lane s := rfl
@[simp] theorem exec_cdrLock (port : Nat) (lane : Nat) (s : State) : exec (.cdrLock port lane) s = execCdrLock port lane s := rfl
@[simp] theorem exec_blockLockAcquired (port : Nat) (lane : Nat) (s : State) : exec (.blockLockAcquired port lane) s = execBlockLockAcquired port lane s := rfl
@[simp] theorem exec_blockLockLoss (port : Nat) (lane : Nat) (s : State) : exec (.blockLockLoss port lane) s = execBlockLockLoss port lane s := rfl
@[simp] theorem exec_alignmentMarkerInsert (port : Nat) (s : State) : exec (.alignmentMarkerInsert port) s = execAlignmentMarkerInsert port s := rfl
@[simp] theorem exec_alignmentMarkerReceive (port : Nat) (lane : Nat) (marker : List Byte) (bip : Byte) (s : State) : exec (.alignmentMarkerReceive port lane marker bip) s = execAlignmentMarkerReceive port lane marker bip s := rfl
@[simp] theorem exec_amLockAcquired (port : Nat) (lane : Nat) (logical : Nat) (skew : Nat) (s : State) : exec (.amLockAcquired port lane logical skew) s = execAmLockAcquired port lane logical skew s := rfl
@[simp] theorem exec_amLockLoss (port : Nat) (lane : Nat) (s : State) : exec (.amLockLoss port lane) s = execAmLockLoss port lane s := rfl
@[simp] theorem exec_checkerLock (port : Nat) (lane : Nat) (s : State) : exec (.checkerLock port lane) s = execCheckerLock port lane s := rfl
@[simp] theorem exec_checkerLockLoss (port : Nat) (lane : Nat) (s : State) : exec (.checkerLockLoss port lane) s = execCheckerLockLoss port lane s := rfl
@[simp] theorem exec_injectOne (req : Requester) (port : Nat) (lane : Nat) (v : Word) (s : State) : exec (.injectOne req port lane v) s = execInjectOne req port lane v s := rfl
@[simp] theorem exec_injectIntervalBurst (port : Nat) (lane : Nat) (s : State) : exec (.injectIntervalBurst port lane) s = execInjectIntervalBurst port lane s := rfl
@[simp] theorem exec_eyeMonitorUpdate (port : Nat) (lane : Nat) (mv : Nat) (ui : Nat) (s : State) : exec (.eyeMonitorUpdate port lane mv ui) s = execEyeMonitorUpdate port lane mv ui s := rfl
@[simp] theorem exec_portRetire (req : Requester) (port : Nat) (v : Word) (s : State) : exec (.portRetire req port v) s = execPortRetire req port v s := rfl
@[simp] theorem exec_portUnretire (req : Requester) (port : Nat) (v : Word) (s : State) : exec (.portUnretire req port v) s = execPortUnretire req port v s := rfl
@[simp] theorem exec_shaperRelease (fn : Nat) (q : Nat) (s : State) : exec (.shaperRelease fn q) s = execShaperRelease fn q s := rfl
@[simp] theorem exec_timeSyncTimer (s : State) : exec .timeSyncTimer s = execTimeSyncTimer s := rfl
@[simp] theorem exec_timepulseEdge (s : State) : exec .timepulseEdge s = execTimepulseEdge s := rfl
@[simp] theorem exec_pulseInClaim (req : Requester) (v : Word) (s : State) : exec (.pulseInClaim req v) s = execPulseInClaim req v s := rfl
@[simp] theorem exec_debugOutClaim (req : Requester) (v : Word) (s : State) : exec (.debugOutClaim req v) s = execDebugOutClaim req v s := rfl
@[simp] theorem exec_gateGo (req : Requester) (port : Nat) (v : Word) (s : State) : exec (.gateGo req port v) s = execGateGo req port v s := rfl
@[simp] theorem exec_gateEnable (req : Requester) (port : Nat) (v : Word) (s : State) : exec (.gateEnable req port v) s = execGateEnable req port v s := rfl
@[simp] theorem exec_gateDisable (req : Requester) (port : Nat) (v : Word) (s : State) : exec (.gateDisable req port v) s = execGateDisable req port v s := rfl
@[simp] theorem exec_gateListActivate (port : Nat) (s : State) : exec (.gateListActivate port) s = execGateListActivate port s := rfl
@[simp] theorem exec_gateEntryAdvance (port : Nat) (s : State) : exec (.gateEntryAdvance port) s = execGateEntryAdvance port s := rfl
@[simp] theorem exec_arbiterDecision (u : Nat) (cycle : Nat) (reqs : List (Nat × Nat)) (s : State) : exec (.arbiterDecision u cycle reqs) s = execArbiterDecision u cycle reqs s := rfl
@[simp] theorem exec_backoffExpiry (u : Nat) (r : Nat) (s : State) : exec (.backoffExpiry u r) s = execBackoffExpiry u r s := rfl
@[simp] theorem exec_threadWake (t : Nat) (reason : Word) (s : State) : exec (.threadWake t reason) s = execThreadWake t reason s := rfl
@[simp] theorem exec_packetHandoff (t : Nat) (p : Packet) (port : Nat) (handle : Nat) (fromMiss : Bool) (verified : Bool) (s : State) : exec (.packetHandoff t p port handle fromMiss verified) s = execPacketHandoff t p port handle fromMiss verified s := rfl
@[simp] theorem exec_crcVerdict (t : Nat) (ok : Bool) (s : State) : exec (.crcVerdict t ok) s = execCrcVerdict t ok s := rfl
@[simp] theorem exec_foragerAccessResponse (t : Nat) (k : Nat) (r : HostRes) (s : State) : exec (.foragerAccessResponse t k r) s = execForagerAccessResponse t k r s := rfl
@[simp] theorem exec_handlerBudgetExhausted (t : Nat) (s : State) : exec (.handlerBudgetExhausted t) s = execHandlerBudgetExhausted t s := rfl
@[simp] theorem exec_deviceStoreAck (t : Nat) (k : Nat) (s : State) : exec (.deviceStoreAck t k) s = execDeviceStoreAck t k s := rfl
@[simp] theorem exec_deviceAccessTimeout (t : Nat) (k : Nat) (err : Bool) (s : State) : exec (.deviceAccessTimeout t k err) s = execDeviceAccessTimeout t k err s := rfl
@[simp] theorem exec_lckWordClaim (req : Requester) (w : Nat) (v : Word) (s : State) : exec (.lckWordClaim req w v) s = execLckWordClaim req w v s := rfl
@[simp] theorem exec_lckWordRelease (req : Requester) (w : Nat) (v : Word) (s : State) : exec (.lckWordRelease req w v) s = execLckWordRelease req w v s := rfl
@[simp] theorem exec_lckForce (req : Requester) (v : Word) (s : State) : exec (.lckForce req v) s = execLckForce req v s := rfl
@[simp] theorem exec_lckCompatForce (req : Requester) (v : Word) (s : State) : exec (.lckCompatForce req v) s = execLckCompatForce req v s := rfl
@[simp] theorem exec_compatRangeEnable (req : Requester) (n : Nat) (v : Word) (s : State) : exec (.compatRangeEnable req n v) s = execCompatRangeEnable req n v s := rfl
@[simp] theorem exec_walkReadResponse (id : Nat) (r : HostRes) (s : State) : exec (.walkReadResponse id r) s = execWalkReadResponse id r s := rfl
@[simp] theorem exec_adCasResponse (id : Nat) (r : HostRes) (s : State) : exec (.adCasResponse id r) s = execAdCasResponse id r s := rfl
@[simp] theorem exec_walkTimeout (id : Nat) (s : State) : exec (.walkTimeout id) s = execWalkTimeout id s := rfl
@[simp] theorem exec_xltCtxWrite (req : Requester) (n : Nat) (v : Word) (s : State) : exec (.xltCtxWrite req n v) s = execXltCtxWrite req n v s := rfl
@[simp] theorem exec_prefetchWalk (fn : Nat) (va : Nat) (s : State) : exec (.prefetchWalk fn va) s = execPrefetchWalk fn va s := rfl
@[simp] theorem exec_reactionDispatch (s : State) : exec .reactionDispatch s = execReactionDispatch s := rfl
@[simp] theorem exec_evtStatusClear (req : Requester) (k : Nat) (v : Word) (s : State) : exec (.evtStatusClear req k v) s = execEvtStatusClear req k v s := rfl
@[simp] theorem exec_faultInject (req : Requester) (v : Word) (s : State) : exec (.faultInject req v) s = execFaultInject req v s := rfl
@[simp] theorem exec_aliveStart (req : Requester) (v : Word) (s : State) : exec (.aliveStart req v) s = execAliveStart req v s := rfl
@[simp] theorem exec_fltLock (req : Requester) (v : Word) (s : State) : exec (.fltLock req v) s = execFltLock req v s := rfl
@[simp] theorem exec_handlerPolicyLock (req : Requester) (v : Word) (s : State) : exec (.handlerPolicyLock req v) s = execHandlerPolicyLock req v s := rfl
@[simp] theorem exec_adminLock (req : Requester) (v : Word) (s : State) : exec (.adminLock req v) s = execAdminLock req v s := rfl
@[simp] theorem exec_replan (req : Requester) (v : Word) (m : Measurement) (s : State) : exec (.replan req v m) s = execReplan req v m s := rfl
@[simp] theorem exec_replanTimer (m : Measurement) (s : State) : exec (.replanTimer m) s = execReplanTimer m s := rfl
@[simp] theorem exec_vcoreStep (s : State) : exec .vcoreStep s = execVcoreStep s := rfl
@[simp] theorem exec_avsResponse (ok : Bool) (readMv : Nat) (s : State) : exec (.avsResponse ok readMv) s = execAvsResponse ok readMv s := rfl
@[simp] theorem exec_avsRetryTimer (s : State) : exec .avsRetryTimer s = execAvsRetryTimer s := rfl
@[simp] theorem exec_proposalApprove (req : Requester) (v : Word) (s : State) : exec (.proposalApprove req v) s = execProposalApprove req v s := rfl
@[simp] theorem exec_proposalDecline (req : Requester) (v : Word) (s : State) : exec (.proposalDecline req v) s = execProposalDecline req v s := rfl
@[simp] theorem exec_calendarSet (req : Requester) (v : Word) (s : State) : exec (.calendarSet req v) s = execCalendarSet req v s := rfl
@[simp] theorem exec_pohHour (s : State) : exec .pohHour s = execPohHour s := rfl
@[simp] theorem exec_thermalSample (tj : Nat) (s : State) : exec (.thermalSample tj) s = execThermalSample tj s := rfl
@[simp] theorem exec_logRecordProgram (ok : Bool) (s : State) : exec (.logRecordProgram ok) s = execLogRecordProgram ok s := rfl
@[simp] theorem exec_thermalTrip (tj : Nat) (s : State) : exec (.thermalTrip tj) s = execThermalTrip tj s := rfl
@[simp] theorem exec_powerOnReset (s : State) : exec .powerOnReset s = execPowerOnReset s := rfl
@[simp] theorem exec_chipReset (lowNs : Nat) (taken : Bool) (s : State) : exec (.chipReset lowNs taken) s = execChipReset lowNs taken s := rfl
@[simp] theorem exec_warmChipReset (req : Requester) (v : Word) (s : State) : exec (.warmChipReset req v) s = execWarmChipReset req v s := rfl
@[simp] theorem exec_blockGo (req : Requester) (v : Word) (s : State) : exec (.blockGo req v) s = execBlockGo req v s := rfl
@[simp] theorem exec_blockResetComplete (unit : Nat) (s : State) : exec (.blockResetComplete unit) s = execBlockResetComplete unit s := rfl
@[simp] theorem exec_hostPortReset (h : Nat) (s : State) : exec (.hostPortReset h) s = execHostPortReset h s := rfl
@[simp] theorem exec_perstRelease (h : Nat) (s : State) : exec (.perstRelease h) s = execPerstRelease h s := rfl
@[simp] theorem exec_functionLevelReset (fn : Nat) (s : State) : exec (.functionLevelReset fn) s = execFunctionLevelReset fn s := rfl
@[simp] theorem exec_svnCommit (req : Requester) (v : Word) (s : State) : exec (.svnCommit req v) s = execSvnCommit req v s := rfl
@[simp] theorem exec_flashErase (req : Requester) (v : Word) (s : State) : exec (.flashErase req v) s = execFlashErase req v s := rfl
@[simp] theorem exec_flashProgram (req : Requester) (v : Word) (s : State) : exec (.flashProgram req v) s = execFlashProgram req v s := rfl
@[simp] theorem exec_flashRead (req : Requester) (v : Word) (s : State) : exec (.flashRead req v) s = execFlashRead req v s := rfl
@[simp] theorem exec_flashVerify (req : Requester) (v : Word) (s : State) : exec (.flashVerify req v) s = execFlashVerify req v s := rfl
@[simp] theorem exec_flashCommandDone (ok : Bool) (s : State) : exec (.flashCommandDone ok) s = execFlashCommandDone ok s := rfl
@[simp] theorem exec_dbgChallenge (nonce : List Byte) (s : State) : exec (.dbgChallenge nonce) s = execDbgChallenge nonce s := rfl
@[simp] theorem exec_dbgResponse (scope : Byte) (key : List Byte) (sig : List Byte) (s : State) : exec (.dbgResponse scope key sig) s = execDbgResponse scope key sig s := rfl
@[simp] theorem exec_dbgLockoutExpiry (s : State) : exec .dbgLockoutExpiry s = execDbgLockoutExpiry s := rfl
@[simp] theorem exec_jtagInstructionLoad (i : JtagInstr) (s : State) : exec (.jtagInstructionLoad i) s = execJtagInstructionLoad i s := rfl
@[simp] theorem exec_railUndervoltage (rail : Nat) (lowNs : Nat) (s : State) : exec (.railUndervoltage rail lowNs) s = execRailUndervoltage rail lowNs s := rfl
@[simp] theorem exec_railRestored (back : RailsBack) (mode : BitVec 2) (sensorTj : Nat) (s : State) : exec (.railRestored back mode sensorTj) s = execRailRestored back mode sensorTj s := rfl
@[simp] theorem exec_setOffset (bytes : List Byte) (pecOk : Bool) (s : State) : exec (.setOffset bytes pecOk) s = execSetOffset bytes pecOk s := rfl
@[simp] theorem exec_read (pecOk : Bool) (s : State) : exec (.read pecOk) s = execRead pecOk s := rfl
@[simp] theorem exec_write (bytes : List Byte) (pecOk : Bool) (s : State) : exec (.write bytes pecOk) s = execWrite bytes pecOk s := rfl
@[simp] theorem exec_counterSet (req : Requester) (n : Nat) (v : Word) (s : State) : exec (.counterSet req n v) s = execCounterSet req n v s := rfl
@[simp] theorem exec_clearAll (req : Requester) (v : Word) (s : State) : exec (.clearAll req v) s = execClearAll req v s := rfl
@[simp] theorem exec_freeze (req : Requester) (v : Word) (s : State) : exec (.freeze req v) s = execFreeze req v s := rfl
@[simp] theorem exec_samplerEnable (req : Requester) (v : Word) (s : State) : exec (.samplerEnable req v) s = execSamplerEnable req v s := rfl
@[simp] theorem exec_sampleHoldExpiry (tag : Nat) (s : State) : exec (.sampleHoldExpiry tag) s = execSampleHoldExpiry tag s := rfl
@[simp] theorem exec_sampleIndexCopy (req : Requester) (v : Word) (s : State) : exec (.sampleIndexCopy req v) s = execSampleIndexCopy req v s := rfl
@[simp] theorem exec_chipResetNRelease (boardId : Byte) (mode : BitVec 2) (sensorTj : Nat) (s : State) : exec (.chipResetNRelease boardId mode sensorTj) s = execChipResetNRelease boardId mode sensorTj s := rfl
@[simp] theorem exec_hostLinkDown (link : Nat) (s : State) : exec (.hostLinkDown link) s = execHostLinkDown link s := rfl
@[simp] theorem exec_hostLinkUp (link : Nat) (cxl : Bool) (s : State) : exec (.hostLinkUp link cxl) s = execHostLinkUp link cxl s := rfl
@[simp] theorem exec_refclkBRestore (s : State) : exec .refclkBRestore s = execRefclkBRestore s := rfl
@[simp] theorem exec_stackFail (st : Nat) (s : State) : exec (.stackFail st) s = execStackFail st s := rfl
@[simp] theorem exec_keeperCoreError (core : Nat) (s : State) : exec (.keeperCoreError core) s = execKeeperCoreError core s := rfl
@[simp] theorem exec_storeTempHigh (st : Nat) (temp : Nat) (s : State) : exec (.storeTempHigh st temp) s = execStoreTempHigh st temp s := rfl
@[simp] theorem exec_signalLoss (port : Nat) (lane : Nat) (cdrOnly : Bool) (s : State) : exec (.signalLoss port lane cdrOnly) s = execSignalLoss port lane cdrOnly s := rfl
@[simp] theorem exec_standbyPowerLoss (s : State) : exec .standbyPowerLoss s = execStandbyPowerLoss s := rfl
@[simp] theorem exec_aliveEdge (s : State) : exec .aliveEdge s = execAliveEdge s := rfl
@[simp] theorem exec_msixVectorUnmask (fn : Nat) (vec : Nat) (s : State) : exec (.msixVectorUnmask fn vec) s = execMsixVectorUnmask fn vec s := rfl
@[simp] theorem exec_hostNotifySent (s : State) : exec .hostNotifySent s = execHostNotifySent s := rfl

end Sys2Proof.Machine
end

