-- ==== Sys2Proof/Laws/Memory.lean ====
section
/-! SUPPORT. The memories: a read after a write, and that every operation keeps the canonical form. -/

namespace Sys2Proof.Machine

theorem read_above (d : Byte) (m : List Host.Cell) (a : Nat) (h : ∀ c ∈ m, a < c.1) : Memory.read d m a = d := by
  induction m with
  | nil => rfl
  | cons c m ih =>
    obtain ⟨k, v⟩ := c
    have hk : a < k := h (k, v) (by simp)
    simp only [Memory.read]
    rw [if_neg (by omega)]
    exact ih fun c hc => h c (by simp [hc])

theorem memory_wf_cons (d : Byte) (k : Nat) (v : Byte) (m : List Host.Cell) :
    Memory.wf d ((k, v) :: m) = true ↔ ((∀ c ∈ m, k < c.1) ∧ v ≠ d) ∧ Memory.wf d m = true := by
  simp [Memory.wf]; tauto

/-- A byte reads as what was written to it last. -/
theorem read_write_same (d : Byte) (m : List Host.Cell) (a : Nat) (b : Byte) (h : Memory.wf d m = true) :
    Memory.read d (Memory.write d m a b) a = b := by
  induction m with
  | nil => simp only [Memory.write]; split <;> simp_all [Memory.read]
  | cons c m ih =>
    obtain ⟨k, v⟩ := c
    obtain ⟨⟨h1, h2⟩, h3⟩ := (memory_wf_cons d k v m).1 h
    simp only [Memory.write]
    split
    · next hk =>
      split
      · next hb =>
        subst hb
        exact read_above b _ a fun c hc => by
          simp only [List.mem_cons] at hc
          rcases hc with rfl | hc
          · exact hk
          · exact Nat.lt_trans hk (h1 c hc)
      · simp [Memory.read]
    · split
      · next hk =>
        subst hk
        split
        · next hb => subst hb; exact read_above b m k h1
        · simp [Memory.read]
      · next hne => simp [Memory.read, hne, ih h3]

/-- A write leaves every other byte alone. -/
theorem read_write_other (d : Byte) (m : List Host.Cell) (a x : Nat) (b : Byte) (hx : x ≠ a) :
    Memory.read d (Memory.write d m a b) x = Memory.read d m x := by
  induction m with
  | nil => simp only [Memory.write]; split <;> simp [Memory.read, Ne.symm hx]
  | cons c m ih =>
    obtain ⟨k, v⟩ := c
    simp only [Memory.write]
    split
    · split <;> simp [Memory.read, Ne.symm hx]
    · split
      · next hk =>
        subst hk
        split <;> simp [Memory.read, Ne.symm hx]
      · simp only [Memory.read, ih]

theorem write_above (d : Byte) (m : List Host.Cell) (a k : Nat) (b : Byte) (h : ∀ c ∈ m, k < c.1) (ha : k < a) :
    ∀ c ∈ Memory.write d m a b, k < c.1 := by
  induction m with
  | nil => intro c hc; simp only [Memory.write] at hc; split at hc <;> simp_all
  | cons c m ih =>
    obtain ⟨l, v⟩ := c
    have hl : k < l := h (l, v) (by simp)
    have ht : ∀ c ∈ m, k < c.1 := fun c hc => h c (by simp [hc])
    intro c hc
    simp only [Memory.write] at hc
    split at hc
    · split at hc
      · exact h c hc
      · simp only [List.mem_cons] at hc
        rcases hc with rfl | rfl | hc
        · exact ha
        · exact hl
        · exact ht c hc
    · split at hc
      · split at hc
        · exact ht c hc
        · simp only [List.mem_cons] at hc
          rcases hc with rfl | hc
          · exact ha
          · exact ht c hc
      · simp only [List.mem_cons] at hc
        rcases hc with rfl | hc
        · exact hl
        · exact ih ht c hc

/-- A write keeps the canonical form. -/
theorem write_wf (d : Byte) (m : List Host.Cell) (a : Nat) (b : Byte) (h : Memory.wf d m = true) :
    Memory.wf d (Memory.write d m a b) = true := by
  induction m with
  | nil => simp only [Memory.write]; split <;> simp_all [Memory.wf]
  | cons c m ih =>
    obtain ⟨k, v⟩ := c
    obtain ⟨⟨h1, h2⟩, h3⟩ := (memory_wf_cons d k v m).1 h
    simp only [Memory.write]
    split
    · next hk =>
      split
      · exact h
      · next hb =>
        refine (memory_wf_cons d a b _).2 ⟨⟨?_, hb⟩, h⟩
        intro c hc
        simp only [List.mem_cons] at hc
        rcases hc with rfl | hc
        · exact hk
        · exact Nat.lt_trans hk (h1 c hc)
    · split
      · next hk =>
        subst hk
        split
        · exact h3
        · next hb => exact (memory_wf_cons d k b m).2 ⟨⟨h1, hb⟩, h3⟩
      · next hlt hne => exact (memory_wf_cons d k v _).2 ⟨⟨write_above d m a k b h1 (by omega), h2⟩, ih h3⟩

/-- Writing a string keeps the canonical form. -/
theorem writeN_wf (d : Byte) (m : List Host.Cell) (a : Nat) (l : List Byte) (h : Memory.wf d m = true) :
    Memory.wf d (Memory.writeN d m a l) = true := by
  induction l generalizing m a with
  | nil => exact h
  | cons b l ih => exact ih _ _ (write_wf d m a b h)

/-- Writing a string leaves every byte outside it alone. -/
theorem read_writeN_other (d : Byte) (m : List Host.Cell) (a x : Nat) (l : List Byte) (hx : x < a ∨ a + l.length ≤ x) :
    Memory.read d (Memory.writeN d m a l) x = Memory.read d m x := by
  induction l generalizing m a with
  | nil => rfl
  | cons b l ih =>
    simp only [List.length_cons] at hx
    rw [Memory.writeN, ih _ _ (by omega), read_write_other d m a x b (by omega)]

/-- Byte `i` of a string that was written reads as written. -/
theorem read_writeN_inside (d : Byte) (m : List Host.Cell) (a : Nat) (l : List Byte) (i : Nat) (hi : i < l.length)
    (h : Memory.wf d m = true) : Memory.read d (Memory.writeN d m a l) (a + i) = l[i] := by
  induction l generalizing m a i with
  | nil => simp at hi
  | cons b l ih =>
    rw [Memory.writeN]
    cases i with
    | zero => rw [read_writeN_other d _ _ _ _ (by omega), Nat.add_zero, read_write_same d m a b h]; rfl
    | succ i =>
      have := ih (Memory.write d m a b) (a + 1) i (by simpa using hi) (write_wf d m a b h)
      rw [show a + (i + 1) = a + 1 + i by omega, this]; rfl

/-- The store's, flash's and hives' memories are in their canonical form at reset. -/
theorem reset_store_wf : Memory.wf 0 State.reset.store = true := by decide

end Sys2Proof.Machine
end

