-- ==== Sys2Proof/Laws/Threads.lean ====
section
/-! SUPPORT. What an instruction command does once it issues. -/

namespace Sys2Proof.Machine

theorem canIssue_running {s : State} {t : Nat} {i : Instr} (h : s.canIssue t i = true) : s.ft.rootLost = false ∧ t < 1024 ∧ (s.thread t).wait = .none := by
  simp only [State.canIssue, Bool.and_eq_true, Bool.not_eq_true', beq_iff_eq, decide_eq_true_eq] at h
  tauto

/-- An instruction that may issue runs what it prepares. -/
theorem instr_issues {s : State} {t : Nat} {i : Instr} (h : s.canIssue t i = true)
    (prep : BitVec 32 → State → State × Option (State → State)) :
    s.instr t i prep = match prep ((encodeWord i).getD 0) s with
      | (s, some k) => ok (k (s.issued t ((encodeWord i).getD 0)))
      | (s, none) => ok s := by
  simp only [State.canIssue, Bool.and_eq_true, Bool.not_eq_true', beq_iff_eq, decide_eq_true_eq, Bool.and_eq_false_iff,
    Bool.or_eq_false_iff, Option.isNone_iff_eq_none] at h
  obtain ⟨⟨⟨⟨⟨⟨⟨⟨⟨⟨h0, h1⟩, h2⟩, h3⟩, h4⟩, h5⟩, h6⟩, h7⟩, h8⟩, h9⟩, h10⟩ := h
  have e1 : ¬(s.ft.rootLost = true ∨ 1024 ≤ t ∨ (s.thread t).st ≠ .running ∨ (s.thread t).wait ≠ .none
      ∨ (s.thread t).waitsOn ((encodeWord i).getD 0) = true) := by
    rintro (h | h | h | h | h)
    · rw [h0] at h; exact absurd h (by simp)
    · omega
    · exact h h2
    · exact h h3
    · rw [h4] at h; exact absurd h (by simp)
  have e2 : ¬((s.thread t).priv = 1 ∧ (s.thread t).budget = 0) := by
    rintro ⟨a, b⟩; rcases h6 with h | h
    · simp [a] at h
    · simp [b] at h
  have e3 : ¬((s.thread t).priv = 1 ∧ (!handlerAllows i) = true) := by
    rintro ⟨a, b⟩; rcases h9 with h | h
    · simp [a] at h
    · simp [h] at b
  have e4 : ¬(effectful ((encodeWord i).getD 0) = true ∧ (s.thread t).discarded = true) := by
    rintro ⟨a, b⟩; rcases h10 with h | h
    · rw [a] at h; exact absurd h (by simp)
    · simp [b] at h
  have e5 : ¬(effectful ((encodeWord i).getD 0) = true ∧ ((s.thread t).window.elim false fun v => !v.verified) = true) := by
    rintro ⟨a, b⟩; rcases h10 with h | h
    · rw [a] at h; exact absurd h (by simp)
    · simp [Thread.unverified, b] at h
  simp only [State.instr]
  rw [if_neg e1]
  simp only [h5, h7, h8]
  rw [if_neg e2, if_neg (by simp), if_neg e3, if_neg e4]
  exact if_neg e5

theorem instr1_issues {s : State} {t : Nat} {i : Instr} (h : s.canIssue t i = true) (k : BitVec 32 → State → State) :
    s.instr1 t i k = ok (k ((encodeWord i).getD 0) (s.issued t ((encodeWord i).getD 0))) := by
  rw [State.instr1, instr_issues h]

/-- With the sampler off, issuing counts the instruction and takes it from a handler's budget. -/
theorem issued_calm {s : State} {t : Nat} (h : s.calm t = true) (w : BitVec 32) :
    s.issued t w = (s.counted t).setThread t (s.thread t).spent := by
  simp only [State.calm, Bool.and_eq_true, Bool.not_eq_true', Option.isNone_iff_eq_none, List.isEmpty_iff] at h
  obtain ⟨⟨⟨hs, ht⟩, hsoft⟩, ho⟩ := h
  have hf : s.fetched t = s := corrected_none _ _ _ hsoft
  have ho' : ((s.count 0x100 (t / 128) 1 (s.threadOwner t)).xl.opens.all fun a => !(a.who == .thread t)) = true := by rw [count_xl]; exact ho
  have hb := count_sameBut s 0x100 (t / 128) 1 (s.threadOwner t)
  have hsamp := (sameBut_sampler hb).trans hs
  have hth : (s.count 0x100 (t / 128) 1 (s.threadOwner t)).thread t = s.thread t := by simp [State.thread]
  simp only [State.issued, hf, sample_off _ _ _ _ _ _ _ hsamp, stamp_none, ite_self, State.forgetAccesses, if_pos ho', State.modThread, hth,
    State.counted, Thread.spent, ht]

@[simp] theorem thread_counted (s : State) (t u : Nat) : (s.counted t).thread u = s.thread u := by
  simp [State.counted, State.thread]

/-- Going on with the next word, while nothing is sampled. -/
theorem goOn_plain (s : State) (t : Nat) (x : Thread) (htag : x.tag = none) (hw : x.wait = .none) (hc : x.pc + 4 < x.code) :
    (s.setThread t x).goOn t = s.setThread t { x with pc := x.pc + 4 } := by
  simp [State.goOn, State.modThread, htag, hc]
  cases x
  simp_all

/-- A jump to a target in the code, while nothing is sampled. -/
theorem jump_plain (s : State) (t : Nat) (x : Thread) (w : BitVec 32) (target : Int) (link : GReg) (htag : x.tag = none)
    (hc : inCode x.code target = true) :
    (s.setThread t x).jump t w target link
      = s.setThread t { x.put link (BitVec.ofNat 64 (x.pc + 4)) with pc := target.toNat, tag := none } := by
  simp [State.jump, htag, hc]

/-- The trap of a firmware thread outside its trap routine (R345), while nothing is sampled. -/
theorem trap_plain (s : State) (t : Nat) (x : Thread) (y : Trap) (htag : x.tag = none) (hw : x.wait = .none) (hl : x.last = none)
    (hm : x.mayTrap = true) (ho : (s.xl.opens.all fun a => !(a.who == .thread t)) = true) :
    (s.setThread t x).trap t y = s.setThread t { x.loseResv with
      trapCause := y.cause, trapPc := y.pc, trapInfo := BitVec.ofNat 64 y.info, trapDetail := y.detail, inTrap := true,
      pc := x.trapVec } := by
  simp only [Thread.mayTrap, Bool.and_eq_true, Bool.not_eq_true', Option.isNone_iff_eq_none] at hm
  obtain ⟨⟨h1, h2⟩, h3⟩ := hm
  simp [State.trap, State.forgetAccesses, -List.all_eq_true, State.modThread, htag, h1, h2, Thread.loseResv]
  cases x
  simp_all

theorem put_tag (x : Thread) (r : GReg) (v : Word) : (x.put r v).tag = x.tag := by unfold Thread.put; split <;> rfl
theorem put_wait (x : Thread) (r : GReg) (v : Word) : (x.put r v).wait = x.wait := by unfold Thread.put; split <;> rfl
theorem put_pc (x : Thread) (r : GReg) (v : Word) : (x.put r v).pc = x.pc := by unfold Thread.put; split <;> rfl
theorem put_code (x : Thread) (r : GReg) (v : Word) : (x.put r v).code = x.code := by unfold Thread.put; split <;> rfl

/-- An instruction that writes `v` to rd, for a thread at an instruction, while nothing is sampled. -/
theorem result_plain (s : State) (t : Nat) (x : Thread) (rd : GReg) (v : Word) (htag : x.tag = none) (hw : x.wait = .none)
    (hc : x.pc + 4 < x.code) : (s.setThread t x).result t rd v = s.setThread t (x.wrote rd v) := by
  simp only [State.result, State.setReg, thread_setThread_same, setThread_setThread]
  rw [goOn_plain _ _ _ (by rw [put_tag, htag]) (by rw [put_wait, hw]) (by rw [put_pc, put_code]; exact hc)]
  simp [Thread.wrote, put_pc]

theorem calm_tag {s : State} {t : Nat} (h : s.calm t = true) : (s.thread t).spent.tag = none := by
  simp only [State.calm, Bool.and_eq_true, Option.isNone_iff_eq_none] at h
  exact h.1.1.2

/-- A plain instruction that issues writes its value and goes on. -/
theorem writes_stepped {s : State} {t : Nat} {i : Instr} (hi : s.canIssue t i = true) (hc : s.calm t = true)
    (hp : (s.thread t).pc + 4 < (s.thread t).code) (rd : GReg) (f : State → Word)
    (hf : f ((s.counted t).setThread t (s.thread t).spent) = f s) :
    (s.instr1 t i fun _ s => s.result t rd (f s)) = s.stepped t (Thread.wrote rd (f s)) := by
  rw [instr1_issues hi, issued_calm hc, result_plain _ _ _ _ _ (calm_tag hc) (canIssue_running hi).2.2 hp, hf]
  rfl

end Sys2Proof.Machine
end

