-- ==== Sys2Proof/Laws/Writes.lean ====
section
/-! SUPPORT. What an accepted register write does: it stores its fields and then acts. -/

namespace Sys2Proof.Machine

/-- An accepted write stores its fields and acts. -/
theorem regWrite_accepts {s : State} {req : Requester} {off a : Nat} {v : Word} (h : s.accepts req off a v) (m : Option Measurement) :
    s.regWrite req off 8 v m = (s.stored a v).act { s.writeOf req a v with meas := m } := by
  obtain ⟨h1, h2, h3, h4, h5, h6⟩ := h
  have e1 : accessOk req off 8 = true := by simp [accessOk, h2]
  have e2 : off / 8 * 8 = off := by omega
  have e3 : accessMask off 8 = BitVec.allOnes 64 := rfl
  simp only [State.regWrite, h1, e1, e2, h3, h4, e3, Bool.not_true, Bool.false_eq_true, if_false]
  simp only [show ¬(8 = 4 ∧ off % 8 = 4) by omega, if_false, State.writeAt, h5, Bool.not_true, Bool.false_eq_true]
  cases hs : specOf a with
  | none => simp [State.wordAfter, hs] at h6
  | some r =>
    simp only [State.wordAfter, hs] at h6
    simp only [State.stored, State.writeOf, State.wordAfter, hs, h6, Option.map_some, Option.getD_some, BitVec.and_allOnes]
    rfl

end Sys2Proof.Machine
end

