-- ==== Sys2Proof/Tests/Slice0.lean ====
section
/-! SUPPORT. Tests: ill-formed commands are refused, words written out from the spec decode, and for the statements with hypotheses a
state and operands that meet them. Expected values are the spec's tables and worked numbers. -/

namespace Sys2Proof.Tests

set_option Elab.async false

open Sys2Proof.Machine

/-- A network packet of no content. -/
def packet0 : Packet := { net := {}, body := .mgmt {} }

/-! ### Well-formed commands: a term for each check, which it refuses -/

theorem test_wf_threads_and_fields : [Instr.sysNop 1024, .clz 0 1 2 1, .shifti 0 1 2 256, .lr 0 1 2 8, .atomFadd 0 1 2 3 4 2, .csrr 0 1 5, .csrr 0 1 0x1B,
    .csrw 0 1 7, .packetHandoff 1024 packet0 0 0 false false, .packetHandoff 0 packet0 72 0 false false].all (fun i => !i.wf) = true := by decide

theorem test_wf_functions_and_queues : [Instr.createPd 2048, .nop 0 (2 ^ 21), .nop 2048 0, .sendDoorbell 0 0 2 0, .cqDoorbell 2048 0 8 0,
    .eqDoorbell 0 6 0, .retransmitTimeout (2 ^ 24) 0 0 0, .retransmitTimeout 0 (2 ^ 20) 0 0, .retransmitTimeout 0 0 (2 ^ 24) 0,
    .retransmitTimeout 0 0 0 (2 ^ 24), .createQp 0 (2 ^ 24), .handlerStart 0 0 1024, .epochTimeout 65536].all (fun i => !i.wf) = true := by decide

theorem test_wf_ports_and_units : [Instr.replayTimeout 72, .cdrLock 0 2, .backoffExpiry 22 0, .hostLinkDown 8, .hostPortReset 4, .keeperCoreError 4,
    .railUndervoltage 5 0, .throttleRelease 16, .quiesceDrained 8].all (fun i => !i.wf) = true := by decide

theorem test_wf_register_commands : [Instr.registerWrite (.host 2048) 0 8 0, .registerWrite (.keeper 4) 0 8 0, .registerWrite (.thread 1024) 0 8 0,
    .registerWrite (.host 0) 0 2 0, .quiesce .smbus 8 0, .lckWordClaim .smbus 4096 0, .counterSet .smbus 512 0, .xltCtxWrite .smbus 2048 0,
    .evtStatusClear .smbus 16 0, .linkEnable .smbus 72 0, .injectOne .smbus 0 2 0, .abiRequest .smbus 2048 0].all (fun i => !i.wf) = true := by decide

theorem test_wf_accepts : [Instr.sysNop 1023, .clz 0 1 2 0, .shifti 0 1 2 255, .csrr 0 1 0x1A, .createPd 2047, .replayTimeout 71, .quiesceDrained 7,
    .registerWrite .smbus 0 4 0, .aliveEdge].all Instr.wf = true := by decide

/-! ### Words written out from the spec's formats (R322 to R343): FN or IMM, then rc, rb, ra, rd, OP -/

theorem test_word_alu : decodeWord 7 0b00000000000000100000100011000001#32 = some (.add 7 3 1 2)
    ∧ decodeWord 7 0b00000100000000100000100011000001#32 = none := by decide
theorem test_word_unary : decodeWord 0 0b00000010111000000010000101000001#32 = some (.bswap4 0 5 4 0)
    ∧ decodeWord 0 0b00000010111000010010000101000001#32 = none := by decide
theorem test_word_immediate : decodeWord 0 0b11111111111111110010000101000100#32 = some (.addi 0 5 4 0xFFFF) := by decide
theorem test_word_shift : decodeWord 0 0b00000000110001010001000001001010#32 = some (.shifti 0 1 2 0xC5)
    ∧ decodeWord 0 0b00000001000001010001000001001010#32 = none := by decide
theorem test_word_lih : decodeWord 0 0b10101010101010101010111111001011#32 = some (.lih 0 31 0x155555) := by decide
theorem test_word_load : decodeWord 0 0b00000000000010000001000001010110#32 = some (.ld 0 1 2 8) := by decide
theorem test_word_store : decodeWord 0 0b11111111111110000001000111011011#32 = some (.sd 0 7 2 0xFFF8) := by decide
theorem test_word_reserved_pair : decodeWord 0 0b00000000000000000001000001011100#32 = some (.lr 0 1 2 0)
    ∧ decodeWord 0 0b00000000000000110001000001011101#32 = some (.sc 0 1 2 3) := by decide
theorem test_word_atomic : decodeWord 0 0b00111100100000110001000001011110#32 = some (.atomSmax 0 1 2 3 4 1)
    ∧ decodeWord 0 0b01000000100000110001000001011110#32 = none := by decide
theorem test_word_branch : decodeWord 0 0b11111111111111100011000101100010#32 = some (.blt 0 5 6 0xFFFE) := by decide
theorem test_word_jump : decodeWord 0 0b00000000000000000000111111100110#32 = some (.jal 0 31 1) := by decide
theorem test_word_fence : decodeWord 0 0b00000000011000000000001001101000#32 = some (.fenceDevice 0 9) := by decide
theorem test_word_csr : decodeWord 0 0b00000000000100100000001000101100#32 = some (.csrr 0 8 0x12)
    ∧ decodeWord 0 0b00000000000100010010000000101101#32 = some (.csrw 0 4 0x11) := by decide
theorem test_word_packet : decodeWord 0 0b00000101101011000101101010110010#32 = some (.psend 0 10 11 12 13) := by decide
theorem test_word_dma : decodeWord 0 0b00000100100000110001000001110100#32 = some (.place 0 1 2 3 4) := by decide
theorem test_word_match : decodeWord 0 0b00001000000000000011000101110110#32 = some (.cancel 0 5 6) := by decide
theorem test_word_lock : decodeWord 0 0b00000000001000001010010011111000#32 = some (.lrel 0 19 20) := by decide
theorem test_word_event : decodeWord 0 0b00000000000100101000100000111010#32 = some (.evraise 0 17 18) := by decide
theorem test_word_system : decodeWord 0 0b00000000100000000000100000111100#32 = some (.xret 0 1) ∧ decodeWord 0 0 = none := by decide
theorem test_word_wellformed : Instr.wf (.add 7 3 1 2) = true ∧ encodeWord (.add 7 3 1 2) = some 0b00000000000000100000100011000001#32
    ∧ (decodeWord 7 0b00000000000000100000100011000001#32).isSome = true := by decide

/-! ### Values from the spec's tables and examples -/

theorem test_crc32c_check_value : crc32c [0x31, 0x32, 0x33, 0x34, 0x35, 0x36, 0x37, 0x38, 0x39] = 0xE3069283#32 := by decide +kernel

/-- R178's example: 1.0, 2^-60 and -1.0 sum exactly to 2^-60. -/
theorem test_exact_sum_example : (let f : Fmt := ⟨53, 64, 1023⟩
    f.round (((f.decode 0x3FF0000000000000).join (f.decode 0x3C30000000000000)).join (f.decode 0xBFF0000000000000))) = 0x3C30000000000000 := by
  decide +kernel

/-! ### Witnesses: states and operands that meet the hypotheses of the statements -/

/-- A running firmware thread with 16 words of code, at its third one. -/
def fw : Thread := { st := .running, code := 64, pc := 8, trapVec := 32, regs := [(1, 0x180000), (2, 0x10), (4, 0x4000000000000000)] }

/-- A handler with a run and budget. -/
def hd : Thread := { fw with priv := 1, budget := 5, events := 4, run := some { handler := 3, fn := 0, pd := 0, qpn := 9, recv := 0, off0 := 0, len0 := 64 } }

/-- A machine at reset but for thread 0. -/
def at0 (x : Thread) : State := { fg := { threads := [(0, x)], sram := [(0, [(0x180000, 7)])], fwRodata := [1, 2, 3, 4, 5, 6, 7, 8] } }

theorem test_witness_alu : (at0 fw).calm 0 = true ∧ ((at0 fw).thread 0).pc + 4 < ((at0 fw).thread 0).code
    ∧ [Instr.add 0 3 1 2, .sub 0 3 1 2, .and 0 3 1 2, .or 0 3 1 2, .xor 0 3 1 2, .sll 0 3 1 2, .srl 0 3 1 2, .sra 0 3 1 2, .slt 0 3 1 2, .sltu 0 3 1 2,
      .mul 0 3 1 2, .mulhu 0 3 1 2, .mulh 0 3 1 2, .divu 0 3 1 0, .remu 0 3 1 0, .min 0 3 1 2, .max 0 3 1 2, .minu 0 3 1 2, .maxu 0 3 1 2, .clz 0 3 1 0,
      .ctz 0 3 1 0, .popc 0 3 1 0, .bswap 0 3 1 0, .bswap4 0 3 1 0, .crc8 0 3 1 2, .addi 0 0 1 0xFFFF, .andi 0 3 1 1, .ori 0 3 1 1, .xori 0 3 1 1,
      .slti 0 3 1 1, .sltiu 0 3 1 1, .shifti 0 3 1 63, .shifti 0 3 1 64, .shifti 0 3 1 127, .shifti 0 3 1 128, .shifti 0 3 1 191, .shifti 0 3 1 192,
      .shifti 0 3 1 255, .lih 0 3 1].all ((at0 fw).canIssue 0) = true := by decide +kernel

theorem test_witness_branches : [Instr.beq 0 1 1 1, .bne 0 2 1 0xFFFE, .blt 0 1 2 1, .bge 0 1 1 1, .bltu 0 1 2 1, .bgeu 0 2 1 1, .jal 0 31 13,
      .jalr 0 5 0 60].all ((at0 fw).canIssue 0) = true ∧ inCode 64 60 = true ∧ inCode 64 0 = true ∧ inCode 64 64 = false ∧ inCode 64 2 = false
    ∧ ((at0 fw).thread 0).mayTrap = true ∧ (at0 { fw with pc := 60 }).canIssue 0 (.sysNop 0) = true := by decide +kernel

theorem test_witness_fences : (at0 fw).calm 0 = true ∧ [Instr.fenceFull 0 3, .fenceAcquire 0 3, .fenceRelease 0 3, .fenceDevice 0 3].all (fun i =>
      (at0 fw).canIssue 0 i && (at0 { fw with pend := [{ id := 0, kind := .load, target := .store, addr := 0, width := 8 }] }).canIssue 0 i) = true := by
  decide +kernel

theorem test_witness_control_registers : [0, 1, 2, 3, 4, 8, 15, 0x10, 0x11, 0x12, 0x13, 0x14, 0x15, 0x16, 0x17, 0x18, 0x19, 0x1A].all (fun n : BitVec 16 =>
      (at0 fw).canIssue 0 (.csrr 0 3 n) && (csrAccess false n.toNat).any (·.1)) = true
    ∧ [8, 15, 0x10, 0x11, 0x16, 0x18, 0x19].all (fun n : BitVec 16 => (at0 fw).canIssue 0 (.csrw 0 1 n) && (csrAccess false n.toNat).any (·.2)) = true
    ∧ (at0 hd).canIssue 0 (.csrr 0 3 2) = true ∧ csrAccess false 5 = none ∧ csrAccess false 0x12 = some (true, false) := by decide +kernel

theorem test_witness_system : [Instr.sysNop 0, .yieldSlot 0, .trap 0 1, .xret 0 1, .wait 0 3, .exit 0, .evraise 0 5 1].all
      ((at0 { fw with regs := (5, 0x380) :: fw.regs, trapPc := 8 }).canIssue 0) = true ∧ inCode 64 12 = true
    ∧ ((at0 { fw with wait := .signal 3 }).thread 0).wait = .signal 3 := by decide +kernel

theorem test_witness_handlers : (at0 hd).calm 0 = true ∧ (at0 hd).canIssue 0 (.sysNop 0) = true ∧ (at0 hd).canIssue 0 (.evraise 0 1 0) = true
    ∧ (at0 { hd with events := 0 }).canIssue 0 (.evraise 0 1 0) = true ∧ ((at0 hd).thread 0).run.isSome = true ∧ (hd.pend = [] ∧ hd.window = none)
    ∧ ((at0 { hd with budget := 0 }).thread 0).budget = 0 ∧ encodeWord (.pnext 0 3) ≠ none := by decide +kernel

theorem test_witness_spaces : (at0 fw).resolve 0 0x1FFFF8 8 accRead = (at0 fw, .ok { target := .hive 0, pieces := [(0x1FFFF8, 8)] })
    ∧ (at0 hd).resolve 0 0xFF8 8 accWrite = (at0 hd, .ok { target := .hive 0, pieces := [(0x180000 + 4096 * 127 + 0xFF8, 8)] })
    ∧ (at0 fw).rat 0 0x1FFFFFFFF8 = .none ∧ (at0 fw).resolve 0 0x4000000000000000 8 accRead = (at0 fw, .ok { target := .rodata, pieces := [(0, 8)] })
    ∧ (at0 fw).resolve 0 0x3000000003FFFFF8 8 accRead = (at0 fw, .ok { target := .reg, pieces := [(0x3FFFFF8, 8)], device := true })
    ∧ (at0 fw).resolve 0 0x7FFFFFFFFFFFFFFF 1 accRead = (at0 fw, .trap 5 0) := by decide +kernel

theorem test_witness_lands_hive : (at0 fw).lands 0 ((at0 fw).greg 0 1) 8 accWrite (.hive 0) 0x180000 := by
  refine ⟨by decide +kernel, by decide +kernel, by decide +kernel, Or.inr ⟨0, rfl⟩⟩
theorem test_witness_lands_store : (at0 fw).lands 0 0x1000000000000040 8 accAtomic .store 0x40 := by
  refine ⟨by decide +kernel, by decide +kernel, by decide +kernel, Or.inl rfl⟩

theorem test_witness_accesses : [Instr.lb 0 3 1 0, .lbu 0 3 1 0, .lh 0 3 1 0, .lhu 0 3 1 0, .lw 0 3 1 0, .lwu 0 3 1 0, .ld 0 3 1 0, .ld 0 3 4 0, .sb 0 2 1 0,
      .sh 0 2 1 0, .sw 0 2 1 0, .sd 0 2 1 0, .lr 0 3 1 0, .sc 0 3 1 2, .atomFadd 0 3 1 2 2 0, .atomCswap 0 3 1 2 2 1, .atomSwap 0 3 1 2 2 0,
      .atomAnd 0 3 1 2 2 0, .atomOr 0 3 1 2 2 0, .atomXor 0 3 1 2 2 0, .atomSmin 0 3 1 2 2 0, .atomSmax 0 3 1 2 2 1].all ((at0 fw).canIssue 0) = true
    ∧ fw.clear (.hive 0) 0x180000 8 = true ∧ (at0 fw).compatRange 0x40 8 = false ∧ ((at0 fw).rodata 0).length = 8 := by decide +kernel

/-- An access of hive SRAM of each kind, due. -/
def acc (k : AccKind) (tg : Target) : Access :=
  { id := 0, kind := k, target := tg, addr := 0x180000, width := 8, total := 8, rd := some 3, bytes := [1, 2, 3, 4, 5, 6, 7, 8] }

theorem test_witness_due : [AccKind.load, .store, .lr, .sc, .atomic].all (fun k => [Target.hive 0, .store].all fun tg =>
      (at0 { fw with pend := [acc k tg], nextAcc := 1 }).due 0 0 (acc k tg)) = true
    ∧ (at0 { fw with pend := [acc .load (.hive 0)] }).quiet = true ∧ (at0 fw).storeAnswers = true ∧ (at0 fw).poisoned 0x180000 8 = false
    ∧ ((at0 { fw with pend := [{ acc .store .store with device := true, reached := true, performed := true }] }).thread 0).access 0
      = some { acc .store .store with device := true, reached := true, performed := true }
    ∧ ((at0 { fw with pend := [{ acc .load (.host 0) with device := true }] }).thread 0).access 0 = some { acc .load (.host 0) with device := true } := by
  decide +kernel

/-- A packet of a payload, in a window that waits for its verdict. -/
def win : InWindow := { pkt := { payload := [1, 2, 3, 4] }, port := 5, vl := 0, handle := 0, arrived := 0, context := 0, fromMiss := false, verified := false }

theorem test_witness_packets : [Instr.pwld 0 3 2 0xC070, .pwst 0 3 2 0xC028, .pnext 0 3, .pdone 0 3, .eidlk 0 3 1, .psend 0 3 1 0 2, .psend 0 3 1 0 0].all
      ((at0 fw).canIssue 0) = true ∧ (at0 fw).calm 0 = true ∧ (0x10 : Nat) + 0x70 = 128
    ∧ ((at0 { fw with window := some win }).thread 0).window = some win ∧ win.pkt.cells ≤ nth (({ held := [3] } : Port).held) win.pkt.net.vl
    ∧ (at0 fw).admits 3 = true ∧ servedBy win.pkt 0 ∧ win.pkt.stomped = false ∧ fw.pend = [] := by decide +kernel

theorem test_witness_copies : (at0 fw).canIssue 0 (.copy 0 3 1 1 2) = true ∧ (at0 { fw with window := some { win with verified := true } }).canIssue 0
      (.place 0 3 1 0 6) = true ∧ fw.clear (.hive 0) 0x180000 16 = true ∧ ({ fw with window := some { win with verified := true } } : Thread).unverified = false
    ∧ (at0 { fw with regs := [(2, 0x100001)] }).canIssue 0 (.copy 0 3 1 1 2) = true := by decide +kernel

theorem test_witness_match_calls : [Instr.arrive 0 3 1, .post 0 3 1, .cancel 0 3 1].all ((at0 fw).canIssue 0) = true
    ∧ (readEnvelope (List.replicate 32 0)).isSome = true ∧ readEnvelope (List.replicate 32 0xFF) = none
    ∧ ((at0 fw).selectPosted 9 0 1 0 = none ∧ (at0 fw).selectUnexp 0 9 0 1 0 = none)
    ∧ (({ mt := { posted := [⟨9, 0, 0, 0, 1, 0, 0, some 77⟩] } } : State).selectPosted 9 0 1 0).bind (·.handle) = some 77
    ∧ (({ mt := { unexp := [{ id := 0, qpn := 9, conn := 0, fn := 0, ctx := 0, source := 1, tag := 0, seq := 0, cells := 0, length := 0, rts := false, psn := 0, handle := some 77 }] } } : State).selectUnexp 0 9 0 1 0).bind (·.handle) = some 77 := by decide +kernel

theorem test_witness_locks : [Instr.lclaim 0 3 2, .lrel 0 3 2, .lclaimw 0 3 1, .lrelw 0 3 1].all ((at0 fw).canIssue 0) = true
    ∧ (at0 fw).rd Reg.LCK_WORD_IDENTITY 16 = 0 ∧ ((at0 fw).wr Reg.LCK_WORD_HOLDER 0x800 16).rd Reg.LCK_WORD_HOLDER 16 = 0x800 := by decide +kernel

/-! Registers, functions and queues. -/

/-- A device out of reset. -/
def up : State := { bt := { inReset := false, resetLow := false, linkUp := 1, railsUp := 31 } }

/-- An 8-byte write of a keeper core is accepted, as far as it can be computed. -/
def takes (s : State) (x : Nat × Word) : Bool :=
  s.reaches (.keeper 0) x.1 && x.1 % 8 == 0 && (s.viewOf (.keeper 0) x.1).isNone && homeOf (.keeper 0) x.1 == some x.1 && !(s.wordAfter x.1 x.2).2

/-- A write that sets bits of a register's reset value. -/
def sets (x : Nat × Word) : Nat × Word := (x.1, ((specOf x.1).map fun r => up.reg x.1 r.rst).getD 0 ||| x.2)

theorem accepts_of_takes (s : State) (x : Nat × Word) (h : takes s x = true) : s.accepts (.keeper 0) x.1 x.1 x.2 := by
  simp only [takes, Bool.and_eq_true, beq_iff_eq, Bool.not_eq_true', Option.isNone_iff_eq_none] at h
  obtain ⟨⟨⟨⟨h1, h2⟩, h3⟩, h4⟩, h5⟩ := h
  exact ⟨h1, h2, h3, h4, fun _ => rfl, h5⟩

theorem test_witness_platform_registers : [((512 : Nat), (1 : Word)), (568, 0), (800, 1), (832, 1), (832, 0), (832, 0x28000000000002), (1536, 0x101), (0x1008, 0x100),
      (0x1008, 0x80), (0x1008, 0x400), (0x1110, 1), (0x1110, 2), (0x1110, 3), (0x1110, 4), (0x100078, 1), (0x100200, 1), (0x100208, 0x400), (0x100210, 1),
      (0x200018, 1), (0x200030, 0x100), (0x200030, 0x200), (0x200038, 5)].all (fun x => takes up (sets x)) = true
    ∧ up.quiet = true ∧ up.on Reg.BOOT_FLASH_CMD_BUSY = false ∧ up.rd Reg.GLB_RES_OWNER_SPARE_XBAR = 0 ∧ up.rd Reg.GLB_RES_OWNER_TIMEPULSE = 0
    ∧ (up.wr Reg.GLB_RES_OWNER_SPARE_XBAR 1).rd Reg.GLB_RES_OWNER_SPARE_XBAR = 1
    ∧ (up.wr Reg.GLB_SPARE_XBAR_CTRL_LOOP_EN 1).on Reg.GLB_SPARE_XBAR_CTRL_LOOP_EN = true
    ∧ up.on Reg.GLB_SPARE_XBAR_CTRL_LOOP_EN = false ∧ up.on Reg.GLB_SPARE_XBAR_CTRL_MIRROR_EN = false
    ∧ (up.wr Reg.BOOT_FLASH_CMD_BUSY 1).on Reg.BOOT_FLASH_CMD_BUSY = true := by decide +kernel

theorem test_witness_network_registers : [((0xC00020 : Nat), (0x10000 : Word)), (0xC00020, 0x20000), (0xC00000, 1), (0x1000008, 4), (0x1000100, 1),
      (0x1000100, 0x10), (0x2000000, 1), (0x2470000, 1), (0x2470000, 0), (0x2470100, 1), (0x2857000, 0x100), (0x2857000, 0), (0x2857198, 0x100)].all
      (fun x => takes up (sets x)) = true
    ∧ up.reaches (.keeper 0) 0x400000 = true ∧ up.viewOf (.keeper 0) 0x400000 = none ∧ homeOf (.keeper 0) 0x400000 = some 0x4000000
    ∧ (up.wordAfter 0x4000000 (setBit 2 16)).2 = false ∧ Requester.fn (.keeper 0) = 0 := by decide +kernel

theorem test_witness_unit_registers : [((0x3800018 : Nat), (1 : Word)), (0x3800018, 2), (0x3900028, 2), (0x3900028 + 0x2000 * 71, 1),
      (0x3900028 + 0x2000 * 71, 0), (0x3610000, 5), (0x3617FF8, 0), (0x3601600, 0x1000), (0x3601608, 64), (0x3601770, 1), (0x3404FF8, 0), (0x3000100, 2),
      (0x3C00FF8, 5), (0x3C02000, 2), (0x3C02000, 1), (0x3C02008, 1), (0x3C02028, 3)].all (fun x => takes up (sets x)) = true
    ∧ (up.wr Reg.FLT_CTRL_LOCK 1).on Reg.FLT_CTRL_LOCK = true := by decide +kernel

theorem test_witness_accepts : up.accepts (.keeper 0) 0x3C02008 0x3C02008 (sets (0x3C02008, 1)).2 := accepts_of_takes up (sets (0x3C02008, 1)) (by decide +kernel)

/-- A device whose host link 0 has no write access to GLB_ADMIN registers. -/
def noLinks : State := up.wr Reg.GLB_ADMIN_WRITE_LINKS 0

theorem test_witness_denied (g : Nat) : noLinks.adminLink g = false := by
  have h : noLinks.rd Reg.GLB_ADMIN_WRITE_LINKS = 0 := by decide +kernel
  simp [State.adminLink, h]

theorem test_witness_register_accesses : noLinks.reaches (.host 0) 512 = true ∧ noLinks.viewOf (.host 0) 512 = none ∧ homeOf (.host 0) 512 = some 512
    ∧ (specOf 512).isSome = true ∧ accessOk (.host 0) 513 4 = false ∧ accessOk (.host 0) 516 8 = false ∧ up.reaches .smbus 0x3C02010 = true
    ∧ homeOf .smbus 0x4000000 = none ∧ up.reaches .smbus 0x4000000 = true ∧ up.viewOf .smbus 0x4000000 = none
    ∧ homeOf .smbus 0x10 = some 0x10 ∧ specOf 0x3FFFFF8 = none ∧ homeOf (.host 0) (513 / 8 * 8) = some 512 := by decide +kernel

/-- Fields of registers, given one after another. -/
def regsSet : List (Fld × Nat × Nat) → State → State
  | [], s => s
  | (f, v, i) :: l, s => regsSet l (s.wr f v i)

/-- A device with partitions of the uses 1, 2, 5 and 6, the EID 5 for function 0, and its host's table switched on. -/
def dev : State := regsSet [(Reg.GLB_STORE_PART_USE, 1, 0), (Reg.GLB_STORE_PART_SIZE_GIB, 1, 0), (Reg.GLB_STORE_PART_USE, 2, 1),
  (Reg.GLB_STORE_PART_SIZE_GIB, 1, 1), (Reg.GLB_STORE_PART_USE, 5, 2), (Reg.GLB_STORE_PART_SIZE_GIB, 1, 2), (Reg.GLB_STORE_PART_USE, 6, 3),
  (Reg.GLB_STORE_PART_SIZE_GIB, 1, 3), (Reg.RTE_FUNC_EID_VALID, 1, 0), (Reg.RTE_FUNC_EID_EID, 5, 0), (Reg.RTE_EID_WORD_WORD, 2 ^ 31, 3),
  (Reg.XLT_CTX_ENABLE, 1, 0), (Reg.KEY_QUOTA_LIMIT, 9, 0)] up

/-- A cached leaf for the first 4 MiB of function 0, with every right. -/
def leaf0 : Cached := { ctx := 0, level := 1, slot := 0, addr := 0, value := 0x280000008000000F }

/-- A function that has opened version 2.3, with two domains, two completion queues, an event queue, a queue pair and a command. -/
def func1 (ws : List Word) : Func where
  major := 2
  minor := 3
  cmd := some { words := ws, read := true }
  pds := [(1, {}), (2, {})]
  qps := [(1, 9)]
  handlers := [5, 6]
  cqs := [(1, { log := 6, vector := 1, base := 0x1000 }), (2, { log := 6, vector := 1, base := 0x2000 })]
  eq := some { log := 6, vector := 0, base := 0x3000 }

/-- A device with that function 0, queue pairs and keys. -/
def abi (ws : List Word) (l : Map Qp := []) (k : Map KeyEntry := []) : State :=
  { dev with tp := { funcs := [(0, func1 ws)], qps := l }, km := { entries := k, fresh := 4 }, xl := { leaves := [leaf0] } }

/-- The words of a command. -/
def cmdWords (op obj : Nat) (l : List Word) : List Word :=
  let l := BitVec.ofNat 64 (op + obj * 2 ^ 8) :: l
  l ++ List.replicate (8 - l.length) 0

/-- The state of a command's own words, which the command finds. -/
def has (s : State) (op : Nat) (ws : List Word) : Bool := s.quiet && s.cmdOf 0 op == some ws

theorem test_witness_command_blocks : (up.func 0).holdsObjects = false ∧ ((abi []).func 0).holdsObjects = true ∧ up.rd Reg.TPT_CMD_ADDR_ADDR 0 % 64 = 0
    ∧ (up.wr Reg.TPT_ABI_REQUEST_MAJOR 2 0).rd Reg.TPT_ABI_REQUEST_MAJOR 0 = 2 ∧ up.rd Reg.TPT_ABI_REQUEST_MAJOR 0 ≠ 2
    ∧ (up.wr Reg.TPT_CMD_CTRL_BUSY 1 0).on Reg.TPT_CMD_CTRL_BUSY 0 = true ∧ up.on Reg.TPT_CMD_CTRL_BUSY 0 = false
    ∧ ((up.setFunc 0 { cmd := some {} }).func 0).cmd = some {} ∧ cmdOk 3 (cmdWords 1 3 []) = true ∧ cmdOk 3 (cmdWords 0 3 []) = false := by decide +kernel

/-- The queue pair 9 of function 0, in a state. -/
def qp1 (st : QpState) : Qp where
  fn := 0
  idx := 1
  qpn := 9
  st := st
  pd := 1
  sendCq := 1
  recvCq := 1
  rqLog := 6
  sqBase := 0x4000
  rqBase := 0x5000

theorem test_witness_domains : (let w := cmdWords 1 7 []; has (abi w) 1 w && (mget (func1 w).pds 7).isNone)
    ∧ (let w := cmdWords 1 1 []; has (abi w) 1 w && (mget (func1 w).pds 1).isSome)
    ∧ (let w := cmdWords 2 1 []; has (abi w) 2 w && !(abi w).pdUsed 0 1 && has (abi w [(9, qp1 .ready)]) 2 w && (abi w [(9, qp1 .ready)]).pdUsed 0 1)
    ∧ (let w := cmdWords 3 5 [20 + 2 ^ 16, 0x1000]; has (abi w) 3 w && (mget (func1 w).cqs 5).isNone)
    ∧ (let w := cmdWords 3 1 [6, 0]; has (abi w) 3 w && (mget (func1 w).cqs 1).isSome)
    ∧ (let w := cmdWords 4 1 []; has (abi w) 4 w && !(abi w).cqUsed 0 1 && has (abi w [(9, qp1 .ready)]) 4 w && (abi w [(9, qp1 .ready)]).cqUsed 0 1)
    ∧ (let w := cmdWords 5 0 [20, 0x1000]; has (abi w) 5 w && has ((abi w).setFunc 0 { func1 w with eq := none }) 5 w) := by decide +kernel

theorem test_witness_create_qp : (let w := cmdWords 6 2 [1 + 2 ^ 19 + 6 * 2 ^ 24 + 16 * 2 ^ 32, 0x1000, 0x2000, 16, 1 + 2 ^ 33]
    let s := abi w
    has s 6 w && createQpOk 0 3 w && (s.qp 9).isNone && (mget (func1 w).qps 2).isNone && (mget (func1 w).pds (newQp 0 9 w).pd).isSome
      && (mget (func1 w).cqs (newQp 0 9 w).sendCq).isSome && (mget (func1 w).cqs (newQp 0 9 w).recvCq).isSome && decide (s.poolUsed < s.poolSize)
      && decide (cmdOk 3 w)) = true := by decide +kernel

theorem test_witness_modify_qp : [QpState.reset, .init, .ready, .paused, .error].all (fun st => [(7 : Nat), 8, 9].all fun op =>
      (List.range 5).all fun target =>
        let w := cmdWords op 1 [BitVec.ofNat 64 target, 6 + 7 * 2 ^ 32]
        let s := abi w [(9, qp1 st)]
        has s op w && s.qpnOf 0 1 == some 9 && s.qp 9 == some (qp1 st) && s.ownEid 0 == some 5 && (s.eidLookup 6).isSome && (s.eidLookup 7).isNone
          && (s.wr Reg.RTE_FUNC_EID_VALID 0).ownEid 0 == none) = true
    ∧ (((abi [] [(9, qp1 .ready)]).beginReset 9).qp 9).map (·.unread) = some false := by decide +kernel

/-- A region with every right and a window, both of function 0 and domain 1. -/
def region : KeyEntry where
  kind := 1
  rights := 31
  pd := 1
  base := 0x1000
  length := 0x10000

def window : KeyEntry where
  kind := 2
  pd := 1

theorem test_witness_keys : (let w := cmdWords 0x0A 0 [1 + 31 * 2 ^ 16, 0x1000, 1]; let s := abi w; has s 0x0A w && s.freeIndex == some 4 && !s.quotaFull 0)
    ∧ (let w := cmdWords 0x0A 0 [1 + 2 ^ 24, 0x1000, 0x1000, 0]; has (abi w) 0x0A w && (abi w).inUse 6 0 0x1000)
    ∧ (let w := cmdWords 0x0C 0 [1]; has (abi w) 0x0C w && (abi w).freeIndex == some 4)
    ∧ (let w := cmdWords 0x0B 0 [0x101]
      let s := abi w [] [(1, region)]
      let b := abi w [] [(1, { region with inUse := 2 }), (2, { window with bound := true, parent := 1 })]
      has s 0x0B w && s.keyCase 0 0x101 1 == none && !s.hasBound 1 && has b 0x0B w && b.keyCase 0 0x101 1 == none && b.hasBound 1)
    ∧ (let w := cmdWords 0x0D 0 [0x201]
      let s := abi w [] [(2, window)]
      has s 0x0D w && s.keyCase 0 0x201 2 == none
        && (abi w [] [(2, { window with bound := true })]).keyCase 0 0x201 2 == none) := by decide +kernel

/-- A handler image of one EXIT with 8 bytes of read-only data. -/
def image : List Byte :=
  ([0x43485253 + 2 ^ 32 + 2 * 2 ^ 40 + 2 ^ 44, 4 + 8 * 2 ^ 32, 0, 0, 0, 0, 0, 0].flatMap (leBytes 8)) ++ leBytes 4 ((encodeWord (.exit 0)).getD 0).toNat
    ++ List.replicate 8 7

theorem test_witness_handlers_installed : (let w := cmdWords 0x0E 0 [1, 0x2000, 76]
    let s := abi w
    has s 0x0E w && s.scratch && match s.translate (.command 0) 0 0x2000 76 accRead with
      | (v, .ok _ _ _) => v.quiet && v.imageFault 76 image == none
      | _ => false) = true := by decide +kernel

theorem test_witness_rates : (let w := cmdWords 0x10 1 [1000000 + 2 ^ 20, 4160]; has (abi w [(9, qp1 .ready)]) 0x10 w)
    ∧ (let w := cmdWords 0x11 1 [1 + 1000000 * 2 ^ 20 + 2 ^ 40, 4160 + 4160 * 2 ^ 32]; has (abi w) 0x11 w && (mget (func1 w).pds 1).isSome)
    ∧ (let w := cmdWords 0x0F 5 []; has (abi w) 0x0F w && (func1 w).handlers.contains 5 && !(abi w).handlerUsed 0 5)
    ∧ (let w := cmdWords 0x0F 5 []
      let s := abi w [(9, { qp1 .ready with rq := [recvOf 1 1 0 [0, 0, 0, 0, 5]] })]; has s 0x0F w && s.handlerUsed 0 5) := by decide +kernel

theorem test_witness_invalidations : (let w := cmdWords 0x12 0 []; has (abi w) 0x12 w && invContext 0 0 == some 0 && (abi w).drained ((abi w).holders 0 0 (2 ^ 57)))
    ∧ (let w := cmdWords 0x12 0 [1, 2 ^ 56, 2 ^ 56]
      let s := { abi w with tp := { (abi w).tp with reads := [(3, { link := 0, fn := 0, cover := (2 ^ 57 - 1, 1), len := 1, pieces := [], use := .source 9 1 0 0 })] } }
      has s 0x12 w && !s.drained (s.holders 0 (2 ^ 56) (2 ^ 56)) && s.drained ([4], [])) := by decide +kernel

theorem test_witness_doorbells : judgeProducer (2 ^ 32) (2 ^ 32 - 64) 64 1 = .overrun ∧ judgeProducer 64 1 64 65 = .visible 65
    ∧ judgeProducer (2 ^ 32 - 1) (2 ^ 32 - 1) 64 63 = .visible (2 ^ 32 + 63) ∧ judgeProducer 5 5 64 5 = .ignored ∧ judgeProducer 5 5 64 4 = .ignored
    ∧ (let s := abi [] [(9, qp1 .ready)]
      s.doorbellQp 0 1 8 = some (9, qp1 .ready) ∧ s.doorbellQp 0 1 4 = none ∧ s.quiet = true ∧ (s.setQp 9 { qp1 .ready with rqProd := 1 }).postingHeld = false
        ∧ (mget (s.func 0).cqs 1).isSome = true ∧ (s.func 0).eq.isSome = true ∧ mget (s.func 0).cqs 3 = none) := by decide +kernel

/-- A descriptor of an operation, that waits or has come further. -/
def desc1 (op : Nat) (st : DescState := .queued) : Desc where
  id := 1
  opcode := op
  signal := true
  fence := false
  ordered := false
  atomic32 := false
  lkey := 0x101
  laddr := 0x1000
  len := 64
  destEid := 6
  destQpn := 3
  raddr := 0
  rkey := 0x201
  op0 := 2
  op1 := 0
  userId := 77
  st := st

/-- The connection to queue pair 3 of EID 6. -/
def conn1 : Conn where
  peerEid := 6
  peerQpn := 3
  nextPsn := 5
  epsn := 7

/-- A device whose queue pair 9 is ready and connected, with descriptors, a region and a window. -/
def sender (l : List Desc) : State :=
  abi [] [(9, { qp1 .ready with sq := l, conns := [(connKey 6 3, conn1)], peerEid := 6, peerQpn := 3 })] [(1, region), (2, window)]

/-- A visible descriptor in each ring of queue pair 9. -/
def ringed : State := abi [] [(9, { qp1 .ready with sqProd := 1, rqProd := 1 })]

theorem test_witness_descriptor_reads : (let x := { qp1 .ready with sqProd := 1, rqProd := 1 }
    ringed.qpnOf 0 1 == some 9 && ringed.qp 9 == some x && ringed.admits 6 && !ringed.postingHeld
      && sendOk x 3 (0 :: List.replicate 7 0) && recvOk 3 (0x80 :: List.replicate 7 0) && (recvOf 0 1 0 (0x80 :: List.replicate 7 0)).handler == 0
      && [(x.sqBase, false), (x.rqBase, true)].all fun va => match ringed.translate (.descriptor 9 va.2) 0 va.1 64 accRead with
        | (v, .ok _ _ _) => v.qp 9 == some x
        | _ => false) = true := by decide +kernel

theorem test_witness_tagged_receives : (let r := recvOf 1 1 0 [0x80, 0, 0, 5, 0]
    let s := abi [] [(9, { qp1 .ready with rq := [r] })]
    let u : Unexp := ⟨0, 9, 0, 0, 0, 0, 5, 0, 0, 0, false, 0, 0, 0, [], 0, none, none⟩
    let t := { s with mt := { s.mt with unexp := [u] } }
    r.st == .staged && s.postCapacity != 0 && s.quiet && (s.selectUnexp 0 9 0 0 5).isNone && t.selectUnexp 0 9 0 0 5 == some u
      && decide ((s.postCapacity : Nat) > 1)) = true := by decide +kernel

theorem test_witness_descriptors_start : ([0x00, 0x01, 0x03, 0x10, 0x11, 0x12, 0x13, 0x14, 0x15, 0x16, 0x17, 0x20, 0x30, 0x31].all fun op =>
      let s := sender [desc1 op]
      s.qpnOf 0 1 == some 9 && ((s.qp 9).bind (·.startable op)) == some (desc1 op)) = true
    ∧ (sender []).checkLocal 0x101 0 1 0 0x1000 64 = none ∧ (sender []).checkLocal 0x101 0 1 1 0x1000 0 = none
    ∧ (sender []).checkLocal 0x101 0 1 2 0x1000 64 = none ∧ (sender []).checkLocal 0x102 0 1 0 0x1000 64 = some 2 := by decide +kernel

theorem test_witness_windows_bind : (let q := { qp1 .ready with sq := [desc1 0x30 .sent] }
    q.firstSent (desc1 0x30 .sent) && (sender []).checkBind q (desc1 0x30) == none
      && (sender []).checkBind q { desc1 0x30 with lkey := 0x102 } == some 2 && (sender []).checkWindow 0x201 0 1 == none
      && (abi [] [] [(2, { window with bound := true })]).checkWindow 0x201 0 1 == none) = true := by decide +kernel

/-- A packet of the connection that waits for its acknowledgement. -/
def track1 : Track where
  psn := 4
  hdr := {}
  use := .desc 1
  timer := true

/-- A device with that packet, in each of its states. -/
def tracked (t : Track) (d : Desc) : State :=
  abi [] [(9, { qp1 .ready with sq := [d], conns := [(connKey 6 3, { conn1 with track := [t] })], peerEid := 6, peerQpn := 3 })] [(1, region)]

theorem test_witness_request_timers : (let s := tracked track1 (desc1 1 .sent)
    s.track 9 (connKey 6 3) 4 == some track1 && (s.resend 9 (connKey 6 3) 4).2 && decide (0 < s.rd Reg.TPT_RETX_MAX_RETRIES)
      && (tracked { track1 with hold := .stateMiss, missSince := true } (desc1 1)).track 9 (connKey 6 3) 4
        == some { track1 with hold := .stateMiss, missSince := true }
      && ((tracked { track1 with hold := .stateMiss } (desc1 1)).resend 9 (connKey 6 3) 4).2
      && (tracked { track1 with retries := 7 } (desc1 1)).rd Reg.TPT_RETX_MAX_RETRIES == 7
      && (s.wr Reg.MCH_RETRY_RNDV_WAIT_MS 5).on Reg.MCH_RETRY_RNDV_WAIT_MS && (s.wr Reg.MCH_RETRY_FULL_DEADLINE_MS 5).on Reg.MCH_RETRY_FULL_DEADLINE_MS
      && (qp1 .ready).connOf (desc1 1) == connKey 0 0
      && ({ qp1 .ready with peerEid := 6, peerQpn := 3 }).connOf (desc1 1) == connKey 6 3) = true := by decide +kernel

theorem test_witness_send_processing : (let x := { qp1 .ready with shared := true, sq := [desc1 1] }
    let s := abi [] [(9, x)]
    x.waitsForPeer == some (desc1 1) && (mget x.conns (connKey 6 3)).isNone && decide (s.poolUsed < s.poolSize)
      && decide ((s.wr Reg.GLB_STORE_PART_SIZE_GIB 0 0).poolSize ≤ 1)
      && ({ x with conns := [(connKey 6 3, conn1)] } : Qp).waits == [] && conn1.track == [] && conn1.unplaced == []
      && ((tracked track1 (desc1 1)).qp 9).isSome) = true
    ∧ (({ rate := 1000, burst := 65536, tokens := 100 } : Bucket).refill 0).rate ≠ 0 ∧ 16 + wtSize 0 + 68 = 100 := by decide +kernel

/-! Links, lanes, routers. -/

/-- A device whose port is up and advertised cells on lane 0, and whose receiver has as many. -/
def linked (p : Nat) (y : Port := { adv := [64], rxCells := [64] }) : State := (regsSet [(Reg.LNK_STATUS_STATE, 2, p)] up).setPort p y

/-- The frame of an LSN with 20 bytes. -/
def frame1 (lsn : Nat) : LinkFrame :=
  let h := linkHeader 0 lsn 20 false
  let b := List.replicate 20 7
  { header := h, bytes := b, crc := crcLink (h ++ b) }

/-- A link-control block. -/
def block (type : Nat) (body : List Byte) : List Byte :=
  let h := byte type :: (body ++ List.replicate (27 - body.length) 0)
  h ++ beBytes 4 (crcLink h).toNat

/-- A block is one that a port takes, as a value. -/
def takesB (s : State) (p type : Nat) (b : List Byte) : Bool :=
  b.length == 32 && beBytes 4 (crcLink (b.take 28)).toNat == b.drop 28 && at_ b 0 == type && decide (type < 8) && ctrlClean type b
    && s.rd Reg.LNK_STATUS_VERSION p != 1

theorem takes_of_takesB (s : State) (p type : Nat) (b : List Byte) (h : takesB s p type b = true) : s.takesBlock p type b := by
  simp only [takesB, Bool.and_eq_true, beq_iff_eq, decide_eq_true_eq, bne_iff_ne] at h
  obtain ⟨⟨⟨⟨⟨h1, h2⟩, h3⟩, h4⟩, h5⟩, h6⟩ := h
  exact ⟨h1, h2, h3, h4, h5, fun h => absurd h h6⟩

theorem test_witness_frames : (soundFrame (frame1 0) 0 0 (List.replicate 20 7) ∧ soundFrame (frame1 (2 ^ 24 - 1)) 0 (2 ^ 24 - 1) (List.replicate 20 7))
    ∧ (linked 71).portUp 71 = true ∧ 1 ≤ ((linked 71).port 71).free 0 ∧ ((linked 71 {}).port 71).free 0 < 1 ∧ (linked 71).rd Reg.LNK_RX_EXPECT_LSN 71 = 0
    ∧ (linked 71).on Reg.GLB_SPARE_XBAR_CTRL_MIRROR_EN = false ∧ (linked 71).on Reg.LNK_RX_NAK_ARMED 0 = (linked 71).on Reg.LNK_RX_NAK_ARMED 1
    ∧ (0 : BitVec 32) ≠ (frame1 0).crc ∧ (0 : BitVec 32) ≠ ~~~(frame1 0).crc := by
  refine ⟨⟨?_, ?_⟩, ?_⟩ <;> (try simp only [soundFrame]) <;> decide +kernel

/-- Two packets in a replay buffer. -/
def unacked : State := regsSet [(Reg.LNK_LEDGER_NEXT_LSN, 5, 0), (Reg.LNK_LEDGER_ACKED_LSN, 2, 0)]
  (linked 0 { adv := List.replicate 8 64, replay := [⟨3, 0, 1, [], false⟩, ⟨4, 0, 1, [], false⟩] })

theorem test_witness_acknowledgements : (let s := unacked
    let b := block 1 [0, 0, 0, 4, 0, 0, 1]
    let n := block 1 [128, 0, 0, 2]
    s.portUp 0 && takesB s 0 1 b && takesB s 0 1 n && beAt b 2 3 == 4 && beAt n 2 3 == 2 && !bitAt b 1 7 && bitAt n 1 7
      && (List.range 8).all fun v => decide (s.avail 0 v + (beAt b (6 + 2 * v) 2 : Nat) ≤ (nth (s.port 0).adv v : Nat))) = true := by decide +kernel

/-- The SEQ and depth bytes of a summary whose first eleven fragments have come. -/
def frags : List Byte := [0x10, 1, 0, 0, 3] ++ List.replicate 281 0

theorem test_witness_control_blocks : (let s := linked 5 { adv := List.replicate 8 64, mark := some 9, frag := 3 }
    takesB s 5 2 (block 2 [1]) && takesB s 5 3 (block 3 [9, 0, 0, 0, 0, 0, 1]) && takesB s 5 5 (block 5 [0, 1, 2]) && takesB s 5 5 (block 5 [3, 1, 2])
      && takesB s 5 4 (block 4 [0, 0, 7]) && takesB s 5 7 (block 7 [0, 6]) && !(linked 5).portUp 6 && (linked 5).rd Reg.LNK_STATUS_STATE 6 != 1
      && at_ (block 3 [9, 0, 0, 0, 0, 0, 1]) 1 == 9 && !bitAt (block 4 [0, 0, 7]) 1 7 && bitAt (block 4 [128, 0, 7]) 1 7) = true := by decide +kernel

theorem test_witness_waggle_and_training : (let s := linked 5 { frag := 11, fragBytes := frags }
    takesB s 5 5 (block 5 [11]) && at_ frags 0 / 16 == 1 && frags.length == 286 && (mget s.rt.summaries 3).isNone) = true
    ∧ (let s := regsSet [(Reg.LNK_STATUS_STATE, 1, 5), (Reg.LAN_PORT_STATUS_STAGE, 5, 5)] up
      s.rd Reg.LNK_STATUS_STATE 5 == 1 && s.rd Reg.LAN_PORT_STATUS_STAGE 5 == 5 && takesB s 5 6 (block 6 [2])) = true := by decide +kernel

theorem test_witness_time_and_failover : (let s := regsSet [(Reg.SCH_TIME_CFG_ROLE, 1, 0), (Reg.SCH_TIME_CFG_PARENT_PORT, 5, 0)] (linked 5)
    s.rd Reg.SCH_TIME_CFG_ROLE == 1 && s.rd Reg.SCH_TIME_CFG_PARENT_PORT == 5 && takesB s 5 4 (block 4 [128, 0, 7])
      && beAt (block 4 [128, 0, 7]) 2 2 == 7) = true
    ∧ ((up.wr Reg.RTE_PARTNER_ENABLE 1 1 70).wr Reg.RTE_PARTNER_PORT 5 1 70).partner 70 = some 5
    ∧ (let s := (linked 5).setPort 6 { failover := some ⟨4, 5⟩ }
      let b := block 7 [128, 0, 0, 0, 0, 0, 4]
      takesB s 5 7 b && bitAt b 1 7 && !bitAt b 1 6
        && (List.range 72).find? (fun r => (s.port r).failover == some ⟨beAt b 6 2, 5⟩) == some 6) = true := by decide +kernel

theorem test_witness_bad_blocks : (List.replicate 31 (0 : Byte)).length ≠ 32 ∧ at_ (block 8 []) 0 = 8 ∧ ctrlClean 1 (block 1 [1]) = false := by
  decide +kernel

theorem test_witness_link_timers : (let s := linked 5 { replay := [⟨3, 0, 1, [], false⟩], lockLost := true, failover := some ⟨4, 5⟩, exHeld := [{ port := 0, pkt := packet0 }] }
    s.portUp 5 && (s.port 5).replay != [] && (s.port 5).lockLost && (s.port 5).failover.isSome && (s.port 5).exHeld.length == 1) = true
    ∧ (let s := regsSet [(Reg.LNK_STATUS_STATE, 3, 5), (Reg.LNK_CFG_AUTO_RETRAIN, 1, 5), (Reg.LNK_CFG_ENABLE, 1, 5), (Reg.LAN_EQ_STATUS_LOADED, 1, 0)] up
      s.trainable 5 = true ∧ s.on Reg.LNK_CFG_AUTO_RETRAIN 5 = true ∧ s.rd Reg.LNK_STATUS_STATE 5 = 3 ∧ s.portUp 5 = false ∧ s.partner 5 = none
        ∧ s.bundleOf 1 71 = none ∧ s.sw.fronds = [] ∧ (s.port 5).egress = [] ∧ s.quiet = true)
    ∧ (linked 5 {}).quiet = true ∧ (linked 5 {}).sw.fronds = [] ∧ (linked 5 {}).port 5 = {} := by decide +kernel

theorem test_witness_no_partners : ∀ q < 72, up.partner q = none ∧ (up.port q).latched = false ∧ (up.port q).failover = none := by decide +kernel

theorem test_witness_lanes : (let s := regsSet [(Reg.LAN_LANE_STATUS_SIGNAL, 1, 5), (Reg.LAN_LANE_STATUS_CDR_LOCK, 1, 5), (Reg.LAN_LANE_STATUS_BLOCK_LOCK, 1, 5),
        (Reg.LAN_LANE_STATUS_AM_LOCK, 1, 5), (Reg.LAN_PAT_CFG_CHK_MODE, 1, 5), (Reg.LAN_PAT_STATUS_CHK_LOCK, 1, 5), (Reg.LAN_PAT_CFG_GEN_MODE, 1, 5),
        (Reg.LAN_PAT_CFG_INJECT_INTERVAL, 3, 5)] (up.setPort 5 { amMiss := [4, 0] })
    s.on Reg.LAN_LANE_STATUS_SIGNAL 5 0 && s.on Reg.LAN_LANE_STATUS_CDR_LOCK 5 0 && s.on Reg.LAN_LANE_STATUS_BLOCK_LOCK 5 0
      && s.on Reg.LAN_LANE_STATUS_AM_LOCK 5 0 && s.on Reg.LAN_PAT_CFG_CHK_MODE 5 0 && s.on Reg.LAN_PAT_STATUS_CHK_LOCK 5 0
      && s.on Reg.LAN_PAT_CFG_GEN_MODE 5 0 && s.on Reg.LAN_PAT_CFG_INJECT_INTERVAL 5 0 && !s.portUp 5 && nth (s.port 5).amMiss 0 == 4
      && s.rd Reg.LAN_LANE_STATUS_LOGICAL 5 0 != 1 && !s.on Reg.LAN_LANE_STATUS_AM_LOCK 5 1) = true
    ∧ (linked 5).receiving 5 = true ∧ (regsSet [(Reg.LNK_STATUS_STATE, 1, 5)] up).receiving 5 = true
    ∧ slice (markerBytes 0 9) 0 3 = laneMark 0 ∧ bitErrors ((markerBytes 0 9).getD 3 0) 9 = 0 ∧ bitErrors ((markerBytes 0 9).getD 3 0) 8 ≠ 0 := by
  decide +kernel

/-- A packet for this device, for a coordinate beyond it, and one that has made its last hop, arrived on port 71. -/
def came (n : NetHeader) (checked : Bool := false) : InPkt := { port := 71, pkt := { net := n, body := .wt {} }, checked := checked }

/-- A device that has joined a fabric of two devices in one dimension, port 0 up. -/
def joined : State := regsSet [(Reg.RTE_MGMT_JOINED, 1, 0), (Reg.LNK_STATUS_STATE, 2, 0)] up

theorem test_witness_arrivals : up.on Reg.RTE_MGMT_JOINED = false ∧ joined.on Reg.RTE_MGMT_JOINED = true ∧ (came { hops := 15 }).pkt.net.hops = 15
    ∧ hopByHop (came { destCoord := 1 }).pkt = false ∧ (1 : Nat) ≠ joined.coord ∧ joined.isOwnEid 9 = false
    ∧ (joined.wr Reg.RTE_FUNC_EID_EID 4 0).admits 2 = true ∧ joined.coord = 0
    ∧ mgetD (joined.setPort 71 { lanes := [(0, [came { hops := 1 } true, came {}])] } |>.port 71).lanes 0 [] = [came { hops := 1 } true] ++ came {} :: [] := by
  decide +kernel


/-- A device that has joined a fabric of two in the first dimension, at coordinate 0: its port 0 leads to coordinate 1, and is up. -/
def pair : State := ((joined.wr Reg.RTE_SHAPE_W0 2 1).wr Reg.RTE_SHAPE_K0 1 1).wr Reg.RTE_SHAPE_COORD 0 1

/-- A packet of the ordered and of the adaptive kind on its way to coordinate 1. -/
def goes (ordered : Bool) : InPkt := came { destCoord := 1, ordered := ordered } true

theorem test_witness_choices : (pair.widthOf 1 0 == 2 && (pair.bundleOf 1 0).isSome && pair.on Reg.RTE_MGMT_JOINED && (pair.choose (goes false)).2.isSome
      && (pair.choose (goes true)).2.isSome && (joined.choose (goes false)).2.isNone && pair.on Reg.RTE_WAGGLE_LOOKAHEAD
      && (pair.chooseAdaptive (goes false).pkt.net 71 0).isSome && (pair.egressDrop 0 (goes false).pkt.net).isNone
      && ((pair.wr Reg.RTE_SHAPE_COORD 1 1).descends 1 0) && (pair.candidates (goes false).pkt.net 71).length == 1) = true := by decide +kernel

/-- Packets to send on port 5: one to be sent again, one handed over, one in a lane. -/
def busy (resend : List Nat) (handed : List Replay) (l : List InPkt) : State :=
  (State.setAvail (linked 5) 5 0 64).setPort 5 { replay := [⟨3, 0, 1, [], false⟩], resend := resend, handed := handed, egress := [(0, l)], rxCells := [64] }

theorem test_witness_egress : ((busy [3] [] []).maySend 5 0 1 false && (busy [3] [] []).portUp 5 && (busy [] [⟨9, 0, 1, [], false⟩] []).maySend 5 0 1 true
      && (busy [] [] [came {}]).admits 1 && ((busy [] [] [came {}]).pickLane 5).2 == some 0
      && ((busy [] [] [came {}]).pickLane 5).1.egressHead 5 0 == some (came {})) = true
    ∧ (let s := up.wr Reg.RTE_THROTTLE_ACTIVE (2 ^ 15)
      s.throttled 15 && decide (s.groupCells 15 < (s.wr Reg.RTE_THROTTLE_LO_CELLS 9).rd Reg.RTE_THROTTLE_LO_CELLS)) = true
    ∧ (up.wr Reg.RTE_SWAP_PENDING 1).on Reg.RTE_SWAP_PENDING = true ∧ up.rd Reg.RTE_SWAP_TIME_TIME ≤ up.time
    ∧ ((up.wr Reg.RTE_SHAPE_W0 9 0).wr Reg.RTE_SHAPE_K0 8 0 |>.wr Reg.RTE_SHAPE_W1 9 0 |>.wr Reg.RTE_SHAPE_K1 8 0).shadowOk = false := by decide +kernel

/-! Management, received packets, data events, walks, swarm. -/

/-- A management packet. -/
def mg (h : MgmtHeader) (b : List Byte := []) : InPkt := { port := 71, pkt := { net := {}, body := .mgmt h, payload := b }, checked := true }

/-- A device with a request of the fabric manager, of which it is the owner where the token is its own. -/
def managed (token : Option Word) (mop : Nat) (b : List Byte) : State :=
  { joined with rt := { token := token, mgmtIn := [mg { mop := mop, token := 5 } b], keeper := [mg { mop := mop }] } }

theorem test_witness_management_queue : [({ directed := true, hopPtr := 1, hopCount := 2 } : MgmtHeader), { mop := 9 }, { response := true, mop := 1 },
      { mversion := 0, mop := 1 }, { mop := 0 }, { mop := 11 }, { mop := 1 }, { directed := true, hopPtr := 2, hopCount := 2, mop := 10 }].all (fun h =>
      ({ joined with rt := { keeper := [mg h] } } : State).rt.keeper == [mg h] && (mg h).pkt.body == .mgmt h) = true := by decide +kernel

theorem test_witness_management_operations : (managed none 1 (beBytes 8 5)).on Reg.RTE_MGMT_JOINED = true ∧ (managed (some 5) 2 []).rt.token = some (BitVec.ofNat 64 5)
    ∧ word8 (beBytes 8 0x600 ++ beBytes 8 64) 0 = 0x600 ∧ word8 (beBytes 8 0x600 ++ beBytes 8 64) 8 = 64 ∧ (0x600 + 8 * 64 ≤ 2 ^ 26)
    ∧ (beBytes 8 0x600 ++ beBytes 8 64).length = 16 ∧ (beBytes 8 0x600 ++ beBytes 8 1 ++ beBytes 8 7).length = 16 + 8 * 1
    ∧ beAt (beBytes 4 (2 ^ 20 - 1) ++ beBytes 4 1 ++ beBytes 4 9) 4 4 = 1 ∧ (beBytes 2 7 ++ List.replicate 70 (0 : Byte)).length = 72
    ∧ (managed (some 5) 8 (beBytes 8 0)).on Reg.RTE_SWAP_PENDING = false ∧ (managed (some 5) 8 (beBytes 8 0)).on Reg.RTE_SWAP_BUSY = false := by decide +kernel

/-- The device at coordinate 1 after an assignment of the shape of `pair`. -/
def assigned : State := ((managed (some 5) 5 []).regWrite (.keeper 0) 0x1001000 8 0x111204104200001).regWrite (.keeper 0) 0x1001008 8 0

theorem test_witness_assignment_and_swap : assigned.reg 0x1001000 0x111104104100000 = 0x111204104200001 ∧ assigned.reg 0x1001008 0 = 0
    ∧ assigned.swap.rd Reg.RTE_SWAP_STATUS = 0 ∧ ((managed (some 5) 8 (beBytes 8 0)).swap.announce up).rd Reg.RTE_SWAP_STATUS = 0 := by decide +kernel

/-- A packet of the connection of queue pair 9, with an opcode and a PSN. -/
def wt1 (op psn : Nat) (b : List Byte := []) : Packet where
  net := { srcEid := 6 }
  body := .wt { opcode := op, destQpn := 9, srcQpn := 3, psn := psn, key := 0x101, address := 0x1000 }
  payload := b

/-- That packet among those that have been delivered. -/
def received (op psn : Nat) (b : List Byte := []) : State :=
  let s := sender []
  { s with rt := { s.rt with delivered := [{ port := 5, pkt := wt1 op psn b, checked := true }] } }

theorem test_witness_received_packets : [0x01, 0x02, 0x03, 0x04, 0x05, 0x06, 0x07, 0x08, 0x10, 0x11].all (fun op =>
      let s := received op 7
      let p := wt1 op 7
      s.admits 3 && (s.rt.delivered.find? fun y => y.port == 5 && y.pkt.same p).any (·.tag.isNone)
        && match p.body with
          | .wt h => h.opcode == op && !(s.rxPacket 5 p h).tp.todo.contains .wait
          | _ => false) = true := by decide +kernel

theorem test_witness_request_classes : classify 7 0 7 = .new ∧ classify 7 0 6 = .old ∧ classify 7 2 8 = .duplicate ∧ classify 7 0 (7 + 2 ^ 12) = .outside
    ∧ classify (2 ^ 24 - 1) 0 0 = .new ∧ (sender []).checkRemote 0x101 0 1 rWrite 0x1000 64 = none
    ∧ (sender []).checkRemote 0x101 0 1 rWrite 0x11000 64 = some 6
    ∧ (abi [] [] [(1, { region with store := true })]).checkRemote 0x101 0 1 rWrite 0x1000 64 = none := by decide +kernel

theorem test_witness_responder : (let k := connKey 6 3
    let s := abi [] [(9, { qp1 .ready with conns := [(k, { conn1 with ackTimer := true })], fetches := [k] })]
    (s.qp 9).any (fun x => (mget x.conns k).any (·.ackTimer) && x.fetches.contains k && mgetD x.waits k [] == [])) = true := by decide +kernel

/-- A placement of two bytes in the store. -/
def pl (use : PlaceFor) : Placement := { use := use, key := some 1, store := true, pieces := [(64, [1, 2])] }

/-- A device with a placement, a host read and an atomic under way. -/
def dataState (use : PlaceFor) (r : ReadFor) (a : AtomicOp) : State :=
  let s := tracked track1 (desc1 1 .sent)
  let t := { s.tp with placements := [(4, pl use)], reads := [(5, { link := 0, fn := 0, len := 64, pieces := [], use := r })], atomics := [(6, a)] }
  { s with tp := t }

theorem test_witness_data_events : (let k := connKey 6 3
    let s := dataState
    let t := s (.put 9 k 4 false) (.resend 9 k 4 1) { qpn := 9, conn := k, psn := 4, key := 0, opcode := 0x10, width := 8, op0 := 1, op1 := 0, store := true, addr := 64 }
    mget t.tp.placements 4 == some (pl (.put 9 k 4 false)) && t.admits 5 && (mget t.tp.reads 5).any (·.use == .resend 9 k 4 1)
      && t.track 9 k 4 == some track1 && (mget t.tp.atomics 6).any (·.store) && !t.poisoned 64 8
      && (mget (s (.get 9 k 4 1) (.source 9 1 0 1) { qpn := 9, conn := k, psn := 4, key := 0, opcode := 0x10, width := 8, op0 := 1, op1 := 0, store := false, addr := 64, stage := 2, seen := 7, tries := 1 }).tp.atomics 6).any fun a =>
        !a.store && a.stage == 2 && a.seen == 7 && ofLE (slice (leBytes 8 7) 0 8) == 7 && decide (a.tries < t.rd Reg.KEY_HOST_ATOMIC_CAS_LIMIT)) = true := by
  decide +kernel

/-- A receive that is placed and has a handler. -/
def rHandled : Recv := { recvOf 1 1 0 [0, 0, 0, 0, 5] with st := .placed }

/-- A device whose host link 7 maps 1 GiB of the store over CXL. -/
def cxlDev : State :=
  regsSet [(Reg.GLB_STORE_PART_USE, 7, 4), (Reg.GLB_STORE_PART_SIZE_GIB, 1, 4), (Reg.KEY_CXL_MAP_ENABLE, 1, 7), (Reg.KEY_CXL_MAP_SIZE_GIB, 1, 7), (Reg.BOOT_STATUS_STAGE, 5, 0)]
    { dev with bt := { dev.bt with cxlLinks := 128 } }

theorem test_witness_memory_and_handlers : (let s := cxlDev
    s.admits 5 && (s.cxlLine 7 (2 ^ 30 - 64)).isSome && (s.cxlLine 7 (2 ^ 30)).isNone && (s.cxlLine 8 0).isNone && !s.poisoned 0 64
      && !s.postingHeld && (s.wr Reg.MCH_UNEXP_PENDING 1).on Reg.MCH_UNEXP_PENDING && s.mt.unexp.isEmpty) = true
    ∧ ((abi [] [] [(1, { window with draining := true })]).key 1).inUse = 0 ∧ ((abi [] [] [(1, { window with draining := true, timers := 1, inUse := 1 })]).key 1).timers ≠ 0
    ∧ up.tp.funcs = []
    ∧ (let q := { qp1 .ready with rq := [rHandled], rdone := [1] }
      let s : State := { abi [] [(9, q)] with mt := { handlers := [(5, ⟨0, 1, [], [0], [], 0⟩)] } }
      q.handlerDue == some rHandled && (s.qp 9 == some q && (mget s.mt.handlers (handlerKey 0 5)).isSome && s.qpnOf 0 1 == some 9 && s.admits 3
        && (s.thread (128 + 127)).st == .idle && s.handlerThread (hiveOf 9) (128 + 127))) = true := by decide +kernel

/-- A walk at a level. -/
def walk1 (level kind : Nat) (cas : Option Word) : Walk := { ctx := 0, va := 0, kind := kind, root := 0, ad := true, level := level, addr := 0, cas := cas }

theorem test_witness_walks : [0, 4].all (fun l => mget ({ dev with xl := { walks := [(3, walk1 l 0 none)] } } : State).xl.walks 3 == some (walk1 l 0 none)) = true
    ∧ leafOk 0x0F 0 = true ∧ leafOk 0x0F 1 = false ∧ leafDenied 0x03 0 = some 18 ∧ leafDenied 0x07 1 = some 19 ∧ leafDenied 0x0F 2 = none
    ∧ needsBits true 0x0F 0 = true ∧ needsBits true 0x6F 1 = false ∧ dev.on Reg.XLT_CTX_ENABLE 0 = true
    ∧ (dev.wr Reg.XLT_CFG_PREFETCH 1).on Reg.XLT_CFG_PREFETCH = true ∧ dev.xl.leaves = [] := by decide +kernel

/-- The frond of group 1: its root, with queue pair 9 as its member and port 5 as its child. -/
def frond1 : Frond where
  words := [1 + 2 + 4 + 127 * 2 ^ 8 + 2 ^ 24 + 2 ^ 32, 2 ^ 5, 9 * 2 ^ 32, 0, 0, 0, 0, 0]
  epoch := 3

/-- A collective descriptor of group 1. -/
def coll (op : Nat) : Desc := { desc1 op with op0 := 1, raddr := 0x2000, rkey := 0x101 }

/-- A device with that frond. -/
def group1 (f : Frond) (l : List Desc) : State :=
  let s := regsSet [(Reg.SWM_CONFIG_ENABLE, 1, 0), (Reg.SWM_CONFIG_SLOTS, 4, 0)] (sender l)
  { s with sw := { fronds := [(1, f)] } }

theorem test_witness_collectives : [0x40, 0x41, 0x42, 0x43].all (fun op =>
      let s := group1 frond1 [coll op]
      s.slotFree && (s.qp 9).any fun x => x.startable op == some (coll op) && s.collectiveFault 9 x (coll op) == none
        && x.sq.all fun z => !(z.collective && z.gid == 1 && z.outstanding)) = true
    ∧ ({ group1 frond1 [] with regs := [] } : State).rd Reg.SWM_CONFIG_SLOTS = up.rd Reg.SWM_CONFIG_SLOTS
    ∧ ((group1 frond1 []).wr Reg.SWM_CONFIG_SLOTS 0).slotFree = false := by decide +kernel

/-- A swarm packet of a kind on port 5. -/
def sw1 (kind : Nat) : Packet := { net := { kind := 1 }, body := .swarm { kind := kind, gid := 1, op := 0x40, epoch := 3 } }

theorem test_witness_swarm_packets : [0, 1, 2].all (fun kind =>
      let s := group1 { frond1 with cur := some ((group1 frond1 []).newEpoch 3 (coll 0x40).opId), held := [4] } []
      match (sw1 kind).body with
      | .swarm h => h.kind == kind && s.admits 4 && (s.swarmPacket 5 h []).isSome
      | _ => false) = true := by decide +kernel

/-! Time, gates, arbiters, faults, platform, boot. -/

theorem test_witness_fabric_time : (let s := regsSet [(Reg.SCH_TIME_CFG_ROLE, 1, 0), (Reg.SCH_TIME_CFG_PARENT_PORT, 5, 0), (Reg.LNK_STATUS_VERSION, 2, 5)] (linked 5)
    s.rd Reg.SCH_TIME_CFG_ROLE == 1 && s.portUp (s.rd Reg.SCH_TIME_CFG_PARENT_PORT) && s.rd Reg.LNK_STATUS_VERSION 5 == 2
      && s.sc.syncOut.isNone && s.sc.silent != 3) = true
    ∧ (let s := regsSet [(Reg.SCH_TIME_CFG_ROLE, 2, 0), (Reg.GLB_RES_OWNER_TIMEPULSE, 1, 0), (Reg.SCH_PULSE_CFG_PULSE_IN, 1, 0)] up
      s.rd Reg.SCH_TIME_CFG_ROLE == 2 && s.rd Reg.GLB_RES_OWNER_TIMEPULSE == 1 && s.on Reg.SCH_PULSE_CFG_PULSE_IN) = true
    ∧ 499999999 % 1000000000 < 500000000 ∧ 500000000 ≤ 500000000 % 1000000000 ∧ up.rd Reg.SCH_TIME_CFG_STEP_NS = 1000
    ∧ ({ sc := { good := 7 } } : State).sc.good = 7 ∧ ((5 : Int).natAbs ≤ 5 ∧ (20 : Int).natAbs ≤ 20 ∧ 20 < (-21 : Int).natAbs) := by decide +kernel

theorem test_witness_gates : (let s := regsSet [(Reg.SCH_GATE_CTRL_PENDING, 1, 71), (Reg.SCH_GATE_STATUS_ACTIVE, 1, 71)] up
    s.on Reg.SCH_GATE_CTRL_PENDING 71 && decide ((s.port 71).gatePendAt ≤ s.time) && s.on Reg.SCH_GATE_STATUS_ACTIVE 71
      && !s.on Reg.SCH_PULSE_CFG_DEBUG_OUT && !up.on Reg.SCH_GATE_STATUS_ACTIVE 71) = true
    ∧ walkGate 100 40 0 0 [(1, 40), (2, 10)] = (1, 2, 60) ∧ walkGate 100 39 0 0 [(1, 40), (2, 10)] = (0, 1, 1) := by decide +kernel

theorem test_witness_arbiters : arbSize 0 = 21 ∧ arbSize 4 = 17 ∧ arbSize 21 = 17 ∧ (∀ x ∈ [((0 : Nat), (7 : Nat)), (16, 9)], x.1 < arbSize 21)
    ∧ (mgetD up.sc.arbs 21 {}).reqs = [] ∧ mget [(3, ({ losses := 2, backoff := true } : ArbReq))] 3 = some { losses := 2, backoff := true } := by decide +kernel

theorem test_witness_occurrences : classOf 0x006 = some 2 ∧ classOf 0x002 = some 1 ∧ classOf 0x003 = some 0 ∧ up.rd Reg.FLT_FIRST_LOG0_VALID = 0
    ∧ (up.wr Reg.FLT_FIRST_LOG0_VALID 1).rd Reg.FLT_FIRST_LOG0_VALID ≠ 0 := by decide +kernel

theorem test_witness_reactions : (let s : State := { up with ft := { reactions := [⟨0x002, 0, false, 0⟩], notifies := [7, 8] } }
    let u := State.react { s with ft := { s.ft with reactions := [] } } ⟨0x002, 0, false, 0⟩
    let v := s.wr Reg.EVT_SRC_CFG_CHIP_RESET 1 0x002
    !u.on Reg.EVT_SRC_CFG_CHIP_RESET 0x002 && !u.on Reg.EVT_SRC_CFG_BLOCK_RESET 0x002
      && (State.react { v with ft := { v.ft with reactions := [] } } ⟨0x002, 0, false, 0⟩).on Reg.EVT_SRC_CFG_CHIP_RESET 0x002
      && (up.wr Reg.FLT_ALIVE_TOGGLING 1).on Reg.FLT_ALIVE_TOGGLING && !up.ft.rootLost && s.ft.notifies == 7 :: 8 :: []) = true
    ∧ ((mgetD [(4, ({ masked := true, pending := true } : Vector))] 4 {}).pending = true) ∧ (mgetD ([] : Map Vector) 4 {}).pending = false
    ∧ ((abi []).func 0).msixOff = false ∧ up.bt.linkUp / 2 ^ (255 / 256) % 2 = 1 := by decide +kernel

theorem test_witness_platform_events : (up.wr Reg.GLB_CROSSING_CTRL_QUIESCE 1 6).on Reg.GLB_CROSSING_CTRL_QUIESCE 6 = true
    ∧ ({ ft := { drains := [6] } } : State).ft.drains.contains 6 = true ∧ up.bt.inReset = false ∧ up.ft.rootLost = false ∧ up.ft.refbStop = false
    ∧ ({ ft := { rootLost := true, refbStop := true } } : State).ft.rootLost = true
    ∧ (up.wr Reg.GLB_SPARE_XBAR_CTRL_LOOP_EN 1).on Reg.GLB_SPARE_XBAR_CTRL_LOOP_EN = true
    ∧ ({ spare := { inFlight := [[1], [2]] } } : State).spare.inFlight = [1] :: [[2]] ∧ up.bt.linkUp / 2 ^ 0 % 2 = 1 ∧ ({ up.bt with perst := 7 }).perst / 2 ^ (7 / 2) % 2 = 0
    ∧ ((-1000 : Int) ≤ 1000 ∧ (1000 : Int) < 1001) := by decide +kernel

/-- A device whose firmware runs from slot 0. -/
def booted : State := regsSet [(Reg.BOOT_STATUS_STAGE, 5, 0), (Reg.BOOT_STATUS_SLOT, 0, 0), (Reg.GLB_CLK_STATUS_ROOT_LOCK, 1, 0)] up

theorem test_witness_lifetime : booted.firmwareRuns = true ∧ booted.on Reg.GLB_CLK_STATUS_ROOT_LOCK = true ∧ booted.on Reg.LCH_CTRL_BUSY = false
    ∧ (let x : Lichen := { hoursSincePlan := 24, avsOut := true, avsRetry := true, avsTries := 3, vset := 8000, vgoal := 8100, buffer := [[1, 2, 3, 4]], headSlot := 127 }
      24 ≤ x.hoursSincePlan ∧ x.vset ≠ x.vgoal ∧ x.nextSet = 8025 ∧ x.nextSet ≠ x.vgoal ∧ x.avsTries < 4 ∧ x.buffer = [1, 2, 3, 4] :: [] ∧ x.headSlot < 128)
    ∧ ({} : Lichen).avsOut = false ∧ ({} : Lichen).avsRetry = false ∧ (booted.wr Reg.LCH_CTRL_BUSY 1).on Reg.LCH_CTRL_BUSY = true ∧ booted.bt.flashOp = none
    ∧ Memory.wf 0xFF booted.flash = true := by decide +kernel

theorem test_witness_resets : up.bt.stbyUp = true ∧ up.bt.inReset = false ∧ up.bt.railsUp = 31 ∧ (1000 : Nat) ≤ 1000 ∧ State.reset.bt.resetLow = true
    ∧ State.reset.bt.railsUp ≠ 31 ∧ ({ ft := { units := [71, 82] } } : State).ft.units.contains 71 = true ∧ up.rd Reg.BOOT_STATUS_STAGE ≠ 15
    ∧ ({ up with bt := { up.bt with linkUp := 0 } } : State).bt.linkUp = 0 ∧ booted.bt.perst / 2 ^ 3 % 2 = 1 ∧ 4 ≤ booted.rd Reg.BOOT_STATUS_STAGE := by decide +kernel

theorem test_witness_flash_and_smbus : up.flashGuarded 0x2000 = false ∧ booted.flashGuarded 0x1000000 = true
    ∧ ([1, 2, 3, 4].all fun op => ({ up with bt := { up.bt with flashOp := some op, flashAddr := 0x1000000 } } : State).bt.flashOp == some op) = true
    ∧ (0x1FFFFF8 + 8 ≤ 2 ^ 25) ∧ up.bt.isolated = false ∧ up.bt.lockout = false ∧ up.responseOk 1 [] [] = false ∧ ofLE [8, 0, 0, 0] % 8 = 0
    ∧ up.bt.smbusOffset < 0x400000 ∧ (up.regRead .smbus 0 8).2.isSome = true ∧ Memory.wf 0xFF up.flash = true := by decide +kernel

theorem test_witness_sample_times : (let s := regsSet [(Reg.CTR_SAMPLE_CFG_PARTITION, 3, 0)] { dev with ctr := { tags := [⟨4, true, none, 0, [], 0, 0, 0, 0⟩] } }
    s.ctr.tags.any (·.id == 4) && s.sampleRing.2 != 0 && Memory.wf 0 s.store) = true := by decide +kernel

/-- A point of P-384 and a number under which a signature with both factors 1 verifies the response to a nonce of bytes 3: R = G + Q has
the hash as its x. -/
def unlockKey : List Byte := 4 :: (beBytes 48 21478205793595214911025277447077882308908527061200616496605438824310269394529420394254700455628477217342259894753825 ++ beBytes 48 6163580961343035499140678245248072909212971232548148976047125731930848375848553557296001555773097772439908035496495)
def unlockSig : List Byte := beBytes 48 6785937144176619949183141639371492096118759572132839113351901836302873047624182278620061294888839523266682706566411 ++ beBytes 48 6785937144176619949183141639371492096118759572132839113351901836302873047624182278620061294888839523266682706566411

theorem test_witness_debug_unlock : ({ up with bt := { up.bt with fuses := { debugHash := sha384 unlockKey }, nonce := some (List.replicate 48 3) } } : State).responseOk
    1 unlockKey unlockSig = true := by decide +kernel

/-! Conditions that statements share, and cases of one kind each. -/

theorem test_witness_conditions : up.pins ∧ (at0 fw).clocks ∧ (abi []).pins ∧ dev.pins ∧ cxlDev.pins ∧ (sender []).pins ∧ (tracked track1 (desc1 1)).pins
    ∧ joined.clocks ∧ pair.clocks ∧ (managed none 1 []).pins ∧ booted.pins ∧ (group1 frond1 []).pins ∧ (linked 71).pins
    ∧ (linked 71).rd Reg.LAN_PORT_CFG_LOOP 71 = 0 ∧ (linked 71).near 71 = false ∧ (linked 71).stopped 71 = false ∧ (linked 71).crossed 71 1 = false
    ∧ (linked 71).selfChecked 71 1 = false ∧ (linked 71).admits 0 = true ∧ idxOk 0 (2 ^ 21 - 1) = true ∧ idxOk 1 (2 ^ 15 - 1) = true ∧ idxOk 1 (2 ^ 15) = false
    ∧ ({ up with ft := { rootLost := true } } : State).ft.rootLost = true
    ∧ (let b := { up.bt with isolated := true }; ({ up with bt := b } : State).bt.isolated = true ∧ isolates (({ up with bt := b } : State).jtagActs .bypass) = false) := by
  decide +kernel

theorem test_witness_poisoned_load : (at0 fw).resolve 0 0x1000000000000040 8 accRead = (at0 fw, .ok { target := .store, pieces := [(0x40, 8)] })
    ∧ ({ at0 fw with poison := [8] } : State).poisoned 0x40 8 = true ∧ fw.clear .store 0x40 8 = true := by decide +kernel

/-- The last read of a COPY of 8 bytes within hive SRAM, on its way. -/
def lastRead : State :=
  at0 { fw with wait := .copy 3 0x180100 8, nextAcc := 8
                pend := [{ id := 7, kind := .load, call := true, target := .hive 0, addr := 0x180000, width := 8, total := 8 }] }

theorem test_witness_last_read : lastRead.quiet = true ∧ (lastRead.resolve 0 0x180100 8 accWrite).1 = lastRead
    ∧ (at0 fw).resolve 0 0x4000000000000004 4 accRead = (at0 fw, .ok { target := .rodata, pieces := [(4, 4)] })
    ∧ (match ((at0 fw).outPacket (Packet.toBytes { net := { kind := 2 }, body := .mgmt {} }) []).body with | .wt _ => false | _ => true) = true := by
  decide +kernel

theorem test_witness_command_times : (let f (c : Cmd) (l : Map Qp) : State := { dev with tp := { funcs := [(0, { func1 [] with cmd := some c })], qps := l } }
    [({ words := [], waitKey := some 3 } : Cmd), { words := [], waitInv := some ([], []) }, { words := cmdWords 0x0E 0 [] }, { words := [], read := false }].all
        (fun c => ((f c []).func 0).cmd == some c) && cmdCode (cmdWords 0x0E 0 []) == 0x0E
      && ((f { words := cmdWords 0x07 1 [] } [(9, { qp1 .error with resetting := true })]).qp 9).any (·.resetting)) = true := by decide +kernel

theorem test_witness_descriptor_cases : ((sender [{ desc1 1 with len := 0 }]).qp 9).bind (·.startable 1) = some { desc1 1 with len := 0 }
    ∧ (up.rd Reg.MCH_CONFIG_EAGER_THRESHOLD < ({ desc1 0x20 with len := 2 ^ 24 } : Desc).msgLen) ∧ (sender []).checkLocal 0x101 0 1 2 0x1000 0x10000 = none
    ∧ ({ qp1 .ready with shared := true, sq := [desc1 1], exhausted := some 1 } : Qp).waitsForPeer = some (desc1 1) ∧ (desc1 1).talks = true
    ∧ (let q := { qp1 .ready with sq := [desc1 0x31 .sent] }
      q.firstSent (desc1 0x31 .sent) ∧ ((abi [] [] [(2, { window with bound := true })]).key 2).generation = keyGen (desc1 0x31).rkey) := by decide +kernel

/-- Queue pair 9 with its packet at the shaper. -/
def shapedQp (tokens : Nat) : Qp :=
  { qp1 .ready with sq := [desc1 1 .sent], conns := [(connKey 6 3, { conn1 with track := [track1] })], peerEid := 6, peerQpn := 3
                    shaped := some (connKey 6 3, 4, []), shaper := { rate := 1000, burst := 65536, tokens := tokens } }

theorem test_witness_shaped_packets : [(100, true), (1, false)].all (fun x =>
      let s := abi [] [(9, shapedQp x.1)]
      s.track 9 (connKey 6 3) 4 == some track1 && (decide (16 + wtSize track1.hdr.ext ≤ ((shapedQp x.1).shaper.refill s.time).tokens)) == x.2) = true := by
  decide +kernel

theorem test_witness_blocks_wait : (let y : Port := { ctrl := [(5, []), (1, [0]), (3, [9])] }
      y.nextControl = some (3, [9]) ∧ (let z : Port := { ctrl := [(5, []), (1, [0])] }; z.nextControl = some (1, [0])) ∧ ({} : Port).nextControl = none)
    ∧ ctrlClean 0 (block 0 [1]) = false ∧ beBytes 4 (crcLink ((block 0 [1]).take 28)).toNat = (block 0 [1]).drop 28
    ∧ ({ linked 5 with rt := { mirrored := some (5, ⟨3, 0, 1, [], false⟩) } } : State).rt.mirrored = some (5, ⟨3, 0, 1, [], false⟩)
    ∧ (linked 5 {}).pickLane 5 = (linked 5 {}, none) ∧ ({} : Port).tx = [{}, {}] ∧ (32766 ≤ ({ sinceMark := 32765 } : Port).sinceMark + 1)
    ∧ (let s := regsSet [(Reg.LAN_LANE_STATUS_AM_LOCK, 1, 5), (Reg.LAN_LANE_STATUS_BLOCK_LOCK, 1, 5)] (linked 5)
      s.on Reg.LAN_LANE_STATUS_AM_LOCK 5 0 = true ∧ s.rd Reg.LAN_LANE_STATUS_LOGICAL 5 0 = 0) := by decide +kernel

theorem test_witness_swarm_queue : (let s := group1 { frond1 with cur := some ((group1 frond1 []).newEpoch 3 (coll 0x40).opId) } []
    let u : State := { s with sw := { s.sw with up := [(5, sw1 0)] } }
    u.sw.up == [(5, sw1 0)] && match (sw1 0).body with
      | .swarm h => (u.swarmPacket 5 h []).isSome
      | _ => false) = true
    ∧ ((abi []).setFunc 0 { func1 [] with cmd := some { words := cmdWords 0x0B 0 [0x101], read := true, waitKey := some 1 } }).tp.funcs.find?
        (fun p => (p.2.cmd.bind (·.waitKey)) == some 1) ≠ none := by decide +kernel

/-! Clauses on what waits, what is refused, and what is left behind. -/

/-- A thread that waits at a fence for its accesses. -/
def fenced (kind : Nat) (l : List Access) (failed : Bool) (vec : Word) : State :=
  at0 { fw with pend := l, nextAcc := 2, wait := .fence kind 3, fenceFail := failed, trapEn := vec.toNat }

theorem test_witness_waiting_fences : (let a := acc .store (.hive 0)
    let s := fenced 0 [a] true 1
    s.quiet && s.soft == [] && (s.thread 0).access 0 == some a && a.key.isNone && !a.performed && !a.reached && !a.call && !a.device && !a.queued
      && (s.thread 0).fenceFail && (s.thread 0).trapEn % 2 == 1 && Thread.mayTrap { s.thread 0 with wait := .none } && s.xl.opens.isEmpty
      && ((fenced 0 [a] false 0).thread 0).fenceFail == false && ((fenced 3 [a, { acc .load .store with id := 1 }] false 0).thread 0).pend.length == 2
      && ((fenced 1 [{ acc .load (.hive 0) with rd := some 4 }] false 0).thread 0).pend.all fun x => x.total == x.width && x.off == 0) = true
    ∧ (let s := fenced 3 [{ acc .store .store with device := true }] false 0
      s.quiet && (s.thread 0).trapEn % 2 == 0 && (s.thread 0).tag.isNone && (s.thread 0).last.isNone && decide ((s.thread 0).pc + 4 < (s.thread 0).code)) = true := by
  decide +kernel

theorem test_witness_poisoned_sram : (let a := acc .load (.hive 0)
    let s : State := { at0 { fw with pend := [a], nextAcc := 1 } with soft := [⟨.hive 0 0x180007, false⟩] }
    s.quiet && (s.thread 0).mayTrap && decide (a.addr ≤ 0x180007 ∧ 0x180007 < a.addr + a.width) && ({ acc .lr (.hive 0) with void := true } : Access).void) = true := by
  decide +kernel

theorem test_witness_bar4 : ([0, 16 * 2047].all fun a => (abi []).bar4Reaches 0 a && (abi []).bar4Reaches 0 (a + 8)) = true ∧ (abi []).bar4Reaches 0 0x8000 = true
    ∧ mget (func1 []).pds 8 = none ∧ mget (func1 []).cqs 8 = none := by decide +kernel

/-- The block of an acknowledgement of an LSN with a reserved 1. -/
def flawed (lsn credit : Nat) : List Byte := block 1 ([1] ++ beBytes 3 lsn ++ [0] ++ (List.range 8).flatMap fun _ => beBytes 2 credit)

/-- A port that has sent LSNs up to 4, acknowledged up to 2. -/
def sentUpTo4 : State :=
  regsSet [(Reg.LNK_LEDGER_NEXT_LSN, 5, 0), (Reg.LNK_LEDGER_ACKED_LSN, 2, 0), (Reg.LAN_PORT_STATUS_ALIGNED, 1, 0)] (linked 0 { adv := List.replicate 8 64 })

theorem test_witness_flawed_acknowledgements : (let s := sentUpTo4
    let d (n : Nat) : Nat := (beAt (flawed n 0) 2 3 + 2 ^ 24 - 2) % 2 ^ 24
    s.portUp 0 && s.on Reg.LAN_PORT_STATUS_ALIGNED 0 && (flawed 3 0).length == 32 && !ctrlClean 1 (flawed 3 0) && decide (d 4 ≤ 2) && decide (2 < d 5)
      && decide (d 5 < 2 ^ 23) && decide (2 ^ 23 ≤ d 1) && !(s.addCredits 0 (flawed 3 0)).2 && (s.addCredits 0 (flawed 3 100)).2) = true := by decide +kernel

/-- Ports 5 and 6 in one bundle, partners of each other, with packets that port 6 has sent. -/
def partners (l : List Replay) : State :=
  let s := (up.wr Reg.RTE_PARTNER_ENABLE 1 1 6).wr Reg.RTE_PARTNER_PORT 5 1 6
  let t := regsSet [(Reg.LNK_STATUS_STATE, 2, 5), (Reg.LNK_STATUS_STATE, 2, 6), (Reg.LNK_STATUS_VERSION, 2, 5), (Reg.LNK_STATUS_VERSION, 2, 6),
    (Reg.LNK_STATUS_FAR_COORD_VALID, 1, 5)] s
  (t.setPort 5 { latched := true }).setPort 6 { latched := true, replay := l }

theorem test_witness_link_down_with_packets : (let r : Replay := ⟨3, 0, 1, Packet.toBytes packet0, false⟩
    (partners [r]).goodPartner 6 == some 5 && (partners [r]).portUp 6 && (linked 5).goodPartner 5 == none && (linked 5).portUp 5 && !up.portUp 5
      && (match (Packet.ofBytes r.bytes r.stomped).body with | .swarm _ => false | _ => true)) = true := by decide +kernel

theorem test_witness_mirror_copies : (let s (cells : Nat) : State := { busy [] [] [] with rt := { mirrored := some (5, ⟨0, 0, cells, Packet.toBytes packet0, false⟩) } }
    (s 1).maySend 5 0 1 true && !(s 70).maySend 5 0 70 true && (busy [] [] []).rt.mirrored.isNone) = true := by decide +kernel

theorem test_witness_summaries_due : (let s := pair.wr Reg.LNK_STATUS_VERSION 2 0
    let due (t : State) : Option Nat := (t.summaryPorts 0 1)[t.rt.waggleTurn % max 1 (t.summaryPorts 0 1).length]?
    due s == some 0 && due joined == none && s.neighbour 1 0 == some 1 && s.portUp 0) = true := by decide +kernel

theorem test_witness_markers_and_alignment : (let s := regsSet [(Reg.LAN_LANE_STATUS_AM_LOCK, 1, 5)] ((linked 5 { amSeen := [some 0, none], sinceMark := 3 }).wr
        Reg.LAN_LANE_STATUS_BLOCK_LOCK 1 5 1)
    s.on Reg.LAN_LANE_STATUS_AM_LOCK 5 0 && (s.port 5).amSeen.getD 0 none == some 0 && (s.port 5).amSeen.getD 0 none != some 1) = true
    ∧ (let s := linked 5 { adv := [64], rxCells := [64], sinceMark := 32765 }
      ((s.egressStep 5).port 5).sinceMark < (s.port 5).sinceMark) := by decide +kernel

theorem test_witness_walk_slots : leafCovers 0 5 0x5000 0x0F = true ∧ leafCovers 0 5 0x6000 0x0F = false
    ∧ (let s := cxlDev.wr Reg.GLB_CROSSING_CTRL_QUIESCE 1 5
      s.admits 5 = false ∧ (s.cxlLine 7 64).isSome) := by decide +kernel

theorem test_witness_reported_reactions : (let s : State := { up with ft := { reactions := [⟨0x003, 0, false, 0⟩] }, bt := { up.bt with aer := [(0, { maskCorrected := false })] } }
    let t := (s.wr Reg.EVT_SRC_CFG_NMI 1 3).wr Reg.EVT_SRC_CFG_EXT_PCIE 1 3
    t.on Reg.EVT_SRC_CFG_NMI 3 && t.on Reg.EVT_SRC_CFG_EXT_PCIE 3 && classOf 3 == some 0 && !t.on Reg.EVT_SRC_CFG_CHIP_RESET 3
      && !t.on Reg.EVT_SRC_CFG_BLOCK_RESET 3 && !t.on Reg.EVT_SRC_CFG_FM 3 && !(t.aerOf 0).maskCorrected && t.bt.linkUp / 2 ^ 0 % 2 == 1) = true := by decide +kernel

theorem test_witness_held_work : up.workHeld 2 = false ∧ (busy [3] [] []).workHeld 1 = true ∧ [0, 1, 2, 3, 4, 5, 6].all (fun n => !up.workHeld n) = true
    ∧ standbyCommand (.sysNop 0) = false ∧ standbyCommand .rootRelock = true ∧ standbyCommand (.put 9 1) = false
    ∧ ({ up with ft := { rootLost := true } } : State).on Reg.GLB_CLK_STATUS_ROOT_LOCK = false ∧ up.admits 2 = true ∧ up.refbPorts = [] := by decide +kernel

theorem test_witness_lifetime_records : nextRecord [] false [[1, 2, 3, 4]] = some ([1, 2, 3, 4], []) ∧ ({} : Lichen).avsRead = false
    ∧ (booted.lch.buffer.length < 64) := by decide +kernel

theorem test_witness_reset_conditions : up.bootable = true ∧ booted.clocks ∧ State.reset.bt.inReset = true ∧ State.reset.bt.kind < 3 ∧ State.reset.bt.resetLow = true
    ∧ (let s : State := { State.reset with bt := { State.reset.bt with stbyUp := true, railsUp := 30, resetLow := false } }
      s.bt.railsUp < 31 ∧ s.bt.railsUp ||| (1 : BitVec 5).toNat = 31 ∧ s.bt.railsUp ||| (2 : BitVec 5).toNat ≠ 31)
    ∧ ([80, 81, 82, 83].all fun u => ({ up with ft := { units := [u] } } : State).ft.units.contains u && !booted.ft.units.contains u) = true
    ∧ up.ft.units.contains 71 = false ∧ (linked 71).portUp 71 = true ∧ (up.rd Reg.BOOT_STATUS_STAGE ≠ 15 ∧ (up.wr Reg.BOOT_STATUS_STAGE 15).rd Reg.BOOT_STATUS_STAGE = 15)
    ∧ (∀ x ∈ (at0 fw).fg.threads, ∀ a ∈ x.2.pend, a.key = none) ∧ ({ at0 fw with bt := up.bt } : State).pins := by decide +kernel

theorem test_witness_flash_and_standby : (0x1001 : Nat) % 4096 ≠ 0 ∧ standbyReg 0x200 = false ∧ standbyReg 0x100000 = true
    ∧ ({ up with bt := { up.bt with inReset := true } } : State).bt.inReset = true ∧ up.bt.smbusOffset < 0x400000 := by decide +kernel

theorem test_reset_forms : State.reset.regsWf = true ∧ State.reset.memoryWf = true ∧ booted.regsWf = true ∧ (at0 fw).memoryWf = true := by decide +kernel

end Sys2Proof.Tests
end

/-! PROOFS. Token buckets and policers (R291, R294): refilling in two checks is refilling in one, and the three verdicts
of a policer. -/

namespace Sys2Proof.Machine

/-! ### Refilling a bucket (R291) -/

@[simp] theorem Bucket.refill_tokens (b : Bucket) (now : Nat) :
    (b.refill now).tokens = min b.burst (b.tokens + (b.rate * (now - b.last) + b.rem) / 8000) := rfl

@[simp] theorem Bucket.refill_rem (b : Bucket) (now : Nat) :
    (b.refill now).rem = (b.rate * (now - b.last) + b.rem) % 8000 := rfl

@[simp] theorem Bucket.refill_last (b : Bucket) (now : Nat) : (b.refill now).last = now := rfl

@[simp] theorem Bucket.refill_rate (b : Bucket) (now : Nat) : (b.refill now).rate = b.rate := rfl

@[simp] theorem Bucket.refill_burst (b : Bucket) (now : Nat) : (b.refill now).burst = b.burst := rfl

/-- What the second check finds: its own time's share and the remainder that the first one kept. Putting the 8,000ths that
the first check took out back in gives the amount of one check over the whole time. -/
theorem Bucket.refill_amount_add (b : Bucket) {t1 t2 : Nat} (h1 : b.last ≤ t1) (h2 : t1 ≤ t2) :
    b.rate * (t2 - t1) + (b.rate * (t1 - b.last) + b.rem) % 8000
        + 8000 * ((b.rate * (t1 - b.last) + b.rem) / 8000)
      = b.rate * (t2 - b.last) + b.rem := by
  have split_time : t2 - b.last = (t2 - t1) + (t1 - b.last) := by omega
  rw [split_time, Nat.mul_add, Nat.add_assoc, Nat.mod_add_div, Nat.add_assoc]

/-- A check in between changes nothing: the remainder is kept, and a bucket clamped on the way is full in the end. -/
theorem Bucket.refill_refill (b : Bucket) {t1 t2 : Nat} (h1 : b.last ≤ t1) (h2 : t1 ≤ t2) :
    (b.refill t1).refill t2 = b.refill t2 := by
  have amount := b.refill_amount_add h1 h2
  have tokens : ((b.refill t1).refill t2).tokens = (b.refill t2).tokens := by
    simp only [refill_tokens, refill_rem, refill_last, refill_rate, refill_burst]
    omega
  have rem : ((b.refill t1).refill t2).rem = (b.refill t2).rem := by
    simp only [refill_rem, refill_last, refill_rate]
    omega
  calc (b.refill t1).refill t2
      = { b with tokens := ((b.refill t1).refill t2).tokens, rem := ((b.refill t1).refill t2).rem, last := t2 } := rfl
    _ = { b with tokens := (b.refill t2).tokens, rem := (b.refill t2).rem, last := t2 } := by rw [tokens, rem]
    _ = b.refill t2 := rfl

/-! ### The verdicts of a policer (R294) -/

/-- The pre-colour that an enabled policer judges by: green in colour-blind mode. -/
def Policer.preColour (p : Policer) (pre : Nat) : Nat := if p.aware then pre else 0

theorem Policer.judge_of_disabled (p : Policer) (now pre len : Nat) (h : p.enable = false) :
    p.judge now pre len = (p, pre) := by
  simp [judge, h]

theorem Policer.judge_red (p : Policer) (now pre len : Nat) (on : p.enable = true)
    (h : p.preColour pre = 2 ∨ (p.tp.refill now).tokens < len) :
    p.judge now pre len = ({ p with tc := p.tc.refill now, tp := p.tp.refill now }, 2) := by
  unfold preColour at h
  simp only [judge, on, Bool.not_true, Bool.false_eq_true, if_false, if_pos h]

theorem Policer.judge_yellow (p : Policer) (now pre len : Nat) (on : p.enable = true)
    (notRed : p.preColour pre ≠ 2) (peak : len ≤ (p.tp.refill now).tokens)
    (h : p.preColour pre = 1 ∨ (p.tc.refill now).tokens < len) :
    p.judge now pre len = ({ p with
      tc := p.tc.refill now
      tp := { p.tp.refill now with tokens := (p.tp.refill now).tokens - len } }, 1) := by
  have passes : ¬ (p.preColour pre = 2 ∨ (p.tp.refill now).tokens < len) := not_or.2 ⟨notRed, peak.not_gt⟩
  unfold preColour at h passes
  simp only [judge, on, Bool.not_true, Bool.false_eq_true, if_false, if_neg passes, if_pos h]

theorem Policer.judge_green (p : Policer) (now pre len : Nat) (on : p.enable = true)
    (green : p.preColour pre = 0) (peak : len ≤ (p.tp.refill now).tokens) (committed : len ≤ (p.tc.refill now).tokens) :
    p.judge now pre len = ({ p with
      tc := { p.tc.refill now with tokens := (p.tc.refill now).tokens - len }
      tp := { p.tp.refill now with tokens := (p.tp.refill now).tokens - len } }, 0) := by
  have passes : ¬ (p.preColour pre = 2 ∨ (p.tp.refill now).tokens < len) := by omega
  have conforms : ¬ (p.preColour pre = 1 ∨ (p.tc.refill now).tokens < len) := by omega
  unfold preColour at passes conforms
  simp only [judge, on, Bool.not_true, Bool.false_eq_true, if_false, if_neg passes, if_neg conforms]

/-- Settles O31: the filling by the equations of `Bucket.refill` and `Bucket.refill_refill`, the colours by one lemma for
each verdict of `Policer.judge`. -/
theorem bucketsFillAndPolicersColour : Obligations.BucketsFillAndPolicersColour := by
  unfold Obligations.BucketsFillAndPolicersColour
  refine ⟨fun b t1 t2 h1 h2 => ⟨?_, rfl, ?_, rfl, fun _ => ?_⟩, fun p now pre len _ => ?_⟩
  · exact (min_le_left _ _).trans (le_max_left _ _)
  · exact Nat.mod_lt _ (by decide)
  · rw [b.refill_refill h1 h2]
    exact ⟨rfl, rfl⟩
  · exact ⟨p.judge_of_disabled now pre len, fun on =>
      ⟨p.judge_red now pre len on, fun notRed peak =>
        ⟨p.judge_yellow now pre len on notRed peak, fun green => p.judge_green now pre len on green peak⟩⟩⟩

end Sys2Proof.Machine

/-! PROOFS. The integer instructions (R325, R326): what a register instruction and one with an immediate do once they issue,
and what the bit and byte functions of R325 compute. -/

namespace Sys2Proof.Machine

/-! ### An ALU instruction that issues (R325, R326) -/

section
variable {s : State} {t : Nat} {i : Instr} {rd ra rb : GReg} {v : Word}

/-- Counting an instruction and taking it from a handler's budget leaves the registers. -/
theorem greg_fired (s : State) (t : Nat) (r : GReg) :
    ((s.counted t).setThread t (s.thread t).spent).greg t r = s.greg t r := by
  rw [State.greg, thread_setThread_same]
  rfl

/-- An instruction that is an operation over two registers writes the operation's value and goes on. -/
theorem exec_alu2 (hc : s.calm t) (hp : (s.thread t).pc + 4 < (s.thread t).code) {f : Word → Word → Word}
    (he : exec i s = s.alu2 t i rd ra rb f) (hv : f (s.greg t ra) (s.greg t rb) = v) (hi : s.canIssue t i) :
    exec i s = s.stepped t (Thread.wrote rd v) := by
  subst hv
  rw [he]
  exact writes_stepped hi hc hp rd (fun s => f (s.greg t ra) (s.greg t rb)) (by simp only [greg_fired])

/-- An instruction that is an operation over one register writes the operation's value and goes on. -/
theorem exec_alu1 (hc : s.calm t) (hp : (s.thread t).pc + 4 < (s.thread t).code) {f : Word → Word}
    (he : exec i s = s.alu1 t i rd ra f) (hv : f (s.greg t ra) = v) (hi : s.canIssue t i) :
    exec i s = s.stepped t (Thread.wrote rd v) := by
  subst hv
  rw [he]
  exact writes_stepped hi hc hp rd (fun s => f (s.greg t ra)) (by simp only [greg_fired])

end

/-! ### Products, comparisons, minimum and maximum -/

theorem mul_eq_ofNat_toNat (a b : Word) : a * b = BitVec.ofNat 64 (a.toNat * b.toNat) := by
  rw [BitVec.ofNat_mul, BitVec.ofNat_toNat, BitVec.ofNat_toNat, BitVec.setWidth_eq, BitVec.setWidth_eq]

theorem boolWord_slt (a b : Word) : boolWord (a.slt b) = if a.toInt < b.toInt then 1 else 0 := by
  simp only [boolWord, BitVec.slt_iff_toInt_lt]

theorem boolWord_ult (a b : Word) : boolWord (a.ult b) = if a.toNat < b.toNat then 1 else 0 := by
  simp only [boolWord, BitVec.ult_iff_lt, BitVec.lt_def]

theorem ite_slt_eq_min (a b : Word) : (if a.slt b then a else b) = BitVec.ofInt 64 (min a.toInt b.toInt) := by
  simp only [BitVec.slt_iff_toInt_lt, min_def_lt, apply_ite (BitVec.ofInt 64), BitVec.ofInt_toInt]

theorem ite_slt_eq_max (a b : Word) : (if a.slt b then b else a) = BitVec.ofInt 64 (max a.toInt b.toInt) := by
  simp only [BitVec.slt_iff_toInt_lt, max_def_lt, apply_ite (BitVec.ofInt 64), BitVec.ofInt_toInt]

theorem ite_ult_eq_min (a b : Word) : (if a.ult b then a else b) = BitVec.ofNat 64 (min a.toNat b.toNat) := by
  simp only [BitVec.ult_iff_lt, BitVec.lt_def, min_def_lt, apply_ite (BitVec.ofNat 64), BitVec.ofNat_toNat, BitVec.setWidth_eq]

theorem ite_ult_eq_max (a b : Word) : (if a.ult b then b else a) = BitVec.ofNat 64 (max a.toNat b.toNat) := by
  simp only [BitVec.ult_iff_lt, BitVec.lt_def, max_def_lt, apply_ite (BitVec.ofNat 64), BitVec.ofNat_toNat, BitVec.setWidth_eq]

/-! ### The shifts of SHIFTI (R326) -/

theorem shiftBy_left {imm : BitVec 16} (h : imm.toNat < 64) (a : Word) : shiftBy imm a = a <<< imm.toNat := by
  have kind : imm.toNat / 64 % 4 = 0 := by omega
  have amount : imm.toNat % 64 = imm.toNat := by omega
  simp only [shiftBy, kind, amount]

theorem shiftBy_right {imm : BitVec 16} (h : 64 ≤ imm.toNat) (h' : imm.toNat < 128) (a : Word) :
    shiftBy imm a = a >>> (imm.toNat - 64) := by
  have kind : imm.toNat / 64 % 4 = 1 := by omega
  have amount : imm.toNat % 64 = imm.toNat - 64 := by omega
  simp only [shiftBy, kind, amount]

theorem shiftBy_arithmetic {imm : BitVec 16} (h : 128 ≤ imm.toNat) (h' : imm.toNat < 192) (a : Word) :
    shiftBy imm a = a.sshiftRight (imm.toNat - 128) := by
  have kind : imm.toNat / 64 % 4 = 2 := by omega
  have amount : imm.toNat % 64 = imm.toNat - 128 := by omega
  simp only [shiftBy, kind, amount]

theorem shiftBy_rotate {imm : BitVec 16} (h : 192 ≤ imm.toNat) (h' : imm.toNat < 256) (a : Word) :
    shiftBy imm a = a.rotateRight (imm.toNat - 192) := by
  have kind : imm.toNat / 64 % 4 = 3 := by omega
  have amount : imm.toNat % 64 = imm.toNat - 192 := by omega
  simp only [shiftBy, kind, amount]

/-! ### Fields of the words of formats A and I (R322) -/

@[simp] theorem opOf_fmtA (op : BitVec 6) (rd ra rb : GReg) (fn : BitVec 11) : opOf (fmtA op rd ra rb fn) = op :=
  BitVec.extractLsb'_append_eq_right

@[simp] theorem rbOf_fmtA (op : BitVec 6) (rd ra rb : GReg) (fn : BitVec 11) : rbOf (fmtA op rd ra rb fn) = rb :=
  calc rbOf (fmtA op rd ra rb fn)
      = (fn ++ rb ++ ra ++ rd).extractLsb' 10 5 := BitVec.extractLsb'_append_eq_of_le (by decide)
    _ = (fn ++ rb ++ ra).extractLsb' 5 5 := BitVec.extractLsb'_append_eq_of_le (by decide)
    _ = (fn ++ rb).extractLsb' 0 5 := BitVec.extractLsb'_append_eq_of_le (by decide)
    _ = rb := BitVec.extractLsb'_append_eq_right

@[simp] theorem fnOf_fmtA (op : BitVec 6) (rd ra rb : GReg) (fn : BitVec 11) : fnOf (fmtA op rd ra rb fn) = fn :=
  calc fnOf (fmtA op rd ra rb fn)
      = (fn ++ rb ++ ra ++ rd).extractLsb' 15 11 := BitVec.extractLsb'_append_eq_of_le (by decide)
    _ = (fn ++ rb ++ ra).extractLsb' 10 11 := BitVec.extractLsb'_append_eq_of_le (by decide)
    _ = (fn ++ rb).extractLsb' 5 11 := BitVec.extractLsb'_append_eq_of_le (by decide)
    _ = fn := BitVec.extractLsb'_append_eq_left

@[simp] theorem opOf_fmtI (op : BitVec 6) (rd ra : GReg) (imm : BitVec 16) : opOf (fmtI op rd ra imm) = op :=
  BitVec.extractLsb'_append_eq_right

@[simp] theorem immOf_fmtI (op : BitVec 6) (rd ra : GReg) (imm : BitVec 16) : immOf (fmtI op rd ra imm) = imm :=
  calc immOf (fmtI op rd ra imm)
      = (imm ++ ra ++ rd).extractLsb' 10 16 := BitVec.extractLsb'_append_eq_of_le (by decide)
    _ = (imm ++ ra).extractLsb' 5 16 := BitVec.extractLsb'_append_eq_of_le (by decide)
    _ = imm := BitVec.extractLsb'_append_eq_left

/-! ### Words that R324 makes illegal -/

/-- A word with the ALU's opcode is decoded by its function number. -/
theorem decodeWord_alu {w : BitVec 32} (t : Nat) (h : opOf w = 0x01) :
    decodeWord t w = decodeAlu t (rdOf w) (raOf w) (rbOf w) (fnOf w).toNat := by
  simp only [decodeWord, h]
  rfl

/-- The functions from 25 on are not listed. -/
theorem decodeAlu_unlisted (t : Nat) (rd ra rb : GReg) {fn : Nat} (h : 25 ≤ fn) : decodeAlu t rd ra rb fn = none := by
  obtain ⟨n, rfl⟩ := Nat.exists_eq_add_of_le' h
  rfl

/-- The functions 19 to 23 are unary: an rb makes the word illegal. -/
theorem decodeAlu_unary (t : Nat) (rd ra : GReg) {rb : GReg} {fn : Nat} (h : 19 ≤ fn) (h' : fn ≤ 23) (hb : rb ≠ 0) :
    decodeAlu t rd ra rb fn = none := by
  interval_cases fn <;> simp only [decodeAlu, if_neg hb]

/-- An instruction whose word does not decode is not legal. -/
theorem wordOk_of_decode_none {i : Instr} {w : BitVec 32} {t : Nat} (he : encodeWord i = some w) (hd : decodeWord t w = none) :
    wordOk i t = false := by
  simp only [wordOk, he, hd]
  rfl

/-- A unary ALU instruction with an rb is illegal. -/
theorem wordOk_unary {i : Instr} {rd ra rb : GReg} {fn : BitVec 11} (t : Nat) (he : encodeWord i = some (fmtA 0x01 rd ra rb fn))
    (h : 19 ≤ fn.toNat ∧ fn.toNat ≤ 23) (hb : rb ≠ 0) : wordOk i t = false := by
  refine wordOk_of_decode_none he ?_
  rw [decodeWord_alu t (opOf_fmtA ..), rbOf_fmtA, fnOf_fmtA]
  exact decodeAlu_unary t _ _ h.1 h.2 hb

/-- SHIFTI has no kinds beyond the four that IMM16[7:6] names. -/
theorem wordOk_shifti {imm : BitVec 16} (t : Nat) (rd ra : GReg) (h : 256 ≤ imm.toNat) : wordOk (.shifti t rd ra imm) t = false := by
  refine wordOk_of_decode_none rfl ?_
  simp only [decodeWord, opOf_fmtI, immOf_fmtI]
  exact if_neg (by omega)

/-! ### Zero bits and one bits (R325) -/

theorem log2_toNat_lt {a : Word} (h : a ≠ 0) : a.toNat.log2 < 64 :=
  (Nat.log2_lt fun h0 => h (BitVec.eq_of_toNat_eq h0)).2 a.isLt

theorem leadingZeros_of_ne_zero {a : Word} (h : a ≠ 0) : leadingZeros a = 63 - a.toNat.log2 := if_neg h

theorem leadingZeros_eq_64_iff (a : Word) : leadingZeros a = 64 ↔ a = 0 := by
  refine ⟨fun h => ?_, fun h => if_pos h⟩
  by_contra hne
  rw [leadingZeros_of_ne_zero hne] at h
  omega

/-- The leading zeros of a word that is not 0 say which power of 2 its highest one bit has. -/
theorem leadingZeros_bounds {a : Word} (h : a ≠ 0) :
    leadingZeros a < 64 ∧ 2 ^ (63 - leadingZeros a) ≤ a.toNat ∧ a.toNat < 2 ^ (64 - leadingZeros a) := by
  have top := log2_toNat_lt h
  have zeros := leadingZeros_of_ne_zero h
  have highest : 63 - leadingZeros a = a.toNat.log2 := by omega
  have above : 64 - leadingZeros a = a.toNat.log2 + 1 := by omega
  rw [highest, above]
  exact ⟨by omega, Nat.log2_self_le fun h0 => h (BitVec.eq_of_toNat_eq h0), Nat.lt_log2_self⟩

/-- The search for the lowest one bit: it finds none in 0, and otherwise the first. -/
theorem trailingZeros_cases (a : Word) :
    (a = 0 ∧ trailingZeros a = 64)
      ∨ (trailingZeros a < 64 ∧ a.getLsbD (trailingZeros a) = true ∧ ∀ k < trailingZeros a, a.getLsbD k = false) := by
  unfold trailingZeros
  cases found : (List.range 64).find? fun k => a.getLsbD k with
  | none =>
    rw [List.find?_range_eq_none] at found
    exact .inl ⟨BitVec.eq_of_getLsbD_eq fun k hk => by simpa using found k hk, rfl⟩
  | some k =>
    obtain ⟨one, inside, below⟩ := List.find?_range_eq_some.1 found
    exact .inr ⟨List.mem_range.1 inside, one, fun j hj => by simpa using below j hj⟩

theorem trailingZeros_eq_64_iff (a : Word) : trailingZeros a = 64 ↔ a = 0 := by
  obtain ⟨zero, none⟩ | ⟨inside, one, -⟩ := trailingZeros_cases a
  · exact iff_of_true none zero
  · exact iff_of_false inside.ne fun zero => by simp [zero] at one

theorem trailingZeros_lowest {a : Word} (h : a ≠ 0) :
    a.getLsbD (trailingZeros a) = true ∧ ∀ k < trailingZeros a, a.getLsbD k = false := by
  obtain ⟨zero, -⟩ | ⟨-, lowest⟩ := trailingZeros_cases a
  · exact absurd zero h
  · exact lowest

theorem length_filter_eq_sum {α : Type} (p : α → Bool) (l : List α) :
    (l.filter p).length = (l.map fun x => if p x then 1 else 0).sum := by
  induction l with
  | nil => rfl
  | cons x l ih => cases h : p x <;> simp [h, ih, Nat.add_comm]

/-! ### Bytes in reverse order (R325) -/

/-- Byte `i` of the number that bytes spell, lowest first, is the byte at `i`. -/
theorem ofLE_byte (l : List Byte) (i : Nat) : ofLE l / 256 ^ i % 256 = (l.getD i 0).toNat := by
  induction l generalizing i with
  | nil => simp [ofLE]
  | cons b l ih =>
    have byte : b.toNat < 256 := b.isLt
    cases i with
    | zero => simp [ofLE, Nat.mod_eq_of_lt byte]
    | succ i =>
      have rest : (b.toNat + 256 * ofLE l) / 256 = ofLE l := by omega
      rw [ofLE, Nat.pow_succ', ← Nat.div_div_eq_div_mul, rest, ih, List.getD_cons_succ]

theorem ofLE_lt (l : List Byte) : ofLE l < 256 ^ l.length := by
  induction l with
  | nil => simp [ofLE]
  | cons b l ih =>
    have byte : b.toNat < 256 := b.isLt
    rw [ofLE, List.length_cons, Nat.pow_succ']
    omega

theorem ofBE_eq_ofLE_reverse (l : List Byte) : ofBE l = ofLE l.reverse := by
  induction l using List.reverseRecOn with
  | nil => rfl
  | append_singleton l b ih =>
    rw [List.reverse_append, List.reverse_singleton, List.singleton_append, ofLE, ← ih]
    simp [ofBE, Nat.add_comm]

theorem leBytes_getD {n i : Nat} (v : Nat) (h : i < n) : (leBytes n v).getD i 0 = BitVec.ofNat 8 (v / 256 ^ i) := by
  induction n generalizing i v with
  | zero => omega
  | succ n ih =>
    cases i with
    | zero => simp [leBytes]
    | succ i => rw [leBytes, List.getD_cons_succ, ih _ (by omega), Nat.div_div_eq_div_mul, Nat.pow_succ']

/-- A word holds the number that at most eight bytes spell. -/
theorem toNat_reverseBytes {n : Nat} (h : n ≤ 8) (a : Word) :
    (reverseBytes n a).toNat = ofLE (leBytes n a.toNat).reverse := by
  have bytes : ofLE (leBytes n a.toNat).reverse < 256 ^ n := by
    simpa using ofLE_lt (leBytes n a.toNat).reverse
  have room : 256 ^ n ≤ 2 ^ 64 := Nat.pow_le_pow_right (n := 256) (by decide) h
  rw [reverseBytes, ofBE_eq_ofLE_reverse, BitVec.toNat_ofNat, Nat.mod_eq_of_lt (bytes.trans_le room)]

/-- Reversing `n` bytes puts byte `n - 1 - i` at place `i`. -/
theorem reverseBytes_byte {n i : Nat} (h : n ≤ 8) (hi : i < n) (a : Word) :
    (reverseBytes n a).extractLsb' (8 * i) 8 = a.extractLsb' (8 * (n - 1 - i)) 8 := by
  have mirrored : (leBytes n a.toNat).reverse.getD i 0 = (leBytes n a.toNat).getD (n - 1 - i) 0 := by
    rw [List.getD_eq_getElem?_getD, List.getElem?_reverse (by simpa using hi), leBytes_length, ← List.getD_eq_getElem?_getD]
  have power (k : Nat) : 2 ^ (8 * k) = 256 ^ k := Nat.pow_mul 2 8 k
  apply BitVec.eq_of_toNat_eq
  calc ((reverseBytes n a).extractLsb' (8 * i) 8).toNat
      = ofLE (leBytes n a.toNat).reverse / 256 ^ i % 256 := by
        rw [BitVec.extractLsb'_toNat, toNat_reverseBytes h, Nat.shiftRight_eq_div_pow, power]
    _ = a.toNat / 256 ^ (n - 1 - i) % 256 := by
        rw [ofLE_byte, mirrored, leBytes_getD _ (by omega), BitVec.toNat_ofNat]
    _ = (a.extractLsb' (8 * (n - 1 - i)) 8).toNat := by
        rw [BitVec.extractLsb'_toNat, Nat.shiftRight_eq_div_pow, power]

/-- Four reversed bytes fill the lower half of the word only. -/
theorem reverseBytes_four_upper (a : Word) : (reverseBytes 4 a).extractLsb' 32 32 = 0 := by
  have bytes : ofLE (leBytes 4 a.toNat).reverse < 2 ^ 32 := by
    simpa using ofLE_lt (leBytes 4 a.toNat).reverse
  apply BitVec.eq_of_toNat_eq
  rw [BitVec.extractLsb'_toNat, toNat_reverseBytes (by decide), Nat.shiftRight_eq_div_pow, Nat.div_eq_of_lt bytes]
  rfl

/-! ### CRC8 (R118, R325) -/

theorem setWidth_crc8Step (a b : Word) :
    (crc8Step a b).setWidth 32 = (beBytes 8 b.toNat).foldl crc32cByte (a.setWidth 32) := by
  rw [crc8Step, BitVec.setWidth_setWidth_of_le _ (by decide), BitVec.setWidth_eq]

theorem crc8Step_upper (a b : Word) : (crc8Step a b).extractLsb' 32 32 = 0 := by
  apply BitVec.eq_of_getLsbD_eq
  intro k hk
  simp [crc8Step, BitVec.getLsbD_extractLsb', BitVec.getLsbD_setWidth]

/-- CRC8 over one word after another runs the CRC register over the words' bytes. -/
theorem foldl_crc8Step (l : List Word) (a : Word) :
    (l.foldl crc8Step a).setWidth 32 = (l.flatMap fun w => beBytes 8 w.toNat).foldl crc32cByte (a.setWidth 32) := by
  induction l generalizing a with
  | nil => rfl
  | cons w l ih => rw [List.foldl_cons, ih, setWidth_crc8Step, List.flatMap_cons, List.foldl_append]

/-! ### The statements -/

/-- Settles O2: each instruction by `exec_alu2` or `exec_alu1` and its value, the illegal words by the decoder, and the functions
of R325 by the lemmas about each. -/
theorem aluInstructionsWriteTheirValue : Obligations.AluInstructionsWriteTheirValue := by
  unfold Obligations.AluInstructionsWriteTheirValue
  refine ⟨?instructions, ?functions⟩
  case instructions =>
    intro s t rd ra rb hc hp a b gives
    refine ⟨exec_alu2 hc hp (exec_add ..) rfl, exec_alu2 hc hp (exec_sub ..) rfl, exec_alu2 hc hp (exec_and ..) rfl,
      exec_alu2 hc hp (exec_or ..) rfl, exec_alu2 hc hp (exec_xor ..) rfl, exec_alu2 hc hp (exec_sll ..) rfl,
      exec_alu2 hc hp (exec_srl ..) rfl, exec_alu2 hc hp (exec_sra ..) rfl,
      exec_alu2 hc hp (exec_slt ..) (boolWord_slt _ _), exec_alu2 hc hp (exec_sltu ..) (boolWord_ult _ _),
      exec_alu2 hc hp (exec_mul ..) (mul_eq_ofNat_toNat _ _), exec_alu2 hc hp (exec_mulhu ..) rfl,
      exec_alu2 hc hp (exec_mulh ..) rfl, exec_alu2 hc hp (exec_divu ..) rfl, exec_alu2 hc hp (exec_remu ..) rfl,
      exec_alu2 hc hp (exec_min ..) (ite_slt_eq_min _ _), exec_alu2 hc hp (exec_max ..) (ite_slt_eq_max _ _),
      exec_alu2 hc hp (exec_minu ..) (ite_ult_eq_min _ _), exec_alu2 hc hp (exec_maxu ..) (ite_ult_eq_max _ _),
      exec_alu1 hc hp (exec_clz ..) rfl, exec_alu1 hc hp (exec_ctz ..) rfl, exec_alu1 hc hp (exec_popc ..) rfl,
      exec_alu1 hc hp (exec_bswap ..) rfl, exec_alu1 hc hp (exec_bswap4 ..) rfl, exec_alu2 hc hp (exec_crc8 ..) rfl,
      ?unary, ?unlisted⟩
    case unary =>
      intro i hi hb
      simp only [List.mem_cons, List.not_mem_nil, or_false] at hi
      obtain rfl | rfl | rfl | rfl | rfl := hi <;> exact wordOk_unary t rfl (by decide) hb
    case unlisted =>
      intro w hop hfn
      rw [decodeWord_alu t hop]
      exact decodeAlu_unlisted t _ _ _ (by omega)
  case functions =>
    intro a
    exact ⟨leadingZeros_eq_64_iff a, leadingZeros_bounds, trailingZeros_eq_64_iff a, trailingZeros_lowest,
      fun i hi => reverseBytes_byte (by decide) hi a, fun i hi => reverseBytes_byte (by decide) hi a, reverseBytes_four_upper a,
      length_filter_eq_sum _ _, crc8Step_upper a, fun l => congrArg (~~~ ·) (foldl_crc8Step l 0xFFFFFFFF)⟩

/-- Settles O3: each instruction by `exec_alu1` and its value, the shifts by the equations of `shiftBy`. -/
theorem immediateInstructionsWriteTheirValue : Obligations.ImmediateInstructionsWriteTheirValue := by
  unfold Obligations.ImmediateInstructionsWriteTheirValue
  intro s t rd ra imm imm21 hc hp a gives
  refine ⟨exec_alu1 hc hp (exec_addi ..) rfl, exec_alu1 hc hp (exec_andi ..) rfl, exec_alu1 hc hp (exec_ori ..) rfl,
    exec_alu1 hc hp (exec_xori ..) rfl, exec_alu1 hc hp (exec_slti ..) ?slti, exec_alu1 hc hp (exec_sltiu ..) ?sltiu,
    fun h => exec_alu1 hc hp (exec_shifti ..) (shiftBy_left h a),
    fun h h' => exec_alu1 hc hp (exec_shifti ..) (shiftBy_right h h' a),
    fun h h' => exec_alu1 hc hp (exec_shifti ..) (shiftBy_arithmetic h h' a),
    fun h h' => exec_alu1 hc hp (exec_shifti ..) (shiftBy_rotate h h' a),
    wordOk_shifti t rd ra,
    fun hi => writes_stepped hi hc hp rd (fun _ => imm21.signExtend 64 <<< 16) rfl⟩
  case slti =>
    have extended : (imm.signExtend 64).toInt = imm.toInt := BitVec.toInt_signExtend_of_le (by decide)
    rw [boolWord_slt, extended]
  case sltiu =>
    have extended : (imm.setWidth 64).toNat = imm.toNat := BitVec.toNat_setWidth_of_le (by decide)
    rw [boolWord_ult, extended]

end Sys2Proof.Machine

/-! PROOFS. Instruction words (R322 to R324): the fields of a word of each format, and that the encoder and the decoder undo each
other. -/

namespace Sys2Proof.Machine

/-! ### The fields of a word, and the word of its fields (R322) -/

theorem eq_ofNat_of_toNat {n k : Nat} {x : BitVec n} (h : x.toNat = k) : x = BitVec.ofNat n k := by
  rw [← h, BitVec.ofNat_toNat, BitVec.setWidth_eq]

@[simp] theorem rdOf_fmtA (op : BitVec 6) (rd ra rb : GReg) (fn : BitVec 11) : rdOf (fmtA op rd ra rb fn) = rd :=
  calc rdOf (fmtA op rd ra rb fn)
      = (fn ++ rb ++ ra ++ rd).extractLsb' 0 5 := BitVec.extractLsb'_append_eq_of_le (by decide)
    _ = rd := BitVec.extractLsb'_append_eq_right

@[simp] theorem raOf_fmtA (op : BitVec 6) (rd ra rb : GReg) (fn : BitVec 11) : raOf (fmtA op rd ra rb fn) = ra :=
  calc raOf (fmtA op rd ra rb fn)
      = (fn ++ rb ++ ra ++ rd).extractLsb' 5 5 := BitVec.extractLsb'_append_eq_of_le (by decide)
    _ = (fn ++ rb ++ ra).extractLsb' 0 5 := BitVec.extractLsb'_append_eq_of_le (by decide)
    _ = ra := BitVec.extractLsb'_append_eq_right

@[simp] theorem rdOf_fmtI (op : BitVec 6) (rd ra : GReg) (imm : BitVec 16) : rdOf (fmtI op rd ra imm) = rd :=
  calc rdOf (fmtI op rd ra imm)
      = (imm ++ ra ++ rd).extractLsb' 0 5 := BitVec.extractLsb'_append_eq_of_le (by decide)
    _ = rd := BitVec.extractLsb'_append_eq_right

@[simp] theorem raOf_fmtI (op : BitVec 6) (rd ra : GReg) (imm : BitVec 16) : raOf (fmtI op rd ra imm) = ra :=
  calc raOf (fmtI op rd ra imm)
      = (imm ++ ra ++ rd).extractLsb' 5 5 := BitVec.extractLsb'_append_eq_of_le (by decide)
    _ = (imm ++ ra).extractLsb' 0 5 := BitVec.extractLsb'_append_eq_of_le (by decide)
    _ = ra := BitVec.extractLsb'_append_eq_right

@[simp] theorem opOf_fmtJ (op : BitVec 6) (rd : GReg) (imm : BitVec 21) : opOf (fmtJ op rd imm) = op :=
  BitVec.extractLsb'_append_eq_right

@[simp] theorem rdOf_fmtJ (op : BitVec 6) (rd : GReg) (imm : BitVec 21) : rdOf (fmtJ op rd imm) = rd :=
  calc rdOf (fmtJ op rd imm)
      = (imm ++ rd).extractLsb' 0 5 := BitVec.extractLsb'_append_eq_of_le (by decide)
    _ = rd := BitVec.extractLsb'_append_eq_right

@[simp] theorem immJ_fmtJ (op : BitVec 6) (rd : GReg) (imm : BitVec 21) : immJ (fmtJ op rd imm) = imm :=
  calc immJ (fmtJ op rd imm)
      = (imm ++ rd).extractLsb' 5 21 := BitVec.extractLsb'_append_eq_of_le (by decide)
    _ = imm := BitVec.extractLsb'_append_eq_left

/-- A word of format X is one of format A whose function number holds rc and FN6. -/
theorem fmtX_eq_fmtA (op : BitVec 6) (rd ra rb rc : GReg) (fn : BitVec 6) : fmtX op rd ra rb rc fn = fmtA op rd ra rb (fn ++ rc) := rfl

theorem rcOf_eq (w : BitVec 32) : rcOf w = (fnOf w).extractLsb' 0 5 := by
  ext i hi
  simp [rcOf, fnOf, show i < 11 by omega]

theorem fn6Of_eq (w : BitVec 32) : fn6Of w = (fnOf w).extractLsb' 5 6 := by
  ext i hi
  simp [fn6Of, fnOf, show 5 + i < 11 by omega, ← Nat.add_assoc]

@[simp] theorem opOf_fmtX (op : BitVec 6) (rd ra rb rc : GReg) (fn : BitVec 6) : opOf (fmtX op rd ra rb rc fn) = op := opOf_fmtA ..

@[simp] theorem rdOf_fmtX (op : BitVec 6) (rd ra rb rc : GReg) (fn : BitVec 6) : rdOf (fmtX op rd ra rb rc fn) = rd := rdOf_fmtA ..

@[simp] theorem raOf_fmtX (op : BitVec 6) (rd ra rb rc : GReg) (fn : BitVec 6) : raOf (fmtX op rd ra rb rc fn) = ra := raOf_fmtA ..

@[simp] theorem rbOf_fmtX (op : BitVec 6) (rd ra rb rc : GReg) (fn : BitVec 6) : rbOf (fmtX op rd ra rb rc fn) = rb := rbOf_fmtA ..

@[simp] theorem rcOf_fmtX (op : BitVec 6) (rd ra rb rc : GReg) (fn : BitVec 6) : rcOf (fmtX op rd ra rb rc fn) = rc := by
  rw [rcOf_eq, fmtX_eq_fmtA, fnOf_fmtA]
  exact BitVec.extractLsb'_append_eq_right

@[simp] theorem fn6Of_fmtX (op : BitVec 6) (rd ra rb rc : GReg) (fn : BitVec 6) : fn6Of (fmtX op rd ra rb rc fn) = fn := by
  rw [fn6Of_eq, fmtX_eq_fmtA, fnOf_fmtA]
  exact BitVec.extractLsb'_append_eq_left

/-- FN6 in two halves, which R330 reads apart. -/
theorem fn6Of_halves (w : BitVec 32) : w.extractLsb' 29 3 ++ w.extractLsb' 26 3 = fn6Of w :=
  BitVec.extractLsb'_append_extractLsb'_eq_extractLsb' rfl

theorem extractLsb'_fn6_high (w : BitVec 32) : w.extractLsb' 29 3 = (fn6Of w).extractLsb' 3 3 := by
  ext i hi
  simp [fn6Of, show 3 + i < 6 by omega, ← Nat.add_assoc]

theorem extractLsb'_fn6_low (w : BitVec 32) : w.extractLsb' 26 3 = (fn6Of w).extractLsb' 0 3 := by
  ext i hi
  simp [fn6Of, show i < 6 by omega]

theorem fmtA_fields (w : BitVec 32) : fmtA (opOf w) (rdOf w) (raOf w) (rbOf w) (fnOf w) = w := by
  rw [fmtA, opOf, rdOf, raOf, rbOf, fnOf]
  ext i hi
  simp only [BitVec.getElem_append, BitVec.getElem_extractLsb']
  grind

theorem fmtI_fields (w : BitVec 32) : fmtI (opOf w) (rdOf w) (raOf w) (immOf w) = w := by
  rw [fmtI, opOf, rdOf, raOf, immOf]
  ext i hi
  simp only [BitVec.getElem_append, BitVec.getElem_extractLsb']
  grind

theorem fmtJ_fields (w : BitVec 32) : fmtJ (opOf w) (rdOf w) (immJ w) = w := by
  rw [fmtJ, opOf, rdOf, immJ]
  ext i hi
  simp only [BitVec.getElem_append, BitVec.getElem_extractLsb']
  grind

theorem fmtX_fields (w : BitVec 32) : fmtX (opOf w) (rdOf w) (raOf w) (rbOf w) (rcOf w) (fn6Of w) = w := by
  have joined : fn6Of w ++ rcOf w = fnOf w := BitVec.extractLsb'_append_extractLsb'_eq_extractLsb' rfl
  rw [fmtX_eq_fmtA, joined, fmtA_fields]

/-! ### What decodes is the word of what it decodes to -/

section
variable {t fn : Nat} {rd ra rb rc : GReg} {i : Instr}

theorem encodeWord_of_decodeAlu (h : decodeAlu t rd ra rb fn = some i) : encodeWord i = some (fmtA 0x01 rd ra rb (BitVec.ofNat 11 fn)) := by
  unfold decodeAlu at h
  split at h
  all_goals try split at h
  all_goals cases h
  all_goals rfl

theorem encodeWord_of_decodeAtom {hi lo : BitVec 3} (h : decodeAtom t rd ra rb rc hi lo = some i) :
    encodeWord i = some (fmtX 0x1E rd ra rb rc (hi ++ lo)) := by
  unfold decodeAtom at h
  split at h
  all_goals cases h
  all_goals rw [eq_ofNat_of_toNat (x := lo) ‹_›]; rfl

theorem encodeWord_of_decodeFence (h : decodeFence t rd fn = some i) : encodeWord i = some (fmtA 0x28 rd 0 0 (BitVec.ofNat 11 fn)) := by
  unfold decodeFence at h
  split at h
  all_goals cases h
  all_goals rfl

theorem encodeWord_of_decodePkt (h : decodePkt t rd ra rb rc fn = some i) :
    encodeWord i = some (fmtX 0x32 rd ra rb rc (BitVec.ofNat 6 fn)) := by
  unfold decodePkt at h
  split at h
  all_goals try split at h
  all_goals cases h
  all_goals simp_all [encodeWord]

theorem encodeWord_of_decodeDma (h : decodeDma t rd ra rb rc fn = some i) :
    encodeWord i = some (fmtX 0x34 rd ra rb rc (BitVec.ofNat 6 fn)) := by
  unfold decodeDma at h
  split at h
  all_goals cases h
  all_goals rfl

theorem encodeWord_of_decodeMatch (h : decodeMatch t rd ra fn = some i) :
    encodeWord i = some (fmtX 0x36 rd ra 0 0 (BitVec.ofNat 6 fn)) := by
  unfold decodeMatch at h
  split at h
  all_goals cases h
  all_goals rfl

theorem encodeWord_of_decodeLock (h : decodeLock t rd ra fn = some i) : encodeWord i = some (fmtA 0x38 rd ra 0 (BitVec.ofNat 11 fn)) := by
  unfold decodeLock at h
  split at h
  all_goals cases h
  all_goals rfl

theorem encodeWord_of_decodeSys (h : decodeSys t rd ra rb fn = some i) : encodeWord i = some (fmtA 0x3C rd ra rb (BitVec.ofNat 11 fn)) := by
  unfold decodeSys at h
  split at h
  all_goals try split at h
  all_goals cases h
  all_goals simp_all [encodeWord]

end

theorem fmtA_of_op {op : BitVec 6} {w : BitVec 32} (h : opOf w = op) : fmtA op (rdOf w) (raOf w) (rbOf w) (fnOf w) = w := by
  rw [← h, fmtA_fields]

theorem fmtI_of_op {op : BitVec 6} {w : BitVec 32} (h : opOf w = op) : fmtI op (rdOf w) (raOf w) (immOf w) = w := by
  rw [← h, fmtI_fields]

theorem fmtJ_of_op {op : BitVec 6} {w : BitVec 32} (h : opOf w = op) : fmtJ op (rdOf w) (immJ w) = w := by
  rw [← h, fmtJ_fields]

theorem fmtX_of_op {op : BitVec 6} {w : BitVec 32} (h : opOf w = op) : fmtX op (rdOf w) (raOf w) (rbOf w) (rcOf w) (fn6Of w) = w := by
  rw [← h, fmtX_fields]

@[simp] theorem ofNat_toNat_same {n : Nat} (x : BitVec n) : BitVec.ofNat n x.toNat = x := by
  rw [BitVec.ofNat_toNat, BitVec.setWidth_eq]

theorem encodeWord_of_decodeWord {t : Nat} {w : BitVec 32} {i : Instr} (h : decodeWord t w = some i) : encodeWord i = some w := by
  unfold decodeWord at h
  split at h
  next _ op => rw [encodeWord_of_decodeAlu h, ofNat_toNat_same]; exact congrArg some (fmtA_of_op (eq_ofNat_of_toNat op))
  iterate 15 next _ op => cases h; exact congrArg some (fmtI_of_op (eq_ofNat_of_toNat op))
  next _ op =>
    split at h <;> cases h
    exact congrArg some (fmtI_of_op (eq_ofNat_of_toNat op))
  next _ op => cases h; exact congrArg some (fmtJ_of_op (eq_ofNat_of_toNat op))
  iterate 11 next _ op => cases h; exact congrArg some (fmtI_of_op (eq_ofNat_of_toNat op))
  next _ op =>
    split at h <;> cases h
    exact congrArg some (fmtI_of_op (eq_ofNat_of_toNat op))
  next _ op =>
    split at h <;> cases h
    next fn => rw [← fmtA_of_op (eq_ofNat_of_toNat op), fn, rdOf_fmtA, raOf_fmtA, rbOf_fmtA]; rfl
  next _ op =>
    split at h
    next => rw [encodeWord_of_decodeAtom h, fn6Of_halves]; exact congrArg some (fmtX_of_op (eq_ofNat_of_toNat op))
    next => cases h
  next _ op => cases h; exact congrArg some (fmtJ_of_op (eq_ofNat_of_toNat op))
  next _ op =>
    split at h
    next zero =>
      rw [encodeWord_of_decodeFence h, ofNat_toNat_same, ← fmtA_of_op (eq_ofNat_of_toNat op), zero.1, zero.2, fnOf_fmtA, rdOf_fmtA]; rfl
    next => cases h
  next _ op =>
    split at h <;> cases h
    next zero => rw [← fmtI_of_op (eq_ofNat_of_toNat op), zero, immOf_fmtI, rdOf_fmtI]; rfl
  next _ op =>
    split at h <;> cases h
    next zero => rw [← fmtI_of_op (eq_ofNat_of_toNat op), zero, immOf_fmtI, raOf_fmtI]; rfl
  next _ op => rw [encodeWord_of_decodePkt h, ofNat_toNat_same]; exact congrArg some (fmtX_of_op (eq_ofNat_of_toNat op))
  next _ op => rw [encodeWord_of_decodeDma h, ofNat_toNat_same]; exact congrArg some (fmtX_of_op (eq_ofNat_of_toNat op))
  next _ op =>
    split at h
    next zero =>
      obtain ⟨rb, rc⟩ := zero
      have word := fmtX_of_op (eq_ofNat_of_toNat op)
      rw [rb, rc] at word
      rw [encodeWord_of_decodeMatch h, ofNat_toNat_same]
      exact congrArg some word
    next => cases h
  next _ op =>
    split at h
    next zero =>
      rw [encodeWord_of_decodeLock h, ofNat_toNat_same, ← zero]
      exact congrArg some (fmtA_of_op (eq_ofNat_of_toNat op))
    next => cases h
  next _ op =>
    split at h <;> cases h
    next zero => rw [← fmtA_of_op (eq_ofNat_of_toNat op), zero.1, zero.2, raOf_fmtA, rbOf_fmtA]; rfl
  next _ op => rw [encodeWord_of_decodeSys h, ofNat_toNat_same]; exact congrArg some (fmtA_of_op (eq_ofNat_of_toNat op))
  next => cases h

/-! ### The word of a well-formed instruction decodes to it -/

/-- A word with FN6 below 16 is an atomic (R330). -/
theorem decodeWord_atom (t : Nat) (rd ra rb rc : GReg) {hi : BitVec 3} (lo : BitVec 3) (h : hi.toNat < 2) :
    decodeWord t (fmtX 0x1E rd ra rb rc (hi ++ lo)) = decodeAtom t rd ra rb rc hi lo := by
  have listed : (hi ++ lo).toNat < 16 := by
    revert hi lo
    decide
  have high : (hi ++ lo).extractLsb' 3 3 = hi := BitVec.extractLsb'_append_eq_left
  have low : (hi ++ lo).extractLsb' 0 3 = lo := BitVec.extractLsb'_append_eq_right
  simp only [decodeWord, opOf_fmtX, rdOf_fmtX, raOf_fmtX, rbOf_fmtX, rcOf_fmtX, fn6Of_fmtX, extractLsb'_fn6_high, extractLsb'_fn6_low,
    high, low]
  exact if_pos listed

theorem decodeWord_of_encodeWord {i : Instr} {w : BitVec 32} (wf : Instr.wf i = true) (h : encodeWord i = some w) :
    ∃ t, t < 1024 ∧ decodeWord t w = some i := by
  unfold encodeWord at h
  split at h
  all_goals cases h
  all_goals simp only [Instr.wf, Bool.and_eq_true, decide_eq_true_eq, beq_iff_eq] at wf
  all_goals simp [↓decodeWord_atom, decodeWord, decodeAlu, decodeAtom, decodeFence, decodePkt, decodeDma, decodeMatch, decodeLock,
    decodeSys, wf]

/-! ### Whether a word decodes does not depend on the thread -/

section
variable (t u : Nat) (rd ra rb rc : GReg) (hi lo : BitVec 3) (fn : Nat)

theorem decodeAlu_isSome : (decodeAlu t rd ra rb fn).isSome = (decodeAlu u rd ra rb fn).isSome := by
  unfold decodeAlu
  split
  all_goals try split
  all_goals rfl

theorem decodeAtom_isSome : (decodeAtom t rd ra rb rc hi lo).isSome = (decodeAtom u rd ra rb rc hi lo).isSome := by
  unfold decodeAtom
  split
  all_goals rfl

theorem decodeFence_isSome : (decodeFence t rd fn).isSome = (decodeFence u rd fn).isSome := by
  unfold decodeFence
  split
  all_goals rfl

theorem decodePkt_isSome : (decodePkt t rd ra rb rc fn).isSome = (decodePkt u rd ra rb rc fn).isSome := by
  unfold decodePkt
  split
  all_goals try split
  all_goals rfl

theorem decodeDma_isSome : (decodeDma t rd ra rb rc fn).isSome = (decodeDma u rd ra rb rc fn).isSome := by
  unfold decodeDma
  split
  all_goals rfl

theorem decodeMatch_isSome : (decodeMatch t rd ra fn).isSome = (decodeMatch u rd ra fn).isSome := by
  unfold decodeMatch
  split
  all_goals rfl

theorem decodeLock_isSome : (decodeLock t rd ra fn).isSome = (decodeLock u rd ra fn).isSome := by
  unfold decodeLock
  split
  all_goals rfl

theorem decodeSys_isSome : (decodeSys t rd ra rb fn).isSome = (decodeSys u rd ra rb fn).isSome := by
  unfold decodeSys
  split
  all_goals try split
  all_goals rfl

end

theorem decodeWord_isSome (t u : Nat) (w : BitVec 32) : (decodeWord t w).isSome = (decodeWord u w).isSome := by
  unfold decodeWord
  split
  all_goals simp only [apply_ite Option.isSome, decodeAlu_isSome t u, decodeAtom_isSome t u, decodeFence_isSome t u, decodePkt_isSome t u,
    decodeDma_isSome t u, decodeMatch_isSome t u, decodeLock_isSome t u, decodeSys_isSome t u, Option.isSome_some]

/-- Settles O59: the decoder undoes the encoder format by format, and the encoder the decoder opcode by opcode. -/
theorem instructionWordsRoundTrip : Obligations.InstructionWordsRoundTrip := by
  unfold Obligations.InstructionWordsRoundTrip
  refine ⟨fun i w => decodeWord_of_encodeWord, fun t w i h => ?_, decodeWord_isSome⟩
  have word := encodeWord_of_decodeWord h
  exact ⟨word, fun _ => by simp only [wordOk, word, h, beq_self_eq_true]⟩

end Sys2Proof.Machine

/-! PROOFS. The receive window (R73, R74): what taking a PSN does to the classes of PSNs. -/

namespace Sys2Proof.Machine

/-! ### Bits of the window's bitmap -/

/-- Setting a bit that is 0 sets it. -/
theorem add_two_pow_div_self {b d : Nat} (clear : b / 2 ^ d % 2 = 0) : (b + 2 ^ d) / 2 ^ d % 2 = 1 := by
  rw [Nat.add_div_right _ (Nat.two_pow_pos d)]
  omega

/-- Setting a bit that is 0 leaves every other bit. -/
theorem add_two_pow_div_other {b d i : Nat} (clear : b / 2 ^ d % 2 = 0) (h : i ≠ d) : (b + 2 ^ d) / 2 ^ i % 2 = b / 2 ^ i % 2 := by
  obtain below | above := Nat.lt_or_gt_of_ne h
  · have twice : 2 ^ d = 2 ^ i * (2 * 2 ^ (d - i - 1)) := by
      rw [← Nat.pow_succ', ← Nat.pow_add]
      congr 1
      omega
    rw [twice, Nat.add_mul_div_left _ _ (Nat.two_pow_pos i)]
    omega
  · have room : (b + 2 ^ d) / 2 ^ (d + 1) = b / 2 ^ (d + 1) := by
      rw [Nat.pow_succ, ← Nat.div_div_eq_div_mul, ← Nat.div_div_eq_div_mul, Nat.add_div_right _ (Nat.two_pow_pos d)]
      omega
    have split : 2 ^ i = 2 ^ (d + 1) * 2 ^ (i - (d + 1)) := by
      rw [← Nat.pow_add]
      congr 1
      omega
    rw [split, ← Nat.div_div_eq_div_mul, room, Nat.div_div_eq_div_mul]

/-! ### The slide of the window -/

/-- The window slides over bits that are set, and as far as it says. -/
theorem slideWindow_spec (f e b : Nat) (he : e < 2 ^ 24) :
    ∃ k ≤ f, slideWindow f e b = ((e + k) % 2 ^ 24, b / 2 ^ k) ∧ ∀ i < k, b / 2 ^ i % 2 = 1 := by
  induction f generalizing e b with
  | zero => exact ⟨0, le_rfl, by rw [slideWindow, Nat.add_zero, Nat.mod_eq_of_lt he, Nat.pow_zero, Nat.div_one], fun i hi => absurd hi (by omega)⟩
  | succ f ih =>
    by_cases set : b % 2 = 1
    · obtain ⟨k, hk, moved, ones⟩ := ih ((e + 1) % 2 ^ 24) (b / 2) (Nat.mod_lt _ (by decide))
      refine ⟨k + 1, by omega, ?_, ?_⟩
      · rw [slideWindow, if_pos set, moved, Nat.div_div_eq_div_mul, ← Nat.pow_succ', Nat.mod_add_mod, Nat.add_assoc, Nat.add_comm 1 k]
      · intro i hi
        cases i with
        | zero => simpa using set
        | succ i => rw [Nat.pow_succ', ← Nat.div_div_eq_div_mul]; exact ones i (by omega)
    · exact ⟨0, by omega, by rw [slideWindow, if_neg set, Nat.add_zero, Nat.mod_eq_of_lt he, Nat.pow_zero, Nat.div_one], fun i hi => absurd hi (by omega)⟩

/-! ### Classes -/

theorem classify_new_iff {e b q : Nat} : classify e b q = .new ↔ psnDiff q e < 2048 ∧ b / 2 ^ psnDiff q e % 2 = 0 := by
  simp only [classify]
  split
  · split <;> simp [*]
  · split <;> simp [*]

theorem classify_outside_iff {e b q : Nat} : classify e b q = .outside ↔ 2048 ≤ psnDiff q e ∧ psnDiff q e < 2 ^ 23 := by
  simp only [classify]
  split
  · split <;> simp <;> omega
  · split <;> simp <;> omega

/-- The distance to a window that has moved on by at most its length. -/
theorem psnDiff_moved {e k q : Nat} (he : e < 2 ^ 24) (hq : q < 2 ^ 24) (hk : k ≤ 2048) :
    psnDiff q ((e + k) % 2 ^ 24) = if k ≤ psnDiff q e then psnDiff q e - k else psnDiff q e + 2 ^ 24 - k := by
  unfold psnDiff
  split <;> omega

/-- PSNs at the same distance are the same. -/
theorem psnDiff_inj {e p q : Nat} (he : e < 2 ^ 24) (hp : p < 2 ^ 24) (hq : q < 2 ^ 24) (h : psnDiff q e = psnDiff p e) : q = p := by
  unfold psnDiff at h
  omega

/-- Taking a new PSN sets its bit and slides the window. -/
theorem accept_new {c : Conn} {psn : Nat} (new : classify c.epsn c.bitmap psn = .new) :
    c.accept psn 1 = { c with
      epsn := (slideWindow 2048 c.epsn (c.bitmap + 2 ^ psnDiff psn c.epsn)).1
      bitmap := (slideWindow 2048 c.epsn (c.bitmap + 2 ^ psnDiff psn c.epsn)).2 } := by
  obtain ⟨near, clear⟩ := classify_new_iff.1 new
  have bits : (List.range 1).foldl (fun b i => if psnDiff (psn + i) c.epsn < 2048 ∧ b / 2 ^ psnDiff (psn + i) c.epsn % 2 = 0
      then b + 2 ^ psnDiff (psn + i) c.epsn else b) c.bitmap = c.bitmap + 2 ^ psnDiff psn c.epsn := by
    rw [List.range_one, List.foldl_cons, List.foldl_nil, Nat.add_zero, if_pos ⟨near, clear⟩]
  exact congrArg (fun b => { c with epsn := (slideWindow 2048 c.epsn b).1, bitmap := (slideWindow 2048 c.epsn b).2 }) bits

/-- Settles O40: the window slides by `k` over bits that are set (`slideWindow_spec`), and a PSN's distance falls by `k`. -/
theorem requestsAreTakenOnce : Obligations.RequestsAreTakenOnce := by
  unfold Obligations.RequestsAreTakenOnce
  intro c psn q hpsn hq he new
  obtain ⟨near, clear⟩ := classify_new_iff.1 new
  obtain ⟨k, hk, moved, ones⟩ := slideWindow_spec 2048 c.epsn (c.bitmap + 2 ^ psnDiff psn c.epsn) he
  have own := add_two_pow_div_self clear
  have others : q ≠ psn → (c.bitmap + 2 ^ psnDiff psn c.epsn) / 2 ^ psnDiff q c.epsn % 2 = c.bitmap / 2 ^ psnDiff q c.epsn % 2 :=
    fun hne => add_two_pow_div_other clear fun same => hne (psnDiff_inj he hpsn hq same)
  have first : psnDiff psn c.epsn ≠ 0 → (c.bitmap + 2 ^ psnDiff psn c.epsn) / 2 ^ 0 % 2 = c.bitmap / 2 ^ 0 % 2 :=
    fun apart => add_two_pow_div_other clear (Ne.symm apart)
  rw [accept_new new, moved]
  generalize c.bitmap + 2 ^ psnDiff psn c.epsn = b at *
  have shifted : ∀ d, b / 2 ^ k / 2 ^ d % 2 = b / 2 ^ (k + d) % 2 := fun d => by rw [Nat.div_div_eq_div_mul, ← Nat.pow_add]
  simp only [ne_eq, classify_new_iff, classify_outside_iff, psnDiff_moved he hpsn hk, psnDiff_moved he hq hk, shifted]
  refine ⟨?_, Nat.mod_lt _ (by decide), ?_, ?_, ?_⟩
  · rintro ⟨inside, zero⟩
    split at inside
    next ahead => rw [if_pos ahead, Nat.add_sub_cancel' ahead, own] at zero; omega
    next => omega
  · rintro hne ⟨inside, zero⟩
    have bit := others hne
    have ahead : k ≤ psnDiff q c.epsn := by
      by_contra behind
      have := ones _ (Nat.lt_of_not_le behind)
      omega
    rw [if_pos ahead, Nat.add_sub_cancel' ahead, bit]
    omega
  · rintro hne ⟨inside, zero⟩
    have bit := others hne
    split at inside
    next ahead =>
      rw [if_pos ahead, Nat.add_sub_cancel' ahead, bit] at zero
      omega
    next => omega
  · intro apart even
    have stays : k = 0 := by
      by_contra moves
      have := ones 0 (Nat.pos_of_ne_zero moves)
      rw [first apart, Nat.pow_zero, Nat.div_one] at this
      omega
    rw [stays, Nat.add_zero, Nat.mod_eq_of_lt he]

end Sys2Proof.Machine

/-! PROOFS. The atomic operations (R82), and writes to the store (R103, R105). -/

namespace Sys2Proof.Machine

/-! ### Atomic operations (R82) -/

section
variable {w old op0 op1 : Nat}

/-- Operands count modulo the width. -/
theorem atomicResult_mod (op : Nat) : atomicResult op w old op0 op1 = atomicResult op w old (op0 % 2 ^ w) (op1 % 2 ^ w) := by
  unfold atomicResult
  simp only [Nat.mod_mod]

theorem atomicResult_lt (h : old < 2 ^ w) (op : Nat) : atomicResult op w old op0 op1 < 2 ^ w := by
  have old' : old % 2 ^ w < 2 ^ w := Nat.mod_lt _ (Nat.two_pow_pos w)
  have op0' : op0 % 2 ^ w < 2 ^ w := Nat.mod_lt _ (Nat.two_pow_pos w)
  have op1' : op1 % 2 ^ w < 2 ^ w := Nat.mod_lt _ (Nat.two_pow_pos w)
  unfold atomicResult
  dsimp only
  split
  next => exact Nat.mod_lt _ (Nat.two_pow_pos w)
  next => split <;> assumption
  next => exact op1'
  next => exact Nat.and_lt_two_pow _ op0'
  next => exact Nat.or_lt_two_pow old' op0'
  next => exact Nat.xor_lt_two_pow old' op0'
  next => split <;> assumption
  next => split <;> assumption

end

/-- Settles O42: each operation by its row of `atomicResult`, operands cut to the width. -/
theorem atomicOperationsAsTheTableSays : Obligations.AtomicOperationsAsTheTableSays := by
  unfold Obligations.AtomicOperationsAsTheTableSays
  intro w old op0 op1 _ hold a b
  have old' : old % 2 ^ w = old := Nat.mod_eq_of_lt hold
  have a' : a % 2 ^ w = a := Nat.mod_mod _ _
  have b' : b % 2 ^ w = b := Nat.mod_mod _ _
  refine ⟨atomicResult_mod, ?add, ?cswap, ?swap, ?and, ?or, ?xor, ?smin, ?smax, fun op _ => atomicResult_lt hold op⟩
  all_goals simp only [atomicResult, old', a', b']
  case and => exact fun i => Nat.testBit_and old a i
  case or => exact fun i => Nat.testBit_or old a i
  case xor => exact fun i => Nat.testBit_xor old a i
  case smin => rw [apply_ite (toSigned w), min_def]
  case smax =>
    rw [apply_ite (toSigned w), max_comm, max_def]

/-! ### What raising and counting leave (`State.sameBut`) -/

section
variable {s t : State} (h : s.sameBut t)
include h

theorem sameBut_store : t.store = s.store := by obtain ⟨r, f, l, rfl, -⟩ := h; rfl
theorem sameBut_poison : t.poison = s.poison := by obtain ⟨r, f, l, rfl, -⟩ := h; rfl
theorem sameBut_flash : t.flash = s.flash := by obtain ⟨r, f, l, rfl, -⟩ := h; rfl
theorem sameBut_out : t.out = s.out := by obtain ⟨r, f, l, rfl, -⟩ := h; rfl

end

/-! ### A commit in the store (R103, R105) -/

theorem commit_nil (s : State) (a : Nat) : s.commit a [] = s := rfl

/-- A commit is a write, but for poison, reservations and counters. -/
theorem commit_sameBut (s : State) (a : Nat) {l : List Byte} (h : l ≠ []) :
    (((s.storeWrite a l).clearPoison a l.length).clearResv .store a l.length).sameBut (s.commit a l) := by
  have full : ¬ l.isEmpty = true := by simpa using h
  rw [State.commit, if_neg full]
  exact count_sameBut _ _ _ _ _

theorem commit_store (s : State) (a : Nat) (l : List Byte) : (s.commit a l).store = Memory.writeN 0 s.store a l := by
  by_cases h : l = []
  · subst h; rfl
  · exact sameBut_store (commit_sameBut s a h)

theorem commit_poison (s : State) (a : Nat) {l : List Byte} (h : l ≠ []) :
    (s.commit a l).poison = s.poison.filter fun u => !(decide (a ≤ 8 * u) && decide (8 * u + 8 ≤ a + l.length)) :=
  sameBut_poison (commit_sameBut s a h)

@[simp] theorem commit_flash (s : State) (a : Nat) (l : List Byte) : (s.commit a l).flash = s.flash := by
  by_cases h : l = []
  · subst h; rfl
  · exact (sameBut_flash (commit_sameBut s a h)).trans rfl

@[simp] theorem commit_out (s : State) (a : Nat) (l : List Byte) : (s.commit a l).out = s.out := by
  by_cases h : l = []
  · subst h; rfl
  · exact (sameBut_out (commit_sameBut s a h)).trans rfl

/-- A string that was written reads back. -/
theorem readN_writeN (d : Byte) (m : List Host.Cell) (a : Nat) (l : List Byte) (h : Memory.wf d m = true) :
    Memory.readN d (Memory.writeN d m a l) a l.length = l := by
  refine List.ext_getElem (by simp [Memory.readN]) fun i hi hl => ?_
  simpa [Memory.readN] using read_writeN_inside d m a l i hl h

/-- Settles O43: the bytes by the laws of `Memory.writeN`, the errors by the filter of `State.clearPoison`. -/
theorem storeCommitsReadBack : Obligations.StoreCommitsReadBack := by
  unfold Obligations.StoreCommitsReadBack
  intro s a l wf
  refine ⟨?back, ?others, ?canonical, ?noNew, ?covered, commit_flash s a l, commit_out s a l⟩
  case back => rw [State.storeRead, commit_store, readN_writeN 0 _ _ _ wf]
  case others => exact fun x hx => by rw [commit_store, read_writeN_other 0 _ _ _ _ hx]
  case canonical => rw [commit_store]; exact writeN_wf 0 _ _ _ wf
  case noNew =>
    intro u hu
    by_cases h : l = []
    · rwa [h, commit_nil] at hu
    · rw [commit_poison s a h] at hu
      exact List.mem_of_mem_filter hu
  case covered =>
    intro u hu
    by_cases h : l = []
    · simp [h, commit_nil, hu]
    · simp only [commit_poison s a h, List.mem_filter, hu, h, true_and, false_or, Bool.not_eq_true', Bool.and_eq_false_iff,
        decide_eq_false_iff_not, not_and_or]

end Sys2Proof.Machine

/-! PROOFS. Reads of a register field after writes of others, and what one occurrence of an event source records (R402, R405,
R406, R408). -/

namespace Sys2Proof.Machine

/-! ### A field that is apart from the one written -/

/-- Two fields share no bit: they are of two registers, or of one at different places. -/
abbrev Fld.apart (f : Fld) (i j : Nat) (g : Fld) (k l : Nat) : Prop :=
  g.addr k l ≠ f.addr i j ∨ g.rst = f.rst ∧ f.lo + f.w ≤ 64 ∧ (g.lo + g.w ≤ f.lo ∨ f.lo + f.w ≤ g.lo)

section
variable (s : State) {f g : Fld} {i j k l : Nat} (v : Nat) (h : f.apart i j g k l)
include h

theorem rd_wr_apart : (s.wr f v i j).rd g k l = s.rd g k l := by
  by_cases e : g.addr k l = f.addr i j
  · obtain other | ⟨rst, fits, places⟩ := h
    · exact absurd e other
    · exact rd_wr_field s f g v i j k l e rst fits places
  · exact rd_wr_other s f g v i j k l e

theorem on_wr_apart : (s.wr f v i j).on g k l = s.on g k l := by
  rw [State.on, rd_wr_apart s v h, State.on]

theorem rd_sat_apart : (s.sat f v i j).rd g k l = s.rd g k l := rd_wr_apart s _ h

theorem rd_high_apart : (s.high f v i j).rd g k l = s.rd g k l := rd_wr_apart s _ h

end

/-- A field that saturates reads as its sum, or as the most it holds. -/
theorem rd_sat_same (s : State) (f : Fld) (n i j : Nat) (h : f.lo + f.w ≤ 64) :
    (s.sat f n i j).rd f i j = min (s.rd f i j + n) (2 ^ f.w - 1) := by
  rw [State.sat, rd_wr_same _ _ _ _ _ h, Nat.mod_eq_of_lt]
  exact lt_of_le_of_lt (min_le_right _ _) (Nat.sub_lt (Nat.two_pow_pos _) Nat.one_pos)

theorem rd_lt (s : State) (f : Fld) (i j : Nat) : s.rd f i j < 2 ^ f.w := Nat.mod_lt _ (Nat.two_pow_pos _)

/-- A field depends on the registers only. -/
theorem rd_congr {s t : State} (h : t.regs = s.regs) (f : Fld) (i j : Nat) : t.rd f i j = s.rd f i j := by
  simp only [State.rd, State.reg, h]

/-- A field as wide as its register is the register. -/
theorem ofNat_bits_whole (x : Word) : BitVec.ofNat 64 (bits x 0 64) = x := by
  rw [bits, Nat.shiftRight_zero, Nat.mod_eq_of_lt x.isLt, BitVec.ofNat_toNat, BitVec.setWidth_eq]

/-! ### What the record of an occurrence leaves -/

section
variable (s : State) (g : Fld) (k l : Nat) (h : Fld.apart Reg.LCH_LOG_STATUS_BUFFERED 0 0 g k l)

include h in
theorem addRecord_rd (type body body2 : Nat) (inj copy free : Bool) : (addRecord s type body body2 inj copy free).rd g k l = s.rd g k l := by
  unfold addRecord
  split
  · rfl
  · rw [rd_wr_apart _ _ h]; rfl

include h in
theorem eventRecord_rd (src info cls : Nat) (inj fired : Bool) : (eventRecord s src info cls inj fired).rd g k l = s.rd g k l := by
  unfold eventRecord
  dsimp only
  split
  · split
    · split <;> rfl
    · split
      · rw [apply_ite (fun t : State => t.rd g k l)]
        exact (ite_eq_left_iff.2 fun _ => rfl).trans (addRecord_rd s g k l h ..)
      · rfl
  · split
    · exact addRecord_rd s g k l h ..
    · rfl

@[simp] theorem addRecord_ft (type body body2 : Nat) (inj copy free : Bool) : (addRecord s type body body2 inj copy free).ft = s.ft := by
  unfold addRecord
  split <;> rfl

@[simp] theorem eventRecord_ft (src info cls : Nat) (inj fired : Bool) : (eventRecord s src info cls inj fired).ft = s.ft := by
  unfold eventRecord
  dsimp only
  split
  · split
    · split <;> rfl
    · split
      · rw [apply_ite State.ft]
        exact (ite_eq_left_iff.2 fun _ => rfl).trans (addRecord_ft ..)
      · rfl
  · split
    · exact addRecord_ft ..
    · rfl

end

@[simp] theorem capture_ft (s : State) (a b c d e f : Fld) (k i n : Nat) (inj : Bool) : (capture s a b c d e f k i n inj).ft = s.ft := by
  unfold capture
  split <;> rfl

/-- A capture leaves a field that is apart from those of the log. -/
theorem capture_rd (s : State) (a b c d e f g : Fld) (i j k n m : Nat) (inj : Bool) (ha : a.apart 0 0 g i j) (hb : b.apart 0 0 g i j)
    (hc : c.apart 0 0 g i j) (hd : d.apart 0 0 g i j) (he : e.apart 0 0 g i j) (hf : f.apart 0 0 g i j) :
    (capture s a b c d e f k n m inj).rd g i j = s.rd g i j := by
  unfold capture
  split
  · rfl
  · rw [rd_wr_apart _ _ hf, rd_wr_apart _ _ he, rd_wr_apart _ _ hd, rd_wr_apart _ _ hc, rd_wr_apart _ _ hb, rd_wr_apart _ _ ha]

/-! ### The parts of an occurrence -/

/-- The capture of an occurrence in the first log. -/
def State.firstLog (s : State) (k info c : Nat) (inj : Bool) : State :=
  capture s Reg.FLT_FIRST_LOG0_VALID Reg.FLT_FIRST_LOG0_INJECTED Reg.FLT_FIRST_LOG0_CLASS Reg.FLT_FIRST_LOG0_SOURCE
    Reg.FLT_FIRST_LOG0_INFO Reg.FLT_FIRST_LOG1_TIME k info c inj

/-- The capture of an occurrence of class `c` in the fatal log. -/
def State.fatalLog (s : State) (k info c : Nat) (inj : Bool) : State :=
  if c = 2 then capture s Reg.FLT_FATAL_LOG0_VALID Reg.FLT_FATAL_LOG0_INJECTED Reg.FLT_FATAL_LOG0_CLASS Reg.FLT_FATAL_LOG0_SOURCE
    Reg.FLT_FATAL_LOG0_INFO Reg.FLT_FATAL_LOG1_TIME k info c inj else s

/-- The counter of a class. -/
def classCounter (c : Nat) : Fld :=
  if c = 0 then Reg.FLT_CLASS_COUNT_CORRECTED else if c = 1 then Reg.FLT_CLASS_COUNT_CONTAINED else Reg.FLT_CLASS_COUNT_FATAL

/-- The state in which an occurrence has set STATUS, stands in the logs, and is counted. -/
def State.occurred (s : State) (k info c : Nat) (inj : Bool) : State :=
  ((((s.wr Reg.EVT_STATUS_STATUS (s.rd Reg.EVT_STATUS_STATUS (k / 64) ||| 2 ^ (k % 64)) (k / 64)).firstLog k info c inj).fatalLog k
    info c inj).sat (classCounter c) 1)

/-- An occurrence leaves the registers of `occurred`, but for the account of the lifetime log; its reactions wait when STATUS was 0. -/
theorem raise1_rd (s : State) (k info c : Nat) (inj sup : Bool) (hc : classOf k = some c) (g : Fld) (i j : Nat)
    (h : Fld.apart Reg.LCH_LOG_STATUS_BUFFERED 0 0 g i j) : (raise1 s k info inj sup).rd g i j = (s.occurred k info c inj).rd g i j := by
  rw [raise1, hc]
  dsimp only
  split
  · exact eventRecord_rd _ g i j h ..
  · exact eventRecord_rd _ g i j h ..

theorem sameBut_time {s t : State} (h : s.sameBut t) : t.time = s.time := by obtain ⟨r, f, l, rfl, -⟩ := h; rfl

theorem raise1_reactions (s : State) (k info c : Nat) (inj sup : Bool) (hc : classOf k = some c) :
    (raise1 s k info inj sup).ft.reactions = if bit (s.reg (Reg.EVT_STATUS_STATUS.addr (k / 64) 0) 0) (k % 64) then s.ft.reactions
      else s.ft.reactions ++ [⟨k, info % 2 ^ 32, sup, s.time⟩] := by
  have ft : (s.occurred k info c inj).ft = s.ft := by
    unfold State.occurred State.fatalLog State.firstLog
    rw [State.sat_ft]
    split
    · rw [capture_ft, capture_ft, State.wr_ft]
    · rw [capture_ft, State.wr_ft]
  have time : (s.occurred k info c inj).time = s.time := by
    unfold State.occurred State.fatalLog State.firstLog
    rw [State.sat_time]
    split
    · rw [sameBut_time (capture_sameBut _ _ _ _ _ _ _ _ _ _ _ (by decide)), sameBut_time (capture_sameBut _ _ _ _ _ _ _ _ _ _ _ (by decide)),
        State.wr_time]
    · rw [sameBut_time (capture_sameBut _ _ _ _ _ _ _ _ _ _ _ (by decide)), State.wr_time]
  rw [raise1, hc]
  dsimp only
  by_cases set : bit (s.reg (Reg.EVT_STATUS_STATUS.addr (k / 64) 0) 0) (k % 64) = true
  · rw [if_neg (by simp [set]), if_pos set, eventRecord_ft]
    exact congrArg Faults.reactions ft
  · rw [if_pos (by simpa using set), if_neg set]
    dsimp only
    rw [eventRecord_ft, sameBut_time (eventRecord_sameBut ..)]
    exact congrArg₂ (fun (f : Faults) (n : Nat) => f.reactions ++ [⟨k, info % 2 ^ 32, sup, n⟩]) ft time

/-! ### STATUS, the first log and the class counters after an occurrence -/

section
variable (s : State) (k info c : Nat) (inj : Bool) {g : Fld} {i j : Nat}

theorem firstLog_rd (h : g.addr i j < 0x100220 ∨ 0x100230 ≤ g.addr i j) : (s.firstLog k info c inj).rd g i j = s.rd g i j := by
  have log0 : g.addr i j ≠ 0x100220 := by omega
  have log1 : g.addr i j ≠ 0x100228 := by omega
  exact capture_rd _ _ _ _ _ _ _ _ _ _ _ _ _ _ (.inl log0) (.inl log0) (.inl log0) (.inl log0) (.inl log0) (.inl log1)

theorem fatalLog_rd (h : g.addr i j < 0x100230 ∨ 0x100240 ≤ g.addr i j) : (s.fatalLog k info c inj).rd g i j = s.rd g i j := by
  have log0 : g.addr i j ≠ 0x100230 := by omega
  have log1 : g.addr i j ≠ 0x100238 := by omega
  unfold State.fatalLog
  split
  · exact capture_rd _ _ _ _ _ _ _ _ _ _ _ _ _ _ (.inl log0) (.inl log0) (.inl log0) (.inl log0) (.inl log0) (.inl log1)
  · rfl

theorem classCounter_addr (c : Nat) : (classCounter c).addr 0 0 = 0x100240 := by
  unfold classCounter
  split
  · rfl
  · split <;> rfl

/-- STATUS words lie below the logs and counters. -/
theorem status_addr_lt {n : Nat} (hn : n < 16) : Reg.EVT_STATUS_STATUS.addr n 0 < 0x100080 := by
  simp only [Fld.addr, Reg.EVT_STATUS_STATUS]
  omega

/-- The logs and the counters leave STATUS. -/
theorem occurred_rd_status {n : Nat} (hn : n < 16) : (s.occurred k info c inj).rd Reg.EVT_STATUS_STATUS n
    = (s.wr Reg.EVT_STATUS_STATUS (s.rd Reg.EVT_STATUS_STATUS (k / 64) ||| 2 ^ (k % 64)) (k / 64)).rd Reg.EVT_STATUS_STATUS n := by
  have below := status_addr_lt hn
  have away : (classCounter c).apart 0 0 Reg.EVT_STATUS_STATUS n 0 := .inl (by rw [classCounter_addr]; omega)
  rw [State.occurred, rd_sat_apart _ _ away, fatalLog_rd _ _ _ _ _ (by omega), firstLog_rd _ _ _ _ _ (by omega)]

/-- Setting bit `k % 64` of STATUS word `k / 64` sets the bit of source `k` and no other. -/
theorem status_bits {n b : Nat} (hk : k < 1024) (hb : b < 64) :
    bit (BitVec.ofNat 64 ((s.wr Reg.EVT_STATUS_STATUS (s.rd Reg.EVT_STATUS_STATUS (k / 64) ||| 2 ^ (k % 64)) (k / 64)).rd
      Reg.EVT_STATUS_STATUS n)) b = (bit (BitVec.ofNat 64 (s.rd Reg.EVT_STATUS_STATUS n)) b || decide (64 * n + b = k)) := by
  by_cases own : n = k / 64
  · have here : decide (64 * n + b = k) = decide (k % 64 = b) := decide_eq_decide.2 (by omega)
    subst own
    rw [rd_wr_same _ _ _ _ _ (by decide), here]
    simp only [bit, BitVec.getLsbD_ofNat, hb, decide_true, Bool.true_and, Reg.EVT_STATUS_STATUS, Nat.testBit_mod_two_pow, Nat.testBit_or,
      Nat.testBit_two_pow]
  · have other : decide (64 * n + b = k) = false := decide_eq_false (by omega)
    have away : Reg.EVT_STATUS_STATUS.addr n 0 ≠ Reg.EVT_STATUS_STATUS.addr (k / 64) 0 := by
      simp only [Fld.addr, Reg.EVT_STATUS_STATUS]
      omega
    rw [rd_wr_apart _ _ (.inl away), other, Bool.or_false]

/-- Setting a bit of STATUS leaves the logs and counters. -/
theorem status_wr_rd (v : Nat) (hk : k < 1024) (h : 0x100080 ≤ g.addr i j) : (s.wr Reg.EVT_STATUS_STATUS v (k / 64)).rd g i j = s.rd g i j := by
  have below : Reg.EVT_STATUS_STATUS.addr (k / 64) 0 < 0x100080 := status_addr_lt (by omega)
  exact rd_wr_apart _ _ (.inl (by omega))

/-- An occurrence leaves the first log but for its own capture. -/
theorem occurred_rd_first (hk : k < 1024) (h : g.addr i j = 0x100220 ∨ g.addr i j = 0x100228) :
    (s.occurred k info c inj).rd g i j
      = ((s.wr Reg.EVT_STATUS_STATUS (s.rd Reg.EVT_STATUS_STATUS (k / 64) ||| 2 ^ (k % 64)) (k / 64)).firstLog k info c inj).rd g i j := by
  have away : (classCounter c).apart 0 0 g i j := .inl (by rw [classCounter_addr]; omega)
  rw [State.occurred, rd_sat_apart _ _ away, fatalLog_rd _ _ _ _ _ (by omega)]

/-- There are three classes. -/
theorem classOf_lt_three {k c : Nat} (h : classOf k = some c) : c < 3 := by
  have all : (classOf k).all (· < 3) = true := by
    simp [classOf, apply_ite (Option.all fun x : Nat => decide (x < 3))]
  simpa [h] using all

/-- A counter of a class counts the occurrences of its own class. -/
theorem occurred_rd_count (hk : k < 1024) (hc : c < 3) (n : Nat) (hn : n < 3) :
    (s.occurred k info c inj).rd (classCounter n) = if c = n
      then min (s.rd (classCounter n) + 1) (2 ^ (classCounter n).w - 1) else s.rd (classCounter n) := by
  have place := classCounter_addr n
  have before : (((s.wr Reg.EVT_STATUS_STATUS (s.rd Reg.EVT_STATUS_STATUS (k / 64) ||| 2 ^ (k % 64)) (k / 64)).firstLog k info c
      inj).fatalLog k info c inj).rd (classCounter n) = s.rd (classCounter n) := by
    rw [fatalLog_rd _ _ _ _ _ (by omega), firstLog_rd _ _ _ _ _ (by omega), status_wr_rd _ _ _ hk (by omega)]
  rw [State.occurred]
  split
  next same =>
    subst same
    rw [rd_sat_same _ _ _ _ _ (by interval_cases c <;> decide), before]
  next other =>
    rw [rd_sat_apart, before]
    revert other
    interval_cases c <;> interval_cases n <;> decide

end

/-- Settles O52: `raise1` does what `State.occurred` does to every register but the account of the lifetime log, and STATUS, the
first log and the counters of `occurred` are read one by one. -/
theorem occurrencesAreRecorded : Obligations.OccurrencesAreRecorded := by
  unfold Obligations.OccurrencesAreRecorded
  intro s k info c inj sup hc
  have hk := classOf_lt hc
  have log : Reg.LCH_LOG_STATUS_BUFFERED.addr 0 0 = 0x200050 := rfl
  have rd (g : Fld) (i : Nat) (h : g.addr i 0 < 0x200050) := raise1_rd s k info c inj sup hc g i 0 (.inl (by omega))
  have first (g : Fld) (h : g.addr 0 0 = 0x100220 ∨ g.addr 0 0 = 0x100228) :=
    (rd g 0 (by omega)).trans (occurred_rd_first s k info c inj hk h)
  have count (n : Nat) (hn : n < 3) :=
    (rd (classCounter n) 0 (by rw [classCounter_addr]; decide)).trans (occurred_rd_count s k info c inj hk (classOf_lt_three hc) n hn)
  have before (g : Fld) (h : 0x100080 ≤ g.addr 0 0) := status_wr_rd s k (s.rd Reg.EVT_STATUS_STATUS (k / 64) ||| 2 ^ (k % 64)) hk h
  refine ⟨?status, ?captured, ?kept, ?fatal, ?notFatal, ?corrected, ?contained, ?reactions⟩
  case status =>
    intro n hn b hb
    have below := status_addr_lt hn
    rw [rd _ n (by omega), occurred_rd_status _ _ _ _ _ hn, status_bits _ _ hk hb]
  case captured =>
    intro free
    have captures : ¬ (s.wr Reg.EVT_STATUS_STATUS (s.rd Reg.EVT_STATUS_STATUS (k / 64) ||| 2 ^ (k % 64)) (k / 64)).on
        Reg.FLT_FIRST_LOG0_VALID = true := by
      rw [State.on, before _ (by decide), free]
      decide
    have small : c < 4 := by have := classOf_lt_three hc; omega
    have source : k % 2 ^ 10 = k := Nat.mod_eq_of_lt hk
    have cls : c % 2 ^ 2 = c := Nat.mod_eq_of_lt small
    rw [first _ (.inl rfl), first _ (.inl rfl), first _ (.inl rfl), first _ (.inl rfl), first _ (.inr rfl)]
    simp (disch := decide) only [State.firstLog, capture, captures, rd_wr_same, rd_wr_apart, Bool.false_eq_true, if_false,
      State.wr_time]
    exact ⟨rfl, source, cls, rfl, rfl⟩
  case kept =>
    intro taken
    have held : (s.wr Reg.EVT_STATUS_STATUS (s.rd Reg.EVT_STATUS_STATUS (k / 64) ||| 2 ^ (k % 64)) (k / 64)).on
        Reg.FLT_FIRST_LOG0_VALID = true := by
      rw [State.on, before _ (by decide)]
      simpa using taken
    rw [first _ (.inl rfl), State.firstLog, capture, if_pos held, before _ (by decide)]
  case fatal => exact fun two => (count 2 (by decide)).trans (if_pos two)
  case notFatal => exact fun other => (count 2 (by decide)).trans (if_neg other)
  case corrected => exact count 0 (by decide)
  case contained => exact count 1 (by decide)
  case reactions =>
    have word : BitVec.ofNat 64 (s.rd Reg.EVT_STATUS_STATUS (k / 64)) = s.reg (Reg.EVT_STATUS_STATUS.addr (k / 64) 0) 0 :=
      ofNat_bits_whole _
    rw [raise1_reactions s k info c inj sup hc, word]

end Sys2Proof.Machine

/-! PROOFS. Gate lists (R301 to R304): the copy of an accepted list, and the entry in force. -/

namespace Sys2Proof.Machine

/-! ### Fields of one row of registers -/

/-- Two fields of rows of registers share no bit at equal indices. -/
abbrev Fld.beside (f g : Fld) : Prop :=
  g.s1 = f.s1 ∧ g.s2 = f.s2 ∧ (g.base ≠ f.base ∨ g.rst = f.rst ∧ f.lo + f.w ≤ 64 ∧ (g.lo + g.w ≤ f.lo ∨ f.lo + f.w ≤ g.lo))

theorem Fld.beside.apart {f g : Fld} (h : f.beside g) (i j : Nat) : f.apart i j g i j := by
  obtain ⟨s1, s2, other | same⟩ := h
  · refine .inl ?_
    simp only [Fld.addr, s1, s2]
    omega
  · exact .inr same

/-- Fields of one row of registers are apart at different places of it. -/
theorem Fld.apart_of_index {f g : Fld} (h : g.base = f.base ∧ g.s1 = f.s1 ∧ g.s2 = f.s2 ∧ 0 < f.s2) {i j l : Nat} (hne : l ≠ j) :
    f.apart i j g i l := by
  obtain ⟨base, s1, s2, pos⟩ := h
  refine .inl ?_
  simp only [Fld.addr, base, s1, s2, ne_eq, Nat.add_left_cancel_iff]
  exact fun e => hne (Nat.eq_of_mul_eq_mul_left pos e)

section
variable (s : State) {f g : Fld} (v i j : Nat) (h : f.beside g)
include h

theorem rd_wr_beside : (s.wr f v i j).rd g i j = s.rd g i j := rd_wr_apart s v (h.apart i j)
theorem on_wr_beside : (s.wr f v i j).on g i j = s.on g i j := on_wr_apart s v (h.apart i j)
theorem rd_sat_beside : (s.sat f v i j).rd g i j = s.rd g i j := rd_wr_beside s _ i j h

end

/-! ### The entry in force (R301) -/

/-- The entry in force at an offset, for a list whose first entry starts at `at0`. -/
theorem walkGate_spec (cycle off : Nat) (hoff : off < cycle) (l : List (Nat × Nat)) (hl : l ≠ []) (e at0 : Nat) (h0 : at0 ≤ off) :
    ∃ k m i r, l[k]? = some (m, i) ∧ walkGate cycle off e at0 l = (e + k, m, r) ∧ at0 + ((l.take k).map (·.2)).sum ≤ off ∧ 0 < r
      ∧ off + r ≤ cycle ∧ (k + 1 < l.length → off + r = min cycle (at0 + ((l.take (k + 1)).map (·.2)).sum))
      ∧ (k + 1 = l.length → off + r = cycle) := by
  induction l generalizing e at0 with
  | nil => exact absurd rfl hl
  | cons x l ih =>
    obtain ⟨m, i⟩ := x
    cases l with
    | nil =>
      refine ⟨0, m, i, cycle - off, rfl, ?_, by simpa using h0, by omega, by omega, by simp, fun _ => by omega⟩
      simp [walkGate, h0]
    | cons y l =>
      by_cases inside : off < min cycle (at0 + i)
      · refine ⟨0, m, i, min cycle (at0 + i) - off, rfl, ?_, by simpa using h0, by omega, by omega, ?_, by simp⟩
        · simp only [walkGate, if_pos inside, Nat.add_zero]
        · intro _
          simp only [Nat.zero_add, List.take_succ_cons, List.take_zero, List.map_cons, List.map_nil, List.sum_cons, List.sum_nil, Nat.add_zero]
          omega
      · obtain ⟨k, m', i', r, entry, walk, start, pos, fits, ends, last⟩ := ih (by simp) (e + 1) (at0 + i) (by omega)
        refine ⟨k + 1, m', i', r, by simpa using entry, ?_, ?_, pos, fits, ?_, ?_⟩
        · simp only [walkGate, if_neg inside, walk, Nat.add_assoc, Nat.add_comm 1 k]
        · simp only [List.take_succ_cons, List.map_cons, List.sum_cons]
          omega
        · intro more
          rw [ends (by simpa using more)]
          simp only [List.take_succ_cons, List.map_cons, List.sum_cons, Nat.add_assoc]
        · intro more
          exact last (by simpa using more)

/-! ### The copy of the admin list (R303) -/

/-- The entries of a port's admin list below `n`, copied into its operational list. -/
def State.gateCopy (s : State) (p n : Nat) : State :=
  (List.range n).foldl (fun (s : State) e =>
    (s.wr Reg.SCH_GATE_OPER_MASK (s.rd Reg.SCH_GATE_ADMIN_MASK p e) p e).wr Reg.SCH_GATE_OPER_INTERVAL_NS
      (s.rd Reg.SCH_GATE_ADMIN_INTERVAL_NS p e) p e) s

section
variable (s : State) (p : Nat)

theorem gateCopy_succ (n : Nat) : s.gateCopy p (n + 1) =
    ((s.gateCopy p n).wr Reg.SCH_GATE_OPER_MASK ((s.gateCopy p n).rd Reg.SCH_GATE_ADMIN_MASK p n) p n).wr Reg.SCH_GATE_OPER_INTERVAL_NS
      ((s.gateCopy p n).rd Reg.SCH_GATE_ADMIN_INTERVAL_NS p n) p n := by
  simp only [State.gateCopy, List.range_succ, List.foldl_append, List.foldl_cons, List.foldl_nil]

/-- The copy changes registers only. -/
theorem gateCopy_eq (n : Nat) : s.gateCopy p n = { s with regs := (s.gateCopy p n).regs } := by
  induction n with
  | zero => rfl
  | succ n ih =>
    rw [gateCopy_succ]
    conv_lhs => rw [ih]
    rfl

/-- A field outside the operational list reads as before. -/
theorem gateCopy_rd {g : Fld} {i j n : Nat} (h : ∀ e < n, g.addr i j ≠ Reg.SCH_GATE_OPER_MASK.addr p e) :
    (s.gateCopy p n).rd g i j = s.rd g i j := by
  induction n with
  | zero => rfl
  | succ n ih =>
    rw [gateCopy_succ, rd_wr_apart, rd_wr_apart, ih fun e he => h e (by omega)]
    · exact .inl (h n (by omega))
    · exact .inl (h n (by omega))

theorem admin_addr_ne_oper {e e' : Nat} (h : e < 256) : Reg.SCH_GATE_ADMIN_MASK.addr p e ≠ Reg.SCH_GATE_OPER_MASK.addr p e' := by
  simp only [Fld.addr, Reg.SCH_GATE_ADMIN_MASK, Reg.SCH_GATE_OPER_MASK]
  omega

/-- A copied entry reads as the entry of the admin list. -/
theorem gateCopy_entry {n e : Nat} (hn : n ≤ 256) (he : e < n) :
    (s.gateCopy p n).rd Reg.SCH_GATE_OPER_MASK p e = s.rd Reg.SCH_GATE_ADMIN_MASK p e
      ∧ (s.gateCopy p n).rd Reg.SCH_GATE_OPER_INTERVAL_NS p e = s.rd Reg.SCH_GATE_ADMIN_INTERVAL_NS p e := by
  induction n with
  | zero => omega
  | succ n ih =>
    have mask : (s.gateCopy p n).rd Reg.SCH_GATE_ADMIN_MASK p n = s.rd Reg.SCH_GATE_ADMIN_MASK p n :=
      gateCopy_rd s p fun e' _ => admin_addr_ne_oper p (by omega)
    have interval : (s.gateCopy p n).rd Reg.SCH_GATE_ADMIN_INTERVAL_NS p n = s.rd Reg.SCH_GATE_ADMIN_INTERVAL_NS p n :=
      gateCopy_rd s p fun e' _ => admin_addr_ne_oper p (by omega)
    rw [gateCopy_succ, mask, interval]
    by_cases last : e = n
    · subst last
      rw [rd_wr_beside _ _ _ _ (by decide), rd_wr_same _ _ _ _ _ (by decide), rd_wr_same _ _ _ _ _ (by decide)]
      exact ⟨Nat.mod_eq_of_lt (rd_lt ..), Nat.mod_eq_of_lt (rd_lt ..)⟩
    · have apart {f g : Fld} (h : g.base = f.base ∧ g.s1 = f.s1 ∧ g.s2 = f.s2 ∧ 0 < f.s2) := Fld.apart_of_index h (i := p) last
      obtain ⟨mask', interval'⟩ := ih (by omega) (by omega)
      rw [rd_wr_apart _ _ (apart (by decide)), rd_wr_apart _ _ (apart (by decide)), rd_wr_apart _ _ (apart (by decide)),
        rd_wr_apart _ _ (apart (by decide))]
      exact ⟨mask', interval'⟩

/-- While the pin is not the gate-debug output, showing the entry in force writes it to STATUS. -/
theorem gateShown_active (debug : s.on Reg.SCH_PULSE_CFG_DEBUG_OUT = false) (active : s.on Reg.SCH_GATE_STATUS_ACTIVE p = true) :
    s.gateShown p = s.wr Reg.SCH_GATE_STATUS_ENTRY (s.gateAt p s.time).1 p := by
  have off : (s.wr Reg.SCH_GATE_STATUS_ENTRY (s.gateAt p s.time).1 p).on Reg.SCH_PULSE_CFG_DEBUG_OUT = false := by
    rw [on_wr_apart, debug]
    refine .inl ?_
    simp only [Fld.addr, Reg.SCH_PULSE_CFG_DEBUG_OUT, Reg.SCH_GATE_STATUS_ENTRY]
    omega
  rw [State.gateShown, if_pos active, State.gateDebug, if_neg (by simp [off])]

theorem gateShown_inactive (debug : s.on Reg.SCH_PULSE_CFG_DEBUG_OUT = false) (active : s.on Reg.SCH_GATE_STATUS_ACTIVE p = false) :
    s.gateShown p = s := by
  rw [State.gateShown, if_neg (by simp [active]), State.gateDebug, if_neg (by simp [debug])]

/-- The list that a port's admin list becomes as it takes over. -/
def State.gateTaken (s : State) (p : Nat) : State :=
  let n := s.rd Reg.SCH_GATE_CYCLE_LEN_M1 p + 1
  let u := s.gateCopy p n
  let y := { s.port p with
    gateBase := u.rd Reg.SCH_GATE_BASE_BASE p
    gateCycle := u.rd Reg.SCH_GATE_CYCLE_CYCLE_NS p
    gateLen := n
    gateGuard := u.rd Reg.SCH_GATE_CTRL_GUARD_NS p }
  (((u.setPort p y).wr Reg.SCH_GATE_CTRL_PENDING 0 p).wr Reg.SCH_GATE_STATUS_ACTIVE 1 p).sat Reg.SCH_GATE_STATUS_SWAPS 1 p

/-- What the list that takes over leaves of a field that is none of CTRL, STATUS and the operational list. -/
theorem gateTaken_rd {g : Fld} {i j : Nat} (ctrl : Reg.SCH_GATE_CTRL_PENDING.apart p 0 g i j) (active : Reg.SCH_GATE_STATUS_ACTIVE.apart p 0 g i j)
    (swaps : Reg.SCH_GATE_STATUS_SWAPS.apart p 0 g i j) :
    (s.gateTaken p).rd g i j = (s.gateCopy p (s.rd Reg.SCH_GATE_CYCLE_LEN_M1 p + 1)).rd g i j := by
  rw [State.gateTaken, rd_sat_apart _ _ swaps, rd_wr_apart _ _ active, rd_wr_apart _ _ ctrl]
  rfl

theorem execGateListActivate_due (clocks : s.clocks) (pending : s.on Reg.SCH_GATE_CTRL_PENDING p = true)
    (due : (s.port p).gatePendAt ≤ s.time) : execGateListActivate p s = .next ((s.gateTaken p).gateShown p) := by
  rw [execGateListActivate, State.clocked_runs s clocks, if_pos ⟨pending, due⟩]
  rfl

end

/-- Settles O50: the list by `gateCopy` and what is written after it, the entry in force by `walkGate_spec`. -/
theorem gatesFollowTheirLists : Obligations.GatesFollowTheirLists := by
  unfold Obligations.GatesFollowTheirLists
  refine ⟨fun s p clocks hp debug => ⟨fun pending due => ?activate, fun active => ?advance, fun idle => ?idle⟩, ?walk⟩
  case activate =>
    have len : s.rd Reg.SCH_GATE_CYCLE_LEN_M1 p + 1 ≤ 256 := rd_lt s Reg.SCH_GATE_CYCLE_LEN_M1 p 0
    have copied {g : Fld} (h : ∀ e < 256, g.addr p 0 ≠ Reg.SCH_GATE_OPER_MASK.addr p e) :=
      gateCopy_rd s p (g := g) (i := p) (j := 0) (n := s.rd Reg.SCH_GATE_CYCLE_LEN_M1 p + 1) fun e he => h e (by omega)
    refine ⟨_, execGateListActivate_due s p clocks pending due, ?_⟩
    have shows : (s.gateTaken p).on Reg.SCH_GATE_STATUS_ACTIVE p = true := by
      rw [State.on, State.gateTaken, rd_sat_beside _ _ _ _ (by decide), rd_wr_same _ _ _ _ _ (by decide)]
      rfl
    have quiet : (s.gateTaken p).on Reg.SCH_PULSE_CFG_DEBUG_OUT = false := by
      have away {f : Fld} (h : f.s1 = 0x2000 ∧ 0x3900000 ≤ f.base) (e : Nat) : f.apart p e Reg.SCH_PULSE_CFG_DEBUG_OUT 0 0 := by
        refine .inl ?_
        simp only [Fld.addr, Reg.SCH_PULSE_CFG_DEBUG_OUT, h.1]
        omega
      have other (e : Nat) : Reg.SCH_PULSE_CFG_DEBUG_OUT.addr 0 0 ≠ Reg.SCH_GATE_OPER_MASK.addr p e := by
        simp only [Fld.addr, Reg.SCH_PULSE_CFG_DEBUG_OUT, Reg.SCH_GATE_OPER_MASK]
        omega
      rw [State.on, gateTaken_rd _ _ (away (by decide) 0) (away (by decide) 0) (away (by decide) 0), gateCopy_rd _ _ fun e _ => other e]
      exact debug
    have ne {g : Fld} (h : g.s1 = 0x2000 ∧ g.base < 0x3900c00) (e : Nat) : g.addr p 0 ≠ Reg.SCH_GATE_OPER_MASK.addr p e := by
      simp only [Fld.addr, Reg.SCH_GATE_OPER_MASK, h.1]
      omega
    have entries (e : Nat) (he : e < s.rd Reg.SCH_GATE_CYCLE_LEN_M1 p + 1) := gateCopy_entry s p len he
    have oper {f g : Fld} (hf : f.s1 = 0x2000 ∧ f.base < 0x3900c00) (hg : g.s1 = 0x2000 ∧ g.s2 = 8 ∧ g.base = 0x3900c00) (e : Nat) :
        f.apart p 0 g p e := by
      refine .inl ?_
      simp only [Fld.addr, hf.1, hg.1, hg.2.1, hg.2.2]
      omega
    rw [gateShown_active _ _ quiet shows]
    refine ⟨?_, ?_, ?_, ?_, ?_, ?_, fun e he => ⟨?_, ?_⟩⟩
    · rw [rd_wr_beside _ _ _ _ (by decide), State.gateTaken, rd_sat_beside _ _ _ _ (by decide), rd_wr_beside _ _ _ _ (by decide),
        rd_wr_same _ _ _ _ _ (by decide)]
      rfl
    · rw [rd_wr_beside _ _ _ _ (by decide), State.gateTaken, rd_sat_beside _ _ _ _ (by decide), rd_wr_same _ _ _ _ _ (by decide)]
      rfl
    · simp only [port_wr, State.gateTaken, State.sat, port_setPort_same]
    · simp only [port_wr, State.gateTaken, State.sat, port_setPort_same]
      exact copied fun e _ => ne (by decide) e
    · simp only [port_wr, State.gateTaken, State.sat, port_setPort_same]
      exact copied fun e _ => ne (by decide) e
    · simp only [port_wr, State.gateTaken, State.sat, port_setPort_same]
      exact copied fun e _ => ne (by decide) e
    · rw [rd_wr_apart _ _ (oper (by decide) (by decide) e), gateTaken_rd _ _ (oper (by decide) (by decide) e)
        (oper (by decide) (by decide) e) (oper (by decide) (by decide) e), (entries e he).1]
    · rw [rd_wr_apart _ _ (oper (by decide) (by decide) e), gateTaken_rd _ _ (oper (by decide) (by decide) e)
        (oper (by decide) (by decide) e) (oper (by decide) (by decide) e), (entries e he).2]
  case advance =>
    rw [exec_gateEntryAdvance, execGateEntryAdvance, State.clocked_runs s clocks, gateShown_active s p debug active]
    rfl
  case idle =>
    rw [exec_gateEntryAdvance, execGateEntryAdvance, State.clocked_runs s clocks, gateShown_inactive s p debug idle]
    rfl
  case walk =>
    intro cycle off l hoff hl
    obtain ⟨k, m, i, r, entry, walk, start, rest⟩ := walkGate_spec cycle off hoff l hl 0 0 (Nat.zero_le _)
    simp only [Nat.zero_add] at walk start rest
    exact ⟨k, m, i, r, entry, walk, start, rest⟩

end Sys2Proof.Machine

/-! PROOFS. The comb arbiters (R306 to R311): the candidates, the three ways to a winner, and what a grant leaves. -/

namespace Sys2Proof.Machine

/-! ### The three ways to a winner -/

/-- The older of two requests; equal ages go to the lower number (R310). -/
def olderOf (a : Option (Nat × Nat)) (x : Nat × Nat) : Option (Nat × Nat) :=
  match a with
  | none => some x
  | some y => if x.2 < y.2 ∨ (x.2 = y.2 ∧ x.1 < y.1) then some x else a

theorem oldest_eq (reqs : List (Nat × Nat)) : oldest reqs = (reqs.foldl olderOf none).map (·.1) := rfl

theorem foldl_olderOf (l : List (Nat × Nat)) (y : Nat × Nat) :
    ∃ z ∈ y :: l, l.foldl olderOf (some y) = some z ∧ ∀ x ∈ y :: l, z.2 ≤ x.2 := by
  induction l generalizing y with
  | nil => exact ⟨y, by simp, rfl, by simp⟩
  | cons x l ih =>
    rw [List.foldl_cons, olderOf]
    split
    next older =>
      obtain ⟨z, mem, fold, least⟩ := ih x
      refine ⟨z, List.mem_cons_of_mem _ mem, fold, fun v hv => ?_⟩
      obtain rfl | hv := List.mem_cons.1 hv
      · have := least x List.mem_cons_self
        omega
      · exact least v hv
    next younger =>
      obtain ⟨z, mem, fold, least⟩ := ih y
      refine ⟨z, ?_, fold, fun v hv => ?_⟩
      · obtain rfl | mem := List.mem_cons.1 mem
        · exact List.mem_cons_self
        · exact List.mem_cons_of_mem _ (List.mem_cons_of_mem _ mem)
      · have first := least y List.mem_cons_self
        obtain rfl | hv := List.mem_cons.1 hv
        · exact first
        · obtain rfl | hv := List.mem_cons.1 hv
          · omega
          · exact least v (List.mem_cons_of_mem _ hv)

/-- The oldest request is one of the requests, and none is older. -/
theorem oldest_spec {reqs : List (Nat × Nat)} (h : reqs ≠ []) : ∃ w c, oldest reqs = some w ∧ (w, c) ∈ reqs ∧ ∀ x ∈ reqs, c ≤ x.2 := by
  obtain ⟨y, l, rfl⟩ := List.exists_cons_of_ne_nil h
  obtain ⟨⟨w, c⟩, mem, fold, least⟩ := foldl_olderOf l y
  have fold' : (y :: l).foldl olderOf none = some (w, c) := fold
  exact ⟨w, c, by rw [oldest_eq, fold']; rfl, mem, least⟩

/-- A draw below the number of tickets falls to one of the requesters. -/
theorem drawTicket_spec (l : List (Nat × Nat)) (x : Nat) (h : x < (l.map (·.2)).sum) : ∃ w, drawTicket l x = some w ∧ w ∈ l.map (·.1) := by
  induction l generalizing x with
  | nil => simp at h
  | cons y l ih =>
    obtain ⟨r, n⟩ := y
    simp only [List.map_cons, List.sum_cons] at h
    by_cases own : x < n
    · exact ⟨r, by rw [drawTicket, if_pos own], by simp⟩
    · obtain ⟨w, draw, mem⟩ := ih (x - n) (by omega)
      exact ⟨w, by rw [drawTicket, if_neg own, draw], by simp only [List.map_cons, List.mem_cons, mem, or_true]⟩

theorem rotl32_lt (x u : Nat) : rotl32 x u < 2 ^ 32 := by
  unfold rotl32
  have small : x % 2 ^ 32 < 2 ^ 32 := Nat.mod_lt _ (by decide)
  have shift : u % 32 < 32 := Nat.mod_lt _ (by decide)
  generalize x % 2 ^ 32 = y at *
  generalize u % 32 = k at *
  have whole : 2 ^ 32 = 2 ^ k * 2 ^ (32 - k) := by
    rw [← Nat.pow_add]
    congr 1
    omega
  have high : y / 2 ^ (32 - k) < 2 ^ k := by
    rw [Nat.div_lt_iff_lt_mul (Nat.two_pow_pos _), ← whole]
    exact small
  have low : y * 2 ^ k % 2 ^ 32 = 2 ^ k * (y % 2 ^ (32 - k)) := by
    rw [whole, Nat.mul_comm y, Nat.mul_mod_mul_left]
  have rest : y % 2 ^ (32 - k) < 2 ^ (32 - k) := Nat.mod_lt _ (Nat.two_pow_pos _)
  calc y * 2 ^ k % 2 ^ 32 + y / 2 ^ (32 - k) < 2 ^ k * (y % 2 ^ (32 - k)) + 2 ^ k := by rw [low]; omega
    _ = 2 ^ k * (y % 2 ^ (32 - k) + 1) := by rw [Nat.mul_add, Nat.mul_one]
    _ ≤ 2 ^ k * 2 ^ (32 - k) := Nat.mul_le_mul_left _ rest
    _ = 2 ^ 32 := whole.symm

/-- By class some candidate wins. -/
theorem classWinner_spec {cls : Nat → Nat} (ptr : Map Nat) {c : List Nat} (h : c ≠ []) (hcls : ∀ r, cls r < 4) :
    ∃ k w, classWinner cls ptr c = some (k, w) ∧ w ∈ c := by
  have some' : (classWinner cls ptr c).isSome = true := by
    obtain ⟨r, hr⟩ := List.exists_mem_of_ne_nil c h
    rw [classWinner, List.findSome?_isSome_iff]
    refine ⟨cls r, List.mem_range.2 (hcls r), ?_⟩
    simp only [Option.isSome_map, List.isSome_head?, ne_eq, List.append_eq_nil_iff, List.filter_eq_nil_iff, List.mem_filter, beq_iff_eq,
      decide_eq_true_eq, not_and_or, not_forall, not_not]
    exact (le_or_gt _ r).imp (fun h => ⟨r, ⟨hr, rfl⟩, h⟩) fun h => ⟨r, ⟨hr, rfl⟩, h⟩
  obtain ⟨⟨k, w⟩, won⟩ := Option.isSome_iff_exists.1 some'
  refine ⟨k, w, won, ?_⟩
  obtain ⟨k', -, found⟩ := List.exists_of_findSome?_eq_some won
  simp only [Option.map_eq_some_iff, Prod.mk.injEq] at found
  obtain ⟨r, head, -, rfl⟩ := found
  have mem := List.mem_of_mem_head? head
  simp only [List.mem_append, List.mem_filter] at mem
  exact mem.elim (·.1.1) (·.1.1)

/-! ### Candidates and their losses -/

/-- The requesters that take part: those that request and do not back off (R309). -/
def arbCands (a : Arbiter) (u : Nat) (reqs : List (Nat × Nat)) : List Nat :=
  (List.range (arbSize u)).filter ((reqs.map (·.1)).eraseDups.filter fun r => !(mgetD a.reqs r {}).backoff).contains

theorem mem_arbCands {a : Arbiter} {u r : Nat} {reqs : List (Nat × Nat)} (small : ∀ x ∈ reqs, x.1 < arbSize u) :
    r ∈ arbCands a u reqs ↔ ((reqs.map (·.1)).contains r && !(mgetD a.reqs r {}).backoff) = true := by
  simp only [arbCands, List.mem_filter, List.mem_range, List.contains_iff_mem, Bool.and_eq_true, List.mem_eraseDups]
  refine ⟨And.right, fun h => ⟨?_, h⟩⟩
  obtain ⟨x, hx, rfl⟩ := List.mem_map.1 h.1
  exact small x hx

theorem arbCands_nodup (a : Arbiter) (u : Nat) (reqs : List (Nat × Nat)) : (arbCands a u reqs).Nodup := List.nodup_range.filter _

/-- A candidate that does not win loses once more and backs off (R309). -/
def loseTo (w : Nat) (m : Map ArbReq) (r : Nat) : Map ArbReq :=
  if r = w then m else mset m r { losses := min 11 ((mgetD m r {}).losses + 1), backoff := true }

theorem foldl_loseTo (w : Nat) (l : List Nat) (nodup : l.Nodup) (m : Map ArbReq) (r : Nat) :
    mgetD (l.foldl (loseTo w) m) r {} = if r ∈ l ∧ r ≠ w then { losses := min 11 ((mgetD m r {}).losses + 1), backoff := true }
      else mgetD m r {} := by
  induction l generalizing m with
  | nil => simp
  | cons x l ih =>
    obtain ⟨notin, nodup⟩ := List.nodup_cons.1 nodup
    rw [List.foldl_cons, ih nodup]
    by_cases own : r = x
    · subst own
      by_cases win : r = w
      · simp [win, loseTo]
      · simp [win, loseTo, notin]
    · have kept : mgetD (loseTo w m x) r {} = mgetD m r {} := by
        unfold loseTo
        split
        · rfl
        · exact mgetD_mset_other _ _ _ _ _ own
      simp only [kept, List.mem_cons, own, false_or]

/-! ### A decision -/

section
variable (s : State) (u cycle : Nat) (reqs : List (Nat × Nat))

/-- The winner of a decision, for the arbiter as it stands and its candidates (R307, R308, R310). -/
def State.arbWinner (a : Arbiter) (cands : List Nat) : Option Nat :=
  let tickets := cands.map fun r => (r, s.rd Reg.SCH_ARB_REQ_TICKETS u r)
  let total := (tickets.map (·.2)).sum
  if (a.grants + 1) % max 1 (s.rd Reg.SCH_ARB_CFG_N u) = 0 then oldest reqs
  else if s.rd Reg.SCH_ARB_CFG_MODE u = 0 ∧ total ≠ 0 then
    drawTicket tickets (rotl32 (lotterySteps (cycle - s.sc.cycle) s.sc.lottery) u * total / 2 ^ 32)
  else (classWinner (fun r => s.rd Reg.SCH_ARB_REQ_CLASS u r) a.ptr cands).map (·.2)

/-- With a candidate there is a winner: on every N-th grant the oldest request, else a candidate. -/
theorem arbWinner_spec (a : Arbiter) {cands : List Nat} (hreqs : reqs ≠ []) (hcands : cands ≠ []) :
    ∃ w, s.arbWinner u cycle reqs a cands = some w
      ∧ ((a.grants + 1) % max 1 (s.rd Reg.SCH_ARB_CFG_N u) = 0 → ∃ c, (w, c) ∈ reqs ∧ ∀ x ∈ reqs, c ≤ x.2)
      ∧ ((a.grants + 1) % max 1 (s.rd Reg.SCH_ARB_CFG_N u) ≠ 0 → w ∈ cands) := by
  unfold State.arbWinner
  dsimp only
  split
  next forced =>
    obtain ⟨w, c, won, mem, least⟩ := oldest_spec hreqs
    exact ⟨w, won, fun _ => ⟨c, mem, least⟩, fun h => absurd forced h⟩
  next unforced =>
    split
    next lottery =>
      generalize htotal : ((cands.map fun r => (r, s.rd Reg.SCH_ARB_REQ_TICKETS u r)).map (·.2)).sum = total at *
      have below : rotl32 (lotterySteps (cycle - s.sc.cycle) s.sc.lottery) u * total / 2 ^ 32 < total := by
        rw [Nat.div_lt_iff_lt_mul (by decide), Nat.mul_comm total]
        exact Nat.mul_lt_mul_of_pos_right (rotl32_lt ..) (Nat.pos_of_ne_zero lottery.2)
      obtain ⟨w, won, mem⟩ := drawTicket_spec (cands.map fun r => (r, s.rd Reg.SCH_ARB_REQ_TICKETS u r))
        (rotl32 (lotterySteps (cycle - s.sc.cycle) s.sc.lottery) u * total / 2 ^ 32) (by rw [htotal]; exact below)
      exact ⟨w, won, fun h => absurd h unforced, fun _ => by simpa using mem⟩
    next =>
      obtain ⟨k, w, won, mem⟩ := classWinner_spec a.ptr hcands fun r => rd_lt s Reg.SCH_ARB_REQ_CLASS u r
      exact ⟨w, by rw [won]; rfl, fun h => absurd h unforced, fun _ => mem⟩

@[simp] theorem count_sc (ev unit n : Nat) (o : Owner) : (s.count ev unit n o).sc = s.sc := by
  obtain ⟨r, f, l, h, -⟩ := count_sameBut s ev unit n o
  rw [h]

@[simp] theorem tally_sc (f : Fld) (ev unit : Nat) (o : Owner) (n i j : Nat) : (s.tally f ev unit o n i j).sc = s.sc := by
  rw [State.tally, count_sc, State.sat_sc]

/-- A decision with a winner counts the grant, ends the winner's losses, and lets the other candidates lose. -/
theorem execArbiterDecision_grants {a : Arbiter} {w : Nat} (clocks : s.clocks) (ha : mgetD s.sc.arbs u {} = a)
    (small : ∀ x ∈ reqs, x.1 < arbSize u) (won : s.arbWinner u cycle reqs a (arbCands a u reqs) = some w) :
    ∃ t p, execArbiterDecision u cycle reqs s = .next t ∧ t.sc.arbs = mset s.sc.arbs u
      { grants := a.grants + 1, ptr := p, reqs := mset ((arbCands a u reqs).foldl (loseTo w) a.reqs) w {} } := by
  have all : reqs.filter (fun x => x.1 < arbSize u) = reqs := List.filter_eq_self.2 fun x hx => decide_eq_true (small x hx)
  subst ha
  rw [execArbiterDecision, State.clocked_runs s clocks, all]
  dsimp only
  split
  next none => cases won.symm.trans none
  next w' won' =>
    obtain rfl : w = w' := Option.some.inj (won.symm.trans won')
    refine ⟨_, ?p, rfl, ?arbs⟩
    case arbs =>
      rw [apply_ite State.sc, tally_sc, ite_self, count_sc, State.high_sc]
      rfl

theorem execBackoffExpiry_arbs {q : ArbReq} {r : Nat} (clocks : s.clocks) (hq : mget (mgetD s.sc.arbs u {}).reqs r = some q) :
    ∃ t, execBackoffExpiry u r s = .next t ∧ t.regs = s.regs
      ∧ mget (mgetD t.sc.arbs u {}).reqs r = some { q with backoff := false } := by
  rw [execBackoffExpiry, State.clocked_runs s clocks]
  exact ⟨_, rfl, rfl, by simp only [mgetD_mset_same, mmod, hq, mget_mset_same]⟩

end

/-- Settles O51: the winner by `arbWinner_spec`, what the grant leaves by `execArbiterDecision_grants` and `foldl_loseTo`. -/
theorem arbitersGrantOneRequest : Obligations.ArbitersGrantOneRequest := by
  unfold Obligations.ArbitersGrantOneRequest
  intro s u cycle r0 c0 reqs a free clocks small requested free0
  have cand {r : Nat} : r ∈ arbCands a u reqs ↔ free r = true := mem_arbCands small
  obtain ⟨w, won, forced, unforced⟩ := arbWinner_spec s u cycle reqs a (List.ne_nil_of_mem requested) (List.ne_nil_of_mem (cand.2 free0))
  obtain ⟨t, p, runs, arbs⟩ := execArbiterDecision_grants s u cycle reqs clocks rfl small won
  have request : ∃ c, (w, c) ∈ reqs ∧ ((a.grants + 1) % max 1 (s.rd Reg.SCH_ARB_CFG_N u) = 0 → ∀ x ∈ reqs, c ≤ x.2) := by
    by_cases h : (a.grants + 1) % max 1 (s.rd Reg.SCH_ARB_CFG_N u) = 0
    · obtain ⟨c, mem, least⟩ := forced h
      exact ⟨c, mem, fun _ => least⟩
    · have taking := cand.1 (unforced h)
      simp only [free, Bool.and_eq_true, List.contains_iff_mem, List.mem_map] at taking
      obtain ⟨⟨⟨w, c⟩, mem, rfl⟩, -⟩ := taking
      exact ⟨c, mem, fun h' => absurd h' h⟩
  obtain ⟨c, mem, least⟩ := request
  refine ⟨⟨t, runs, ?_⟩, fun q hq => ?_⟩
  · dsimp only
    rw [arbs, mgetD_mset_same]
    refine ⟨w, c, mem, rfl, mgetD_mset_same .., fun r hr hfree => ?_, fun r hr hfree => ?_, least, fun h => cand.1 (unforced h)⟩
    · rw [mgetD_mset_other _ _ _ _ _ hr, foldl_loseTo _ _ (arbCands_nodup ..), if_pos ⟨cand.2 hfree, hr⟩]
    · rw [mgetD_mset_other _ _ _ _ _ hr, foldl_loseTo _ _ (arbCands_nodup ..), if_neg fun h => by simp [cand.1 h.1] at hfree]
  · obtain ⟨t, runs, regs, arb⟩ := execBackoffExpiry_arbs s u clocks hq
    exact ⟨t, runs, arb, regs⟩

end Sys2Proof.Machine

/-! PROOFS. Exact partials (R173 to R176, R178): integers modulo a power of two with their sign, the combination, and the wire form. -/

namespace Sys2Proof.Machine

/-! ### Two's complement -/

/-- The value that stays of an integer in `w + 1` bits is its balanced remainder. -/
theorem toSigned_ofInt (w : Nat) (x : Int) : toSigned (w + 1) (ofInt (w + 1) x) = x.bmod (2 ^ (w + 1)) := by
  have cast : ((2 ^ (w + 1) : Nat) : Int) = 2 ^ (w + 1) := by norm_cast
  have pos : (0 : Int) < 2 ^ (w + 1) := by positivity
  have nonneg := Int.emod_nonneg x pos.ne'
  have below := Int.emod_lt_of_pos x pos
  have value : ((ofInt (w + 1) x : Nat) : Int) = x % 2 ^ (w + 1) := Int.toNat_of_nonneg nonneg
  have small : ofInt (w + 1) x % 2 ^ (w + 1) = ofInt (w + 1) x := Nat.mod_eq_of_lt (by
    have : ((ofInt (w + 1) x : Nat) : Int) < ((2 ^ (w + 1) : Nat) : Int) := by rw [value, cast]; exact below
    exact_mod_cast this)
  have twice : (2 : Int) ^ (w + 1) = 2 * 2 ^ w := by rw [pow_succ, mul_comm]
  rw [toSigned, small, Int.bmod_def, cast, value, Nat.add_sub_cancel]
  have half : ((2 : Int) ^ (w + 1) + 1) / 2 = 2 ^ w := by omega
  have castHalf : ((2 ^ w : Nat) : Int) = 2 ^ w := by norm_cast
  rw [half]
  by_cases h : 2 ^ w ≤ ofInt (w + 1) x
  · rw [if_pos h, if_neg]
    rw [← value, ← castHalf]
    exact_mod_cast not_lt.2 h
  · rw [if_neg h, if_pos]
    rw [← value, ← castHalf]
    exact_mod_cast not_le.1 h

theorem bmod_two_pow_bounds (w : Nat) (x : Int) : -(2 ^ w : Int) ≤ x.bmod (2 ^ (w + 1)) ∧ x.bmod (2 ^ (w + 1)) < (2 ^ w : Int) := by
  have cast : ((2 ^ (w + 1) : Nat) : Int) = 2 * 2 ^ w := by push_cast; rw [pow_succ, mul_comm]
  have low := Int.le_bmod (x := x) (Nat.two_pow_pos (w + 1))
  have high := Int.bmod_lt (x := x) (Nat.two_pow_pos (w + 1))
  rw [cast] at low high
  omega

theorem bmod_two_pow_eq {w : Nat} {x : Int} (low : -(2 ^ w : Int) ≤ x) (high : x < (2 ^ w : Int)) : x.bmod (2 ^ (w + 1)) = x := by
  have cast : ((2 ^ (w + 1) : Nat) : Int) = 2 * 2 ^ w := by push_cast; rw [pow_succ, mul_comm]
  refine Int.bmod_eq_of_le_mul_two ?_ ?_ <;> rw [cast] <;> omega

/-! ### The combination of partials (R173, R174, R176) -/

theorem wrapAcc_eq (x : Int) : wrapAcc x = x.bmod (2 ^ (2239 + 1)) := toSigned_ofInt 2239 x

theorem joinSpecial_comm (a b : Nat) : joinSpecial a b = joinSpecial b a := by
  unfold joinSpecial spFinite spNan
  grind

theorem joinSpecial_assoc (a b c : Nat) : joinSpecial (joinSpecial a b) c = joinSpecial a (joinSpecial b c) := by
  unfold joinSpecial spFinite spNan
  grind

theorem joinSpecial_eq_zero {a b : Nat} : joinSpecial a b = 0 ↔ a = 0 ∧ b = 0 := by
  unfold joinSpecial spFinite spNan
  grind

theorem join_special (a b : Exact) : (a.join b).special = joinSpecial a.special b.special := rfl
theorem join_nz (a b : Exact) : (a.join b).nz = (a.nz || b.nz) := rfl

theorem join_acc (a b : Exact) :
    (a.join b).acc = if a.special = 0 ∧ b.special = 0 then (a.acc + b.acc).bmod (2 ^ (2239 + 1)) else 0 := by
  simp only [Exact.join, spFinite, joinSpecial_eq_zero, wrapAcc_eq]

theorem exact_ext {a b : Exact} (acc : a.acc = b.acc) (special : a.special = b.special) (nz : a.nz = b.nz) : a = b := by
  cases a; cases b; simp_all

theorem join_comm (a b : Exact) : a.join b = b.join a := by
  refine exact_ext ?_ (joinSpecial_comm _ _) (Bool.or_comm _ _)
  simp only [join_acc, Int.add_comm a.acc, and_comm (a := a.special = 0)]

theorem join_assoc (a b c : Exact) : (a.join b).join c = a.join (b.join c) := by
  refine exact_ext ?_ (joinSpecial_assoc _ _ _) (Bool.or_assoc _ _ _)
  rw [join_acc (a.join b), join_acc a (b.join c)]
  simp only [join_special, joinSpecial_eq_zero, ← and_assoc]
  split
  next finite =>
    obtain ⟨⟨fa, fb⟩, fc⟩ := finite
    rw [join_acc, if_pos ⟨fa, fb⟩, join_acc, if_pos ⟨fb, fc⟩, Int.bmod_add_bmod, Int.add_bmod_bmod, Int.add_assoc]
  next => rfl

/-- Any order gives the same sum. -/
theorem foldl_join_perm {l m : List Exact} (h : l.Perm m) : l.foldl Exact.join {} = m.foldl Exact.join {} :=
  haveI : RightCommutative Exact.join := ⟨fun a b c => by rw [join_assoc, join_comm b c, join_assoc]⟩
  h.foldl_eq _

/-! ### The limbs of a partial (R175) -/

/-- The lowest nonzero limb: the limbs below it are zero. -/
theorem lowLimb_spec (f m i : Nat) (pos : 0 < m) (room : m < 2 ^ (64 * f)) :
    ∃ j < f, lowLimb f m i = i + j ∧ 2 ^ (64 * j) ∣ m := by
  induction f generalizing m i with
  | zero => simp at room; omega
  | succ f ih =>
    by_cases zero : m % 2 ^ 64 = 0
    · have split : m = 2 ^ 64 * (m / 2 ^ 64) := (Nat.mul_div_cancel' (Nat.dvd_of_mod_eq_zero zero)).symm
      have room' : m / 2 ^ 64 < 2 ^ (64 * f) := by
        rw [Nat.div_lt_iff_lt_mul (by decide), ← Nat.pow_add]
        exact room
      obtain ⟨j, hj, limb, dvd⟩ := ih (m / 2 ^ 64) (i + 1) (by omega) room'
      refine ⟨j + 1, by omega, ?_, ?_⟩
      · rw [lowLimb, if_pos zero, limb]
        omega
      · rw [split, show 64 * (j + 1) = 64 + 64 * j by omega, Nat.pow_add]
        exact Nat.mul_dvd_mul_left _ dvd
    · exact ⟨0, by omega, by rw [lowLimb, if_neg zero, Nat.add_zero], by simp⟩

/-- The fewest limbs hold the value, and are no more than limbs that hold it. -/
theorem fewestLimbs_spec (f : Nat) (v : Int) (c k : Nat) (hck : c ≤ k) (fuel : k - c < f)
    (holds : -(2 ^ (64 * k - 1) : Int) ≤ v ∧ v < (2 ^ (64 * k - 1) : Int)) :
    c ≤ fewestLimbs f v c ∧ fewestLimbs f v c ≤ k
      ∧ -(2 ^ (64 * fewestLimbs f v c - 1) : Int) ≤ v ∧ v < (2 ^ (64 * fewestLimbs f v c - 1) : Int) := by
  induction f generalizing c with
  | zero => omega
  | succ f ih =>
    rw [fewestLimbs]
    split
    next fits => exact ⟨le_rfl, hck, fits⟩
    next misses =>
      have more : c ≠ k := fun e => misses (e ▸ holds)
      obtain ⟨low, high, fits⟩ := ih (c + 1) (by omega) (by omega)
      exact ⟨by omega, high, fits⟩

theorem ofBE_beBytes (n v : Nat) : ofBE (beBytes n v) = v % 256 ^ n := by
  rw [ofBE_eq_ofLE_reverse, beBytes, List.reverse_reverse, ofLE_leBytes]

@[simp] theorem beBytes_length (n v : Nat) : (beBytes n v).length = n := by
  rw [beBytes, List.length_reverse, leBytes_length]

theorem ofInt_lt (w : Nat) (x : Int) : ofInt w x < 2 ^ w := by
  have pos : (0 : Int) < 2 ^ w := by positivity
  have below := Int.emod_lt_of_pos x pos
  have value : ((ofInt w x : Nat) : Int) = x % 2 ^ w := Int.toNat_of_nonneg (Int.emod_nonneg x pos.ne')
  have : ((ofInt w x : Nat) : Int) < ((2 ^ w : Nat) : Int) := by rw [value]; push_cast; exact below
  exact_mod_cast this

/-- A value that fits in `n` limbs is read back from their bytes. -/
theorem toSigned_beBytes {n : Nat} (pos : 0 < n) {v : Int} (low : -(2 ^ (64 * n - 1) : Int) ≤ v) (high : v < (2 ^ (64 * n - 1) : Int)) :
    toSigned (64 * n) (ofBE (beBytes (8 * n) (ofInt (64 * n) v))) = v := by
  have bytes : 256 ^ (8 * n) = 2 ^ (64 * n) := by
    rw [show 256 = 2 ^ 8 by rfl, ← Nat.pow_mul]
    congr 1
    omega
  rw [ofBE_beBytes, bytes, Nat.mod_eq_of_lt (ofInt_lt _ _)]
  obtain ⟨w, hw⟩ : ∃ w, 64 * n = w + 1 := ⟨64 * n - 1, by omega⟩
  rw [hw, Nat.add_sub_cancel] at low high
  rw [hw, toSigned_ofInt, bmod_two_pow_eq low high]

/-! ### The wire form (R175) -/

/-- The first byte of a partial holds SPECIAL and NZ. -/
theorem header_byte {x : Exact} (h : x.special < 4) :
    (BitVec.ofNat 8 (x.special * 64 + if x.nz then 32 else 0)).toNat = x.special * 64 + if x.nz then 32 else 0 := by
  rw [BitVec.toNat_ofNat, Nat.mod_eq_of_lt]
  split <;> omega

/-- One partial with a header that the table allows is read as its SPECIAL, its NZ and its limbs. -/
theorem readPartials_one {b0 low n : Nat} {limbs : List Byte} (hb0 : b0 < 256) (reserved : b0 % 32 = 0) (hn : low + n ≤ 35)
    (hlow : low ≤ 34) (len : limbs.length = 8 * n) (finite : b0 / 64 ≠ 0 → n = 0) :
    readPartials 1 ([BitVec.ofNat 8 b0, BitVec.ofNat 8 low, BitVec.ofNat 8 n, 0, 0, 0, 0, 0] ++ limbs)
      = some [{ acc := (if n = 0 then 0 else toSigned (64 * n) (ofBE limbs)) * 2 ^ (64 * low), special := b0 / 64,
                nz := b0 / 32 % 2 = 1 }] := by
  have byte0 : (BitVec.ofNat 8 b0).toNat = b0 := by rw [BitVec.toNat_ofNat, Nat.mod_eq_of_lt hb0]
  have byte1 : (BitVec.ofNat 8 low).toNat = low := by rw [BitVec.toNat_ofNat, Nat.mod_eq_of_lt (by omega)]
  have byte2 : (BitVec.ofNat 8 n).toNat = n := by rw [BitVec.toNat_ofNat, Nat.mod_eq_of_lt (by omega)]
  have rest : limbs.take (8 * n) = limbs := List.take_of_length_le len.le
  rw [readPartials, show readPartials 0 = fun l => if l.isEmpty then some [] else none from rfl]
  have used : limbs.length + 1 + 1 + 1 + 1 + 1 + 1 + 1 < 8 + 8 * n := by omega
  simp [byte0, byte1, byte2, rest, spFinite, used]
  exact ⟨by omega, reserved, hlow, by omega, hn, fun h => finite (by omega)⟩

/-- A partial of 0, an infinity and a NaN are read back from 8 bytes. -/
theorem readPartials_zero (x : Exact) (special : x.special < 4) (acc : x.acc = 0) : readPartials 1 x.toBytes = some [x] := by
  have bytes : x.toBytes = [BitVec.ofNat 8 (x.special * 64 + if x.nz then 32 else 0), BitVec.ofNat 8 0, BitVec.ofNat 8 0, 0, 0, 0, 0, 0]
      ++ [] := by
    rw [Exact.toBytes, if_pos (.inl acc)]
    rfl
  rw [bytes, readPartials_one (by split <;> omega) (by split <;> omega) (by decide) (by decide) rfl fun _ => rfl]
  congr 2
  refine exact_ext acc.symm ?_ ?_
  · dsimp only
    split <;> omega
  · cases x.nz
    all_goals simp
    all_goals omega

/-- A finite partial is read back from its limbs. -/
theorem readPartials_limbs (x : Exact) (small : x.acc.natAbs < 2 ^ 2239) (special : x.special = 0) (acc : x.acc ≠ 0) :
    readPartials 1 x.toBytes = some [x] := by
  obtain ⟨low, hlow, limb, dvd⟩ := lowLimb_spec 35 x.acc.natAbs 0 (Int.natAbs_pos.2 acc)
    (small.trans (Nat.pow_lt_pow_right (by decide) (by decide)))
  rw [Nat.zero_add] at limb
  have scaled : x.acc / 2 ^ (64 * low) * 2 ^ (64 * low) = x.acc := by
    refine Int.ediv_mul_cancel ?_
    have := Int.natCast_dvd.2 dvd
    push_cast at this
    exact this
  have holds : -(2 ^ (64 * (35 - low) - 1) : Int) ≤ x.acc / 2 ^ (64 * low) ∧ x.acc / 2 ^ (64 * low) < (2 ^ (64 * (35 - low) - 1) : Int) := by
    have bound : (2 ^ (64 * (35 - low) - 1) : Int) * 2 ^ (64 * low) = 2 ^ 2239 := by
      rw [← pow_add]
      congr 1
      omega
    have size : ((x.acc.natAbs : Nat) : Int) < ((2 ^ 2239 : Nat) : Int) := Int.ofNat_lt.2 small
    have pos : (0 : Int) < 2 ^ (64 * low) := by positivity
    simp only [Int.natCast_natAbs, Nat.cast_pow, Nat.cast_ofNat] at size
    rw [← bound] at size
    obtain ⟨above, below⟩ := abs_lt.1 size
    rw [← scaled, ← neg_mul] at above
    rw [← scaled] at below
    exact ⟨(lt_of_mul_lt_mul_right above pos.le).le, lt_of_mul_lt_mul_right below pos.le⟩
  obtain ⟨pos, few, min, max⟩ := fewestLimbs_spec 35 (x.acc / 2 ^ (64 * low)) 1 (35 - low) (by omega) (by omega) holds
  have bytes : x.toBytes = [BitVec.ofNat 8 (if x.nz then 32 else 0), BitVec.ofNat 8 low,
      BitVec.ofNat 8 (fewestLimbs 35 (x.acc / 2 ^ (64 * low)) 1), 0, 0, 0, 0, 0] ++ beBytes (8 * fewestLimbs 35 (x.acc / 2 ^ (64 * low)) 1)
        (ofInt (64 * fewestLimbs 35 (x.acc / 2 ^ (64 * low)) 1) (x.acc / 2 ^ (64 * low))) := by
    rw [Exact.toBytes, if_neg (by simp [acc, special, spFinite]), limb, special]
    simp
  rw [bytes, readPartials_one (by split <;> omega) (by split <;> omega) (by omega) (by omega) (beBytes_length _ _)
    (fun h => absurd (by split <;> rfl) h), toSigned_beBytes (by omega) min max, if_neg (by omega), scaled]
  congr 2
  refine exact_ext rfl ?_ ?_
  · rw [special]
    dsimp only
    split <;> rfl
  · cases x.nz <;> rfl

/-- Settles O47: order by `join_comm` and `join_assoc`, the wire by `readPartials_zero` and `readPartials_limbs`. -/
theorem exactSumsKeepNoOrder : Obligations.ExactSumsKeepNoOrder := by
  unfold Obligations.ExactSumsKeepNoOrder
  refine ⟨fun a b c => ⟨join_comm a b, join_assoc a b c, fun fa fb => ?sum, rfl, ?special, ?left, ?same, ?nan, ?opposite⟩,
    fun l m => foldl_join_perm, fun x small special finite => ?wire⟩
  case sum =>
    have acc : (a.join b).acc = (a.acc + b.acc).bmod (2 ^ (2239 + 1)) := by rw [join_acc, if_pos ⟨fa, fb⟩]
    obtain ⟨low, high⟩ := bmod_two_pow_bounds 2239 (a.acc + b.acc)
    rw [acc]
    refine ⟨?_, low, high, fun l h => bmod_two_pow_eq l h⟩
    have same := Int.emod_eq_emod_iff_emod_sub_eq_zero.1 (Int.bmod_emod (x := a.acc + b.acc) (m := 2 ^ (2239 + 1)))
    simp only [Nat.cast_pow, Nat.cast_ofNat] at same
    exact same
  case special =>
    intro h
    rw [join_acc, if_neg fun fin => h (joinSpecial_eq_zero.2 fin)]
  case left => exact fun h => if_pos h
  case same => intro h; rw [join_special, joinSpecial, h]; split <;> simp
  case nan => intro h; rw [join_special, joinSpecial, h]; unfold spFinite spNan; split <;> simp_all
  case opposite => intro h h'; rw [join_special, h, h']; rfl
  case wire =>
    by_cases acc : x.acc = 0
    · exact readPartials_zero x special acc
    · exact readPartials_limbs x small (by by_contra h; exact acc (finite h)) acc

end Sys2Proof.Machine

/-! PROOFS. Floating-point formats (R174, R177): a finite number enters a sum as a multiple of its lowest bit, and rounding gives its
bits back. -/

namespace Sys2Proof.Machine

/-- A format in which every number is a multiple of 2^-1074 and below 2^1024: what `fmtOf` gives. -/
structure Fmt.Fits (f : Fmt) : Prop where
  precision : 2 ≤ f.p
  exponent : f.p + 2 ≤ f.w
  lowest : f.bias + f.p ≤ 1076
  largest : 2 ^ (f.w - f.p) + (1076 - f.bias - f.p) + f.p ≤ 2101

theorem fmtOf_fits {dtype : Nat} {f : Fmt} (h : fmtOf dtype = some f) : f.Fits := by
  unfold fmtOf at h
  split at h
  all_goals cases h
  all_goals exact ⟨by decide, by decide, by decide, by decide⟩

namespace Fmt

variable (f : Fmt) (v : Nat)

/-- The fraction, the biased exponent and the sign of a number's bits. -/
def frac : Nat := v % 2 ^ (f.p - 1)
def exp : Nat := v / 2 ^ (f.p - 1) % 2 ^ (f.w - f.p)
def neg : Bool := v / 2 ^ (f.w - 1) % 2 = 1

/-- The significand of a finite number, and the place of its lowest bit above 2^-1074. -/
def significand : Nat := if f.exp v = 0 then f.frac v else f.frac v + 2 ^ (f.p - 1)
def place : Nat := max (f.exp v) 1 - 1 + (1076 - f.bias - f.p)

variable {f v}

theorem frac_lt : f.frac v < 2 ^ (f.p - 1) := Nat.mod_lt _ (Nat.two_pow_pos _)
theorem exp_lt : f.exp v < 2 ^ (f.w - f.p) := Nat.mod_lt _ (Nat.two_pow_pos _)

/-- A number's bits are its sign, exponent and fraction. -/
theorem bits_eq (fits : f.Fits) (hv : v < 2 ^ f.w) :
    v = (if f.neg v then 2 ^ (f.w - 1) else 0) + f.exp v * 2 ^ (f.p - 1) + f.frac v := by
  obtain ⟨two, wide, -, -⟩ := fits
  have low := Nat.mod_add_div v (2 ^ (f.p - 1))
  have high := Nat.mod_add_div (v / 2 ^ (f.p - 1)) (2 ^ (f.w - f.p))
  have place : 2 ^ (f.w - 1) = 2 ^ (f.p - 1) * 2 ^ (f.w - f.p) := by
    rw [← Nat.pow_add]
    congr 1
    omega
  have sign : v / 2 ^ (f.p - 1) / 2 ^ (f.w - f.p) = v / 2 ^ (f.w - 1) := by rw [Nat.div_div_eq_div_mul, place]
  have one : v / 2 ^ (f.w - 1) < 2 := by
    rw [Nat.div_lt_iff_lt_mul (Nat.two_pow_pos _), ← Nat.pow_succ']
    rwa [show (f.w - 1).succ = f.w by omega]
  have signed : (if f.neg v then 2 ^ (f.w - 1) else 0) = 2 ^ (f.w - 1) * (v / 2 ^ (f.w - 1)) := by
    obtain zero | set := Nat.le_one_iff_eq_zero_or_eq_one.1 (Nat.lt_succ_iff.1 one)
    · simp [neg, zero]
    · simp [neg, set]
  rw [signed, frac, exp]
  rw [sign, place] at high
  rw [place, Nat.mul_assoc, Nat.mul_comm (_ % _), Nat.add_comm (_ * _) (_ * _), ← Nat.mul_add, high, Nat.add_comm, low]

theorem significand_lt : f.significand v < 2 * 2 ^ (f.p - 1) := by
  have := frac_lt (f := f) (v := v)
  unfold significand
  split <;> omega

/-! ### Decoding -/

theorem decode_special (h : f.exp v = 2 ^ (f.w - f.p) - 1) :
    f.decode v = { special := if f.frac v ≠ 0 then spNan else if f.neg v then spNeg else spPos, nz := true } := by
  have e : v / 2 ^ (f.p - 1) % 2 ^ (f.w - f.p) = 2 ^ (f.w - f.p) - 1 := h
  simp only [decode, if_pos e, neg, decide_eq_true_eq]
  rfl

theorem decode_finite (fits : f.Fits) (h : f.exp v ≠ 2 ^ (f.w - f.p) - 1) :
    f.decode v = { acc := if f.neg v then -((f.significand v * 2 ^ f.place v : Nat) : Int) else (f.significand v * 2 ^ f.place v : Nat),
                   nz := f.significand v * 2 ^ f.place v != 0 || !f.neg v } := by
  have e : ¬ v / 2 ^ (f.p - 1) % 2 ^ (f.w - f.p) = 2 ^ (f.w - f.p) - 1 := h
  have lowest := fits.lowest
  have two := fits.precision
  have place' : max (v / 2 ^ (f.p - 1) % 2 ^ (f.w - f.p)) 1 + 1074 - f.bias - (f.p - 1) = f.place v := by
    unfold place exp
    omega
  simp only [decode, if_neg e, place']
  simp only [neg, decide_eq_true_eq]
  rfl

/-! ### Rounding -/

theorem roundEven_mul_two_pow (m k : Nat) : roundEven (m * 2 ^ k) k = m := by
  have pos := Nat.two_pow_pos k
  simp only [roundEven, Nat.mul_div_cancel _ pos, Nat.mul_mod_left]
  rw [if_neg]
  omega

/-- The lowest bit that rounding keeps of a finite number is its own lowest bit. -/
theorem place_kept (fits : f.Fits) (h : f.significand v ≠ 0) :
    max (Nat.log2 (f.significand v * 2 ^ f.place v) + 1 - f.p) (1076 - f.bias - f.p) = f.place v := by
  have two := fits.precision
  have pos := Nat.two_pow_pos (f.place v)
  have nonzero : f.significand v * 2 ^ f.place v ≠ 0 := Nat.mul_ne_zero h pos.ne'
  have log (n : Nat) (hn : f.significand v < 2 ^ n) : (f.significand v * 2 ^ f.place v).log2 < n + f.place v := by
    rw [Nat.log2_lt nonzero, Nat.pow_add]
    exact Nat.mul_lt_mul_of_pos_right hn pos
  by_cases sub : f.exp v = 0
  · have small : f.significand v < 2 ^ (f.p - 1) := by
      rw [significand, if_pos sub]
      exact frac_lt
    have place : f.place v = 1076 - f.bias - f.p := by
      unfold Fmt.place
      omega
    have := log _ small
    omega
  · have small : f.significand v < 2 ^ f.p := by
      have := significand_lt (f := f) (v := v)
      rwa [← Nat.pow_succ', show (f.p - 1).succ = f.p by omega] at this
    have large : f.p - 1 + f.place v ≤ (f.significand v * 2 ^ f.place v).log2 := by
      rw [Nat.le_log2 nonzero, Nat.pow_add]
      refine Nat.mul_le_mul_right _ ?_
      rw [significand, if_neg sub]
      omega
    have := log _ small
    have low : 1076 - f.bias - f.p ≤ f.place v := by
      unfold Fmt.place
      omega
    omega

/-- Exponent and significand together are the bits below the sign. -/
theorem place_significand : (f.place v - (1076 - f.bias - f.p)) * 2 ^ (f.p - 1) + f.significand v
    = f.exp v * 2 ^ (f.p - 1) + f.frac v := by
  have place : f.place v - (1076 - f.bias - f.p) = max (f.exp v) 1 - 1 := by
    unfold Fmt.place
    omega
  rw [place, significand]
  split
  next sub => simp [sub]
  next normal =>
    obtain ⟨e, he⟩ := Nat.exists_eq_succ_of_ne_zero normal
    rw [he, Nat.succ_eq_add_one, max_eq_left (by omega), Nat.add_sub_cancel, Nat.add_mul]
    omega

/-- The bits below the sign of a finite number are below those of infinity. -/
theorem finite_lt_inf (h : f.exp v ≠ 2 ^ (f.w - f.p) - 1) :
    f.exp v * 2 ^ (f.p - 1) + f.frac v < (2 ^ (f.w - f.p) - 1) * 2 ^ (f.p - 1) := by
  have less : f.exp v + 1 ≤ 2 ^ (f.w - f.p) - 1 := by
    have := exp_lt (f := f) (v := v)
    omega
  calc f.exp v * 2 ^ (f.p - 1) + f.frac v < f.exp v * 2 ^ (f.p - 1) + 2 ^ (f.p - 1) := Nat.add_lt_add_left frac_lt _
    _ = (f.exp v + 1) * 2 ^ (f.p - 1) := by rw [Nat.add_mul, Nat.one_mul]
    _ ≤ _ := Nat.mul_le_mul_right _ less

theorem significand_eq_zero (h : f.significand v = 0) : f.exp v = 0 ∧ f.frac v = 0 := by
  have := Nat.two_pow_pos (f.p - 1)
  unfold significand at h
  split at h <;> omega

/-- A finite number rounds to its own bits. -/
theorem round_decode_finite (fits : f.Fits) (hv : v < 2 ^ f.w) (h : f.exp v ≠ 2 ^ (f.w - f.p) - 1) : f.round (f.decode v) = v := by
  have whole := bits_eq fits hv
  rw [decode_finite fits h, round]
  simp only [spNan, spPos, spNeg, show (0 : Nat) ≠ 3 by decide, show (0 : Nat) ≠ 1 by decide, show (0 : Nat) ≠ 2 by decide, if_false]
  by_cases zero : f.significand v = 0
  · obtain ⟨e, m⟩ := significand_eq_zero zero
    rw [e, m] at whole
    refine Eq.trans ?_ whole.symm
    simp only [zero, Nat.zero_mul, Nat.cast_zero, neg_zero, ite_self, if_true, bne_self_eq_false, Bool.false_or]
    cases f.neg v <;> rfl
  · have pos : 0 < f.significand v * 2 ^ f.place v := Nat.mul_pos (Nat.pos_of_ne_zero zero) (Nat.two_pow_pos _)
    have abs : (if f.neg v then -((f.significand v * 2 ^ f.place v : Nat) : Int) else (f.significand v * 2 ^ f.place v : Nat)).natAbs
        = f.significand v * 2 ^ f.place v := by
      split
      · rw [Int.natAbs_neg, Int.natAbs_natCast]
      · rw [Int.natAbs_natCast]
    have sign : ((if f.neg v then -((f.significand v * 2 ^ f.place v : Nat) : Int) else (f.significand v * 2 ^ f.place v : Nat)) < 0)
        ↔ f.neg v = true := by
      split
      next n => exact iff_of_true (by omega) n
      next n => exact iff_of_false (by omega) n
    rw [if_neg (by rw [← Int.natAbs_eq_zero, abs]; omega), abs, place_kept fits zero, roundEven_mul_two_pow, place_significand,
      min_eq_left (finite_lt_inf h).le, if_congr sign rfl rfl, ← Nat.add_assoc, ← whole]

/-- The bound of what a finite number adds to a sum. -/
theorem finite_bound (fits : f.Fits) (h : f.exp v ≠ 2 ^ (f.w - f.p) - 1) : f.significand v * 2 ^ f.place v < 2 ^ 2098 := by
  have large := fits.largest
  have two := fits.precision
  have e := exp_lt (f := f) (v := v)
  have wide : 2 ^ 2 ≤ 2 ^ (f.w - f.p) := Nat.pow_le_pow_right (by decide) (by have := fits.exponent; omega)
  have place : f.place v + f.p ≤ 2098 := by
    unfold Fmt.place
    generalize 2 ^ (f.w - f.p) = top at *
    omega
  calc f.significand v * 2 ^ f.place v < 2 ^ f.p * 2 ^ f.place v := by
        refine Nat.mul_lt_mul_of_pos_right ?_ (Nat.two_pow_pos _)
        have := significand_lt (f := f) (v := v)
        rwa [← Nat.pow_succ', show (f.p - 1).succ = f.p by omega] at this
    _ = 2 ^ (f.place v + f.p) := by rw [← Nat.pow_add, Nat.add_comm]
    _ ≤ 2 ^ 2098 := Nat.pow_le_pow_right (by decide) place

/-! ### Infinities and NaNs -/

theorem isNan_top (h : f.exp v = 2 ^ (f.w - f.p) - 1) : f.isNan v = decide (f.frac v ≠ 0) := by
  rw [isNan, decode_special h]
  by_cases fraction : f.frac v = 0
  · cases sign : f.neg v
    all_goals simp [fraction, spNan, spNeg, spPos]
  · simp [fraction]

/-- What a number with the highest exponent enters a sum as, and what it rounds to. -/
theorem decode_top (fits : f.Fits) (hv : v < 2 ^ f.w) (h : f.exp v = 2 ^ (f.w - f.p) - 1) :
    (f.decode v).acc = 0 ∧ (f.frac v = 0 → f.round (f.decode v) = v) ∧ (f.frac v ≠ 0 → f.round (f.decode v) = f.nan) := by
  have whole := bits_eq fits hv
  rw [decode_special h]
  refine ⟨rfl, fun fraction => ?_, fun fraction => ?_⟩
  · rw [h, fraction, Nat.add_zero] at whole
    refine Eq.trans ?_ whole.symm
    rw [if_neg (not_not.2 fraction)]
    cases f.neg v <;> rfl
  · rw [if_pos fraction]
    rfl

end Fmt

/-- Settles O48: a finite number by `round_decode_finite`, infinities and NaNs by `decode_special`. -/
theorem formatsRoundTrip : Obligations.FormatsRoundTrip := by
  unfold Obligations.FormatsRoundTrip
  intro dtype f hf v hv
  have fits := fmtOf_fits hf
  by_cases h : f.exp v = 2 ^ (f.w - f.p) - 1
  · obtain ⟨acc, inf, nan⟩ := Fmt.decode_top fits hv h
    refine ⟨fun number => inf ?_, fun number => nan ?_, by rw [acc]; exact Nat.two_pow_pos _, fun _ => acc⟩
    · by_contra fraction
      rw [Fmt.isNan_top h, decide_eq_true fraction] at number
      cases number
    · rw [Fmt.isNan_top h] at number
      exact of_decide_eq_true number
  · have bound := Fmt.finite_bound fits h
    have own := Fmt.round_decode_finite fits hv h
    have number : f.isNan v = false := by rw [Fmt.isNan, Fmt.decode_finite fits h]; rfl
    refine ⟨fun _ => own, fun nan => ?_, ?_, ?_⟩
    · rw [number] at nan; cases nan
    · rw [Fmt.decode_finite fits h]
      dsimp only
      split
      · rw [Int.natAbs_neg, Int.natAbs_natCast]; exact bound
      · rw [Int.natAbs_natCast]; exact bound
    · rw [Fmt.decode_finite fits h]
      exact fun special => absurd rfl special

end Sys2Proof.Machine

/-! PROOFS. Where forager addresses lie (R318, R354), the aligned units of an access (R367), and the adaptive choice of an output
(R196 to R204). -/

namespace Sys2Proof.Machine

/-! ### The pieces of an access (R367) -/

/-- The units of a range: each lies in one aligned 8-byte unit at its place of the range, and together they are the range. -/
theorem cutUnits_spec (f a n off : Nat) (fuel : n < f) :
    (∀ u ∈ cutUnits f a n off, 0 < u.2.1 ∧ u.1 / 8 = (u.1 + u.2.1 - 1) / 8 ∧ u.1 + off = a + u.2.2 ∧ off ≤ u.2.2 ∧ u.2.2 + u.2.1 ≤ off + n)
    ∧ (∀ i < n, ∃ u ∈ cutUnits f a n off, u.2.2 ≤ off + i ∧ off + i < u.2.2 + u.2.1) ∧ ((cutUnits f a n off).map (·.2.1)).sum = n := by
  induction f generalizing a n off with
  | zero => omega
  | succ f ih =>
    rw [cutUnits]
    split
    next empty => exact ⟨by simp, fun i hi => by omega, by simp [empty]⟩
    next some =>
      obtain ⟨m, hm⟩ : ∃ m, m = min n (8 - a % 8) := ⟨_, rfl⟩
      rw [← hm]
      obtain ⟨inUnit, covers, total⟩ := ih (a + m) (n - m) (off + m) (by omega)
      refine ⟨fun u hu => ?_, fun i hi => ?_, ?_⟩
      · obtain rfl | hu := List.mem_cons.1 hu
        · dsimp only
          exact ⟨by omega, by omega, by omega, le_rfl, by omega⟩
        · obtain ⟨pos, unit, place, low, high⟩ := inUnit u hu
          exact ⟨pos, unit, by omega, by omega, by omega⟩
      · by_cases first : i < m
        · exact ⟨(a, m, off), List.mem_cons_self, by dsimp only; omega, by dsimp only; omega⟩
        · obtain ⟨u, hu, low, high⟩ := covers (i - m) (by omega)
          exact ⟨u, List.mem_cons_of_mem _ hu, by omega, by omega⟩
      · simp only [List.map_cons, List.sum_cons, total]
        omega

/-- A range within one aligned unit is one piece. -/
theorem cutUnits_one {f a n : Nat} (off : Nat) (fuel : 1 < f) (pos : 0 < n) (one : a % 8 + n ≤ 8) : cutUnits f a n off = [(a, n, off)] := by
  obtain ⟨f, rfl⟩ := Nat.exists_eq_add_of_le' fuel
  have whole : min n (8 - a % 8) = n := by omega
  simp [cutUnits, pos.ne', whole]

/-! ### Where an address lies (R318, R354) -/

theorem bits_space (a : Word) : bits a 60 4 = a.toNat / 2 ^ 60 := by
  have := a.isLt
  rw [bits, Nat.shiftRight_eq_div_pow, Nat.mod_eq_of_lt]
  omega

theorem bits_offset (a : Word) : bits a 0 60 = a.toNat % 2 ^ 60 := rfl

/-- The pages of a range start in it. -/
theorem mem_cutPages (f a n : Nat) : ∀ q ∈ cutPages f a n, a ≤ q.1 ∧ q.1 < a + n := by
  induction f generalizing a n with
  | zero => simp [cutPages]
  | succ f ih =>
    intro q hq
    rw [cutPages] at hq
    split at hq
    · cases hq
    · obtain rfl | hq := List.mem_cons.1 hq
      · dsimp only
        omega
      · have := ih _ _ q hq
        omega

/-- A range of the store without attributes is a spot of one piece. -/
theorem storeSpot_plain (s : State) (a n : Nat) (h : ∀ b, a ≤ b → b < a + n → s.rat 0 b = none) :
    s.storeSpot a n none = { target := .store, pieces := [(a, n)] } := by
  have plain : ∀ q ∈ cutPages (n + 1) a n, s.attrs 0 q.1 false = (false, false) := fun q hq => by
    obtain ⟨low, high⟩ := mem_cutPages _ _ _ q hq
    rw [State.attrs, h q.1 low high]
  have cut : ((cutPages (n + 1) a n).map fun q => (q, s.attrs 0 q.1 false)) = (cutPages (n + 1) a n).map fun q => (q, (false, false)) :=
    List.map_congr_left fun q hq => by rw [plain q hq]
  have first : (((cutPages (n + 1) a n).map fun q => (q, (false, false))).map (·.2)).headD (false, false) = (false, false) := by
    cases cutPages (n + 1) a n <;> rfl
  rw [State.storeSpot, State.marked]
  simp only [List.zipIdx_cons, List.zipIdx_nil, List.map_cons, List.map_nil, List.flatten_cons, List.flatten_nil, List.append_nil,
    List.getD_nil, cut, first]
  rw [if_pos]
  simp [List.all_map]

/-- An address that `locate` finds on the device resolves to its spot. -/
theorem resolve_spot {s : State} {t n kind : Nat} {a : Word} {x : Spot} (h : s.locate t a n kind = (s, .spot x)) :
    s.resolve t a n kind = (s, .ok x) := by
  rw [State.resolve, h]

theorem resolve_trap {s : State} {t n kind c d : Nat} {a : Word} (h : s.locate t a n kind = (s, .trap c d)) :
    s.resolve t a n kind = (s, .trap c d) := by
  rw [State.resolve, h]

/-- The units of a spot of one range. -/
theorem units_one (a n : Nat) : ({ target := .store, pieces := [(a, n)] } : Spot).units = rangeUnits a n 0 (false, false) := rfl

/-- Settles O8: each space by its branch of `State.locate`, the pieces by `cutUnits_spec`. -/
theorem addressSpacesAndPieces : Obligations.AddressSpacesAndPieces := by
  unfold Obligations.AddressSpacesAndPieces
  refine ⟨fun s t a n kind => ?spaces, fun a n _ => ?pieces⟩
  case spaces =>
    have space := bits_space a
    have offset := bits_offset a
    dsimp only
    generalize a.toNat / 2 ^ 60 = sp at *
    generalize a.toNat % 2 ^ 60 = off at *
    have located : s.locate t a n kind = s.locate t a n kind := rfl
    conv_rhs at located => unfold State.locate
    simp only [space, offset] at located
    refine ⟨?_, ?_, ?_, ?_, ?_, ?_, ?_, ?_, ?_, ?_, ?_⟩
    · rintro rfl firmware fits readable
      refine resolve_spot (located.trans ?_)
      rw [if_neg (by omega), firmware]
      exact if_pos (And.intro fits readable)
    · rintro rfl firmware outside
      refine resolve_trap (located.trans ?_)
      rw [if_neg (by omega), firmware]
      have unfit : ¬(off + n ≤ 2 ^ 21 ∧ (kind = accRead ∨ 0x100000 ≤ off)) := by omega
      exact if_neg unfit
    · rintro rfl handler fits
      refine resolve_spot (located.trans ?_)
      simp [handler, fits, frameOf]
    · rintro rfl handler outside
      refine resolve_trap (located.trans ?_)
      rw [if_neg (by omega), handler]
      exact if_neg (Nat.not_le.2 outside)
    · rintro rfl firmware fits plain
      refine resolve_spot (located.trans ?_)
      simp [firmware, storeSpot_plain s off n plain]
      omega
    · rintro rfl firmware fits whole
      refine resolve_spot (located.trans ?_)
      simp [firmware, whole]
      omega
    · rintro rfl reads fits
      refine resolve_spot (located.trans ?_)
      simp [reads, fits]
    · rintro rfl writes
      refine resolve_trap (located.trans ?_)
      simp [writes, Cause.access]
    · intro low high
      refine resolve_trap (located.trans ?_)
      obtain rfl | rfl | rfl : sp = 5 ∨ sp = 6 ∨ sp = 7 := by omega
      all_goals rfl
    · rintro (rfl | rfl | rfl) handler
      all_goals
        refine resolve_trap (located.trans ?_)
        simp [handler, Cause.access]
    · intro high handler
      refine resolve_trap (located.trans ?_)
      rw [if_pos (by omega), if_pos ⟨by simp [handler], high⟩]
      rfl
  case pieces =>
    obtain ⟨inUnit, covers, total⟩ := cutUnits_spec (n + 1) a n 0 (Nat.lt_succ_self n)
    rw [units_one, rangeUnits]
    refine ⟨?_, ?_, ?_, ?_⟩
    · intro u hu
      obtain ⟨v, hv, rfl⟩ := List.mem_map.1 hu
      obtain ⟨pos, unit, place, -, high⟩ := inUnit v hv
      dsimp only
      exact ⟨pos, unit, by omega, by omega⟩
    · intro i hi
      obtain ⟨v, hv, low, high⟩ := covers i hi
      exact ⟨_, List.mem_map_of_mem hv, by dsimp only; omega, by dsimp only; omega⟩
    · rw [List.map_map]
      exact total
    · intro one pos
      rw [cutUnits_one 0 (by omega) pos one]
      rfl

end Sys2Proof.Machine

/-! PROOFS. The adaptive choice of an output (R196 to R204). -/

namespace Sys2Proof.Machine

/-- The better of two scored candidates: the lower cost, then the port that comes first from the pointer on (R203). -/
def betterOf (ptr : Nat) (a : Option (Nat × Cand)) (x : Nat × Cand) : Option (Nat × Cand) :=
  match a with
  | none => some x
  | some y =>
    let kx := (x.1, (x.2.out + 72 - ptr % 72) % 72)
    let ky := (y.1, (y.2.out + 72 - ptr % 72) % 72)
    if kx.1 < ky.1 ∨ (kx.1 = ky.1 ∧ kx.2 < ky.2) then some x else some y

theorem bestCand_eq (ptr : Nat) (l : List (Nat × Cand)) : bestCand ptr l = (l.foldl (betterOf ptr) none).map (·.2) := rfl

theorem foldl_betterOf (ptr : Nat) (l : List (Nat × Cand)) (y : Nat × Cand) :
    ∃ z ∈ y :: l, l.foldl (betterOf ptr) (some y) = some z ∧ ∀ x ∈ y :: l, z.1 ≤ x.1 := by
  induction l generalizing y with
  | nil => exact ⟨y, List.mem_cons_self, rfl, by simp⟩
  | cons x l ih =>
    rw [List.foldl_cons, betterOf]
    split
    next better =>
      obtain ⟨z, mem, fold, least⟩ := ih x
      refine ⟨z, List.mem_cons_of_mem _ mem, fold, fun w hw => ?_⟩
      obtain rfl | hw := List.mem_cons.1 hw
      · have := least x List.mem_cons_self
        dsimp only at better
        omega
      · exact least w hw
    next worse =>
      obtain ⟨z, mem, fold, least⟩ := ih y
      refine ⟨z, List.cons_subset_cons _ (List.subset_cons_self x l) mem, fold, fun w hw => ?_⟩
      obtain rfl | hw := List.mem_cons.1 hw
      · exact least w List.mem_cons_self
      obtain rfl | hw := List.mem_cons.1 hw
      · have := least y List.mem_cons_self
        dsimp only at worse
        omega
      · exact least w (List.mem_cons_of_mem _ hw)

/-- The best candidate is one of those scored, and none costs less. -/
theorem bestCand_least {ptr : Nat} {l : List Cand} {f : Cand → Nat} {c : Cand} (h : bestCand ptr (l.map fun x => (f x, x)) = some c) :
    c ∈ l ∧ ∀ d ∈ l, f c ≤ f d := by
  cases l with
  | nil => cases h
  | cons y l =>
    obtain ⟨z, mem, fold, least⟩ := foldl_betterOf ptr (l.map fun x => (f x, x)) (f y, y)
    have best : z.2 = c := by
      rw [bestCand_eq, List.map_cons, List.foldl_cons, betterOf, fold] at h
      exact Option.some.inj h
    rw [← List.map_cons (f := fun x => (f x, x))] at mem least
    obtain ⟨x, hx, rfl⟩ := List.mem_map.1 mem
    subst best
    exact ⟨hx, fun d hd => least _ (List.mem_map_of_mem hd)⟩

/-- A packet that has descended only descends (R196). -/
theorem hops_descend {s : State} {n : NetHeader} {c d v : Nat} {det : Bool} (phase : n.phase = true) (h : (d, v, det) ∈ s.hops n c) :
    v < coordOf c d := by
  simp only [State.hops, phase, if_true, List.nil_append, List.mem_append] at h
  obtain falls | detours := h
  · split at falls
    · obtain ⟨e, he, eq⟩ := List.mem_map.1 falls
      simp only [Prod.mk.injEq] at eq
      obtain ⟨rfl, rfl, -⟩ := eq
      exact of_decide_eq_true (List.mem_filter.1 he).2
    · cases falls
  · split at detours
    · split at detours
      · obtain ⟨e, -, he⟩ := List.mem_flatMap.1 detours
        obtain ⟨w, hw, eq⟩ := List.mem_map.1 he
        simp only [Prod.mk.injEq] at eq
        obtain ⟨rfl, rfl, -⟩ := eq
        exact List.mem_range.1 (List.mem_filter.1 hw).1
      · cases detours
    · cases detours

/-- Without detours left a hop goes to the destination's coordinate (R198). -/
theorem hops_straight {s : State} {n : NetHeader} {c d v : Nat} {det : Bool} (spent : n.detoursLeft = 0) (h : (d, v, det) ∈ s.hops n c) :
    det = false ∧ v = coordOf n.destCoord d := by
  have straight : ∀ l : List Nat, (d, v, det) ∈ l.map (fun d => (d, coordOf n.destCoord d, false)) →
      det = false ∧ v = coordOf n.destCoord d := fun l mem => by
    obtain ⟨e, -, eq⟩ := List.mem_map.1 mem
    simp only [Prod.mk.injEq] at eq
    obtain ⟨rfl, rfl, rfl⟩ := eq
    exact ⟨rfl, rfl⟩
  simp only [State.hops, spent, lt_irrefl, if_false, List.append_nil, List.mem_append] at h
  obtain rises | falls := h
  · split at rises
    · cases rises
    · exact straight _ rises
  · split at falls
    · exact straight _ falls
    · cases falls

/-- A candidate makes a permitted hop, on a port in use or its stand-in (R202). -/
theorem mem_candidates {s : State} {n : NetHeader} {row : Nat} {c : Cand} (h : c ∈ s.candidates n row) :
    (c.dim, c.goal, c.detour) ∈ s.hops n s.coord ∧ s.permits 1 row c.col = true
      ∧ (s.usable c.out = true ∨ s.standIn c.col = some c.out) := by
  obtain ⟨⟨d, v, det⟩, hop, mem⟩ := List.mem_flatMap.1 h
  dsimp only at mem
  by_cases back : (if row < 72 then (s.bundleOf 1 row).map fun b => (b.1, b.2.1) else none) = some (d, v)
  · rw [if_pos back] at mem
    cases mem
  · rw [if_neg back] at mem
    obtain ⟨p, -, made⟩ := List.mem_filterMap.1 mem
    split at made
    next o live =>
      split at made
      next permitted =>
        obtain rfl := Option.some.inj made
        refine ⟨hop, permitted, ?_⟩
        rw [State.live] at live
        split at live
        next usable =>
          obtain rfl := Option.some.inj live
          exact .inl usable
        next => exact .inr live
      next => cases made
    next => cases made

/-- The members of a list, or of its preferred part where the preference is asked for and has a member. -/
theorem mem_preferred {α : Type} (l : List α) (p : α → Bool) (asked : Bool) (d : α) :
    d ∈ (if asked ∧ !(l.filter p).isEmpty then l.filter p else l) ↔ d ∈ l ∧ (asked = true → (∃ e ∈ l, p e = true) → p d = true) := by
  split
  next prefers =>
    obtain ⟨e, he⟩ : ∃ e, e ∈ l.filter p := List.exists_mem_of_ne_nil _ (by simpa using prefers.2)
    rw [List.mem_filter]
    exact and_congr_right fun _ => ⟨fun good _ _ => good, fun good => good prefers.1 ⟨e, List.mem_filter.1 he⟩⟩
  next takes =>
    refine ⟨fun mem => ⟨mem, fun ask ⟨e, he, good⟩ => ?_⟩, And.left⟩
    refine absurd ⟨ask, ?_⟩ takes
    simpa using ⟨e, he, good⟩

/-- Settles O37: the choice is the least of the candidates kept (`bestCand_least`), and a candidate makes a permitted hop. -/
theorem routingChoosesTheCheapest : Obligations.RoutingChoosesTheCheapest := by
  unfold Obligations.RoutingChoosesTheCheapest
  intro s n row input c chosen leads kept
  have keeps : ∀ d, kept d ↔ _ := fun d => by
    simpa only [kept, leads, bne_iff_ne] using (mem_preferred (s.candidates n row) (fun x => s.onward n x != some 15) _ d).symm
  obtain ⟨mem, least⟩ := bestCand_least chosen
  have choice := (keeps c).2 mem
  obtain ⟨hop, permitted, live⟩ := mem_candidates choice.1
  exact ⟨choice, permitted, live, fun d hd => least d ((keeps d).1 hd), fun phase => hops_descend phase hop,
    fun spent => hops_straight spent hop⟩

end Sys2Proof.Machine

/-! PROOFS. The doorbells (R42, R47, R48, R57, R58, R493). -/

namespace Sys2Proof.Machine

/-! ### The judgement of a producer (R48) -/

theorem judgeProducer_ignored {prod read size v : Nat} (h : (v + 2 ^ 32 - prod % 2 ^ 32) % 2 ^ 32 = 0 ∨ 2 ^ 31 ≤ (v + 2 ^ 32 - prod % 2 ^ 32) % 2 ^ 32) :
    judgeProducer prod read size v = .ignored := if_pos h

/-- The distance of a producer that stands `k` ahead. -/
theorem distance_of_ahead {prod k : Nat} (h : k < 2 ^ 32) : ((prod + k) % 2 ^ 32 + 2 ^ 32 - prod % 2 ^ 32) % 2 ^ 32 = k := by omega

theorem judgeProducer_ahead {prod read size k : Nat} (pos : 0 < k) (h : k < 2 ^ 31) :
    judgeProducer prod read size ((prod + k) % 2 ^ 32) = if k ≤ size ∧ prod + k - read ≤ size then .visible (prod + k) else .overrun := by
  rw [judgeProducer, distance_of_ahead (by omega)]
  exact if_neg (by omega)

theorem judgeProducer_visible {prod read size v p : Nat} (hv : v < 2 ^ 32) (h : judgeProducer prod read size v = .visible p) :
    prod < p ∧ p % 2 ^ 32 = v ∧ p - read ≤ size := by
  obtain ⟨d, hd⟩ : ∃ d, d = (v + 2 ^ 32 - prod % 2 ^ 32) % 2 ^ 32 := ⟨_, rfl⟩
  rw [judgeProducer, ← hd] at h
  split at h
  next => cases h
  next forward =>
    split at h
    next fits =>
      obtain rfl := Ring.visible.inj h
      omega
    next => cases h

/-! ### The doorbell at an offset (R47) -/

theorem idxOk_iff (fn i : Nat) : idxOk fn i = true ↔ i < (bar2Layout fn).2.1 := by
  rw [idxOk, bar2Layout, decide_eq_true_iff]
  split <;> rfl

theorem bar2Layout_cases (fn : Nat) :
    fn % 256 = 0 ∧ bar2Layout fn = (0x2000000, 2 ^ 21, 0x3800000) ∨ fn % 256 ≠ 0 ∧ bar2Layout fn = (0x80000, 2 ^ 15, 0xFF000) := by
  by_cases pf : fn % 256 = 0
  · exact .inl ⟨pf, if_pos pf⟩
  · exact .inr ⟨pf, if_neg pf⟩

theorem doorbellAt_eq {fn c0 n e0 : Nat} (off : Nat) (layout : bar2Layout fn = (c0, n, e0)) : doorbellAt fn off =
    if off % 8 ≠ 0 then none
    else if off < c0 then some (if off % 16 = 0 then .send (off / 16) else .recv (off / 16))
    else if off < c0 + 8 * n then some (.cq ((off - c0) / 8)) else if off = e0 then some .eq else none := by
  rw [doorbellAt, layout]

/-- The write at a doorbell's own offset reaches it. -/
theorem doorbellAt_offset {fn i : Nat} (h : idxOk fn i = true) :
    doorbellAt fn (16 * i) = some (.send i) ∧ doorbellAt fn (16 * i + 8) = some (.recv i)
    ∧ doorbellAt fn ((bar2Layout fn).1 + 8 * i) = some (.cq i) ∧ doorbellAt fn (bar2Layout fn).2.2 = some .eq := by
  rw [idxOk_iff] at h
  obtain ⟨-, layout⟩ | ⟨-, layout⟩ := bar2Layout_cases fn
  all_goals
    rw [layout] at h
    dsimp only at h
    simp only [doorbellAt_eq _ layout, layout]
    refine ⟨?send, ?recv, ?cq, rfl⟩
    case send => rw [if_neg (by omega), if_pos (by omega), if_pos (by omega), Nat.mul_div_cancel_left i (by decide)]
    case recv => rw [if_neg (by omega), if_pos (by omega), if_neg (by omega), show (16 * i + 8) / 16 = i by omega]
    case cq => rw [if_neg (by omega), if_neg (by omega), if_pos (by omega), Nat.add_sub_cancel_left, Nat.mul_div_cancel_left i (by decide)]

theorem exec_sendDoorbell_bell {s : State} {fn i : Nat} (size : Nat) (v : Word) (pins : s.pins) (h : idxOk fn i = true) :
    exec (.sendDoorbell fn i size v) s = s.sendBell fn i size v := by
  rw [exec_sendDoorbell, execSendDoorbell, Doorbell.offset, s.atPins_runs pins.1 pins.2, State.bar2Write, (doorbellAt_offset h).1]

theorem exec_recvDoorbell_bell {s : State} {fn i : Nat} (size : Nat) (v : Word) (pins : s.pins) (h : idxOk fn i = true) :
    exec (.recvDoorbell fn i size v) s = s.recvBell fn i size v := by
  rw [exec_recvDoorbell, execRecvDoorbell, Doorbell.offset, s.atPins_runs pins.1 pins.2, State.bar2Write, (doorbellAt_offset h).2.1]

theorem exec_cqDoorbell_bell {s : State} {fn i : Nat} (size : Nat) (v : Word) (pins : s.pins) (h : idxOk fn i = true) :
    exec (.cqDoorbell fn i size v) s = s.cqBell fn i size v := by
  rw [exec_cqDoorbell, execCqDoorbell, Doorbell.offset, s.atPins_runs pins.1 pins.2, State.bar2Write, (doorbellAt_offset h).2.2.1]

theorem exec_eqDoorbell_bell {s : State} {fn : Nat} (size : Nat) (v : Word) (pins : s.pins) :
    exec (.eqDoorbell fn size v) s = s.eqBell fn size v := by
  have origin : idxOk fn 0 = true := by
    rw [idxOk_iff]
    obtain ⟨-, layout⟩ | ⟨-, layout⟩ := bar2Layout_cases fn <;> simp [layout]
  rw [exec_eqDoorbell, execEqDoorbell, Doorbell.offset, s.atPins_runs pins.1 pins.2, State.bar2Write, (doorbellAt_offset origin).2.2.2]

/-! ### What a doorbell does -/

theorem setQp_quiet (s : State) (n : Nat) (x : Qp) : (s.setQp n x).quiet = s.quiet := rfl

theorem bits_low (v : Word) : bits v 0 32 = v.toNat % 2 ^ 32 := by
  rw [bits, Nat.shiftRight_zero]

/-! The judgement stands as a function without a body while the branch on the queue pair is reduced: the kernel would else unfold it, and count
to 2^32. -/

/-- A doorbell that a queue pair's send ring takes. -/
theorem sendBell_known {s : State} {fn i size n : Nat} {v : Word} {x : Qp} (known : s.doorbellQp fn i size = some (n, x)) :
    s.sendBell fn i size v =
      match judgeProducer x.sqProd x.sqRead (2 ^ x.sqLog) (v.toNat % 2 ^ 32) with
      | .ignored => .next s
      | .visible p => .next (s.setQp n { x with sqProd := p })
      | .overrun => .next (settle (s.enterError n St.badDescriptor)) := by
  obtain ⟨judge, as⟩ : ∃ judge, judge = judgeProducer := ⟨_, rfl⟩
  rw [State.sendBell, known, bits_low, ← as]
  dsimp only
  cases judge x.sqProd x.sqRead (2 ^ x.sqLog) (v.toNat % 2 ^ 32) <;> rfl

/-- A doorbell that a queue pair's receive ring takes. -/
theorem recvBell_known {s : State} {fn i size n : Nat} {v : Word} {x : Qp} (known : s.doorbellQp fn i size = some (n, x)) :
    s.recvBell fn i size v = if x.rqLog = 0 then .next (s.doorbellIgnored fn)
      else match judgeProducer x.rqProd x.rqRead (2 ^ x.rqLog) (v.toNat % 2 ^ 32) with
      | .ignored => .next s
      | .visible p =>
        let u := s.setQp n { x with rqProd := p }
        .next (settle (if u.postingHeld then u.postedFullEvents else u))
      | .overrun => .next (settle (s.enterError n St.badDescriptor)) := by
  obtain ⟨judge, as⟩ : ∃ judge, judge = judgeProducer := ⟨_, rfl⟩
  rw [State.recvBell, known, bits_low, ← as]
  dsimp only
  cases judge x.rqProd x.rqRead (2 ^ x.rqLog) (v.toNat % 2 ^ 32) <;> rfl

/-- A doorbell that a completion queue takes. -/
theorem cqBell_taken {s : State} {fn i : Nat} {v : Word} {c : Cq} (known : mget (s.func fn).cqs i = some c) (major : (s.func fn).major ≠ 0) :
    s.cqBell fn i 8 v =
      let now := bit v 32 && ringUsed c.produced (v.toNat % 2 ^ 32) != 0
      let u := s.setFunc fn { s.func fn with
        cqs := mset (s.func fn).cqs i { c with consumed := v.toNat % 2 ^ 32, armed := (c.armed || bit v 32) && !now } }
      .next (if now then (u.msix fn c.vector).1 else u) := by
  simp only [State.cqBell, known]
  exact if_neg (by simpa using major)

/-- Settles O26: the judgement by the distance modulo 2^32, the offsets by the layout of BAR2, and the doorbells by their bell. -/
theorem doorbellsAreJudged : Obligations.DoorbellsAreJudged := by
  unfold Obligations.DoorbellsAreJudged
  refine ⟨fun prod read size v hv readFirst full small => ⟨?_, ?_, ?_, ?_, ?_⟩, fun fn i h => ?offsets, fun s fn i n size v x c e pins h => ?bells⟩
  · rintro rfl
    exact judgeProducer_ignored (by omega)
  · rintro k far wrap rfl
    exact judgeProducer_ignored (by omega)
  · exact fun p => judgeProducer_visible hv
  · rintro k pos fits rfl
    rw [judgeProducer_ahead pos (by omega), if_pos (by omega)]
  · rintro k beyond near rfl pos
    rw [judgeProducer_ahead pos near, if_neg (by omega)]
  case offsets =>
    obtain ⟨send, recv, cq, eq⟩ := doorbellAt_offset h
    refine ⟨send, recv, ?_, ?_⟩
    all_goals
      obtain ⟨pf, layout⟩ | ⟨vf, layout⟩ := bar2Layout_cases fn
      · simp only [layout] at cq eq
        simpa [pf] using by assumption
      · simp only [layout] at cq eq
        simpa [vf] using by assumption
  case bells =>
    dsimp only
    simp only [exec_sendDoorbell_bell _ _ pins h, exec_recvDoorbell_bell _ _ pins h, exec_cqDoorbell_bell _ _ pins h,
      exec_eqDoorbell_bell _ _ pins]
    refine ⟨fun known => ?known, fun unknown => ?unknown, fun known major => ⟨?_, ?_, ?_⟩, ?_, ?_, ?_⟩
    case unknown => exact ⟨by rw [State.sendBell, unknown]; rfl, by rw [State.recvBell, unknown]; rfl⟩
    case known =>
      rw [sendBell_known known, recvBell_known known]
      refine ⟨?_, ?_, ?_, ?_, ?_, ?_⟩
      · intro p send
        rw [send]
      · intro send
        rw [send]
      · intro send
        rw [send]
        rfl
      · intro p ring recv quiet free
        have held : (s.setQp n { x with rqProd := p }).postingHeld = false := by simpa using free
        rw [if_neg ring, recv]
        simp only [held]
        exact congrArg Host.Outcome.next (settle_quiet _ quiet)
      · intro ring recv
        rw [if_neg ring, recv]
        rfl
      · intro ring
        rw [if_pos ring]
        rfl
    · intro plain
      rw [cqBell_taken known major, bit, plain]
      simp
    · intro arms empty small
      have drained : ringUsed c.produced (v.toNat % 2 ^ 32) = 0 := by
        rw [ringUsed]
        omega
      rw [cqBell_taken known major, bit, arms, drained]
      simp
    · intro arms small waits
      have used : ringUsed c.produced (v.toNat % 2 ^ 32) ≠ 0 := by
        rw [ringUsed]
        omega
      rw [cqBell_taken known major, bit, arms, bne_iff_ne.2 used]
      simp
    · rintro (none | bad)
      · simp only [State.cqBell, none]
        rfl
      · rw [State.cqBell]
        split
        · rfl
        · rw [if_pos bad]
          rfl
    · intro some major
      simp only [State.eqBell, some, bits_low]
      rw [if_neg (by simpa using major)]
      rfl
    · rintro (none | bad)
      · simp only [State.eqBell, none]
        rfl
      · simp only [State.eqBell]
        split
        · rfl
        · rw [if_pos bad]
          rfl

end Sys2Proof.Machine

/-! PROOFS. The step. -/

namespace Sys2Proof.Machine

theorem step_command (c : Instr) (l : List Instr) (s : State) : step { s with pending := c :: l } = exec c { s with pending := l } := rfl

theorem step_idle {s : State} (h : s.pending = []) : step s = .next (tick s) := by
  rw [step, h]

/-- Settles O1: the two branches of `step`. -/
theorem stepRunsTheFrontCommand : Obligations.StepRunsTheFrontCommand :=
  ⟨step_command, fun _ => step_idle⟩

end Sys2Proof.Machine

/-! PROOFS. While the derived clocks stand still, every command outside the standby domain leaves the state as it is (R33): the gates of the
commands are shut. -/

namespace Sys2Proof.Machine

section
variable {s : State} (lost : s.ft.rootLost = true)
include lost

theorem clocked_held (o : Host.Outcome State Fault Refusal) : s.clocked o = .next s := if_pos lost

theorem atPins_held (o : Host.Outcome State Fault Refusal) : s.atPins o = .next s := if_pos (.inl lost)

/-! ### Instructions of a thread -/

variable (t : Nat) (i : Instr)

theorem instr_held (prep : BitVec 32 → State → State × Option (State → State)) : s.instr t i prep = .next s := if_pos (.inl lost)

theorem instr1_held (k : BitVec 32 → State → State) : s.instr1 t i k = .next s := instr_held lost t i _

theorem alu1_held (rd ra : GReg) (f : Word → Word) : s.alu1 t i rd ra f = .next s := instr1_held lost t i _

theorem alu2_held (rd ra rb : GReg) (f : Word → Word → Word) : s.alu2 t i rd ra rb f = .next s := instr1_held lost t i _

theorem branch_held (rb ra : GReg) (imm : BitVec 16) (c : Word → Word → Bool) : s.branch t i rb ra imm c = .next s := instr1_held lost t i _

theorem fence_held (kind : Nat) (rd : GReg) : s.fence t i kind rd = .next s := instr1_held lost t i _

theorem load_held (rd ra : GReg) (imm : BitVec 16) (n : Nat) (signed : Bool) : s.load t i rd ra imm n signed = .next s :=
  instr_held lost t i _

theorem storeI_held (rb ra : GReg) (imm : BitVec 16) (n : Nat) : s.storeI t i rb ra imm n = .next s := instr_held lost t i _

theorem pairI_held (a : Word) (n kind : Nat) (atomic : Bool) (good : State → Spot → Bool) (k : Spot → State → State) :
    s.pairI t i a n kind atomic good k = .next s := instr_held lost t i _

theorem atom_held (fn : Nat) (rd ra rb rc : GReg) (hi : BitVec 3) : s.atom t i fn rd ra rb rc hi = .next s := pairI_held lost t i _ _ _ _ _ _

theorem matchCall_held (rd ra : GReg) (f : Envelope → State → State × Word) : s.matchCall t i rd ra f = .next s := instr_held lost t i _

theorem lockCall_held (rd ra : GReg) (claim : Bool) : s.lockCall t i rd ra claim = .next s := instr_held lost t i _

theorem compatCall_held (rd ra : GReg) (claim : Bool) : s.compatCall t i rd ra claim = .next s := by
  rw [State.compatCall, instr_held lost]

/-! ### Register accesses -/

theorem reaches_held (req : Requester) (off : Nat) : s.reaches req off = false := by
  simp [State.reaches, lost]

theorem regWrite_held (req : Requester) (off size : Nat) (v : Word) (m : Option Measurement) : s.regWrite req off size v m = s := by
  simp [State.regWrite, reaches_held lost]

theorem regRead_held (req : Requester) (off size : Nat) : s.regRead req off size = (s, none) := by
  simp [State.regRead, reaches_held lost]

theorem bar4Access_held (fn off size : Nat) (v : Option Word) : s.bar4Access fn off size v = s := by
  simp [State.bar4Access, State.bar4Reaches, lost]

theorem write8_held (req : Requester) (off : Nat) (v : Word) : s.write8 req off v = .next s :=
  congrArg Host.Outcome.next (regWrite_held lost req off 8 v none)

theorem writeArr_held (req : Requester) (f : Fld) (k n : Nat) (v : Word) : s.writeArr req f k n v = .next s := by
  rw [State.writeArr, write8_held lost]
  exact ite_self _

end

/-- The commands that the lost root clock holds: each behind its gate. -/
theorem exec_held {s : State} (lost : s.ft.rootLost = true) (unlocked : s.on Reg.GLB_CLK_STATUS_ROOT_LOCK = false) {i : Instr}
    (outside : standbyCommand i = false) : exec i s = .next s := by
  cases i with
  | rootRelock | refclkBStop | refclkBRestore | thermalTrip | powerOnReset | standbyPowerLoss | chipReset | chipResetNRelease
  | railUndervoltage | railRestored | jtagInstructionLoad | setOffset | read | write | hostNotifySent => cases outside
  | add | sub | and | or | xor | sll | srl | sra | slt | sltu | mul | mulhu | mulh | divu | remu | min | max | minu | maxu | crc8 =>
    simp only [exec_add, exec_sub, exec_and, exec_or, exec_xor, exec_sll, exec_srl, exec_sra, exec_slt, exec_sltu, exec_mul, exec_mulhu,
      exec_mulh, exec_divu, exec_remu, exec_min, exec_max, exec_minu, exec_maxu, exec_crc8]
    exact alu2_held lost _ _ _ _ _ _
  | clz | ctz | popc | bswap | bswap4 | addi | andi | ori | xori | slti | sltiu | shifti =>
    simp only [exec_clz, exec_ctz, exec_popc, exec_bswap, exec_bswap4, exec_addi, exec_andi, exec_ori, exec_xori, exec_slti, exec_sltiu,
      exec_shifti]
    exact alu1_held lost _ _ _ _ _
  | lih | jal | jalr | csrr | csrw | pwld | pwst | pnext | pdone | eidlk | evraise | sysNop | yieldSlot | trap | exit | xret | wait =>
    simp only [exec_lih, exec_jal, exec_jalr, exec_csrr, exec_csrw, exec_pwld, exec_pwst, exec_pnext, exec_pdone, exec_eidlk,
      exec_evraise, exec_sysNop, exec_yieldSlot, exec_trap, exec_exit, exec_xret, exec_wait]
    exact instr1_held lost _ _ _
  | lb | lbu | lh | lhu | lw | lwu | ld =>
    simp only [exec_lb, exec_lbu, exec_lh, exec_lhu, exec_lw, exec_lwu, exec_ld]
    exact load_held lost _ _ _ _ _ _ _
  | sb | sh | sw | sd =>
    simp only [exec_sb, exec_sh, exec_sw, exec_sd]
    exact storeI_held lost _ _ _ _ _ _
  | lr | sc =>
    simp only [exec_lr, exec_sc]
    exact pairI_held lost _ _ _ _ _ _ _ _
  | atomFadd | atomCswap | atomSwap | atomAnd | atomOr | atomXor | atomSmin | atomSmax =>
    simp only [exec_atomFadd, exec_atomCswap, exec_atomSwap, exec_atomAnd, exec_atomOr, exec_atomXor, exec_atomSmin, exec_atomSmax]
    exact atom_held lost _ _ _ _ _ _ _ _
  | beq | bne | blt | bge | bltu | bgeu =>
    simp only [exec_beq, exec_bne, exec_blt, exec_bge, exec_bltu, exec_bgeu]
    exact branch_held lost _ _ _ _ _ _
  | fenceFull | fenceAcquire | fenceRelease | fenceDevice =>
    simp only [exec_fenceFull, exec_fenceAcquire, exec_fenceRelease, exec_fenceDevice]
    exact fence_held lost _ _ _ _
  | psend | copy | place =>
    simp only [exec_psend, exec_copy, exec_place]
    exact instr_held lost _ _ _
  | arrive | post | cancel =>
    simp only [exec_arrive, exec_post, exec_cancel]
    exact matchCall_held lost _ _ _ _ _
  | lclaim | lrel =>
    simp only [exec_lclaim, exec_lrel]
    exact lockCall_held lost _ _ _ _ _
  | lclaimw | lrelw =>
    simp only [exec_lclaimw, exec_lrelw]
    exact compatCall_held lost _ _ _ _ _
  | quiesceDrained | quiesceTimeout | refbMonitorWindow | loopPacketGenerate | loopPacketCheck | commandTimeExpiry | createPd | destroyPd
  | createCq | destroyCq | createEq | createQp | modifyQpInit | modifyQpReady | modifyQpPaused | modifyQpError | modifyQpReset
  | destroyQp | queryQp | regMr | deregMr | allocWindow | freeWindow | regHandler | deregHandler | setShaper | setPolicer | invXltContext
  | invXltRange | xltInvalidationDrain | nop | put | get | atomicFadd | atomicCswap | atomicSwap | atomicAnd | atomicOr | atomicXor
  | atomicSmin | atomicSmax | sendTagged | bindWindow | unbindWindow | barrier | reduce | allreduce | broadcast | recvTagged
  | sendPacketBuild | peerStateFreed | contextWaitDeadline | seStateIdleExpiry | wtPut | getReq | getResp | atomicReq | atomicResp | ack
  | nak | eager | rts | fin | contextFetchDone | ackDelayExpiry | retransmitTimeout | stateMissHintExpiry | stateMissDeadline
  | resultHoldExpiry | placementIssued | storeAtomicDone | keyDrainComplete | keyDrainStall | postingResume | poolResizeApply
  | fullHintExpiry | receiverFullDeadline | rndvWaitExpiry | handlerStart | swarmUpPacket | swarmDownPacket | swarmAbortPacket
  | stagingCellFree | epochTimeout | routerArrival | routingDecision | egressSelect | wagglePeriod | timedSwap | throttleRelease
  | mgmtDirectedForward | claim | release | readReg | writeReg | assign | eidWrite | frondWrite | swap | echo | linkAckTimer
  | replayTimeout | resyncPeriod | trainTimer | lockLossTimeout | holdoffExpiry | failoverTimeout | trainingTimeout | reorderRelease
  | blockLockLoss | alignmentMarkerInsert | amLockLoss | checkerLock | checkerLockLoss | injectIntervalBurst | eyeMonitorUpdate
  | shaperRelease | timeSyncTimer | gateListActivate | gateEntryAdvance | arbiterDecision | backoffExpiry | threadWake | packetHandoff
  | crcVerdict | foragerAccessResponse | handlerBudgetExhausted | deviceStoreAck | deviceAccessTimeout | walkTimeout | prefetchWalk
  | reactionDispatch | replanTimer | vcoreStep | avsRetryTimer | thermalSample | blockResetComplete | dbgChallenge | dbgResponse
  | dbgLockoutExpiry | sampleHoldExpiry | hostLinkDown | stackFail | keeperCoreError | storeTempHigh | signalLoss =>
    simp only [exec_quiesceDrained, exec_quiesceTimeout, exec_refbMonitorWindow, exec_loopPacketGenerate, exec_loopPacketCheck,
      exec_commandTimeExpiry, exec_createPd, exec_destroyPd, exec_createCq, exec_destroyCq, exec_createEq, exec_createQp,
      exec_modifyQpInit, exec_modifyQpReady, exec_modifyQpPaused, exec_modifyQpError, exec_modifyQpReset, exec_destroyQp, exec_queryQp,
      exec_regMr, exec_deregMr, exec_allocWindow, exec_freeWindow, exec_regHandler, exec_deregHandler, exec_setShaper, exec_setPolicer,
      exec_invXltContext, exec_invXltRange, exec_xltInvalidationDrain, exec_nop, exec_put, exec_get, exec_atomicFadd, exec_atomicCswap,
      exec_atomicSwap, exec_atomicAnd, exec_atomicOr, exec_atomicXor, exec_atomicSmin, exec_atomicSmax, exec_sendTagged,
      exec_bindWindow, exec_unbindWindow, exec_barrier, exec_reduce, exec_allreduce, exec_broadcast, exec_recvTagged,
      exec_sendPacketBuild, exec_peerStateFreed, exec_contextWaitDeadline, exec_seStateIdleExpiry, exec_wtPut, exec_getReq,
      exec_getResp, exec_atomicReq, exec_atomicResp, exec_ack, exec_nak, exec_eager, exec_rts, exec_fin, exec_contextFetchDone,
      exec_ackDelayExpiry, exec_retransmitTimeout, exec_stateMissHintExpiry, exec_stateMissDeadline, exec_resultHoldExpiry,
      exec_placementIssued, exec_storeAtomicDone, exec_keyDrainComplete, exec_keyDrainStall, exec_postingResume, exec_poolResizeApply,
      exec_fullHintExpiry, exec_receiverFullDeadline, exec_rndvWaitExpiry, exec_handlerStart, exec_swarmUpPacket, exec_swarmDownPacket,
      exec_swarmAbortPacket, exec_stagingCellFree, exec_epochTimeout, exec_routerArrival, exec_routingDecision, exec_egressSelect,
      exec_wagglePeriod, exec_timedSwap, exec_throttleRelease, exec_mgmtDirectedForward, exec_claim, exec_release, exec_readReg,
      exec_writeReg, exec_assign, exec_eidWrite, exec_frondWrite, exec_swap, exec_echo, exec_linkAckTimer, exec_replayTimeout,
      exec_resyncPeriod, exec_trainTimer, exec_lockLossTimeout, exec_holdoffExpiry, exec_failoverTimeout, exec_trainingTimeout,
      exec_reorderRelease, exec_blockLockLoss, exec_alignmentMarkerInsert, exec_amLockLoss, exec_checkerLock, exec_checkerLockLoss,
      exec_injectIntervalBurst, exec_eyeMonitorUpdate, exec_shaperRelease, exec_timeSyncTimer, exec_gateListActivate,
      exec_gateEntryAdvance, exec_arbiterDecision, exec_backoffExpiry, exec_threadWake, exec_packetHandoff, exec_crcVerdict,
      exec_foragerAccessResponse, exec_handlerBudgetExhausted, exec_deviceStoreAck, exec_deviceAccessTimeout, exec_walkTimeout,
      exec_prefetchWalk, exec_reactionDispatch, exec_replanTimer, exec_vcoreStep, exec_avsRetryTimer, exec_thermalSample,
      exec_blockResetComplete, exec_dbgChallenge, exec_dbgResponse, exec_dbgLockoutExpiry, exec_sampleHoldExpiry, exec_hostLinkDown,
      exec_stackFail, exec_keeperCoreError, exec_storeTempHigh, exec_signalLoss]
    exact clocked_held lost _
  | cmdBlockReadDone | sendDoorbell | recvDoorbell | cqDoorbell | eqDoorbell | sendDescriptorRead | recvDescriptorRead
  | hostReadDataReturn | hostAtomicResponse | cxlMemRead | cxlMemWrite | linkPacketReceive | ackCredit | resyncMark | resyncReport
  | timeRequest | timeResponse | waggle | train | failoverRequest | failoverResponse | signalDetect | cdrLock | blockLockAcquired
  | alignmentMarkerReceive | amLockAcquired | timepulseEdge | walkReadResponse | adCasResponse | avsResponse | logRecordProgram
  | hostPortReset | perstRelease | functionLevelReset | flashCommandDone | hostLinkUp | msixVectorUnmask =>
    simp only [exec_cmdBlockReadDone, exec_sendDoorbell, exec_recvDoorbell, exec_cqDoorbell, exec_eqDoorbell, exec_sendDescriptorRead,
      exec_recvDescriptorRead, exec_hostReadDataReturn, exec_hostAtomicResponse, exec_cxlMemRead, exec_cxlMemWrite,
      exec_linkPacketReceive, exec_ackCredit, exec_resyncMark, exec_resyncReport, exec_timeRequest, exec_timeResponse, exec_waggle,
      exec_train, exec_failoverRequest, exec_failoverResponse, exec_signalDetect, exec_cdrLock, exec_blockLockAcquired,
      exec_alignmentMarkerReceive, exec_amLockAcquired, exec_timepulseEdge, exec_walkReadResponse, exec_adCasResponse, exec_avsResponse,
      exec_logRecordProgram, exec_hostPortReset, exec_perstRelease, exec_functionLevelReset, exec_flashCommandDone, exec_hostLinkUp,
      exec_msixVectorUnmask]
    exact atPins_held lost _
  | resRelease | loopEn | loopDisable | mirrorEn | mirrorDisable | frondCtrlWrite | frondCtrlRead | swarmEnable | routeSwap | swapCancel
  | rteMgmtRelease | pulseInClaim | debugOutClaim | lckForce | lckCompatForce | faultInject | aliveStart | fltLock | handlerPolicyLock
  | adminLock | proposalApprove | proposalDecline | calendarSet | warmChipReset | blockGo | svnCommit | flashErase | flashProgram
  | flashRead | flashVerify | clearAll | freeze | samplerEnable | sampleIndexCopy =>
    simp only [exec_resRelease, exec_loopEn, exec_loopDisable, exec_mirrorEn, exec_mirrorDisable, exec_frondCtrlWrite,
      exec_frondCtrlRead, exec_swarmEnable, exec_routeSwap, exec_swapCancel, exec_rteMgmtRelease, exec_pulseInClaim, exec_debugOutClaim,
      exec_lckForce, exec_lckCompatForce, exec_faultInject, exec_aliveStart, exec_fltLock, exec_handlerPolicyLock, exec_adminLock,
      exec_proposalApprove, exec_proposalDecline, exec_calendarSet, exec_warmChipReset, exec_blockGo, exec_svnCommit, exec_flashErase,
      exec_flashProgram, exec_flashRead, exec_flashVerify, exec_clearAll, exec_freeze, exec_samplerEnable, exec_sampleIndexCopy]
    exact write8_held lost _ _ _
  | quiesce | resume | linkEnable | linkDisable | exerciseEnable | portRetire | portUnretire | gateGo | gateEnable | gateDisable
  | lckWordRelease | compatRangeEnable | xltCtxWrite | evtStatusClear | counterSet =>
    simp only [exec_quiesce, exec_resume, exec_linkEnable, exec_linkDisable, exec_exerciseEnable, exec_portRetire, exec_portUnretire,
      exec_gateGo, exec_gateEnable, exec_gateDisable, exec_lckWordRelease, exec_compatRangeEnable, exec_xltCtxWrite,
      exec_evtStatusClear, exec_counterSet]
    exact writeArr_held lost _ _ _ _ _
  | registerWrite req =>
    rw [exec_registerWrite]
    cases req with
    | bar4 fn => exact congrArg Host.Outcome.next (bar4Access_held lost _ _ _ _)
    | host | keeper | smbus | thread => exact congrArg Host.Outcome.next (regWrite_held lost _ _ _ _ _)
  | registerReadClear req =>
    rw [exec_registerReadClear]
    cases req with
    | bar4 fn => exact congrArg Host.Outcome.next (bar4Access_held lost _ _ _ _)
    | host | keeper | smbus | thread =>
      simp only [execRegisterReadClear, regRead_held lost]
      rfl
  | registerAccessTimeout req off =>
    rw [exec_registerAccessTimeout]
    exact if_pos (by rw [reaches_held lost]; rfl)
  | rootUnlock =>
    rw [exec_rootUnlock]
    exact if_pos (.inr lost)
  | abiRequest => 
    rw [exec_abiRequest, execAbiRequest, write8_held lost]
    exact ite_self _
  | injectOne => 
    rw [exec_injectOne, execInjectOne, write8_held lost]
    exact ite_self _
  | lckWordClaim =>
    rw [exec_lckWordClaim, execLckWordClaim, writeArr_held lost]
    exact ite_self _
  | replan =>
    rw [exec_replan]
    exact congrArg Host.Outcome.next (regWrite_held lost _ _ _ _ _)
  | pohHour =>
    rw [exec_pohHour]
    exact if_pos (by rw [unlocked]; rfl)
  | aliveEdge =>
    rw [exec_aliveEdge]
    exact if_neg (by simp [lost])

end Sys2Proof.Machine

/-! PROOFS. What raising, counting and tallying leave unchanged, field by field; outputs; and a command that leads to a state. -/

namespace Sys2Proof.Machine

theorem sameBut_eq {s t : State} (h : s.sameBut t) : t = { s with regs := t.regs, ft := t.ft, lch := t.lch } := by
  obtain ⟨r, f, l, rfl, -⟩ := h
  rfl

section
variable (s : State) (k info : Nat) (inj sup : Bool)

@[simp] theorem raise_root : (s.raise k info inj sup).root = s.root := by rw [sameBut_eq (raise_sameBut s k info inj sup)]
@[simp] theorem raise_time : (s.raise k info inj sup).time = s.time := by rw [sameBut_eq (raise_sameBut s k info inj sup)]
@[simp] theorem raise_tp : (s.raise k info inj sup).tp = s.tp := by rw [sameBut_eq (raise_sameBut s k info inj sup)]
@[simp] theorem raise_km : (s.raise k info inj sup).km = s.km := by rw [sameBut_eq (raise_sameBut s k info inj sup)]
@[simp] theorem raise_mt : (s.raise k info inj sup).mt = s.mt := by rw [sameBut_eq (raise_sameBut s k info inj sup)]
@[simp] theorem raise_sw : (s.raise k info inj sup).sw = s.sw := by rw [sameBut_eq (raise_sameBut s k info inj sup)]
@[simp] theorem raise_rt : (s.raise k info inj sup).rt = s.rt := by rw [sameBut_eq (raise_sameBut s k info inj sup)]
@[simp] theorem raise_ports : (s.raise k info inj sup).ports = s.ports := by rw [sameBut_eq (raise_sameBut s k info inj sup)]
@[simp] theorem raise_sc : (s.raise k info inj sup).sc = s.sc := by rw [sameBut_eq (raise_sameBut s k info inj sup)]
@[simp] theorem raise_fg : (s.raise k info inj sup).fg = s.fg := by rw [sameBut_eq (raise_sameBut s k info inj sup)]
@[simp] theorem raise_xl : (s.raise k info inj sup).xl = s.xl := by rw [sameBut_eq (raise_sameBut s k info inj sup)]
@[simp] theorem raise_bt : (s.raise k info inj sup).bt = s.bt := by rw [sameBut_eq (raise_sameBut s k info inj sup)]
@[simp] theorem raise_ctr : (s.raise k info inj sup).ctr = s.ctr := by rw [sameBut_eq (raise_sameBut s k info inj sup)]
@[simp] theorem raise_spare : (s.raise k info inj sup).spare = s.spare := by rw [sameBut_eq (raise_sameBut s k info inj sup)]
@[simp] theorem raise_store : (s.raise k info inj sup).store = s.store := by rw [sameBut_eq (raise_sameBut s k info inj sup)]
@[simp] theorem raise_poison : (s.raise k info inj sup).poison = s.poison := by rw [sameBut_eq (raise_sameBut s k info inj sup)]
@[simp] theorem raise_soft : (s.raise k info inj sup).soft = s.soft := by rw [sameBut_eq (raise_sameBut s k info inj sup)]
@[simp] theorem raise_flash : (s.raise k info inj sup).flash = s.flash := by rw [sameBut_eq (raise_sameBut s k info inj sup)]
@[simp] theorem raise_out : (s.raise k info inj sup).out = s.out := by rw [sameBut_eq (raise_sameBut s k info inj sup)]
@[simp] theorem raise_free : (s.raise k info inj sup).free = s.free := by rw [sameBut_eq (raise_sameBut s k info inj sup)]
@[simp] theorem raise_pending : (s.raise k info inj sup).pending = s.pending := by rw [sameBut_eq (raise_sameBut s k info inj sup)]

end

section
variable (s : State) (ev unit n : Nat) (o : Owner)

@[simp] theorem count_root : (s.count ev unit n o).root = s.root := by rw [sameBut_eq (count_sameBut s ev unit n o)]
@[simp] theorem count_time : (s.count ev unit n o).time = s.time := by rw [sameBut_eq (count_sameBut s ev unit n o)]
@[simp] theorem count_km : (s.count ev unit n o).km = s.km := by rw [sameBut_eq (count_sameBut s ev unit n o)]
@[simp] theorem count_mt : (s.count ev unit n o).mt = s.mt := by rw [sameBut_eq (count_sameBut s ev unit n o)]
@[simp] theorem count_sw : (s.count ev unit n o).sw = s.sw := by rw [sameBut_eq (count_sameBut s ev unit n o)]
@[simp] theorem count_rt : (s.count ev unit n o).rt = s.rt := by rw [sameBut_eq (count_sameBut s ev unit n o)]
@[simp] theorem count_ports : (s.count ev unit n o).ports = s.ports := by rw [sameBut_eq (count_sameBut s ev unit n o)]
@[simp] theorem count_bt : (s.count ev unit n o).bt = s.bt := by rw [sameBut_eq (count_sameBut s ev unit n o)]
@[simp] theorem count_spare : (s.count ev unit n o).spare = s.spare := by rw [sameBut_eq (count_sameBut s ev unit n o)]
@[simp] theorem count_store : (s.count ev unit n o).store = s.store := by rw [sameBut_eq (count_sameBut s ev unit n o)]
@[simp] theorem count_poison : (s.count ev unit n o).poison = s.poison := by rw [sameBut_eq (count_sameBut s ev unit n o)]
@[simp] theorem count_soft : (s.count ev unit n o).soft = s.soft := by rw [sameBut_eq (count_sameBut s ev unit n o)]
@[simp] theorem count_flash : (s.count ev unit n o).flash = s.flash := by rw [sameBut_eq (count_sameBut s ev unit n o)]
@[simp] theorem count_out : (s.count ev unit n o).out = s.out := by rw [sameBut_eq (count_sameBut s ev unit n o)]
@[simp] theorem count_free : (s.count ev unit n o).free = s.free := by rw [sameBut_eq (count_sameBut s ev unit n o)]
@[simp] theorem count_pending : (s.count ev unit n o).pending = s.pending := by rw [sameBut_eq (count_sameBut s ev unit n o)]

variable (f : Fld) (i j : Nat)

@[simp] theorem tally_root : (s.tally f ev unit o n i j).root = s.root := by simp [State.tally]
@[simp] theorem tally_time : (s.tally f ev unit o n i j).time = s.time := by simp [State.tally]
@[simp] theorem tally_tp : (s.tally f ev unit o n i j).tp = s.tp := by simp [State.tally]
@[simp] theorem tally_km : (s.tally f ev unit o n i j).km = s.km := by simp [State.tally]
@[simp] theorem tally_mt : (s.tally f ev unit o n i j).mt = s.mt := by simp [State.tally]
@[simp] theorem tally_sw : (s.tally f ev unit o n i j).sw = s.sw := by simp [State.tally]
@[simp] theorem tally_rt : (s.tally f ev unit o n i j).rt = s.rt := by simp [State.tally]
@[simp] theorem tally_ports : (s.tally f ev unit o n i j).ports = s.ports := by simp [State.tally]
@[simp] theorem tally_fg : (s.tally f ev unit o n i j).fg = s.fg := by simp [State.tally]
@[simp] theorem tally_xl : (s.tally f ev unit o n i j).xl = s.xl := by simp [State.tally]
@[simp] theorem tally_bt : (s.tally f ev unit o n i j).bt = s.bt := by simp [State.tally]
@[simp] theorem tally_ctr : (s.tally f ev unit o n i j).ctr = s.ctr := by simp [State.tally]
@[simp] theorem tally_spare : (s.tally f ev unit o n i j).spare = s.spare := by simp [State.tally]
@[simp] theorem tally_store : (s.tally f ev unit o n i j).store = s.store := by simp [State.tally]
@[simp] theorem tally_poison : (s.tally f ev unit o n i j).poison = s.poison := by simp [State.tally]
@[simp] theorem tally_soft : (s.tally f ev unit o n i j).soft = s.soft := by simp [State.tally]
@[simp] theorem tally_flash : (s.tally f ev unit o n i j).flash = s.flash := by simp [State.tally]
@[simp] theorem tally_out : (s.tally f ev unit o n i j).out = s.out := by simp [State.tally]
@[simp] theorem tally_free : (s.tally f ev unit o n i j).free = s.free := by simp [State.tally]
@[simp] theorem tally_pending : (s.tally f ev unit o n i j).pending = s.pending := by simp [State.tally]

/-- A tally leaves every field outside `eventAddr` that is apart from the one it counts in. -/
theorem tally_rd (g : Fld) (k l : Nat) (quiet : eventAddr (g.addr k l) = false) (h : f.apart i j g k l) :
    (s.tally f ev unit o n i j).rd g k l = s.rd g k l := by
  rw [State.tally, count_rd _ _ _ _ _ _ _ _ quiet, rd_sat_apart _ _ h]

end

/-! ### Outputs -/

/-- What the core does inside goes on while JTAG isolates it from its pins. -/
theorem emit_inner {s : State} {o : Output} (h : o.inner = true) : s.emit o = { s with out := s.out ++ [o] } := if_neg (by simp [h])

/-- The outputs of a core that is not isolated from its pins. -/
theorem emits_eq {α : Type} (l : List α) (f : α → Output) {s : State} (free : s.bt.isolated = false) :
    l.foldl (fun (s : State) p => s.emit (f p)) s = { s with out := s.out ++ l.map f } := by
  induction l generalizing s with
  | nil => simp
  | cons p l ih =>
    have first : s.emit (f p) = { s with out := s.out ++ [f p] } := if_neg (by simp [free])
    rw [List.foldl_cons, first, ih (by exact free), List.map_cons, List.append_assoc]
    rfl

theorem leads_of {i : Instr} {s t : State} {P : State → Prop} (h : exec i s = .next t) (p : P t) : Leads i s P := ⟨t, h, p⟩

end Sys2Proof.Machine

/-! PROOFS. Clocks, crossings, the loopback test and host links (R23, R24, R32, R33, R40, R402, R469). -/

namespace Sys2Proof.Machine

theorem lor_two_pow_bit (a n : Nat) : (a ||| 2 ^ n) / 2 ^ n % 2 = 1 := by
  have set : (a ||| 2 ^ n).testBit n = true := by simp
  simpa [Nat.testBit_eq_decide_div_mod_eq] using set

theorem sub_bit_even (a n : Nat) : (a - a / 2 ^ n % 2 * 2 ^ n) / 2 ^ n % 2 = 0 := by
  rw [Nat.mul_comm, Nat.sub_mul_div]
  omega

/-- The `n` bytes that PRBS31 gives. -/
theorem prbs31Bytes_length (n x : Nat) : (prbs31Bytes n x).2.length = n := by
  induction n generalizing x with
  | zero => rfl
  | succ n ih => simp [prbs31Bytes, ih]

/-- An offset within the tolerance stands in 16 bits. -/
theorem toSigned_offset {off : Int} (low : -1000 ≤ off) (high : off ≤ 1000) :
    toSigned 16 (ofInt 16 (max (-32768) (min 32767 off)) % 2 ^ 16) = off := by
  have inside : max (-32768) (min 32767 off) = off := by omega
  have small : ofInt 16 off % 2 ^ 16 = ofInt 16 off := Nat.mod_eq_of_lt (ofInt_lt 16 off)
  rw [inside, small, toSigned_ofInt, bmod_two_pow_eq (by omega) (by omega)]

/-- Settles O54: each command is run by its gate, and its registers are read field by field; `exec_held` is the last word on R33. -/
theorem platformEventsAct : Obligations.PlatformEventsAct := by
  unfold Obligations.PlatformEventsAct
  intro s n off absent cxl b rx l running
  refine ⟨?_, ?_, ?_, ?_, ?_, ?_, ?_, ?_, ?_, ?_, ?_, ?_, ?_⟩
  · intro clocks held
    simp [execQuiesceDrained, s.clocked_runs clocks, held, ok]
  · intro clocks small quiesced free
    refine leads_of (by rw [exec_quiesceDrained, execQuiesceDrained, s.clocked_runs clocks, if_pos ⟨small, quiesced, by rw [free]; rfl⟩]; rfl) ?_
    exact ⟨rd_wr_same _ _ _ _ _ (by decide), rfl, rfl⟩
  · intro clocks waits
    rw [exec_quiesceTimeout, execQuiesceTimeout, s.clocked_runs clocks, if_pos waits]
    rfl
  · intro clocks bad
    rw [Leads, exec_refbMonitorWindow, execRefbMonitorWindow, s.clocked_runs clocks, if_neg (by simp [running])]
    dsimp only
    rw [if_pos bad]
    generalize (if absent = true then s else _) = u
    split
    · refine ⟨_, rfl, ?_, ?_⟩
      all_goals simp (disch := decide) [rd_wr_same, rd_wr_apart]
    · refine ⟨_, rfl, ?_, ?_⟩
      all_goals simp (disch := decide) [raise_rd, State.setActive, rd_wr_same, rd_wr_apart]
  · intro clocks present low high
    refine leads_of (by
      rw [exec_refbMonitorWindow, execRefbMonitorWindow, s.clocked_runs clocks, if_neg (by simp [running])]
      dsimp only
      rw [if_neg (by simp [present]; omega)]
      rfl) ?_
    simp (disch := decide) [present, State.setActive, rd_wr_same, rd_wr_apart]
    exact toSigned_offset low high
  · intro up
    refine leads_of (by rw [exec_rootUnlock, execRootUnlock, if_neg (by simp [running, up])]; rfl) ?_
    exact ⟨rfl, by simp (disch := decide) [rd_wr_same, rd_wr_apart], rd_wr_same _ _ _ _ _ (by decide), rfl, rfl⟩
  · intro lost
    refine ⟨?_, fun unlocked i outside => exec_held lost unlocked outside⟩
    simp [execRootRelock, lost, running, ok]
  · intro isolated runs
    refine leads_of (by rw [exec_refclkBStop, execRefclkBStop, if_neg (by simp [runs]), emits_eq _ _ (by exact isolated)]; rfl) ?_
    exact ⟨rfl, rfl, rfl⟩
  · intro isolated stopped
    refine leads_of (by rw [exec_refclkBRestore, execRefclkBRestore, if_neg (by simp [stopped]), emits_eq _ _ (by exact isolated)]; rfl) ?_
    exact ⟨rfl, rfl, rfl⟩
  · intro clocks enabled admits
    refine leads_of (by rw [exec_loopPacketGenerate, execLoopPacketGenerate, s.clocked_runs clocks, if_neg (by simp [enabled, admits])]; rfl) ?_
    rw [emit_inner rfl]
    refine ⟨_, rfl, rfl, ?_, ?_, rfl⟩
    · simp
    · simp [prbs31Bytes_length]
      omega
  · intro clocks sent
    by_cases same : rx = b
    · refine leads_of (by rw [exec_loopPacketCheck, execLoopPacketCheck, s.clocked_runs clocks, sent]; rfl) ?_
      simp (disch := decide) [same, rd_sat_apart]
      rfl
    · refine leads_of (by rw [exec_loopPacketCheck, execLoopPacketCheck, s.clocked_runs clocks, sent]; rfl) ?_
      simp (disch := decide) [same, rd_sat_same, rd_sat_apart]
      rfl
  · intro clocks small up
    refine leads_of (by rw [exec_hostLinkDown, execHostLinkDown, s.clocked_runs clocks, if_pos small, State.hostLinkDown, if_neg (by omega)]; rfl) ?_
    simp
  · intro pins small high
    refine leads_of (by rw [exec_hostLinkUp, execHostLinkUp, s.atPins_runs pins.1 pins.2, if_neg (by simp [running, high, small])]; rfl) ?_
    refine ⟨lor_two_pow_bit _ _, ?_, rfl⟩
    cases cxl with
    | true => simpa using lor_two_pow_bit _ _
    | false => simp [sub_bit_even]

end Sys2Proof.Machine

/-! PROOFS. Fabric time (R298 to R300). -/

namespace Sys2Proof.Machine

/-! ### Showing the gates leaves the rest -/

theorem gateDebug_eq (s : State) (p : Nat) : s.gateDebug p = { s with out := (s.gateDebug p).out } := by
  unfold State.gateDebug
  split
  · unfold State.emit
    split <;> rfl
  · rfl

/-- Showing a gate leaves the clock, the schedule, and every register but the port's gate status. -/
theorem gateShown_leaves (s : State) (p : Nat) : (s.gateShown p).time = s.time ∧ (s.gateShown p).sc = s.sc
    ∧ ∀ g : Fld, g.addr 0 0 ≠ Reg.SCH_GATE_STATUS_ENTRY.addr p 0 → (s.gateShown p).rd g = s.rd g := by
  rw [State.gateShown, gateDebug_eq]
  split
  · exact ⟨rfl, rfl, fun g other => rd_wr_apart s _ (.inl other)⟩
  · exact ⟨rfl, rfl, fun g _ => rfl⟩

theorem gatesShown_leaves (s : State) (l : List Nat) : (l.foldl State.gateShown s).time = s.time ∧ (l.foldl State.gateShown s).sc = s.sc
    ∧ ∀ g : Fld, (∀ p, g.addr 0 0 ≠ Reg.SCH_GATE_STATUS_ENTRY.addr p 0) → (l.foldl State.gateShown s).rd g = s.rd g := by
  induction l generalizing s with
  | nil => exact ⟨rfl, rfl, fun g _ => rfl⟩
  | cons p l ih =>
    obtain ⟨time, sc, rd⟩ := gateShown_leaves s p
    obtain ⟨times, scs, rds⟩ := ih (s.gateShown p)
    exact ⟨times.trans time, scs.trans sc, fun g other => (rds g other).trans (rd g (other p))⟩

theorem timeStatus_ne_gateStatus (p : Nat) : Reg.SCH_TIME_STATUS_LOCKED.addr 0 0 ≠ Reg.SCH_GATE_STATUS_ENTRY.addr p 0 := by
  simp only [Fld.addr, Reg.SCH_TIME_STATUS_LOCKED, Reg.SCH_GATE_STATUS_ENTRY]
  omega

/-! ### The servo (R299) -/

theorem paceFor_congr {s t : State} (h : t.rd Reg.SCH_TIME_CFG_SYNC_US = s.rd Reg.SCH_TIME_CFG_SYNC_US) (x : Int) :
    t.paceFor x = s.paceFor x := by
  simp only [State.paceFor, h]

/-- The state in which the offset of a servo's sample stands in STATUS. -/
def State.offsetShown (s : State) (th : Int) : State :=
  s.wr Reg.SCH_TIME_STATUS_OFFSET_NS (ofInt 32 (max (-(2 ^ 31 - 1)) (min (2 ^ 31 - 1) th)))

theorem offsetShown_step (s : State) (th : Int) : (s.offsetShown th).rd Reg.SCH_TIME_CFG_STEP_NS = s.rd Reg.SCH_TIME_CFG_STEP_NS :=
  rd_wr_apart _ _ (by decide)

theorem offsetShown_pace (s : State) (th x : Int) : (s.offsetShown th).paceFor x = s.paceFor x :=
  paceFor_congr (rd_wr_apart _ _ (by decide)) x

/-- An offset above STEP_NS is a step of the clock. -/
theorem servo_steps {s : State} {th : Int} (large : (s.rd Reg.SCH_TIME_CFG_STEP_NS : Int) < th.natAbs) :
    s.servo th = (((List.range 72).foldl State.gateShown
      (({ s.offsetShown th with time := ofInt 64 (s.time + th), sc := { s.sc with good := 0, slew := 0, pace := 0 } }.wr
        Reg.SCH_TIME_STATUS_STEP_SEEN 1).wr Reg.SCH_TIME_STATUS_LOCKED 0)).sat Reg.SCH_TIME_STATUS_STEPS 1).raise 0x004 (ofInt 32 th) := by
  rw [← offsetShown_step s th] at large
  exact if_pos large

/-- An offset up to STEP_NS joins what the clock still has to slew. -/
theorem servo_slews {s : State} {th : Int} (small : (th.natAbs : Int) ≤ s.rd Reg.SCH_TIME_CFG_STEP_NS) :
    s.servo th =
      let good := if th.natAbs ≤ 5 then s.sc.good + 1 else 0
      let u : State := { s.offsetShown th with
        sc := { s.sc with good := good, slew := s.sc.slew + th, pace := s.paceFor (s.sc.slew + th) } }
      if 20 < th.natAbs then u.wr Reg.SCH_TIME_STATUS_LOCKED 0 else if 8 ≤ good then u.wr Reg.SCH_TIME_STATUS_LOCKED 1 else u := by
  rw [← offsetShown_step s th] at small
  rw [← offsetShown_pace s th]
  exact if_neg (Int.not_lt.2 small)

/-- A child that hears nothing for the fourth period gives up its lock. -/
theorem timeSyncTimer_gives_up {s : State} (clocks : s.clocks) (child : s.rd Reg.SCH_TIME_CFG_ROLE = 1) (waits : s.sc.syncOut.isSome = true)
    (silent : s.sc.silent = 3) : Leads .timeSyncTimer s fun t =>
      t.rd Reg.SCH_TIME_STATUS_LOCKED = 0 ∧ t.rd Reg.SCH_TIME_STATUS_NO_RESPONSE_SEEN = 1 ∧ t.sc.silent = 4 := by
  rw [Leads, exec_timeSyncTimer, execTimeSyncTimer, s.clocked_runs clocks, if_neg (not_not.2 child)]
  simp only [waits, silent, if_true]
  split
  · refine ⟨_, rfl, ?_, rd_wr_same _ _ _ _ _ (by decide), rfl⟩
    exact (rd_wr_apart _ _ (by decide)).trans (rd_wr_same _ _ _ _ _ (by decide))
  · refine ⟨_, rfl, ?_, rd_wr_same _ _ _ _ _ (by decide), rfl⟩
    exact (rd_wr_apart _ _ (by decide)).trans (rd_wr_same _ _ _ _ _ (by decide))

/-- A child with an answer to come or none to wait for sends its next request. -/
theorem timeSyncTimer_asks {s : State} (clocks : s.clocks) (child : s.rd Reg.SCH_TIME_CFG_ROLE = 1)
    (up : s.portUp (s.rd Reg.SCH_TIME_CFG_PARENT_PORT) = true) (version : s.rd Reg.LNK_STATUS_VERSION (s.rd Reg.SCH_TIME_CFG_PARENT_PORT) = 2)
    {silent : Nat} (counts : (if s.sc.syncOut.isSome then s.sc.silent + 1 else 0) = silent) (hears : silent ≠ 4) :
    exec .timeSyncTimer s = .next (State.control
      { s with sc := { s.sc with silent := silent, syncSeq := (s.sc.syncSeq + 1) % 65536, syncOut := some ((s.sc.syncSeq + 1) % 65536, s.time) } }
      (s.rd Reg.SCH_TIME_CFG_PARENT_PORT) 4 ([0] ++ beBytes 2 ((s.sc.syncSeq + 1) % 65536) ++ beBytes 8 s.time)) := by
  rw [exec_timeSyncTimer, execTimeSyncTimer, s.clocked_runs clocks, if_neg (not_not.2 child)]
  simp only [counts, if_neg hears]
  exact if_pos ⟨up, version⟩

/-- Settles O49: the child's timer, the root's pulse, and the two ways of the servo. -/
theorem fabricTimeIsServed : Obligations.FabricTimeIsServed := by
  unfold Obligations.FabricTimeIsServed
  intro s th pins
  refine ⟨fun child up version => ⟨?_, ?_, ?_⟩, fun root owned pulse => ⟨?_, ?_⟩, fun large => ?steps, fun small => ?slews⟩
  · intro none
    exact timeSyncTimer_asks pins.1 child up version (by simp [none]) (by decide)
  · intro waits heard
    exact timeSyncTimer_asks pins.1 child up version (if_pos waits) (by omega)
  · intro waits silent
    exact timeSyncTimer_gives_up pins.1 child waits silent
  · intro early
    rw [exec_timepulseEdge, execTimepulseEdge, s.atPins_runs pins.1 pins.2, if_pos ⟨root, owned, pulse⟩]
    dsimp only
    rw [if_pos early]
    rfl
  · intro late
    rw [exec_timepulseEdge, execTimepulseEdge, s.atPins_runs pins.1 pins.2, if_pos ⟨root, owned, pulse⟩]
    dsimp only
    rw [if_neg (by omega)]
    rfl
  case steps =>
    rw [servo_steps large]
    obtain ⟨time, sc, rd⟩ := gatesShown_leaves (({ s.offsetShown th with
      time := ofInt 64 (s.time + th), sc := { s.sc with good := 0, slew := 0, pace := 0 } }.wr
        Reg.SCH_TIME_STATUS_STEP_SEEN 1).wr Reg.SCH_TIME_STATUS_LOCKED 0) (List.range 72)
    refine ⟨?_, ?_, ?_, ?_, ?_⟩
    · rw [raise_time, State.sat_time, time]
      rfl
    · rw [raise_rd _ _ _ _ _ _ _ _ (by decide), rd_sat_apart _ _ (by decide), rd Reg.SCH_TIME_STATUS_STEP_SEEN timeStatus_ne_gateStatus]
      simp (disch := decide) [rd_wr_same, rd_wr_apart]
    · rw [raise_rd _ _ _ _ _ _ _ _ (by decide), rd_sat_apart _ _ (by decide), rd _ timeStatus_ne_gateStatus]
      simp (disch := decide) [rd_wr_same]
    · rw [raise_sc, State.sat_sc, sc]
      rfl
    · rw [raise_sc, State.sat_sc, sc]
      rfl
  case slews =>
    rw [servo_slews small]
    refine ⟨?_, ?_, ?_, fun far => ?_, fun near good => ?_, fun apart near => ?_⟩
    · dsimp only
      generalize (if th.natAbs ≤ 5 then s.sc.good + 1 else 0) = good
      split
      · rfl
      · split <;> rfl
    · dsimp only
      generalize (if th.natAbs ≤ 5 then s.sc.good + 1 else 0) = good
      split
      · rfl
      · split <;> rfl
    · dsimp only
      generalize (if th.natAbs ≤ 5 then s.sc.good + 1 else 0) = good
      split
      · rfl
      · split <;> rfl
    · simp (disch := decide) [far, rd_wr_same]
    · have lock : 8 ≤ s.sc.good + 1 := by omega
      simp (disch := decide) [near, lock, rd_wr_same, show ¬20 < th.natAbs by omega]
    · simp only [if_neg (show ¬20 < th.natAbs by omega), if_neg (show ¬th.natAbs ≤ 5 by omega)]
      exact ⟨rd_wr_apart _ _ (by decide), rfl⟩

end Sys2Proof.Machine

/-! PROOFS. Reactions (R408 to R413): what telling one leaves, and what stands in the outputs after it. -/

namespace Sys2Proof.Machine

/-! ### What a part of a reaction keeps -/

/-- The outputs stay, and so does every register from EVT_SRC_CFG on. -/
structure State.Tells (s t : State) : Prop where
  out : s.out ⊆ t.out
  cfg : ∀ a, 0x101000 ≤ a → mget t.regs a = mget s.regs a

theorem State.Tells.refl (s : State) : s.Tells s := ⟨List.Subset.refl _, fun _ _ => rfl⟩

theorem State.Tells.trans {s t u : State} (h : s.Tells t) (g : t.Tells u) : s.Tells u :=
  ⟨List.Subset.trans h.out g.out, fun a ha => (g.cfg a ha).trans (h.cfg a ha)⟩

theorem State.Tells.of_eq {s t : State} (out : t.out = s.out) (regs : t.regs = s.regs) : s.Tells t :=
  ⟨out ▸ List.Subset.refl _, fun _ _ => by rw [regs]⟩

theorem tells_ite {s : State} {p : Prop} [Decidable p] {f : State} (h : s.Tells f) : s.Tells (if p then f else s) := by
  split
  · exact h
  · exact .refl s

theorem bt_ite {s : State} {p : Prop} [Decidable p] {f : State} (h : f.bt = s.bt) : (if p then f else s).bt = s.bt := by
  split
  · exact h
  · rfl

/-- The configuration of an event source reads as before. -/
theorem State.Tells.on {s t : State} (h : s.Tells t) {f : Fld} (cfg : f.base = 0x101000) (i : Nat) : t.on f i = s.on f i := by
  simp only [State.on, State.rd, State.reg, h.cfg (f.addr i 0) (by rw [Fld.addr, cfg]; omega)]

theorem emit_tells (s : State) (o : Output) : s.Tells (s.emit o) := by
  refine ⟨fun x hx => ?_, fun _ _ => by rw [State.emit_regs]⟩
  unfold State.emit
  split
  · exact hx
  · exact List.mem_append_left _ hx

theorem emit_tells_of {s u : State} (out : u.out = s.out) (regs : u.regs = s.regs) (o : Output) : s.Tells (u.emit o) :=
  (State.Tells.of_eq out regs).trans (emit_tells u o)

theorem wr_tells (s : State) (f : Fld) (v : Nat) (low : f.addr 0 0 < 0x101000) : s.Tells (s.wr f v) :=
  ⟨List.Subset.refl _, fun a ha => mget_mset_other _ _ _ _ (by omega)⟩

theorem sat_tells (s : State) (f : Fld) (n : Nat) (low : f.addr 0 0 < 0x101000) : s.Tells (s.sat f n) := wr_tells s f _ low

theorem msix_tells (s : State) (fn vec : Nat) : s.Tells (s.msix fn vec).1 := by
  unfold State.msix
  dsimp only
  split
  · exact .refl s
  · split
    · exact .of_eq rfl rfl
    · exact emit_tells s _

theorem msix_bt (s : State) (fn vec : Nat) : (s.msix fn vec).1.bt = s.bt := by
  unfold State.msix
  dsimp only
  split
  · rfl
  · split
    · rfl
    · exact State.emit_bt ..

theorem setAlive_tells (s : State) (b : Bool) : s.Tells (s.setAlive b) := by
  unfold State.setAlive
  split
  · exact .refl s
  · refine emit_tells_of ?_ ?_ _ <;> rfl

theorem setAlive_bt (s : State) (b : Bool) : (s.setAlive b).bt = s.bt := by
  unfold State.setAlive
  split
  · rfl
  · exact State.emit_bt ..

/-! ### The parts of a reaction -/

theorem faultInt_tells (s : State) (k : Nat) : s.Tells (s.faultInt k) := by
  unfold State.faultInt
  dsimp only
  split
  · exact msix_tells ..
  · exact (msix_tells ..).trans (sat_tells _ Reg.FLT_CTRL_MSI_LOST 1 (by decide))

theorem faultInt_bt (s : State) (k : Nat) : (s.faultInt k).bt = s.bt := by
  unfold State.faultInt
  dsimp only
  split
  · exact msix_bt ..
  · exact (State.sat_bt ..).trans (msix_bt ..)

theorem aliveCheck_tells (s : State) : s.Tells s.aliveCheck := by
  unfold State.aliveCheck
  split
  · exact .refl s
  · split
    · split
      · exact ((wr_tells s Reg.FLT_ALIVE_TOGGLING 0 (by decide)).trans (wr_tells _ Reg.FLT_ALIVE_STOPPED_SEEN 1 (by decide))).trans (setAlive_tells ..)
      · exact .refl s
    · split
      · exact .refl s
      · exact (wr_tells s Reg.FLT_ALIVE_TOGGLING 1 (by decide)).trans (setAlive_tells ..)

theorem aliveCheck_bt (s : State) : s.aliveCheck.bt = s.bt := by
  unfold State.aliveCheck
  split
  · rfl
  · split
    · split
      · exact setAlive_bt ..
      · rfl
    · split
      · rfl
      · exact setAlive_bt ..

theorem notify_tells (s : State) (word : Nat) : s.Tells (s.notify word) := by
  unfold State.notify
  split
  · refine emit_tells_of ?_ ?_ _ <;> rfl
  · exact .of_eq rfl rfl

theorem notify_bt (s : State) (word : Nat) : (s.notify word).bt = s.bt := by
  unfold State.notify
  split
  · exact State.emit_bt ..
  · rfl

theorem aerReport_tells (s : State) (corrected : Bool) (n : Nat) : s.Tells (s.aerReport corrected n) := by
  unfold State.aerReport
  dsimp only
  by_cases silent : (if corrected = true then (s.aerOf n).maskCorrected else (s.aerOf n).maskUncorrectable) = true ∨ s.bt.linkUp / 2 ^ n % 2 = 0
  · rw [if_pos silent]
    exact .of_eq rfl rfl
  · rw [if_neg silent]
    refine emit_tells_of ?_ ?_ _ <;> rfl

/-- An AER record in which an internal error stands. -/
def Aer.noting (a : Aer) (corrected : Bool) : Aer := if corrected then { a with corrected := true } else { a with uncorrectable := true }

theorem aerReport_bt (s : State) (corrected : Bool) (n : Nat) :
    (s.aerReport corrected n).bt = { s.bt with aer := mset s.bt.aer n ((s.aerOf n).noting corrected) } := by
  unfold State.aerReport
  dsimp only
  by_cases silent : (if corrected = true then (s.aerOf n).maskCorrected else (s.aerOf n).maskUncorrectable) = true ∨ s.bt.linkUp / 2 ^ n % 2 = 0
  · rw [if_pos silent]
    rfl
  · rw [if_neg silent]
    exact State.emit_bt ..

/-- The record of one link leaves those of the others. -/
theorem aerOf_aerReport_ne (s : State) (corrected : Bool) {n m : Nat} (h : n ≠ m) : (s.aerReport corrected m).aerOf n = s.aerOf n := by
  rw [State.aerOf, aerReport_bt, mgetD, mget_mset_other _ _ _ _ h]
  rfl

theorem aerOf_aerReport_same (s : State) (n : Nat) : ((s.aerReport true n).aerOf n).corrected = true := by
  rw [State.aerOf, aerReport_bt, mgetD, mget_mset_same]
  rfl

theorem aerReports_tell (s : State) (l : List Nat) (b : Bool) : s.Tells (l.foldl (fun (s : State) m => s.aerReport b m) s) := by
  induction l generalizing s with
  | nil => exact .refl s
  | cons m l ih => exact (aerReport_tells s b m).trans (ih _)

theorem aerReports_keep {s : State} {n : Nat} (l : List Nat) (h : (s.aerOf n).corrected = true) :
    ((l.foldl (fun (s : State) m => s.aerReport true m) s).aerOf n).corrected = true := by
  induction l generalizing s with
  | nil => exact h
  | cons m l ih =>
    refine ih ?_
    by_cases same : n = m
    · subst same
      exact aerOf_aerReport_same s n
    · rw [aerOf_aerReport_ne s true same, h]

/-- A corrected error stands in the AER record of every host link that is told of it, and its message goes out where the mask and the link
let it. -/
theorem aerReports_corrected {s : State} (free : s.bt.isolated = false) {l : List Nat} {n : Nat} (mem : n ∈ l) :
    let t := l.foldl (fun (s : State) m => s.aerReport true m) s
    (t.aerOf n).corrected = true
      ∧ ((s.aerOf n).maskCorrected = false → s.bt.linkUp / 2 ^ n % 2 = 1 → Output.aer n 0 ∈ t.out) := by
  induction l generalizing s with
  | nil => cases mem
  | cons m l ih =>
    by_cases same : n = m
    · subst same
      refine ⟨aerReports_keep l (aerOf_aerReport_same s n), fun open_ up => (aerReports_tell _ l true).out ?_⟩
      unfold State.aerReport
      dsimp only
      rw [if_neg (by simp [open_, up]), State.emit, if_neg (by simp [free])]
      exact List.mem_append_right _ (List.mem_singleton.2 rfl)
    · have rest := ih (s := s.aerReport true m) (by rw [aerReport_bt]; exact free) ((List.mem_cons.1 mem).resolve_left same)
      rw [aerOf_aerReport_ne s true same, aerReport_bt] at rest
      exact rest

/-! ### A reaction (R408) -/

/-- A reaction up to its AER records: the report, INT, NMI, ALIVE. -/
def State.reacted (s : State) (k : Nat) : State :=
  let s := s.emit (.report k)
  let s := if s.on Reg.EVT_SRC_CFG_INT k then s.faultInt k else s
  let s := if s.on Reg.EVT_SRC_CFG_NMI k then s.emit .nmi else s
  if s.on Reg.EVT_SRC_CFG_EXT_ALIVE k then s.aliveCheck else s

theorem reacted_tells (s : State) (k : Nat) : s.Tells (s.reacted k) :=
  (((emit_tells s _).trans (tells_ite (faultInt_tells ..))).trans (tells_ite (emit_tells ..))).trans (tells_ite (aliveCheck_tells _))

theorem reacted_bt (s : State) (k : Nat) : (s.reacted k).bt = s.bt := by
  unfold State.reacted
  dsimp only
  rw [bt_ite (aliveCheck_bt _), bt_ite (State.emit_bt ..), bt_ite (faultInt_bt ..), State.emit_bt]

theorem reacted_report (s : State) (k : Nat) : Output.report k ∈ (s.reacted k).out := by
  have first : Output.report k ∈ (s.emit (.report k)).out := by
    rw [emit_inner rfl]
    exact List.mem_append_right _ (List.mem_singleton.2 rfl)
  exact (((tells_ite (faultInt_tells ..)).trans (tells_ite (emit_tells ..))).trans (tells_ite (aliveCheck_tells _))).out first

theorem reacted_nmi {s : State} {k : Nat} (h : s.on Reg.EVT_SRC_CFG_NMI k = true) : Output.nmi ∈ (s.reacted k).out := by
  have before := ((emit_tells s (.report k)).trans (tells_ite (p := (s.emit (.report k)).on Reg.EVT_SRC_CFG_INT k = true) (faultInt_tells _ k)))
  refine (tells_ite (aliveCheck_tells _)).out ?_
  rw [if_pos ((before.on rfl k).trans h), emit_inner rfl]
  exact List.mem_append_right _ (List.mem_singleton.2 rfl)

/-- A reaction after its AER records: EXT_SMBUS. -/
theorem react_eq {s : State} {r : Reaction} (local_ : s.on Reg.EVT_SRC_CFG_FM r.source = false) :
    let u := s.reacted r.source
    let v := if u.on Reg.EVT_SRC_CFG_EXT_PCIE r.source = true then
      (List.range 8).foldl (fun (s : State) l => s.aerReport ((classOf r.source).getD 0 == 0) l) u else u
    s.react r = (if v.on Reg.EVT_SRC_CFG_EXT_SMBUS r.source = true then v.notify r.source else v) ∧ s.Tells u ∧ u.Tells v
      ∧ v.Tells (s.react r) := by
  intro u v
  have first : s.Tells u := reacted_tells s r.source
  have second : u.Tells v := tells_ite (aerReports_tell ..)
  have third : v.Tells (if v.on Reg.EVT_SRC_CFG_EXT_SMBUS r.source = true then v.notify r.source else v) := tells_ite (notify_tells ..)
  have fm := (((first.trans second).trans third).on (f := Reg.EVT_SRC_CFG_FM) rfl r.source).trans local_
  have last : s.react r = if v.on Reg.EVT_SRC_CFG_EXT_SMBUS r.source = true then v.notify r.source else v :=
    if_neg (ne_true_of_eq_false fm)
  exact ⟨last, first, second, last ▸ third⟩

/-- What a reaction without FM leaves in the outputs and in the AER records. -/
theorem react_tells {s : State} {r : Reaction} (free : s.bt.isolated = false) (local_ : s.on Reg.EVT_SRC_CFG_FM r.source = false) :
    s.Tells (s.react r) ∧ Output.report r.source ∈ (s.react r).out
      ∧ (s.on Reg.EVT_SRC_CFG_NMI r.source = true → Output.nmi ∈ (s.react r).out)
      ∧ ∀ n < 8, s.on Reg.EVT_SRC_CFG_EXT_PCIE r.source = true → classOf r.source = some 0 → ((s.react r).aerOf n).corrected = true
        ∧ ((s.aerOf n).maskCorrected = false → s.bt.linkUp / 2 ^ n % 2 = 1 → Output.aer n 0 ∈ (s.react r).out) := by
  obtain ⟨last, first, second, third⟩ := react_eq local_
  have bt := reacted_bt s r.source
  refine ⟨(first.trans second).trans third, (second.trans third).out (reacted_report ..), fun nmi => (second.trans third).out (reacted_nmi nmi),
    fun n small pcie corrected => ?_⟩
  obtain ⟨record, message⟩ := aerReports_corrected (s := s.reacted r.source) (by rw [bt, free]) (List.mem_range.2 small)
  have told : (if (s.reacted r.source).on Reg.EVT_SRC_CFG_EXT_PCIE r.source = true then
      (List.range 8).foldl (fun (s : State) l => s.aerReport ((classOf r.source).getD 0 == 0) l) (s.reacted r.source) else s.reacted r.source)
      = (List.range 8).foldl (fun (s : State) l => s.aerReport true l) (s.reacted r.source) := by
    rw [if_pos ((first.on rfl r.source).trans pcie), corrected]
    rfl
  rw [told] at third last
  rw [State.aerOf, bt] at message
  refine ⟨?_, fun open_ up => third.out (message open_ up)⟩
  rw [State.aerOf, last, bt_ite (notify_bt ..)]
  exact record

/-! ### The vectors (R411) -/

/-- A vector without mask sends its message on a link that is up. -/
theorem msix_sends {s : State} {fn vec : Nat} (up : s.bt.linkUp / 2 ^ (fn / 256) % 2 = 1) (on : (s.func fn).msixOff = false) (small : vec < 2048)
    (open_ : (mgetD (s.func fn).vectors vec {}).masked = false) : (s.msix fn vec).1 = s.emit (.msix fn vec) := by
  simp [State.msix, up, on, Nat.not_le.2 small, open_]

/-- Settles O53: the dispatch of one reaction by `react_tells`, and the other commands by their branch. -/
theorem reactionsAndOutsideSources : Obligations.ReactionsAndOutsideSources := by
  unfold Obligations.ReactionsAndOutsideSources
  intro s r n vec temp word w2 l pins
  refine ⟨?_, ?_, ?_, ?_, ?_, ?_, ?_, ?_, ?_⟩
  · intro one chip block
    simp [execReactionDispatch, s.clocked_runs pins.1, one, insertDue, chip, block, ok]
  · intro one chip
    simp [execReactionDispatch, s.clocked_runs pins.1, one, insertDue, chip, ok]
  · intro one off
    obtain ⟨tells, report, nmi, aer⟩ := react_tells (s := { s with ft := { s.ft with reactions := [] } }) (r := r) pins.2 (off _ (.inr (.inr rfl)))
    have chip := (tells.on (f := Reg.EVT_SRC_CFG_CHIP_RESET) rfl r.source).trans (off _ (.inl rfl))
    have block := (tells.on (f := Reg.EVT_SRC_CFG_BLOCK_RESET) rfl r.source).trans (off _ (.inr (.inl rfl)))
    refine ⟨State.react { s with ft := { s.ft with reactions := [] } } r, ?_, report, nmi, fun pcie corrected small => aer n small pcie corrected⟩
    simp [execReactionDispatch, s.clocked_runs pins.1, one, insertDue, chip, block, ok]
  · intro running small
    have held : ¬(4 ≤ n ∨ s.bt.inReset = true) := by simp [running, small]
    refine ⟨?_, ?_, ?_⟩
    · rw [exec_stackFail, execStackFail, s.clocked_runs pins.1, if_neg held, show 0x240 + 16 * n + 2 = 0x242 + 16 * n by omega]
      rfl
    · rw [exec_keeperCoreError, execKeeperCoreError, s.clocked_runs pins.1, if_neg held]
      rfl
    · rw [exec_storeTempHigh, execStoreTempHigh, s.clocked_runs pins.1, if_neg held, show 0x240 + 16 * n + 3 = 0x243 + 16 * n by omega]
      rfl
  · intro toggling
    rw [Leads, exec_aliveEdge, execAliveEdge, if_pos ⟨toggling, by rw [pins.1]; rfl⟩, State.setAlive, if_neg (by simp)]
    refine ⟨_, rfl, ?_, ?_, ?_⟩
    · simp
    · simp [State.emit, pins.2]
    · simp
  · intro small vecSmall running idle
    simp [execMsixVectorUnmask, s.atPins_runs pins.1 pins.2, small, vecSmall, running, idle, ok]
  · intro small vecSmall running held on up
    have open_ : ¬(2048 ≤ n ∨ 2048 ≤ vec ∨ s.bt.inReset = true) := by simp [running, small, vecSmall]
    rw [exec_msixVectorUnmask, execMsixVectorUnmask, s.atPins_runs pins.1 pins.2, if_neg open_]
    dsimp only
    rw [if_pos held]
    exact congrArg Host.Outcome.next (msix_sends up (by simp [on]) vecSmall (by simp [mgetD]))
  · intro two
    simp [execHostNotifySent, two, ok]
  · intro one
    simp [execHostNotifySent, one, ok]

end Sys2Proof.Machine

/-! PROOFS. Events leave the fields of the lichen block, but for the account of the log's buffer (R402 to R408). -/

namespace Sys2Proof.Machine

section
variable {g : Fld} {k l : Nat} (low : 0x200000 ≤ g.addr k l)
include low

theorem apart_of_below {f : Fld} {i j : Nat} (h : f.addr i j < 0x200000) : f.apart i j g k l := .inl (by omega)

theorem capture_rd_above (s : State) (a b c d e f : Fld) (x n m : Nat) (inj : Bool)
    (h : ∀ y ∈ [a, b, c, d, e, f], y.addr 0 0 < 0x200000) : (capture s a b c d e f x n m inj).rd g k l = s.rd g k l :=
  capture_rd s a b c d e f g k l x n m inj (apart_of_below low (h a (by simp))) (apart_of_below low (h b (by simp)))
    (apart_of_below low (h c (by simp))) (apart_of_below low (h d (by simp))) (apart_of_below low (h e (by simp)))
    (apart_of_below low (h f (by simp)))

theorem classCounter_below (c : Nat) : (classCounter c).addr 0 0 < 0x200000 := by
  unfold classCounter
  split
  · decide
  · split <;> decide

/-- Status, logs and class counters lie below the lichen block. -/
theorem occurred_rd_above (s : State) (src info c : Nat) (inj : Bool) (small : src < 1024) :
    (s.occurred src info c inj).rd g k l = s.rd g k l := by
  have status : (Reg.EVT_STATUS_STATUS.addr (src / 64) 0) < 0x200000 := by
    simp only [Fld.addr, Reg.EVT_STATUS_STATUS]
    omega
  rw [State.occurred, rd_sat_apart _ _ (apart_of_below low (classCounter_below low c)), State.fatalLog]
  split
  · rw [capture_rd_above low _ _ _ _ _ _ _ _ _ _ _ (by decide), State.firstLog, capture_rd_above low _ _ _ _ _ _ _ _ _ _ _ (by decide),
      rd_wr_apart _ _ (apart_of_below low status)]
  · rw [State.firstLog, capture_rd_above low _ _ _ _ _ _ _ _ _ _ _ (by decide), rd_wr_apart _ _ (apart_of_below low status)]

variable (high : g.addr k l < 0x201000) (buffered : Fld.apart Reg.LCH_LOG_STATUS_BUFFERED 0 0 g k l)
include high buffered

theorem raise1_rd_lichen (s : State) (src info : Nat) (inj sup : Bool) : (raise1 s src info inj sup).rd g k l = s.rd g k l := by
  cases class_ : classOf src with
  | none => rw [raise1, class_]
  | some c => rw [raise1_rd s src info c inj sup class_ g k l buffered, occurred_rd_above low s src info c inj (classOf_lt class_)]

theorem advance_rd_lichen (s : State) (c n : Nat) : (advance s c n).1.rd g k l = s.rd g k l := by
  have value : Reg.CTR_COUNT_VALUE.apart c 0 g k l := .inl (by simp only [Fld.addr, Reg.CTR_COUNT_VALUE] at *; omega)
  have overflow : Reg.CTR_COUNT_OVF.apart c 0 g k l := .inl (by simp only [Fld.addr, Reg.CTR_COUNT_OVF] at *; omega)
  unfold advance
  dsimp only
  split
  · exact rd_wr_apart _ _ value
  · exact (rd_wr_apart _ _ overflow).trans (rd_wr_apart _ _ value)

theorem counters_rd_lichen (cs : List Nat) (n : Nat) (a : State × List Item) :
    (cs.foldl (fun (a : State × List Item) c => let b := advance a.1 c n; (b.1, a.2 ++ b.2)) a).1.rd g k l = a.1.rd g k l := by
  induction cs generalizing a with
  | nil => rfl
  | cons c cs ih => exact (ih _).trans (advance_rd_lichen low high buffered a.1 c n)

theorem cascade_rd_lichen (f : Nat) (items : List Item) (s : State) : (cascade f items s).rd g k l = s.rd g k l := by
  induction f generalizing items s with
  | zero => rfl
  | succ f ih =>
    match items with
    | [] => rfl
    | .event src info inj sup :: items =>
      simp only [cascade]
      split
      · exact ih _ _
      · exact (ih _ _).trans (raise1_rd_lichen low high buffered s src info inj sup)
    | .count ev unit n o :: items =>
      simp only [cascade]
      exact (ih _ _).trans (counters_rd_lichen low high buffered _ n _)

theorem raise_rd_lichen (s : State) (src info : Nat) (inj sup : Bool) : (s.raise src info inj sup).rd g k l = s.rd g k l :=
  cascade_rd_lichen low high buffered _ _ s

end

end Sys2Proof.Machine

/-! PROOFS. The lifetime monitor (R418, R419, R424 to R428, R460). -/

namespace Sys2Proof.Machine

/-- The rail's next voltage: at most 2.5 mV away, towards the goal. -/
theorem nextSet_spec {l : Lichen} (h : l.vset ≠ l.vgoal) : l.nextSet ≤ l.vset + 25 ∧ l.vset ≤ l.nextSet + 25 ∧ l.nextSet ≠ l.vset
    ∧ (l.vset ≤ l.nextSet ∧ l.nextSet ≤ l.vgoal ∨ l.vgoal ≤ l.nextSet ∧ l.nextSet ≤ l.vset) := by
  rw [Lichen.nextSet]
  split <;> omega

theorem recordWords_type (s : State) (type body body2 : Nat) (inj copy : Bool) (h : type < 256) :
    bits (wordAt (recordWords s type inj copy body body2) 0) 0 8 = type := by
  simp only [recordWords, wordAt, List.getD_cons_zero, bits, BitVec.toNat_ofNat, Nat.shiftRight_zero]
  split <;> split <;> split <;> omega

theorem logWrite_flash (s : State) (r : List Word) : (s.logWrite r).flash = Memory.writeN 0xFF s.flash
    (logBase + 4096 * s.rd Reg.LCH_LOG_STATUS_HEAD_SECTOR + 32 * s.lch.headSlot) (ofWords (numbered (s.rd Reg.LCH_LOG_STATUS_SEQ) r)) := by
  simp only [State.logWrite, State.wr_flash, State.flashWrite]

theorem numbered_length (seq : Nat) (r : List Word) : (ofWords (numbered seq r)).length = 32 := by
  simp [numbered, ofWords]

/-- Programming a record leaves the account of the log but for what its source may still fold. -/
theorem programmed_eq (l : Lichen) (r : List Word) : l.programmed r = { l with folded := (l.programmed r).folded } := by
  unfold Lichen.programmed
  dsimp only
  split <;> rfl

theorem thermalCycle_bt (s : State) (t : Nat) : (s.thermalCycle t).bt = s.bt := by
  unfold State.thermalCycle
  dsimp only
  split
  · rfl
  · split <;> rfl

theorem thermalCycle_rd (s : State) (t : Nat) {g : Fld} {k l : Nat} (h : Reg.LCH_LIFE_CYCLES.apart 0 0 g k l) :
    (s.thermalCycle t).rd g k l = s.rd g k l := by
  unfold State.thermalCycle
  dsimp only
  split
  · rfl
  · split
    · exact rd_sat_apart _ _ h
    · rfl

/-- The ACTIVE bit of a source leaves other registers. -/
theorem setActive_rd (s : State) (k : Nat) (b : Bool) {g : Fld} {i j : Nat} (h : Reg.EVT_ACTIVE_ACTIVE.apart (k / 64) 0 g i j) :
    (s.setActive k b).rd g i j = s.rd g i j := rd_wr_apart _ _ h

/-- The state in which a power-on hour has been counted, before its record. -/
def State.hourBegun (s : State) : State :=
  State.sat { s with lch := { s.lch with
    hourCount := 0, dropped := 0, folded := [], hourCorr := 0, hourCont := 0, hourFatal := 0, hourTjMax := none,
    hourTjMin := none, hourCycles := 0, hoursSincePlan := s.lch.hoursSincePlan + 1 } } Reg.LCH_LIFE_POH 1

/-- What a record leaves of the account of the hour. -/
theorem addRecord_lch (s : State) (type body body2 : Nat) :
    let t := addRecord s type body body2
    t.lch.hoursSincePlan = s.lch.hoursSincePlan ∧ t.lch.hourCount ≤ s.lch.hourCount + 1 ∧ t.lch.folded = s.lch.folded
      ∧ (s.lch.buffer.length < 64 → s.lch.hourCount < 256 → t.lch.buffer = s.lch.buffer ++ [recordWords s type false false body body2]) := by
  unfold addRecord
  dsimp only
  by_cases full : s.lch.buffer.length ≥ 64 ∨ (!false) = true ∧ s.lch.hourCount ≥ 256
  · rw [if_pos full]
    exact ⟨rfl, Nat.le_succ _, rfl, fun room count => by simp at full; omega⟩
  · rw [if_neg full]
    exact ⟨rfl, le_rfl, rfl, fun _ _ => rfl⟩

/-- A temperature sample: what it shows stays as the thermal cycle is followed and the lasting cause is raised. -/
theorem thermalSample_leads {s : State} (tj : Nat) (clocks : s.clocks) (running : s.bt.inReset = false) :
    ∃ u, exec (.thermalSample tj) s = .next u ∧ u.bt.tj = tj ∧ ∀ g : Fld, g = Reg.LCH_THERMAL_TJ_NOW ∨ g = Reg.LCH_THERMAL_TJ_MAX →
      u.rd g = ((s.wr Reg.LCH_THERMAL_TJ_NOW (min tj 255)).high Reg.LCH_THERMAL_TJ_MAX (min tj 255)).rd g := by
  obtain ⟨v, shown, bt, rd⟩ : ∃ v : State, v = (((State.wr { s with bt := { s.bt with tj := tj }, lch := { s.lch with
      hourTjMax := some (max (min tj 255) (s.lch.hourTjMax.getD 0)), hourTjMin := some (min (min tj 255) (s.lch.hourTjMin.getD 255)) } }
        Reg.LCH_THERMAL_TJ_NOW (min tj 255)).high Reg.LCH_THERMAL_TJ_MAX (min tj 255)).thermalCycle (min tj 255)) ∧ v.bt.tj = tj
      ∧ ∀ g : Fld, g = Reg.LCH_THERMAL_TJ_NOW ∨ g = Reg.LCH_THERMAL_TJ_MAX →
        v.rd g = ((s.wr Reg.LCH_THERMAL_TJ_NOW (min tj 255)).high Reg.LCH_THERMAL_TJ_MAX (min tj 255)).rd g := by
    refine ⟨_, rfl, by rw [thermalCycle_bt]; rfl, ?_⟩
    rintro g (rfl | rfl)
    · exact (thermalCycle_rd _ _ (by decide)).trans (rd_congr rfl ..)
    · exact (thermalCycle_rd _ _ (by decide)).trans (rd_congr rfl ..)
  rw [exec_thermalSample, execThermalSample, s.clocked_runs clocks, if_neg (by simp [running])]
  dsimp only
  rw [← shown]
  have active (b : Bool) {g : Fld} (h : g = Reg.LCH_THERMAL_TJ_NOW ∨ g = Reg.LCH_THERMAL_TJ_MAX) : (v.setActive 5 b).rd g = v.rd g := by
    obtain rfl | rfl := h
    · exact setActive_rd _ _ _ (by decide)
    · exact setActive_rd _ _ _ (by decide)
  split
  · split
    · exact ⟨v, rfl, bt, rd⟩
    · refine ⟨_, rfl, by rw [raise_bt]; exact bt, ?_⟩
      intro g h
      refine Eq.trans ?_ ((active true h).trans (rd g h))
      obtain rfl | rfl := h
      · exact raise_rd_lichen (by decide) (by decide) (by decide) ..
      · exact raise_rd_lichen (by decide) (by decide) (by decide) ..
  · exact ⟨_, rfl, bt, fun g h => (active false h).trans (rd g h)⟩

/-- Settles O55: each command by its branch; the record of an hour by `addRecord_lch`, a sample by `thermalSample_leads`. -/
theorem lifetimeMonitorActs : Obligations.LifetimeMonitorActs := by
  unfold Obligations.LifetimeMonitorActs
  intro s m tj mv r l pins
  refine ⟨?_, ?_, ?_, ?_, ?_, ?_, ?_, ?_⟩
  · intro due idle
    rw [exec_replanTimer, execReplanTimer, s.clocked_runs pins.1, if_pos ⟨due, by rw [idle]; rfl⟩]
    rfl
  · intro busy moves answered tried read
    obtain ⟨up, down, other, between⟩ := nextSet_spec moves
    rw [Leads, exec_vcoreStep, execVcoreStep, s.clocked_runs pins.1, if_pos ⟨busy, moves, by rw [answered]; rfl, by rw [tried]; rfl, by rw [read]; rfl⟩]
    refine ⟨_, rfl, s.lch.nextSet, ?_, up, down, other, between, ?_⟩
    · simp [State.emit, pins.2]
    · simp
  · intro retry
    rw [Leads, exec_avsRetryTimer, execAvsRetryTimer, s.clocked_runs pins.1, if_pos retry]
    refine ⟨_, rfl, ?_, ?_, ?_⟩
    · simp [State.emit, pins.2]
    · simp
    · simp
  · intro out moves
    rw [Leads, exec_avsResponse, execAvsResponse, s.atPins_runs pins.1 pins.2]
    simp only [State.avsResponse, out, moves, if_true, if_false]
    exact ⟨_, rfl, rfl, rfl, rd_wr_same _ _ _ _ _ (by decide)⟩
  · intro out tries
    simp [execAvsResponse, s.atPins_runs pins.1 pins.2, State.avsResponse, out, tries, ok]
  · intro locked
    rw [Leads, exec_pohHour, execPohHour, if_neg (by simp [locked])]
    obtain ⟨since, count, folded, kept⟩ := addRecord_lch s.hourBegun 2 _ _
    refine ⟨_, rfl, since, fun room => ⟨_, kept room (by decide : 0 < 256), recordWords_type _ _ _ _ _ _ (by decide)⟩, count.trans le_rfl, folded, ?_⟩
    rw [addRecord_rd _ _ _ _ (by decide), rd_sat_same _ _ _ _ _ (by decide)]
    rfl
  · intro running
    obtain ⟨u, outcome, bt, rd⟩ := thermalSample_leads tj pins.1 running
    refine ⟨u, outcome, ?_, bt, ?_⟩
    · rw [rd _ (.inl rfl), rd_high_apart _ _ (by decide), rd_wr_same _ _ _ _ _ (by decide)]
      exact Nat.mod_eq_of_lt (by dsimp only [Reg.LCH_THERMAL_TJ_NOW]; omega)
    · have max_lt := rd_lt s Reg.LCH_THERMAL_TJ_MAX 0 0
      rw [rd _ (.inr rfl), State.high, rd_wr_same _ _ _ _ _ (by decide), rd_wr_apart _ _ (by decide), Nat.mod_eq_of_lt] <;>
        dsimp only [Reg.LCH_THERMAL_TJ_MAX] at * <;> omega
  · intro next runs idle first last wf
    rw [Leads, exec_logRecordProgram, execLogRecordProgram, s.atPins_runs pins.1 pins.2, next]
    dsimp only
    rw [if_neg (by simp [runs, idle]), if_neg (by simp), if_neg (show ¬s.lch.headSlot = 128 by omega), if_neg (show ¬s.lch.headSlot = 0 by omega)]
    refine ⟨_, rfl, ?_, ?_, ?_⟩
    · rw [State.wr_lch, programmed_eq]
    · have back := readN_writeN 0xFF s.flash (logBase + 4096 * s.rd Reg.LCH_LOG_STATUS_HEAD_SECTOR + 32 * s.lch.headSlot)
        (ofWords (numbered (s.rd Reg.LCH_LOG_STATUS_SEQ) r)) wf
      rw [numbered_length] at back
      rw [State.flashRead, State.wr_flash]
      dsimp only
      rw [logWrite_flash]
      exact back
    · rw [State.wr_lch, programmed_eq]
      rfl

end Sys2Proof.Machine

/-! PROOFS. What reset leaves, and words written out bit by bit. -/

namespace Sys2Proof.Machine

theorem reset_reg (a rst : Nat) : State.reset.reg a rst = resetWord a rst := rfl

/-- A field outside EVT_SRC_CFG reads the reset value of its register's table. -/
theorem reset_rd {f : Fld} {i j : Nat} (other : ¬(0x101000 ≤ f.addr i j ∧ f.addr i j < 0x103000)) :
    State.reset.rd f i j = bits (BitVec.ofNat 64 f.rst) f.lo f.w := by
  rw [State.rd, reset_reg, resetWord, if_neg other]

/-- The configuration of an event source at reset (R400, R410). -/
theorem reset_sourceConfig {k : Nat} (small : k < 1024) : State.reset.reg (Reg.EVT_SRC_CFG_INT.addr k 0) 0
    = BitVec.ofNat 64 ((classOf k).getD 0 * 2 ^ 24 + if fmAtReset k then 128 else 0) := by
  have place : Reg.EVT_SRC_CFG_INT.addr k 0 = 0x101000 + 8 * k := rfl
  have index : (0x101000 + 8 * k - 0x101000) / 8 = k := by omega
  rw [reset_reg, place, resetWord, if_pos (by omega), index]

theorem classCode_lt (k : Nat) : (classOf k).getD 0 < 4 := by
  cases class_ : classOf k with
  | none => decide
  | some c =>
    have := classOf_lt_three class_
    exact Nat.lt_trans this (by decide)

/-- The fields of an event source's configuration at reset. -/
theorem reset_sourceConfig_fields {k : Nat} (small : k < 1024) : State.reset.rd Reg.EVT_SRC_CFG_CLASS k = (classOf k).getD 0
    ∧ bits (State.reset.reg (Reg.EVT_SRC_CFG_INT.addr k 0) 0) 0 7 = 0
    ∧ State.reset.rd Reg.EVT_SRC_CFG_FM k = if fmAtReset k then 1 else 0 := by
  have word := reset_sourceConfig small
  have code := classCode_lt k
  have class_ : State.reset.rd Reg.EVT_SRC_CFG_CLASS k = bits (State.reset.reg (Reg.EVT_SRC_CFG_INT.addr k 0) 0) 24 2 := rfl
  have fm : State.reset.rd Reg.EVT_SRC_CFG_FM k = bits (State.reset.reg (Reg.EVT_SRC_CFG_INT.addr k 0) 0) 7 1 := rfl
  rw [class_, fm, word]
  simp only [bits, BitVec.toNat_ofNat, Nat.shiftRight_eq_div_pow]
  generalize (classOf k).getD 0 = c at *
  split <;> refine ⟨?_, ?_, ?_⟩ <;> omega

/-- Settles O58: the reset state's registers by the table and by `resetWord`, and each word by decoding it. -/
theorem resetAndWordsOfTheSpec : Obligations.ResetAndWordsOfTheSpec := by
  unfold Obligations.ResetAndWordsOfTheSpec
  refine ⟨⟨rfl, rfl, rfl, rfl, rfl, rfl, rfl, rfl, rfl, rfl, by decide, fun k small => ?_, fun w small => ?_, by decide, fun n => ⟨rfl, rfl⟩⟩,
    fun t => ⟨rfl, rfl, rfl, rfl, rfl, rfl, rfl, rfl, rfl, rfl, rfl, rfl, rfl, rfl, rfl, rfl, rfl⟩⟩
  · obtain ⟨class_, off, fm⟩ := reset_sourceConfig_fields small
    refine ⟨class_, off, fm.trans ?_⟩
    simp [fmAtReset, or_assoc]
  · refine ⟨(reset_rd ?_).trans rfl, (reset_rd ?_).trans rfl⟩
    all_goals
      simp only [Fld.addr, Reg.LCK_WORD_IDENTITY, Reg.LCK_WORD_HOLDER]
      omega

end Sys2Proof.Machine

/-! PROOFS. The flash commands, JTAG and the debug unlock, the SMBus target, and the sampler's records (R444, R447, R448, R467, R485, R486). -/

namespace Sys2Proof.Machine

/-! ### Bytes -/

theorem ofWords_length (ws : List Word) : (ofWords ws).length = 8 * ws.length := by
  induction ws with
  | nil => rfl
  | cons w ws ih =>
    rw [ofWords, List.flatMap_cons, List.length_append, leBytes_length, ← ofWords, ih, List.length_cons]
    omega

/-- A memory that has lost the bytes of some places reads there as a place that is not listed. -/
theorem read_erased (d : Byte) (m : List Host.Cell) (p : Nat → Bool) (y : Nat) :
    Memory.read d (m.filter fun c => !p c.1) y = if p y then d else Memory.read d m y := by
  induction m with
  | nil => simp [Memory.read]
  | cons c m ih =>
    obtain ⟨k, v⟩ := c
    by_cases gone : p k = true
    · rw [List.filter_cons_of_neg (by simp [gone]), ih, Memory.read]
      by_cases here : k = y
      · subst here
        simp [gone]
      · simp [here]
    · rw [List.filter_cons_of_pos (by simp [gone]), Memory.read, Memory.read, ih]
      by_cases here : k = y
      · subst here
        simp [gone]
      · simp [here]

/-! ### The end of a flash command (R444) -/

/-- The state after a flash command that has ended with a state and a STATUS. -/
def State.flashEnded (r : State × Nat) : State :=
  (State.wr { r.1 with bt := { r.1.bt with flashOp := none } } Reg.BOOT_FLASH_CMD_BUSY 0).wr Reg.BOOT_FLASH_CMD_STATUS r.2

theorem execFlashCommandDone_ends {s : State} {op : Nat} (clocks : s.clocks) (free : s.bt.isolated = false) (under : s.bt.flashOp = some op) :
    exec (.flashCommandDone true) s = .next (State.flashEnded (s.flashEnd op s.bt.flashAddr s.bt.flashData true)) := by
  rw [exec_flashCommandDone, execFlashCommandDone, s.atPins_runs clocks free, under]
  rfl

theorem flashEnded_flash (r : State × Nat) : (State.flashEnded r).flash = r.1.flash := rfl

/-- What the end of a flash command shows. -/
theorem flashEnded_shows {r : State × Nat} {t : State} {v : Nat} (done : r = (t, v)) (small : v < 256) : (State.flashEnded r).bt.flashOp = none
    ∧ (State.flashEnded r).rd Reg.BOOT_FLASH_CMD_BUSY = 0 ∧ (State.flashEnded r).rd Reg.BOOT_FLASH_CMD_STATUS = v := by
  subst done
  refine ⟨rfl, ?_, ?_⟩
  · rw [State.flashEnded, rd_wr_apart _ _ (by decide), rd_wr_same _ _ _ _ _ (by decide), Nat.zero_mod]
  · rw [State.flashEnded, rd_wr_same _ _ _ _ _ (by decide)]
    exact Nat.mod_eq_of_lt small

theorem flashEnded_rd (r : State × Nat) {g : Fld} (busy : Reg.BOOT_FLASH_CMD_BUSY.apart 0 0 g 0 0) (status : Reg.BOOT_FLASH_CMD_STATUS.apart 0 0 g 0 0) :
    (State.flashEnded r).rd g = r.1.rd g :=
  (rd_wr_apart _ _ status).trans ((rd_wr_apart _ _ busy).trans rfl)

theorem ite_lt {p : Prop} [Decidable p] {a b n : Nat} (ha : a < n) (hb : b < n) : (if p then a else b) < n := by
  split <;> assumption

/-- The results of a slot are codes of four bits. -/
theorem slotCheck_lt (s : State) (base : Nat) : s.slotCheck base < 16 := by
  rw [State.slotCheck]
  refine ite_lt (by decide) (ite_lt (by decide) (ite_lt (by decide) (ite_lt (by decide) (ite_lt (by decide) (ite_lt (by decide) (by decide))))))

/-! ### JTAG (R447) -/

theorem jtagLoad_free {s : State} (free : s.bt.isolated = false) (i : JtagInstr) :
    s.jtagLoad i = { s with bt := { s.bt with jtag := some (s.jtagActs i), isolated := isolates (s.jtagActs i) } } :=
  if_neg (by simp [free])

/-- A debug instruction acts as itself and isolates nothing. -/
theorem jtagLoad_debug {s : State} (free : s.bt.isolated = false) {i : JtagInstr} (h : i = .dbgChallenge ∨ i = .dbgResponse) :
    s.jtagLoad i = { s with bt := { s.bt with jtag := some i } } := by
  rw [jtagLoad_free free]
  have acts : s.jtagActs i = i := if_neg (by obtain rfl | rfl := h <;> simp)
  have open_ : isolates i = false := by obtain rfl | rfl := h <;> rfl
  rw [acts, open_, ← free]

theorem responseOk_jtag (s : State) (j : Option JtagInstr) (scope : Byte) (key sig : List Byte) :
    State.responseOk { s with bt := { s.bt with jtag := j } } scope key sig = s.responseOk scope key sig := rfl

/-- A debug scope opens. -/
theorem scopes_lt (s : State) (scope : Byte) : s.rd Reg.BOOT_STATUS_DEBUG_OPEN ||| scope.toNat % 8 < 8 :=
  Nat.or_lt_two_pow (n := 3) (rd_lt s Reg.BOOT_STATUS_DEBUG_OPEN 0 0) (Nat.mod_lt _ (by decide))

/-! ### The sampler's records (R485, R486) -/

theorem record_length (x : Tag) (n : Nat) (truncated : Bool) : (x.record n truncated).length = 64 := by
  simp [Tag.record, ofWords_length]

/-- Showing the items in flight leaves the sampler's ring and its producer. -/
theorem tagsShown_ring (s : State) : s.tagsShown.sampleRing = s.sampleRing
    ∧ s.tagsShown.rd Reg.CTR_SAMPLE_PROD_PROD = s.rd Reg.CTR_SAMPLE_PROD_PROD := by
  have part : s.tagsShown.rd Reg.CTR_SAMPLE_CFG_PARTITION = s.rd Reg.CTR_SAMPLE_CFG_PARTITION := by
    rw [State.tagsShown, rd_wr_apart _ _ (by decide), rd_wr_apart _ _ (by decide)]
  have small := rd_lt s Reg.CTR_SAMPLE_CFG_PARTITION 0 0
  have size (f : Fld) (hf : f = Reg.GLB_STORE_PART_BASE_GIB ∨ f = Reg.GLB_STORE_PART_SIZE_GIB) :
      s.tagsShown.rd f (s.rd Reg.CTR_SAMPLE_CFG_PARTITION) = s.rd f (s.rd Reg.CTR_SAMPLE_CFG_PARTITION) := by
    have other (g : Fld) (hg : g = Reg.CTR_SAMPLE_STATUS_INSTR_IN_FLIGHT ∨ g = Reg.CTR_SAMPLE_STATUS_PKT_IN_FLIGHT) :
        g.apart 0 0 f (s.rd Reg.CTR_SAMPLE_CFG_PARTITION) 0 := by
      refine .inl ?_
      obtain rfl | rfl := hf <;> obtain rfl | rfl := hg <;>
        simp only [Fld.addr, Reg.GLB_STORE_PART_BASE_GIB, Reg.GLB_STORE_PART_SIZE_GIB, Reg.CTR_SAMPLE_STATUS_INSTR_IN_FLIGHT,
          Reg.CTR_SAMPLE_STATUS_PKT_IN_FLIGHT, Reg.CTR_SAMPLE_CFG_PARTITION] at * <;> omega
    rw [State.tagsShown, rd_wr_apart _ _ (other _ (.inr rfl)), rd_wr_apart _ _ (other _ (.inl rfl))]
  refine ⟨?_, ?_⟩
  · simp only [State.sampleRing, State.partOf, part, size _ (.inl rfl), size _ (.inr rfl)]
  · rw [State.tagsShown, rd_wr_apart _ _ (by decide), rd_wr_apart _ _ (by decide)]

@[simp] theorem commit_ctr (s : State) (a : Nat) (l : List Byte) : (s.commit a l).ctr = s.ctr := by
  by_cases h : l = []
  · subst h
    rfl
  · rw [sameBut_eq (commit_sameBut s a h)]
    rfl

/-- A tagged item that ends has its record in the ring. -/
theorem endTag_record {s : State} {tag : Nat} {x : Tag} (truncated : Bool) (found : s.ctr.tags.find? (·.id == tag) = some x)
    (room : s.sampleRing.2 ≠ 0) (wf : Memory.wf 0 s.store = true) :
    let t := s.endTag (some tag) truncated
    let n := s.rd Reg.CTR_SAMPLE_PROD_PROD
    t.ctr.tags = s.ctr.tags.filter (·.id != tag) ∧ t.storeRead (s.sampleRing.1 + 64 * (n % s.sampleRing.2)) 64 = x.record n truncated := by
  have id_ : x.id = tag := by simpa using List.find?_some found
  obtain ⟨ring, producer⟩ := tagsShown_ring { s with ctr := { s.ctr with tags := s.ctr.tags.filter (·.id != x.id) } }
  have ended : s.endTag (some tag) truncated =
      (State.commit (State.tagsShown { s with ctr := { s.ctr with tags := s.ctr.tags.filter (·.id != x.id) } })
        (s.sampleRing.1 + 64 * (s.rd Reg.CTR_SAMPLE_PROD_PROD % s.sampleRing.2)) (x.record (s.rd Reg.CTR_SAMPLE_PROD_PROD) truncated)).wr
          Reg.CTR_SAMPLE_PROD_PROD (s.rd Reg.CTR_SAMPLE_PROD_PROD + 1) := by
    rw [State.endTag, Option.bind_some, found]
    dsimp only
    rw [ring, producer]
    exact if_neg room
  intro t n
  have back := readN_writeN 0 s.store (s.sampleRing.1 + 64 * (s.rd Reg.CTR_SAMPLE_PROD_PROD % s.sampleRing.2))
    (x.record (s.rd Reg.CTR_SAMPLE_PROD_PROD) truncated) wf
  rw [record_length] at back
  dsimp only [t]
  rw [ended]
  refine ⟨?_, ?_⟩
  · rw [State.wr_ctr, commit_ctr, ← id_]
    rfl
  · rw [State.storeRead, State.wr_store, commit_store]
    exact back

/-- Settles O57: the end of a flash command by `flashEnded_shows`, the sample by `endTag_record`; an isolated core does nothing. -/
theorem flashDebugAndSmbusAct : Obligations.FlashDebugAndSmbusAct := by
  unfold Obligations.FlashDebugAndSmbusAct
  intro s i nonce key sig b scope tag x up
  dsimp only
  refine ⟨fun free => ⟨?erase, ?misplaced, ?program, ?flashRead, ?check, ?jtag, ?challenge, ?bad, ?good, ?lockout, ?setOffset, ?read, ?readHeld,
    ?write, ?nak, ?sample⟩, fun isolated => ⟨?leave, ?iSet, ?iRead, ?iWrite, ?iFlash⟩⟩
  case erase =>
    intro unguarded place clocks under
    have done : s.flashEnd 1 s.bt.flashAddr s.bt.flashData true = (s.flashErase s.bt.flashAddr 4096, St.success) := by
      simp [State.flashEnd, unguarded, place]
    refine ⟨_, execFlashCommandDone_ends clocks free under, ?_⟩
    obtain ⟨op, busy, status⟩ := flashEnded_shows done (by decide)
    refine ⟨op, busy, status, fun y => ?_⟩
    rw [flashEnded_flash, done]
    have page : s.bt.flashAddr / 4096 * 4096 = s.bt.flashAddr := Nat.div_mul_cancel (Nat.dvd_of_mod_eq_zero place)
    have lost := read_erased 0xFF s.flash (fun y => decide (s.bt.flashAddr ≤ y ∧ y < s.bt.flashAddr + 4096)) y
    rw [page]
    simpa [State.flashErase] using lost
  case misplaced =>
    intro clocks under place
    have done : s.flashEnd 1 s.bt.flashAddr s.bt.flashData true = (s, St.badDescriptor) := by simp [State.flashEnd, place]
    refine ⟨_, execFlashCommandDone_ends clocks free under, ?_⟩
    obtain ⟨-, -, status⟩ := flashEnded_shows done (by decide)
    exact ⟨by rw [flashEnded_flash, done], status⟩
  case program =>
    intro unguarded place wf clocks under
    have done : s.flashEnd 2 s.bt.flashAddr s.bt.flashData true = (s.flashWrite s.bt.flashAddr (leBytes 8 s.bt.flashData), St.success) := by
      simp [State.flashEnd, unguarded, place]
    refine ⟨_, execFlashCommandDone_ends clocks free under, ?_⟩
    obtain ⟨op, busy, status⟩ := flashEnded_shows done (by decide)
    have back := readN_writeN 0xFF s.flash s.bt.flashAddr (leBytes 8 s.bt.flashData) wf
    rw [leBytes_length] at back
    refine ⟨op, busy, status, ?_, fun y outside => ?_⟩
    · rw [State.flashRead, flashEnded_flash, done]
      exact back
    · rw [flashEnded_flash, done]
      exact read_writeN_other 0xFF s.flash s.bt.flashAddr y (leBytes 8 s.bt.flashData) (by rw [leBytes_length]; exact outside)
  case flashRead =>
    intro inside clocks under
    have done : s.flashEnd 3 s.bt.flashAddr s.bt.flashData true =
        (s.wr Reg.BOOT_FLASH_DATA_DATA (ofLE (s.flashRead s.bt.flashAddr 8)), St.success) := by
      rw [State.flashEnd, if_neg (by decide), if_neg (by decide), if_pos rfl, if_neg (Nat.not_lt.2 inside), if_pos rfl]
    refine ⟨_, execFlashCommandDone_ends clocks free under, ?_⟩
    obtain ⟨op, busy, status⟩ := flashEnded_shows done (by decide)
    refine ⟨op, busy, status, ?_, by rw [flashEnded_flash, done]; rfl⟩
    rw [flashEnded_rd _ (by decide) (by decide), done, rd_wr_same _ _ _ _ _ (by decide)]
    have small := ofLE_lt (s.flashRead s.bt.flashAddr 8)
    rw [State.flashRead, Memory.readN, List.length_map, List.length_range] at small
    exact Nat.mod_eq_of_lt small
  case check =>
    intro slot clocks under
    have done : s.flashEnd 4 s.bt.flashAddr s.bt.flashData true =
        (s.wr Reg.BOOT_FLASH_CMD_RESULT (s.slotCheck s.bt.flashAddr), St.success) := by
      obtain h | h := slot <;> simp [State.flashEnd, slotBase, h]
    refine ⟨_, execFlashCommandDone_ends clocks free under, ?_⟩
    obtain ⟨op, busy, status⟩ := flashEnded_shows done (by decide)
    refine ⟨op, busy, status, ?_, by rw [flashEnded_flash, done]; rfl⟩
    rw [flashEnded_rd _ (by decide) (by decide), done, rd_wr_same _ _ _ _ _ (by decide)]
    exact Nat.mod_eq_of_lt (slotCheck_lt s s.bt.flashAddr)
  case jtag => rw [exec_jtagInstructionLoad, execJtagInstructionLoad, if_pos up, jtagLoad_free free]; rfl
  case challenge =>
    intro clocks unlocked
    rw [Leads, exec_dbgChallenge, execDbgChallenge, s.clocked_runs clocks, if_neg (by simp [up]), jtagLoad_debug free (.inl rfl)]
    dsimp only
    rw [if_neg (by simp [unlocked]), emit_inner rfl]
    exact ⟨_, rfl, rfl, rfl⟩
  case bad =>
    intro clocks bad
    rw [Leads, exec_dbgResponse, execDbgResponse, s.clocked_runs clocks, if_neg (by simp [up]), jtagLoad_debug free (.inr rfl)]
    dsimp only
    rw [responseOk_jtag, if_neg (ne_true_of_eq_false bad)]
    exact ⟨_, rfl, rfl, rfl, rfl⟩
  case good =>
    intro clocks good running
    rw [Leads, exec_dbgResponse, execDbgResponse, s.clocked_runs clocks, if_neg (by simp [up]), jtagLoad_debug free (.inr rfl)]
    dsimp only
    rw [responseOk_jtag, if_pos good]
    refine ⟨_, rfl, _, if_neg (ne_true_of_eq_false running), ?_⟩
    refine ⟨rfl, rfl, ?_⟩
    rw [rd_wr_same _ _ _ _ _ (by decide)]
    exact Nat.mod_eq_of_lt (scopes_lt s scope)
  case lockout =>
    intro clocks
    rw [exec_dbgLockoutExpiry, execDbgLockoutExpiry, s.clocked_runs clocks]
    rfl
  case setOffset =>
    intro four aligned
    simp [execSetOffset, up, free, four, aligned, ok]
  case read =>
    intro low running locked u v reads
    simp [execRead, up, free, Nat.not_le.2 low, running, locked, reads, ok]
  case readHeld =>
    intro low held core
    simp [execRead, up, free, Nat.not_le.2 low, held, core, ok]
  case write =>
    intro low eight
    simp [execWrite, up, free, Nat.not_le.2 low, eight, ok]
  case nak => simp [execSetOffset, execRead, execWrite, up, free, ok]
  case sample =>
    intro clocks found room wf
    rw [Leads, exec_sampleHoldExpiry, execSampleHoldExpiry, s.clocked_runs clocks]
    exact ⟨_, rfl, endTag_record true found room wf⟩
  case leave =>
    intro leaves
    rw [exec_jtagInstructionLoad, execJtagInstructionLoad, if_pos up, State.jtagLoad]
    dsimp only
    rw [if_pos ⟨isolated, by rw [leaves]; rfl⟩, leaves]
    rfl
  case iSet => simp [execSetOffset, isolated, ok]
  case iRead => simp [execRead, isolated, ok]
  case iWrite => simp [execWrite, isolated, ok]
  case iFlash =>
    rw [exec_flashCommandDone, execFlashCommandDone, State.atPins, if_pos (.inr isolated)]
    rfl

end Sys2Proof.Machine

/-! PROOFS. What an accepted write of one register does: it stores its fields, and the action of its address runs (R6, R474). -/

namespace Sys2Proof.Machine

/-! ### Single bits of a written word -/

theorem getLsbD_two_pow (k j : Nat) : (BitVec.ofNat 64 (2 ^ k)).getLsbD j = (decide (j < 64) && decide (k = j)) := by
  rw [BitVec.getLsbD_ofNat, Nat.testBit_two_pow]

theorem bit_setBit_same (v : Word) {k : Nat} (hk : k < 64) : bit (setBit v k) k = true := by
  rw [bit, setBit, BitVec.getLsbD_or, getLsbD_two_pow]
  simp [hk]

theorem bit_setBit_other (v : Word) {k j : Nat} (h : j ≠ k) : bit (setBit v k) j = v.getLsbD j := by
  rw [bit, setBit, BitVec.getLsbD_or, getLsbD_two_pow]
  simp [Ne.symm h]

theorem bit_clearBit_other (v : Word) {k j : Nat} (h : j ≠ k) (hj : j < 64) : bit (clearBit v k) j = v.getLsbD j := by
  rw [bit, clearBit, BitVec.getLsbD_and, BitVec.getLsbD_not, getLsbD_two_pow]
  simp [Ne.symm h, hj]

/-! ### The record of an accepted write -/

section
variable (s : State) (req : Requester) (a : Nat) (v : Word)

@[simp] theorem writeOf_addr : (s.writeOf req a v).addr = a := rfl
@[simp] theorem writeOf_new : (s.writeOf req a v).new = v := rfl
@[simp] theorem writeOf_req : (s.writeOf req a v).req = req := rfl
@[simp] theorem writeOf_mask (k : Nat) (hk : k < 64) : bit (s.writeOf req a v).mask k = true := by
  rw [State.writeOf, bit, BitVec.getLsbD_allOnes]
  exact decide_eq_true hk

end

/-- An accepted 8-byte write of the register at an offset. -/
theorem write8_accepts {s : State} {req : Requester} {off a : Nat} {v : Word} (h : s.accepts req off a v) :
    s.write8 req off v = .next ((s.stored a v).act (s.writeOf req a v)) := by
  rw [State.write8, regWrite_accepts h]
  rfl

/-- An accepted 8-byte write of a register of an array. -/
theorem writeArr_accepts {s : State} {req : Requester} {f : Fld} {i n a : Nat} {v : Word} (h : s.accepts req a a v) (small : i < n)
    (place : f.addr i 0 = a) : s.writeArr req f i n v = .next ((s.stored a v).act (s.writeOf req a v)) := by
  rw [State.writeArr, if_pos small, place, write8_accepts h]

/-! ### The action of an address -/

section
variable {u : State} {w : Write}

/-! The platform blocks. -/

theorem act_quiesce {n : Nat} (small : n < 8) (at_ : w.addr = 512 + 8 * n) :
    u.act w = u.quiesceSwitch n (w.was 0) (w.want 0) := by
  have place : (512 + 8 * n - 512) / 8 = n := by omega
  rw [State.act, State.actPlatform, at_]
  simp (disch := omega) only [if_pos, place]

theorem act_resRelease (at_ : w.addr = 800) :
    u.act w = if bit w.mask 0 then u.resRelease (bits w.new 0 8) else u := by
  rw [State.act, State.actPlatform, at_]
  simp (disch := omega) only [if_pos, if_neg, if_true]

theorem act_spare (at_ : w.addr = 832) :
    u.act w = (u.claimSpare Reg.GLB_SPARE_XBAR_CTRL_LOOP_EN 1 (w.was 0) (w.want 0)).claimSpare Reg.GLB_SPARE_XBAR_CTRL_MIRROR_EN 2 (w.was 1) (w.want 1) := by
  rw [State.act, State.actPlatform, at_]
  simp (disch := omega) only [if_pos, if_neg, if_true]

theorem act_resetCtrl (at_ : w.addr = 0x1008) :
    u.act w = u.resetCtrl w.new := by
  rw [State.act, State.actPlatform, at_]
  simp (disch := omega) only [if_pos, if_neg, if_true]

theorem act_flash (at_ : w.addr = 0x1110) :
    u.act w = u.flashGo (bits w.new 0 3) := by
  rw [State.act, State.actPlatform, at_]
  simp (disch := omega) only [if_pos, if_neg, if_true]

theorem act_evtStatus {n : Nat} (small : n < 16) (at_ : w.addr = 0x100000 + 8 * n) :
    u.act w = (u.wr Reg.EVT_STATUS_STATUS
      (u.rd Reg.EVT_STATUS_STATUS n ||| (w.old.toNat &&& u.rd Reg.EVT_ACTIVE_ACTIVE n)) n).aliveCheck := by
  have place : (0x100000 + 8 * n - 0x100000) / 8 = n := by omega
  rw [State.act, State.actPlatform, at_]
  simp (disch := omega) only [if_pos, if_neg, place]

theorem act_faultInject (at_ : w.addr = 0x100208) :
    u.act w = if bit w.new 10 ∧ u.on Reg.FLT_CTRL_INJECT_EN ∧ u.factory then
      u.raise (u.rd Reg.FLT_INJECT_SOURCE) (u.rd Reg.FLT_INJECT_INFO) true else u := by
  rw [State.act, State.actPlatform, at_]
  simp (disch := omega) only [if_pos, if_neg, if_true]

theorem act_alive (at_ : w.addr = 0x100210) :
    u.act w = if w.want 0 then u.aliveStart else u := by
  rw [State.act, State.actPlatform, at_]
  simp (disch := omega) only [if_pos, if_neg, if_true]

theorem act_replan {m : Measurement} (measured : w.meas = some m) (at_ : w.addr = 0x200018) :
    u.act w = if bit w.new 0 then u.replan m else u := by
  rw [State.act, State.actPlatform, at_, measured]
  simp (disch := omega) only [if_pos, if_neg, if_true]

theorem act_proposal (at_ : w.addr = 0x200030) :
    u.act w = (let t := if bit w.new 8 then u.approve (u.rd Reg.LCH_PROPOSAL_CMD_ID) else u
      if bit w.new 9 then t.declineProposal (u.rd Reg.LCH_PROPOSAL_CMD_ID) else t) := by
  rw [State.act, State.actPlatform, at_]
  simp (disch := omega) only [if_pos, if_neg, if_true]

theorem act_calendar (at_ : w.addr = 0x200038) :
    u.act w = u.calendarSet (bits w.cand 0 40) := by
  rw [State.act, State.actPlatform, at_]
  simp (disch := omega) only [if_pos, if_neg, if_true]

theorem act_platformNone {a : Nat} (h : a = 1536 ∨ a = 0x100200) (at_ : w.addr = a) :
    u.act w = u := by
  rw [State.act, State.actPlatform, at_]
  simp (disch := omega) only [if_pos, if_neg]

/-! The blocks of the network, the host functions and the units. -/

theorem act_abi {fn : Nat} (small : fn < 2048) (at_ : w.addr = 0x4000000 + 32 * fn) :
    u.act w = if bit w.new 16 then u.abiGo fn else u := by
  have place : (0x4000000 + 32 * fn - 0x4000000) / 32 = fn := by omega
  have first : (0x4000000 + 32 * fn) % 32 = 0 := by omega
  rw [State.act, State.actHost, at_]
  simp (disch := omega) only [if_pos, if_neg, place, first, true_and]

theorem act_swarm (at_ : w.addr = 0xC00000) :
    u.act w = (u.swarmSwitch (w.was 0) (w.want 0)).slotsShown := by
  rw [State.act, State.actHost, at_]
  simp (disch := omega) only [if_pos, if_neg, if_true]

theorem act_frond (at_ : w.addr = 0xC00020) :
    u.act w = settle (u.frondCtrl (BitVec.ofNat 64 (u.rd Reg.SWM_FROND_CTRL_GID + bits w.new 16 2 * 2 ^ 16))) := by
  rw [State.act, State.actHost, at_]
  simp (disch := omega) only [if_pos, if_neg, if_true]

theorem act_mgmt (at_ : w.addr = 0x1000008) :
    u.act w = if bit w.new 2 then u.dropOwner else u := by
  rw [State.act, State.actHost, at_]
  simp (disch := omega) only [if_pos, if_neg, if_true]

theorem act_swap (at_ : w.addr = 0x1000100) :
    u.act w = (let t := if bit w.new 4 ∧ bit w.old 2 then u.wr Reg.RTE_SWAP_PENDING 0 else u
      if bit w.new 0 ∧ !bit w.old 2 then t.swapGo.announce t else t) := by
  rw [State.act, State.actHost, at_]
  simp (disch := omega) only [if_pos, if_neg, if_true]

theorem act_link {p : Nat} (small : p < 72) (at_ : w.addr = 0x2000000 + 0x10000 * p) :
    u.act w = if w.was 0 && !w.want 0 then settle (u.linkOff p) else if !w.was 0 && w.want 0 then u.linkEnabled p else u := by
  have place : (0x2000000 + 0x10000 * p - 0x2000000) / 0x10000 = p := by omega
  rw [State.act, State.actLink, at_]
  simp (disch := omega) only [if_pos, if_neg, place]

theorem act_exercise {p : Nat} (small : p < 72) (at_ : w.addr = 0x2000100 + 0x10000 * p) :
    u.act w = u.exerciseSwitch p (w.was 0) (w.want 0) := by
  have place : (0x2000100 + 0x10000 * p - 0x2000000) / 0x10000 = p := by omega
  rw [State.act, State.actLink, at_]
  simp (disch := omega) only [if_pos, if_neg, place]

theorem act_portCfg {p : Nat} (small : p < 72) (at_ : w.addr = 0x2810000 + 0x1000 * p) :
    u.act w = (let t := if u.rd Reg.LAN_PORT_CFG_RATE p = 2 then u.lanesOff p else u
      if w.was 8 = w.want 8 then t else settle (t.retireBySoftware p (w.want 8))) := by
  have place : (0x2810000 + 0x1000 * p - 0x2810000) / 0x1000 = p := by omega
  rw [State.act, State.actLink, at_]
  simp (disch := omega) only [if_pos, if_neg, place]

theorem act_pattern {p l : Nat} (small : p < 72) (lane : l < 2) (at_ : w.addr = 0x2810118 + 0x1000 * p + 0x80 * l) :
    u.act w = (let t := if bits w.old 4 3 = bits w.cand 4 3 then u else u.checkerRestart p l
      if bit w.new 8 then t.patternBurst p l else t) := by
  rw [State.act, State.actLink, at_]
  have place : (0x2810118 + 0x1000 * p + 0x80 * l - 0x2810000) / 0x1000 = p := by omega
  have offset : (0x2810118 + 0x1000 * p + 0x80 * l) % 0x1000 = 0x118 + 0x80 * l := by omega
  rw [place, offset]
  simp (disch := omega) only [if_pos, if_neg, Nat.add_sub_cancel_left, Nat.mul_div_cancel_left]

theorem act_pulse (at_ : w.addr = 0x3800018) :
    u.act w = (let t := (u.claimPulse Reg.SCH_PULSE_CFG_PULSE_IN 1 (w.was 0) (w.want 0)).claimPulse Reg.SCH_PULSE_CFG_DEBUG_OUT 2 (w.was 1) (w.want 1)
      t.gateDebug (t.rd Reg.SCH_PULSE_CFG_OUT_PORT)) := by
  rw [State.act, State.actLink, at_]
  simp (disch := omega) only [if_pos, if_neg, if_true]

theorem act_gate {p : Nat} (small : p < 72) (at_ : w.addr = 0x3900028 + 0x2000 * p) :
    u.act w = if bit w.new 1 then (u.gateSwitch p (w.was 0) (w.want 0)).gateGo p else u.gateSwitch p (w.was 0) (w.want 0) := by
  have place : (0x3900028 + 0x2000 * p - 0x3900000) / 0x2000 = p := by omega
  rw [State.act, State.actLink, at_]
  simp (disch := omega) only [if_pos, if_neg, place]

theorem act_context {n : Nat} (small : n < 2048) (at_ : w.addr = 0x3401000 + 8 * n) :
    u.act w = settle (u.contextWritten n) := by
  have place : (0x3401000 + 8 * n - 0x3401000) / 8 = n := by omega
  rw [State.act, State.actLink, at_]
  simp (disch := omega) only [if_pos, if_neg, place]

theorem act_force (at_ : w.addr = 0x3601600) :
    u.act w = if bit w.new 12 then u.forceWord (u.rd Reg.LCK_FORCE_INDEX) (sourceCode w.req) else u := by
  rw [State.act, State.actLink, at_]
  simp (disch := omega) only [if_pos, if_neg, if_true]

theorem act_compatForce (at_ : w.addr = 0x3601608) :
    u.act w = u.forceCompat (bits w.new 0 37) (sourceCode w.req) := by
  rw [State.act, State.actLink, at_]
  simp (disch := omega) only [if_pos, if_neg, if_true]

theorem act_compatRange {n : Nat} (small : n < 8) (at_ : w.addr = 0x3601700 + 16 * n) :
    u.act w = u.compatSwitch n (w.was 0) (w.want 0) := by
  have place : (0x3601700 + 16 * n - 0x3601700) / 16 = n := by omega
  rw [State.act, State.actLink, at_]
  simp (disch := omega) only [if_pos, if_neg, place]

theorem act_lockWord {n : Nat} (small : n < 4096) (at_ : w.addr = 0x3610000 + 8 * n) :
    u.act w = if bit w.mask 0 then u.lockWordWrite w.req n (bits w.new 0 16) else u := by
  have place : (0x3610000 + 8 * n - 0x3610000) / 8 = n := by omega
  rw [State.act, State.actLink, at_]
  simp (disch := omega) only [if_pos, if_neg, place]

theorem act_ctrCtrl (at_ : w.addr = 0x3C02000) :
    u.act w = if bit w.new 1 then u.resetRegs 0x3C00000 0x3C01000 else u := by
  rw [State.act, State.actLink, at_]
  simp (disch := omega) only [if_pos, if_neg, if_true]
  rfl

theorem act_sampler (at_ : w.addr = 0x3C02008) :
    u.act w = u.samplerSwitch (w.was 0) (w.want 0) := by
  rw [State.act, State.actLink, at_]
  simp (disch := omega) only [if_pos, if_neg, if_true]

theorem act_sampleIndex (at_ : w.addr = 0x3C02028) :
    u.act w = u.sampleCopy (u.rd Reg.CTR_SAMPLE_INDEX_INDEX) := by
  rw [State.act, State.actLink, at_]
  simp (disch := omega) only [if_pos, if_neg, if_true]

theorem act_linkNone {a : Nat} (h : a = 0x3000100 ∨ 0x3C00000 ≤ a ∧ a < 0x3C01000) (at_ : w.addr = a) :
    u.act w = u := by
  rw [State.act, State.actLink, at_]
  simp (disch := omega) only [if_pos, if_neg]

end

theorem pumpAll_none {s : State} (h : s.tp.qps = []) : s.pumpAll = s := by
  rw [State.pumpAll, h]
  rfl

theorem cxlPump_calm {s : State} (h : s.bt.cxlWait = []) : s.cxlPump = s := by
  rw [State.cxlPump, h, List.foldl_nil, ← h]

/-- Settles O16: an accepted write by `write8_accepts`, then the action of its address. -/
theorem platformRegisterCommands : Obligations.PlatformRegisterCommands := by
  unfold Obligations.PlatformRegisterCommands
  refine ⟨?writes, ?claims⟩
  case writes =>
    intro s req v n m
    dsimp only
    refine ⟨fun small h => ?quiesce, fun small h => ?resume, fun h => ?release, fun h => ?loopEn, fun h => ?loopOff, fun h => ?mirrorEn,
      fun h => ?mirrorOff, fun h => ?admin, fun h => ?warm, fun h => ?block, fun h => ?svn, fun h => ?erase, fun h => ?program, fun h => ?read,
      fun h => ?verify, fun small h => ?status, fun h => ?lock, fun h => ?inject, fun h => ?alive, fun h => ?replan, fun single h => ?approve,
      fun single h => ?decline, fun h => ?calendar⟩
    case quiesce => rw [exec_quiesce, execQuiesce, writeArr_accepts h small rfl, act_quiesce small (writeOf_addr ..)]
    case resume => rw [exec_resume, execResume, writeArr_accepts h small rfl, act_quiesce small (writeOf_addr ..)]
    case release =>
      rw [exec_resRelease, execResRelease, write8_accepts h, act_resRelease (writeOf_addr ..), if_pos (writeOf_mask _ _ _ _ _ (by decide)), writeOf_new]
      rfl
    case loopEn => rw [exec_loopEn, execLoopEn, write8_accepts h, act_spare (writeOf_addr ..)]
    case loopOff => rw [exec_loopDisable, execLoopDisable, write8_accepts h, act_spare (writeOf_addr ..)]
    case mirrorEn => rw [exec_mirrorEn, execMirrorEn, write8_accepts h, act_spare (writeOf_addr ..)]
    case mirrorOff => rw [exec_mirrorDisable, execMirrorDisable, write8_accepts h, act_spare (writeOf_addr ..)]
    case admin => rw [exec_adminLock, execAdminLock, write8_accepts h, act_platformNone (.inl rfl) (writeOf_addr ..)]
    case warm => rw [exec_warmChipReset, execWarmChipReset, write8_accepts h, act_resetCtrl (writeOf_addr ..), writeOf_new]
    case block => rw [exec_blockGo, execBlockGo, write8_accepts h, act_resetCtrl (writeOf_addr ..), writeOf_new]
    case svn => rw [exec_svnCommit, execSvnCommit, write8_accepts h, act_resetCtrl (writeOf_addr ..), writeOf_new]
    case erase =>
      rw [exec_flashErase, execFlashErase, write8_accepts h, act_flash (writeOf_addr ..), writeOf_new, bits_putBits_same _ _ _ _ (by decide)]
      rfl
    case program =>
      rw [exec_flashProgram, execFlashProgram, write8_accepts h, act_flash (writeOf_addr ..), writeOf_new, bits_putBits_same _ _ _ _ (by decide)]
      rfl
    case read =>
      rw [exec_flashRead, execFlashRead, write8_accepts h, act_flash (writeOf_addr ..), writeOf_new, bits_putBits_same _ _ _ _ (by decide)]
      rfl
    case verify =>
      rw [exec_flashVerify, execFlashVerify, write8_accepts h, act_flash (writeOf_addr ..), writeOf_new, bits_putBits_same _ _ _ _ (by decide)]
      rfl
    case status => rw [exec_evtStatusClear, execEvtStatusClear, writeArr_accepts h small (by simp [Fld.addr, Reg.EVT_STATUS_STATUS]),
      act_evtStatus small (writeOf_addr ..)]
    case lock => rw [exec_fltLock, execFltLock, write8_accepts h, act_platformNone (.inr rfl) (writeOf_addr ..)]
    case inject =>
      rw [exec_faultInject, execFaultInject, write8_accepts h, act_faultInject (writeOf_addr ..), writeOf_new, bit_setBit_same v (by decide)]
      simp only [true_and]
    case alive => rw [exec_aliveStart, execAliveStart, write8_accepts h, act_alive (writeOf_addr ..)]
    case replan =>
      rw [exec_replan, execReplan, regWrite_accepts h, act_replan (m := m) rfl rfl]
      exact congrArg _ (if_pos (bit_setBit_same v (by decide)))
    case approve =>
      rw [exec_proposalApprove, execProposalApprove, write8_accepts h, act_proposal (writeOf_addr ..), writeOf_new, bit_setBit_same v (by decide),
        bit_setBit_other v (by decide), single]
      rfl
    case decline =>
      rw [exec_proposalDecline, execProposalDecline, write8_accepts h, act_proposal (writeOf_addr ..), writeOf_new, bit_setBit_same v (by decide),
        bit_setBit_other v (by decide), single]
      rfl
    case calendar => rw [exec_calendarSet, execCalendarSet, write8_accepts h, act_calendar (writeOf_addr ..)]
  case claims =>
    intro s n op
    refine ⟨rfl, fun quiet qps waits => ?resume, fun free => ?claim, fun held => ?conflict, fun free => ?pulse, fun loop mirror => ?release,
      fun held loop => ?refused, fun low high idle => ?flash, fun busy high => ?busy⟩
    case resume =>
      rw [State.quiesceSwitch, if_neg (by decide), if_neg (by decide), pumpAll_none (by exact qps),
        cxlPump_calm (by exact waits)]
      exact settle_quiet _ quiet
    case claim => rw [State.claimSpare, if_neg (by decide), if_neg (by decide), free]; rfl
    case conflict => rw [State.claimSpare, if_neg (by decide), if_neg (by decide), held]; rfl
    case pulse => rw [State.claimPulse, if_neg (by decide), if_neg (by decide), free]; rfl
    case release => simp [State.resRelease, loop, mirror]
    case refused => simp [State.resRelease, loop, held]; rfl
    case flash => rw [State.flashGo, if_neg (by omega), if_neg (by omega), if_neg (by simp [idle])]
    case busy => 
      rw [State.flashGo, if_neg (by omega : ¬ 4 < op), if_pos busy]
      simp

end Sys2Proof.Machine

/-! PROOFS. What an accepted write leaves in the fields of its register (R6, R10, R14, R479), and the commands that write one register of
the network and of the units. -/

namespace Sys2Proof.Machine

/-! ### The merge of one field (R6, R475) -/

theorem bits_lt (v : Word) (lo w : Nat) : bits v lo w < 2 ^ w := Nat.mod_lt _ (Nat.two_pow_pos w)

/-- A field that a write covers in full. -/
theorem bits_allOnes {lo w : Nat} (fits : lo + w ≤ 64) : bits (BitVec.allOnes 64) lo w = 2 ^ w - 1 := by
  apply Nat.eq_of_testBit_eq
  intro i
  rw [bits, Nat.testBit_mod_two_pow, Nat.testBit_shiftRight, BitVec.toNat_allOnes, Nat.testBit_two_pow_sub_one, Nat.testBit_two_pow_sub_one]
  by_cases h : i < w <;> simp [h]
  omega

theorem next_rw {f : FieldSpec} (acc : f.acc = .rw ∨ f.acc = .rwl) {w old new : Nat} (ho : old < 2 ^ w) (hn : new < 2 ^ w) :
    f.next old new (2 ^ w - 1) = new := by
  have kept : andNot old (2 ^ w - 1) = 0 := by rw [andNot, Nat.and_two_pow_sub_one_of_lt_two_pow ho, Nat.sub_self]
  obtain h | h := acc <;>
    rw [FieldSpec.next, h] <;> dsimp only <;> rw [kept, Nat.zero_or, Nat.and_two_pow_sub_one_of_lt_two_pow hn]

theorem next_w1s {f : FieldSpec} (acc : f.acc = .w1s) {w old new : Nat} (hn : new < 2 ^ w) : f.next old new (2 ^ w - 1) = old ||| new := by
  rw [FieldSpec.next, acc]
  dsimp only
  rw [Nat.and_two_pow_sub_one_of_lt_two_pow hn]

theorem merge_other (f : FieldSpec) (new mask : Word) (x : Word × Bool) {lo w : Nat} (fits : f.lo + f.w ≤ 64)
    (apart : lo + w ≤ f.lo ∨ f.lo + f.w ≤ lo) : bits (f.merge new mask x).1 lo w = bits x.1 lo w := by
  rw [FieldSpec.merge]
  split
  · rfl
  split
  · rfl
  · exact bits_putBits_other _ _ _ _ _ _ fits apart

/-- A read-write field takes every value of its range. -/
theorem merge_rw (f : FieldSpec) (new : Word) (x : Word × Bool) (fits : f.lo + f.w ≤ 64) (acc : f.acc = .rw ∨ f.acc = .rwl)
    (legal : f.legal (bits new f.lo f.w) = true) : bits (f.merge new (BitVec.allOnes 64) x).1 f.lo f.w = bits new f.lo f.w := by
  rw [FieldSpec.merge]
  rw [bits_allOnes fits, next_rw acc (bits_lt _ _ _) (bits_lt _ _ _)]
  split
  next same => exact same.symm
  rw [if_neg (by simp [legal]), bits_putBits_same _ _ _ _ fits, Nat.mod_eq_of_lt (bits_lt _ _ _)]

/-- A field that is set by 1 keeps what it holds and takes what is written. -/
theorem merge_w1s (f : FieldSpec) (new : Word) (x : Word × Bool) (fits : f.lo + f.w ≤ 64) (acc : f.acc = .w1s) :
    bits (f.merge new (BitVec.allOnes 64) x).1 f.lo f.w = (bits x.1 f.lo f.w ||| bits new f.lo f.w) := by
  rw [FieldSpec.merge]
  rw [bits_allOnes fits, next_w1s acc (bits_lt _ _ _)]
  split
  next same => exact same.symm
  rw [if_neg (by simp [acc]), bits_putBits_same _ _ _ _ fits, Nat.mod_eq_of_lt (Nat.or_lt_two_pow (bits_lt _ _ _) (bits_lt _ _ _))]

/-! ### A register whose fields no rule holds back -/

theorem revert_nil (l : List FieldSpec) (old cand : Word) : revert l [] old cand = (cand, false) := by simp [revert]

/-- A register without enables, rules between fields or deferred fields. -/
def State.PlainAt (s : State) (a : Nat) : Prop :=
  enables a = [] ∧ wholeChecked a = false ∧ deferred a = [] ∧ ∀ old cand, s.veto a old cand = []

theorem wordAfter_plain {s : State} {a : Nat} {r : RegSpec} {v : Word} (spec : specOf a = some r) (plain : s.PlainAt a) :
    (s.wordAfter a v).1 = ((s.openFields a r.fields).foldl (fun x f => f.merge v (BitVec.allOnes 64) x) (s.reg a r.rst, false)).1 := by
  obtain ⟨enab, whole, -, veto⟩ := plain
  rw [State.wordAfter, spec]
  dsimp only
  rw [State.candidate]
  dsimp only
  simp only [enab, whole, veto, List.filter_nil, List.append_nil, revert_nil, Bool.and_false, Bool.false_eq_true, if_false]

/-- What a plain register holds after a write. -/
theorem stored_reg {s : State} {a : Nat} {r : RegSpec} {v : Word} (spec : specOf a = some r) (plain : s.PlainAt a) :
    (s.stored a v).reg a r.rst =
      ((s.openFields a r.fields).foldl (fun x f => f.merge v (BitVec.allOnes 64) x) (s.reg a r.rst, false)).1 := by
  rw [← wordAfter_plain spec plain, State.stored, spec]
  dsimp only
  rw [plain.2.2.1, revert_nil]
  split
  next same => exact same.symm
  · rw [State.reg, mget_mset_same]
    rfl

/-! ### The fields of plain registers (R10, R14, R479) -/

/-- The counters CTR_COUNT_n. -/
def countArray : RegSpec := ⟨0x3C00000, 512, 8, 1, 8, 0, [⟨0, 48, .rw, 0, 0xffffffffffff, false⟩, ⟨48, 1, .w1c, 0, 1, false⟩]⟩

theorem countSpec : specOf 0x3C00000 = some countArray ∧ specOf 0x3C00FF8 = some countArray := ⟨rfl, rfl⟩

/-- A whole count is written: every value of 48 bits is in its range. -/
theorem stored_count {s : State} {a : Nat} (v : Word) (spec : specOf a = some countArray) (plain : s.PlainAt a)
    (fields : s.openFields a countArray.fields = countArray.fields) : bits ((s.stored a v).reg a 0) 0 48 = v.toNat % 2 ^ 48 := by
  have small := bits_lt v 0 48
  refine (congrArg (bits · 0 48) (stored_reg spec plain)).trans ?_
  rw [fields]
  refine (merge_other ⟨48, 1, .w1c, 0, 1, false⟩ _ _ _ (by decide) (.inl (by decide))).trans ?_
  refine (merge_rw ⟨0, 48, .rw, 0, 0xffffffffffff, false⟩ v _ (by decide) (.inl rfl) ?_).trans rfl
  simp [FieldSpec.legal]
  omega

/-- A field of one bit as the bit of its word. -/
theorem bits_bit (v : Word) (k : Nat) : bits v k 1 = (v.getLsbD k).toNat := by
  rw [bits, BitVec.getLsbD, Nat.shiftRight_eq_div_pow, Nat.testBit_eq_decide_div_mod_eq]
  have two := Nat.mod_two_eq_zero_or_one (v.toNat / 2 ^ k)
  obtain h | h := two <;> simp [h]

/-- A lock that is set by 1: once it is set, or where 1 is written, it is set after the write. -/
theorem merge_lock (lo : Nat) (v : Word) (x : Word × Bool) (fits : lo + 1 ≤ 64) (set : bits x.1 lo 1 ≠ 0 ∨ v.getLsbD lo = true) :
    bits ((⟨lo, 1, .w1s, 0, 1, false⟩ : FieldSpec).merge v (BitVec.allOnes 64) x).1 lo 1 ≠ 0 := by
  rw [merge_w1s ⟨lo, 1, .w1s, 0, 1, false⟩ v x fits rfl]
  dsimp only
  obtain h | h := set
  · exact fun zero => h (Nat.or_eq_zero_iff.1 zero).1
  · rw [bits_bit v lo, h]
    exact fun zero => absurd (Nat.or_eq_zero_iff.1 zero).2 (by decide)

theorem plainAt (s : State) {a : Nat} (h : a = 0x3C02000 ∨ a = 0x3C00000 ∨ a = 0x3C00FF8 ∨ a = 0x100200 ∨ a = 0x3000100 ∨ a = 1536 ∨ a = 0x200030) :
    s.PlainAt a := by
  obtain rfl | rfl | rfl | rfl | rfl | rfl | rfl := h <;> exact ⟨rfl, rfl, rfl, fun _ _ => rfl⟩

/-- FLT_CTRL.LOCK is set by 1 and stays set (R410). -/
theorem stored_lock (s : State) {v : Word} (set : s.rd Reg.FLT_CTRL_LOCK ≠ 0 ∨ v.getLsbD 0 = true) :
    (s.stored 0x100200 v).on Reg.FLT_CTRL_LOCK = true := by
  have held := stored_reg (v := v) (show specOf 0x100200 = some ⟨0x100200, 1, 8, 1, 8, 0,
    [⟨0, 1, .w1s, 0, 1, false⟩, ⟨1, 1, .ro, 0, 1, false⟩, ⟨16, 16, .rc, 0, 0xffff, false⟩]⟩ from rfl) (plainAt s (.inr (.inr (.inr (.inl rfl)))))
  rw [State.on, bne_iff_ne]
  refine ne_of_eq_of_ne ((congrArg (bits · 0 1) held).trans ?_) (merge_lock 0 v (s.reg 0x100200 0, false) (by decide) set)
  refine (merge_other ⟨16, 16, .rc, 0, 0xffff, false⟩ _ _ _ (by decide) (.inl (by decide))).trans ?_
  exact merge_other ⟨1, 1, .ro, 0, 1, false⟩ _ _ _ (by decide) (.inl (by decide))

/-- FGR_HANDLER_POLICY.LOCK is set by 1, whether REQUIRE_SIGNED is open or not (R479). -/
theorem stored_policyLock (s : State) (v : Word) : (s.stored 0x3000100 (setBit v 1)).on Reg.FGR_HANDLER_POLICY_LOCK = true := by
  have held := stored_reg (v := setBit v 1) (show specOf 0x3000100 = some ⟨0x3000100, 1, 8, 1, 8, 0,
    [⟨0, 1, .rwl, 0, 1, false⟩, ⟨1, 1, .w1s, 0, 1, false⟩]⟩ from rfl) (plainAt s (.inr (.inr (.inr (.inr (.inl rfl))))))
  obtain ⟨before, open_⟩ : ∃ before, s.openFields 0x3000100 [⟨0, 1, .rwl, 0, 1, false⟩, ⟨1, 1, .w1s, 0, 1, false⟩]
      = before ++ [⟨1, 1, .w1s, 0, 1, false⟩] := by
    by_cases locked : s.on Reg.FGR_HANDLER_POLICY_LOCK = true
    · exact ⟨[], by simp [State.openFields, locked]⟩
    · exact ⟨[⟨0, 1, .rwl, 0, 1, false⟩], by simp [State.openFields, locked]⟩
  rw [State.on, bne_iff_ne]
  refine ne_of_eq_of_ne (congrArg (bits · 1 1) held) ?_
  rw [open_, List.foldl_append]
  exact merge_lock 1 _ _ (by decide) (.inr (bit_setBit_same v (by decide)))

/-- GLB_ADMIN.LOCK is set by 1, whether WRITE_LINKS is open or not (R479). -/
theorem stored_adminLock (s : State) (v : Word) : (s.stored 1536 (setBit v 8)).on Reg.GLB_ADMIN_LOCK = true := by
  have held := stored_reg (v := setBit v 8) (show specOf 1536 = some ⟨1536, 1, 8, 1, 8, 1,
    [⟨0, 8, .rwl, 0, 255, false⟩, ⟨8, 1, .w1s, 0, 1, false⟩, ⟨16, 16, .rc, 0, 0xffff, false⟩]⟩ from rfl)
    (plainAt s (.inr (.inr (.inr (.inr (.inr (.inl rfl)))))))
  obtain ⟨before, open_⟩ : ∃ before, s.openFields 1536 [⟨0, 8, .rwl, 0, 255, false⟩, ⟨8, 1, .w1s, 0, 1, false⟩, ⟨16, 16, .rc, 0, 0xffff, false⟩]
      = before ++ [⟨8, 1, .w1s, 0, 1, false⟩, ⟨16, 16, .rc, 0, 0xffff, false⟩] := by
    by_cases locked : s.on Reg.GLB_ADMIN_LOCK = true
    · exact ⟨[], by simp [State.openFields, locked]⟩
    · exact ⟨[⟨0, 8, .rwl, 0, 255, false⟩], by simp [State.openFields, locked]⟩
  rw [State.on, bne_iff_ne]
  refine ne_of_eq_of_ne (congrArg (bits · 8 1) held) ?_
  rw [open_, List.foldl_append]
  refine ne_of_eq_of_ne (merge_other ⟨16, 16, .rc, 0, 0xffff, false⟩ _ _ _ (by decide) (.inl (by decide))) ?_
  exact merge_lock 8 _ _ (by decide) (.inr (bit_setBit_same v (by decide)))

/-- While FLT_CTRL is locked no field of EVT_SRC_CFG is open (R410). -/
theorem stored_locked {s : State} (locked : s.on Reg.FLT_CTRL_LOCK = true) {k : Nat} (hk : k < 1024) (v : Word) :
    s.stored (0x101000 + 8 * k) v = s := by
  have closed (l : List FieldSpec) : s.openFields (0x101000 + 8 * k) l = [] := by
    rw [State.openFields, if_neg (by omega), if_pos ⟨by omega, by omega, .inl locked⟩]
  have enab : enables (0x101000 + 8 * k) = [] := by rw [enables, if_neg (by omega), if_neg (by omega)]
  have whole : wholeChecked (0x101000 + 8 * k) = false := by
    simp only [wholeChecked, Bool.or_eq_false_iff, Bool.and_eq_false_iff, decide_eq_false_iff_not]
    omega
  have defer : deferred (0x101000 + 8 * k) = [] := by
    rw [deferred]
    simp (disch := omega) only [if_neg]
  have kept (r : RegSpec) (spec : specOf (0x101000 + 8 * k) = some r) : (s.wordAfter (0x101000 + 8 * k) v).1 = s.reg (0x101000 + 8 * k) r.rst := by
    rw [State.wordAfter, spec]
    dsimp only
    rw [State.candidate]
    simp [closed, whole, revert]
  rw [State.stored]
  split
  next r spec => 
    rw [kept r spec, defer, revert_nil]
    exact if_pos rfl
  · rfl

/-! ### The commands of the network (R43, R153, R163, R218, R225, R251, R259, R280, R284, R288) -/

theorem pendingOf (w : Write) (k : Nat) : bit w.old k = w.was k := rfl

/-- Settles O17: an accepted write by `write8_accepts`, then the action of its address. -/
theorem networkRegisterCommands : Obligations.NetworkRegisterCommands := by
  unfold Obligations.NetworkRegisterCommands
  intro s req v fn port lane
  dsimp only
  refine ⟨fun own small h => ?abi, fun h => ?write, fun h => ?read, fun h => ?swarm, fun h => ?release, fun single h => ?swap, fun single h => ?cancel,
    fun small => ⟨fun h => ?linkOn, fun h => ?linkOff, fun h => ?exercise, fun h => ?retire, fun h => ?unretire, fun side h => ?inject⟩⟩
  case abi =>
    rw [exec_abiRequest, execAbiRequest, if_pos own, write8_accepts h, act_abi small (writeOf_addr ..), writeOf_new, if_pos (bit_setBit_same v (by decide))]
  case write => rw [exec_frondCtrlWrite, execFrondCtrlWrite, write8_accepts h, act_frond (writeOf_addr ..), writeOf_new]
  case read => rw [exec_frondCtrlRead, execFrondCtrlRead, write8_accepts h, act_frond (writeOf_addr ..), writeOf_new]
  case swarm => rw [exec_swarmEnable, execSwarmEnable, write8_accepts h, act_swarm (writeOf_addr ..)]
  case release =>
    rw [exec_rteMgmtRelease, execRteMgmtRelease, write8_accepts h, act_mgmt (writeOf_addr ..), writeOf_new, if_pos (bit_setBit_same v (by decide))]
  case swap =>
    rw [exec_routeSwap, execRouteSwap, write8_accepts h, act_swap (writeOf_addr ..), writeOf_new, bit_setBit_same v (by decide),
      bit_setBit_other v (by decide), single, pendingOf]
    by_cases pend : Write.was (s.writeOf req 0x1000100 (setBit v 0)) 2 = true <;> simp [pend]
  case cancel =>
    rw [exec_swapCancel, execSwapCancel, write8_accepts h, act_swap (writeOf_addr ..), writeOf_new, bit_setBit_same v (by decide),
      bit_setBit_other v (by decide), single, pendingOf]
    by_cases pend : Write.was (s.writeOf req 0x1000100 (setBit v 4)) 2 = true <;> simp [pend]
  case linkOn =>
    rw [exec_linkEnable, execLinkEnable, writeArr_accepts h small (by simp [Fld.addr, Reg.LNK_CFG_ENABLE]), act_link small (writeOf_addr ..)]
    simp only [Bool.and_eq_true]
  case linkOff =>
    rw [exec_linkDisable, execLinkDisable, writeArr_accepts h small (by simp [Fld.addr, Reg.LNK_CFG_ENABLE]), act_link small (writeOf_addr ..)]
    simp only [Bool.and_eq_true]
  case exercise =>
    rw [exec_exerciseEnable, execExerciseEnable, writeArr_accepts h small (by simp [Fld.addr, Reg.LNK_EXER_CFG_ENABLE]),
      act_exercise small (writeOf_addr ..)]
  case retire =>
    rw [exec_portRetire, execPortRetire, writeArr_accepts h small (by simp [Fld.addr, Reg.LAN_PORT_CFG_RATE]), act_portCfg small (writeOf_addr ..)]
  case unretire =>
    rw [exec_portUnretire, execPortUnretire, writeArr_accepts h small (by simp [Fld.addr, Reg.LAN_PORT_CFG_RATE]), act_portCfg small (writeOf_addr ..)]
  case inject =>
    have place : Reg.LAN_PAT_CFG_INJECT_ONE.addr port lane = 0x2810118 + 0x1000 * port + 0x80 * lane := by
      simp [Fld.addr, Reg.LAN_PAT_CFG_INJECT_ONE]
    rw [exec_injectOne, execInjectOne, if_pos ⟨small, side⟩, place, write8_accepts h, act_pattern small side (writeOf_addr ..), writeOf_new,
      bit_setBit_same v (by decide)]
    rfl

/-! ### The commands of the units (R300, R303, R372 to R383, R479, R481, R486, R487) -/

/-- Settles O18: an accepted write by `write8_accepts`, then the action of its address; a plain register by `stored_reg`. -/
theorem unitRegisterCommands : Obligations.UnitRegisterCommands := by
  unfold Obligations.UnitRegisterCommands
  refine ⟨?writes, ?left⟩
  case writes =>
    intro s req v n
    dsimp only
    refine ⟨fun h => ?pulse, fun h => ?debug, fun small => ⟨fun h => ?gateGo, fun h => ?gateOn, fun h => ?gateOff⟩,
      fun small => ⟨fun some_ h => ?claim, fun h => ?release⟩, fun h => ?force, fun h => ?compatForce, fun small h => ?range, fun small h => ?context,
      fun h => ?policy, fun small h => ?counter, fun h => ?clear, fun single h => ?freeze, fun h => ?sampler, fun h => ?index⟩
    case pulse => rw [exec_pulseInClaim, execPulseInClaim, write8_accepts h, act_pulse (writeOf_addr ..)]
    case debug => rw [exec_debugOutClaim, execDebugOutClaim, write8_accepts h, act_pulse (writeOf_addr ..)]
    case gateGo =>
      rw [exec_gateGo, execGateGo, writeArr_accepts h small (by simp [Fld.addr, Reg.SCH_GATE_CTRL_ENABLE]), act_gate small (writeOf_addr ..),
        writeOf_new, bit_setBit_same v (by decide)]
    case gateOn =>
      rw [exec_gateEnable, execGateEnable, writeArr_accepts h small (by simp [Fld.addr, Reg.SCH_GATE_CTRL_ENABLE]), act_gate small (writeOf_addr ..),
        writeOf_new, bit_setBit_other v (by decide)]
    case gateOff =>
      rw [exec_gateDisable, execGateDisable, writeArr_accepts h small (by simp [Fld.addr, Reg.SCH_GATE_CTRL_ENABLE]),
        act_gate small (writeOf_addr ..), writeOf_new, bit_clearBit_other v (by decide) (by decide)]
    case claim =>
      rw [exec_lckWordClaim, execLckWordClaim, if_neg (by exact some_), writeArr_accepts h small (by simp [Fld.addr, Reg.LCK_WORD_IDENTITY]),
        act_lockWord small (writeOf_addr ..), if_pos (writeOf_mask _ _ _ _ _ (by decide)), writeOf_new, writeOf_req]
      rfl
    case release =>
      rw [exec_lckWordRelease, execLckWordRelease, writeArr_accepts h small (by simp [Fld.addr, Reg.LCK_WORD_IDENTITY]),
        act_lockWord small (writeOf_addr ..), if_pos (writeOf_mask _ _ _ _ _ (by decide)), writeOf_new, writeOf_req,
        bits_putBits_same _ _ _ _ (by decide)]
      rfl
    case force =>
      rw [exec_lckForce, execLckForce, write8_accepts h, act_force (writeOf_addr ..), writeOf_new, if_pos (bit_setBit_same v (by decide)), writeOf_req]
    case compatForce =>
      rw [exec_lckCompatForce, execLckCompatForce, write8_accepts h, act_compatForce (writeOf_addr ..), writeOf_new, writeOf_req]
      rfl
    case range =>
      rw [exec_compatRangeEnable, execCompatRangeEnable, writeArr_accepts h small (by simp [Fld.addr, Reg.LCK_COMPAT_BASE_ENABLE]),
        act_compatRange small (writeOf_addr ..)]
    case context =>
      rw [exec_xltCtxWrite, execXltCtxWrite, writeArr_accepts h small (by simp [Fld.addr, Reg.XLT_CTX_ENABLE]), act_context small (writeOf_addr ..)]
    case policy => rw [exec_handlerPolicyLock, execHandlerPolicyLock, write8_accepts h, act_linkNone (.inl rfl) (writeOf_addr ..)]
    case counter =>
      rw [exec_counterSet, execCounterSet, writeArr_accepts h small (by simp [Fld.addr, Reg.CTR_COUNT_VALUE]),
        act_linkNone (.inr ⟨by omega, by omega⟩) (writeOf_addr ..)]
    case clear =>
      rw [exec_clearAll, execClearAll, write8_accepts h, act_ctrCtrl (writeOf_addr ..), writeOf_new, if_pos (bit_setBit_same v (by decide))]
    case freeze =>
      rw [exec_freeze, execFreeze, write8_accepts h, act_ctrCtrl (writeOf_addr ..), writeOf_new, if_neg (by rw [bit, single]; decide)]
    case sampler => rw [exec_samplerEnable, execSamplerEnable, write8_accepts h, act_sampler (writeOf_addr ..)]
    case index => rw [exec_sampleIndexCopy, execSampleIndexCopy, write8_accepts h, act_sampleIndex (writeOf_addr ..)]
  case left =>
    intro s v
    refine ⟨?freeze, ?first, ?last, ?lock, ?stays, fun locked k hk => stored_locked locked hk v, ?policy, ?admin, ?proposal⟩
    case freeze =>
      have held := stored_reg (v := v) (show specOf 0x3C02000 = some ⟨0x3C02000, 1, 8, 1, 8, 0,
        [⟨0, 1, .rw, 0, 1, false⟩, ⟨1, 1, .wo, 0, 1, false⟩]⟩ from rfl) (plainAt s (.inl rfl))
      have value : (s.stored 0x3C02000 v).rd Reg.CTR_CTRL_FREEZE = bits v 0 1 := by
        refine (congrArg (bits · 0 1) held).trans ?_
        refine (merge_other ⟨1, 1, .wo, 0, 1, false⟩ _ _ _ (by decide) (.inl (by decide))).trans ?_
        refine merge_rw ⟨0, 1, .rw, 0, 1, false⟩ v _ (by decide) (.inl rfl) ?_
        have small := bits_lt v 0 1
        simp [FieldSpec.legal]
        omega
      rw [State.on, value, bits_bit]
      cases v.getLsbD 0 <;> rfl
    case first =>
      rw [State.rd, show Reg.CTR_COUNT_VALUE.addr 0 0 = 0x3C00000 from rfl]
      exact stored_count v countSpec.1 (plainAt s (.inr (.inl rfl))) rfl
    case last =>
      rw [State.rd, show Reg.CTR_COUNT_VALUE.addr 511 0 = 0x3C00FF8 from rfl]
      exact stored_count v countSpec.2 (plainAt s (.inr (.inr (.inl rfl)))) rfl
    case lock => exact stored_lock s (.inr (bit_setBit_same v (by decide)))
    case stays =>
      intro locked
      exact stored_lock s (.inl (by simpa [State.on] using locked))
    case policy => exact stored_policyLock s v
    case admin => exact stored_adminLock s v
    case proposal =>
      have held := stored_reg (v := v) (show specOf 0x200030 = some ⟨0x200030, 1, 8, 1, 8, 0,
        [⟨0, 8, .rw, 0, 255, false⟩, ⟨8, 1, .wo, 0, 1, false⟩, ⟨9, 1, .wo, 0, 1, false⟩]⟩ from rfl)
        (plainAt s (.inr (.inr (.inr (.inr (.inr (.inr rfl)))))))
      refine (congrArg (bits · 0 8) held).trans ?_
      refine (merge_other ⟨9, 1, .wo, 0, 1, false⟩ _ _ _ (by decide) (.inl (by decide))).trans ?_
      refine (merge_other ⟨8, 1, .wo, 0, 1, false⟩ _ _ _ (by decide) (.inl (by decide))).trans ?_
      refine merge_rw ⟨0, 8, .rw, 0, 255, false⟩ v _ (by decide) (.inl rfl) ?_
      have small := bits_lt v 0 8
      simp [FieldSpec.legal]
      omega

end Sys2Proof.Machine

/-! PROOFS. The layer of forager threads: an instruction that issues has its effect on the thread that has paid for it, which goes on,
jumps, or traps. -/

namespace Sys2Proof.Machine

/-! ### The state in which an instruction has its effect -/

section
variable {s : State} {t : Nat}

@[simp] theorem fired_thread (s : State) (t : Nat) : (s.fired t).thread t = (s.thread t).spent := thread_setThread_same ..

theorem fired_greg (s : State) (t : Nat) (r : GReg) : (s.fired t).greg t r = s.greg t r := greg_fired s t r

theorem fired_xl (s : State) (t : Nat) : (s.fired t).xl = s.xl := count_xl ..

theorem calm_opens (hc : s.calm t = true) : (s.xl.opens.all fun a => !(a.who == .thread t)) = true := by
  simp only [State.calm, Bool.and_eq_true] at hc
  exact hc.2

/-- An instruction that issues on a calm thread has its effect on the fired state. -/
theorem instr1_fires {i : Instr} (hi : s.canIssue t i = true) (hc : s.calm t = true) (k : BitVec 32 → State → State) :
    s.instr1 t i k = .next (k ((encodeWord i).getD 0) (s.fired t)) := by
  rw [instr1_issues hi, issued_calm hc]
  rfl

/-- An instruction that has prepared its effect, and left the state, has it on the fired state. -/
theorem instr_fires {i : Instr} (hi : s.canIssue t i = true) (hc : s.calm t = true) {prep : BitVec 32 → State → State × Option (State → State)}
    {k : State → State} (h : prep ((encodeWord i).getD 0) s = (s, some k)) : s.instr t i prep = .next (k (s.fired t)) := by
  rw [instr_issues hi, h]
  dsimp only
  rw [issued_calm hc]
  rfl

/-- Changing a fired thread. -/
theorem fired_setThread (s : State) (t : Nat) (x : Thread) : (s.fired t).setThread t x = (s.counted t).setThread t x := setThread_setThread ..

theorem fired_goOn (hc : s.calm t = true) (hw : (s.thread t).wait = .none) (hp : (s.thread t).pc + 4 < (s.thread t).code) :
    (s.fired t).goOn t = (s.counted t).setThread t { (s.thread t).spent with pc := (s.thread t).pc + 4 } :=
  goOn_plain _ _ _ (calm_tag hc) hw hp

theorem fired_result (hc : s.calm t = true) (hw : (s.thread t).wait = .none) (hp : (s.thread t).pc + 4 < (s.thread t).code) (rd : GReg) (v : Word) :
    (s.fired t).result t rd v = (s.counted t).setThread t ((s.thread t).spent.wrote rd v) :=
  result_plain _ _ _ _ _ (calm_tag hc) hw hp

/-- A thread without a tag stays so. -/
theorem put_untagged {x : Thread} (r : GReg) (v : Word) (pc : Nat) (h : x.tag = none) :
    { x.put r v with pc := pc, tag := none } = { x.put r v with pc := pc } := by rw [← put_tag x r v] at h; rw [← h]

theorem fired_jump (hc : s.calm t = true) (w : BitVec 32) {target : Int} (link : GReg) (inside : inCode (s.thread t).code target = true) :
    (s.fired t).jump t w target link
      = (s.counted t).setThread t { (s.thread t).spent.put link (BitVec.ofNat 64 ((s.thread t).pc + 4)) with pc := target.toNat } := by
  refine (jump_plain _ _ _ w target link (calm_tag hc) inside).trans ?_
  rw [put_untagged _ _ _ (calm_tag hc)]
  rfl

theorem fired_trap (hc : s.calm t = true) (hw : (s.thread t).wait = .none) (hm : (s.thread t).mayTrap = true) (y : Trap) :
    (s.fired t).trap t y = (s.counted t).setThread t { (s.thread t).spent.loseResv with
      trapCause := y.cause, trapPc := y.pc, trapInfo := BitVec.ofNat 64 y.info, trapDetail := y.detail, inTrap := true,
      pc := (s.thread t).trapVec } :=
  trap_plain _ _ _ y (calm_tag hc) hw rfl hm (by rw [State.counted, count_xl]; exact calm_opens hc)

theorem fired_trapAt (hc : s.calm t = true) (hw : (s.thread t).wait = .none) (hm : (s.thread t).mayTrap = true) (w : BitVec 32)
    (cause info detail : Nat) : (s.fired t).trapAt t w cause info detail
      = (s.counted t).setThread t ((s.thread t).spent.trapped cause (BitVec.ofNat 64 info) detail) := by
  rw [State.trapAt, fired_trap hc hw hm, fired_thread]
  rfl

/-- Falling through the last word traps FETCH at the offset behind it. -/
theorem goOn_falls (u : State) (t : Nat) (x : Thread) (tag : x.tag = none) (wait : x.wait = .none) (last : ¬x.pc + 4 < x.code) :
    (u.setThread t x).goOn t = (u.setThread t { x with pc := x.pc + 4 }).trap t
      { cause := Cause.fetch, pc := x.pc + 4, word := 0, info := x.pc + 4, detail := 0 } := by
  have same : { x with tag := none, pc := x.pc + 4, wait := .none } = { x with pc := x.pc + 4 } := by rw [← tag, ← wait]
  have ended : ((u.setThread t x).stamp x.tag 4).endTag x.tag = u.setThread t x := by rw [tag, stamp_none, endTag_none]
  rw [State.goOn, thread_setThread_same, if_neg last, ended, State.modThread, thread_setThread_same, same, setThread_setThread]

theorem fired_goOn_falls (hc : s.calm t = true) (hw : (s.thread t).wait = .none) (hm : (s.thread t).mayTrap = true)
    (last : ¬(s.thread t).pc + 4 < (s.thread t).code) : (s.fired t).goOn t = (s.counted t).setThread t
      (Thread.trapped 3 (BitVec.ofNat 64 ((s.thread t).pc + 4)) 0 { (s.thread t).spent with pc := (s.thread t).pc + 4 }) :=
  (goOn_falls _ _ _ (calm_tag hc) hw last).trans
    (trap_plain (s.counted t) t { (s.thread t).spent with pc := (s.thread t).pc + 4 } _ (calm_tag hc) hw rfl hm
      (by rw [State.counted, count_xl]; exact calm_opens hc))

end

/-! ### Branches and jumps (R327) -/

section
variable {s : State} {t : Nat} {i : Instr} {rb ra : GReg} {imm : BitVec 16} {c : Word → Word → Bool} {p : Prop}

/-- A branch that issues: on to its target where the comparison holds, else on to the next word. -/
theorem branch_fires (hc : s.calm t = true) (he : exec i s = s.branch t i rb ra imm c) (hp : c (s.greg t ra) (s.greg t rb) = true ↔ p)
    (hi : s.canIssue t i = true) :
    (p → exec i s = .next ((s.fired t).jump t ((encodeWord i).getD 0) ((s.thread t).pc + 4 * imm.toInt) 0))
      ∧ (¬p → exec i s = .next ((s.fired t).goOn t)) := by
  rw [he, State.branch, instr1_fires hi hc, fired_greg, fired_greg, fired_thread]
  exact ⟨fun h => by rw [if_pos (hp.2 h)]; rfl, fun h => by rw [if_neg (mt hp.1 h)]⟩

/-- A branch whose target lies in the code. -/
theorem branch_steps (hc : s.calm t = true) (he : exec i s = s.branch t i rb ra imm c) (hp : c (s.greg t ra) (s.greg t rb) = true ↔ p)
    (hi : s.canIssue t i = true) :
    (p → inCode (s.thread t).code ((s.thread t).pc + 4 * imm.toInt) = true →
        exec i s = s.stepped t fun y => { y with pc := ((s.thread t).pc + 4 * imm.toInt).toNat })
      ∧ (¬p → (s.thread t).pc + 4 < (s.thread t).code → exec i s = s.stepped t fun y => { y with pc := (s.thread t).pc + 4 }) := by
  obtain ⟨taken, on⟩ := branch_fires hc he hp hi
  refine ⟨fun h inside => ?_, fun h fits => ?_⟩
  · rw [taken h, fired_jump hc _ _ inside]
    rfl
  · rw [on h, fired_goOn hc (canIssue_running hi).2.2 fits]
    rfl

theorem ofNat_ofInt (x : Int) : BitVec.ofNat 64 (ofInt 64 x) = BitVec.ofInt 64 x := by
  apply BitVec.eq_of_toNat_eq
  rw [BitVec.toNat_ofNat, BitVec.toNat_ofInt, ofInt]
  have low := Int.emod_nonneg x (show (2 ^ 64 : Int) ≠ 0 by decide)
  have high := Int.emod_lt_of_pos x (show (0 : Int) < 2 ^ 64 by decide)
  push_cast
  omega

/-- A jump out of the code traps FETCH. -/
theorem fired_jump_leaves (hc : s.calm t = true) (hw : (s.thread t).wait = .none) (hm : (s.thread t).mayTrap = true) (w : BitVec 32) {target : Int}
    (link : GReg) (outside : inCode (s.thread t).code target = false) :
    (s.fired t).jump t w target link = (s.counted t).setThread t ((s.thread t).spent.trapped 3 (BitVec.ofInt 64 target) 0) := by
  rw [State.jump, fired_thread, if_neg (by exact ne_true_of_eq_false outside), fired_trapAt hc hw hm, ofNat_ofInt]
  rfl

theorem branch_leaves (hc : s.calm t = true) (hm : (s.thread t).mayTrap = true) (he : exec i s = s.branch t i rb ra imm c)
    (hp : c (s.greg t ra) (s.greg t rb) = true ↔ p) (hi : s.canIssue t i = true) (h : p)
    (outside : inCode (s.thread t).code ((s.thread t).pc + 4 * imm.toInt) = false) :
    exec i s = s.stepped t (Thread.trapped 3 (BitVec.ofInt 64 ((s.thread t).pc + 4 * imm.toInt)) 0) := by
  rw [(branch_fires hc he hp hi).1 h, fired_jump_leaves hc (canIssue_running hi).2.2 hm _ _ outside]
  rfl

end

/-! The comparisons of the six branches. -/

theorem beq_iff (a b : Word) : (a == b) = true ↔ a = b := beq_iff_eq
theorem bne_iff (a b : Word) : (a != b) = true ↔ a ≠ b := bne_iff_ne
theorem slt_iff (a b : Word) : a.slt b = true ↔ a.toInt < b.toInt := BitVec.slt_iff_toInt_lt
theorem not_slt_iff (a b : Word) : (!a.slt b) = true ↔ b.toInt ≤ a.toInt := by rw [Bool.not_eq_true', ← Bool.not_eq_true, slt_iff, Int.not_lt]
theorem ult_iff (a b : Word) : a.ult b = true ↔ a.toNat < b.toNat := BitVec.ult_iff_lt
theorem not_ult_iff (a b : Word) : (!a.ult b) = true ↔ b.toNat ≤ a.toNat := by rw [Bool.not_eq_true', ← Bool.not_eq_true, ult_iff, Nat.not_lt]

/-- Settles O4: branches by `branch_steps` and `branch_leaves`, jumps by `fired_jump`; an instruction that falls through traps in `goOn`. -/
theorem branchesAndJumpsGoToTheirTarget : Obligations.BranchesAndJumpsGoToTheirTarget := by
  unfold Obligations.BranchesAndJumpsGoToTheirTarget
  refine ⟨?steps, ?leaves⟩
  case steps =>
    intro s t rd rb ra imm imm21 hc
    refine ⟨branch_steps hc (exec_beq ..) (beq_iff _ _), branch_steps hc (exec_bne ..) (bne_iff _ _), branch_steps hc (exec_blt ..) (slt_iff _ _),
      branch_steps hc (exec_bge ..) (not_slt_iff _ _), branch_steps hc (exec_bltu ..) (ult_iff _ _), branch_steps hc (exec_bgeu ..) (not_ult_iff _ _),
      fun hi inside => ?jal, fun hi inside => ?jalr⟩
    case jal =>
      rw [exec_jal, execJal, instr1_fires hi hc, fired_thread]
      exact congrArg _ (fired_jump hc _ _ inside)
    case jalr =>
      rw [exec_jalr, execJalr, instr1_fires hi hc, fired_greg]
      exact congrArg _ (fired_jump hc _ _ inside)
  case leaves =>
    intro s t rd ra rb imm imm21 hc hm
    refine ⟨⟨branch_leaves hc hm (exec_beq ..) (beq_iff _ _), branch_leaves hc hm (exec_bne ..) (bne_iff _ _),
      branch_leaves hc hm (exec_blt ..) (slt_iff _ _), branch_leaves hc hm (exec_bge ..) (not_slt_iff _ _),
      branch_leaves hc hm (exec_bltu ..) (ult_iff _ _), branch_leaves hc hm (exec_bgeu ..) (not_ult_iff _ _)⟩,
      fun hi outside => ?jal, fun hi outside => ?jalr, fun hi last => ?falls⟩
    case jal =>
      rw [exec_jal, execJal, instr1_fires hi hc, fired_thread]
      exact congrArg _ (fired_jump_leaves hc (canIssue_running hi).2.2 hm _ _ outside)
    case jalr =>
      rw [exec_jalr, execJalr, instr1_fires hi hc, fired_greg]
      refine congrArg _ ((fired_jump_leaves hc (canIssue_running hi).2.2 hm _ _ outside).trans ?_)
      rw [BitVec.ofInt_natCast, BitVec.ofNat_toNat, BitVec.setWidth_eq]
    case falls =>
      rw [exec_sysNop, execSysNop, instr1_fires hi hc, fired_goOn_falls hc (canIssue_running hi).2.2 hm (Nat.not_lt.2 last)]
      rfl

end Sys2Proof.Machine

/-! PROOFS. The control registers (R317) and g0 (R316). -/

namespace Sys2Proof.Machine

section
variable {s : State} {t : Nat}

theorem fired_time (s : State) (t : Nat) : (s.fired t).time = s.time := count_time ..

theorem fired_cycles (s : State) (t : Nat) : (s.fired t).fg.cycles = s.fg.cycles := by
  change (s.counted t).fg.cycles = s.fg.cycles
  rw [State.counted, count_fg]

/-- A control register that may be read gives its value. -/
theorem csrr_gives {rd : GReg} {n : BitVec 16} (hc : s.calm t = true) (hp : (s.thread t).pc + 4 < (s.thread t).code)
    (hi : s.canIssue t (.csrr t rd n) = true) (may : (csrAccess ((s.thread t).priv == 1) n.toNat).any (·.1) = true) :
    exec (.csrr t rd n) s = s.stepped t (Thread.wrote rd (BitVec.ofNat 64 ((s.fired t).csr t n.toNat))) := by
  obtain ⟨⟨reads, writes⟩, listed, readable⟩ := Option.any_eq_true _ _ |>.1 may
  obtain rfl : reads = true := readable
  rw [exec_csrr, execCsrr, instr1_fires hi hc, fired_thread, show (s.thread t).spent.priv = (s.thread t).priv from rfl, listed]
  exact congrArg _ (fired_result hc (canIssue_running hi).2.2 hp _ _)

theorem setCsr_leaves (x : Thread) (n : Nat) (v : Word) :
    (x.setCsr n v).tag = x.tag ∧ (x.setCsr n v).wait = x.wait ∧ (x.setCsr n v).pc = x.pc ∧ (x.setCsr n v).code = x.code := by
  unfold Thread.setCsr
  split
  · exact ⟨rfl, rfl, rfl, rfl⟩
  · split <;> exact ⟨rfl, rfl, rfl, rfl⟩

/-- A control register that may be written takes its fields from the register. -/
theorem csrw_sets {ra : GReg} {n : BitVec 16} (hc : s.calm t = true) (hp : (s.thread t).pc + 4 < (s.thread t).code)
    (hi : s.canIssue t (.csrw t ra n) = true) (may : (csrAccess ((s.thread t).priv == 1) n.toNat).any (·.2) = true) :
    exec (.csrw t ra n) s = s.stepped t fun y => { y.setCsr n.toNat (s.greg t ra) with pc := y.pc + 4 } := by
  obtain ⟨⟨reads, writes⟩, listed, writable⟩ := Option.any_eq_true _ _ |>.1 may
  obtain rfl : writes = true := writable
  rw [exec_csrw, execCsrw, instr1_fires hi hc, fired_thread, show (s.thread t).spent.priv = (s.thread t).priv from rfl, listed]
  obtain ⟨tag, wait, pc, code⟩ := setCsr_leaves (s.thread t).spent n.toNat ((s.thread t).spent.get ra)
  have on := goOn_plain (s.counted t) t _ (tag.trans (calm_tag hc)) (wait.trans (canIssue_running hi).2.2) (by rw [pc, code]; exact hp)
  rw [pc] at on
  refine congrArg _ (Eq.trans ?_ on)
  rw [State.modThread, fired_thread, fired_setThread]

end

/-- Settles O6: reads by `csrr_gives`, writes by `csrw_sets`. -/
theorem controlRegistersReadAndWrite : Obligations.ControlRegistersReadAndWrite := by
  unfold Obligations.ControlRegistersReadAndWrite
  refine ⟨?reads, ?writes, ?g0⟩
  case reads =>
    intro s t rd n hc hp hi may
    rw [csrr_gives hc hp hi may]
    dsimp only
    have gives {v : Nat} (h : (s.fired t).csr t n.toNat = v) : s.stepped t (Thread.wrote rd (BitVec.ofNat 64 ((s.fired t).csr t n.toNat)))
        = s.stepped t (Thread.wrote rd (BitVec.ofNat 64 v)) := by rw [h]
    have table (k : BitVec 16) {v : Nat} (h : n = k) (value : (s.fired t).csr t k.toNat = v) := gives (h ▸ value)
    refine ⟨fun h => table _ h rfl, fun h => table _ h ?priv, fun h => table _ h ?budget, fun h => table _ h (fired_time s t),
      fun h => table _ h (congrArg (mgetD · (t / 128) 0) (fired_cycles s t)), fun low high => gives ?ks, fun h => table _ h ?bfault,
      fun h => table _ h ?trapEn, fun h => table _ h ?cause, fun h => table _ h ?pc, fun h => table _ h ?info, fun h => table _ h ?detail,
      fun h => table _ h ?vec, fun h => table _ h ?inTrap, fun h => table _ h ?domain, fun h => table _ h ?ctx, fun h => table _ h ?events⟩
    all_goals
      unfold State.csr
      rw [fired_thread]
    case ks => rw [if_pos ⟨low, high⟩]
    case budget | trapEn | events => exact (if_neg (by decide)).trans (if_congr beq_iff_eq rfl rfl)
    all_goals rfl
  case writes =>
    intro s t ra n hc hp hi may
    rw [csrw_sets hc hp hi may]
    dsimp only
    refine ⟨fun low high => ?_, fun h => ?_, fun h => ?_, fun h => ?_, fun h => ?_, fun h => ?_⟩
    · simp only [Thread.setCsr, if_pos (And.intro low high)]
      rfl
    all_goals subst h
    · rfl
    · rfl
    · rfl
    · rw [← Nat.shiftRight_eq_div_pow]
      rfl
    · rfl
  case g0 =>
    intro x v r
    refine ⟨rfl, rfl, ?_, fun q other => ?_⟩
    · by_cases zero : r = 0
      · simp [Thread.get, zero]
      · rw [Thread.get, if_neg zero, if_neg zero, Thread.put, if_neg zero, mgetD_mset_same]
    · by_cases zero : r = 0
      · rw [Thread.put, if_pos zero]
      · rw [Thread.get, Thread.get, Thread.put, if_neg zero, mgetD_mset_other _ _ _ _ _ (mt BitVec.eq_of_toNat_eq other)]

end Sys2Proof.Machine

/-! PROOFS. The lock calls on a compatibility word (R341, R378). -/

namespace Sys2Proof.Machine

/-- A thread at a release, and a store that lists the first byte of its word twice: a list that no reset gives and no step makes. The word
is held by the thread. -/
def tornStore : State :=
  { fg := { threads := [(0, { st := .running, code := 64, regs := [(1, 0x1000000000000000)] })] }, store := [(0, 1), (0, 1), (3, 8)] }

/-- The third register of thread 0 after a command. -/
def thirdRegister : Host.Outcome State Fault Refusal → Word
  | .next u => u.greg 0 3
  | _ => 0

/-- Refutes O15: it does not ask for the canonical form of the store. The release of a word whose first byte is listed twice removes one
of the two; the other one lies there then, and the answer in rd is what is read there, 1, where the statement has 0. -/
theorem not_lockCallsClaimAndRelease : ¬ Obligations.LockCallsClaimAndRelease := by
  unfold Obligations.LockCallsClaimAndRelease
  intro h
  have calm : tornStore.calm 0 = true := by decide +kernel
  have issues : tornStore.canIssue 0 (.lrelw 0 3 1) = true := by decide +kernel
  have lands : tornStore.lands 0 (tornStore.greg 0 1) 8 accWrite .store 0 := ⟨rfl, by decide +kernel, by decide, .inl rfl⟩
  have holds : ofLE (tornStore.storeRead 0 8) / 2 ^ 16 % 2 ^ 32 = 0x800 + 0 := by decide +kernel
  have released := ((h.2 tornStore 0 0 3 1 calm (by decide +kernel) rfl (by decide +kernel) lands (by decide +kernel) (by decide +kernel)).2
    issues).1 holds
  have answer := congrArg thirdRegister released
  exact absurd answer (by decide +kernel)

end Sys2Proof.Machine

/-! PROOFS. A source that has occurred shows in STATUS, and stays there through every later occurrence and count (R404). -/

namespace Sys2Proof.Machine

/-- The STATUS bit of a source. -/
def State.shows (s : State) (k : Nat) : Bool := bit (s.reg (Reg.EVT_STATUS_STATUS.addr (k / 64) 0) 0) (k % 64)

theorem shows_eq_rd (s : State) (k : Nat) : s.shows k = bit (BitVec.ofNat 64 (s.rd Reg.EVT_STATUS_STATUS (k / 64))) (k % 64) := by
  rw [State.shows, State.rd]
  exact congrArg (bit · _) (ofNat_bits_whole _).symm

theorem shows_of_rd {s t : State} {k : Nat} (h : t.rd Reg.EVT_STATUS_STATUS (k / 64) = s.rd Reg.EVT_STATUS_STATUS (k / 64)) :
    t.shows k = s.shows k := by rw [shows_eq_rd, shows_eq_rd, h]

theorem shows_of_regs {s t : State} {k : Nat} (h : t.regs = s.regs) : t.shows k = s.shows k := shows_of_rd (rd_congr h _ _ _)

section
variable {k : Nat} (hk : k < 1024)
include hk

/-- A write of another register leaves the bit. -/
theorem shows_wr {s : State} {f : Fld} {v i j : Nat} (h : 0x100080 ≤ f.addr i j) : (s.wr f v i j).shows k = s.shows k := by
  have below := status_addr_lt (n := k / 64) (by omega)
  exact shows_of_rd (rd_wr_apart _ _ (.inl (by omega)))

theorem shows_raise1 (s : State) (j info : Nat) (inj sup : Bool) :
    (raise1 s j info inj sup).shows k = (s.shows k || (classOf j).isSome && decide (k = j)) := by
  cases class_ : classOf j with
  | none =>
    rw [raise1, class_]
    simp
  | some c =>
    have below := status_addr_lt (n := k / 64) (by omega)
    have buffered : Reg.LCH_LOG_STATUS_BUFFERED.apart 0 0 Reg.EVT_STATUS_STATUS (k / 64) 0 :=
      .inl (by rw [show Reg.LCH_LOG_STATUS_BUFFERED.addr 0 0 = 0x200050 from rfl]; omega)
    have whole : 64 * (k / 64) + k % 64 = k := Nat.div_add_mod k 64
    rw [shows_eq_rd, raise1_rd s j info c inj sup class_ _ _ _ buffered, occurred_rd_status _ _ _ _ _ (by omega),
      status_bits _ _ (classOf_lt class_) (Nat.mod_lt _ (by decide)), ← shows_eq_rd, whole]
    simp

theorem shows_advance (s : State) (c n : Nat) : (advance s c n).1.shows k = s.shows k := by
  have value : 0x100080 ≤ Reg.CTR_COUNT_VALUE.addr c 0 := by simp only [Fld.addr, Reg.CTR_COUNT_VALUE]; omega
  have overflow : 0x100080 ≤ Reg.CTR_COUNT_OVF.addr c 0 := by simp only [Fld.addr, Reg.CTR_COUNT_OVF]; omega
  unfold advance
  dsimp only
  split
  · exact shows_wr hk value
  · exact (shows_wr hk overflow).trans (shows_wr hk value)

theorem shows_counters (cs : List Nat) (n : Nat) (a : State × List Item) :
    (cs.foldl (fun (a : State × List Item) c => let b := advance a.1 c n; (b.1, a.2 ++ b.2)) a).1.shows k = a.1.shows k := by
  induction cs generalizing a with
  | nil => rfl
  | cons c cs ih => exact (ih _).trans (shows_advance hk a.1 c n)

theorem shows_cascade (f : Nat) (items : List Item) (s : State) (h : s.shows k = true) : (cascade f items s).shows k = true := by
  induction f generalizing items s with
  | zero => exact h
  | succ f ih =>
    match items with
    | [] => exact h
    | .event j info inj sup :: items =>
      simp only [cascade]
      split
      · exact ih _ _ h
      · exact ih _ _ (by rw [shows_raise1 hk, h, Bool.true_or])
    | .count ev unit n o :: items =>
      simp only [cascade]
      exact ih _ _ ((shows_counters hk _ n _).trans h)

/-- What has occurred stays in STATUS when another source occurs. -/
theorem shows_raise {s : State} (h : s.shows k = true) (j info : Nat) (inj sup : Bool) : (s.raise j info inj sup).shows k = true :=
  shows_cascade hk _ _ s h

theorem shows_count {s : State} (h : s.shows k = true) (ev unit n : Nat) (o : Owner) : (s.count ev unit n o).shows k = true := by
  unfold State.count
  split
  · exact h
  · exact shows_cascade hk _ _ s h

theorem shows_tally {s : State} (h : s.shows k = true) {f : Fld} {i j : Nat} (place : 0x100080 ≤ f.addr i j) (ev unit n : Nat) (o : Owner) :
    (s.tally f ev unit o n i j).shows k = true :=
  shows_count hk ((shows_wr hk place).trans h) ev unit n o

/-- A source that occurs shows in STATUS. -/
theorem raise_shows (s : State) (class_ : (classOf k).isSome = true) (info : Nat) (inj sup : Bool) : (s.raise k info inj sup).shows k = true := by
  obtain ⟨c, class_⟩ := Option.isSome_iff_exists.1 class_
  rw [State.raise, cascade, class_]
  exact shows_cascade hk _ _ _ (by rw [shows_raise1 hk, class_]; simp)

end

end Sys2Proof.Machine

/-! PROOFS. Fences, the end of what they wait for, and the system instructions (R332, R333, R343, R363, R369). -/

namespace Sys2Proof.Machine

theorem thread_of_fg {s u : State} {t : Nat} (h : u.fg = s.fg) : u.thread t = s.thread t := by rw [State.thread, State.thread, h]

/-- Going on with the next word, while nothing is sampled. -/
theorem goOn_eq (u : State) (t : Nat) (tag : (u.thread t).tag = none) (wait : (u.thread t).wait = .none) (fits : (u.thread t).pc + 4 < (u.thread t).code) :
    u.goOn t = u.setThread t { u.thread t with pc := (u.thread t).pc + 4 } := by
  have same : { u.thread t with tag := none, pc := (u.thread t).pc + 4, wait := .none } = { u.thread t with pc := (u.thread t).pc + 4 } := by
    rw [← tag, ← wait]
  have ended : (u.stamp (u.thread t).tag 4).endTag (u.thread t).tag = u := by rw [tag, stamp_none, endTag_none]
  rw [State.goOn, if_pos fits, ended, State.modThread, same]

/-! ### Fences (R332, R333, R363) -/

/-- Writing a register changes the registers and nothing else. -/
theorem put_eq (x : Thread) (r : GReg) (v : Word) : x.put r v = { x with regs := if r = 0 then x.regs else mset x.regs r.toNat v } := by
  unfold Thread.put
  split <;> rfl

section
variable (u : State) (t : Nat) (y : Thread) {kind : Nat} {rd : GReg}

/-- A thread that waits at a fence goes on once what the fence waits for has come. -/
theorem wake_fence (h : y.wait = .fence kind rd) : (u.setThread t y).wake t =
    if y.fenceMet kind then (u.setThread t y).fenceDone t rd y.fenceFail else u.setThread t y := by
  rw [State.wake, thread_setThread_same, h]

/-- A thread whose fence has completed with a fault flag. -/
def Thread.fenced (rd : GReg) (fault : Bool) (y : Thread) : Thread :=
  { y.put rd (boolWord fault) with bfault := y.bfault || fault, fenceFail := false, wait := .none }

theorem fenceDone_goes (fault : Bool) (tag : y.tag = none) (fits : y.pc + 4 < y.code) (calm : fault = false ∨ y.trapEn % 2 = 0) :
    (u.setThread t y).fenceDone t rd fault = u.setThread t { y.fenced rd fault with pc := y.pc + 4 } := by
  have on : ¬((fault : Prop) ∧ (y.fenced rd fault).trapEn % 2 = 1) := by
    rw [Thread.fenced, put_eq]
    rintro ⟨bad, enabled⟩
    obtain good | off := calm
    · rw [good] at bad
      exact Bool.false_ne_true bad
    · dsimp only at enabled
      omega
  rw [State.fenceDone, State.modThread, thread_setThread_same, setThread_setThread]
  dsimp only
  rw [thread_setThread_same]
  rw [if_neg (by exact on)]
  have pc : (y.fenced rd fault).pc = y.pc := by rw [Thread.fenced, put_eq]
  have went := goOn_plain u t (y.fenced rd fault) (by rw [Thread.fenced, put_eq]; exact tag) rfl (by rw [Thread.fenced, put_eq]; exact fits)
  rw [pc] at went
  exact went

end

/-- A fence that issues on a calm thread: it completes at once, or the thread waits at it. -/
theorem fence_fires {s : State} {t kind : Nat} {rd : GReg} {i : Instr} (hc : s.calm t = true) (hp : (s.thread t).pc + 4 < (s.thread t).code)
    (he : exec i s = s.fence t i kind rd) (hi : s.canIssue t i = true) {met : Prop} (hm : (s.thread t).fenceMet kind = true ↔ met) :
    (met → exec i s = s.stepped t fun y => { y.wrote rd 0 with fenceFail := false })
      ∧ (¬met → exec i s = s.stepped t fun y => { y with wait := .fence kind rd, fenceFail := false }) := by
  have fires : exec i s = .next (((s.counted t).setThread t { (s.thread t).spent with wait := .fence kind rd, fenceFail := false }).wake t) := by
    rw [he, State.fence, instr1_fires hi hc, State.modThread, fired_thread, fired_setThread]
  rw [fires, wake_fence _ _ _ rfl]
  refine ⟨fun h => ?_, fun h => ?_⟩
  · rw [if_pos (by exact hm.2 h), fenceDone_goes _ _ _ _ (by exact calm_tag hc) (by exact hp) (.inl rfl)]
    have idle : (s.thread t).wait = .none := (canIssue_running hi).2.2
    refine congrArg (fun x => Host.Outcome.next ((s.counted t).setThread t x)) ?_
    simp only [Thread.fenced, Thread.wrote, put_eq, Thread.spent, Bool.or_false, idle]
    rfl
  · rw [if_neg (by exact mt hm.1 h)]
    rfl

/-! ### System instructions (R342, R343, R347) -/

theorem forgetAccesses_none {s : State} {who : Client → Bool} (h : (s.xl.opens.all fun a => !who a.who) = true) : s.forgetAccesses who = s := if_pos h

/-- A firmware thread without accesses and without a packet that ends. -/
theorem endThread_idle (u : State) (t : Nat) (y : Thread) (tag : y.tag = none) (window : y.window = none) (pend : y.pend = [])
    (opens : (u.xl.opens.all fun a => !(a.who == .thread t)) = true) : (u.setThread t y).endThread t = u.setThread t { nextAcc := y.nextAcc } := by
  rw [State.endThread, thread_setThread_same]
  dsimp only
  rw [pend, tag]
  have packet : (u.setThread t y).finishPacket t = u.setThread t y := by rw [State.finishPacket, thread_setThread_same, window]
  rw [List.filter_nil, List.foldl_nil, endTag_none, packet, forgetAccesses_none (by exact opens), setThread_setThread]
  rfl

/-- EXIT of a firmware thread with nothing under way. -/
theorem wake_exit (u : State) (t : Nat) (y : Thread) (wait : y.wait = .exit) (tag : y.tag = none) (run : y.run = none) (window : y.window = none)
    (pend : y.pend = []) (opens : (u.xl.opens.all fun a => !(a.who == .thread t)) = true) :
    (u.setThread t y).wake t = u.setThread t { nextAcc := y.nextAcc } := by
  have met : y.fenceMet 0 = true := by
    change y.pend.all (·.performed) = true
    rw [pend]
    rfl
  have ended : ((u.setThread t y).stamp y.tag 4).endTag y.tag = u.setThread t y := by rw [tag, stamp_none, endTag_none]
  rw [State.wake, thread_setThread_same, wait]
  dsimp only
  rw [if_pos met, State.exitDone, thread_setThread_same, ended, run]
  exact endThread_idle u t y tag window pend opens

theorem systemInstructions {s : State} {t : Nat} {rd ra rb : GReg} (hc : s.calm t = true) :
    (s.canIssue t (.sysNop t) → (s.thread t).pc + 4 < (s.thread t).code → exec (.sysNop t) s = s.stepped t fun y => { y with pc := y.pc + 4 })
    ∧ (s.canIssue t (.yieldSlot t) → (s.thread t).pc + 4 < (s.thread t).code →
        exec (.yieldSlot t) s = s.stepped t fun y => { y.loseResv with pc := y.pc + 4 })
    ∧ (s.canIssue t (.trap t ra) → (s.thread t).mayTrap → exec (.trap t ra) s = s.stepped t (Thread.trapped 9 (s.greg t ra) 0))
    ∧ (s.canIssue t (.wait t rd) → exec (.wait t rd) s = s.stepped t fun y => { y.loseResv with wait := .signal rd }) := by
  refine ⟨fun hi fits => ?nop, fun hi fits => ?yield, fun hi may => ?trap, fun hi => ?wait⟩
  case nop =>
    rw [exec_sysNop, execSysNop, instr1_fires hi hc, fired_goOn hc (canIssue_running hi).2.2 fits]
    rfl
  case yield =>
    rw [exec_yieldSlot, execYieldSlot, instr1_fires hi hc, State.modThread, fired_thread, fired_setThread]
    exact congrArg _ (goOn_plain _ _ _ (calm_tag hc) (canIssue_running hi).2.2 fits)
  case trap =>
    rw [exec_trap, execTrap, instr1_fires hi hc, fired_greg, fired_trapAt hc (canIssue_running hi).2.2 may, BitVec.ofNat_toNat, BitVec.setWidth_eq]
    rfl
  case wait =>
    rw [exec_wait, execWait, instr1_fires hi hc, State.modThread, fired_thread, fired_setThread]
    rfl

/-- XRET goes back to the instruction that trapped, or to the next one. -/
theorem execXret_goes {s : State} {t : Nat} {ra : GReg} (hc : s.calm t = true) (hi : s.canIssue t (.xret t ra) = true) {target : Nat}
    (at_ : target = if s.greg t ra = 1 then (s.thread t).trapPc else (s.thread t).trapPc + 4) (inside : inCode (s.thread t).code target = true) :
    exec (.xret t ra) s = s.stepped t fun y => { y with pc := target, inTrap := false } := by
  have same : (if (s.thread t).spent.get ra = 1 then (s.thread t).spent.trapPc else (s.thread t).spent.trapPc + 4) = target := at_.symm
  rw [exec_xret, execXret, instr1_fires hi hc]
  dsimp only
  rw [fired_thread, same, if_pos (by exact inside), fired_jump hc _ _ inside, State.modThread, thread_setThread_same, setThread_setThread]
  rfl

theorem execExit_ends {s : State} {t : Nat} (hc : s.calm t = true) (hi : s.canIssue t (.exit t) = true) (run : (s.thread t).run = none)
    (pend : (s.thread t).pend = []) (window : (s.thread t).window = none) : exec (.exit t) s = s.stepped t fun y => { nextAcc := y.nextAcc } := by
  rw [exec_exit, execExit, instr1_fires hi hc, State.modThread, fired_thread, fired_setThread]
  exact congrArg _ (wake_exit _ _ _ rfl (calm_tag hc) run window pend (by rw [State.counted, count_xl]; exact calm_opens hc))

/-- EVRAISE of a firmware source. -/
theorem execEvraise_firmware {s : State} {t : Nat} {ra rb : GReg} (hc : s.calm t = true) (hi : s.canIssue t (.evraise t ra rb) = true)
    (run : (s.thread t).run = none) (fits : (s.thread t).pc + 4 < (s.thread t).code) (low : 0x380 ≤ (s.greg t ra).toNat % 1024)
    (high : (s.greg t ra).toNat % 1024 < 0x3C0) :
    exec (.evraise t ra rb) s = .next ((((s.counted t).setThread t (s.thread t).spent).raise ((s.greg t ra).toNat % 1024)
      ((s.greg t rb).toNat % 2 ^ 32)).setThread t { (s.thread t).spent with pc := (s.thread t).pc + 4 }) := by
  have thread (k info : Nat) : ((s.fired t).raise k info).thread t = (s.thread t).spent := (thread_of_fg (raise_fg ..)).trans (fired_thread s t)
  rw [exec_evraise, execEvraise, instr1_fires hi hc]
  dsimp only
  rw [fired_thread]
  split
  next => 
    rw [if_pos (by exact ⟨low, high⟩), goOn_eq _ _ (by rw [thread]; exact calm_tag hc) (by rw [thread]; exact (canIssue_running hi).2.2)
      (by rw [thread]; exact fits), thread]
    rfl
  next r handler => cases run.symm.trans handler

end Sys2Proof.Machine

/-! PROOFS. What the end of an access leaves of its thread (R313, R329, R357 to R360). -/

namespace Sys2Proof.Machine

theorem boolWord_eq (b : Bool) : boolWord b = if b then 1 else 0 := rfl

/-! ### States that differ in threads, memories and registers only -/

theorem quiet_congr {s u : State} (tp : u.tp = s.tp) (mt : u.mt = s.mt) (sw : u.sw = s.sw) : u.quiet = s.quiet := by
  rw [State.quiet, State.quiet, State.takers, State.takers, State.memberGroups, State.memberGroups, tp, mt, sw]

/-- Nothing follows from an event that leaves the queues of a quiet state as they are. -/
theorem settle_still {s u : State} (quiet : s.quiet = true) (tp : u.tp = s.tp) (mt : u.mt = s.mt) (sw : u.sw = s.sw) : settle u = u :=
  settle_quiet u ((quiet_congr tp mt sw).trans quiet)

theorem settle_setThread {s u : State} (quiet : s.quiet = true) (tp : u.tp = s.tp) (mt : u.mt = s.mt) (sw : u.sw = s.sw) (t : Nat) (x : Thread) :
    settle (u.setThread t x) = u.setThread t x := settle_still quiet tp mt sw

theorem mget_map {β γ : Type} (f : β → γ) (m : Map β) (k : Nat) : mget (m.map fun p => (p.1, f p.2)) k = (mget m k).map f := by
  induction m with
  | nil => rfl
  | cons p m ih =>
    rw [List.map_cons, mget, mget]
    split
    · rfl
    · exact ih

/-- A thread that loses its reservation to a write of a range. -/
def Thread.unreserve (tg : Target) (a n : Nat) (x : Thread) : Thread :=
  match x.resv with
  | some (t, g) => if t = tg ∧ a / 128 ≤ g ∧ g ≤ (a + n - 1) / 128 then { x with resv := none } else x
  | none => x

theorem unreserve_resv (tg : Target) (a n : Nat) (x : Thread) : ∃ r, x.unreserve tg a n = { x with resv := r } := by
  unfold Thread.unreserve
  split
  · split
    · exact ⟨none, rfl⟩
    · exact ⟨x.resv, rfl⟩
  · exact ⟨x.resv, rfl⟩

/-- A write takes reservations from threads, and nothing else. -/
theorem clearResv_threads (u : State) (tg : Target) (a n : Nat) :
    u.clearResv tg a n = { u with fg := { u.fg with threads := u.fg.threads.map fun p => (p.1, p.2.unreserve tg a n) } } := by
  have each (p : Nat × Thread) : (match p.2.resv with
      | some (t, g) => if t = tg ∧ a / 128 ≤ g ∧ g ≤ (a + n - 1) / 128 then (p.1, { p.2 with resv := none }) else p
      | none => p) = (p.1, p.2.unreserve tg a n) := by
    unfold Thread.unreserve
    split
    · split <;> rfl
    · rfl
  exact congrArg (fun l => { u with fg := { u.fg with threads := l } }) (List.map_congr_left fun p _ => each p)

theorem clearResv_thread (u : State) (tg : Target) (a n t : Nat) : (u.clearResv tg a n).thread t = (u.thread t).unreserve tg a n := by
  rw [clearResv_threads, State.thread, State.thread, mgetD, mgetD]
  dsimp only
  rw [mget_map]
  cases mget u.fg.threads t <;> rfl

theorem sramWrite_thread (u : State) (h a : Nat) (l : List Byte) (t : Nat) : (u.sramWrite h a l).thread t = u.thread t := rfl

/-! ### A thread's accesses -/

theorem access_id {x : Thread} {k : Nat} {a : Access} (h : x.access k = some a) : a.id = k := by
  have found := List.find?_some h
  exact of_decide_eq_true found

theorem access_mem {x : Thread} {k : Nat} {a : Access} (h : x.access k = some a) : a ∈ x.pend := List.mem_of_find?_eq_some h

/-- The accesses with a number are the access `a`, and so are those of its group. -/
def Thread.alone (x : Thread) (k : Nat) (a : Access) : Prop := a.id = k ∧ ∀ b ∈ x.pend, b = a ∨ (b.group ≠ a.group ∧ b.id ≠ k)

theorem alone_one {x : Thread} {k : Nat} {a : Access} (h : x.access k = some a) (one : x.pend = [a]) : x.alone k a :=
  ⟨access_id h, fun b mem => .inl (by rw [one] at mem; exact List.mem_singleton.1 mem)⟩

theorem without_one {x : Thread} {k : Nat} {a : Access} (h : a.id = k) (one : x.pend = [a]) : x.without k = { x with pend := [] } := by
  rw [Thread.without, one, ← h]
  simp

theorem fold_keyless (t : Nat) (l : List Access) (s : State) (h : ∀ a ∈ l, a.key = none) :
    l.foldl (fun (s : State) a => match a.key with | some k => s.dropRef k | none => s) s = s := by
  induction l with
  | nil => rfl
  | cons a l ih =>
    rw [List.foldl_cons, h a List.mem_cons_self]
    exact ih fun b mem => h b (List.mem_cons_of_mem _ mem)

/-- Accesses without a key that end leave the thread's list, and nothing else changes. -/
theorem dropAccesses_keyless (u : State) (t : Nat) (gone : Access → Bool) (h : ∀ a ∈ (u.thread t).pend, gone a = true → a.key = none) :
    u.dropAccesses t gone = u.setThread t { u.thread t with pend := (u.thread t).pend.filter fun a => !gone a } := by
  rw [State.dropAccesses]
  exact fold_keyless t _ _ fun a mem => h a (List.mem_filter.1 mem).1 (List.mem_filter.1 mem).2

section
variable {u : State} {t k : Nat} {a : Access} (alone : (u.thread t).alone k a) (key : a.key = none)
include alone key

/-- A store that ends. -/
theorem dropAccesses_id : u.dropAccesses t (fun b => b.id == a.id) = u.setThread t ((u.thread t).without k) := by
  obtain ⟨rfl, others⟩ := alone
  rw [dropAccesses_keyless]
  · rfl
  · intro b mem same
    obtain rfl | ⟨-, other⟩ := others b mem
    · exact key
    · exact absurd (of_decide_eq_true same) other

/-- An access that ends with its group. -/
theorem dropAccesses_group : u.dropAccesses t (fun b => b.group == a.group && b.kind == a.kind) = u.setThread t ((u.thread t).without k) := by
  obtain ⟨rfl, others⟩ := alone
  rw [dropAccesses_keyless]
  · rw [Thread.without]
    refine congrArg (fun l => u.setThread t { u.thread t with pend := l }) (List.filter_congr fun b mem => ?_)
    obtain rfl | ⟨group, other⟩ := others b mem
    · simp
    · rw [beq_eq_false_iff_ne.2 group, bne_iff_ne.2 other]
      rfl
  · intro b mem same
    obtain rfl | ⟨group, -⟩ := others b mem
    · exact key
    · exact absurd (of_decide_eq_true (Bool.and_eq_true_iff.1 same).1) group

/-- An access that gives its value to a register that nothing waits for. -/
theorem completeAccess_puts {rd : GReg} (tag : a.tag = none) (dest : a.rd = some rd) (free : a.holds = false) (v : Word) :
    u.completeAccess t a v = u.setThread t (((u.thread t).without k).put rd v) := by
  rw [State.completeAccess, dropAccesses_group alone key, tag, dest]
  simp only [stamp_none, endTag_none]
  rw [if_neg (ne_true_of_eq_false free), State.setReg, thread_setThread_same, setThread_setThread]

end

/-! ### The value of a load -/

theorem putBytes_whole (l : List Byte) {n : Nat} (v : Nat) (h : l.length = n) : putBytes l 0 (leBytes n v) = leBytes n v := by
  rw [putBytes, slice, leBytes_length, Nat.zero_add, ← h, List.drop_length]
  simp

theorem fold_putBytes (l : List Access) (w v : Nat) (h : ∀ b ∈ l, b.off = 0 ∧ b.width = w ∧ b.data = v) (b : List Byte) (len : b.length = w) (some_ : l ≠ []) :
    l.foldl (fun b a => putBytes b a.off (leBytes a.width a.data)) b = leBytes w v := by
  induction l generalizing b with
  | nil => exact absurd rfl some_
  | cons a l ih =>
    obtain ⟨off, width, data⟩ := h a List.mem_cons_self
    rw [List.foldl_cons, off, width, data, putBytes_whole _ _ len]
    by_cases done : l = []
    · rw [done]
      rfl
    · exact ih (fun b mem => h b (List.mem_cons_of_mem _ mem)) _ (leBytes_length _ _) done

/-- A load of one piece gives the value that its piece has read. -/
theorem groupBytes_one (l : List Access) (w v : Nat) (h : ∀ b ∈ l, b.off = 0 ∧ b.width = w ∧ b.data = v) (total : ∀ b ∈ l, b.total = w) (some_ : l ≠ [])
    (fits : v < 256 ^ w) : ofLE (groupBytes l) = v := by
  obtain ⟨a, l, rfl⟩ := List.exists_cons_of_ne_nil some_
  rw [groupBytes, fold_putBytes _ w v h _ (by rw [List.length_replicate]; exact total a List.mem_cons_self) some_, ofLE_leBytes, Nat.mod_eq_of_lt fits]

end Sys2Proof.Machine

/-! PROOFS. How an access that nothing holds up is performed, and how the thread that waits for it goes on (R330, R333, R357, R363, R366). -/

namespace Sys2Proof.Machine

theorem wake_none {u : State} {t : Nat} (h : (u.thread t).wait = .none) : u.wake t = u := by rw [State.wake, h]

section
variable {s : State} {t k : Nat} {a : Access} {r : HostRes} (clocks : s.clocks) (found : (s.thread t).access k = some a)
  (performed : a.performed = false) (reached : a.reached = false)
include clocks found performed reached

theorem response_load (kind : a.kind = .load) : exec (.foragerAccessResponse t k r) s = .next (settle ((s.performLoad t a r).wake t)) := by
  rw [exec_foragerAccessResponse, execForagerAccessResponse, s.clocked_runs clocks, found]
  dsimp only
  rw [if_neg (ne_true_of_eq_false performed), if_neg (ne_true_of_eq_false reached), if_pos kind]
  rfl

/-- The state after an access that is no load is performed. -/
def State.performs (s : State) (t : Nat) (a : Access) (r : HostRes) : State :=
  match a.kind with
  | .store => s.performStore t a
  | .lr => s.performLr t a
  | .sc => s.performSc t a
  | .atomic => s.performAtomic t a r
  | .load => s

omit clocks found performed reached in
theorem performs_store (kind : a.kind = .store) : s.performs t a r = s.performStore t a := by rw [State.performs, kind]

omit clocks found performed reached in
theorem performs_lr (kind : a.kind = .lr) : s.performs t a r = s.performLr t a := by rw [State.performs, kind]

omit clocks found performed reached in
theorem performs_sc (kind : a.kind = .sc) : s.performs t a r = s.performSc t a := by rw [State.performs, kind]

omit clocks found performed reached in
theorem performs_atomic (kind : a.kind = .atomic) : s.performs t a r = s.performAtomic t a r := by rw [State.performs, kind]

theorem response_performs (kind : a.kind ≠ .load) (may : (s.thread t).mayPerform a = true) :
    exec (.foragerAccessResponse t k r) s = .next (settle ((s.performs t a r).wake t)) := by
  rw [exec_foragerAccessResponse, execForagerAccessResponse, s.clocked_runs clocks, found]
  dsimp only
  rw [if_neg (ne_true_of_eq_false performed), if_neg (ne_true_of_eq_false reached), if_neg kind, if_neg (by rw [may]; decide)]
  rfl

end

theorem mayPerform_first {x : Thread} {a : Access} {l : List Access} (h : x.pend = a :: l) (free : a.queued = false) : x.mayPerform a = true := by
  rw [Thread.mayPerform, Thread.before, h, List.takeWhile_cons_of_neg (by simp), free]
  rfl

theorem ownStore_first {x : Thread} {a : Access} {l : List Access} (h : x.pend = a :: l) : x.ownStore a = none := by
  rw [Thread.ownStore, Thread.before, h, List.takeWhile_cons_of_neg (by simp)]
  rfl

/-! ### The end of a fence -/

section
variable {u : State} {t : Nat} {rd : GReg}

/-- A thread that waits at a fence without an access goes on. -/
theorem wake_fenced {kind : Nat} (wait : (u.thread t).wait = .fence kind rd) (none_ : (u.thread t).pend = []) (tag : (u.thread t).tag = none)
    (fits : (u.thread t).pc + 4 < (u.thread t).code) (calm : (u.thread t).fenceFail = false ∨ (u.thread t).trapEn % 2 = 0) :
    u.wake t = u.setThread t { (u.thread t).fenced rd (u.thread t).fenceFail with pc := (u.thread t).pc + 4 } := by
  have met : (u.thread t).fenceMet kind = true := by
    unfold Thread.fenceMet
    rw [none_]
    split <;> rfl
  rw [State.wake, wait]
  dsimp only
  rw [if_pos met, State.fenceDone]
  dsimp only
  rw [State.modThread, thread_setThread_same, if_neg]
  · have went := goOn_plain u t ((u.thread t).fenced rd (u.thread t).fenceFail) (by rw [Thread.fenced, put_eq]; exact tag) rfl
      (by rw [Thread.fenced, put_eq]; exact fits)
    have pc : ((u.thread t).fenced rd (u.thread t).fenceFail).pc = (u.thread t).pc := by rw [Thread.fenced, put_eq]
    rw [pc] at went
    exact went
  · rw [put_eq]
    rintro ⟨bad, enabled⟩
    obtain good | off := calm
    · rw [good] at bad
      exact Bool.false_ne_true bad
    · dsimp only at enabled
      omega

/-- A fence under which a store has failed traps where the thread lets it. -/
theorem wake_fence_traps {kind : Nat} (wait : (u.thread t).wait = .fence kind rd) (none_ : (u.thread t).pend = []) (tag : (u.thread t).tag = none)
    (last : (u.thread t).last = none) (failed : (u.thread t).fenceFail = true) (enabled : (u.thread t).trapEn % 2 = 1)
    (may : (u.thread t).mayTrap = true) (opens : (u.xl.opens.all fun o => !(o.who == .thread t)) = true) :
    u.wake t = u.setThread t (Thread.trapped 7 0 0 ((u.thread t).fenced rd true)) := by
  have met : (u.thread t).fenceMet kind = true := by
    unfold Thread.fenceMet
    rw [none_]
    split <;> rfl
  rw [State.wake, wait]
  dsimp only
  rw [if_pos met, failed, State.fenceDone]
  dsimp only
  rw [State.modThread, thread_setThread_same, if_pos]
  · exact trap_plain u t ((u.thread t).fenced rd true) _ (by rw [Thread.fenced, put_eq]; exact tag) rfl (by rw [Thread.fenced, put_eq]; exact last)
      (by rw [Thread.fenced, put_eq]; exact may) opens
  · rw [put_eq]
    exact ⟨rfl, enabled⟩

/-- A fence does not go on while an access that it waits for is under way. -/
theorem wake_fence_waits {kind : Nat} (wait : (u.thread t).wait = .fence kind rd) {b : Access} (one : (u.thread t).pend = [b])
    (performed : b.performed = false) (store : b.kind ≠ .store) : u.wake t = u := by
  have unmet : (u.thread t).fenceMet kind = false := by
    unfold Thread.fenceMet
    rw [one]
    split
    · simp [performed, store]
    · rfl
    · simp [performed]
  rw [State.wake, wait]
  dsimp only
  rw [if_neg (ne_true_of_eq_false unmet)]

end

/-! ### Accesses of hive SRAM -/

section
variable {s : State} {t k : Nat} {a : Access}

/-- A store to hive SRAM. -/
theorem performStore_hive {h : Nat} (target : a.target = .hive h)
    (gone : s.dropAccesses t (fun b => b.id == a.id) = s.setThread t ((s.thread t).without k)) :
    s.performStore t a = ((s.setThread t ((s.thread t).without k)).sramWrite h a.addr a.bytes).clearResv (.hive h) a.addr a.bytes.length := by
  unfold State.performStore
  rw [target]
  dsimp only
  rw [gone]
  rfl

theorem readAccess_hive {h : Nat} (target : a.target = .hive h) (sound : s.soft = []) (r : HostRes) :
    s.readAccess t a r = (s, .data (ofLE (Memory.readN 0 (s.sramOf h) a.addr a.width))) := by
  rw [State.readAccess, target]
  dsimp only
  rw [sramMet_none _ _ _ _ sound]

end

section
variable {s : State} {t k : Nat} {a : Access}

/-- A piece of a load that has its data, and a thread in which one access has them. -/
def Access.answered (v : Nat) (a : Access) : Access := { a with performed := true, data := v }

def Thread.answered (k v : Nat) (x : Thread) : Thread :=
  { x with pend := x.pend.map fun b => if b.id = k then b.answered v else b }

theorem answered_without (x : Thread) (k v : Nat) : (x.answered k v).without k = x.without k := by
  rw [Thread.without, Thread.without, Thread.answered]
  refine congrArg (fun l => { x with pend := l }) ?_
  dsimp only
  rw [List.filter_map, List.map_congr_left (g := id), List.map_id]
  · refine List.filter_congr fun b _ => ?_
    dsimp only [Function.comp]
    split <;> rfl
  · intro b mem
    have other := (List.mem_filter.1 mem).2
    dsimp only [Function.comp] at other
    by_cases same : b.id = k
    · rw [if_pos same] at other
      exact absurd same (bne_iff_ne.1 other)
    · rw [if_neg same]
      rfl

theorem answered_alone {x : Thread} (h : x.alone k a) (v : Nat) : (x.answered k v).alone k (a.answered v) := by
  obtain ⟨rfl, others⟩ := h
  refine ⟨rfl, fun b mem => ?_⟩
  obtain ⟨c, old, rfl⟩ := List.mem_map.1 mem
  obtain rfl | ⟨group, other⟩ := others c old
  · exact .inl (if_pos rfl)
  · exact .inr (by rw [if_neg other]; exact ⟨group, other⟩)

/-- A load of one piece that no own store answers ends with what it reads. -/
theorem performLoad_ends {u : State} {rd : GReg} {r : HostRes} {v : Nat} (alone : (u.thread t).alone k a) (listed : a ∈ (u.thread t).pend)
    (own : (s.thread t).ownStore a = none) (may : (s.thread t).mayPerform a = true) (got : s.readAccess t a r = (u, .data v)) (fits : v < 256 ^ a.width)
    (kind : a.kind = .load) (key : a.key = none) (tag : a.tag = none) (call : a.call = false) (device : a.device = false) (dest : a.rd = some rd)
    (total : a.total = a.width) (off : a.off = 0) :
    s.performLoad t a r = u.setThread t (((u.thread t).without k).put rd (extend a.signed a.width v)) := by
  have number : a.id = k := alone.1
  have piece := answered_alone alone v
  have pieces : ∀ b ∈ ((u.thread t).answered k v).pend.filter fun b => b.kind == .load && b.group == a.group, b = (a.answered v) := by
    intro b mem
    obtain ⟨mem, own⟩ := List.mem_filter.1 mem
    obtain same | ⟨group, -⟩ := piece.2 b mem
    · exact same
    · exact absurd (of_decide_eq_true (Bool.and_eq_true_iff.1 own).2) group
  have some_ : ((u.thread t).answered k v).pend.filter (fun b => b.kind == .load && b.group == a.group) ≠ [] := by
    refine List.ne_nil_of_mem (a := (a.answered v)) (List.mem_filter.2 ⟨List.mem_map.2 ⟨a, listed, if_pos number⟩, ?_⟩)
    rw [Access.answered, kind]
    simp
  have value := groupBytes_one _ a.width v (fun b mem => by rw [pieces b mem]; exact ⟨off, rfl, rfl⟩) (fun b mem => by rw [pieces b mem]; exact total)
    some_ fits
  have done : (((u.thread t).answered k v).pend.filter fun b => b.kind == .load && b.group == a.group).all (·.performed) = true :=
    List.all_eq_true.2 fun b mem => by rw [pieces b mem]; rfl
  have changed : u.modAccess t a.id (Access.answered v) = u.setThread t ((u.thread t).answered k v) := by
    rw [number]
    rfl
  have holds : (a.answered v).holds = false := by
    rw [Access.holds, Access.answered]
    dsimp only
    rw [device, kind]
    simp
  unfold State.performLoad
  rw [own]
  dsimp only
  rw [may, got]
  dsimp only
  rw [if_neg (by decide), if_neg (by rw [call]; simp)]
  change State.finishGroup (u.modAccess t a.id (Access.answered v)) t (a.answered v) = _
  have group : (a.answered v).group = a.group := rfl
  have width : (a.answered v).total = a.width := total
  have free : ¬(a.answered v).call = true := ne_true_of_eq_false call
  rw [changed, State.finishGroup, thread_setThread_same, group, done, if_neg (by decide), if_neg free, value, width,
    completeAccess_puts (a := a.answered v) (by rw [thread_setThread_same]; exact piece) key tag dest holds, thread_setThread_same, setThread_setThread, answered_without]
  rfl

end

end Sys2Proof.Machine

/-! PROOFS. Fences and system instructions (R332, R333, R343, R363, R369). -/

namespace Sys2Proof.Machine

section
variable {s : State} {t k h kind : Nat} {rd : GReg} {a : Access} {r : HostRes} (clocks : s.clocks) (quiet : s.quiet = true)
  (found : (s.thread t).access k = some a) (key : a.key = none) (performed : a.performed = false) (reached : a.reached = false)
  (queued : a.queued = false) (target : a.target = .hive h)
include clocks quiet found key performed reached queued target

/-- The state after a store to hive SRAM that leaves the accesses `l` under way. -/
def State.sramStored (s : State) (t h : Nat) (a : Access) (l : List Access) : State :=
  ((s.setThread t { s.thread t with pend := l }).sramWrite h a.addr a.bytes).clearResv (.hive h) a.addr a.bytes.length

omit clocks quiet found key performed reached queued target in
theorem sramStored_thread (s : State) (t h : Nat) (a : Access) (l : List Access) :
    ∃ v, (s.sramStored t h a l).thread t = { s.thread t with pend := l, resv := v } := by
  obtain ⟨v, same⟩ := unreserve_resv (.hive h) a.addr a.bytes.length { s.thread t with pend := l }
  exact ⟨v, by rw [State.sramStored, clearResv_thread, sramWrite_thread, thread_setThread_same, same]⟩

omit quiet in
theorem response_sramStored (store : a.kind = .store) {l : List Access} (first : (s.thread t).pend = a :: l) (others : ∀ b ∈ l, b.id ≠ k) :
    exec (.foragerAccessResponse t k r) s = .next (settle ((s.sramStored t h a l).wake t)) := by
  have number : a.id = k := access_id found
  have left : (s.thread t).pend.filter (fun b => !(b.id == a.id)) = l := by
    rw [first, List.filter_cons_of_neg (by simp), List.filter_eq_self]
    exact fun b mem => by rw [number]; simpa using others b mem
  have gone : s.dropAccesses t (fun b => b.id == a.id) = s.setThread t ((s.thread t).without k) := by
    rw [dropAccesses_keyless, ← number]
    · rfl
    · intro b mem same
      rw [first] at mem
      obtain rfl | mem := List.mem_cons.1 mem
      · exact key
      · exact absurd ((of_decide_eq_true same).trans number) (others b mem)
  rw [response_performs clocks found performed reached (by rw [store]; decide) (mayPerform_first first queued), performs_store store,
    performStore_hive target gone, Thread.without, ← number]
  exact congrArg (fun l => Host.Outcome.next (settle ((s.sramStored t h a l).wake t))) left

variable (wait : (s.thread t).wait = .fence kind rd)
include wait

/-- A thread whose fence has completed: the flag in its register, and in BFAULT beside what stood there. -/
def Thread.flagged (rd : GReg) (fault bfault : Bool) (y : Thread) : Thread :=
  { y.put rd (boolWord fault) with bfault := bfault || fault, fenceFail := false, wait := .none }

/-- The last store that a fence waits for is performed: the fence completes with its fault flag. -/
theorem sramStore_ends_fence (tag : (s.thread t).tag = none) (fits : (s.thread t).pc + 4 < (s.thread t).code) (store : a.kind = .store)
    (one : (s.thread t).pend = [a]) (calm : (s.thread t).fenceFail = false ∨ (s.thread t).trapEn % 2 = 0) :
    exec (.foragerAccessResponse t k r) s = .next ((s.sramStored t h a []).setThread t
      { ((s.sramStored t h a []).thread t).flagged rd (s.thread t).fenceFail (s.thread t).bfault with pc := (s.thread t).pc + 4 }) := by
  obtain ⟨v, same⟩ := sramStored_thread s t h a []
  rw [response_sramStored clocks found key performed reached queued target store one (by simp),
    wake_fenced (by rw [same]; exact wait) (by rw [same]) (by rw [same]; exact tag) (by rw [same]; exact fits) (by rw [same]; exact calm),
    settle_still quiet, same]
  all_goals rfl

/-- A fence under which a store has failed traps with the last store. -/
theorem sramStore_traps_fence (tag : (s.thread t).tag = none) (last : (s.thread t).last = none) (store : a.kind = .store)
    (one : (s.thread t).pend = [a]) (failed : (s.thread t).fenceFail = true) (enabled : (s.thread t).trapEn % 2 = 1)
    (may : (s.thread t).mayTrap = true) (opens : (s.xl.opens.all fun o => !(o.who == .thread t)) = true) :
    exec (.foragerAccessResponse t k r) s = .next ((s.sramStored t h a []).setThread t
      (Thread.trapped 7 0 0 (((s.sramStored t h a []).thread t).flagged rd (s.thread t).fenceFail (s.thread t).bfault))) := by
  obtain ⟨v, same⟩ := sramStored_thread s t h a []
  rw [response_sramStored clocks found key performed reached queued target store one (by simp),
    wake_fence_traps (u := s.sramStored t h a []) (by rw [same]; exact wait) (by rw [same]) (by rw [same]; exact tag) (by rw [same]; exact last) (by rw [same]; exact failed)
      (by rw [same]; exact enabled) (by rw [same]; exact may) (by exact opens),
    settle_still quiet, failed, same]
  all_goals rfl

/-- A fence waits on while another access is under way. -/
theorem sramStore_keeps_fence {b : Access} (two : (s.thread t).pend = [a, b]) (other : b.id ≠ k) (under : b.performed = false) (load : b.kind ≠ .store)
    (store : a.kind = .store) : exec (.foragerAccessResponse t k r) s = .next (s.sramStored t h a [b]) := by
  obtain ⟨v, same⟩ := sramStored_thread s t h a [b]
  rw [response_sramStored clocks found key performed reached queued target store two (by simpa using other),
    wake_fence_waits (b := b) (by rw [same]; exact wait) (by rw [same]) under load, settle_still quiet]
  all_goals rfl

/-- The last load that a fence waits for gives its value, and the fence completes. -/
theorem sramLoad_ends_fence (sound : s.soft = []) (untagged : a.tag = none) (call : a.call = false) (device : a.device = false)
    (tag : (s.thread t).tag = none) (fits : (s.thread t).pc + 4 < (s.thread t).code) (load : a.kind = .load) (one : (s.thread t).pend = [a])
    (total : a.total = a.width) (off : a.off = 0) {g : GReg} (dest : a.rd = some g) (good : (s.thread t).fenceFail = false) :
    exec (.foragerAccessResponse t k r) s = .next (s.setThread t { ({ s.thread t with pend := [] }.put g
      (extend a.signed a.width (ofLE (Memory.readN 0 (s.sramOf h) a.addr a.width)))).put rd 0 with wait := .none, pc := (s.thread t).pc + 4 }) := by
  have fits256 : ofLE (Memory.readN 0 (s.sramOf h) a.addr a.width) < 256 ^ a.width := by
    have below := ofLE_lt (Memory.readN 0 (s.sramOf h) a.addr a.width)
    rwa [show (Memory.readN 0 (s.sramOf h) a.addr a.width).length = a.width by simp [Memory.readN]] at below
  rw [response_load clocks found performed reached load,
    performLoad_ends (alone_one found one) (access_mem found) (ownStore_first one) (mayPerform_first one queued) (readAccess_hive target sound r) fits256
      load key untagged call device dest total off, without_one (access_id found) one,
    wake_fenced (by rw [thread_setThread_same, put_eq]; exact wait) (by rw [thread_setThread_same, put_eq]) (by rw [thread_setThread_same, put_eq]; exact tag)
      (by rw [thread_setThread_same, put_eq]; exact fits) (.inl (by rw [thread_setThread_same, put_eq]; exact good)), settle_still quiet,
    thread_setThread_same, setThread_setThread]
  · refine congrArg (fun x => Host.Outcome.next (s.setThread t x)) ?_
    simp only [Thread.fenced, put_eq, good, Bool.or_false, boolWord]
    rfl
  all_goals rfl

end

/-! ### A device store that fails (R369, R370) -/

theorem logTimeout_regs (s : State) (t : Nat) (a : Access) (err : Bool) : ∃ r, s.logTimeout t a err = { s with regs := r } := by
  unfold State.logTimeout
  split
  · exact ⟨s.regs, rfl⟩
  · exact ⟨_, rfl⟩

/-- The state in which a failed device store has been captured, raised and counted. -/
def State.storeFailed (s : State) (t : Nat) (a : Access) (err : Bool) : State :=
  ((s.logTimeout t a err).raise 0x281 (threadId t)).tally Reg.ORD_COUNT_FAILED_STORES 0x184 0 (s.threadOwner t)

theorem storeFailed_parts (s : State) (t : Nat) (a : Access) (err : Bool) :
    (s.storeFailed t a err).fg = s.fg ∧ (s.storeFailed t a err).tp = s.tp ∧ (s.storeFailed t a err).mt = s.mt ∧ (s.storeFailed t a err).sw = s.sw := by
  obtain ⟨r, logged⟩ := logTimeout_regs s t a err
  rw [State.storeFailed, logged]
  simp

theorem storeFailed_shows (s : State) (t : Nat) (a : Access) (err : Bool) : (s.storeFailed t a err).shows 0x281 = true :=
  shows_tally (by decide) (raise_shows (by decide) _ (by decide) _ _ _) (by decide) _ _ _ _

theorem shows_setThread (u : State) (t : Nat) (x : Thread) (k : Nat) : (u.setThread t x).shows k = u.shows k := shows_of_regs rfl

theorem storeFailed_status (s : State) (t : Nat) (a : Access) (err : Bool) (x : Thread) :
    bit (((s.storeFailed t a err).setThread t x).reg (Reg.EVT_STATUS_STATUS.addr 10 0) 0) 1 = true := by
  have shown : ((s.storeFailed t a err).setThread t x).shows 0x281 = true :=
    (shows_setThread ..).trans (storeFailed_shows s t a err)
  rwa [State.shows, show 0x281 / 64 = 10 from rfl, show 0x281 % 64 = 1 from rfl] at shown

section
variable {s : State} {t k kind : Nat} {rd : GReg} {a : Access} {err : Bool}

/-- A device store without its acknowledgement fails under the fence that waits for it. -/
theorem deviceAccessTimeout_fails_fence (clocks : s.clocks) (quiet : s.quiet = true) (one : (s.thread t).pend = [a]) (number : a.id = k)
    (key : a.key = none) (device : a.device = true) (store : a.kind = .store) (queued : a.queued = false) (target : a.target ≠ .reg)
    (wait : (s.thread t).wait = .fence kind rd) (stores : kind ≠ 1) (waited : kind = 3 ∨ a.performed = false) (tag : (s.thread t).tag = none)
    (fits : (s.thread t).pc + 4 < (s.thread t).code) (masked : (s.thread t).trapEn % 2 = 0) :
    exec (.deviceAccessTimeout t k err) s = .next ((s.storeFailed t a err).setThread t
      { ({ s.thread t with pend := [] }.put rd 1) with bfault := true, fenceFail := false, wait := .none, pc := (s.thread t).pc + 4 }) := by
  obtain ⟨fg, tp, mt, sw⟩ := storeFailed_parts s t a err
  have same : (s.storeFailed t a err).thread t = s.thread t := thread_of_fg fg
  have found : (s.thread t).access k = some a := by rw [Thread.access, one, List.find?_cons_of_pos (by simp [number])]
  have issued : (s.thread t).deviceIssued a = true := by
    rw [Thread.deviceIssued, Thread.before, one, List.takeWhile_cons_of_neg (by simp), queued]
    rfl
  have fenced : (s.thread t).fenceOn a = true := by
    unfold Thread.fenceOn
    rw [wait]
    obtain rfl | under := waited
    · rfl
    · split <;> simp_all
  have failed : s.failStore t a err = ((s.storeFailed t a err).setThread t { s.thread t with fenceFail := true, pend := [] }).wake t := by
    rw [State.failStore]
    dsimp only
    rw [if_neg (by rw [wait]; exact Wait.noConfusion)]
    change (State.dropAccesses ((s.storeFailed t a err).modThread t _) t _).wake t = _
    rw [State.modThread, same, if_pos fenced, dropAccesses_keyless _ _ _ (by rw [thread_setThread_same, one]; simp [key]), thread_setThread_same,
      setThread_setThread, one]
    simp
  rw [exec_deviceAccessTimeout, execDeviceAccessTimeout, s.clocked_runs clocks, found]
  dsimp only
  rw [if_neg (by rw [device, issued]; simp), if_neg target, if_pos store, failed,
    wake_fenced (by rw [thread_setThread_same]; exact wait) (by rw [thread_setThread_same]) (by rw [thread_setThread_same]; exact tag)
      (by rw [thread_setThread_same]; exact fits) (by rw [thread_setThread_same]; exact .inr masked),
    thread_setThread_same, setThread_setThread, settle_setThread quiet tp mt sw]
  refine congrArg (fun x => Host.Outcome.next ((s.storeFailed t a err).setThread t x)) ?_
  simp only [Thread.fenced, put_eq, boolWord, Bool.or_true]
  rfl

/-- The hive's signal gives its reason to the thread that waits for it. -/
theorem threadWake_gives {reason : Word} (clocks : s.clocks) (wait : (s.thread t).wait = .signal rd) (tag : (s.thread t).tag = none)
    (fits : (s.thread t).pc + 4 < (s.thread t).code) :
    exec (.threadWake t reason) s = .next (s.setThread t { (s.thread t).wrote rd reason with wait := .none }) := by
  have ended : (((s.setReg t rd reason).stamp none 4).endTag none) = s.setReg t rd reason := by rw [stamp_none, endTag_none]
  rw [exec_threadWake, execThreadWake, s.clocked_runs clocks, wait]
  change ok ((s.setReg t rd reason).goOn t) = _
  rw [State.goOn]
  have same : (s.setReg t rd reason).thread t = (s.thread t).put rd reason := thread_setThread_same ..
  rw [same, put_tag, tag, ended, put_pc, put_code, if_pos fits, State.modThread, same, State.setReg, setThread_setThread]
  refine congrArg (fun x => Host.Outcome.next (s.setThread t x)) ?_
  rw [Thread.wrote, put_eq]
  dsimp only
  rw [tag]

end

/-- Settles O5: a fence by what it waits for, the system instructions each on its path, and the ends of accesses by the fence that they
let go on, trap, or leave waiting. -/
theorem fencesAndSystemInstructions : Obligations.FencesAndSystemInstructions := by
  unfold Obligations.FencesAndSystemInstructions
  refine ⟨?fences, ?system, ?ends, ?fails, ?wakes⟩
  case fences =>
    intro s t rd hc fits x performed loaded fence
    have all : (x.fenceMet 0 = true) ↔ performed := List.all_eq_true
    refine ⟨fun hi => ?_, fun hi => ?_, fun hi => ?_, fun hi => ?_⟩
    · exact fence_fires hc fits rfl hi all
    · exact fence_fires hc fits rfl hi (by simp [Thread.fenceMet, loaded, x])
    · exact fence_fires hc fits rfl hi all
    · exact fence_fires hc fits rfl hi List.isEmpty_iff
  case system =>
    intro s t rd ra rb hc x k
    obtain ⟨nop, yield_, trap, wait⟩ := systemInstructions (rd := rd) (ra := ra) (rb := rb) hc
    exact ⟨nop, yield_, trap, fun hi inside => execXret_goes hc hi rfl inside, wait, fun hi run pend window => execExit_ends hc hi run pend window,
      fun hi run fits low high => execEvraise_firmware hc hi run fits low high⟩
  case ends =>
    intro s t k h kind rd a r clocks quiet sound found key untagged performed reached call device queued target wait tag last fits x performs u flag y
    refine ⟨fun store stores one calm => ?_, fun store stores one failed enabled may opens => ?_, fun load acquire one total off g dest good => ?_,
      fun b two other under kept store => ?_⟩
    · exact sramStore_ends_fence clocks quiet found key performed reached queued target wait tag fits store one calm
    · exact sramStore_traps_fence clocks quiet found key performed reached queued target wait tag last store one failed enabled may opens
    · exact sramLoad_ends_fence clocks quiet found key performed reached queued target wait sound untagged call device tag fits load one total off dest good
    · exact sramStore_keeps_fence clocks quiet found key performed reached queued target wait two other under kept store
  case fails =>
    intro s t k kind rd a err clocks quiet one number key device store queued target wait stores waited tag last fits masked
    exact ⟨_, deviceAccessTimeout_fails_fence clocks quiet one number key device store queued target wait stores waited tag fits masked,
      thread_setThread_same .., storeFailed_status s t a err _⟩
  case wakes =>
    intro s t rd reason clocks wait tag fits
    exact threadWake_gives clocks wait tag fits

end Sys2Proof.Machine

/-! PROOFS. What an access does as it is performed, acknowledged or failed (R103, R329, R330, R357, R358, R365 to R368, R402). -/

namespace Sys2Proof.Machine

theorem put_wait_none {x : Thread} {r : GReg} {v : Word} (h : x.wait = .none) : (x.put r v).wait = .none := by rw [put_wait, h]

theorem wake_setThread {u : State} {t : Nat} {x : Thread} (h : x.wait = .none) : (u.setThread t x).wake t = u.setThread t x :=
  wake_none (by rw [thread_setThread_same]; exact h)

/-- What `State.due` says of an access and its thread. -/
theorem due_parts {s : State} {t k : Nat} {a : Access} (h : s.due t k a = true) :
    (s.thread t).access k = some a ∧ a.key = none ∧ a.tag = none ∧ (s.thread t).tag = none ∧ a.performed = false ∧ a.reached = false ∧ a.call = false
      ∧ a.device = false ∧ (s.thread t).alone k a ∧ (s.thread t).mayPerform a = true ∧ (s.thread t).ownStore a = none
      ∧ (s.thread t).wait = .none ∧ a.off = 0 := by
  simp only [State.due, Bool.and_eq_true, Bool.not_eq_true', beq_iff_eq, Option.isNone_iff_eq_none, List.all_eq_true, Bool.or_eq_true,
    bne_iff_ne] at h
  obtain ⟨⟨⟨⟨⟨⟨⟨⟨⟨⟨⟨⟨⟨found, number⟩, key⟩, untagged⟩, tag⟩, performed⟩, reached⟩, call⟩, device⟩, others⟩, may⟩, own⟩, wait⟩, off⟩ := h
  exact ⟨found, key, untagged, tag, performed, reached, call, device, ⟨number, others⟩, may, own, wait, off⟩

theorem readN_lt (d : Byte) (m : List Host.Cell) (a n : Nat) : ofLE (Memory.readN d m a n) < 256 ^ n := by
  have below := ofLE_lt (Memory.readN d m a n)
  rwa [show (Memory.readN d m a n).length = n by simp [Memory.readN]] at below

section
variable {s : State} {t k : Nat} {a : Access} {r : HostRes} {rd : GReg} (clocks : s.clocks) (quiet : s.quiet = true) (due : s.due t k a = true)
include clocks quiet due

/-- A load that reads a value, with what the read has changed beside threads and queues. -/
theorem response_loads {u : State} {v : Nat} (got : s.readAccess t a r = (u, .data v)) (same : u.fg = s.fg) (tp : u.tp = s.tp) (mt : u.mt = s.mt)
    (sw : u.sw = s.sw) (fits : v < 256 ^ a.width) (load : a.kind = .load) (dest : a.rd = some rd) (total : a.total = a.width) :
    exec (.foragerAccessResponse t k r) s = .next (u.setThread t (((s.thread t).without k).put rd (extend a.signed a.width v))) := by
  obtain ⟨found, key, untagged, tag, performed, reached, call, device, alone, may, own, wait, off⟩ := due_parts due
  have thread : u.thread t = s.thread t := thread_of_fg same
  rw [response_load clocks found performed reached load,
    performLoad_ends (by rw [thread]; exact alone) (by rw [thread]; exact access_mem found) own may got fits load key untagged call device dest total off,
    thread, wake_setThread (put_wait_none (by exact wait)), settle_setThread quiet tp mt sw]

variable {h : Nat} (target : a.target = .hive h)
include target

omit clocks quiet in
/-- An access of hive SRAM that gives its value to a register holds no thread. -/
theorem hive_holds_none : a.holds = false := by
  obtain ⟨found, key, untagged, tag, performed, reached, call, device, alone, may, own, wait, off⟩ := due_parts due
  rw [Access.holds, device, target]
  simp

/-- A store to hive SRAM that is due. -/
theorem response_stores (store : a.kind = .store) :
    exec (.foragerAccessResponse t k r) s = .next (((s.setThread t ((s.thread t).without k)).sramWrite h a.addr a.bytes).clearResv
      (.hive h) a.addr a.bytes.length) := by
  obtain ⟨found, key, untagged, tag, performed, reached, call, device, alone, may, own, wait, off⟩ := due_parts due
  obtain ⟨v, same⟩ := unreserve_resv (.hive h) a.addr a.bytes.length ((s.thread t).without k)
  rw [response_performs clocks found performed reached (by rw [store]; decide) may, performs_store store,
    performStore_hive target (dropAccesses_id alone key), wake_none, settle_still quiet]
  iterate 3 rfl
  rw [clearResv_thread, sramWrite_thread, thread_setThread_same, same]
  exact wait

/-- LR of hive SRAM reserves its granule, unless it is void. -/
theorem response_lr (sound : s.soft = []) (lr : a.kind = .lr) (dest : a.rd = some rd) :
    exec (.foragerAccessResponse t k r) s = .next (s.setThread t
      ((if a.void then (s.thread t).without k else { (s.thread t).without k with resv := some (.hive h, a.addr / 128) }).put rd
        (BitVec.ofNat 64 (ofLE (Memory.readN 0 (s.sramOf h) a.addr a.width))))) := by
  obtain ⟨found, key, untagged, tag, performed, reached, call, device, alone, may, own, wait, off⟩ := due_parts due
  rw [response_performs clocks found performed reached (by rw [lr]; decide) may, performs_lr lr, State.performLr, readAccess_hive target sound]
  dsimp only
  rw [target, State.modThread]
  split
  · rw [completeAccess_puts (by rw [thread_setThread_same]; exact alone) key untagged dest (hive_holds_none due target), thread_setThread_same,
      setThread_setThread, wake_setThread (put_wait_none (by exact wait)), settle_still quiet]
    all_goals rfl
  · rw [completeAccess_puts (by rw [thread_setThread_same]; exact alone) key untagged dest (hive_holds_none due target), thread_setThread_same,
      setThread_setThread, wake_setThread (put_wait_none (by exact wait)), settle_still quiet]
    all_goals rfl

/-- A granule of hive SRAM that is written for an access: the bytes, and the reservations that it clears. -/
def State.sramGives (s : State) (h a : Nat) (b : List Byte) : State := (s.sramWrite h a b).clearResv (.hive h) a b.length

omit clocks quiet due target in
theorem sramGives_thread (s : State) (h p : Nat) (b : List Byte) (t : Nat) : ∃ v, (s.sramGives h p b).thread t = { s.thread t with resv := v } := by
  obtain ⟨v, same⟩ := unreserve_resv (.hive h) p b.length (s.thread t)
  exact ⟨v, by rw [State.sramGives, clearResv_thread, sramWrite_thread, same]⟩

/-- SC under its reservation writes and answers 0. -/
theorem response_sc_good (sc : a.kind = .sc) (dest : a.rd = some rd) (reserved : (s.thread t).resv = some (.hive h, a.addr / 128)) :
    exec (.foragerAccessResponse t k r) s = .next ((s.sramGives h a.addr a.bytes).setThread t ({ (s.thread t).without k with resv := none }.put rd 0)) := by
  obtain ⟨found, key, untagged, tag, performed, reached, call, device, alone, may, own, wait, off⟩ := due_parts due
  obtain ⟨v, same⟩ := sramGives_thread s h a.addr a.bytes t
  have wrote : s.writeMemory t (.hive h) a.addr a.bytes = s.sramGives h a.addr a.bytes := rfl
  rw [response_performs clocks found performed reached (by rw [sc]; decide) may, performs_sc sc, State.performSc, target, if_neg (by simp), reserved, wrote]
  dsimp only
  rw [if_pos (by simp), State.modThread, same,
    completeAccess_puts (by rw [thread_setThread_same]; exact alone) key untagged dest (hive_holds_none due target), thread_setThread_same,
    setThread_setThread, wake_setThread (put_wait_none (by exact wait)), settle_still quiet]
  · rw [beq_self_eq_true]
    rfl
  all_goals rfl

/-- SC without its reservation writes nothing and answers 1. -/
theorem response_sc_bad (sc : a.kind = .sc) (dest : a.rd = some rd) (lost : (s.thread t).resv ≠ some (.hive h, a.addr / 128)) :
    exec (.foragerAccessResponse t k r) s = .next (s.setThread t ({ (s.thread t).without k with resv := none }.put rd 1)) := by
  obtain ⟨found, key, untagged, tag, performed, reached, call, device, alone, may, own, wait, off⟩ := due_parts due
  rw [response_performs clocks found performed reached (by rw [sc]; decide) may, performs_sc sc, State.performSc, target, if_neg (by simp)]
  dsimp only
  rw [beq_eq_false_iff_ne.2 lost, if_neg (by simp), State.modThread,
    completeAccess_puts (by rw [thread_setThread_same]; exact alone) key untagged dest (hive_holds_none due target), thread_setThread_same,
    setThread_setThread, wake_setThread (put_wait_none (by exact wait)), settle_still quiet]
  all_goals rfl

/-- ATOM writes its result and answers the old value. -/
theorem response_atomic (sound : s.soft = []) (atomic : a.kind = .atomic) (dest : a.rd = some rd) {old : Nat}
    (value : ofLE (Memory.readN 0 (s.sramOf h) a.addr a.width) = old) :
    let u := s.sramGives h a.addr (leBytes a.width (atomicResult (0x10 + a.fn) (8 * a.width) old a.op0.toNat a.op1.toNat))
    exec (.foragerAccessResponse t k r) s = .next (u.setThread t (((u.thread t).without k).put rd (BitVec.ofNat 64 old))) := by
  intro u
  obtain ⟨found, key, untagged, tag, performed, reached, call, device, alone, may, own, wait, off⟩ := due_parts due
  obtain ⟨v, same⟩ := sramGives_thread s h a.addr (leBytes a.width (atomicResult (0x10 + a.fn) (8 * a.width) old a.op0.toNat a.op1.toNat)) t
  have same : u.thread t = { s.thread t with resv := v } := same
  have done : s.performAtomic t a r = u.completeAccess t a (BitVec.ofNat 64 old) := by
    unfold State.performAtomic
    rw [target]
    dsimp only
    rw [readAccess_hive target sound, value]
    rfl
  rw [response_performs clocks found performed reached (by rw [atomic]; decide) may, performs_atomic atomic, done,
    completeAccess_puts (by rw [same]; exact alone) key untagged dest (hive_holds_none due target),
    wake_setThread (put_wait_none (by rw [same]; exact wait)), settle_setThread (u := u) quiet rfl rfl rfl]

end

/-! ### Accesses of the store -/

theorem commit_parts (s : State) (a : Nat) (l : List Byte) (t : Nat) :
    (∃ v, (s.commit a l).thread t = { s.thread t with resv := v }) ∧ (s.commit a l).tp = s.tp ∧ (s.commit a l).mt = s.mt ∧ (s.commit a l).sw = s.sw := by
  by_cases h : l = []
  · subst h
    exact ⟨⟨(s.thread t).resv, rfl⟩, rfl, rfl, rfl⟩
  · obtain ⟨v, same⟩ := unreserve_resv .store a l.length (s.thread t)
    have full : ¬ l.isEmpty = true := by simpa using h
    rw [State.commit, if_neg full, count_tp, count_mt, count_sw]
    refine ⟨⟨v, ?_⟩, rfl, rfl, rfl⟩
    rw [thread_of_fg (count_fg ..), clearResv_thread]
    exact same

section
variable {s : State} {t k : Nat} {a : Access} {r : HostRes} {rd : GReg}

theorem readAccess_store (target : a.target = .store) (answers : s.storeAnswers = true) (sound : s.soft = []) (good : s.poisoned a.addr a.width = false) :
    s.readAccess t a r = (s.count 0x180 (stackOf a.addr) a.width, .data (ofLE (s.storeRead a.addr a.width))) := by
  rw [State.readAccess, target]
  dsimp only
  rw [if_neg (by rw [answers]; decide), State.fetchStore, if_neg (ne_true_of_eq_false good), State.storeCorrects, corrected_none _ _ _ sound]

/-- A store of store bytes commits them and ends. -/
theorem performStore_commits (target : a.target = .store) (answers : s.storeAnswers = true) (total : a.total = a.width)
    (free : s.compatRange a.addr a.width = false) (width : a.bytes.length = a.width) (device : a.device = false) (key : a.key = none)
    (alone : (s.thread t).alone k a) :
    s.performStore t a = (s.commit a.addr a.bytes).setThread t (((s.commit a.addr a.bytes).thread t).without k) := by
  obtain ⟨⟨v, same⟩, tp, mt, sw⟩ := commit_parts s a.addr a.bytes t
  have piece : s.storePiece t a = s.commit a.addr a.bytes := by
    have whole : ¬(a.total ≤ 8 ∧ a.width < a.total ∧ s.compatRange (a.addr - a.off) a.total = true) := by omega
    rw [State.storePiece, if_neg whole, target]
    change s.placeStore a.addr a.bytes (threadSource t) = _
    rw [State.placeStore, width, if_neg (ne_true_of_eq_false free)]
  unfold State.performStore
  rw [target]
  dsimp only
  rw [if_neg (by rw [answers]; decide), piece, if_neg (ne_true_of_eq_false device), dropAccesses_id (by rw [same]; exact alone) key]

end

/-! ### Failures that trap (R345, R368, R402) -/

theorem forgetAccesses_parts (s : State) (who : Client → Bool) : ∃ x, s.forgetAccesses who = { s with xl := x } := by
  unfold State.forgetAccesses
  split
  · exact ⟨s.xl, rfl⟩
  · exact ⟨_, rfl⟩

/-- A firmware thread outside its trap routine takes a trap: beside it only accesses that it had opened change. -/
theorem trap_firmware {u : State} {t : Nat} (tag : (u.thread t).tag = none) (may : (u.thread t).mayTrap = true) (y : Trap) :
    ∃ x, u.trap t y = { u with xl := x }.setThread t { (u.thread t).loseResv with
      wait := .none, tag := none, last := none, trapCause := y.cause, trapPc := y.pc, trapInfo := BitVec.ofNat 64 y.info, trapDetail := y.detail,
      inTrap := true, pc := (u.thread t).trapVec } := by
  obtain ⟨x, forgot⟩ := forgetAccesses_parts u (· == .thread t)
  have same : State.thread { u with xl := x } t = u.thread t := rfl
  simp only [Thread.mayTrap, Bool.and_eq_true, Bool.not_eq_true', Option.isNone_iff_eq_none] at may
  obtain ⟨⟨run, outside⟩, inside⟩ := may
  refine ⟨x, ?_⟩
  rw [State.trap, tag, endTag_none, forgot, State.modThread, same]
  dsimp only
  rw [thread_setThread_same, setThread_setThread]
  have run : (u.thread t).loseResv.run = none := run
  rw [run]
  dsimp only
  rw [if_neg (by exact ne_true_of_eq_false outside), if_pos (by exact inside)]
  rfl

section
variable {u : State} {t k : Nat} {a : Access}

/-- An access of a firmware thread that ends without its effect traps BUS. -/
theorem failAccess_traps (alone : (u.thread t).alone k a) (key : a.key = none) (untagged : a.tag = none) (call : a.call = false)
    (running : (u.thread t).st = .running) (tag : (u.thread t).tag = none) (may : (u.thread t).mayTrap = true) (detail : Nat) :
    ∃ x, u.failAccess t a detail = { u with xl := x }.setThread t { ((u.thread t).without k).loseResv with
      wait := .none, tag := none, last := none, trapCause := 6, trapPc := a.pc, trapInfo := BitVec.ofNat 64 a.faddr,
      trapDetail := 0x0D + detail * 256, inTrap := true, pc := (u.thread t).trapVec } := by
  have dropped : (u.dropAccesses t fun b => b.group == a.group && b.kind == a.kind).endTag a.tag = u.setThread t ((u.thread t).without k) := by
    rw [dropAccesses_group alone key, untagged, endTag_none]
  obtain ⟨x, trapped⟩ := trap_firmware (u := u.setThread t ((u.thread t).without k)) (t := t) (by rw [thread_setThread_same]; exact tag)
    (by rw [thread_setThread_same]; exact may)
    { cause := Cause.bus, pc := a.pc, word := (u.setThread t ((u.thread t).without k)).codeWord t a.pc, info := a.faddr,
      detail := trapDetail St.remoteOpError detail }
  refine ⟨x, ?_⟩
  rw [State.failAccess]
  dsimp only
  rw [if_neg (ne_true_of_eq_false call), dropped, thread_setThread_same, if_neg (by intro other; exact other running), trapped, thread_setThread_same]
  exact setThread_setThread { u with xl := x } t ((u.thread t).without k) _

end

end Sys2Proof.Machine

/-! PROOFS. Accesses of hive SRAM, of the store and of devices as they are performed, acknowledged and failed (R328 to R330, R357, R358, R368, R402). -/

namespace Sys2Proof.Machine

section
variable {s : State} {t k : Nat} {a : Access} (clocks : s.clocks) (quiet : s.quiet = true)
include clocks quiet

/-- The acknowledgement of a device store ends it. -/
theorem deviceStoreAck_ends (found : (s.thread t).access k = some a) (reached : a.reached = true) (wait : (s.thread t).wait = .none)
    (keyless : ∀ b ∈ (s.thread t).pend, b.id = k → b.key = none) :
    exec (.deviceStoreAck t k) s = .next (s.setThread t ((s.thread t).without k)) := by
  have gone : s.dropAccesses t (fun b => b.id == k) = s.setThread t ((s.thread t).without k) :=
    dropAccesses_keyless s t _ fun b mem same => keyless b mem (of_decide_eq_true same)
  rw [exec_deviceStoreAck, execDeviceStoreAck, s.clocked_runs clocks, found]
  dsimp only
  rw [if_pos reached, gone, wake_setThread (by exact wait), settle_setThread quiet rfl rfl rfl]
  rfl

/-- The state in which a failed device load has been counted and captured. -/
def State.loadFailed (s : State) (t : Nat) (a : Access) (err : Bool) : State :=
  (s.tally Reg.ORD_COUNT_FAILED_LOADS 0x185 0 (s.threadOwner t)).logTimeout t a err

omit clocks quiet in
theorem loadFailed_parts (s : State) (t : Nat) (a : Access) (err : Bool) :
    (s.loadFailed t a err).fg = s.fg ∧ (s.loadFailed t a err).tp = s.tp ∧ (s.loadFailed t a err).mt = s.mt ∧ (s.loadFailed t a err).sw = s.sw := by
  obtain ⟨r, logged⟩ := logTimeout_regs (s.tally Reg.ORD_COUNT_FAILED_LOADS 0x185 0 (s.threadOwner t)) t a err
  rw [State.loadFailed, logged]
  simp

/-- A device load of a firmware thread that gets no answer, or an error, traps BUS. -/
theorem deviceAccessTimeout_traps {err : Bool} (found : (s.thread t).access k = some a) (device : a.device = true) (performed : a.performed = false)
    (queued : a.queued = false) (running : (s.thread t).st = .running) (load : a.kind = .load) (call : a.call = false) (target : a.target ≠ .reg)
    (key : a.key = none) (untagged : a.tag = none) (tag : (s.thread t).tag = none) (one : (s.thread t).pend = [a]) (may : (s.thread t).mayTrap = true) :
    ∃ x, exec (.deviceAccessTimeout t k err) s = .next ({ s.loadFailed t a err with xl := x }.setThread t { ((s.thread t).without k).loseResv with
      wait := .none, tag := none, last := none, trapCause := 6, trapPc := a.pc, trapInfo := BitVec.ofNat 64 a.faddr,
      trapDetail := 0x0D + (if err then 14 else 13) * 256, inTrap := true, pc := (s.thread t).trapVec }) := by
  obtain ⟨fg, tp, mt, sw⟩ := loadFailed_parts s t a err
  have same : (s.loadFailed t a err).thread t = s.thread t := thread_of_fg fg
  have issued : (s.thread t).deviceIssued a = true := by
    rw [Thread.deviceIssued, Thread.before, one, List.takeWhile_cons_of_neg (by simp), queued]
    rfl
  obtain ⟨x, failed⟩ := failAccess_traps (u := s.loadFailed t a err) (t := t) (by rw [same]; exact alone_one found one) key untagged call
    (by rw [same]; exact running) (by rw [same]; exact tag) (by rw [same]; exact may) (if err then 14 else 13)
  have loads : s.failLoad t a err = (s.loadFailed t a err).failAccess t a (if err then 14 else 13) := rfl
  refine ⟨x, ?_⟩
  rw [exec_deviceAccessTimeout, execDeviceAccessTimeout, s.clocked_runs clocks, found]
  dsimp only
  rw [if_neg (by rw [device, issued]; simp), if_neg target, if_neg (by rw [load]; decide), if_neg (ne_true_of_eq_false performed), loads, failed, same,
    settle_setThread (u := { s.loadFailed t a err with xl := x }) quiet tp mt sw]
  rfl

omit clocks quiet in
/-- A read of hive SRAM meets an uncorrected error in the bytes that it reads. -/
theorem sramMet_uncorrected {h off p n : Nat} (site : s.soft = [⟨.hive h off, false⟩]) (low : p ≤ off) (high : off < p + n) :
    s.sramMet h p n = (s.raise (0x180 + 8 * h + 2) off, true) := by
  have corrected (f : SoftSite → Bool) (source : Nat) : s.corrected f source = s := by
    rw [State.corrected, State.softAt, site]
    rfl
  rw [State.sramMet, corrected, State.softAt, site, List.find?_cons_of_pos (by simp [low, high])]
  rfl

/-- A load of hive SRAM that meets an uncorrected error traps BUS. -/
theorem sramLoad_traps {h off : Nat} {r : HostRes} (due : s.due t k a = true) (target : a.target = .hive h) (load : a.kind = .load)
    (site : s.soft = [⟨.hive h off, false⟩]) (low : a.addr ≤ off) (high : off < a.addr + a.width) (running : (s.thread t).st = .running)
    (may : (s.thread t).mayTrap = true) :
    ∃ x, exec (.foragerAccessResponse t k r) s = .next ({ s.raise (0x180 + 8 * h + 2) off with xl := x }.setThread t
      { ((s.thread t).without k).loseResv with
        wait := .none, tag := none, last := none, trapCause := 6, trapPc := a.pc, trapInfo := BitVec.ofNat 64 a.faddr,
        trapDetail := 0x0D + 23 * 256, inTrap := true, pc := (s.thread t).trapVec }) := by
  obtain ⟨found, key, untagged, tag, performed, reached, call, device, alone, free, own, wait, -⟩ := due_parts due
  have same : (s.raise (0x180 + 8 * h + 2) off).thread t = s.thread t := thread_of_fg (raise_fg ..)
  obtain ⟨x, failed⟩ := failAccess_traps (u := s.raise (0x180 + 8 * h + 2) off) (t := t) (by rw [same]; exact alone) key untagged call
    (by rw [same]; exact running) (by rw [same]; exact tag) (by rw [same]; exact may) 23
  have met : s.readAccess t a r = (s.raise (0x180 + 8 * h + 2) off, .fail 23) := by
    rw [State.readAccess, target]
    dsimp only
    rw [sramMet_uncorrected site low high]
  have performed_ : s.performLoad t a r = (s.raise (0x180 + 8 * h + 2) off).failAccess t a 23 := by
    unfold State.performLoad
    rw [own]
    dsimp only
    rw [free, met]
    dsimp only
    rw [if_neg (by decide), if_neg (by rw [device]; simp)]
  refine ⟨x, ?_⟩
  rw [response_load clocks found performed reached load, performed_, failed, same, wake_setThread rfl,
    settle_setThread (u := { s.raise (0x180 + 8 * h + 2) off with xl := x }) quiet (raise_tp ..) (raise_mt ..) (raise_sw ..)]

end

theorem hive_classed {h : Nat} (h8 : h < 8) : (classOf (0x180 + 8 * h + 2)).isSome = true := by
  interval_cases h <;> rfl

/-- The error of a hive's SRAM shows in STATUS. -/
theorem hive_shows (s : State) (x : Xlate) (t : Nat) (y : Thread) {h : Nat} (h8 : h < 8) (off : Nat) :
    bit ((State.setThread { s.raise (0x180 + 8 * h + 2) off with xl := x } t y).reg (Reg.EVT_STATUS_STATUS.addr 6 0) 0) (8 * h + 2) = true := by
  have shown := raise_shows (k := 0x180 + 8 * h + 2) (by omega) s (hive_classed h8) off false false
  rwa [State.shows, show (0x180 + 8 * h + 2) / 64 = 6 by omega, show (0x180 + 8 * h + 2) % 64 = 8 * h + 2 by omega] at shown

/-- Settles O11: each kind of access of hive SRAM and of the store that is due, the acknowledgement of a device store, and the two traps. -/
theorem accessesPerform : Obligations.AccessesPerform := by
  unfold Obligations.AccessesPerform
  refine ⟨?hive, ?store, ?ack, ?timeout, ?poison⟩
  case hive =>
    intro s t k h a rd r clocks quiet sound due target x old gives wrote
    refine ⟨fun load dest total => ?_, fun store => response_stores clocks quiet due target store, fun lr dest whole => ?_, fun lr dest void => ?_,
      fun sc dest reserved => response_sc_good clocks quiet due target sc dest reserved, fun sc dest lost => response_sc_bad clocks quiet due target sc dest lost,
      fun atomic dest => response_atomic clocks quiet due target sound atomic dest rfl⟩
    · exact response_loads clocks quiet due (readAccess_hive target sound r) rfl rfl rfl rfl (readN_lt ..) load dest total
    · have done := response_lr clocks quiet due target (r := r) sound lr dest
      rwa [whole] at done
    · have done := response_lr clocks quiet due target (r := r) sound lr dest
      rwa [void] at done
  case store =>
    intro s t k a rd r clocks quiet sound due target answers total free x
    have free : s.compatRange a.addr a.width = false := by simpa using free
    refine ⟨fun load dest good => ?_, fun store width => ?_⟩
    · exact response_loads clocks quiet due (readAccess_store target answers sound (by simpa using good)) (count_fg ..) (count_tp ..) (count_mt ..)
        (count_sw ..) (readN_lt ..) load dest total
    · obtain ⟨found, key, untagged, tag, performed, reached, call, device, alone, may, own, wait, off⟩ := due_parts due
      obtain ⟨⟨v, same⟩, tp, mt, sw⟩ := commit_parts s a.addr a.bytes t
      refine ⟨(s.commit a.addr a.bytes).setThread t (((s.commit a.addr a.bytes).thread t).without k), ?_, commit_store .., ?_⟩
      · rw [response_performs clocks found performed reached (by rw [store]; decide) may, performs_store store,
          performStore_commits target answers total free width device key alone, wake_setThread (by rw [same]; exact wait), settle_setThread quiet tp mt sw]
      · rw [thread_setThread_same, same]
        rfl
  case ack =>
    intro s t k a clocks quiet found reached key wait keyless
    exact deviceStoreAck_ends clocks quiet found reached wait keyless
  case timeout =>
    intro s t k a err clocks quiet found device under queued running load dest call target key untagged tag one may
    obtain ⟨x, done⟩ := deviceAccessTimeout_traps (err := err) clocks quiet found device (by simpa using under) queued running load (by simpa using call) target key
      untagged tag one may
    refine ⟨_, done, ?_⟩
    rw [thread_setThread_same, without_one (access_id found) one]
    exact ⟨rfl, rfl, rfl, congrArg (0x0D + ·) (Nat.mul_comm _ _), rfl, rfl, rfl⟩
  case poison =>
    intro s t k h off a r clocks quiet due target load dest site low high running last may h8
    obtain ⟨x, done⟩ := sramLoad_traps (r := r) clocks quiet due target load site low high running may
    refine ⟨_, done, ?_⟩
    rw [thread_setThread_same]
    exact ⟨rfl, rfl, rfl, rfl, rfl, rfl, hive_shows s x t _ h8 off⟩

end Sys2Proof.Machine

/-! PROOFS. Loads, stores, reserved pairs and atomics issue their access (R328 to R331, R344, R345). -/

namespace Sys2Proof.Machine

/-! ### One piece at an aligned address -/

/-- The spot of an access that lands as one piece. -/
def spotAt (tg : Target) (p n : Nat) : Spot := { target := tg, pieces := [(p, n)] }

/-- The piece of it. -/
def pieceAt (p n : Nat) : Piece := { addr := p, width := n, off := 0 }

theorem units_spotAt (tg : Target) {p n : Nat} (pos : 0 < n) (fits : n = 1 ∨ n = 2 ∨ n = 4 ∨ n = 8) (aligned : p % n = 0) :
    (spotAt tg p n).units = [pieceAt p n] := by
  have one : p % 8 + n ≤ 8 := by
    obtain rfl | rfl | rfl | rfl := fits <;> omega
  have cut : rangeUnits p n 0 (false, false) = [pieceAt p n] := by
    rw [rangeUnits, cutUnits_one 0 (by omega) pos one]
    rfl
  exact cut

theorem clash_clear {x : Thread} {tg : Target} {p n : Nat} (h : x.clear tg p n = true) : x.clash (spotAt tg p n) = false := by
  simp only [Thread.clear, List.all_eq_true, Bool.or_eq_true, Bool.not_eq_true'] at h
  simp only [Thread.clash, spotAt, List.any_eq_false, List.any_cons, List.any_nil, Bool.or_false, Bool.and_eq_true, Bool.not_eq_true', not_and]
  intro a mem under
  have far := h a mem
  rw [under] at far
  simpa using far

theorem meetsPoison_spotAt (s : State) (tg : Target) (p n : Nat) : s.meetsPoison (spotAt tg p n) = (tg == .store && s.poisoned p n) := by
  rw [State.meetsPoison, spotAt]
  simp

section
variable {u : State} {t : Nat} {a : Access}

/-- An access without a key joins those of its thread. -/
theorem addAccess_keyless (key : a.key = none) : u.addAccess t a =
    u.setThread t { u.thread t with pend := (u.thread t).pend ++ [{ a with id := (u.thread t).nextAcc }], nextAcc := (u.thread t).nextAcc + 1 } := by
  rw [State.addAccess, key]

end

section
variable {s : State} {t : Nat} {tg : Target} (hc : s.calm t = true) (hw : (s.thread t).wait = .none) (hp : (s.thread t).pc + 4 < (s.thread t).code)
  (device : tg = .store ∨ ∃ h, tg = .hive h)
include hc hw hp

omit hc hw hp in
theorem askHost_device (u : State) (k : Nat) (a : Access) (h : a.target = .store ∨ ∃ h, a.target = .hive h) : u.askHost t k a = u := by
  rw [State.askHost]
  obtain h | ⟨n, h⟩ := h <;> rw [h]

include device in
/-- A load of one piece adds its read, and the thread goes on. -/
theorem addLoads_goes {p n : Nat} (pos : 0 < n) (fits : n = 1 ∨ n = 2 ∨ n = 4 ∨ n = 8) (aligned : p % n = 0) (faddr : Nat) (rd : GReg) (sign : Bool) :
    ((s.fired t).addLoads t (spotAt tg p n) n faddr rd sign).goOn t = (s.counted t).setThread t ((s.thread t).spent.asked
      { id := 0, kind := .load, target := tg, addr := p, width := n, group := (s.thread t).nextAcc, total := n, rd := some rd, signed := sign,
        faddr := faddr, pc := (s.thread t).pc } ((s.thread t).pc + 4)) := by
  have tag := calm_tag hc
  rw [State.addLoads, units_spotAt tg pos fits aligned]
  simp only [List.foldl_cons, List.foldl_nil]
  rw [askHost_device _ _ _ device, addAccess_keyless rfl, State.modThread]
  simp only [fired_thread, fired_setThread, thread_setThread_same, setThread_setThread, tag]
  refine (goOn_plain _ _ _ (by rfl) (by exact hw) (by exact hp)).trans (congrArg (State.setThread _ t) ?_)
  have same : { (s.thread t).spent with tag := none } = (s.thread t).spent := by rw [← tag]
  rw [← same]
  rfl

/-- A store of one piece adds its write, and the thread goes on. -/
theorem addWrites_goes {p n : Nat} (pos : 0 < n) (fits : n = 1 ∨ n = 2 ∨ n = 4 ∨ n = 8) (aligned : p % n = 0) (faddr v : Nat) :
    ((s.fired t).addWrites t (spotAt tg p n) (leBytes n v) faddr false).goOn t = (s.counted t).setThread t ((s.thread t).spent.accessed
      { id := 0, kind := .store, target := tg, addr := p, width := n, group := (s.thread t).nextAcc, total := n, bytes := leBytes n v,
        faddr := faddr, pc := (s.thread t).pc } ((s.thread t).pc + 4)) := by
  have whole : slice (leBytes n v) 0 n = leBytes n v := by
    rw [slice, List.drop_zero, leBytes_length, Nat.sub_self, List.take_of_length_le (by rw [leBytes_length])]
    simp
  rw [State.addWrites, units_spotAt tg pos fits aligned]
  simp only [List.foldl_cons, List.foldl_nil]
  rw [addAccess_keyless rfl, fired_thread, fired_setThread]
  simp only [pieceAt, whole, leBytes_length]
  exact goOn_plain _ _ _ (calm_tag hc) (by exact hw) (by exact hp)

end

/-! ### Loads and stores (R328, R331) -/

section
variable {s : State} {t n : Nat} {i : Instr} {rd rb ra : GReg} {imm : BitVec 16} {sign : Bool} {tg : Target} {p : Nat}
  (hc : s.calm t = true) (hp : (s.thread t).pc + 4 < (s.thread t).code) (fits : n = 1 ∨ n = 2 ∨ n = 4 ∨ n = 8) (hi : s.canIssue t i = true)
include hc hp fits hi

theorem load_issues (he : exec i s = s.load t i rd ra imm n sign) (lands : s.lands t (s.greg t ra + imm.signExtend 64) n accRead tg p)
    (sound : tg = .store → s.poisoned p n = false) :
    exec i s = s.stepped t (Thread.asked {
      id := 0, kind := .load, target := tg, addr := p, width := n, group := (s.thread t).nextAcc, total := n,
      rd := some rd, signed := sign, faddr := (s.greg t ra + imm.signExtend 64).toNat, pc := (s.thread t).pc } ((s.thread t).pc + 4)) := by
  obtain ⟨resolved, low, aligned, device⟩ := lands
  have good : ¬(s.meetsPoison (spotAt tg p n) = true) := by
    rw [meetsPoison_spotAt, Bool.and_eq_true, beq_iff_eq]
    exact fun bad => ne_true_of_eq_false (sound bad.1) bad.2
  have place : ¬(tg = .rodata) := by obtain rfl | ⟨h, rfl⟩ := device <;> exact Target.noConfusion
  rw [he, State.load]
  refine (instr_fires hi hc (k := fun u => (u.addLoads t (spotAt tg p n) n (s.greg t ra + imm.signExtend 64).toNat rd sign).goOn t) ?_).trans
    (congrArg _ (addLoads_goes hc (canIssue_running hi).2.2 hp device (by omega) fits aligned _ rd sign))
  rw [State.memAddr]
  dsimp only
  rw [resolved]
  dsimp only
  rw [if_neg (by simp), if_neg (by simp), if_neg place, if_neg (by simp [Thread.deviceBusy]), if_neg, if_neg (fun bad => good bad.2.2)]
  · rfl
  · obtain rfl | ⟨h, rfl⟩ := device <;> simp

theorem load_poisoned (he : exec i s = s.load t i rd ra imm n sign) (lands : s.lands t (s.greg t ra + imm.signExtend 64) n accRead tg p)
    (store : tg = .store) (bad : s.poisoned p n = true) (clear : (s.thread t).clear tg p n = true) :
    exec i s = .next (((s.fired t).reportPoison p n).trapAt t ((encodeWord i).getD 0) 6 (s.greg t ra + imm.signExtend 64).toNat 0xB0D) := by
  obtain ⟨resolved, low, aligned, device⟩ := lands
  subst store
  have met : s.meetsPoison (spotAt .store p n) = true := by
    rw [meetsPoison_spotAt, bad]
    rfl
  have apart : ((s.thread t).clash (spotAt .store p n)) = false := clash_clear clear
  rw [he, State.load]
  refine instr_fires hi hc
    (k := fun u => u.poisonTrap t ((encodeWord i).getD 0) (spotAt .store p n) (s.greg t ra + imm.signExtend 64)) ?_
  rw [State.memAddr]
  dsimp only
  rw [resolved]
  dsimp only
  rw [if_neg (by simp), if_neg (by simp), if_neg (by simp), if_neg (by simp [Thread.deviceBusy]), if_neg (by simp), if_pos]
  · rfl
  · exact ⟨by simp, by rw [← spotAt, apart]; rfl, met⟩

theorem store_issues (he : exec i s = s.storeI t i rb ra imm n) (lands : s.lands t (s.greg t ra + imm.signExtend 64) n accWrite tg p) :
    exec i s = s.stepped t (Thread.accessed {
      id := 0, kind := .store, target := tg, addr := p, width := n, group := (s.thread t).nextAcc, total := n,
      bytes := leBytes n (s.greg t rb).toNat, faddr := (s.greg t ra + imm.signExtend 64).toNat, pc := (s.thread t).pc } ((s.thread t).pc + 4)) := by
  obtain ⟨resolved, low, aligned, device⟩ := lands
  rw [he, State.storeI]
  refine (instr_fires hi hc (k := fun u => (u.addWrites t (spotAt tg p n) (leBytes n (u.greg t rb).toNat)
    (s.greg t ra + imm.signExtend 64).toNat false).goOn t) ?_).trans ?_
  · rw [State.memAddr]
    dsimp only
    rw [resolved]
    dsimp only
    rw [if_neg (by simp), if_neg (by simp [Thread.deviceBusy])]
    rfl
  · rw [fired_greg, addWrites_goes hc (canIssue_running hi).2.2 hp (by omega) fits aligned]
    rfl

end

/-! ### Read-only data -/

theorem extend_signed {w b : Nat} (v : Nat) (bits : b = 8 * w) : extend true w v = (BitVec.ofNat b v).signExtend 64 := by
  subst bits
  rw [extend, if_pos rfl, BitVec.signExtend]
  refine congrArg (BitVec.ofInt 64) ?_
  rw [toSigned, BitVec.toInt_eq_msb_cond, BitVec.msb_eq_decide]
  simp only [BitVec.toNat_ofNat, decide_eq_true_eq]
  split <;> simp

theorem rodata_loads {s : State} {t n : Nat} {i : Instr} {rd ra : GReg} {imm : BitVec 16} {sign : Bool} (hc : s.calm t = true)
    (hp : (s.thread t).pc + 4 < (s.thread t).code) (hi : s.canIssue t i = true) (he : exec i s = s.load t i rd ra imm n sign)
    (space : (s.greg t ra + imm.signExtend 64).toNat / 2 ^ 60 = 4)
    (inside : (s.greg t ra + imm.signExtend 64).toNat % 2 ^ 60 + n ≤ (s.rodata t).length) :
    exec i s = s.stepped t (Thread.wrote rd (extend sign n (ofLE (((s.rodata t).drop ((s.greg t ra + imm.signExtend 64).toNat % 2 ^ 60)).take n)))) := by
  have located : s.locate t (s.greg t ra + imm.signExtend 64) n accRead
      = (s, .spot { target := .rodata, pieces := [((s.greg t ra + imm.signExtend 64).toNat % 2 ^ 60, n)] }) := by
    rw [State.locate, bits_space, space, bits_offset, if_neg (by decide)]
    exact if_pos (And.intro rfl inside)
  have bytes : slice (s.rodata t) ((s.greg t ra + imm.signExtend 64).toNat % 2 ^ 60) n
      = ((s.rodata t).drop ((s.greg t ra + imm.signExtend 64).toNat % 2 ^ 60)).take n := by
    rw [slice, List.length_drop, Nat.sub_eq_zero_of_le (by omega)]
    simp
  rw [he, State.load]
  refine (instr_fires hi hc (k := fun u => u.result t rd (extend sign n
    (ofLE (slice (s.rodata t) ((s.greg t ra + imm.signExtend 64).toNat % 2 ^ 60) n)))) ?_).trans ?_
  · rw [State.memAddr]
    dsimp only
    rw [resolve_spot located]
    dsimp only
    rw [if_neg (by simp), if_neg (by simp), if_pos rfl]
    rfl
  · rw [fired_result hc (canIssue_running hi).2.2 hp, bytes]
    rfl

/-- Settles O9: each width by the lemma of its case. -/
theorem loadsAndStoresIssue : Obligations.LoadsAndStoresIssue := by
  unfold Obligations.LoadsAndStoresIssue
  refine ⟨?loads, ?rodata, ?stores⟩
  case loads =>
    intro s t rd ra imm tg p hc hp x a loads
    have width {i : Instr} {n : Nat} {sign : Bool} (fits : n = 1 ∨ n = 2 ∨ n = 4 ∨ n = 8) (he : exec i s = s.load t i rd ra imm n sign) : loads i n sign :=
      fun hi lands => ⟨load_issues hc hp fits hi he lands, fun store bad clear => load_poisoned hc hp fits hi he lands store bad clear⟩
    exact ⟨width (by decide) rfl, width (by decide) rfl, width (by decide) rfl, width (by decide) rfl, width (by decide) rfl, width (by decide) rfl,
      width (by decide) rfl⟩
  case rodata =>
    intro s t rd ra imm hc hp a off loads
    have width {i : Instr} {n : Nat} {sign : Bool} {v : Nat → Word} (value : extend sign n = v) (he : exec i s = s.load t i rd ra imm n sign) :
        loads i n v := fun hi space inside => (rodata_loads hc hp hi he space inside).trans (by rw [value])
    have signed {n b : Nat} (bits : b = 8 * n) : extend true n = fun v => (BitVec.ofNat b v).signExtend 64 := funext fun v => extend_signed v bits
    have plain (n : Nat) : extend false n = BitVec.ofNat 64 := rfl
    exact ⟨width (signed rfl) rfl, width (plain 1) rfl, width (signed rfl) rfl, width (plain 2) rfl, width (signed rfl) rfl, width (plain 4) rfl,
      width (plain 8) rfl⟩
  case stores =>
    intro s t rb ra imm tg p hc hp x a stores
    exact ⟨fun hi lands => store_issues hc hp (by decide) hi rfl lands, fun hi lands => store_issues hc hp (by decide) hi rfl lands,
      fun hi lands => store_issues hc hp (by decide) hi rfl lands, fun hi lands => store_issues hc hp (by decide) hi rfl lands⟩

end Sys2Proof.Machine

/-! PROOFS. Reserved pairs and atomics issue their access, and addresses without meaning trap (R328 to R330, R344, R345). -/

namespace Sys2Proof.Machine

/-- An address of hive SRAM or of the store lies in no host memory. -/
theorem locate_no_host {s : State} {t n kind : Nat} {a : Word} (low : bits a 60 4 < 2) (fn va : Nat) (key : Option Nat) :
    (s.locate t a n kind).2 ≠ .host fn va key := by
  obtain space | space : bits a 60 4 = 0 ∨ bits a 60 4 = 1 := by omega
  · rw [State.locate, space, if_neg (by decide)]
    split_ifs <;> exact Located.noConfusion
  · rw [State.locate, space, if_neg (by decide)]
    split_ifs <;> exact Located.noConfusion

theorem locate_lands {s : State} {t n kind p : Nat} {a : Word} {tg : Target} (lands : s.lands t a n kind tg p) :
    s.locate t a n kind = (s, .spot (spotAt tg p n)) := by
  obtain ⟨resolved, low, -, -⟩ := lands
  have hostless := locate_no_host (s := s) (t := t) (n := n) (kind := kind) low
  rw [State.resolve] at resolved
  generalize s.locate t a n kind = r at resolved hostless
  obtain ⟨u, l⟩ := r
  cases l with
  | spot x =>
    obtain ⟨rfl, same⟩ := Prod.mk.inj resolved
    rw [Resolved.ok.inj same]
    rfl
  | trap c d => exact Resolved.noConfusion (Prod.mk.inj resolved).2
  | host fn va key => exact absurd rfl (hostless fn va key)

section
variable {s : State} {t n kind : Nat} {i : Instr} {a : Word} {atomic : Bool} {good : State → Spot → Bool} {k : Spot → State → State}
  (hc : s.calm t = true) (hi : s.canIssue t i = true)
include hc hi

/-- An access of a pair that lands, and that nothing holds up, has its effect. -/
theorem pair_issues {tg : Target} {p : Nat} (he : exec i s = s.pairI t i a n kind atomic good k) (aligned : a.toNat % n = 0)
    (lands : s.lands t a n kind tg p) (clear : (s.thread t).clear tg p n = true) (sound : kind ≠ accWrite → tg = .store → s.poisoned p n = false)
    (works : good s (spotAt tg p n) = true) : exec i s = .next (k (spotAt tg p n) (s.fired t)) := by
  have located := locate_lands lands
  obtain ⟨-, low, -, -⟩ := lands
  have whole : ¬(kind ≠ accWrite ∧ s.meetsPoison (spotAt tg p n) = true) := by
    rintro ⟨reads, met⟩
    rw [meetsPoison_spotAt, Bool.and_eq_true, beq_iff_eq] at met
    exact ne_true_of_eq_false (sound reads met.1) met.2
  have free : ¬((s.thread t).deviceBusy (spotAt tg p n) = true ∨ (s.thread t).clash (spotAt tg p n) = true) := by
    rw [clash_clear clear]
    simp [Thread.deviceBusy, spotAt]
  rw [he, State.pairI]
  refine instr_fires hi hc ?_
  dsimp only
  rw [if_neg (by omega), if_neg (by omega), located]
  dsimp only
  rw [if_pos works, if_neg free, if_neg (fun bad => whole bad.2)]

variable (hm : (s.thread t).mayTrap = true) (firmware : (s.thread t).priv = 0)
include hm firmware

/-- One whose target it does not work on traps UNSUPPORTED. -/
theorem pair_unsupported (he : exec i s = s.pairI t i a n kind atomic good k)
    (space : a.toNat / 2 ^ 60 = 3 ∨ a.toNat / 2 ^ 60 = 4 ∨ a.toNat / 2 ^ 60 = 2 ∧ (!atomic) = true) :
    exec i s = s.stepped t (Thread.trapped 12 a 0) := by
  rw [he, State.pairI]
  refine (instr_fires hi hc (k := fun u => u.trapAt t ((encodeWord i).getD 0) Cause.unsupported a.toNat 0) ?_).trans ?_
  · dsimp only
    rw [bits_space, if_pos space, if_neg (by rw [firmware]; simp)]
  · rw [fired_trapAt hc (canIssue_running hi).2.2 hm, BitVec.ofNat_toNat, BitVec.setWidth_eq]
    rfl

/-- A misaligned one of another space traps ALIGN. -/
theorem pair_misaligned (he : exec i s = s.pairI t i a n kind atomic good k)
    (space : ¬(a.toNat / 2 ^ 60 = 3 ∨ a.toNat / 2 ^ 60 = 4 ∨ a.toNat / 2 ^ 60 = 2 ∧ (!atomic) = true)) (bad : a.toNat % n ≠ 0) :
    exec i s = s.stepped t (Thread.trapped 4 a 0) := by
  rw [he, State.pairI]
  refine (instr_fires hi hc (k := fun u => u.trapAt t ((encodeWord i).getD 0) Cause.align a.toNat 0) ?_).trans ?_
  · dsimp only
    rw [bits_space, if_neg space, if_pos bad]
  · rw [fired_trapAt hc (canIssue_running hi).2.2 hm, BitVec.ofNat_toNat, BitVec.setWidth_eq]
    rfl

omit firmware in
/-- What resolves to a trap traps. -/
theorem load_traps {rd ra : GReg} {imm : BitVec 16} {m : Nat} {sign : Bool} {c d : Nat} (he : exec i s = s.load t i rd ra imm m sign)
    (trap : s.resolve t (s.greg t ra + imm.signExtend 64) m accRead = (s, .trap c d)) :
    exec i s = s.stepped t (Thread.trapped c (s.greg t ra + imm.signExtend 64) d) := by
  rw [he, State.load]
  refine (instr_fires hi hc (k := fun u => u.trapAt t ((encodeWord i).getD 0) c (s.greg t ra + imm.signExtend 64).toNat d) ?_).trans ?_
  · rw [State.memAddr]
    dsimp only
    rw [trap]
  · rw [fired_trapAt hc (canIssue_running hi).2.2 hm, BitVec.ofNat_toNat, BitVec.setWidth_eq]
    rfl

omit firmware in
theorem storeI_traps {rb ra : GReg} {imm : BitVec 16} {m : Nat} {c d : Nat} (he : exec i s = s.storeI t i rb ra imm m)
    (trap : s.resolve t (s.greg t ra + imm.signExtend 64) m accWrite = (s, .trap c d)) :
    exec i s = s.stepped t (Thread.trapped c (s.greg t ra + imm.signExtend 64) d) := by
  rw [he, State.storeI]
  refine (instr_fires hi hc (k := fun u => u.trapAt t ((encodeWord i).getD 0) c (s.greg t ra + imm.signExtend 64).toNat d) ?_).trans ?_
  · rw [State.memAddr]
    dsimp only
    rw [trap]
  · rw [fired_trapAt hc (canIssue_running hi).2.2 hm, BitVec.ofNat_toNat, BitVec.setWidth_eq]
    rfl

end

theorem resolve_meaningless (s : State) (t n kind : Nat) {a : Word} (low : 5 ≤ a.toNat / 2 ^ 60) (high : a.toNat / 2 ^ 60 < 8) :
    s.resolve t a n kind = (s, .trap 5 0) := by
  refine resolve_trap ?_
  rw [State.locate, bits_space, if_neg (by omega)]
  obtain space | space | space : a.toNat / 2 ^ 60 = 5 ∨ a.toNat / 2 ^ 60 = 6 ∨ a.toNat / 2 ^ 60 = 7 := by omega
  all_goals
    rw [space]
    rfl

/-- An access of a pair that holds no thread joins its accesses, and the thread goes on. -/
theorem issueAccess_goes {s : State} {t : Nat} {b : Access} (hc : s.calm t = true) (hw : (s.thread t).wait = .none)
    (hp : (s.thread t).pc + 4 < (s.thread t).code) (key : b.key = none) (free : b.holds = false) (group : b.group = (s.thread t).nextAcc) (tag : b.tag = none) :
    (s.fired t).issueAccess t b = (s.counted t).setThread t ((s.thread t).spent.asked { b with pc := (s.thread t).pc } ((s.thread t).pc + 4)) := by
  have untagged := calm_tag hc
  have holds : ({ b with pc := (s.thread t).spent.pc, tag := (s.thread t).spent.tag } : Access).holds = false := free
  rw [State.issueAccess, fired_thread]
  dsimp only
  rw [holds, if_neg (by decide), addAccess_keyless (by exact key), State.modThread]
  simp only [fired_thread, fired_setThread, thread_setThread_same, setThread_setThread]
  refine (goOn_plain _ _ _ (by rfl) (by exact hw) (by exact hp)).trans (congrArg (State.setThread _ t) ?_)
  have same : { (s.thread t).spent with tag := none } = (s.thread t).spent := by rw [← untagged]
  have plain : { b with pc := (s.thread t).pc } = { b with pc := (s.thread t).pc, tag := none } := by rw [← tag]
  rw [untagged, plain, group, ← same]
  rfl

/-- Settles O10: the issues by `pair_issues` and `issueAccess_goes`, the traps by the branch of the target. -/
theorem reservedPairsAndAtomicsIssue : Obligations.ReservedPairsAndAtomicsIssue := by
  unfold Obligations.ReservedPairsAndAtomicsIssue
  refine ⟨?issues, ?traps⟩
  case issues =>
    intro s t rd ra rb rc hi tg p hc hp x a n adds
    refine ⟨fun issue aligned lands clear sound => ?_, fun issue aligned lands clear => ?_, fun fn i mem issue aligned lands plain clear sound => ?_⟩
    · refine (pair_issues hc issue rfl aligned lands clear (fun _ => sound) rfl).trans (congrArg _ ?_)
      dsimp only
      rw [fired_thread]
      exact issueAccess_goes hc (canIssue_running issue).2.2 hp rfl rfl rfl rfl
    · refine (pair_issues hc issue rfl aligned lands clear (fun other => absurd rfl other) rfl).trans (congrArg _ ?_)
      dsimp only
      rw [fired_thread, fired_greg]
      exact issueAccess_goes hc (canIssue_running issue).2.2 hp rfl rfl rfl rfl
    · obtain ⟨-, -, -, device⟩ := id lands
      have he : exec i s = s.atom t i fn rd ra rb rc hi := by
        fin_cases mem <;> rfl
      have stage : (if (nativeKind (0x10 + fn)).isSome then 0 else 1) = if fn < 3 then 0 else 1 := by
        fin_cases mem <;> rfl
      have works : ((spotAt tg p n).target != .store || !s.compatRange ((spotAt tg p n).pieces.headD (0, 0)).1 n) = true := by
        by_cases store : tg = .store
        · exact Bool.or_eq_true_iff.2 (.inr (plain store))
        · exact Bool.or_eq_true_iff.2 (.inl (bne_iff_ne.2 store))
      refine (pair_issues hc issue he aligned lands clear (fun _ => sound) works).trans (congrArg _ ?_)
      have free (b : Access) (target : b.target = tg) (device_ : b.device = false) : b.holds = false := by
        rw [Access.holds, target, device_]
        obtain rfl | ⟨h, rfl⟩ := device <;> simp
      have still (u : State) (k : Nat) (b : Access) (target : b.target = tg) : u.askAtomic t k b = u := by
        unfold State.askAtomic
        rw [target]
        obtain rfl | ⟨h, rfl⟩ := device <;> rfl
      dsimp only
      rw [still _ _ _ rfl, fired_thread, stage]
      exact issueAccess_goes hc (canIssue_running issue).2.2 hp rfl (free _ rfl rfl) rfl rfl
  case traps =>
    intro s t rd ra rb rc imm hi i hc hm firmware issue a traps space
    refine ⟨fun mem => ?_, fun mem => ?_, fun mem low high => ?_⟩
    · obtain ⟨kind, good, k, he⟩ : ∃ kind good k, exec i s = s.pairI t i (s.greg t ra) 8 kind false good k := by
        fin_cases mem
        · exact ⟨_, _, _, rfl⟩
        · exact ⟨_, _, _, rfl⟩
      exact ⟨fun low high => pair_unsupported hc issue hm firmware he (by simp only [Bool.not_false, and_true]; omega),
        fun other bad => pair_misaligned hc issue hm firmware he (by simp only [Bool.not_false, and_true]; omega) bad⟩
    · obtain ⟨good, k, he⟩ : ∃ good k, exec i s = s.pairI t i (s.greg t ra) (if hi.getLsbD 0 then 4 else 8) accAtomic true good k := by
        have he : ∃ fn, exec i s = s.atom t i fn rd ra rb rc hi := by
          fin_cases mem
          all_goals exact ⟨_, rfl⟩
        obtain ⟨fn, he⟩ := he
        exact ⟨_, _, he⟩
      exact ⟨fun bad => pair_unsupported hc issue hm firmware he (by simp only [Bool.not_true, Bool.false_eq_true, and_false, or_false]; exact bad),
        fun other bad => pair_misaligned hc issue hm firmware he (by simp only [Bool.not_true, Bool.false_eq_true, and_false, or_false]; omega) bad⟩
    · have trap (n kind : Nat) := resolve_meaningless s t n kind low high
      have he : (∃ n sign, exec i s = s.load t i rd ra imm n sign) ∨ ∃ n, exec i s = s.storeI t i rb ra imm n := by
        fin_cases mem
        iterate 7 exact .inl ⟨_, _, rfl⟩
        all_goals exact .inr ⟨_, rfl⟩
      obtain ⟨n, sign, he⟩ | ⟨n, he⟩ := he
      · exact load_traps hc issue hm he (trap n accRead)
      · exact storeI_traps hc issue hm he (trap n accWrite)

end Sys2Proof.Machine

/-! PROOFS. Where illegal words and instructions without the privilege trap (R317, R323, R337, R344). -/

namespace Sys2Proof.Machine

/-- A firmware thread at an instruction, whose packet has failed its CRC: its next instruction with an effect traps DISCARDED (R337). -/
def discardedAt : State := { fg := { threads := [(0, { st := .running, code := 64, discarded := true })] } }

/-- The trap cause of thread 0 after a command. -/
def firstTrapCause : Host.Outcome State Fault Refusal → Nat
  | .next u => (u.thread 0).trapCause
  | _ => 0

/-- Refutes O7: it does not exclude a thread that a bad CRC verdict has marked. CSRW is an instruction with an effect, so a CSRW of a register
that firmware may not write traps DISCARDED there (cause 11), where the statement has PRIVILEGE (cause 2). -/
theorem not_illegalWordsAndHandlersTrap : ¬ Obligations.IllegalWordsAndHandlersTrap := by
  unfold Obligations.IllegalWordsAndHandlersTrap
  intro h
  have calm : discardedAt.calm 0 = true := by decide +kernel
  have issues : discardedAt.canIssue 0 (.sysNop 0) = true := by decide +kernel
  have traps := (h.1 discardedAt 0 0 0 0 0 calm issues rfl rfl (by decide +kernel) rfl).2.1 rfl
  have cause := congrArg firstTrapCause traps
  exact absurd cause (by decide +kernel)

end Sys2Proof.Machine

/-! PROOFS. Packet windows, the end of a packet, the handover of packets, and CRC verdicts (R67, R231, R334 to R337). -/

namespace Sys2Proof.Machine

/-! ### What the end of a packet leaves of its thread -/

theorem stamp_thread (s : State) (tag : Option Nat) (k t : Nat) : (s.stamp tag k).thread t = s.thread t := by
  cases tag <;> rfl

/-- The record of a tagged item may take a reservation, and nothing else of a thread. -/
theorem endTag_thread (s : State) (tag : Option Nat) (tr : Bool) (t : Nat) : ∃ v, (s.endTag tag tr).thread t = { s.thread t with resv := v } := by
  unfold State.endTag
  split
  · exact ⟨(s.thread t).resv, rfl⟩
  · dsimp only
    split
    · exact ⟨(s.thread t).resv, rfl⟩
    · exact (commit_parts _ _ _ t).1

theorem returnCredit_thread (s : State) (port : Nat) (p : Packet) (t : Nat) : (s.returnCredit port p).thread t = s.thread t := by
  unfold State.returnCredit
  dsimp only
  split <;> rfl

theorem finishPacket_thread (s : State) (t : Nat) : ∃ v, (s.finishPacket t).thread t = { s.thread t with window := none, resv := v } := by
  unfold State.finishPacket
  split
  next idle => exact ⟨(s.thread t).resv, by rw [← idle]⟩
  next w held =>
    obtain ⟨v, ended⟩ := endTag_thread (s.stamp w.tag 7) w.tag false t
    rw [stamp_thread] at ended
    refine ⟨v, ?_⟩
    dsimp only
    have left : (((s.stamp w.tag 7).endTag w.tag).modThread t ({ · with window := none })).thread t = { s.thread t with window := none, resv := v } := by
      rw [State.modThread, thread_setThread_same, ended]
    split
    · split
      · exact left
      · exact (returnCredit_thread ..).trans left
    · exact (returnCredit_thread ..).trans left

/-- The end of a packet that came over a port: its cells are credit of the port again. -/
theorem finishPacket_credits {s : State} {t : Nat} {w : InWindow} (held : (s.thread t).window = some w) (tag : w.tag = none) (miss : w.fromMiss = false)
    (port : w.port < 72) (cells : w.pkt.cells ≤ nth (s.port w.port).held w.pkt.net.vl) :
    s.finishPacket t = (s.setThread t { s.thread t with window := none }).setPort w.port
      { s.port w.port with
        held := setNth (s.port w.port).held w.pkt.net.vl (nth (s.port w.port).held w.pkt.net.vl - w.pkt.cells),
        credit := setNth (s.port w.port).credit w.pkt.net.vl (nth (s.port w.port).credit w.pkt.net.vl + w.pkt.cells) } := by
  rw [State.finishPacket, held]
  dsimp only
  rw [if_neg (by rw [miss]; decide), tag, stamp_none, endTag_none, State.returnCredit]
  exact if_pos ⟨port, cells⟩

/-- Going on with a value, for a thread of any state. -/
theorem result_eq (u : State) (t : Nat) (rd : GReg) (v : Word) (tag : (u.thread t).tag = none) (fits : (u.thread t).pc + 4 < (u.thread t).code) :
    u.result t rd v = u.setThread t { (u.thread t).wrote rd v with wait := .none } := by
  have ended : ((u.setReg t rd v).stamp none 4).endTag none = u.setReg t rd v := by rw [stamp_none, endTag_none]
  have same : (u.setReg t rd v).thread t = (u.thread t).put rd v := thread_setThread_same ..
  rw [State.result, State.goOn, same, put_tag, tag, ended, put_pc, put_code, if_pos fits, State.modThread, same, State.setReg, setThread_setThread]
  refine congrArg (fun x => u.setThread t x) ?_
  rw [Thread.wrote, put_eq]
  dsimp only
  rw [tag]

/-! ### Window instructions (R335, R336) -/

section
variable {s : State} {t : Nat} {rd ra rb : GReg} {imm : BitVec 16} (hc : s.calm t = true) (hp : (s.thread t).pc + 4 < (s.thread t).code)
include hc

include hp in
theorem pwld_reads (hi : s.canIssue t (.pwld t rd ra imm) = true) (inside : windowAt (s.greg t ra) imm + windowSize imm ≤ 128) :
    exec (.pwld t rd ra imm) s = s.stepped t (Thread.wrote rd (match (s.thread t).window with
      | some w => BitVec.ofNat 64 (ofBE (slice w.bytes (windowAt (s.greg t ra) imm) (windowSize imm)))
      | none => 0)) := by
  rw [exec_pwld, execPwld, instr1_fires hi hc]
  dsimp only
  rw [fired_thread]
  have reg : (s.thread t).spent.get ra = s.greg t ra := rfl
  rw [reg, if_neg (Nat.not_lt.2 inside), fired_result hc (canIssue_running hi).2.2 hp]
  have window : (s.thread t).spent.window = (s.thread t).window := rfl
  rw [window]
  cases (s.thread t).window <;> rfl

theorem pwld_traps (hi : s.canIssue t (.pwld t rd ra imm) = true) (hm : (s.thread t).mayTrap = true)
    (outside : 128 < windowAt (s.greg t ra) imm + windowSize imm) :
    exec (.pwld t rd ra imm) s = s.stepped t (Thread.trapped 5 (BitVec.ofNat 64 (windowAt (s.greg t ra) imm)) 0) := by
  rw [exec_pwld, execPwld, instr1_fires hi hc]
  dsimp only
  rw [fired_thread]
  have reg : (s.thread t).spent.get ra = s.greg t ra := rfl
  rw [reg, if_pos outside, fired_trapAt hc (canIssue_running hi).2.2 hm]
  rfl

include hp in
theorem pwst_writes (hi : s.canIssue t (.pwst t rb ra imm) = true) (inside : windowAt (s.greg t ra) imm + windowSize imm ≤ 64) :
    exec (.pwst t rb ra imm) s = s.stepped t fun y =>
      { y with out := putBytes (slice (s.thread t).out 0 64) (windowAt (s.greg t ra) imm) (beBytes (windowSize imm) (s.greg t rb).toNat),
               pc := y.pc + 4 } := by
  rw [exec_pwst, execPwst, instr1_fires hi hc]
  dsimp only
  rw [fired_thread]
  have reg : (s.thread t).spent.get ra = s.greg t ra := rfl
  rw [reg, if_neg (Nat.not_lt.2 inside), fired_setThread]
  exact congrArg _ (goOn_plain _ _ _ (calm_tag hc) (canIssue_running hi).2.2 hp)

theorem pwst_traps (hi : s.canIssue t (.pwst t rb ra imm) = true) (hm : (s.thread t).mayTrap = true)
    (outside : 64 < windowAt (s.greg t ra) imm + windowSize imm) :
    exec (.pwst t rb ra imm) s = s.stepped t (Thread.trapped 5 (BitVec.ofNat 64 (windowAt (s.greg t ra) imm)) 0) := by
  rw [exec_pwst, execPwst, instr1_fires hi hc]
  dsimp only
  rw [fired_thread]
  have reg : (s.thread t).spent.get ra = s.greg t ra := rfl
  rw [reg, if_pos outside, fired_trapAt hc (canIssue_running hi).2.2 hm]
  rfl

include hp in
theorem pdone_ends (hi : s.canIssue t (.pdone t rd) = true) : exec (.pdone t rd) s
    = .next (((s.fired t).finishPacket t).setThread t ((((s.fired t).finishPacket t).thread t).wrote rd 0)) := by
  obtain ⟨v, left⟩ := finishPacket_thread (s.fired t) t
  rw [fired_thread] at left
  rw [exec_pdone, execPdone, instr1_fires hi hc, result_eq _ _ _ _ (by rw [left]; exact calm_tag hc) (by rw [left]; exact hp)]
  have wait : (s.thread t).spent.wait = .none := (canIssue_running hi).2.2
  refine congrArg (fun x => Host.Outcome.next (((s.fired t).finishPacket t).setThread t x)) ?_
  rw [left, Thread.wrote, put_eq]
  dsimp only
  rw [wait]

omit hc in
theorem eidMet_sound {u : State} (sound : u.soft = []) (e : Nat) : u.eidMet e = u := by
  rw [State.eidMet, corrected_none _ _ _ sound]
  exact if_neg (by simp [State.eidBad, State.softAt, sound])

include hp in
theorem eidlk_reads (hi : s.canIssue t (.eidlk t rd ra) = true) : exec (.eidlk t rd ra) s
    = s.stepped t (Thread.wrote rd (BitVec.ofNat 64 ((s.counted t).eidEntry ((s.greg t ra).toNat % 2 ^ 20)))) := by
  have sound : (s.fired t).soft = [] := by
    simp only [State.calm, Bool.and_eq_true, List.isEmpty_iff] at hc
    exact (count_soft ..).trans hc.1.2
  rw [exec_eidlk, execEidlk, instr1_fires hi hc]
  dsimp only
  rw [fired_greg, eidMet_sound sound, fired_result hc (canIssue_running hi).2.2 hp]
  rfl

end

/-! ### Handover and verdicts (R334, R336, R337) -/

theorem same_self (p : Packet) : p.same p = true := by simp [Packet.same]

section
variable {s : State} {t : Nat} (clocks : s.clocks)
include clocks

/-- The window that a delivered packet fills. -/
def State.handed (s : State) (p : Packet) (port handle : Nat) (verified : Bool) : InWindow :=
  { pkt := p, port := port, vl := p.net.vl, handle := handle, arrived := p.arrived,
    context := if s.contextOnDie p then s.freeVal % 2 ^ 32 else 2 ^ 32 - 1, fromMiss := false, verified := verified && !p.stomped }

/-- The state in which the one delivered packet has been taken for a thread: a free value is its context's handle. -/
def State.taken (s : State) (p : Packet) : State :=
  let u : State := { s with rt := { s.rt with delivered := [] } }
  if u.contextOnDie p then u.takeFree else u

omit clocks in
theorem taken_parts (s : State) (p : Packet) (t : Nat) : (s.taken p).thread t = s.thread t ∧ (s.taken p).rt.delivered = [] := by
  unfold State.taken
  dsimp only
  split <;> exact ⟨rfl, rfl⟩

omit clocks in
/-- A thread that waits in PNEXT goes on with its window filled. -/
theorem fills (u : State) (t : Nat) (rd : GReg) (w : InWindow) (d : Bool) (tag : (u.thread t).tag = none) (fits : (u.thread t).pc + 4 < (u.thread t).code) :
    (u.modThread t ({ · with window := some w, discarded := d })).result t rd 0
      = u.setThread t { ({ u.thread t with window := some w, discarded := d }.put rd 0) with pc := (u.thread t).pc + 4, wait := .none } := by
  rw [State.modThread, result_eq _ _ _ _ (by rw [thread_setThread_same]; exact tag) (by rw [thread_setThread_same]; exact fits), thread_setThread_same,
    setThread_setThread, Thread.wrote, put_eq]

theorem packetHandoff_fills {port handle : Nat} {rd : GReg} {d : InPkt} {verified : Bool} (wait : (s.thread t).wait = .packet rd) (admits : s.admits 3 = true)
    (served : servedBy d.pkt (t / 128) = true) (waiting : s.rt.delivered = [d]) (place : d.port = port) (untagged : d.tag = none)
    (tag : (s.thread t).tag = none) (fits : (s.thread t).pc + 4 < (s.thread t).code) :
    ∃ u w, exec (.packetHandoff t d.pkt port handle false verified) s = .next u
      ∧ u.thread t = { ({ s.thread t with window := some w, discarded := verified && d.pkt.stomped }.put rd 0) with
          pc := (s.thread t).pc + 4, wait := .none }
      ∧ w.pkt = d.pkt ∧ w.port = port ∧ w.handle = handle ∧ w.arrived = d.pkt.arrived ∧ w.fromMiss = false
      ∧ w.verified = (verified && !d.pkt.stomped) ∧ u.rt.delivered = [] := by
  have taken : s.takePacket port d.pkt false = some ({ s with rt := { s.rt with delivered := [] } }, d.pkt, none) := by
    rw [State.takePacket, if_neg (by decide), waiting, List.find?_cons_of_pos (by rw [place, same_self]; simp), Option.map_some, untagged]
    simp
  obtain ⟨thread, left⟩ := taken_parts s d.pkt t
  have done : exec (.packetHandoff t d.pkt port handle false verified) s = .next ((s.taken d.pkt).setThread t
      { ({ (s.taken d.pkt).thread t with window := some (s.handed d.pkt port handle verified), discarded := verified && d.pkt.stomped }.put rd 0) with
        pc := ((s.taken d.pkt).thread t).pc + 4, wait := .none }) := by
    rw [exec_packetHandoff, execPacketHandoff, s.clocked_runs clocks, wait]
    dsimp only
    rw [if_neg (by rw [served, admits]; simp), taken]
    dsimp only
    rw [ite_self]
    exact congrArg Host.Outcome.next (fills (s.taken d.pkt) t rd (s.handed d.pkt port handle verified) (verified && d.pkt.stomped)
      (by rw [thread]; exact tag) (by rw [thread]; exact fits))
  refine ⟨_, s.handed d.pkt port handle verified, done, ?_⟩
  rw [thread_setThread_same, thread]
  exact ⟨rfl, rfl, rfl, rfl, rfl, rfl, rfl, left⟩

/-- A good verdict verifies the packet, wakes the thread that waits for it, and lets the writes of a PLACE go. -/
theorem crcVerdict_good {w : InWindow} (held : (s.thread t).window = some w) (open_ : w.verified = false) (tag : w.tag = none)
    (whole : w.pkt.stomped = false) :
    exec (.crcVerdict t true) s = .next (s.setThread t { s.thread t with
      window := some { w with verified := true }, wait := if (s.thread t).wait = .crc then .none else (s.thread t).wait,
      pend := (s.thread t).pend.map fun a => { a with queued := false } }) := by
  rw [exec_crcVerdict, execCrcVerdict, s.clocked_runs clocks]
  dsimp only
  rw [held]
  dsimp only
  rw [if_neg (ne_true_of_eq_false open_), if_pos (by rw [whole]; simp), tag, stamp_none, ite_self, stamp_none]
  by_cases waits : (s.thread t).wait = .crc
  · rw [if_pos waits, beq_iff_eq.2 waits]
    rfl
  · rw [if_neg waits, beq_eq_false_iff_ne.2 waits]
    rfl

section
variable {w : InWindow} (held : (s.thread t).window = some w) (open_ : w.verified = false) (tag : w.tag = none)
  (placed : ∀ a ∈ (s.thread t).pend, a.queued = false)
include held open_ tag placed

/-- The state in which a bad verdict has ended the packet. -/
def State.stomps (s : State) (t : Nat) (d : Bool) : State := (s.setThread t { s.thread t with discarded := d }).finishPacket t

theorem crcVerdict_bad : exec (.crcVerdict t false) s = .next (if (s.thread t).wait = .crc
    then (s.stomps t false).trap t ⟨11, (s.thread t).pc, (s.stomps t false).codeWord t (s.thread t).pc, 0, 0⟩
    else settle ((s.stomps t true).wake t)) := by
  have none_ : (s.thread t).pend.filter (·.queued) = [] := List.filter_eq_nil_iff.2 fun a mem => ne_true_of_eq_false (placed a mem)
  have all : (s.thread t).pend.filter (fun a => !a.queued) = (s.thread t).pend := List.filter_eq_self.2 fun a mem => by rw [placed a mem]; rfl
  rw [exec_crcVerdict, execCrcVerdict, s.clocked_runs clocks]
  dsimp only
  rw [held]
  dsimp only
  rw [if_neg (ne_true_of_eq_false open_), if_neg (by simp), tag, stamp_none, none_, List.foldl_nil, State.modThread, all]
  by_cases waits : (s.thread t).wait = .crc
  · rw [if_pos waits, beq_iff_eq.2 waits]
    rfl
  · rw [if_neg waits, beq_eq_false_iff_ne.2 waits]
    rfl

end

end

/-- Settles O12: each instruction by its branch, the credits, the handover, and the two verdicts. -/
theorem packetWindowsAndHandover : Obligations.PacketWindowsAndHandover := by
  unfold Obligations.PacketWindowsAndHandover
  refine ⟨?windows, ?credits, ?handover, ?verdicts⟩
  case windows =>
    intro s t rd ra rb imm hc hp x n a
    exact ⟨fun hi inside => pwld_reads hc hp hi inside, fun hi outside hm => pwld_traps hc hi hm outside, fun hi inside => pwst_writes hc hp hi inside,
      fun hi outside hm => pwst_traps hc hi hm outside, fun hi => by rw [exec_pnext, execPnext, instr1_fires hi hc]; rfl, fun hi => pdone_ends hc hp hi,
      fun hi => eidlk_reads hc hp hi⟩
  case credits =>
    intro s t w held tag miss port cells p v
    exact finishPacket_credits held tag miss port cells
  case handover =>
    intro s t port handle rd d verified clocks wait admits served waiting place untagged tag fits
    exact packetHandoff_fills clocks wait admits served waiting place untagged tag fits
  case verdicts =>
    intro s t w clocks held open_ tag x ends
    refine ⟨fun whole => crcVerdict_good clocks held open_ tag whole, fun placed => ⟨fun other => ?_, fun waits => ?_⟩⟩
    · exact (crcVerdict_bad clocks held open_ tag placed).trans (by rw [if_neg other]; rfl)
    · exact (crcVerdict_bad clocks held open_ tag placed).trans (by rw [if_pos waits]; rfl)

end Sys2Proof.Machine

/-! PROOFS. The calls COPY, PLACE and PSEND (R337 to R339, R357). -/

namespace Sys2Proof.Machine

/-- An instruction that has prepared its effect in a state has it on that state's fired one. -/
theorem instr_fires_on {s v : State} {t : Nat} {i : Instr} (hi : s.canIssue t i = true) (hv : v.calm t = true)
    {prep : BitVec 32 → State → State × Option (State → State)} {k : State → State} (h : prep ((encodeWord i).getD 0) s = (v, some k)) :
    s.instr t i prep = .next (k (v.fired t)) := by
  rw [instr_issues hi, h]
  dsimp only
  rw [issued_calm hv]
  rfl

/-! ### What the accesses that a call adds leave of its thread -/

/-- A thread but for its accesses. -/
def Thread.bare (x : Thread) : Thread := { x with pend := [], nextAcc := 0 }

theorem addAccess_bare (u : State) (t : Nat) (a : Access) : ((u.addAccess t a).thread t).bare = (u.thread t).bare := by
  rw [State.addAccess, thread_setThread_same]
  rfl

theorem fold_bare (t : Nat) (f : State → Piece → State) (h : ∀ u p, ((f u p).thread t).bare = (u.thread t).bare) (l : List Piece) (u : State) :
    ((l.foldl f u).thread t).bare = (u.thread t).bare := by
  induction l generalizing u with
  | nil => rfl
  | cons p l ih => exact (ih _).trans (h u p)

theorem addWrites_bare (u : State) (t : Nat) (x : Spot) (b : List Byte) (faddr : Nat) (place queued : Bool) :
    ((u.addWrites t x b faddr place queued).thread t).bare = (u.thread t).bare :=
  fold_bare t _ (fun _ _ => addAccess_bare ..) _ u

section
variable {x y : Thread} (h : x.bare = y.bare)
include h

theorem bare_run : x.run = y.run := (congrArg Thread.run h :)
theorem bare_window : x.window = y.window := (congrArg Thread.window h :)
theorem bare_tag : x.tag = y.tag := (congrArg Thread.tag h :)
theorem bare_pc : x.pc = y.pc := (congrArg Thread.pc h :)
theorem bare_code : x.code = y.code := (congrArg Thread.code h :)
theorem bare_wait : x.wait = y.wait := (congrArg Thread.wait h :)

end

/-! ### The end of a call -/

theorem callResult_done (n : Nat) : callResult St.success 0 n = BitVec.ofNat 64 (n * 2 ^ 32) := by
  rw [callResult, St.success]
  simp

/-- A call that no run stops answers success. -/
theorem copyEnds_done {u : State} {t : Nat} (w : BitVec 32) (rd : GReg) (n : Nat) (goes : (u.thread t).run.any (·.stop) = false) :
    u.copyEnds t w rd none n = u.result t rd (BitVec.ofNat 64 (n * 2 ^ 32)) := by
  rw [State.copyEnds, State.callDone, if_neg (ne_true_of_eq_false goes), callResult_done]

theorem slice_length (l : List Byte) (a n : Nat) : (slice l a n).length = n := by
  rw [slice, List.length_append, List.length_take, List.length_replicate]
  omega

/-- The writes of a COPY whose source has been read. -/
theorem copyTo_writes {u v : State} {t : Nat} {y : Spot} (w : BitVec 32) (rd : GReg) {dst : Word} {b : List Byte} (some_ : b ≠ [])
    (lands : u.resolve t dst b.length accWrite = (v, .ok y)) (fits : y.misfit = false) (free : (v.thread t).deviceBusy y = false) :
    u.copyTo t w rd dst none b = (v, some fun s => (s.addWrites t y b dst.toNat false).copyEnds t w rd none b.length) := by
  rw [State.copyTo, if_neg (by simpa using some_), lands]
  dsimp only
  rw [if_neg (ne_true_of_eq_false fits), if_neg (ne_true_of_eq_false free)]
  rfl

section
variable {s v : State} {t n : Nat} {a : Word} {x : Spot}

/-- The source of a call that is to be asked for. -/
theorem callRead_asks (some_ : 0 < n) (lands : s.resolve t a n accRead = (v, .ok x)) (place : x.target ≠ .rodata) (fits : x.misfit = false)
    (apart : (v.thread t).clash x = false) (free : (v.thread t).deviceBusy x = false) : s.callRead t a n = (v, .ask x) := by
  rw [State.callRead, if_neg (by omega), lands]
  dsimp only
  rw [if_neg (ne_true_of_eq_false fits), if_neg (by rw [apart, free]; simp)]
  cases h : x.target with
  | rodata => exact absurd h place
  | _ => rfl

/-- The source of a call that is read-only data. -/
theorem callRead_rodata (some_ : 0 < n) (lands : s.resolve t a n accRead = (v, .ok x)) (place : x.target = .rodata) (fits : x.misfit = false)
    (apart : (v.thread t).clash x = false) (free : (v.thread t).deviceBusy x = false) :
    s.callRead t a n = (v, .data (slice (v.rodata t) ((x.pieces.headD (0, 0)).1) n)) := by
  rw [State.callRead, if_neg (by omega), lands]
  dsimp only
  rw [if_neg (ne_true_of_eq_false fits), if_neg (by rw [apart, free]; simp), place]

end

/-! ### COPY and PLACE -/

section
variable {s v : State} {t : Nat} {rd ra rb rc : GReg} {x y : Spot} (hv : v.calm t = true) (hp : (v.thread t).pc + 4 < (v.thread t).code)
include hv

theorem copy_asks (hi : s.canIssue t (.copy t rd ra rb rc) = true) (some_ : 0 < (s.greg t rc).toNat) (limit : (s.greg t rc).toNat ≤ 2 ^ 20)
    (lands : s.resolve t (s.greg t rb) (s.greg t rc).toNat accRead = (v, .ok x)) (place : x.target ≠ .rodata) (fits : x.misfit = false)
    (free : (v.thread t).deviceBusy x = false) (apart : (v.thread t).clash x = false) :
    exec (.copy t rd ra rb rc) s = .next (((v.fired t).askSource t x (s.greg t rc).toNat (s.greg t rb).toNat).setThread t
      { ((v.fired t).askSource t x (s.greg t rc).toNat (s.greg t rb).toNat).thread t with wait := .copy rd (s.greg t ra).toNat (s.greg t rc).toNat }) := by
  rw [exec_copy, execCopy]
  refine instr_fires_on hi hv (k := fun u => (u.askSource t x (s.greg t rc).toNat (s.greg t rb).toNat).modThread t
    ({ · with wait := .copy rd (s.greg t ra).toNat (s.greg t rc).toNat })) ?_
  dsimp only
  rw [if_neg (by omega), callRead_asks some_ lands place fits apart free]

theorem copy_rodata (hi : s.canIssue t (.copy t rd ra rb rc) = true) (some_ : 0 < (s.greg t rc).toNat) (limit : (s.greg t rc).toNat ≤ 2 ^ 20)
    (lands : s.resolve t (s.greg t rb) (s.greg t rc).toNat accRead = (s, .ok x)) (place : x.target = .rodata) (fits : x.misfit = false)
    (free : (s.thread t).deviceBusy x = false) (apart : (s.thread t).clash x = false) {p : Nat} (piece : x.pieces = [(p, (s.greg t rc).toNat)])
    (dst : s.resolve t (s.greg t ra) (s.greg t rc).toNat accWrite = (v, .ok y)) (fits_ : y.misfit = false) (free_ : (v.thread t).deviceBusy y = false)
    (goes : (v.thread t).run.any (·.stop) = false) :
    exec (.copy t rd ra rb rc) s = .next (((v.fired t).addWrites t y (slice (s.rodata t) p (s.greg t rc).toNat) (s.greg t ra).toNat false).result t rd
      (BitVec.ofNat 64 ((s.greg t rc).toNat * 2 ^ 32))) := by
  have length : (slice (s.rodata t) p (s.greg t rc).toNat).length = (s.greg t rc).toNat := slice_length ..
  have runs : (((v.fired t).addWrites t y (slice (s.rodata t) p (s.greg t rc).toNat) (s.greg t ra).toNat false).thread t).run.any (·.stop) = false := by
    rw [bare_run (addWrites_bare ..), fired_thread]
    exact goes
  rw [exec_copy, execCopy]
  refine (instr_fires_on hi hv (k := fun u => (u.addWrites t y (slice (s.rodata t) p (s.greg t rc).toNat) (s.greg t ra).toNat false).copyEnds t
    ((encodeWord (.copy t rd ra rb rc)).getD 0) rd none (s.greg t rc).toNat) ?_).trans (congrArg _ (copyEnds_done _ _ _ runs))
  dsimp only
  rw [if_neg (by omega), callRead_rodata some_ lands place fits apart free, piece]
  dsimp only [List.headD_cons]
  rw [copyTo_writes _ rd (by intro empty; rw [empty] at length; exact absurd length (by simpa using some_.ne)) (by rw [length]; exact dst) fits_ free_, length]

theorem place_writes (hi : s.canIssue t (.place t rd ra rb rc) = true) (some_ : 0 < (s.greg t rc).toNat)
    (inside : (s.greg t rb).toNat + (s.greg t rc).toNat ≤ ((s.thread t).window.elim [] fun w => w.pkt.payload).length)
    (dst : s.resolve t (s.greg t ra) (s.greg t rc).toNat accWrite = (v, .ok y)) (fits : y.misfit = false) (free : (v.thread t).deviceBusy y = false)
    (same : v.thread t = s.thread t) (tag : (s.thread t).window.bind (·.tag) = none) :
    exec (.place t rd ra rb rc) s = .next (((v.fired t).addWrites t y
      (slice ((s.thread t).window.elim [] fun w => w.pkt.payload) (s.greg t rb).toNat (s.greg t rc).toNat) (s.greg t ra).toNat true
      (s.thread t).unverified).result t rd (BitVec.ofNat 64 ((s.greg t rc).toNat * 2 ^ 32))) := by
  rw [exec_place, execPlace]
  refine (instr_fires_on hi hv (k := fun u => (((u.addWrites t y
    (slice ((s.thread t).window.elim [] fun w => w.pkt.payload) (s.greg t rb).toNat (s.greg t rc).toNat) (s.greg t ra).toNat true
    (u.thread t).unverified).stamp (if (u.thread t).unverified then none else (u.thread t).window.bind (·.tag)) 6).result t rd
      (callResult St.success 0 (s.greg t rc).toNat))) ?_).trans ?_
  · dsimp only
    rw [if_neg (by omega), if_neg (by omega), dst]
    dsimp only
    rw [if_neg (ne_true_of_eq_false fits), if_neg (ne_true_of_eq_false free)]
  · have window : ((v.fired t).thread t).window = (s.thread t).window := by
      rw [fired_thread, same]
      rfl
    have unverified : ((v.fired t).thread t).unverified = (s.thread t).unverified := by rw [Thread.unverified, window, Thread.unverified]
    rw [window, tag, ite_self, stamp_none, callResult_done, unverified]

end

/-! ### Calls that do nothing, and lengths above the limit -/

section
variable {s : State} {t : Nat} {rd ra rb rc : GReg} (hc : s.calm t = true) (hp : (s.thread t).pc + 4 < (s.thread t).code)
include hc hp

theorem copy_nothing (hi : s.canIssue t (.copy t rd ra rb rc) = true) (empty : (s.greg t rc).toNat = 0)
    (goes : (s.thread t).run.any (·.stop) = false) : exec (.copy t rd ra rb rc) s = s.stepped t (Thread.wrote rd 0) := by
  rw [exec_copy, execCopy]
  refine (instr_fires hi hc (k := fun u => u.copyEnds t ((encodeWord (.copy t rd ra rb rc)).getD 0) rd none 0) ?_).trans ?_
  · dsimp only
    rw [if_neg (by omega), State.callRead, if_pos empty]
    rfl
  · rw [copyEnds_done _ _ _ (by rw [fired_thread]; exact goes), fired_result hc (canIssue_running hi).2.2 hp]
    rfl

theorem place_nothing (hi : s.canIssue t (.place t rd ra rb rc) = true) (empty : (s.greg t rc).toNat = 0)
    (inside : (s.greg t rb).toNat ≤ ((s.thread t).window.elim [] fun w => w.pkt.payload).length) :
    exec (.place t rd ra rb rc) s = s.stepped t (Thread.wrote rd 0) := by
  rw [exec_place, execPlace]
  refine (instr_fires hi hc (k := fun u => u.result t rd (callResult St.success 0 0)) ?_).trans ?_
  · dsimp only
    rw [if_neg (by omega), if_pos empty]
  · rw [fired_result hc (canIssue_running hi).2.2 hp]
    rfl

theorem copy_refused (hi : s.canIssue t (.copy t rd ra rb rc) = true) (long : 2 ^ 20 < (s.greg t rc).toNat) (firmware : (s.thread t).priv = 0) :
    exec (.copy t rd ra rb rc) s = s.stepped t (Thread.wrote rd 0x0C) := by
  have refused : ¬((s.thread t).spent.priv = 1 ∨ trapDetail St.badDescriptor 0 = 0) := by
    rintro (handler | zero)
    · exact absurd (firmware.symm.trans handler) (by decide)
    · exact absurd zero (by decide)
  rw [exec_copy, execCopy]
  refine (instr_fires hi hc (k := fun u => u.callFails t ((encodeWord (.copy t rd ra rb rc)).getD 0) rd Cause.access (s.greg t rb).toNat
    (trapDetail St.badDescriptor 0) 0) ?_).trans ?_
  · dsimp only
    rw [if_pos long]
  · rw [State.callFails, fired_thread, if_neg refused, fired_result hc (canIssue_running hi).2.2 hp]
    rfl

end

/-! ### The source of a COPY has been read -/

theorem leBytes_ofLE (l : List Byte) : leBytes l.length (ofLE l) = l := by
  induction l with
  | nil => rfl
  | cons b l ih =>
    rw [List.length_cons, leBytes, ofLE]
    have byte : BitVec.ofNat 8 (b.toNat + 256 * ofLE l) = b := by
      apply BitVec.eq_of_toNat_eq
      have := b.isLt
      rw [BitVec.toNat_ofNat]
      omega
    have rest : (b.toNat + 256 * ofLE l) / 256 = ofLE l := by
      have := b.isLt
      omega
    rw [byte, rest, ih]

section
variable {s : State} {t k h dst : Nat} {rd : GReg} {a : Access} {r : HostRes} {y : Spot}

/-- The bytes of a call's only piece. -/
theorem groupBytes_call {b : List Byte} (off : a.off = 0) (total : a.total = a.width) (length : b.length = a.width) :
    groupBytes [a.answered (ofLE b)] = b := by
  have whole : leBytes a.width (ofLE b) = b := by rw [← length]; exact leBytes_ofLE b
  rw [groupBytes, fold_putBytes [a.answered (ofLE b)] a.width (ofLE b) (by simpa [Access.answered] using off) _ ?_ (by simp), whole]
  rw [List.length_replicate]
  exact total

/-- The bytes of a COPY go to its destination. -/
theorem finishCall_copies {u v : State} {b : List Byte} {n : Nat} {f : State → State} (wait : (u.thread t).wait = .copy rd dst n)
    (done : u.copyTo t (BitVec.ofNat 32 (u.codeWord t (u.thread t).pc)) rd (BitVec.ofNat 64 dst) none b = (v, some f)) :
    u.finishCall t a b = f (v.dropAccesses t fun c => c.call && c.group == a.group) := by
  rw [State.finishCall, wait]
  dsimp only
  rw [done]

/-- The last read of a COPY lets its writes go, and the call ends. -/
theorem copy_ends (clocks : s.clocks) (sound : s.soft = []) (one : (s.thread t).pend = [a]) (number : a.id = k) (load : a.kind = .load)
    (call : a.call = true) (target : a.target = .hive h) (device : a.device = false) (performed : a.performed = false) (reached : a.reached = false)
    (queued : a.queued = false) (key : a.key = none) (off : a.off = 0) (total : a.total = a.width) (some_ : 0 < a.width)
    (wait : (s.thread t).wait = .copy rd dst a.width) (run : (s.thread t).run = none) (tag : (s.thread t).tag = none)
    (fits : (s.thread t).pc + 4 < (s.thread t).code)
    (lands : (s.setThread t { s.thread t with pend := [a.answered (ofLE (Memory.readN 0 (s.sramOf h) a.addr a.width))] }).resolve t (BitVec.ofNat 64 dst)
      a.width accWrite = (s.setThread t { s.thread t with pend := [a.answered (ofLE (Memory.readN 0 (s.sramOf h) a.addr a.width))] }, .ok y))
    (fits_ : y.misfit = false) (normal : y.device = false) :
    exec (.foragerAccessResponse t k r) s = .next (settle (((s.setThread t { s.thread t with pend := [] }).addWrites t y
      (Memory.readN 0 (s.sramOf h) a.addr a.width) (BitVec.ofNat 64 dst).toNat false).result t rd (BitVec.ofNat 64 (a.width * 2 ^ 32)))) := by
  generalize read : Memory.readN 0 (s.sramOf h) a.addr a.width = old at lands ⊢
  have length : old.length = a.width := by rw [← read]; simp [Memory.readN]
  have full : old ≠ [] := by rintro rfl; exact absurd length (by simpa using some_.ne)
  have found : (s.thread t).access k = some a := by rw [Thread.access, one, List.find?_cons_of_pos (by simp [number])]
  have answered : s.modAccess t a.id (Access.answered (ofLE old)) = s.setThread t { s.thread t with pend := [a.answered (ofLE old)] } := by
    rw [State.modAccess, State.modThread, one]
    simp
  have reads : s.performLoad t a r = (s.setThread t { s.thread t with pend := [a.answered (ofLE old)] }).finishGroup t (a.answered (ofLE old)) := by
    unfold State.performLoad
    rw [ownStore_first one]
    dsimp only
    rw [mayPerform_first one queued, readAccess_hive target sound, read, ← answered]
    dsimp only
    rw [if_neg (by decide), if_neg (by rw [device]; simp)]
    rfl
  have group : ([a.answered (ofLE old)].filter fun b => b.kind == .load && b.group == (a.answered (ofLE old)).group) = [a.answered (ofLE old)] :=
    List.filter_eq_self.2 fun b mem => by rw [List.mem_singleton.1 mem, Access.answered, load]; simp
  have dropped : (s.setThread t { s.thread t with pend := [a.answered (ofLE old)] }).dropAccesses t
      (fun c => c.call && c.group == (a.answered (ofLE old)).group) = s.setThread t { s.thread t with pend := [] } := by
    rw [dropAccesses_keyless _ _ _ (by rw [thread_setThread_same]; simpa [Access.answered] using fun _ => key), thread_setThread_same, setThread_setThread,
      Access.answered, call]
    simp
  have runs : (((s.setThread t { s.thread t with pend := [] }).addWrites t y old (BitVec.ofNat 64 dst).toNat false).thread t).run.any (·.stop) = false := by
    rw [bare_run (addWrites_bare ..), thread_setThread_same]
    exact congrArg (Option.any (·.stop)) run
  have finished : (s.setThread t { s.thread t with pend := [a.answered (ofLE old)] }).finishGroup t (a.answered (ofLE old))
      = ((s.setThread t { s.thread t with pend := [] }).addWrites t y old (BitVec.ofNat 64 dst).toNat false).result t rd
        (BitVec.ofNat 64 (a.width * 2 ^ 32)) := by
    rw [State.finishGroup, thread_setThread_same]
    dsimp only
    rw [group, if_neg (by simp [Access.answered]), if_pos (by exact call), groupBytes_call off total length,
      finishCall_copies (by rw [thread_setThread_same]; exact wait)
        (copyTo_writes _ rd full (by rw [length]; exact lands) fits_ (by rw [Thread.deviceBusy, normal]; rfl))]
    dsimp only
    rw [dropped, copyEnds_done _ _ _ runs, length]
  have waits : ((((s.setThread t { s.thread t with pend := [] }).addWrites t y old (BitVec.ofNat 64 dst).toNat false).result t rd
      (BitVec.ofNat 64 (a.width * 2 ^ 32))).thread t).wait = .none := by
    have bare := addWrites_bare (s.setThread t { s.thread t with pend := [] }) t y old (BitVec.ofNat 64 dst).toNat false false
    rw [thread_setThread_same] at bare
    rw [result_eq _ _ _ _ ((bare_tag bare).trans tag) (by rw [bare_pc bare, bare_code bare]; exact fits), thread_setThread_same]
  rw [response_load clocks found performed reached load, reads, finished, wake_none waits]

end

/-! ### PSEND -/

section
variable {s v : State} {t : Nat} {rd ra rb rc : GReg} {y : Spot} (hc : s.calm t = true) (hi : s.canIssue t (.psend t rd ra rb rc) = true)
  (placed : ∀ a ∈ (s.thread t).pend, a.place = false)
include hc hi

theorem psend_traps (hm : (s.thread t).mayTrap = true)
    (bad : ¬(16 ≤ (s.greg t rc).toNat ∧ (s.greg t rc).toNat ≤ 64 ∧ (s.greg t rc).toNat % 16 = 0 ∧ (s.greg t rb).toNat ≤ 4096)) :
    exec (.psend t rd ra rb rc) s
      = s.stepped t (Thread.trapped 1 (((encodeWord (.psend t rd ra rb rc)).getD 0).setWidth 64) 0) := by
  rw [exec_psend, execPsend]
  refine (instr_fires hi hc (k := fun u => u.trapAt t ((encodeWord (.psend t rd ra rb rc)).getD 0) Cause.illegal
    ((encodeWord (.psend t rd ra rb rc)).getD 0).toNat) ?_).trans ?_
  · dsimp only
    exact if_pos (by
      change (s.greg t rc).toNat < 16 ∨ 64 < (s.greg t rc).toNat ∨ (s.greg t rc).toNat % 16 ≠ 0 ∨ 4096 < (s.greg t rb).toNat
      omega)
  · rw [fired_trapAt hc (canIssue_running hi).2.2 hm, BitVec.ofNat_toNat]
    rfl

variable (fine : 16 ≤ (s.greg t rc).toNat ∧ (s.greg t rc).toNat ≤ 64 ∧ (s.greg t rc).toNat % 16 = 0 ∧ (s.greg t rb).toNat ≤ 4096)
include placed fine

omit hc hi in
theorem psend_ready : ¬(((s.thread t).get rc).toNat < 16 ∨ 64 < ((s.thread t).get rc).toNat ∨ ((s.thread t).get rc).toNat % 16 ≠ 0
    ∨ 4096 < ((s.thread t).get rb).toNat) ∧ ¬((s.thread t).pend.any (fun a => a.place && !a.reached && !a.performed) = true) := by
  constructor
  · change ¬((s.greg t rc).toNat < 16 ∨ 64 < (s.greg t rc).toNat ∨ (s.greg t rc).toNat % 16 ≠ 0 ∨ 4096 < (s.greg t rb).toNat)
    omega
  · simp only [List.any_eq_true, not_exists, not_and]
    intro a mem
    rw [placed a mem]
    simp

/-- A packet without payload that is no WT packet goes to the crossbar at once. -/
theorem psend_sends (hp : (s.thread t).pc + 4 < (s.thread t).code) (empty : (s.greg t rb).toNat = 0)
    (own : ∀ h, (s.outPacket (slice (s.thread t).out 0 (s.greg t rc).toNat) []).body ≠ .wt h) :
    exec (.psend t rd ra rb rc) s = .next (((s.injectOwn (s.outPacket (slice (s.thread t).out 0 (s.greg t rc).toNat) []) true).fired t).setThread t
      (((s.injectOwn (s.outPacket (slice (s.thread t).out 0 (s.greg t rc).toNat) []) true).thread t).spent.wrote rd 0)) := by
  generalize packet : s.outPacket (slice (s.thread t).out 0 (s.greg t rc).toNat) [] = p at own ⊢
  obtain ⟨range, ready⟩ := psend_ready placed fine
  have sound : s.soft = [] := by
    simp only [State.calm, Bool.and_eq_true, List.isEmpty_iff] at hc
    exact hc.1.2
  have out : s.psendOut t p = (s.injectOwn p true, true) := by
    rw [State.psendOut, eidMet_sound sound]
    cases h : p.body with
    | wt x => exact absurd h (own x)
    | _ => rfl
  have hv : (s.injectOwn p true).calm t = true := hc
  rw [exec_psend, execPsend]
  refine (instr_fires_on hi hv (k := fun u => u.result t rd (callResult St.success 0 0)) ?_).trans ?_
  · dsimp only
    have len : ((s.thread t).get rb).toNat = 0 := empty
    have hdr : s.outPacket (slice (s.thread t).out 0 ((s.thread t).get rc).toNat) [] = p := packet
    rw [if_neg range, if_neg ready, len, State.callRead, if_pos rfl]
    dsimp only
    rw [hdr, out]
  · exact congrArg _ ((fired_result hv (canIssue_running hi).2.2 hp rd _).trans (fired_setThread ..).symm)

/-- With a payload it asks for its source, and waits. -/
theorem psend_asks (hv : v.calm t = true) (some_ : 0 < (s.greg t rb).toNat) (lands : s.resolve t (s.greg t ra) (s.greg t rb).toNat accRead = (v, .ok y))
    (place : y.target ≠ .rodata) (fits : y.misfit = false) (apart : (v.thread t).clash y = false) (free : (v.thread t).deviceBusy y = false) :
    exec (.psend t rd ra rb rc) s = .next (((v.fired t).askSource t y (s.greg t rb).toNat (s.greg t ra).toNat).setThread t
      { ((v.fired t).askSource t y (s.greg t rb).toNat (s.greg t ra).toNat).thread t with
        wait := .send rd (s.greg t rc).toNat (s.greg t rb).toNat }) := by
  obtain ⟨range, ready⟩ := psend_ready placed fine
  rw [exec_psend, execPsend]
  refine instr_fires_on hi hv (k := fun u => (u.askSource t y (s.greg t rb).toNat (s.greg t ra).toNat).modThread t
    ({ · with wait := .send rd (s.greg t rc).toNat (s.greg t rb).toNat })) ?_
  dsimp only
  have reads : s.callRead t ((s.thread t).get ra) ((s.thread t).get rb).toNat = (v, .ask y) := callRead_asks some_ lands place fits apart free
  rw [if_neg range, if_neg ready, reads]
  rfl

end

/-- Settles O13: the branches of COPY, PLACE and PSEND, and the last read of a COPY. -/
theorem callsCopyPlaceAndSend : Obligations.CallsCopyPlaceAndSend := by
  unfold Obligations.CallsCopyPlaceAndSend
  refine ⟨?issue, ?ends, ?send⟩
  case issue =>
    intro s v t rd ra rb rc x y hv hp goes dst src n w payload done copy place free
    have runs : (v.thread t).run.any (·.stop) = false := by
      cases h : (v.thread t).run with
      | none => rfl
      | some r => exact goes r h
    refine ⟨fun hi some_ limit lands target ⟨fits, idle⟩ apart => ?_, fun hi some_ limit lands target apart idle fits p piece there ⟨fits_, idle_⟩ => ?_,
      fun hi some_ inside there ⟨fits, idle⟩ same tag => ?_, ?_, ?_⟩
    · exact copy_asks hv hi some_ limit lands target fits idle apart
    · exact copy_rodata hv hi some_ limit lands target fits idle apart piece there fits_ idle_ runs
    · exact place_writes hv hi some_ inside there fits idle same tag
    · rintro rfl empty
      exact ⟨fun hi => copy_nothing hv hp hi empty runs, fun hi inside => place_nothing hv hp hi empty inside⟩
    · rintro rfl hi long firmware
      exact copy_refused hv hp hi long firmware
  case ends =>
    intro s t k h dst rd a r y clocks quiet sound one number load call dest target device performed reached queued key off total some_ wait run tag fits x
      old u v lands fits_ normal
    exact copy_ends clocks sound one number load call target device performed reached queued key off total some_ wait run tag fits lands fits_ normal
  case send =>
    intro s v t rd ra rb rc y hc hi hp x hdr len src p fine sends
    exact ⟨fun good empty placed own => psend_sends hc hi placed good hp empty own,
      fun good some_ placed lands hv place fits apart free => psend_asks hc hi placed good hv some_ lands place fits apart free,
      fun bad hm => psend_traps hc hi hm bad⟩

end Sys2Proof.Machine

/-! PROOFS. The layer of commands of functions, and those on protection domains, completion queues and event queues (R45 to R47, R57, R493). -/

namespace Sys2Proof.Machine

theorem bits_div (v : Word) (lo w : Nat) : bits v lo w = v.toNat / 2 ^ lo % 2 ^ w := by rw [bits, Nat.shiftRight_eq_div_pow]

/-- A command in hand runs on its block. -/
theorem runCmd_runs {s : State} {fn cmd : Nat} {ws : List Word} {f : List Word → State} (h : s.cmdOf fn cmd = some ws) :
    s.runCmd fn cmd f = .next (settle (f ws)) := by
  rw [State.runCmd, h]
  rfl

theorem quiet_of {s u : State} (quiet : s.quiet = true) (todo : u.tp.todo = s.tp.todo) (writes : u.tp.writes = s.tp.writes)
    (unexp : u.mt.unexp = s.mt.unexp) (sw : u.sw = s.sw) : u.quiet = true := by
  rw [State.quiet, State.takers, State.memberGroups] at quiet ⊢
  rw [todo, writes, unexp, sw]
  exact quiet

/-- The completion of a command leaves a quiet state quiet. -/
theorem settle_cmdDone {s u : State} (quiet : s.quiet = true) (fn st res : Nat) (todo : u.tp.todo = s.tp.todo)
    (writes : u.tp.writes = s.tp.writes) (unexp : u.mt.unexp = s.mt.unexp) (sw : u.sw = s.sw) :
    settle (u.cmdDone fn st res) = u.cmdDone fn st res := settle_quiet _ (quiet_of (u := u.cmdDone fn st res) quiet todo writes unexp sw)

theorem ringOk_of {log base : Nat} (low : 6 ≤ log) (high : log ≤ 20) (aligned : base % 4096 = 0) : ringOk log base = true := by
  simp [ringOk, low, high, aligned]

section
variable {s : State} {fn : Nat} {ws : List Word} (quiet : s.quiet = true) (clocks : s.clocks)
include quiet clocks

theorem createPd_ends (h : s.cmdOf fn 1 = some ws) (small : cmdObject ws < 65536) :
    (mget (s.func fn).pds (cmdObject ws) = none → (s.tp.funcs.map fun p => p.2.pds.length).sum < 65536 → exec (.createPd fn) s
      = .next ((s.setFunc fn { s.func fn with pds := mset (s.func fn).pds (cmdObject ws) {} }).cmdDone fn 0))
    ∧ (mget (s.func fn).pds (cmdObject ws) ≠ none → exec (.createPd fn) s = .next (s.cmdDone fn 0x12)) := by
  rw [exec_createPd, execCreatePd, s.clocked_runs clocks, runCmd_runs h]
  dsimp only
  rw [if_neg (by omega)]
  refine ⟨fun free room => ?_, fun there => ?_⟩
  · rw [if_neg (by rw [free]; decide), if_neg (by omega), settle_cmdDone quiet]
    all_goals rfl
  · rw [if_pos (Option.isSome_iff_ne_none.2 there), settle_cmdDone quiet]
    all_goals rfl

theorem destroyPd_ends (h : s.cmdOf fn 2 = some ws) (small : cmdObject ws < 65536) :
    (mget (s.func fn).pds (cmdObject ws) ≠ none → s.pdUsed fn (cmdObject ws) = false → exec (.destroyPd fn) s
      = .next ((s.setFunc fn { s.func fn with pds := mdel (s.func fn).pds (cmdObject ws) }).cmdDone fn 0))
    ∧ (s.pdUsed fn (cmdObject ws) = true ∨ mget (s.func fn).pds (cmdObject ws) = none → exec (.destroyPd fn) s = .next (s.cmdDone fn 0x12)) := by
  rw [exec_destroyPd, execDestroyPd, s.clocked_runs clocks, runCmd_runs h]
  dsimp only
  rw [if_neg (by omega)]
  refine ⟨fun there free => ?_, fun bad => ?_⟩
  · rw [if_neg (by rw [free]; simpa using there), settle_cmdDone quiet]
    all_goals rfl
  · rw [if_pos (bad.symm.imp_left Option.isNone_iff_eq_none.2), settle_cmdDone quiet]
    all_goals rfl

theorem createCq_ends (h : s.cmdOf fn 3 = some ws) (index : idxOk fn (cmdObject ws) = true)
    (ring : ringOk (bits (wordAt ws 1) 0 8) (wordAt ws 2).toNat = true) :
    (mget (s.func fn).cqs (cmdObject ws) = none → exec (.createCq fn) s = .next ((s.setFunc fn { s.func fn with
      cqs := mset (s.func fn).cqs (cmdObject ws) { log := bits (wordAt ws 1) 0 8, vector := bits (wordAt ws 1) 16 11, base := (wordAt ws 2).toNat }
      }).cmdDone fn 0))
    ∧ (mget (s.func fn).cqs (cmdObject ws) ≠ none → exec (.createCq fn) s = .next (s.cmdDone fn 0x12)) := by
  rw [exec_createCq, execCreateCq, s.clocked_runs clocks, runCmd_runs h]
  dsimp only
  rw [if_neg (by rw [index, ring]; decide)]
  refine ⟨fun free => ?_, fun there => ?_⟩
  · rw [if_neg (by rw [free]; decide), settle_cmdDone quiet]
    all_goals rfl
  · rw [if_pos (Option.isSome_iff_ne_none.2 there), settle_cmdDone quiet]
    all_goals rfl

theorem destroyCq_ends (h : s.cmdOf fn 4 = some ws) (index : idxOk fn (cmdObject ws) = true) :
    (mget (s.func fn).cqs (cmdObject ws) ≠ none → s.cqUsed fn (cmdObject ws) = false → exec (.destroyCq fn) s
      = .next ((s.setFunc fn { s.func fn with cqs := mdel (s.func fn).cqs (cmdObject ws) }).cmdDone fn 0))
    ∧ (s.cqUsed fn (cmdObject ws) = true ∨ mget (s.func fn).cqs (cmdObject ws) = none → exec (.destroyCq fn) s = .next (s.cmdDone fn 0x12)) := by
  rw [exec_destroyCq, execDestroyCq, s.clocked_runs clocks, runCmd_runs h]
  dsimp only
  rw [if_neg (by rw [index]; decide)]
  refine ⟨fun there free => ?_, fun bad => ?_⟩
  · rw [if_neg (by rw [free]; simpa using there), settle_cmdDone quiet]
    all_goals rfl
  · rw [if_pos (bad.symm.imp_left Option.isNone_iff_eq_none.2), settle_cmdDone quiet]
    all_goals rfl

theorem createEq_ends (h : s.cmdOf fn 5 = some ws) (index : cmdObject ws = 0)
    (ring : ringOk (bits (wordAt ws 1) 0 8) (wordAt ws 2).toNat = true) :
    ((s.func fn).eq = none → exec (.createEq fn) s = .next ((s.setFunc fn { s.func fn with
      eq := some { log := bits (wordAt ws 1) 0 8, vector := bits (wordAt ws 1) 16 11, base := (wordAt ws 2).toNat } }).cmdDone fn 0))
    ∧ ((s.func fn).eq ≠ none → exec (.createEq fn) s = .next (s.cmdDone fn 0x12)) := by
  rw [exec_createEq, execCreateEq, s.clocked_runs clocks, runCmd_runs h]
  dsimp only
  rw [if_neg (by rw [index, ring]; decide)]
  refine ⟨fun free => ?_, fun there => ?_⟩
  · rw [if_neg (by rw [free]; decide), settle_cmdDone quiet]
    all_goals rfl
  · rw [if_pos (Option.isSome_iff_ne_none.2 there), settle_cmdDone quiet]
    all_goals rfl

end

/-- Settles O21: each command by its lemma. -/
theorem domainAndQueueCommands : Obligations.DomainAndQueueCommands := by
  unfold Obligations.DomainAndQueueCommands
  intro s fn ws quiet clocks f i log vec base ends
  have vector : vec = bits (wordAt ws 1) 16 11 := (bits_div _ _ _).symm
  rw [vector]
  refine ⟨fun h small => createPd_ends quiet clocks h small, fun h small => ?_, fun h index low high aligned => ?_, fun h index => ?_,
    fun h index low high aligned => ?_⟩
  · obtain ⟨free, bad⟩ := destroyPd_ends quiet clocks h small
    exact ⟨fun there unused => free there (by simpa using unused), bad⟩
  · exact createCq_ends quiet clocks h index (ringOk_of low high aligned)
  · obtain ⟨free, bad⟩ := destroyCq_ends quiet clocks h index
    exact ⟨fun there unused => free there (by simpa using unused), bad⟩
  · exact createEq_ends quiet clocks h index (ringOk_of low high aligned)

end Sys2Proof.Machine

/-! PROOFS. The layer of keys, and the commands on regions and windows (R84 to R89, R110). -/

namespace Sys2Proof.Machine

/-! ### What a change of an entry leaves -/

/-- Two states with the same queues and the same key memory. -/
def State.keyed (s u : State) : Prop := u.tp = s.tp ∧ u.mt = s.mt ∧ u.sw = s.sw ∧ u.km = s.km

theorem keyed_storeWrite (s : State) (a n : Nat) (l : List Byte) : s.keyed (((s.storeWrite a l).clearPoison a n).clearResv .store a n) :=
  ⟨rfl, rfl, rfl, rfl⟩

theorem keyed_wr {s u : State} (h : s.keyed u) (f : Fld) (v i j : Nat) : s.keyed (u.wr f v i j) := h

/-- Only the store, its poison and reservations follow an entry. -/
theorem keyed_backKey (s : State) (i : Nat) (old new : KeyEntry) : s.keyed (s.backKey i old new) := by
  unfold State.backKey
  split
  · exact ⟨rfl, rfl, rfl, rfl⟩
  · split
    · exact keyed_storeWrite ..
    · exact ⟨rfl, rfl, rfl, rfl⟩

theorem keyed_keyShown {s u : State} (h : s.keyed u) : s.keyed u.keyShown := keyed_wr (keyed_wr (keyed_wr (keyed_wr h ..) ..) ..) ..

theorem keyed_setKey (s : State) (i : Nat) (e : KeyEntry) :
    State.keyed { s with km := { s.km with entries := mset s.km.entries i e } } (s.setKey i e) := keyed_keyShown (keyed_backKey ..)

section
variable (s : State) (i : Nat) (e : KeyEntry)

@[simp] theorem setKey_tp : (s.setKey i e).tp = s.tp := (keyed_setKey s i e).1
@[simp] theorem setKey_mt : (s.setKey i e).mt = s.mt := (keyed_setKey s i e).2.1
@[simp] theorem setKey_sw : (s.setKey i e).sw = s.sw := (keyed_setKey s i e).2.2.1
@[simp] theorem setKey_km : (s.setKey i e).km = { s.km with entries := mset s.km.entries i e } := (keyed_setKey s i e).2.2.2

@[simp] theorem key_setKey_same : (s.setKey i e).key i = e := by rw [State.key, setKey_km, mgetD_mset_same]

theorem key_setKey_other {j : Nat} (h : j ≠ i) : (s.setKey i e).key j = s.key j := by rw [State.key, setKey_km, mgetD_mset_other _ _ _ _ _ h]; rfl

end

/-- Bringing an entry on die marks it, and another entry may leave. -/
theorem cacheKey_eq (s : State) (i : Nat) : s.cacheKey i = (
  let s := s.setKey i { s.key i with onDie := true }
  let on := s.km.entries.filter fun p => p.2.onDie && p.2.kind != 0
  if on.length ≤ 65536 then s
  else match on.find? fun p => p.1 != i && !p.2.pinned with
    | some p => s.setKey p.1 { p.2 with onDie := false }
    | none => s) := rfl

theorem cacheKey_cases {s v : State} {i : Nat} (h : s.setKey i { s.key i with onDie := true } = v) :
    s.cacheKey i = v ∨ ∃ (j : Nat) (e : KeyEntry), j ≠ i ∧ s.cacheKey i = v.setKey j e := by
  rw [cacheKey_eq, h]
  dsimp only
  split
  · exact .inl rfl
  · split
    next p leaves =>
      have found := List.find?_some leaves
      simp only [Bool.and_eq_true, bne_iff_ne] at found
      exact .inr ⟨p.1, _, found.1, rfl⟩
    · exact .inl rfl

section
variable (s : State) (i : Nat) (e : KeyEntry)

theorem cacheKey_parts : (s.cacheKey i).tp = s.tp ∧ (s.cacheKey i).mt = s.mt ∧ (s.cacheKey i).sw = s.sw := by
  obtain same | ⟨j, e, -, same⟩ := cacheKey_cases (s := s) (i := i) rfl
  · rw [same]
    exact ⟨setKey_tp .., setKey_mt .., setKey_sw ..⟩
  · rw [same, setKey_tp, setKey_mt, setKey_sw]
    exact ⟨setKey_tp .., setKey_mt .., setKey_sw ..⟩

@[simp] theorem cacheKey_tp : (s.cacheKey i).tp = s.tp := (cacheKey_parts s i).1
@[simp] theorem cacheKey_mt : (s.cacheKey i).mt = s.mt := (cacheKey_parts s i).2.1
@[simp] theorem cacheKey_sw : (s.cacheKey i).sw = s.sw := (cacheKey_parts s i).2.2

/-- An entry that is brought on die stays what it is. -/
theorem cacheKey_key : (s.cacheKey i).key i = { s.key i with onDie := true } := by
  obtain same | ⟨j, e, other, same⟩ := cacheKey_cases (s := s) (i := i) rfl
  · rw [same, key_setKey_same]
  · rw [same, key_setKey_other _ _ _ other.symm, key_setKey_same]

@[simp] theorem bringKey_tp : (s.bringKey i).tp = s.tp := by unfold State.bringKey; split <;> simp
@[simp] theorem bringKey_mt : (s.bringKey i).mt = s.mt := by unfold State.bringKey; split <;> simp
@[simp] theorem bringKey_sw : (s.bringKey i).sw = s.sw := by unfold State.bringKey; split <;> simp

theorem bringKey_key : ∃ o, (s.bringKey i).key i = { s.key i with onDie := o } := by
  unfold State.bringKey
  split
  · exact ⟨(s.key i).onDie, rfl⟩
  · exact ⟨true, cacheKey_key ..⟩

@[simp] theorem revoke_tp : (s.revoke i).tp = s.tp := by simp [State.revoke]
@[simp] theorem revoke_mt : (s.revoke i).mt = s.mt := by simp [State.revoke]
@[simp] theorem revoke_sw : (s.revoke i).sw = s.sw := by simp [State.revoke]

/-- A revoked entry keeps its in-use references. -/
theorem revoke_inUse : ((s.revoke i).key i).inUse = (s.key i).inUse := by
  obtain ⟨o, same⟩ := bringKey_key s i
  rw [State.revoke, key_setKey_same, same]

theorem issueIndex_parts : s.issueIndex.tp = s.tp ∧ s.issueIndex.mt = s.mt ∧ s.issueIndex.sw = s.sw := by
  unfold State.issueIndex
  split <;> exact ⟨rfl, rfl, rfl⟩

theorem quota_parts (fn : Nat) (d : Int) : (s.quota fn d).tp = s.tp ∧ (s.quota fn d).mt = s.mt ∧ (s.quota fn d).sw = s.sw := ⟨rfl, rfl, rfl⟩

theorem newKey_parts : (s.newKey i e).tp = s.tp ∧ (s.newKey i e).mt = s.mt ∧ (s.newKey i e).sw = s.sw := by
  obtain ⟨tp, mt, sw⟩ := issueIndex_parts s
  obtain ⟨tp_, mt_, sw_⟩ := quota_parts ((s.issueIndex.setKey i { e with generation := (s.key i).generation }).cacheKey i) e.fn 1
  rw [State.newKey, tp_, mt_, sw_, cacheKey_tp, cacheKey_mt, cacheKey_sw, setKey_tp, setKey_mt, setKey_sw]
  exact ⟨tp, mt, sw⟩

theorem freed_parts (l : List Nat) (fn : Nat) (d : Int) : (State.quota { s with km := { s.km with freed := l } } fn d).tp = s.tp
    ∧ (State.quota { s with km := { s.km with freed := l } } fn d).mt = s.mt ∧ (State.quota { s with km := { s.km with freed := l } } fn d).sw = s.sw :=
  ⟨rfl, rfl, rfl⟩

theorem freeKey_parts : (s.freeKey i).tp = s.tp ∧ (s.freeKey i).mt = s.mt ∧ (s.freeKey i).sw = s.sw := by
  obtain ⟨tp, mt, sw⟩ := freed_parts (s.setKey i { generation := (s.key i).generation })
    ((s.setKey i { generation := (s.key i).generation }).km.freed ++ [i]) (s.key i).fn (-1)
  rw [State.freeKey, tp, mt, sw]
  exact ⟨setKey_tp .., setKey_mt .., setKey_sw ..⟩

end

/-! ### Regions and windows (R87 to R89, R110) -/

/-- A state whose queues are those of another. -/
def State.still (s u : State) : Prop := u.tp = s.tp ∧ u.mt = s.mt ∧ u.sw = s.sw

/-- The completion of a command on a state whose queues are those of a quiet one. -/
theorem settle_done {s u : State} (quiet : s.quiet = true) (same : s.still u) (fn st res : Nat) :
    settle (u.cmdDone fn st res) = u.cmdDone fn st res := by
  obtain ⟨tp, mt, sw⟩ := same
  exact settle_cmdDone quiet fn st res (by rw [tp]) (by rw [tp]) (by rw [mt]) sw

section
variable {s : State} {fn i : Nat} {ws : List Word} (quiet : s.quiet = true) (clocks : s.clocks) (object : cmdObject ws = 0)
include quiet clocks object

section
variable (domain : mget (s.func fn).pds ((wordAt ws 1).toNat % 2 ^ 16) ≠ none) (quota : s.quotaFull fn = false) (index : s.freeIndex = some i)
include domain quota index

theorem regMr_ends (h : s.cmdOf fn 0x0A = some ws) (rights : bits (wordAt ws 1) 16 8 < 32) (some_ : 0 < (wordAt ws 3).toNat)
    (small : (wordAt ws 3).toNat ≤ 2 ^ 48) (place : (wordAt ws 1).getLsbD 24 = true → s.inUse 6 (wordAt ws 4).toNat (wordAt ws 3).toNat = true)
    {u : State} (made : s.newKey i {
      kind := 1, rights := bits (wordAt ws 1) 16 8, store := (wordAt ws 1).getLsbD 24, pd := (wordAt ws 1).toNat % 2 ^ 16,
      fn := fn, base := (wordAt ws 2).toNat, length := (wordAt ws 3).toNat,
      storeAddr := if (wordAt ws 1).getLsbD 24 then (wordAt ws 4).toNat else 0 } = u) :
    exec (.regMr fn) s = .next (u.cmdDone fn 0 (u.keyOf i)) := by
  have lies : ¬((bit (wordAt ws 1) 24 && !s.inUse 6 (wordAt ws 4).toNat (wordAt ws 3).toNat) = true) := by
    rw [Bool.and_eq_true, Bool.not_eq_true']
    exact fun bad => ne_true_of_eq_false bad.2 (place bad.1)
  have still : s.still u := by rw [← made]; exact newKey_parts ..
  rw [exec_regMr, execRegMr, s.clocked_runs clocks, runCmd_runs h]
  dsimp only
  rw [if_neg (by omega), if_neg (by rw [Option.isNone_iff_eq_none]; exact domain), if_neg lies, if_neg (ne_true_of_eq_false quota), index]
  dsimp only
  rw [← settle_done quiet still]
  subst made
  rfl

theorem allocWindow_ends (h : s.cmdOf fn 0x0C = some ws) {u : State}
    (made : s.newKey i { kind := 2, pd := (wordAt ws 1).toNat % 2 ^ 16, fn := fn } = u) :
    exec (.allocWindow fn) s = .next (u.cmdDone fn 0 (u.keyOf i)) := by
  have still : s.still u := by rw [← made]; exact newKey_parts ..
  rw [exec_allocWindow, execAllocWindow, s.clocked_runs clocks, runCmd_runs h]
  dsimp only
  rw [if_neg (by omega), if_neg (by rw [Option.isNone_iff_eq_none]; exact domain), if_neg (ne_true_of_eq_false quota), index]
  dsimp only
  rw [← settle_done quiet still]
  subst made
  rfl

end

section
variable {k : Nat} (key : bits (wordAt ws 1) 0 32 = k)
include key

omit quiet clocks object key in
theorem waitForKey_quiet {u : State} (fn i : Nat) (quiet : u.quiet = true) : (u.waitForKey fn i).quiet = true := quiet

/-- A region that is deregistered is revoked; it is free at once, or its command waits for the accesses under way. -/
theorem deregMr_ends (h : s.cmdOf fn 0x0B = some ws) (case_ : s.keyCase fn k 1 = none) (bound : s.hasBound (keyIndex k) = false)
    (draining : (s.key (keyIndex k)).draining = false) (revoked : (s.key (keyIndex k)).revoked = false) {v u : State}
    (begun : s.revoke (keyIndex k) = v) (marked : v.setKey (keyIndex k) { v.key (keyIndex k) with revoked := true } = u) :
    ((s.key (keyIndex k)).inUse = 0 → exec (.deregMr fn) s = .next ((u.freeKey (keyIndex k)).cmdDone fn 0))
    ∧ ((s.key (keyIndex k)).inUse ≠ 0 → exec (.deregMr fn) s = .next (u.waitForKey fn (keyIndex k))) := by
  have before : (v.key (keyIndex k)).inUse = (s.key (keyIndex k)).inUse := by rw [← begun]; exact revoke_inUse ..
  have uses : (u.key (keyIndex k)).inUse = (s.key (keyIndex k)).inUse := by rw [← marked, key_setKey_same]; exact before
  have still : s.still u := by
    rw [← marked, ← begun]
    exact ⟨(setKey_tp ..).trans (revoke_tp ..), (setKey_mt ..).trans (revoke_mt ..), (setKey_sw ..).trans (revoke_sw ..)⟩
  obtain ⟨tp, mt, sw⟩ := still
  have fresh : ¬((s.key (keyIndex k)).draining = true ∨ (s.key (keyIndex k)).revoked = true) := by rw [draining, revoked]; decide
  rw [exec_deregMr, execDeregMr, s.clocked_runs clocks, runCmd_runs h]
  dsimp only
  rw [if_neg (by omega), key, case_]
  dsimp only
  rw [if_neg (ne_true_of_eq_false bound), if_neg fresh, begun, marked]
  refine ⟨fun none_ => ?_, fun some_ => ?_⟩
  · obtain ⟨tp_, mt_, sw_⟩ := freeKey_parts u (keyIndex k)
    rw [if_pos (uses.trans none_), settle_done quiet ⟨tp_.trans tp, mt_.trans mt, sw_.trans sw⟩]
    rfl
  · rw [if_neg (by rw [uses]; exact some_), settle_quiet _ (waitForKey_quiet fn (keyIndex k) (quiet_of quiet (by rw [tp]) (by rw [tp]) (by rw [mt]) sw))]

omit key in
theorem deregMr_refused (key : bits (wordAt ws 1) 0 32 = k) (h : s.cmdOf fn 0x0B = some ws) (case_ : s.keyCase fn k 1 = none)
    (bound : s.hasBound (keyIndex k) = true) : exec (.deregMr fn) s = .next (s.cmdDone fn 0x12) := by
  rw [exec_deregMr, execDeregMr, s.clocked_runs clocks, runCmd_runs h]
  dsimp only
  rw [if_neg (by omega), key, case_]
  dsimp only
  rw [if_pos bound, settle_done quiet ⟨rfl, rfl, rfl⟩]
  rfl

theorem freeWindow_ends (h : s.cmdOf fn 0x0D = some ws) (case_ : s.keyCase fn k 2 = none) (bound : (s.key (keyIndex k)).bound = false)
    (draining : (s.key (keyIndex k)).draining = false) {u : State}
    (raised : s.setKey (keyIndex k) { s.key (keyIndex k) with generation := nextGen (s.key (keyIndex k)).generation } = u) :
    exec (.freeWindow fn) s = .next ((u.freeKey (keyIndex k)).cmdDone fn 0) := by
  obtain ⟨tp, mt, sw⟩ := freeKey_parts u (keyIndex k)
  have still : s.still (u.freeKey (keyIndex k)) := by
    rw [← raised] at tp mt sw ⊢
    exact ⟨tp.trans (setKey_tp ..), mt.trans (setKey_mt ..), sw.trans (setKey_sw ..)⟩
  have free : ¬((s.key (keyIndex k)).bound = true ∨ (s.key (keyIndex k)).draining = true) := by rw [bound, draining]; decide
  rw [exec_freeWindow, execFreeWindow, s.clocked_runs clocks, runCmd_runs h]
  dsimp only
  rw [if_neg (by omega), key, case_]
  dsimp only
  rw [if_neg free, raised, settle_done quiet still]
  rfl

theorem freeWindow_refused (h : s.cmdOf fn 0x0D = some ws) (case_ : s.keyCase fn k 2 = none) (bound : (s.key (keyIndex k)).bound = true) :
    exec (.freeWindow fn) s = .next (s.cmdDone fn 0x12) := by
  rw [exec_freeWindow, execFreeWindow, s.clocked_runs clocks, runCmd_runs h]
  dsimp only
  rw [if_neg (by omega), key, case_]
  dsimp only
  rw [if_pos (.inl bound), settle_done quiet ⟨rfl, rfl, rfl⟩]
  rfl

end

end

/-- Settles O23: each command by its lemma. -/
theorem regionAndWindowCommands : Obligations.RegionAndWindowCommands := by
  unfold Obligations.RegionAndWindowCommands
  intro s fn i ws quiet clocks object pd rights store base len a k e ends
  have rightsOf : rights = bits (wordAt ws 1) 16 8 := (bits_div _ _ _).symm
  rw [rightsOf]
  refine ⟨fun domain quota index => ⟨fun h few some_ small place => ?_, fun h => ?_⟩, fun h case_ bound draining revoked => ?_, fun h case_ bound => ?_,
    fun h case_ bound draining => ?_, fun h case_ bound => ?_⟩
  · exact regMr_ends quiet clocks object domain (by simpa using quota) index h few some_ small place rfl
  · exact allocWindow_ends quiet clocks object domain (by simpa using quota) index h rfl
  · have kept : s.hasBound (keyIndex k) = false := by simpa using bound
    have free : e.draining = false := by simpa using draining
    have fresh : e.revoked = false := by simpa using revoked
    exact deregMr_ends quiet clocks object rfl h case_ kept free fresh rfl rfl
  · exact deregMr_refused quiet clocks object rfl h case_ bound
  · have kept : e.bound = false := by simpa using bound
    have free : e.draining = false := by simpa using draining
    exact freeWindow_ends quiet clocks object rfl h case_ kept free rfl
  · exact freeWindow_refused quiet clocks object rfl h case_ bound

end Sys2Proof.Machine

/-! PROOFS. Invalidations of translations, and the end of commands by time (R46, R398, R399). -/

namespace Sys2Proof.Machine

section
variable {s : State}

theorem bits_of_false {w : Word} {k : Nat} (clear : w.getLsbD k = false) : ¬bit w k = true := ne_true_of_eq_false clear

/-- An invalidation, its entries gone in `u`, completes or waits. -/
theorem invalidate_eq (fn ctx va n : Nat) (whole : Bool) {u : State}
    (begun : (if whole then (s.awaitHolders ctx va n).discardContext ctx else (s.awaitHolders ctx va n).discardRange ctx va n) = u) :
    s.invalidate fn ctx va n whole = if u.drained (s.holders ctx va n) then u.cmdDone fn 0
      else u.setFunc fn { u.func fn with cmd := (u.func fn).cmd.map fun c => { c with waitInv := some (s.holders ctx va n) } } := by
  subst begun
  rfl

theorem discard_still (fn ctx va n : Nat) : s.still ((s.awaitHolders ctx va n).discardContext ctx)
    ∧ s.still ((s.awaitHolders ctx va n).discardRange ctx va n) := ⟨⟨rfl, rfl, rfl⟩, rfl, rfl, rfl⟩

/-- What an invalidation that has discarded its entries comes to. -/
theorem invalidate_ends (quiet : s.quiet = true) (fn ctx va n : Nat) (whole : Bool) {u : State} (same : s.still u)
    (begun : (if whole then (s.awaitHolders ctx va n).discardContext ctx else (s.awaitHolders ctx va n).discardRange ctx va n) = u) :
    (u.drained (s.holders ctx va n) = true → settle (s.invalidate fn ctx va n whole) = u.cmdDone fn 0)
    ∧ (¬u.drained (s.holders ctx va n) = true → settle (s.invalidate fn ctx va n whole) = u.setFunc fn { s.func fn with
        cmd := (s.func fn).cmd.map fun c => { c with waitInv := some (s.holders ctx va n) } }) := by
  have func : u.func fn = s.func fn := by rw [State.func, same.1]; rfl
  rw [invalidate_eq fn ctx va n whole begun]
  refine ⟨fun ended => ?_, fun held => ?_⟩
  · rw [if_pos ended, settle_done quiet same]
  · rw [if_neg held, func]
    exact settle_quiet _ (quiet_of quiet (congrArg (·.todo) same.1) (congrArg (·.writes) same.1) (congrArg (·.unexp) same.2.1) same.2.2)

section
variable {fn ctx : Nat} {ws : List Word} (quiet : s.quiet = true) (clocks : s.clocks) (h : s.cmdOf fn 0x12 = some ws)
  (object : cmdObject ws % 65536 = 0) (context : invContext fn (cmdObject ws) = some ctx)
include quiet clocks h object context

theorem invXltContext_ends (scope : (wordAt ws 1).getLsbD 0 = false) {u : State}
    (begun : (s.awaitHolders ctx 0 (2 ^ 57)).discardContext ctx = u) :
    (u.drained (s.holders ctx 0 (2 ^ 57)) = true → exec (.invXltContext fn) s = .next (u.cmdDone fn 0))
    ∧ (¬u.drained (s.holders ctx 0 (2 ^ 57)) = true → exec (.invXltContext fn) s = .next (u.setFunc fn { s.func fn with
        cmd := (s.func fn).cmd.map fun c => { c with waitInv := some (s.holders ctx 0 (2 ^ 57)) } })) := by
  have run : exec (.invXltContext fn) s = .next (settle (s.invalidate fn ctx 0 (2 ^ 57) true)) := by
    rw [exec_invXltContext, execInvXltContext, s.clocked_runs clocks, h]
    dsimp only
    rw [if_neg (bits_of_false scope), runCmd_runs h, if_neg (not_not.2 object), context]
  rw [run]
  have same : s.still u := by rw [← begun]; exact (discard_still fn ctx 0 (2 ^ 57)).1
  obtain ⟨done, waits⟩ := invalidate_ends quiet fn ctx 0 (2 ^ 57) true same begun
  exact ⟨fun ended => congrArg _ (done ended), fun held => congrArg _ (waits held)⟩

theorem invXltRange_ends {va n : Nat} (at_ : bits (wordAt ws 2) 0 57 = va) (long : bits (wordAt ws 3) 0 58 = n)
    (scope : (wordAt ws 1).getLsbD 0 = true) (some_ : 0 < n) (small : n ≤ 2 ^ 57) (inside : va + n ≤ 2 ^ 57) {u : State}
    (begun : (s.awaitHolders ctx va n).discardRange ctx va n = u) :
    (u.drained (s.holders ctx va n) = true → exec (.invXltRange fn) s = .next (u.cmdDone fn 0))
    ∧ (¬u.drained (s.holders ctx va n) = true → exec (.invXltRange fn) s = .next (u.setFunc fn { s.func fn with
        cmd := (s.func fn).cmd.map fun c => { c with waitInv := some (s.holders ctx va n) } })) := by
  have ranged : ¬(!bit (wordAt ws 1) 0) = true := by rw [show bit (wordAt ws 1) 0 = true from scope]; decide
  have run : exec (.invXltRange fn) s = .next (settle (s.invalidate fn ctx va n false)) := by
    rw [exec_invXltRange, execInvXltRange, s.clocked_runs clocks, h]
    dsimp only
    rw [if_neg ranged, runCmd_runs h, at_, long, if_neg (by omega), context]
  rw [run]
  have same : s.still u := by rw [← begun]; exact (discard_still fn ctx va n).2
  obtain ⟨done, waits⟩ := invalidate_ends quiet fn ctx va n false same begun
  exact ⟨fun ended => congrArg _ (done ended), fun held => congrArg _ (waits held)⟩

end

section
variable {fn : Nat} {c : Cmd} (clocks : s.clocks) (busy : (s.func fn).cmd = some c)
include clocks busy

theorem xltInvalidationDrain_ends {w : List Nat × List (Nat × Nat)} (waits : c.waitInv = some w) (ended : s.drained w = true) :
    exec (.xltInvalidationDrain fn) s = .next (s.cmdDone fn 0) := by
  have wait : (s.func fn).cmd.bind (·.waitInv) = some w := by rw [busy]; exact waits
  rw [exec_xltInvalidationDrain, execXltInvalidationDrain, s.clocked_runs clocks, wait]
  exact if_pos ended

theorem commandTimeExpiry_unread (read : c.read = false) : exec (.commandTimeExpiry fn) s = .next (s.cmdDone fn 0x0D 13) := by
  rw [exec_commandTimeExpiry, execCommandTimeExpiry, s.clocked_runs clocks, busy]
  exact if_pos (by rw [read]; rfl)

/-- The time of a command that has been read, by what it waits for. -/
theorem commandTimeExpiry_read (read : c.read = true) : exec (.commandTimeExpiry fn) s =
    if c.waitKey.isSome ∨ c.waitInv.isSome then .next (s.cmdDone fn 0x12 1)
    else if cmdCode c.words = 0x0E then .next ((s.forgetAccesses (· == .command fn)).cmdDone fn 0x0D 13)
    else if cmdCode c.words = 0x07 ∧ ((s.qpnOf fn (cmdObject c.words)).bind s.qp).any (·.resetting) then .next (s.cmdDone fn 0x12)
    else .next s := by
  rw [exec_commandTimeExpiry, execCommandTimeExpiry, s.clocked_runs clocks, busy]
  exact if_neg (by rw [read]; decide)

end

end

/-- Settles O25: each command by its lemma. -/
theorem invalidationsAndCommandTimes : Obligations.InvalidationsAndCommandTimes := by
  unfold Obligations.InvalidationsAndCommandTimes
  intro s fn ctx ws w c clocks va n f
  have start : bits (wordAt ws 2) 0 57 = va := (bits_div ..).trans (by rw [Nat.pow_zero, Nat.div_one])
  have long : bits (wordAt ws 3) 0 58 = n := (bits_div ..).trans (by rw [Nat.pow_zero, Nat.div_one])
  refine ⟨fun quiet h object context => ⟨fun scope => ?_, fun scope some_ small inside => ?_⟩, fun busy waits ended => ?_, fun busy read => ?_,
    fun busy read waits => ?_, fun busy read keyless free => ⟨fun image => ?_, fun m q modify named there resetting => ?_⟩⟩
  · exact invXltContext_ends quiet clocks h object context scope rfl
  · exact invXltRange_ends quiet clocks h object context start long scope some_ small inside rfl
  · exact xltInvalidationDrain_ends clocks busy waits ended
  · exact commandTimeExpiry_unread clocks busy read
  · rw [commandTimeExpiry_read clocks busy read]
    exact if_pos (waits.imp Option.isSome_iff_ne_none.2 Option.isSome_iff_ne_none.2)
  · rw [commandTimeExpiry_read clocks busy read, if_neg (by rw [keyless, free]; decide)]
    exact if_pos image
  · have still : ((s.qpnOf fn (cmdObject c.words)).bind s.qp).any (·.resetting) = true := by rw [named, Option.bind_some, there]; exact resetting
    rw [commandTimeExpiry_read clocks busy read, if_neg (by rw [keyless, free]; decide), if_neg (by rw [modify]; decide)]
    exact if_pos ⟨modify, still⟩

end Sys2Proof.Machine

/-! PROOFS. Handlers, shapers and policers (R145, R293, R294, R296, R351, R352). -/

namespace Sys2Proof.Machine

/-- An index of a queue pair command names its queue pair. -/
theorem runQpCmd_runs {s : State} {fn cmd n : Nat} {ws : List Word} {q : Qp} {f : List Word → Nat → Qp → State} (h : s.cmdOf fn cmd = some ws)
    (index : idxOk fn (cmdObject ws) = true) (named : s.qpnOf fn (cmdObject ws) = some n) (there : s.qp n = some q) :
    s.runQpCmd fn cmd f = .next (settle (f ws n q)) := by
  have found : (s.qpnOf fn (cmdObject ws)).bind (fun n => (s.qp n).map fun q => (n, q)) = some (n, q) := by
    rw [named, Option.bind_some, there]
    rfl
  rw [State.runQpCmd, runCmd_runs h]
  rw [if_neg (by rw [index]; decide), found]

/-- The reads of a command leave the device and go out, and change nothing else. -/
theorem hostReads_out (link : Nat) (ps : List (Nat × Nat)) (u : State) :
    ∃ o, ps.foldl (fun s p => s.emit (.hostRead link p.1 p.2 s.tp.nextId)) u = { u with out := o } := by
  induction ps generalizing u with
  | nil => exact ⟨u.out, rfl⟩
  | cons p ps ih =>
    obtain ⟨o, first⟩ : ∃ o, u.emit (.hostRead link p.1 p.2 u.tp.nextId) = { u with out := o } := by
      unfold State.emit
      split
      · exact ⟨u.out, rfl⟩
      · exact ⟨_, rfl⟩
    obtain ⟨o', rest⟩ := ih { u with out := o }
    exact ⟨o', by rw [List.foldl_cons, first, rest]⟩

/-- A list with fewer entries than numbers leaves one of them out. -/
theorem open_index (l : List Nat) (few : l.length < 1023) : 0 < (((List.range 1024).drop 1).filter fun i => !l.contains i).length := by
  rw [List.length_pos_iff]
  intro none_
  have all : (List.range 1024).drop 1 ⊆ l := fun i mem => by
    by_contra out
    have kept : i ∈ ((List.range 1024).drop 1).filter fun i => !l.contains i := List.mem_filter.2 ⟨mem, by simpa using out⟩
    rw [none_] at kept
    cases kept
  have fits := (List.nodup_range.sublist (List.drop_sublist 1 (List.range 1024))).subperm all |>.length_le
  rw [List.length_drop, List.length_range] at fits
  omega

theorem open_index_mem {l : List Nat} (few : l.length < 1023) (k : Nat) :
    let j := (((List.range 1024).drop 1).filter fun i => !l.contains i).getD
      (k % (((List.range 1024).drop 1).filter fun i => !l.contains i).length) 1
    1 ≤ j ∧ j ≤ 1023 ∧ j ∉ l := by
  intro j
  have some_ := open_index l few
  have mem : j ∈ ((List.range 1024).drop 1).filter fun i => !l.contains i := by
    have lt := Nat.mod_lt k some_
    rw [show j = _ from List.getD_eq_getElem _ _ lt]
    exact List.getElem_mem _
  obtain ⟨range, out⟩ := List.mem_filter.1 mem
  obtain ⟨i, small, at_⟩ := List.mem_iff_getElem.1 range
  rw [List.getElem_drop, List.getElem_range] at at_
  rw [List.length_drop, List.length_range] at small
  exact ⟨by omega, by omega, by simpa using out⟩

/-- STATUS and RESULT of a command that has ended. -/
theorem cmdDone_shows (s : State) {fn st res : Nat} (status : st < 2 ^ 8) (result : res < 2 ^ 32) :
    (s.cmdDone fn st res).rd Reg.TPT_CMD_CTRL_STATUS fn = st ∧ (s.cmdDone fn st res).rd Reg.TPT_CMD_CTRL_RESULT fn = res := by
  constructor
  · exact ((rd_wr_beside _ _ _ _ (by decide)).trans (rd_wr_same _ _ _ _ _ (by decide))).trans (Nat.mod_eq_of_lt status)
  · exact (rd_wr_same _ _ _ _ _ (by decide)).trans (Nat.mod_eq_of_lt result)

/-- The functions after a command has ended: its own has no command. -/
theorem cmdDone_func (s : State) (fn st res : Nat) : (s.cmdDone fn st res).func fn = { s.func fn with cmd := none } := by
  rw [State.cmdDone, func_setFunc_same]
  rfl

/-- The handler of a REG_HANDLER block with an image (R145, R350). -/
def handlerOf (fn : Nat) (ws : List Word) (b : List Byte) : Handler := {
  fn := fn, pd := bits (wordAt ws 1) 0 16, code := codeWords ((imageLens b).1 / 4) (b.drop 64)
  rodata := (b.drop (64 + (imageLens b).1)).take (imageLens b).2.1, entry := (imageLens b).2.2.1
  keys := [bits (wordAt ws 4) 0 32, bits (wordAt ws 4) 32 32, bits (wordAt ws 5) 0 32, bits (wordAt ws 5) 32 32] }

/-- A function with one more handler, under an index that it drew. -/
def State.install (s : State) (fn i : Nat) (old : List Nat) (x : Handler) : State :=
  let u := s.takeFree.setFunc fn { s.func fn with handlers := i :: old }
  { u with mt := { u.mt with handlers := mset u.mt.handlers (handlerKey fn i) x } }

theorem install_func (s : State) (fn i : Nat) (old : List Nat) (x : Handler) : ((s.install fn i old x).func fn).handlers = i :: old :=
  congrArg Func.handlers (func_setFunc_same s.takeFree fn { s.func fn with handlers := i :: old })

theorem install_handler (s : State) (fn i : Nat) (old : List Nat) (x : Handler) :
    mget (s.install fn i old x).mt.handlers (handlerKey fn i) = some x := mget_mset_same _ _ _

section
variable {s : State} {fn : Nat} {ws : List Word} (quiet : s.quiet = true) (clocks : s.clocks)
include clocks

/-- A handler whose image passes its checks is installed under the index `i`. -/
theorem regHandler_ends {v : State} {b : List Byte} {ps : List (Nat × Nat)} {se : List Bool} {c : Nat × Nat} {len i : Nat} (h : s.cmdOf fn 0x0E = some ws)
    (object : cmdObject ws = 0) (long : bits (wordAt ws 3) 0 32 = len) (low : 64 ≤ len) (high : len ≤ 262144)
    (domain : mget (s.func fn).pds (bits (wordAt ws 1) 0 16) ≠ none) (scratch : s.scratch = true) (few : (s.func fn).handlers.length < 1023)
    (room : s.mt.handlers.length < 16384)
    (image : s.translate (.command fn) fn (wordAt ws 2).toNat len accRead = (v, .ok ps se c)) (calm : v.quiet = true)
    (sound : v.imageFault len b = none)
    (index : (((List.range 1024).drop 1).filter fun i => !(s.func fn).handlers.contains i).getD
      (v.freeVal % (((List.range 1024).drop 1).filter fun i => !(s.func fn).handlers.contains i).length) 1 = i) :
    ∃ u : State, exec (.regHandler fn (.data b)) s = .next ((u.install fn i (s.func fn).handlers (handlerOf fn ws b)).cmdDone fn 0 i) := by
  obtain ⟨o, reads⟩ := hostReads_out (fn / 256) ps v.newId
  have fault : ({ v.newId with out := o } : State).imageFault len b = none := sound
  have bounds : ¬(cmdObject ws ≠ 0 ∨ len < 64 ∨ 262144 < len) := by omega
  have space : ¬((!s.scratch) = true ∨ 1023 ≤ (s.func fn).handlers.length ∨ 16384 ≤ s.mt.handlers.length) := by
    rw [scratch]
    simpa using ⟨few, room⟩
  refine ⟨{ v.newId with out := o }, ?_⟩
  rw [exec_regHandler, execRegHandler, s.clocked_runs clocks, runCmd_runs h]
  dsimp only
  rw [long, if_neg bounds, if_neg (by rw [Option.isNone_iff_eq_none]; exact domain), if_neg space, image]
  dsimp only
  rw [reads]
  dsimp only [State.linkLogs]
  rw [fault]
  dsimp only
  rw [← index]
  exact congrArg _ (settle_cmdDone calm (u := State.install { v.newId with out := o } fn _ _ _) fn 0 _ rfl rfl rfl rfl)

include quiet

theorem deregHandler_ends (h : s.cmdOf fn 0x0F = some ws) (low : 1 ≤ cmdObject ws) (high : cmdObject ws ≤ 1023) :
    ((s.func fn).handlers.contains (cmdObject ws) = true → s.handlerUsed fn (cmdObject ws) = false → exec (.deregHandler fn) s
      = .next (({ s.setFunc fn { s.func fn with handlers := (s.func fn).handlers.filter (· != cmdObject ws) } with
          mt := { s.mt with handlers := mdel s.mt.handlers (1024 * fn + cmdObject ws) } } : State).cmdDone fn 0))
    ∧ (s.handlerUsed fn (cmdObject ws) = true → exec (.deregHandler fn) s = .next (s.cmdDone fn 0x12)) := by
  rw [exec_deregHandler, execDeregHandler, s.clocked_runs clocks, runCmd_runs h]
  dsimp only
  rw [if_neg (by omega)]
  refine ⟨fun there unused => ?_, fun used => ?_⟩
  · rw [if_neg (by rw [there, unused]; decide), settle_cmdDone quiet]
    all_goals rfl
  · rw [if_pos (.inr used), settle_cmdDone quiet]
    all_goals rfl

theorem setShaper_ends {n rate pre burst : Nat} {q : Qp} (h : s.cmdOf fn 0x10 = some ws) (index : idxOk fn (cmdObject ws) = true)
    (named : s.qpnOf fn (cmdObject ws) = some n) (there : s.qp n = some q) (rates : bits (wordAt ws 1) 0 20 = rate)
    (colour : bits (wordAt ws 1) 20 2 = pre) (depth : bits (wordAt ws 2) 0 24 = burst) (slow : rate ≤ 1000000) (legal : pre ≠ 3)
    (deep : 4160 ≤ burst) (live : q.st ≠ .reset) :
    exec (.setShaper fn) s = .next ((s.setQp n { q with
      precolour := pre, shaper := { q.shaper.refill s.time with rate := rate, burst := burst, tokens := min (q.shaper.refill s.time).tokens burst }
      }).cmdDone fn 0) := by
  rw [exec_setShaper, execSetShaper, s.clocked_runs clocks, runQpCmd_runs h index named there]
  dsimp only
  rw [rates, colour, depth, if_neg (by omega), if_neg live, settle_cmdDone quiet]
  all_goals rfl

section
variable {rate pir cbs pbs : Nat} (rates : bits (wordAt ws 1) 0 20 = rate) (peaks : bits (wordAt ws 1) 20 20 = pir)
  (depth : bits (wordAt ws 2) 0 32 = cbs) (peakDepth : bits (wordAt ws 2) 32 32 = pbs) (some_ : 0 < rate) (order : rate ≤ pir)
  (slow : pir ≤ 1000000) (deep : 4160 ≤ cbs) (deepPeak : 4160 ≤ pbs)
include rates peaks depth peakDepth some_ order slow deep deepPeak

theorem setPolicer_ends {p : Policer} {g : Nat} {fill : Bool} (h : s.cmdOf fn 0x11 = some ws) (physical : fn % 256 = 0)
    (target : fn + cmdObject ws / 65536 = g) (domain : mget (s.func g).pds (cmdObject ws % 65536) = some p)
    (fills : (bit (wordAt ws 1) 40 && !p.enable) = fill) :
    exec (.setPolicer fn) s = .next ((s.setFunc g { s.func g with pds := mset (s.func g).pds (cmdObject ws % 65536) {
      enable := bit (wordAt ws 1) 40, aware := bit (wordAt ws 1) 41, mark := bit (wordAt ws 1) 42,
      tc := p.tc.reset rate cbs s.time fill, tp := p.tp.reset pir pbs s.time fill } }).cmdDone fn 0) := by
  rw [exec_setPolicer, execSetPolicer, s.clocked_runs clocks, runCmd_runs h]
  dsimp only
  rw [rates, peaks, depth, peakDepth, target, if_neg (by omega), if_neg (not_not.2 physical), domain]
  dsimp only
  rw [fills, settle_cmdDone quiet]
  all_goals rfl

theorem setPolicer_virtual (h : s.cmdOf fn 0x11 = some ws) (virtual : fn % 256 ≠ 0) :
    exec (.setPolicer fn) s = .next (s.cmdDone fn 0x12) := by
  rw [exec_setPolicer, execSetPolicer, s.clocked_runs clocks, runCmd_runs h]
  dsimp only
  rw [rates, peaks, depth, peakDepth, if_neg (by omega), if_pos virtual, settle_cmdDone quiet]
  all_goals rfl

end

end

theorem bits_from0 (v : Word) (w : Nat) : bits v 0 w = v.toNat % 2 ^ w := by rw [bits_div, Nat.pow_zero, Nat.div_one]

theorem bits_high (v : Word) : bits v 32 32 = v.toNat / 2 ^ 32 := by
  rw [bits_div]
  exact Nat.mod_eq_of_lt (Nat.div_lt_of_lt_mul v.isLt)

/-- Settles O24: each command by its lemma; some index is open since fewer than 1,023 are taken. -/
theorem handlerAndRateCommands : Obligations.HandlerAndRateCommands := by
  unfold Obligations.HandlerAndRateCommands
  refine ⟨fun s v fn ws b ps se c quiet clocks => ?_, fun s fn n ws q p quiet clocks => ?_⟩
  · intro f pd len i
    have domainOf : bits (wordAt ws 1) 0 16 = pd := bits_from0 ..
    refine ⟨fun h object low high domain scratch few room image calm sound => ?_, fun h low high => ?_⟩
    · rw [← domainOf] at domain ⊢
      obtain ⟨lower, upper, fresh⟩ := open_index_mem few v.freeVal
      obtain ⟨u, done⟩ := regHandler_ends clocks h object (bits_from0 ..) low high domain scratch few room image calm sound rfl
      obtain ⟨status, result⟩ := cmdDone_shows (u.install fn _ f.handlers (handlerOf fn ws b)) (fn := fn) (st := 0) (by decide)
        (show _ < 2 ^ 32 from upper.trans_lt (by decide))
      refine ⟨_, _, handlerOf fn ws b, done, lower, upper, fresh, ?_, install_handler .., rfl, rfl, rfl, status, result⟩
      rw [cmdDone_func]
      exact install_func ..
    · obtain ⟨free, bad⟩ := deregHandler_ends quiet clocks h low high
      exact ⟨fun there unused => free there (by simpa using unused), bad⟩
  · intro rate old pre burst pir cbs pbs b g pd fill
    refine ⟨fun h index named there slow legal deep live => ?_, fun h some_ order slow deep deepPeak => ⟨fun physical domain => ?_, fun virtual => ?_⟩⟩
    · exact setShaper_ends quiet clocks h index named there (bits_from0 ..) (bits_div ..) (bits_from0 ..) slow legal deep live
    · exact setPolicer_ends quiet clocks (bits_from0 ..) (bits_div ..) (bits_from0 ..) (bits_high _) some_ order slow deep deepPeak h physical rfl domain rfl
    · exact setPolicer_virtual quiet clocks (bits_from0 ..) (bits_div ..) (bits_from0 ..) (bits_high _) some_ order slow deep deepPeak h virtual

end Sys2Proof.Machine

/-! PROOFS. The handshake, the start of a command, its block, and its completion (R42, R43, R46). -/

namespace Sys2Proof.Machine

section
variable (s : State) (fn : Nat)

/-- The handshake on each of its paths. -/
theorem abiGo_cases :
    let answer (u : State) (st : Nat) : State := (u.wr Reg.TPT_ABI_STATUS_STATUS st fn).wr Reg.TPT_ABI_STATUS_DONE 1 fn
    let m := min (s.rd Reg.TPT_ABI_REQUEST_MINOR fn) 3
    ((s.func fn).holdsObjects = true → s.abiGo fn = answer s 0x12)
    ∧ ((s.func fn).holdsObjects = false → s.rd Reg.TPT_ABI_REQUEST_MAJOR fn ≠ 2 → s.abiGo fn = answer s 0x0E)
    ∧ ((s.func fn).holdsObjects = false → s.rd Reg.TPT_ABI_REQUEST_MAJOR fn = 2 → s.abiGo fn = answer
        (((s.setFunc fn { s.func fn with major := 2, minor := m }).wr Reg.TPT_ABI_STATUS_MAJOR 2 fn).wr Reg.TPT_ABI_STATUS_MINOR m fn) 0) := by
  refine ⟨fun holds => ?_, fun holds other => ?_, fun holds two => ?_⟩
  · exact if_pos holds
  · exact (if_neg (ne_true_of_eq_false holds)).trans (if_pos other)
  · exact (if_neg (ne_true_of_eq_false holds)).trans (if_neg (not_not.2 two))

theorem cmdGo_overlaps (busy : s.on Reg.TPT_CMD_CTRL_BUSY fn = true) :
    s.cmdGo fn = s.tally Reg.TPT_VIOLATION_CMD_OVERLAP 0x1C3 0 (some (fn, 0)) := if_pos busy

/-- The state with a command of the function under way. -/
def State.begunCmd : State :=
  let u := (s.wr Reg.TPT_CMD_CTRL_BUSY 1 fn).wr Reg.TPT_CMD_CTRL_DONE 0 fn
  u.setFunc fn { u.func fn with cmd := some {} }

theorem cmdGo_reads (aligned : s.rd Reg.TPT_CMD_ADDR_ADDR fn % 64 = 0) (free : s.on Reg.TPT_CMD_CTRL_BUSY fn = false) :
    s.cmdGo fn = (s.begunCmd fn).newId.emit (.hostRead (fn / 256) (s.rd Reg.TPT_CMD_ADDR_ADDR fn) 64 s.tp.nextId) := by
  have addr : (s.begunCmd fn).rd Reg.TPT_CMD_ADDR_ADDR fn = s.rd Reg.TPT_CMD_ADDR_ADDR fn :=
    (rd_wr_beside _ _ _ _ (by decide)).trans (rd_wr_beside _ _ _ _ (by decide))
  rw [State.cmdGo, if_neg (ne_true_of_eq_false free)]
  show (if (s.begunCmd fn).rd Reg.TPT_CMD_ADDR_ADDR fn % 64 ≠ 0 then _ else
    (s.begunCmd fn).newId.emit (.hostRead (fn / 256) ((s.begunCmd fn).rd Reg.TPT_CMD_ADDR_ADDR fn) 64 (s.begunCmd fn).tp.nextId)) = _
  rw [addr, if_neg (not_not.2 aligned)]
  rfl

theorem emit_keeps (o : Output) : (s.emit o).regs = s.regs ∧ (s.emit o).tp = s.tp := by
  unfold State.emit
  split <;> exact ⟨rfl, rfl⟩

theorem emit_outside {s : State} (joined : s.bt.isolated = false) (o : Output) : (s.emit o).out = s.out ++ [o] := by
  rw [State.emit, if_neg (by rw [joined]; simp)]

/-- A GO that finds no command reads the block and has one under way. -/
theorem cmdGo_begins (aligned : s.rd Reg.TPT_CMD_ADDR_ADDR fn % 64 = 0) (free : s.on Reg.TPT_CMD_CTRL_BUSY fn = false) :
    (s.cmdGo fn).on Reg.TPT_CMD_CTRL_BUSY fn = true ∧ (s.cmdGo fn).on Reg.TPT_CMD_CTRL_DONE fn = false
    ∧ ((s.cmdGo fn).func fn).cmd = some {}
    ∧ (s.bt.isolated = false → (s.cmdGo fn).out = s.out ++ [.hostRead (fn / 256) (s.rd Reg.TPT_CMD_ADDR_ADDR fn) 64 s.tp.nextId]) := by
  rw [cmdGo_reads s fn aligned free]
  generalize read : (.hostRead (fn / 256) (s.rd Reg.TPT_CMD_ADDR_ADDR fn) 64 s.tp.nextId : Output) = o
  obtain ⟨regs, tp⟩ := emit_keeps (s.begunCmd fn).newId o
  have rd (f : Fld) : ((s.begunCmd fn).newId.emit o).rd f fn = (s.begunCmd fn).rd f fn := by rw [State.rd, State.reg, regs]; rfl
  have busy : (s.begunCmd fn).rd Reg.TPT_CMD_CTRL_BUSY fn = 1 :=
    (rd_wr_beside _ _ _ _ (by decide)).trans (rd_wr_same _ _ _ _ _ (by decide))
  have undone : (s.begunCmd fn).rd Reg.TPT_CMD_CTRL_DONE fn = 0 := rd_wr_same _ _ _ _ _ (by decide)
  refine ⟨?_, ?_, ?_, fun joined => emit_outside (s := (s.begunCmd fn).newId) joined o⟩
  · rw [State.on, rd, busy]
    rfl
  · rw [State.on, rd, undone]
    rfl
  · rw [State.func, tp]
    exact congrArg Func.cmd (func_setFunc_same _ fn _)

end

section
variable {s : State} {fn : Nat} {c : Cmd} (pins : s.pins) (busy : (s.func fn).cmd = some c) (unread : c.read = false)
include pins busy unread

/-- A block that has been read is judged. -/
theorem cmdBlockReadDone_data (b : List Byte) {ws : List Word} (words : toWords 8 (slice b 0 64) = ws) :
    exec (.cmdBlockReadDone fn (.data b)) s = .next (
      if (s.func fn).major = 0 then s.cmdDone fn 0x12
      else if !cmdOk (s.func fn).minor ws then s.cmdDone fn 0x0C
      else s.setFunc fn { s.func fn with cmd := some { c with words := ws, read := true } }) := by
  rw [exec_cmdBlockReadDone, execCmdBlockReadDone, s.atPins_runs pins.1 pins.2, busy]
  dsimp only
  rw [if_neg (ne_true_of_eq_false unread)]
  dsimp only [State.linkLogs]
  rw [words]
  rw [apply_ite Host.Outcome.next, apply_ite Host.Outcome.next]
  rfl

theorem cmdBlockReadDone_fails : exec (.cmdBlockReadDone fn .error) s = .next (s.cmdDone fn 0x0D 14)
    ∧ exec (.cmdBlockReadDone fn .timeout) s = .next ((s.raise (0x2C1 + 8 * (fn / 256)) (2 ^ 14)).cmdDone fn 0x0D 13) := by
  have source : 0x2C0 + 8 * (fn / 256) + 1 = 0x2C1 + 8 * (fn / 256) := by omega
  constructor
  · rw [exec_cmdBlockReadDone, execCmdBlockReadDone, s.atPins_runs pins.1 pins.2, busy]
    exact if_neg (ne_true_of_eq_false unread)
  · rw [exec_cmdBlockReadDone, execCmdBlockReadDone, s.atPins_runs pins.1 pins.2, busy]
    dsimp only [State.linkLogs]
    rw [if_neg (ne_true_of_eq_false unread), source]
    rfl

end

section
variable (s : State) (fn st res : Nat)

theorem cmdDone_ends : (s.cmdDone fn st res).on Reg.TPT_CMD_CTRL_BUSY fn = false ∧ (s.cmdDone fn st res).on Reg.TPT_CMD_CTRL_DONE fn = true := by
  have busy : (s.cmdDone fn st res).rd Reg.TPT_CMD_CTRL_BUSY fn = 0 :=
    (rd_wr_beside _ _ _ _ (by decide)).trans ((rd_wr_beside _ _ _ _ (by decide)).trans ((rd_wr_beside _ _ _ _ (by decide)).trans
      (rd_wr_same _ _ _ _ _ (by decide))))
  have done : (s.cmdDone fn st res).rd Reg.TPT_CMD_CTRL_DONE fn = 1 :=
    (rd_wr_beside _ _ _ _ (by decide)).trans ((rd_wr_beside _ _ _ _ (by decide)).trans (rd_wr_same _ _ _ _ _ (by decide)))
  exact ⟨by rw [State.on, busy]; rfl, by rw [State.on, done]; rfl⟩

/-- The end of a command writes one register. -/
theorem cmdDone_regs {a : Nat} (other : a ≠ Reg.TPT_CMD_CTRL_BUSY.addr fn 0) : mget (s.cmdDone fn st res).regs a = mget s.regs a :=
  (mget_mset_other _ _ _ _ other).trans ((mget_mset_other _ _ _ _ other).trans ((mget_mset_other _ _ _ _ other).trans
    (mget_mset_other _ _ _ _ other)))

theorem cmdDone_func_other {g : Nat} (other : g ≠ fn) : (s.cmdDone fn st res).func g = s.func g := by
  rw [State.cmdDone, func_setFunc_other _ _ _ _ other]
  rfl

end

/-- Settles O20: the handshake, the start, the block and the completion of a command, each by its lemma. -/
theorem commandBlocksOfFunctions : Obligations.CommandBlocksOfFunctions := by
  unfold Obligations.CommandBlocksOfFunctions
  refine ⟨fun s fn => ?_, fun s fn aligned => ⟨fun free => ?_, fun busy => cmdGo_overlaps s fn busy⟩, fun s fn c b pins busy unread => ?_,
    fun s fn st res status result => ?_⟩
  · intro f answers m
    obtain ⟨holds, other, granted⟩ := abiGo_cases s fn
    exact ⟨holds, fun none_ => other (by simpa using none_), fun none_ => granted (by simpa using none_)⟩
  · obtain ⟨busy, undone, cmd, out⟩ := cmdGo_begins s fn aligned free
    exact ⟨_, rfl, busy, undone, cmd, out⟩
  · intro ws f
    have data := cmdBlockReadDone_data pins busy unread b (ws := ws) rfl
    obtain ⟨error, timeout⟩ := cmdBlockReadDone_fails pins busy unread
    refine ⟨fun granted sound => ?_, fun none_ => ?_, fun granted bad => ?_, error, timeout⟩
    · rw [data, if_neg granted, if_neg (by rw [sound]; decide)]
    · rw [data, if_pos none_]
    · rw [data, if_neg granted, if_pos bad]
  · obtain ⟨busy, done⟩ := cmdDone_ends s fn st res
    obtain ⟨shown, value⟩ := cmdDone_shows s (fn := fn) status result
    exact ⟨busy, done, shown, value, cmdDone_func s fn st res, fun g other => cmdDone_func_other s fn st res other,
      fun a other => cmdDone_regs s fn st res other, rfl, rfl, rfl, rfl, rfl, rfl⟩

end Sys2Proof.Machine

/-! PROOFS. A queue pair enters ERROR (R64, R65). -/

namespace Sys2Proof.Machine

/-- A queue pair in ERROR that holds no packet. -/
structure Qp.Down (q : Qp) : Prop where
  st : q.st = .error
  shaped : q.shaped = none
  fins : q.fins = []
  waits : q.waits = []
  conns : ∀ p ∈ q.conns, p.2.track = [] ∧ p.2.latch = none

/-- The queue pair `n` is down, and an event record of the function `fn` waits to be written. -/
def State.Downed (s : State) (n fn : Nat) : Prop := (∃ q, s.qp n = some q ∧ q.Down) ∧ ∃ w ∈ s.tp.writes, w.use = .eq fn

section
variable {s u : State} {n fn : Nat} {q : Qp}

theorem Downed_of_tp (h : s.Downed n fn) (qps : u.tp.qps = s.tp.qps) (writes : u.tp.writes = s.tp.writes) : u.Downed n fn := by
  rw [State.Downed, State.qp, qps, writes]
  exact h

theorem Downed_setQp (h : s.Downed n fn) (down : q.Down) : (s.setQp n q).Downed n fn := by
  obtain ⟨-, event⟩ := h
  exact ⟨⟨q, mget_mset_same _ _ _, down⟩, event⟩

theorem Downed_post (h : s.Downed n fn) (w : PendWrite) : (s.post w).Downed n fn := by
  obtain ⟨down, w', mem, use⟩ := h
  exact ⟨down, w', List.mem_append_left _ mem, use⟩

theorem Downed_foldl {β : Type} {f : State → β → State} (keeps : ∀ v x, v.Downed n fn → (f v x).Downed n fn) (l : List β) (h : s.Downed n fn) :
    (l.foldl f s).Downed n fn := by
  induction l generalizing s with
  | nil => exact h
  | cons x l ih => exact ih (keeps s x h)

theorem sendCompletion_Downed (h : s.Downed n fn) (d : Desc) : (s.sendCompletion n q d).Downed n fn := by
  unfold State.sendCompletion
  split
  · exact h
  · exact Downed_post h _

theorem drainSq_Downed (h : s.Downed n fn) : (s.drainSq n).Downed n fn := by
  obtain ⟨⟨q, there, down⟩, -⟩ := id h
  have drained : ({ q with sq := q.sq.dropWhile (·.st == .done) } : Qp).Down := ⟨down.st, down.shaped, down.fins, down.waits, down.conns⟩
  have running : ¬(q.st = .paused ∧ (!q.pausedSent) = true ∧ (!(q.sq.dropWhile (·.st == .done)).any (·.outstanding)) = true) := by
    rw [down.st]
    exact fun h => nomatch h.1
  rw [State.drainSq, there]
  dsimp only
  rw [if_neg running]
  exact Downed_foldl (fun v d hv => sendCompletion_Downed hv d) _ (Downed_setQp h drained)

theorem completeRecv_Downed (h : s.Downed n fn) (down : q.Down) (r : Recv) : (s.completeRecv n q r).Downed n fn := by
  have silent : (match r.rtsPsn with
    | some psn => if q.st ≠ .error ∧ r.runLast ∧ r.fetched = r.want then [(r.conn, psn, r.fetchOff + r.want, r.outcome)] else []
    | none => []) = [] := by
    split
    · exact if_neg fun h => h.1 down.st
    · rfl
  have rest : ({ q with rq := q.rq.filter (·.id != r.id), fins := q.fins ++ (match r.rtsPsn with
    | some psn => if q.st ≠ .error ∧ r.runLast ∧ r.fetched = r.want then [(r.conn, psn, r.fetchOff + r.want, r.outcome)] else []
    | none => []) } : Qp).Down := ⟨down.st, down.shaped, List.append_eq_nil_iff.2 ⟨down.fins, silent⟩, down.waits, down.conns⟩
  exact Downed_post (Downed_setQp h rest) _

theorem modQp_Downed {f : Qp → Qp} (keeps : ∀ q, q.Down → (f q).Down) (h : s.Downed n fn) : (s.modQp n f).Downed n fn := by
  obtain ⟨⟨q, there, down⟩, -⟩ := id h
  rw [State.modQp, there]
  exact Downed_setQp h (keeps q down)

theorem Qp.Down.withRdone (down : q.Down) (l : List Nat) : ({ q with rdone := l } : Qp).Down :=
  ⟨down.st, down.shaped, down.fins, down.waits, down.conns⟩

theorem drainRqList_Downed (l : List Nat) (h : s.Downed n fn) : (State.drainRqList l n s).Downed n fn := by
  induction l generalizing s with
  | nil => exact modQp_Downed (fun q down => down.withRdone []) h
  | cons i l ih =>
    obtain ⟨⟨q, there, down⟩, -⟩ := id h
    rw [State.drainRqList, there, Option.bind_some]
    cases q.recv i with
    | none => exact ih h
    | some r =>
      have flushing : ¬(r.handled = true ∧ q.st ≠ .error) := fun h => h.2 down.st
      dsimp only [Option.map_some]
      rw [if_neg flushing]
      split
      · exact Downed_setQp h (down.withRdone _)
      · exact ih (completeRecv_Downed h down r)

theorem drainRq_Downed (h : s.Downed n fn) : (s.drainRq n).Downed n fn := by
  obtain ⟨⟨q, there, -⟩, -⟩ := id h
  rw [State.drainRq, there]
  exact drainRqList_Downed _ h

theorem dropRef_tp (s : State) (i : Nat) : (s.dropRef i).tp = s.tp := setKey_tp ..

theorem dropRef_Downed (h : s.Downed n fn) (i : Nat) : (s.dropRef i).Downed n fn :=
  Downed_of_tp h (congrArg (·.qps) (dropRef_tp s i)) (congrArg (·.writes) (dropRef_tp s i))

theorem flushRq_Downed (h : s.Downed n fn) : (s.flushRq n).Downed n fn := by
  obtain ⟨⟨q, there, down⟩, -⟩ := id h
  have dropped : (s.dropMatching n q.fn).Downed n fn := Downed_of_tp h rfl rfl
  rw [State.flushRq, there]
  dsimp only
  split
  · exact dropped
  · refine drainRq_Downed (Downed_setQp (Downed_foldl (fun v r hv => ?_) _ dropped) ⟨down.st, down.shaped, down.fins, down.waits, down.conns⟩)
    split
    · exact dropRef_Downed hv _
    · exact hv

end

/-! ### The way into ERROR -/

/-- A queue pair whose traffic has stopped (R64, R141). -/
def Qp.stopped (q : Qp) : Qp := { q with
  shaped := none, throttled := [], fins := [], waits := [], fetches := [], unexpFull := false
  conns := q.conns.map fun p => (p.1, { p.2 with track := [], latch := none, rxMsgs := [], unplaced := [], ackCount := 0, ackTimer := false }) }

theorem stopTraffic_qp (s : State) (n : Nat) (q : Qp) : (s.stopTraffic n q).qp n = some q.stopped := mget_mset_same _ _ _

theorem stopped_down (q : Qp) (sq : List Desc) (lost : List (Nat × Nat × Nat × Nat)) :
    ({ q.stopped with st := .error, sq := sq, lost := lost } : Qp).Down := by
  refine ⟨rfl, rfl, rfl, rfl, fun p mem => ?_⟩
  obtain ⟨p', -, rfl⟩ := List.mem_map.1 mem
  exact ⟨rfl, rfl⟩

theorem flushRefs_qps (s : State) (l : List Desc) : (s.flushRefs l).tp = s.tp := by
  induction l generalizing s with
  | nil => rfl
  | cons d l ih =>
    have one : (if d.outRef then (if d.localRef ∧ !d.reading then s.dropRef (keyIndex d.lkey) else s).dropRef (keyIndex d.rkey)
        else if d.localRef ∧ !d.reading then s.dropRef (keyIndex d.lkey) else s).tp = s.tp := by
      split <;> split <;> simp only [dropRef_tp]
    exact (ih _).trans one

theorem drives_tp {β : Type} (f : β → Effect) (l : List β) (s : State) :
    (l.foldl (fun s x => s.drive (f x)) s).tp.qps = s.tp.qps := by
  induction l generalizing s with
  | nil => rfl
  | cons x l ih => exact ih (s.drive (f x))

/-- The descriptors that flush change no queue pair. -/
theorem flushing_qp {s : State} {n : Nat} {r : Qp} (l : List Desc) (keep : Nat → Bool) {β : Type} (f : β → Effect) (m : List β) :
    ((m.foldl (fun s x => s.drive (f x)) (((s.setQp n r).flushRefs l).dropPlacements n keep))).qp n = some r := by
  rw [State.qp, drives_tp]
  show mget ((s.setQp n r).flushRefs l).tp.qps n = some r
  rw [flushRefs_qps]
  exact qp_setQp_same s n r

theorem qevent_Downed {s : State} {n : Nat} {r : Qp} (there : s.qp n = some r) (down : r.Down) (fn t st o : Nat) :
    (s.qevent fn t st o).Downed n fn := ⟨⟨r, there, down⟩, _, List.mem_append_right _ (List.mem_singleton_self _), rfl⟩

/-- A queue pair that enters ERROR ends with its send queue and its receives drained, its event posted before. -/
theorem enterError_down (s : State) (n st : Nat) (c : Option Nat) {q : Qp} (there : s.qp n = some q) (live : q.st ≠ .error) (set_ : q.st ≠ .reset) :
    (s.enterError n st c).Downed n q.fn := by
  rw [State.enterError, there]
  dsimp only
  rw [if_neg (not_or.2 ⟨live, set_⟩), stopTraffic_qp]
  exact flushRq_Downed (drainSq_Downed (qevent_Downed (flushing_qp _ _ _ _) (stopped_down q _ _) _ _ _ _))

end Sys2Proof.Machine

/-! PROOFS. The commands on queue pairs (R46, R60 to R64). -/

namespace Sys2Proof.Machine

/-- The queue pair that goes from INIT to READY with its peer. -/
def Qp.joined (q : Qp) (eid peer psn epsn : Nat) : Qp := { q with
  peerEid := eid, peerQpn := peer
  conns := [(connKey eid peer, { peerEid := eid, peerQpn := peer, nextPsn := psn, epsn := epsn })] }

section
variable {s : State} {fn n : Nat} {ws : List Word} {q : Qp} (clocks : s.clocks)
include clocks

theorem createQp_ends {qpn : Nat} {new : Qp} (h : s.cmdOf fn 6 = some ws) (small : qpn < 2 ^ 24) (free : s.qp qpn = none)
    (made : newQp fn qpn ws = new) (sound : createQpOk fn (s.func fn).minor ws = true) (index : mget (s.func fn).qps new.idx = none)
    (domain : mget (s.func fn).pds new.pd ≠ none) (sends : mget (s.func fn).cqs new.sendCq ≠ none)
    (receives : new.rqLog = 0 ∨ mget (s.func fn).cqs new.recvCq ≠ none) (room : s.poolUsed < s.poolSize) :
    exec (.createQp fn qpn) s = .next (settle (((((s.setFunc fn { s.func fn with qps := mset (s.func fn).qps new.idx qpn }).setQp qpn new).touch qpn).ctxShown).cmdDone
      fn 0 qpn)) := by
  have fresh : ¬(2 ^ 24 ≤ qpn ∨ (s.qp qpn).isSome = true) := by
    rw [free]
    exact not_or.2 ⟨by omega, by decide⟩
  have refs : ¬((mget (s.func fn).qps new.idx).isSome = true ∨ (mget (s.func fn).pds new.pd).isNone = true
      ∨ (mget (s.func fn).cqs new.sendCq).isNone = true ∨ new.rqLog ≠ 0 ∧ (mget (s.func fn).cqs new.recvCq).isNone = true) := by
    rw [index, Option.isNone_iff_eq_none, Option.isNone_iff_eq_none, Option.isNone_iff_eq_none]
    exact not_or.2 ⟨by decide, not_or.2 ⟨domain, not_or.2 ⟨sends, fun bad => receives.elim bad.1 fun there => there bad.2⟩⟩⟩
  rw [exec_createQp, execCreateQp, s.clocked_runs clocks, if_neg fresh, runCmd_runs h]
  dsimp only
  rw [made, if_neg (by rw [sound]; decide), if_neg refs, if_neg (by omega)]
  rfl

section
variable (index : idxOk fn (cmdObject ws) = true) (named : s.qpnOf fn (cmdObject ws) = some n) (there : s.qp n = some q)
include index named there

theorem destroyQp_ends (h : s.cmdOf fn 8 = some ws) :
    (q.st = .reset ∨ q.st = .error → exec (.destroyQp fn) s = .next (settle ((s.removeQp n).cmdDone fn 0)))
    ∧ (q.st = .ready → exec (.destroyQp fn) s = .next (settle (s.cmdDone fn 0x12))) := by
  rw [exec_destroyQp, execDestroyQp, s.clocked_runs clocks, runQpCmd_runs h index named there]
  refine ⟨fun stopped => ?_, fun ready => ?_⟩
  · rw [if_pos stopped]
    rfl
  · rw [if_neg (by rw [ready]; decide)]
    rfl

theorem queryQp_ends (h : s.cmdOf fn 9 = some ws) : exec (.queryQp fn) s = .next (settle (s.cmdDone fn 0
    (q.st.code + 256 * if q.shared then 0 else match q.conns with | (_, c) :: _ => c.nextPsn | [] => 0))) := by
  rw [exec_queryQp, execQueryQp, s.clocked_runs clocks, runQpCmd_runs h index named there]
  rfl

section
variable (h : s.cmdOf fn 7 = some ws)
include h

omit clocks in
/-- A MODIFY_QP with a TARGET_STATE runs on its queue pair. -/
theorem runModify_runs {target : Nat} (at_ : (wordAt ws 1).toNat % 8 = target) (f : List Word → Nat → Qp → State) :
    s.runModify fn target f = .next (settle (f ws n q)) := by
  have state : bits (wordAt ws 1) 0 3 = target := (bits_from0 _ _).trans at_
  rw [State.runModify, h]
  dsimp only
  rw [if_pos state, runQpCmd_runs h index named there]

theorem modifyQpInit_ends (at_ : (wordAt ws 1).toNat % 8 = 1) :
    exec (.modifyQpInit fn) s = .next (settle (if q.st = .reset then (s.setQp n { q with st := .init }).cmdDone fn 0 else s.cmdDone fn 0x12)) := by
  rw [exec_modifyQpInit, execModifyQpInit, s.clocked_runs clocks, runModify_runs index named there h at_]
  rfl

theorem modifyQpPaused_ends (at_ : (wordAt ws 1).toNat % 8 = 3) :
    exec (.modifyQpPaused fn) s = .next (settle (if q.st = .paused then s.cmdDone fn 0
      else if q.st = .ready then ((s.setQp n { q with st := .paused, pausedSent := false }).drainSq n).cmdDone fn 0
      else s.cmdDone fn 0x12)) := by
  rw [exec_modifyQpPaused, execModifyQpPaused, s.clocked_runs clocks, runModify_runs index named there h at_]
  rfl

theorem modifyQpError_ends (at_ : (wordAt ws 1).toNat % 8 = 4) :
    exec (.modifyQpError fn) s = .next (settle (if q.st = .reset then s.cmdDone fn 0x12 else (s.enterError n 1).cmdDone fn 0)) := by
  rw [exec_modifyQpError, execModifyQpError, s.clocked_runs clocks, runModify_runs index named there h at_]
  rfl

theorem modifyQpReady_ends {eid peer psn epsn : Nat} (at_ : (wordAt ws 1).toNat % 8 = 2) (eids : bits (wordAt ws 2) 0 20 = eid)
    (peers : bits (wordAt ws 2) 32 24 = peer) (first : bits (wordAt ws 3) 0 24 = psn) (expected : bits (wordAt ws 3) 32 24 = epsn) :
    exec (.modifyQpReady fn) s = .next (settle (
      if q.st = .reset ∨ q.st = .error then s.cmdDone fn 0x12
      else if (s.ownEid fn).isNone = true then s.cmdDone fn 0x12 2
      else if q.st = .init ∧ (!q.shared) = true ∧ (s.eidLookup eid).isNone = true then s.cmdDone fn 0x12 1
      else (s.setQp n { (if q.st = .init ∧ (!q.shared) = true then q.joined eid peer psn epsn else q) with st := .ready, pausedSent := false }).cmdDone
        fn 0)) := by
  subst eids peers first expected
  rw [exec_modifyQpReady, execModifyQpReady, s.clocked_runs clocks, runModify_runs index named there h at_]
  rfl

theorem modifyQpReset_ends (at_ : (wordAt ws 1).toNat % 8 = 0) :
    (q.st = .reset → exec (.modifyQpReset fn) s = .next (settle (s.cmdDone fn 0)))
    ∧ (q.st ≠ .reset → q.resetting = false → ∀ {u : State} {r : Qp}, s.beginReset n = u → u.qp n = some r → r.unread = false → r.handlerRun = none →
      exec (.modifyQpReset fn) s = .next (settle (((({ u with bt := { u.bt with nonce := none } } : State).setQp n r.cleared).dropResults n none).matchShown
        fn |>.cmdDone fn 0))) := by
  rw [exec_modifyQpReset, execModifyQpReset, s.clocked_runs clocks, runModify_runs index named there h at_]
  dsimp only
  refine ⟨fun reset => ?_, fun set_ free u r begun some_ read idle => ?_⟩
  · rw [if_pos reset]
    rfl
  · rw [if_neg set_, if_neg (ne_true_of_eq_false free), begun, some_]
    dsimp only
    rw [if_neg (by rw [read, idle]; decide)]
    rfl

end
end
end

/-- Settles O22: each command by its lemma; the way into ERROR by `enterError_down`. -/
theorem queuePairCommands : Obligations.QueuePairCommands := by
  unfold Obligations.QueuePairCommands
  refine ⟨fun s fn n qpn ws q quiet clocks index => ?_, fun s n st c q there => ⟨fun stopped => ?_, fun live set_ => ?_⟩⟩
  · intro f eid peer new ends
    refine ⟨fun h small free sound place domain sends receives room => createQp_ends clocks h small free rfl sound place domain sends receives room,
      fun named there => ⟨destroyQp_ends clocks index named there, queryQp_ends clocks index named there, fun h => ?_⟩⟩
    intro target
    have init := modifyQpInit_ends clocks index named there h
    have ready := modifyQpReady_ends clocks index named there h (eid := eid) (peer := peer) (psn := (wordAt ws 3).toNat % 2 ^ 24)
      (epsn := (wordAt ws 3).toNat / 2 ^ 32 % 2 ^ 24) (eids := bits_from0 ..) (peers := bits_div ..) (first := bits_from0 ..) (expected := bits_div ..)
    have paused := modifyQpPaused_ends clocks index named there h
    refine ⟨fun at_ reset => ?_, fun at_ other => ?_, fun at_ from_ private_ own known => ?_, fun at_ from_ own => ?_, fun at_ from_ own => ?_,
      fun at_ from_ private_ own unknown => ?_, fun at_ from_ => ?_, fun at_ from_ => ?_, fun at_ set_ => ?_,
      fun at_ reset => (modifyQpReset_ends clocks index named there h at_).1 reset, fun at_ set_ free r some_ read idle => ?_⟩
    · exact (init at_).trans (by rw [if_pos reset])
    · exact (init at_).trans (by rw [if_neg other])
    · have sole : (!q.shared) = true := private_
      refine (ready at_).trans ?_
      rw [if_neg (by rw [from_]; decide), if_neg (by rw [Option.isNone_iff_eq_none]; exact own),
        if_neg (by rw [Option.isNone_iff_eq_none]; exact fun bad => known bad.2.2), if_pos ⟨from_, sole⟩]
      rfl
    · refine (ready at_).trans ?_
      rw [if_neg (by rw [from_]; decide), if_neg (by rw [Option.isNone_iff_eq_none]; exact own), if_neg (by rw [from_]; exact fun bad => nomatch bad.1),
        if_neg (by rw [from_]; exact fun bad => nomatch bad.1)]
    · refine (ready at_).trans ?_
      rw [if_neg (by rcases from_ with h | h <;> rw [h] <;> decide), if_pos (Option.isNone_iff_eq_none.2 own)]
    · refine (ready at_).trans ?_
      rw [if_neg (by rw [from_]; decide), if_neg (by rw [Option.isNone_iff_eq_none]; exact own),
        if_pos ⟨from_, private_, Option.isNone_iff_eq_none.2 unknown⟩]
    · exact (paused at_).trans (by rw [if_neg (by rw [from_]; decide), if_pos from_])
    · exact (paused at_).trans (by rw [if_neg (by rw [from_]; decide), if_neg (by rw [from_]; decide)])
    · exact (modifyQpError_ends clocks index named there h at_).trans (by rw [if_neg set_])
    · exact (modifyQpReset_ends clocks index named there h at_).2 set_ (by simpa using free) rfl some_ (by simpa using read) idle
  · rw [State.enterError, there]
    exact if_pos stopped
  · obtain ⟨⟨r, there', down⟩, event⟩ := enterError_down s n st c there live set_
    exact ⟨r, there', down.st, down.shaped, down.fins, down.waits, down.conns, event⟩

end Sys2Proof.Machine

/-! PROOFS. The timers of request packets (R69, R70, R76, R134, R135, R140). -/

namespace Sys2Proof.Machine

section
variable {s : State} {n eid qpn psn : Nat} (clocks : s.clocks)
include clocks

section
variable {t : Track} (tracked : s.track n (connKey eid qpn) psn = some t)
include tracked

/-- A retransmit timer that expires fails its request after the last retry, and sends the packet again before. -/
theorem retransmitTimeout_ends {x : Qp} (there : s.qp n = some x) (timer : t.timer = true) (hold : t.hold = .none) :
    (s.rd Reg.TPT_RETX_MAX_RETRIES ≤ t.retries →
      exec (.retransmitTimeout n eid qpn psn) s = .next (settle (s.failTrack n t 0x0A false 0)))
    ∧ (t.retries < s.rd Reg.TPT_RETX_MAX_RETRIES → ∀ {u : State}, s.resend n (connKey eid qpn) psn = (u, true) →
      exec (.retransmitTimeout n eid qpn psn) s = .next (settle ((u.modTrack n (connKey eid qpn) psn fun y =>
        { y with retries := t.retries + 1, intervalUs := 2 * t.intervalUs }).count 0x1D0 0 1 x.owner))) := by
  have found : ((s.qp n).bind fun x => (s.track n (connKey eid qpn) psn).map fun t => (x, t)) = some (x, t) := by
    rw [there, Option.bind_some, tracked]
    rfl
  have runs : ¬((!t.timer) = true ∨ t.hold ≠ .none) := by
    rw [timer]
    exact not_or.2 ⟨by decide, not_not.2 hold⟩
  rw [exec_retransmitTimeout, execRetransmitTimeout, s.clocked_runs clocks]
  dsimp only
  rw [found]
  dsimp only
  rw [if_neg runs]
  refine ⟨fun last => if_pos last, fun more u sent => ?_⟩
  rw [if_neg (Nat.not_le.2 more), sent]
  rfl

/-- A packet that is held for a STATE_MISS goes again when its hint has passed. -/
theorem stateMissHintExpiry_ends {u : State} (hold : t.hold = .stateMiss) (sent : s.resend n (connKey eid qpn) psn = (u, true)) :
    exec (.stateMissHintExpiry n eid qpn psn) s = .next (settle (u.modTrack n (connKey eid qpn) psn ({ · with hold := .none }))) := by
  rw [exec_stateMissHintExpiry, execStateMissHintExpiry, s.clocked_runs clocks]
  dsimp only
  rw [tracked]
  dsimp only
  rw [if_pos hold, State.resendHeld, sent]
  rfl

theorem stateMissDeadline_ends (since : t.missSince = true) :
    exec (.stateMissDeadline n eid qpn psn) s = .next (settle (s.failTrack n t 0x0A false 1)) := by
  rw [exec_stateMissDeadline, execStateMissDeadline, s.clocked_runs clocks, tracked]
  exact if_pos since

theorem receiverFullDeadline_ends (since : t.fullSince = true) (limit : s.on Reg.MCH_RETRY_FULL_DEADLINE_MS = true) :
    exec (.receiverFullDeadline n eid qpn psn) s = .next (settle (s.failTrack n t 0x0A false 2)) := by
  rw [exec_receiverFullDeadline, execReceiverFullDeadline, s.clocked_runs clocks, tracked]
  exact if_pos ⟨since, bne_iff_ne.1 limit⟩

end

theorem fullHintExpiry_ends {x : Qp} {c : Conn} (there : s.qp n = some x) (conn : mget x.conns (connKey eid qpn) = some c) :
    exec (.fullHintExpiry n eid qpn) s
      = .next (settle ((c.track.filter fun y => y.hold == .full).foldl (fun s y => s.resendHeld n (connKey eid qpn) y.psn) s)) := by
  rw [exec_fullHintExpiry, execFullHintExpiry, s.clocked_runs clocks]
  dsimp only
  rw [there, Option.bind_some, conn]
  rfl

theorem rndvWaitExpiry_ends {x : Qp} {d : Desc} (there : s.qp n = some x) (sole : x.sq = [d]) (rts : d.rtsPsn = some psn) (waits : d.rndvWait = true)
    (sent : d.st = .sent) (conn : x.connOf d = connKey eid qpn) (limit : s.on Reg.MCH_RETRY_RNDV_WAIT_MS = true) :
    exec (.rndvWaitExpiry n eid qpn psn) s = .next (settle (s.failDesc n d.id 0x0A false 3)) := by
  have found : (x.sq.find? fun d => d.rtsPsn == some psn && d.rndvWait && d.st == .sent && x.connOf d == connKey eid qpn) = some d := by
    rw [sole]
    exact List.find?_cons_of_pos (by simp [rts, waits, sent, conn])
  rw [exec_rndvWaitExpiry, execRndvWaitExpiry, s.clocked_runs clocks, there]
  dsimp only
  rw [found]
  exact if_pos (bne_iff_ne.1 limit)

end

/-- Settles O30: each timer by its lemma. -/
theorem requestTimers : Obligations.RequestTimers := by
  unfold Obligations.RequestTimers
  intro s n eid qpn psn x c t d u clocks there k tracked
  refine ⟨fun timer hold => ?_, stateMissHintExpiry_ends clocks tracked, stateMissDeadline_ends clocks tracked, fullHintExpiry_ends clocks there,
    receiverFullDeadline_ends clocks tracked, rndvWaitExpiry_ends clocks there⟩
  obtain ⟨last, more⟩ := retransmitTimeout_ends clocks tracked there timer hold
  exact ⟨last, fun few => more few⟩

end Sys2Proof.Machine

/-! PROOFS. Send processing goes on: the shaper, and per-peer states (R61, R62, R73, R290). -/

namespace Sys2Proof.Machine

section
variable {s : State} {fn i n k psn : Nat} {x : Qp} {d : Desc} (clocks : s.clocks) (named : s.qpnOf fn i = some n)
include clocks named

theorem sendPacketBuild_steps : exec (.sendPacketBuild fn i) s = .next (settle (s.sendStep n)) := by
  rw [exec_sendPacketBuild, execSendPacketBuild, s.clocked_runs clocks, named]
  rfl

section
variable (there : s.qp n = some x)
include there

omit clocks in
/-- An index names its queue pair. -/
theorem named_qp : ((s.qpnOf fn i).bind fun n => (s.qp n).map fun x => (n, x)) = some (n, x) := by
  rw [named, Option.bind_some, there]
  rfl

/-- A packet that waits at the shaper goes once the bucket, refilled, holds its length. -/
theorem shaperRelease_ends {b : List Byte} {t : Track} {bucket : Bucket} {len : Nat} (shaped : x.shaped = some (k, psn, b))
    (tracked : s.track n k psn = some t) (filled : x.shaper.refill s.time = bucket) (rate : bucket.rate ≠ 0)
    (size : 16 + wtSize t.hdr.ext + b.length = len) :
    (len ≤ bucket.tokens → exec (.shaperRelease fn i) s
      = .next (settle ((s.setQp n { x with shaper := { bucket with tokens := bucket.tokens - len }, shaped := none }).launch n k psn b)))
    ∧ (bucket.tokens < len → exec (.shaperRelease fn i) s = .next (s.setQp n { x with shaper := bucket })) := by
  rw [exec_shaperRelease, execShaperRelease, s.clocked_runs clocks, named_qp named there]
  dsimp only
  rw [shaped]
  dsimp only
  rw [tracked]
  dsimp only
  rw [filled, size, if_neg rate]
  exact ⟨fun fits => if_pos fits, fun long => if_neg (Nat.not_le.2 long)⟩

theorem peerStateFreed_ends (waits : x.waitsForPeer = some d) : exec (.peerStateFreed fn i) s = .next (settle ((s.needPeer n d).peerWait n)) := by
  rw [exec_peerStateFreed, execPeerStateFreed, s.clocked_runs clocks, named_qp named there]
  dsimp only
  rw [waits]
  rfl

theorem contextWaitDeadline_ends (waits : x.waitsForPeer = some d) (exhausted : x.exhausted = some d.id) :
    exec (.contextWaitDeadline fn i) s = .next (settle (s.failDesc n d.id 0x13)) := by
  rw [exec_contextWaitDeadline, execContextWaitDeadline, s.clocked_runs clocks, named_qp named there]
  dsimp only
  rw [waits]
  exact if_pos exhausted

end
end

/-- A per-peer state that is idle is reclaimed. -/
theorem seStateIdleExpiry_ends {s : State} {n eid qpn : Nat} {x : Qp} {c : Conn} (clocks : s.clocks) (there : s.qp n = some x)
    (conn : mget x.conns (connKey eid qpn) = some c) (shared : x.shared = true) (quiet : c.track = []) (placed : c.unplaced = [])
    (waits : mget x.waits (connKey eid qpn) = none) (granted : ∀ g ∈ s.tp.granted, g.qpn = n → g.conn ≠ connKey eid qpn) :
    exec (.seStateIdleExpiry n eid qpn) s
      = .next ((s.setQp n ({ x with conns := mdel x.conns (connKey eid qpn) } : Qp).unlatched).dropResults n (some (connKey eid qpn))) := by
  have found : ((s.qp n).bind fun x => (mget x.conns (connKey eid qpn)).map fun c => (x, c)) = some (x, c) := by
    rw [there, Option.bind_some, conn]
    rfl
  have free : (s.tp.granted.any fun g => g.qpn == n && g.conn == connKey eid qpn) = false := by
    rw [List.any_eq_false]
    intro g mem same
    obtain ⟨mine, here⟩ := (Bool.and_eq_true ..).mp same
    exact granted g mem (beq_iff_eq.1 mine) (beq_iff_eq.1 here)
  have idle : x.shared = true ∧ c.track.isEmpty = true ∧ c.unplaced.isEmpty = true ∧ (mget x.waits (connKey eid qpn)).isNone = true
      ∧ (!s.tp.granted.any fun g => g.qpn == n && g.conn == connKey eid qpn) = true := by
    rw [quiet, placed, waits, free]
    exact ⟨shared, rfl, rfl, rfl, rfl⟩
  rw [exec_seStateIdleExpiry, execSeStateIdleExpiry, s.clocked_runs clocks]
  dsimp only
  rw [found]
  exact if_pos idle

/-! ### Per-peer states -/

section
variable {s : State} {n : Nat} {q : Qp} {d : Desc} (there : s.qp n = some q)
include there

theorem needPeer_full (full : s.poolSize ≤ s.poolUsed) : s.needPeer n d = s := by
  rw [State.needPeer, there]
  exact if_neg fun h => absurd h.2 (Nat.not_lt.2 full)

/-- A descriptor that begins to wait for a per-peer state is marked, and its event is written. -/
theorem peerWait_marks (waits : q.waitsForPeer = some d) (first : q.exhausted ≠ some d.id) (live : q.st ≠ .error) :
    s.peerWait n = (s.setQp n { q with exhausted := some d.id }).qevent q.fn 4 0x13 q.idx := by
  rw [State.peerWait, there]
  dsimp only
  rw [waits]
  exact if_neg (not_or.2 ⟨first, live⟩)

/-- A queue pair that changes as the counter of first PSNs moves. -/
theorem peer_made (psn : Nat) (f : Qp → Qp) :
    ((({ s with tp := { s.tp with sePsn := psn } } : State).modQp n f).ctxShown).qp n = some (f q)
    ∧ ((({ s with tp := { s.tp with sePsn := psn } } : State).modQp n f).ctxShown).tp.sePsn = psn := by
  have found : ({ s with tp := { s.tp with sePsn := psn } } : State).qp n = some q := there
  rw [State.modQp, found]
  exact ⟨qp_setQp_same .., rfl⟩

/-- A new peer's state. -/
theorem needPeer_makes (shared : q.shared = true) (talks : d.talks = true) (lacks : mget q.conns (connKey d.destEid d.destQpn) = none)
    (room : s.poolUsed < s.poolSize) :
    (s.needPeer n d).qp n = some (q.addPeer (connKey d.destEid d.destQpn)
        { peerEid := d.destEid, peerQpn := d.destQpn, nextPsn := s.tp.sePsn, epsn := 0, rxValid := false, sync := true })
    ∧ (s.needPeer n d).tp.sePsn = (s.tp.sePsn + 2 ^ 20) % 2 ^ 24 := by
  have needs : q.lacksPeer d = true ∧ s.poolUsed < s.poolSize := by
    rw [Qp.lacksPeer, Qp.connOf, if_pos shared, lacks, shared, talks]
    exact ⟨rfl, room⟩
  have made : s.needPeer n d = s.newPeer n d.destEid d.destQpn := by
    rw [State.needPeer, there]
    exact if_pos needs
  rw [made, State.newPeer, State.makePeer]
  exact peer_made there _ _

end

/-- Settles O29: each command by its lemma, and the per-peer states by `needPeer_makes` and `peerWait_marks`. -/
theorem sendProcessingGoesOn : Obligations.SendProcessingGoesOn := by
  unfold Obligations.SendProcessingGoesOn
  refine ⟨fun s fn i n k psn x d b t c clocks named there => ?_, fun s n q d there shared talks lacks => ⟨fun room => ?_, needPeer_full there,
    fun waits first live => ?_⟩⟩
  · intro bucket len
    refine ⟨sendPacketBuild_steps clocks named, fun shaped tracked rate => shaperRelease_ends clocks named there shaped tracked rfl rate rfl,
      peerStateFreed_ends clocks named there, contextWaitDeadline_ends clocks named there, fun key conn shared quiet placed waits granted => ?_⟩
    subst key
    exact seStateIdleExpiry_ends clocks there conn shared quiet placed waits granted
  · obtain ⟨made, counter⟩ := needPeer_makes there shared talks lacks room
    exact ⟨_, _, made, mget_mset_same _ _ _, rfl, rfl, rfl, rfl, counter⟩
  · rw [peerWait_marks there waits first live]
    exact ⟨_, qp_setQp_same s n _, rfl, rfl, _, List.mem_append_right _ (List.mem_singleton_self _), rfl⟩

end Sys2Proof.Machine

/-! PROOFS. Register reads and writes, their refusals and timeouts, and BAR4 (R6, R7, R11, R26, R411, R473, R475 to R478). -/

namespace Sys2Proof.Machine

section
variable {s : State} {req : Requester} {off size a : Nat} {v : Word} (reach : s.reaches req off = true)
include reach

/-- BAR4 does not reach the register space. -/
theorem not_bar4 (fn : Nat) : req ≠ .bar4 fn := by
  rintro rfl
  simp [State.reaches] at reach

theorem registerWrite_runs : exec (.registerWrite req off size v) s = .next (s.regWrite req off size v) := by
  cases req with
  | bar4 fn => exact absurd rfl (not_bar4 reach fn)
  | _ => rfl

theorem registerRead_runs : exec (.registerReadClear req off size) s = .next (match (s.regRead req off size).2 with
    | some v => (s.regRead req off size).1.emit (.regValue req v)
    | none => (s.regRead req off size).1) := by
  cases req with
  | bar4 fn => exact absurd rfl (not_bar4 reach fn)
  | _ => rfl

theorem refused_access (bad : accessOk req off size = false) :
    exec (.registerWrite req off size v) s = .next ((s.captureAccess req 2 off size).emit (.unsupportedRequest req))
    ∧ exec (.registerReadClear req off size) s = .next ((s.captureAccess req 2 off size).emit (.unsupportedRequest req)) := by
  have here : ¬(!s.reaches req off) = true := by rw [reach]; decide
  have refused : (!accessOk req off size) = true := by rw [bad]; rfl
  constructor
  · rw [registerWrite_runs reach, State.regWrite, if_neg here, if_pos refused]
  · rw [registerRead_runs reach, State.regRead, if_neg here, if_pos refused]

section
variable (aligned : off % 8 = 0)
include aligned

omit reach in
theorem accessOk_8 : accessOk req off 8 = true := by
  unfold accessOk
  rw [aligned]
  rfl

omit reach in
theorem word_of_aligned : off / 8 * 8 = off := Nat.div_mul_cancel (Nat.dvd_of_mod_eq_zero aligned)

/-- An aligned write of 8 bytes outside the counter views, by its home. -/
theorem regWrite_8 (view : s.viewOf req off = none) : s.regWrite req off 8 v = match homeOf req off with
    | none => s
    | some a => s.writeAt req off 8 a v (BitVec.allOnes 64) none := by
  have here : ¬(!s.reaches req off) = true := by rw [reach]; decide
  rw [State.regWrite, if_neg here, if_neg (by rw [accessOk_8 aligned]; decide), word_of_aligned aligned]
  dsimp only
  rw [view]
  rfl

/-- An aligned read of 8 bytes outside the counter views, by its home. -/
theorem regRead_8 (view : s.viewOf req off = none) : s.regRead req off 8 = match homeOf req off with
    | none => (s, some 0)
    | some a => ((s.readAt req 8 a).1, some (s.readAt req 8 a).2) := by
  have here : ¬(!s.reaches req off) = true := by rw [reach]; decide
  rw [State.regRead, if_neg here, if_neg (by rw [accessOk_8 aligned]; decide), word_of_aligned aligned]
  dsimp only
  rw [view]
  rfl

end
end

/-! ### Forbidden writes (R7, R476, R478) -/

/-- Outside the registers that a function owns, a function without write access under GLB_ADMIN may write nothing. -/
theorem mayWrite_denied {s : State} {f a : Nat} (w : Word) (filters : 0x3C04000 ≤ a ∨ a < 0x3C00000) (locks : a < 0x3610000 ∨ 0x3618000 ≤ a)
    (shared : a < 0x4000000) (denied : ∀ g, s.adminLink g = false) : s.mayWrite (.host f) a w = false := by
  simp only [State.mayWrite, denied, Bool.and_false]
  rw [if_neg (by omega)]
  split
  · rfl
  · rw [if_neg (by omega), if_neg (by omega), if_neg (by omega), if_neg (by omega)]

theorem registerWrite_denied {s : State} {f off a : Nat} {v : Word} {r : RegSpec} (reach : s.reaches (.host f) off = true) (aligned : off % 8 = 0)
    (view : s.viewOf (.host f) off = none) (home : homeOf (.host f) off = some a) (spec : specOf a = some r)
    (denied : ∀ w, s.mayWrite (.host f) a w = false) :
    exec (.registerWrite (.host f) off 8 v) s = .next ((s.sat Reg.GLB_ADMIN_DENIED 1).captureAccess (.host f) 1 off 8) := by
  rw [registerWrite_runs reach, regWrite_8 reach aligned view, home]
  dsimp only
  rw [State.writeAt, spec]
  dsimp only
  rw [if_pos (by rw [denied]; rfl)]

/-! ### Reads (R11, R475) -/

section
variable {s : State} {req : Requester} {off a : Nat} {r : RegSpec} (reach : s.reaches req off = true) (aligned : off % 8 = 0)
  (view : s.viewOf req off = none)
include reach aligned view

theorem registerRead_nowhere (home : homeOf req off = none) : exec (.registerReadClear req off 8) s = .next (s.emit (.regValue req 0)) := by
  rw [registerRead_runs reach, regRead_8 reach aligned view, home]

section
variable (home : homeOf req off = some a) (spec : specOf a = some r) (locks : a < 0x3610000 ∨ 0x3618000 ≤ a)
include home spec locks

omit reach aligned view home in
/-- A register outside the lock words is read, and its RC fields clear where all of it is. -/
theorem readAt_eq (size : Nat) : s.readAt req size a = (if size = 8 ∧ clearRc r.fields (s.reg a r.rst) ≠ s.reg a r.rst then
    { s with regs := mset s.regs a (clearRc r.fields (s.reg a r.rst)) } else s, s.showReg a r.rst) := by
  rw [State.readAt, spec]
  exact if_neg (by omega)

theorem registerRead_8 : exec (.registerReadClear req off 8) s = .next
    ((if clearRc r.fields (s.reg a r.rst) = s.reg a r.rst then s else { s with regs := mset s.regs a (clearRc r.fields (s.reg a r.rst)) }).emit
      (.regValue req (s.showReg a r.rst))) := by
  rw [registerRead_runs reach, regRead_8 reach aligned view, home]
  dsimp only
  rw [readAt_eq spec locks]
  dsimp only
  by_cases same : clearRc r.fields (s.reg a r.rst) = s.reg a r.rst
  · rw [if_neg fun h => h.2 same, if_pos same]
  · rw [if_pos ⟨rfl, same⟩, if_neg same]

theorem registerRead_4 {f : Nat} (host : req = .host f) : exec (.registerReadClear req off 4) s
    = .next (s.emit (.regValue req (BitVec.ofNat 64 ((s.showReg a r.rst).toNat % 2 ^ 32)))) := by
  have half (w : Word) : (w.setWidth 32).setWidth 64 = BitVec.ofNat 64 (w.toNat % 2 ^ 32) := by
    apply BitVec.eq_of_toNat_eq
    simp
  have fits : accessOk req off 4 = true := by
    rw [host, accessOk, show off % 4 = 0 by omega]
    simp
  have here : ¬(!s.reaches req off) = true := by rw [reach]; decide
  have read : s.regRead req off 4 = (s, some (BitVec.ofNat 64 ((s.showReg a r.rst).toNat % 2 ^ 32))) := by
    rw [State.regRead, if_neg here, if_neg (by rw [fits]; decide), word_of_aligned aligned]
    dsimp only
    rw [view, home]
    dsimp only
    rw [readAt_eq spec locks, if_neg fun h => nomatch h.1]
    dsimp only
    rw [if_neg (by decide), if_pos aligned, half]
  rw [registerRead_runs reach, read]

end
end

/-! ### Accesses that nothing answers (R26) -/

section
variable {s : State} {req : Requester} {off d : Nat} (reach : s.reaches req off = true)
include reach

theorem registerAccessTimeout_ends (domain : s.domainAt req (off / 8 * 8) = some d) :
    exec (.registerAccessTimeout req off true) s = .next (s.raise 2 d)
    ∧ exec (.registerAccessTimeout req off false) s = .next ((s.emit (.regValue req (BitVec.allOnes 64))).raise 2 d) := by
  have here : ¬(!s.reaches req off) = true := by rw [reach]; decide
  rw [exec_registerAccessTimeout, exec_registerAccessTimeout, execRegisterAccessTimeout, execRegisterAccessTimeout, if_neg here, if_neg here, domain]
  exact ⟨rfl, rfl⟩

end

theorem domainAt_home {s : State} {req : Requester} {w a : Nat} (view : s.viewOf req w = none) (home : homeOf req w = some a) :
    s.domainAt req w = some (domainOf a) := by
  have low : Requester.isVf req = true → w < 32 := by
    intro vf
    rw [homeOf, if_pos vf] at home
    by_contra high
    rw [if_neg high] at home
    cases home
  rw [State.domainAt, view, home]
  exact if_neg fun h => h.elim (by simp) fun ⟨vf, high, _⟩ => absurd (low vf) (by omega)

theorem domainAt_view {s : State} {req : Requester} {w : Nat} {k : Nat × Nat} (view : s.viewOf req w = some k) : s.domainAt req w = some 7 := by
  rw [State.domainAt, view]
  exact if_pos (.inl rfl)

/-! ### BAR4 (R411, R473) -/

/-- A sum of powers of 2 under flags has the flags as its bits. -/
theorem flags_lt (p : Nat → Bool) (n : Nat) : ((List.range n).map fun i => flag (p i) (2 ^ i)).sum < 2 ^ n := by
  induction n with
  | zero => exact Nat.one_pos
  | succ n ih =>
    have top : flag (p n) (2 ^ n) ≤ 2 ^ n := by
      rw [flag]
      split
      · exact le_rfl
      · exact Nat.zero_le _
    rw [List.range_succ, List.map_append, List.sum_append, List.map_singleton, List.sum_singleton, Nat.pow_succ]
    omega

theorem flags_testBit (p : Nat → Bool) {n k : Nat} (small : k < n) : ((List.range n).map fun i => flag (p i) (2 ^ i)).sum.testBit k = p k := by
  induction n with
  | zero => omega
  | succ n ih =>
    have low := flags_lt p n
    rw [List.range_succ, List.map_append, List.sum_append, List.map_singleton, List.sum_singleton]
    rcases Nat.lt_succ_iff_lt_or_eq.1 small with less | rfl
    · cases top : p n
      · exact ih less
      · rw [flag, if_pos rfl, Nat.add_comm, Nat.testBit_two_pow_add_gt less]
        exact ih less
    · cases top : p k
      · exact Nat.testBit_lt_two_pow low
      · rw [flag, if_pos rfl, Nat.add_comm, Nat.testBit_two_pow_add_eq, Nat.testBit_lt_two_pow low]
        rfl

section
variable {s : State} {fn k off : Nat} {v : Word}

/-- A function whose vector is reached is reached in its whole table. -/
theorem bar4Reaches_table {at_ : Nat} (reach : s.bar4Reaches fn at_ = true) (table : off < 0x10000) : s.bar4Reaches fn off = true := by
  simp only [State.bar4Reaches, Bool.and_eq_true, decide_eq_true_eq] at reach ⊢
  obtain ⟨⟨⟨on_, small⟩, -⟩, stage⟩ := reach
  refine ⟨⟨⟨on_, small⟩, ?_⟩, stage⟩
  split <;> omega

section
variable (reach : s.bar4Reaches fn off = true) (aligned : off % 8 = 0)
include reach aligned

theorem bar4_write : exec (.registerWrite (.bar4 fn) off 8 v) s = .next (s.bar4Write fn off v) := by
  have here : ¬(!s.bar4Reaches fn off) = true := by rw [reach]; decide
  have whole (old : Word) : old &&& ~~~accessMask off 8 ||| (v &&& accessMask off 8) = v := by
    rw [accessMask, if_neg (by decide), BitVec.not_allOnes, BitVec.and_zero, BitVec.and_allOnes, BitVec.zero_or]
  rw [exec_registerWrite, execRegisterWrite]
  rw [State.bar4Access, if_neg here, if_neg (by rw [accessOk_8 aligned]; decide)]
  dsimp only
  rw [word_of_aligned aligned, if_neg fun h => nomatch h.1]
  exact congrArg (fun w => Host.Outcome.next (s.bar4Write fn off w)) (whole _)

theorem bar4_read (low : off < 0x10000) : exec (.registerReadClear (.bar4 fn) off 8) s = .next (s.emit (.regValue (.bar4 fn) (s.bar4Word fn off))) := by
  have here : ¬(!s.bar4Reaches fn off) = true := by rw [reach]; decide
  rw [exec_registerReadClear, execRegisterReadClear]
  rw [State.bar4Access, if_neg here, if_neg (by rw [accessOk_8 aligned]; decide)]
  dsimp only
  rw [word_of_aligned aligned, if_neg (by omega)]
  rfl

end

section
variable (small : k < 2048) {old : Vector} (held : mgetD (s.func fn).vectors k {} = old)
include small held

theorem bar4Write_addr : s.bar4Write fn (16 * k) v = s.setFunc fn { s.func fn with vectors := mset (s.func fn).vectors k { old with addr := v.toNat / 4 * 4 } } := by
  have row : 16 * k / 16 = k := by omega
  rw [State.bar4Write, if_neg (by omega)]
  dsimp only
  rw [row, held, if_pos (by omega)]

theorem bar4Write_data (calm : v.getLsbD 32 = true ∨ old.pending = false) : s.bar4Write fn (16 * k + 8) v = s.setFunc fn { s.func fn with
    vectors := mset (s.func fn).vectors k { old with data := v.toNat % 2 ^ 32, masked := v.getLsbD 32 } } := by
  have row : (16 * k + 8) / 16 = k := by omega
  have kept : (old.pending && bit v 32) = old.pending := by
    rcases calm with masked | free
    · rw [show bit v 32 = true from masked, Bool.and_true]
    · rw [free, Bool.false_and]
  have silent : (old.pending && !bit v 32) = false := by
    rcases calm with masked | free
    · rw [show bit v 32 = true from masked]
      exact Bool.and_false _
    · rw [free, Bool.false_and]
  rw [State.bar4Write, if_neg (by omega)]
  dsimp only
  rw [row, held, if_neg (by omega), silent, kept, bits_low]
  rfl

theorem bar4Word_addr : s.bar4Word fn (16 * k) = BitVec.ofNat 64 old.addr := by
  have row : 16 * k / 16 = k := by omega
  rw [State.bar4Word]
  dsimp only
  rw [if_pos (by omega), if_pos (by omega), row, held]

theorem bar4Word_data : s.bar4Word fn (16 * k + 8) = BitVec.ofNat 64 (old.data % 2 ^ 32 + if old.masked then 2 ^ 32 else 0) := by
  have row : (16 * k + 8) / 16 = k := by omega
  rw [State.bar4Word]
  dsimp only
  rw [if_pos (by omega), if_neg (by omega), row, held]
  rfl

theorem bar4Word_pending : (s.bar4Word fn (0x8000 + k / 64 * 8)).getLsbD (k % 64) = old.pending := by
  have row : 8 * (0x8000 + k / 64 * 8 - 0x8000) + k % 64 = k := by omega
  rw [State.bar4Word]
  dsimp only
  rw [if_neg (by omega), if_pos (by omega), BitVec.getLsbD_ofNat, decide_eq_true (by omega : k % 64 < 64), Bool.true_and]
  refine (flags_testBit (fun i => (mgetD (s.func fn).vectors (8 * (0x8000 + k / 64 * 8 - 0x8000) + i) {}).pending) (by omega)).trans ?_
  rw [row, held]

end
end

/-- Settles O19: each access by its lemma. -/
theorem registerAccesses : Obligations.RegisterAccesses := by
  unfold Obligations.RegisterAccesses
  refine ⟨fun s f off size a v r reach view home spec filters locks shared denied => ⟨fun aligned => ?_, fun bad => refused_access reach bad⟩,
    fun s req off a r reach aligned view => ⟨fun home spec locks => ⟨?_, fun f host => ?_⟩, fun home => ?_⟩,
    fun s req off v reach aligned view => ⟨fun a accepted => ?_, fun home => ?_, fun a home spec => ?_⟩, fun s req off reach => ?_,
    fun s fn k v small reach => ?_⟩
  · rw [word_of_aligned aligned] at view home
    exact registerWrite_denied reach aligned view home spec fun w => mayWrite_denied w filters locks shared denied
  · exact registerRead_8 reach aligned view home spec locks
  · exact registerRead_4 reach aligned view home spec locks host
  · exact registerRead_nowhere reach aligned view home
  · rw [registerWrite_runs reach, regWrite_accepts accepted]
    rfl
  · rw [registerWrite_runs reach, regWrite_8 reach aligned view, home]
  · rw [registerWrite_runs reach, regWrite_8 reach aligned view, home]
    dsimp only
    rw [State.writeAt, spec]
  · exact ⟨fun a view home => registerAccessTimeout_ends reach (domainAt_home view home),
      fun k view => registerAccessTimeout_ends reach (domainAt_view view)⟩
  · intro f old writes reads
    have addr : s.bar4Reaches fn (16 * k) = true := reach
    have data : s.bar4Reaches fn (16 * k + 8) = true := bar4Reaches_table reach (by omega)
    have pending : s.bar4Reaches fn (0x8000 + k / 64 * 8) = true := bar4Reaches_table reach (by omega)
    refine ⟨?_, fun masked => ?_, fun open_ free => ?_, ?_, ?_, _, bar4_read pending (by omega) (by omega), bar4Word_pending small rfl⟩
    · exact (bar4_write addr (by omega)).trans (congrArg _ (bar4Write_addr small rfl))
    · have written := bar4Write_data small (s := s) (fn := fn) (v := v) rfl (.inl masked)
      rw [masked] at written
      exact (bar4_write data (by omega)).trans (congrArg _ written)
    · have written := bar4Write_data small (s := s) (fn := fn) (v := v) rfl (.inr free)
      rw [open_] at written
      exact (bar4_write data (by omega)).trans (congrArg _ written)
    · exact (bar4_read addr (by omega) (by omega)).trans (by rw [bar4Word_addr small rfl])
    · exact (bar4_read data (by omega) (by omega)).trans (by rw [bar4Word_data small rfl])

end Sys2Proof.Machine

/-! PROOFS. The responder's timers, and what hosts and the store answer (R67, R75, R78, R82, R97, R102, R103, R109, R131, R492). -/

namespace Sys2Proof.Machine

/-! ### Timers -/

section
variable {s : State} {n eid qpn psn : Nat} (clocks : s.clocks)
include clocks

theorem resultHoldExpiry_drops : Leads (.resultHoldExpiry n eid qpn psn) s fun t => t.tp.results = s.tp.results.filter fun e =>
    !(e.qpn == n && e.conn == connKey eid qpn && e.psn == psn && e.value.isSome) := by
  rw [Leads, exec_resultHoldExpiry, execResultHoldExpiry, s.clocked_runs clocks]
  exact ⟨_, rfl, rfl⟩

section
variable {x : Qp} (there : s.qp n = some x)
include there

theorem ackDelayExpiry_ends {c : Conn} (conn : mget x.conns (connKey eid qpn) = some c) (timer : c.ackTimer = true) :
    exec (.ackDelayExpiry n eid qpn) s = .next (s.sendAck n (connKey eid qpn)) := by
  rw [exec_ackDelayExpiry, execAckDelayExpiry, s.clocked_runs clocks]
  dsimp only
  rw [there, Option.bind_some, conn]
  exact if_pos timer

theorem contextFetchDone_ends (fetches : x.fetches.contains (connKey eid qpn) = true) (waits : mgetD x.waits (connKey eid qpn) [] = []) :
    exec (.contextFetchDone n eid qpn false) s
      = .next (settle (((s.setQp n { x with fetches := x.fetches.filter (· != connKey eid qpn) }).touch n).pump 600 n (connKey eid qpn))) := by
  rw [exec_contextFetchDone, execContextFetchDone, s.clocked_runs clocks]
  dsimp only
  rw [there]
  dsimp only
  rw [if_neg (by rw [fetches]; decide), waits]
  rfl

end
end

/-! ### Placements -/

/-- The state in which a placement, its last write issued, tells what waits for it. -/
def State.placed (s : State) (id : Nat) (p : Placement) : State :=
  let u := (((s.issue p ((s.placeOwner p.use).orElse fun _ => some (p.fn, 0))).stamp p.tag 6).stamp p.tag 7).endTag p.tag
  let u := { u with tp := { u.tp with placements := mdel u.tp.placements id } }
  match p.key with
  | some i => u.dropRef i
  | none => u

section
variable {s : State} {id : Nat} {p : Placement} (clocks : s.clocks) (there : mget s.tp.placements id = some p)
  (admits : s.admits (if p.store then 5 else 6) = true)
include clocks there admits

theorem placementIssued_put {n k psn : Nat} {solicit : Bool} (use : p.use = .put n k psn solicit) :
    exec (.placementIssued id) s = .next (settle (((s.placed id p).placedPsn n k psn).noteRequest n k solicit)) := by
  rw [exec_placementIssued, execPlacementIssued, s.clocked_runs clocks, there]
  dsimp only
  rw [if_neg (by rw [admits]; decide), State.placed, use]
  rfl

theorem placementIssued_get {n k psn d : Nat} (use : p.use = .get n k psn d) :
    exec (.placementIssued id) s = .next (settle (((s.placed id p).modDesc n d fun y => { y with placing := y.placing - 1 }).checkDone n d)) := by
  rw [exec_placementIssued, execPlacementIssued, s.clocked_runs clocks, there]
  dsimp only
  rw [if_neg (by rw [admits]; decide), State.placed, use]
  rfl

end

/-! ### Host reads -/

theorem linkLogs_timeout (s : State) (link : Nat) : s.linkLogs link .timeout = s.raise (0x2C1 + 8 * link) (2 ^ 14) := by
  rw [← show 0x2C0 + 8 * link + 1 = 0x2C1 + 8 * link by omega]
  rfl

theorem linkLogs_error (s : State) (link : Nat) : s.linkLogs link .error = s := rfl

theorem track_of_tp {s u : State} (tp : u.tp = s.tp) (n k psn : Nat) : u.track n k psn = s.track n k psn := by
  rw [State.track, State.qp, tp]
  rfl

theorem dropRef_track (s : State) (i n k psn : Nat) : (s.dropRef i).track n k psn = s.track n k psn := track_of_tp (dropRef_tp s i) n k psn

section
variable {s : State} {id : Nat} {r : HostRead} (pins : s.pins) (there : mget s.tp.reads id = some r)
  {taken : State} (took : { s with tp := { s.tp with reads := mdel s.tp.reads id } } = taken)
include pins there took

theorem hostReadDataReturn_source {n d off key : Nat} (b : List Byte) (use : r.use = .source n d off key) :
    exec (.hostReadDataReturn id (.data b)) s
      = .next (settle ((taken.count 0x1C1 r.link r.len (taken.readOwner r.use)).sourceReturn n d off key (.data b) r.len)) := by
  rw [exec_hostReadDataReturn, execHostReadDataReturn, s.atPins_runs pins.1 pins.2, there]
  dsimp only
  rw [took, use]
  rfl

section
variable {n k psn key : Nat} (use : r.use = .resend n k psn key)
include use

theorem hostReadDataReturn_resend (b : List Byte) : exec (.hostReadDataReturn id (.data b)) s
    = .next (settle (((taken.count 0x1C1 r.link r.len (taken.readOwner r.use)).dropRef key).launch n k psn (slice b 0 r.len))) := by
  rw [exec_hostReadDataReturn, execHostReadDataReturn, s.atPins_runs pins.1 pins.2, there]
  dsimp only
  rw [took, use]
  rfl

/-- A read that fails fails the packet that was to go again. -/
theorem hostReadDataReturn_fails {res : HostRes} {v : State} {detail : Nat} {t : Track} (logged : taken.linkLogs r.link res = v)
    (tracked : v.track n k psn = some t) (failed : ∀ b, res ≠ .data b) (shown : resDetail res = detail) :
    exec (.hostReadDataReturn id res) s = .next (settle ((v.dropRef key).failTrack n t 0x0D false detail)) := by
  rw [exec_hostReadDataReturn, execHostReadDataReturn, s.atPins_runs pins.1 pins.2, there]
  dsimp only
  rw [took]
  cases res with
  | data b => exact absurd rfl (failed b)
  | _ =>
    dsimp only
    rw [logged]
    simp only [dropRef_track]
    rw [use]
    dsimp only
    rw [tracked, ← shown]
    rfl

end
end

/-! ### Atomics -/

section
variable {s : State} {id : Nat} {a : AtomicOp} (there : mget s.tp.atomics id = some a)
include there

section
variable (pins : s.pins) (host : a.store = false) {b : List Byte} {seen : Nat} (value : ofLE (slice b 0 a.width) = seen) {u : State}
  (counted : s.count 0x1C1 a.link a.width (s.qpOwner a.qpn) = u)
include pins host value counted

/-- What the answer of a host is to an atomic, by its stage. -/
theorem hostAtomicResponse_data : exec (.hostAtomicResponse id (.data b)) s = .next (
    if a.stage = 0 ∨ a.stage = 2 ∧ seen = a.seen.toNat then settle (u.atomicDone id a seen)
    else if a.stage = 1 then u.atomicCas id a seen 1
    else if u.rd Reg.KEY_HOST_ATOMIC_CAS_LIMIT ≤ a.tries then settle (u.atomicFails id a 10)
    else u.atomicCas id a seen (a.tries + 1)) := by
  rw [exec_hostAtomicResponse, execHostAtomicResponse, s.atPins_runs pins.1 pins.2, there]
  dsimp only
  rw [if_neg (ne_true_of_eq_false host), value, counted, apply_ite Host.Outcome.next, apply_ite Host.Outcome.next, apply_ite Host.Outcome.next]
  rfl

end

theorem storeAtomicDone_ends (clocks : s.clocks) (store : a.store = true) (admits : s.admits 5 = true) (sound : s.poisoned a.addr a.width = false)
    {old : Nat} (value : ofLE (s.storeRead a.addr a.width) = old) :
    exec (.storeAtomicDone id) s = .next (settle ((((s.storeCorrects a.addr a.width).commit a.addr (leBytes a.width (atomicResult a.opcode (8 * a.width)
      old a.op0.toNat a.op1.toNat))).countAtomic a.addr ((s.qp a.qpn).bind (·.owner))).atomicDone id a old)) := by
  rw [exec_storeAtomicDone, execStoreAtomicDone, s.clocked_runs clocks, there]
  dsimp only
  rw [if_neg (by rw [store, admits]; decide), if_neg (ne_true_of_eq_false sound), value]
  rfl

end

/-- Settles O41: each command by its lemma. -/
theorem responderEventsAct : Obligations.ResponderEventsAct := by
  unfold Obligations.ResponderEventsAct
  refine ⟨fun s n eid qpn psn x c => ?_, fun s id pl r a b n k psn d off key so t pins => ?_⟩
  · intro k clocks there
    exact ⟨ackDelayExpiry_ends clocks there, resultHoldExpiry_drops clocks, contextFetchDone_ends clocks there⟩
  · intro s1 back sent issued late gone freed old
    have fresh : s.rd Reg.KEY_HOST_ATOMIC_CAS_LIMIT = (s.count 0x1C1 a.link a.width (s.qpOwner a.qpn)).rd Reg.KEY_HOST_ATOMIC_CAS_LIMIT :=
      (count_rd _ _ _ _ _ _ _ _ (by decide)).symm
    refine ⟨fun there admits => ⟨placementIssued_put pins.1 there admits, placementIssued_get pins.1 there admits⟩,
      fun there => ⟨hostReadDataReturn_source pins there rfl b, fun use => hostReadDataReturn_resend pins there rfl use b,
        fun use tracked => ⟨hostReadDataReturn_fails pins there rfl use (linkLogs_error ..) ((dropRef_track ..).symm.trans tracked) nofun rfl,
          hostReadDataReturn_fails pins there rfl use (linkLogs_timeout ..) ((track_of_tp (by rw [raise_tp, dropRef_tp]) ..).trans tracked) nofun
            rfl⟩⟩,
      fun there host => ?_, fun there store admits sound => storeAtomicDone_ends there pins.1 store admits sound rfl⟩
    intro seen u
    have data := hostAtomicResponse_data there pins host (b := b) rfl rfl
    refine ⟨fun stage => ?_, fun stage => ?_, fun stage same => ?_, fun stage other few => ?_⟩
    · rw [data, if_pos (.inl stage)]
    · rw [data, if_neg (by rw [stage]; omega), if_pos stage]
    · rw [data, if_pos (.inr ⟨stage, same⟩)]
    · rw [data, if_neg (fun h => h.elim (by omega) fun h => other h.2), if_neg (by omega), if_neg (by rw [← fresh]; omega)]

end Sys2Proof.Machine

/-! PROOFS. CXL.mem accesses, key drains, posting, the record pool, and the start of handlers (R107, R108, R110 to R112, R124, R129, R147). -/

namespace Sys2Proof.Machine

/-! ### CXL.mem accesses -/

/-- The bytes that a list of given bytes gives, by their place. -/
theorem given_find (l : List Byte) (k i : Nat) :
    (((l.map some).zipIdx k).filterMap fun x => x.1.map fun b => (x.2, b)).find? (·.1 == k + i) = l[i]?.map fun b => (k + i, b) := by
  induction l generalizing k i with
  | nil => rfl
  | cons b l ih =>
    rw [List.map_cons, List.zipIdx_cons, List.filterMap_cons]
    dsimp only [Option.map_some]
    cases i with
    | zero => exact List.find?_cons_of_pos (beq_self_eq_true k)
    | succ i =>
      have next := ih (k + 1) i
      rw [show k + 1 + i = k + (i + 1) by omega] at next
      rw [List.find?_cons_of_neg (by simp), next]
      rfl

theorem given_length (l : List Byte) (k : Nat) : (((l.map some).zipIdx k).filterMap fun x => x.1.map fun b => (x.2, b)).length = l.length := by
  induction l generalizing k with
  | nil => rfl
  | cons b l ih =>
    rw [List.map_cons, List.zipIdx_cons, List.filterMap_cons]
    dsimp only [Option.map_some]
    rw [List.length_cons, List.length_cons, ih]

/-- The line that a write of all its bytes leaves. -/
theorem whole_line {l : List Byte} {n : Nat} (whole : l.length = n) (old : List Byte) :
    ((List.range n).map fun i => (((((l.map some).zipIdx.filterMap fun x => x.1.map fun b => (x.2, b)).find? (·.1 == i)).map (·.2)).getD (old.getD i 0))) = l := by
  apply List.ext_getElem
  · rw [List.length_map, List.length_range, whole]
  · intro i _ small
    have found := given_find l 0 i
    rw [Nat.zero_add] at found
    rw [List.getElem_map, List.getElem_range, found, List.getElem?_eq_getElem small]
    rfl

section
variable {s : State} {link addr : Nat} (pins : s.pins)
include pins

theorem cxlMemRead_serves : exec (.cxlMemRead link addr) s = .next (s.cxlServe { link := link, line := addr }) := by
  rw [exec_cxlMemRead, execCxlMemRead, s.atPins_runs pins.1 pins.2]
  rfl

theorem cxlMemWrite_serves (l : List (Option Byte)) :
    exec (.cxlMemWrite link addr l) s = .next (s.cxlServe { link := link, line := addr, write := some l }) := by
  rw [exec_cxlMemWrite, execCxlMemWrite, s.atPins_runs pins.1 pins.2]
  rfl

end

section
variable {s : State} {r : CxlReq}

/-- An access to a mapped line waits while the crossing is quiesced. -/
theorem cxlServe_waits {a : Nat} (line : s.cxlLine r.link r.line = some a) (held : s.on Reg.GLB_CROSSING_CTRL_QUIESCE 5 = true) :
    s.cxlServe r = { s with bt := { s.bt with cxlWait := s.bt.cxlWait ++ [r] } } := if_pos ⟨held, by rw [line]; rfl⟩

theorem cxlServe_goes (free : s.on Reg.GLB_CROSSING_CTRL_QUIESCE 5 = false ∨ s.cxlLine r.link r.line = none) :
    s.cxlServe r = r.write.elim (s.cxlRead r.link r.line) (s.cxlWrite r.link r.line) := by
  have goes : ¬(s.on Reg.GLB_CROSSING_CTRL_QUIESCE 5 = true ∧ (s.cxlLine r.link r.line).isSome = true) := by
    rintro ⟨held, mapped⟩
    rcases free with free | free
    · exact ne_true_of_eq_false free held
    · rw [free] at mapped
      cases mapped
  rw [State.cxlServe, if_neg goes]
  cases r.write <;> rfl

end

section
variable {s : State} {link addr a : Nat}

theorem storeCorrects_store (s : State) (a n : Nat) : (s.storeCorrects a n).store = s.store := by
  unfold State.storeCorrects State.corrected
  split
  · exact raise_store ..
  · rfl

theorem cxlRead_line (line : s.cxlLine link addr = some a) (sound : s.poisoned a 64 = false) : s.cxlRead link addr
    = ((s.storeCorrects a 64).count 0x180 (stackOf a) 64).emit (.cxlData link (some (s.storeRead a 64)) false) := by
  rw [State.cxlRead, line]
  dsimp only
  rw [sound]
  show ((s.storeCorrects a 64).count 0x180 (stackOf a) 64).emit (.cxlData link (some (Memory.readN 0 (s.storeCorrects a 64).store a 64)) false) = _
  rw [storeCorrects_store]
  rfl

theorem cxlWrite_line (line : s.cxlLine link addr = some a) {l : List Byte} (whole : l.length = 64) :
    s.cxlWrite link addr (l.map some) = s.commit a l := by
  have all : (l.map some).take 64 = l.map some := List.take_of_length_le (by rw [List.length_map, whole])
  rw [State.cxlWrite, line]
  dsimp only
  rw [all, if_pos ((given_length l 0).trans whole), whole_line whole]

end

/-! ### Key drains -/

section
variable {s : State} {idx : Nat} (clocks : s.clocks)
include clocks

section
variable (draining : (s.key idx).draining = true) (ended : (s.key idx).inUse = 0)
include draining ended

/-- The end of a drain: the command that waits for it ends, or the unbinds that do. -/
theorem keyDrainComplete_ends : exec (.keyDrainComplete idx) s = match s.tp.funcs.find? fun p => (p.2.cmd.bind (·.waitKey)) == some idx with
    | some (fn, _) => .next (settle ((s.freeKey idx).cmdDone fn 0))
    | none => if (s.key idx).kind = 1 then .next (s.drainEnds idx)
      else .next (settle ((s.key idx).unbind.foldl (fun s w => match (s.qp w.1).bind (·.desc w.2) with
        | some x => if x.st = .sent then s.finishDesc w.1 w.2 0 false 0 x.result else s
        | none => s) (s.drainEnds idx))) := by
  have over_ : ¬((!(s.key idx).draining) = true ∨ (s.key idx).inUse ≠ 0) := by
    rw [draining, ended]
    decide
  rw [exec_keyDrainComplete, execKeyDrainComplete, s.clocked_runs clocks]
  dsimp only
  rw [if_neg over_]
  rfl

end

theorem keyDrainStall_ends (draining : (s.key idx).draining = true) (timer : (s.key idx).timers ≠ 0) (held : (s.key idx).inUse ≠ 0) :
    exec (.keyDrainStall idx) s
      = .next ((s.setKey idx { s.key idx with stalled := true, timers := (s.key idx).timers - 1 }).raise 0x301 (s.keyOf idx)) := by
  rw [exec_keyDrainStall, execKeyDrainStall, s.clocked_runs clocks]
  exact if_pos ⟨draining, timer, held⟩

/-! ### Posting and the record pool -/

theorem postingResume_opens (free : s.postingHeld = false) :
    Leads .postingResume s fun u => (∀ q ∈ u.tp.qps, q.2.postedFull = false) ∧ u.mt = s.mt ∧ u.regs = s.regs := by
  rw [Leads, exec_postingResume, execPostingResume, s.clocked_runs clocks, if_neg (ne_true_of_eq_false free)]
  refine ⟨_, rfl, fun q mem => ?_, rfl, rfl⟩
  obtain ⟨q', -, rfl⟩ := List.mem_map.1 mem
  rfl

theorem poolResizeApply_takes (pending : s.on Reg.MCH_UNEXP_PENDING = true) (empty : s.mt.unexp = []) :
    Leads .poolResizeApply s fun u => u.mt.poolKib = s.rd Reg.MCH_UNEXP_POOL_KIB ∧ u.rd Reg.MCH_UNEXP_PENDING = 0 ∧ u.tp = s.tp := by
  rw [Leads, exec_poolResizeApply, execPoolResizeApply, s.clocked_runs clocks, if_pos ⟨pending, by rw [empty]; rfl⟩]
  exact ⟨_, rfl, rfl, rd_wr_same _ _ _ _ _ (by decide), rfl⟩

end

/-! ### The start of a handler -/

theorem unreserve_same (tg : Target) (a n : Nat) (x : Thread) : { x.unreserve tg a n with resv := none } = ({ x with resv := none } : Thread) := by
  obtain ⟨r, same⟩ := unreserve_resv tg a n x
  rw [same]

theorem tally_thread (s : State) (f : Fld) (ev unit n i j : Nat) (o : Owner) (t : Nat) : (s.tally f ev unit o n i j).thread t = s.thread t := by
  rw [State.thread, tally_fg]
  rfl

theorem tally_qp (s : State) (f : Fld) (ev unit n i j : Nat) (o : Owner) (m : Nat) : (s.tally f ev unit o n i j).qp m = s.qp m := by
  rw [State.qp, tally_tp]
  rfl

theorem modQp_thread (s : State) (n : Nat) (f : Qp → Qp) (t : Nat) : (s.modQp n f).thread t = s.thread t := by
  unfold State.modQp
  split <;> rfl

theorem modQp_qp {s : State} {n : Nat} {q : Qp} (there : s.qp n = some q) (f : Qp → Qp) : (s.modQp n f).qp n = some (f q) := by
  rw [State.modQp, there]
  exact qp_setQp_same ..

/-- The state in which a thread `y` has started for the receive `id` of a queue pair, with the bytes `l` in its frame at `a`. -/
def State.handlerOn (s : State) (a : Nat) (l : List Byte) (t : Nat) (y : Thread) (n id : Nat) : State :=
  (((s.sramWrite (t / 128) a l).clearResv (.hive (t / 128)) a 4096).setThread t y).modQp n ({ · with handlerRun := some id })

section
variable (s : State) (a : Nat) (l : List Byte) (t : Nat) (y : Thread) (n id : Nat)

theorem handlerOn_others {v : Nat} (other : v ≠ t) :
    { (s.handlerOn a l t y n id).thread v with resv := none } = ({ s.thread v with resv := none } : Thread) := by
  rw [State.handlerOn, modQp_thread, thread_setThread_other _ _ _ _ other, clearResv_thread, unreserve_same, sramWrite_thread]

theorem handlerOn_thread : (s.handlerOn a l t y n id).thread t = y := by
  rw [State.handlerOn, modQp_thread, thread_setThread_same]

theorem handlerOn_qp {s : State} {x : Qp} (there : s.qp n = some x) : (s.handlerOn a l t y n id).qp n = some { x with handlerRun := some id } :=
  modQp_qp (s := ((s.sramWrite (t / 128) a l).clearResv (.hive (t / 128)) a 4096).setThread t y) there _

end

/-- What the thread of a handler begins with. -/
structure Thread.Begins (y : Thread) (h : Handler) (r : Recv) (budget : Nat) : Prop where
  st : y.st = .running
  priv : y.priv = 1
  pc : y.pc = h.entry
  code : y.code = 4 * h.code.length
  budget : y.budget = budget
  buffer : y.get 1 = BitVec.ofNat 64 r.laddr
  tag : y.get 3 = r.msgTag
  status : y.get 6 = BitVec.ofNat 64 r.status
  user : y.get 5 = r.userId
  run : y.run.isSome = true

theorem handlerStart_begins {s : State} {fn i n t : Nat} {x : Qp} {r : Recv} {h : Handler} (clocks : s.clocks) (admits : s.admits 3 = true)
    (named : s.qpnOf fn i = some n) (there : s.qp n = some x) (due : x.handlerDue = some r)
    (image : mget s.mt.handlers (handlerKey fn r.handler) = some h) (idle : (s.thread t).st = .idle) (allowed : s.handlerThread (hiveOf n) t = true) :
    ∃ (a : Nat) (l : List Byte) (y : Thread), y.Begins h r (s.rd Reg.MCH_HANDLER_BUDGET)
      ∧ exec (.handlerStart fn i t) s = .next ((s.handlerOn a l t y n r.id).tally Reg.FGR_HCOUNT_RUNS 0x108 (t / 128) (some (fn, x.pd))) := by
  have free : ¬((s.thread t).st ≠ .idle ∨ (!s.handlerThread (hiveOf n) t) = true) := by
    rw [idle, allowed]
    decide
  refine ⟨0x180000 + 4096 * (127 - t % 128), List.replicate 4096 0, ?_⟩
  generalize frame : 0x180000 + 4096 * (127 - t % 128) = a
  generalize zeros : List.replicate 4096 (0 : Byte) = l
  rw [exec_handlerStart, execHandlerStart, s.clocked_runs clocks, if_neg (by rw [admits]; decide), named_qp named there]
  dsimp only
  rw [due]
  dsimp only
  rw [image]
  dsimp only
  rw [if_neg free, frame, zeros]
  apply Exists.intro
  apply And.intro
  rotate_left
  · rfl
  · exact ⟨rfl, rfl, rfl, rfl, rfl, rfl, rfl, rfl, rfl, rfl⟩

/-- Settles O44: each command by its lemma. -/
theorem memoryKeyAndHandlerEvents : Obligations.MemoryKeyAndHandlerEvents := by
  unfold Obligations.MemoryKeyAndHandlerEvents
  intro s link addr a idx fn i n t l x r h pins e held waits
  refine ⟨fun line free sound => ?_, fun line busy => ⟨?_, ?_⟩, fun line free whole => ?_, fun none_ => ⟨?_, ?_⟩, fun draining ended => ?_,
    keyDrainStall_ends pins.1, postingResume_opens pins.1, poolResizeApply_takes pins.1, fun admits named there due image idle allowed => ?_⟩
  · rw [cxlMemRead_serves pins, cxlServe_goes (.inl free)]
    exact congrArg _ (cxlRead_line line sound)
  · rw [cxlMemRead_serves pins, cxlServe_waits line busy]
  · rw [cxlMemWrite_serves pins, cxlServe_waits line busy]
  · rw [cxlMemWrite_serves pins, cxlServe_goes (.inl free)]
    exact congrArg _ (cxlWrite_line line whole)
  · rw [cxlMemRead_serves pins, cxlServe_goes (.inr none_)]
    dsimp only [Option.elim]
    rw [State.cxlRead, none_]
  · rw [cxlMemWrite_serves pins, cxlServe_goes (.inr none_)]
    dsimp only [Option.elim]
    rw [State.cxlWrite, none_]
  · intro cmd
    have ends := keyDrainComplete_ends pins.1 draining ended
    refine ⟨fun g waits => ?_, fun none_ free other => ?_, fun none_ region => ?_⟩
    · rw [ends, show s.tp.funcs.find? (fun p => (p.2.cmd.bind (·.waitKey)) == some idx) = _ from waits]
    · have empty : (s.key idx).unbind = [] := free
      rw [ends, show s.tp.funcs.find? (fun p => (p.2.cmd.bind (·.waitKey)) == some idx) = _ from none_]
      dsimp only
      rw [if_neg other, empty]
      rfl
    · rw [ends, show s.tp.funcs.find? (fun p => (p.2.cmd.bind (·.waitKey)) == some idx) = _ from none_]
      exact if_pos region
  · obtain ⟨a, l, y, begins, started⟩ := handlerStart_begins pins.1 admits named there due image idle allowed
    refine ⟨_, started, ?_⟩
    dsimp only
    rw [tally_thread, handlerOn_thread, tally_qp, handlerOn_qp _ _ _ _ _ _ there]
    refine ⟨begins.st, begins.priv, begins.pc, begins.code, begins.budget, begins.buffer, begins.tag, begins.status, begins.user, begins.run,
      fun v other => ?_, rfl⟩
    rw [tally_thread]
    exact handlerOn_others s a l t y n r.id other

end Sys2Proof.Machine

/-! PROOFS. Translation walks go on (R387, R390, R391, R393, R396). -/

namespace Sys2Proof.Machine

/-! ### The entry that a walk has read -/

section
variable {s : State} {id : Nat} {w : Walk} {v : Word}

theorem judge_invalid (invalid : bit v 0 = false) : s.judge id w v = s.walkFails id w 0x05 17 w.level w.addr :=
  if_pos (by rw [invalid]; rfl)

section
variable (valid : bit v 0 = true)
include valid

/-- A pointer faults at the last level, starts over in its own slot from another, and else goes down. -/
theorem judge_pointer (pointer : bit v 1 = false) : s.judge id w v = if w.level = 0 then s.walkFails id w 0x05 20 w.level w.addr
    else if w.slot.isSome = true then s.ownSlot id w
    else s.descend 5 id { w with
      level := w.level - 1
      nodes := w.nodes ++ [{ ctx := w.ctx, level := w.level, slot := w.va / spanOf w.level, addr := w.addr, value := v }] } (entryAddr v) := by
  rw [State.judge, valid, pointer]
  rfl

/-- A leaf is checked for its size, its place and its rights. -/
theorem judge_leaf (leaf : bit v 1 = true) : s.judge id w v = if leafOk v w.level = false then s.walkFails id w 0x05 20 w.level w.addr
    else if leafCovers w.level w.slotNo w.va v = false then s.ownSlot id w
    else match leafDenied v w.kind with
      | some d => s.walkFails id w 0x05 d w.level w.addr
      | none => if needsBits w.ad v w.kind ∧ !w.prefetch then s.walkCas id w v else s.walkEnds id w v := by
  rw [State.judge, valid, leaf]
  simp only [Bool.not_eq_true']
  rfl

end
end

/-! ### Answers -/

section
variable {s : State} {id : Nat} {w : Walk} (there : mget s.xl.walks id = some w)
include there

section
variable (pins : s.pins)
include pins

theorem walkReadResponse_data (free : w.cas = none) {b : List Byte} {v : Word} {u t : State}
    (counted : s.count 0x1C1 (w.ctx / 256) 8 (s.walkOwner w) = u) (read : BitVec.ofNat 64 (ofLE (slice b 0 8)) = v) (judged : u.judge id w v = t) :
    exec (.walkReadResponse id (.data b)) s = .next (settle t.pumpAll) := by
  subst judged read counted
  rw [exec_walkReadResponse, execWalkReadResponse, s.atPins_runs pins.1 pins.2, there]
  exact if_neg (by rw [free]; decide)

theorem walkReadResponse_error (free : w.cas = none) :
    exec (.walkReadResponse id .error) s = .next (settle (s.walkFails id w 0x06 14 w.level w.addr).pumpAll) := by
  rw [exec_walkReadResponse, execWalkReadResponse, s.atPins_runs pins.1 pins.2, there]
  exact if_neg (by rw [free]; decide)

section
variable {e : Word} (cas : w.cas = some e) {b : List Byte} {v : Word} (read : BitVec.ofNat 64 (ofLE (slice b 0 8)) = v)
include cas read

theorem adCasResponse_same (same : v = e) : exec (.adCasResponse id (.data b)) s
    = .next (settle ((s.count 0x1C1 (w.ctx / 256) 8 (s.walkOwner w)).walkEnds id w (withBits e w.kind)).pumpAll) := by
  rw [exec_adCasResponse, execAdCasResponse, s.atPins_runs pins.1 pins.2, there]
  dsimp only
  rw [cas]
  dsimp only
  rw [read]
  exact if_pos same

/-- A CAS that finds another entry starts over without its cached leaf, and faults after the last retry. -/
theorem adCasResponse_other (other : v ≠ e) {r t : State}
    (counted : (s.count 0x1C1 (w.ctx / 256) 8 (s.walkOwner w)).tally Reg.XLT_COUNT_AD_RESTARTS 0x1CD 0 (some (w.ctx, 0)) = r)
    (dropped : ({ r with xl := { r.xl with leaves := r.xl.leaves.filter fun c => !(c.ctx == w.ctx && c.addr == w.addr) } } : State).xlShown = t)
    (limit : t.rd Reg.XLT_CFG_AD_RETRIES = r.rd Reg.XLT_CFG_AD_RETRIES) :
    exec (.adCasResponse id (.data b)) s = .next (settle (if w.tries + 1 = r.rd Reg.XLT_CFG_AD_RETRIES
      then t.walkFails id { w with tries := w.tries + 1, cas := none } 0x05 21 w.level w.addr
      else t.walkRead id { w with tries := w.tries + 1, cas := none }).pumpAll) := by
  rw [exec_adCasResponse, execAdCasResponse, s.atPins_runs pins.1 pins.2, there]
  dsimp only
  rw [cas]
  dsimp only
  rw [read, if_neg other, counted, dropped, limit]
  split <;> rfl

end
end

theorem walkTimeout_fails (clocks : s.clocks) : exec (.walkTimeout id) s = .next (settle (s.walkFails id w 0x06 13 w.level w.addr).pumpAll) := by
  rw [exec_walkTimeout, execWalkTimeout, s.clocked_runs clocks, there]
  rfl

end

/-- The registers of the cache's occupancy are none of the unit's settings. -/
theorem xlShown_limit (u : State) : u.xlShown.rd Reg.XLT_CFG_AD_RETRIES = u.rd Reg.XLT_CFG_AD_RETRIES :=
  (rd_wr_apart _ _ (by decide)).trans (rd_wr_apart _ _ (by decide))

theorem prefetchWalk_starts {s : State} {fn va : Nat} (clocks : s.clocks) (function : fn < 2048) (small : va < 2 ^ 57)
    (prefetch : s.on Reg.XLT_CFG_PREFETCH = true) (enable : s.on Reg.XLT_CTX_ENABLE fn = true) (missed : ∀ c ∈ s.xl.leaves, c.covers fn va = false)
    (alone : ∀ y ∈ s.xl.walks, y.2.ctx = fn → y.2.va / 4096 ≠ va / 4096) :
    exec (.prefetchWalk fn va) s = .next (settle (s.startWalk (s.opened (.command fn) fn va 1 accRead) va true none)) := by
  have uncached : (s.xl.leaves.any (·.covers fn va)) = false := by
    rw [List.any_eq_false]
    exact fun c mem => ne_true_of_eq_false (missed c mem)
  have unwalked : (s.xl.walks.any fun w => w.2.ctx == fn && w.2.va / 4096 == va / 4096) = false := by
    rw [List.any_eq_false]
    intro y mem same
    obtain ⟨mine, page⟩ := (Bool.and_eq_true ..).mp same
    exact alone y mem (beq_iff_eq.1 mine) (beq_iff_eq.1 page)
  rw [exec_prefetchWalk, execPrefetchWalk, s.clocked_runs clocks]
  exact if_pos ⟨function, small, prefetch, enable, by rw [uncached]; rfl, by rw [unwalked]; rfl⟩

/-! ### A walk that ends for an access to its entries -/

theorem xlFault_xl (s : State) (fn va kind status detail level addr : Nat) : (s.xlFault fn va kind status detail level addr).xl = s.xl := by
  have raised : (if status = St.walkAccessFault ∨ status = St.walkTargetFault then s.raise 0x302 fn else s).xl = s.xl := by
    split
    · exact raise_xl ..
    · rfl
  rw [State.xlFault, tally_xl]
  generalize (if status = St.walkAccessFault ∨ status = St.walkTargetFault then s.raise 0x302 fn else s) = u at raised ⊢
  dsimp only
  split
  · exact raised
  · exact raised

theorem modOpened_xl (s : State) (w : Walk) (f : Opened → Opened) : (s.modOpened w f).xl.leaves = s.xl.leaves
    ∧ (s.modOpened w f).xl.nodes = s.xl.nodes ∧ (s.modOpened w f).xl.walks = s.xl.walks := by
  unfold State.modOpened
  split <;> exact ⟨rfl, rfl, rfl⟩

theorem walkFails_eq (s : State) (id d level addr : Nat) (w : Walk) {u : State} (ended : { s with xl := { s.xl with walks := mdel s.xl.walks id } } = u) :
    s.walkFails id w 0x06 d level addr = if w.prefetch then u
      else (u.xlFault w.ctx w.va w.kind 0x06 d level addr).modOpened w ({ · with fault := some (0x06, d) }) := by
  subst ended
  rfl

/-- A walk that fails at an access leaves the caches as they are. -/
theorem walkFails_xl (s : State) (id d level addr : Nat) (w : Walk) : (s.walkFails id w 0x06 d level addr).xl.leaves = s.xl.leaves
    ∧ (s.walkFails id w 0x06 d level addr).xl.nodes = s.xl.nodes ∧ (s.walkFails id w 0x06 d level addr).xl.walks = mdel s.xl.walks id := by
  rw [walkFails_eq s id d level addr w rfl]
  split
  · exact ⟨rfl, rfl, rfl⟩
  · obtain ⟨leaves, nodes, walks⟩ := modOpened_xl (({ s with xl := { s.xl with walks := mdel s.xl.walks id } } : State).xlFault w.ctx w.va w.kind 0x06 d
      level addr) w ({ · with fault := some (0x06, d) })
    rw [xlFault_xl] at leaves nodes walks
    exact ⟨leaves, nodes, walks⟩

theorem mget_mdel_same {β : Type} (m : Map β) (a : Nat) : mget (mdel m a) a = none := by
  induction m with
  | nil => rfl
  | cons p m ih =>
    rw [mdel, List.filter_cons]
    split
    · next other => exact (if_neg (bne_iff_ne.1 other)).trans ih
    · exact ih

/-- Settles O45: each answer by its lemma, and the walk's entry by `judge_invalid`, `judge_pointer` and `judge_leaf`. -/
theorem walksGoOn : Obligations.WalksGoOn := by
  unfold Obligations.WalksGoOn
  refine ⟨fun s id fn va w b e pins there => ?_, fun s id d level addr w => ?_⟩
  · intro v u reads fault node
    refine ⟨fun free => ?_, fun cas same => adCasResponse_same there pins cas rfl same, fun cas other => ?_, walkTimeout_fails there pins.1,
      fun function small prefetch enable missed alone => prefetchWalk_starts pins.1 function small prefetch enable missed alone⟩
    · have judged {t : State} (h : u.judge id w v = t) : reads t := walkReadResponse_data there pins free rfl rfl h
      refine ⟨fun invalid => judged (judge_invalid invalid), fun valid pointer last => ?_, fun valid pointer above own => ?_,
        fun valid pointer above other => ?_, fun valid leaf bad => ?_, fun valid leaf sound apart => ?_, fun valid leaf sound covers => ?_,
        walkReadResponse_error there pins free⟩
      · exact judged ((judge_pointer valid pointer).trans (if_pos last))
      · exact judged ((judge_pointer valid pointer).trans ((if_neg above).trans (if_neg (by rw [own]; decide))))
      · exact judged ((judge_pointer valid pointer).trans ((if_neg above).trans (if_pos (Option.isSome_iff_ne_none.2 other))))
      · exact judged ((judge_leaf valid leaf).trans (if_pos bad))
      · exact judged ((judge_leaf valid leaf).trans ((if_neg (by rw [sound]; decide)).trans (if_pos apart)))
      · have checked := (judge_leaf (s := u) (id := id) valid leaf).trans ((if_neg (by rw [sound]; decide)).trans (if_neg (by rw [covers]; decide)))
        refine ⟨fun d denied => ?_, fun granted needs own => ?_, fun granted none_ => ?_⟩
        · rw [denied] at checked
          exact judged checked
        · rw [granted] at checked
          exact judged (checked.trans (if_pos ⟨needs, by rw [own]; rfl⟩))
        · rw [granted] at checked
          have done : ¬(needsBits w.ad v w.kind = true ∧ (!w.prefetch) = true) := by
            rintro ⟨needs, own⟩
            rcases none_ with none_ | none_
            · exact ne_true_of_eq_false none_ needs
            · rw [none_] at own
              cases own
          exact judged (checked.trans (if_neg done))
    · intro r t x
      exact adCasResponse_other there pins cas rfl other rfl rfl (xlShown_limit _)
  · obtain ⟨leaves, nodes, walks⟩ := walkFails_xl s id d level addr w
    exact ⟨leaves, nodes, by rw [walks]; exact mget_mdel_same ..⟩

end Sys2Proof.Machine

/-! PROOFS. What leaves the fronds as they are: samples, packets on their way out, key references, and descriptors that finish. -/

namespace Sys2Proof.Machine

section
variable (s : State)

theorem drawInterval_sw (packet : Bool) : (s.drawInterval packet).sw = s.sw := by
  unfold State.drawInterval
  dsimp only
  split <;> rfl

theorem sample_sw (packet : Bool) (o : Owner) (what : Nat) (whr : Word) (thread t0 : Nat) : (s.sample packet o what whr thread t0).1.sw = s.sw := by
  unfold State.sample
  split
  · rfl
  · dsimp only
    generalize (if packet then s.ctr.leftPkt else s.ctr.left) = n
    split
    · dsimp only
      split <;> rfl
    · split
      · exact drawInterval_sw s packet
      · exact drawInterval_sw s packet

theorem commit_still (a : Nat) (l : List Byte) : s.still (s.commit a l) := by
  obtain ⟨-, tp, mt, sw⟩ := commit_parts s a l 0
  exact ⟨tp, mt, sw⟩

theorem still_of_commit {u : State} (same : s.still u) (a : Nat) (l : List Byte) (f : Fld) (v : Nat) : s.still ((u.commit a l).wr f v) := by
  obtain ⟨tp, mt, sw⟩ := commit_still u a l
  exact ⟨tp.trans same.1, mt.trans same.2.1, sw.trans same.2.2⟩

theorem endTag_still (tag : Option Nat) (tr : Bool) : s.still (s.endTag tag tr) := by
  unfold State.endTag
  split
  · exact ⟨rfl, rfl, rfl⟩
  · dsimp only
    split
    · exact ⟨rfl, rfl, rfl⟩
    · apply still_of_commit
      exact ⟨rfl, rfl, rfl⟩

theorem endTag_sw (tag : Option Nat) (tr : Bool) : (s.endTag tag tr).sw = s.sw := by
  obtain ⟨-, -, sw⟩ := endTag_still s tag tr
  exact sw

theorem corrected_sw (p : SoftSite → Bool) (k : Nat) : (s.corrected p k).sw = s.sw := by
  unfold State.corrected
  split
  · exact raise_sw ..
  · rfl

theorem returnCredit_sw (port : Nat) (p : Packet) : (s.returnCredit port p).sw = s.sw := by
  unfold State.returnCredit
  dsimp only
  split <;> rfl

theorem toEgress_sw (port : Nat) (x : InPkt) : (s.toEgress port x).sw = s.sw := by
  unfold State.toEgress
  dsimp only
  split
  · rw [endTag_sw, returnCredit_sw, raise_sw]
    exact corrected_sw ..
  · exact corrected_sw ..

theorem swarmSend_sw (edge : Nat) (h : SwarmHeader) (l : List Byte) : (s.swarmSend edge h l).sw = s.sw := by
  unfold State.swarmSend
  dsimp only
  split
  · rfl
  · split
    · rfl
    · exact (toEgress_sw ..).trans (sample_sw ..)

theorem takeRef_sw (i : Nat) : (s.takeRef i).sw = s.sw := (setKey_sw ..).trans (bringKey_sw ..)

theorem dropRef_sw (i : Nat) : (s.dropRef i).sw = s.sw := setKey_sw ..

theorem modQp_sw (n : Nat) (f : Qp → Qp) : (s.modQp n f).sw = s.sw := by
  unfold State.modQp
  split <;> rfl

theorem dropLocal_sw (n id : Nat) : (s.dropLocal n id).sw = s.sw := by
  unfold State.dropLocal
  split
  · dsimp only
    split <;> split <;> simp only [dropRef_sw, State.modDesc, modQp_sw]
  · rfl

theorem sendCompletion_sw (n : Nat) (q : Qp) (d : Desc) : (s.sendCompletion n q d).sw = s.sw := by
  unfold State.sendCompletion
  split <;> rfl

end

/-- A fold of steps that each leave the fronds as they are does so too. -/
theorem foldl_sw {β : Type} {f : State → β → State} (keeps : ∀ u x, (f u x).sw = u.sw) (l : List β) (s : State) : (l.foldl f s).sw = s.sw := by
  induction l generalizing s with
  | nil => rfl
  | cons x l ih => exact (ih _).trans (keeps s x)

section
variable (s : State)

theorem drainSq_sw (n : Nat) : (s.drainSq n).sw = s.sw := by
  unfold State.drainSq
  split
  · rfl
  · next q _ =>
    have sent (l : List Desc) (u : State) (r : Qp) : (l.foldl (fun s d => s.sendCompletion n r d) u).sw = u.sw :=
      foldl_sw (fun u d => sendCompletion_sw u n r d) l u
    dsimp only
    split
    · exact sent ..
    · exact sent ..

theorem finishDesc_sw (n id st : Nat) (remote : Bool) (detail : Nat) (result : Word) : (s.finishDesc n id st remote detail result).sw = s.sw := by
  unfold State.finishDesc
  rw [drainSq_sw, State.modDesc, modQp_sw, dropLocal_sw]

theorem dropSwarmIo_sw (gid lkey : Nat) : (s.dropSwarmIo gid lkey).sw = s.sw := by
  unfold State.dropSwarmIo
  exact foldl_sw (fun u _ => takeRef_sw u _) _ _

end

end Sys2Proof.Machine

/-! PROOFS. Collective descriptors, swarm packets, staging cells, epoch timers and aborts (R154 to R166, R181 to R183). -/

namespace Sys2Proof.Machine

/-! ### Aborts -/

/-- The fronds of a state are those of another. -/
def State.frondsOf (s u : State) : Prop := u.sw = s.sw

section
variable {s u v : State}

theorem frondsOf_trans (h : s.frondsOf u) (g : u.frondsOf v) : s.frondsOf v := Eq.trans g h

theorem frondsOf_ite {c : Prop} [Decidable c] (h : s.frondsOf u) (g : s.frondsOf v) : s.frondsOf (if c then u else v) := by
  split
  · exact h
  · exact g

theorem frondsOf_tally (h : s.frondsOf u) (f : Fld) (ev : Nat) : s.frondsOf (u.tally f ev) := frondsOf_trans h (tally_sw ..)

theorem frondsOf_raise (h : s.frondsOf u) (k info : Nat) : s.frondsOf (u.raise k info) := frondsOf_trans h (raise_sw ..)

theorem frondsOf_wr (h : s.frondsOf u) (f : Fld) (x : Nat) : s.frondsOf (u.wr f x) := frondsOf_trans h (Eq.refl u.sw)

end

/-- The frond that an abort leaves. -/
def Frond.abort (f : Frond) (number reason : Nat) : Frond :=
  { f with st := .aborted, cur := none, nxt := none, held := [], epoch := number, lastReason := reason }

/-- An abort changes the fronds in its own frond. -/
theorem swarmAbort_fronds {s : State} {gid : Nat} {f : Frond} (there : mget s.sw.fronds gid = some f) (live : f.st ≠ .aborted) (reason port : Nat) :
    (s.setFrond gid (f.abort ((f.cur.map (·.number)).getD f.epoch) reason)).slotsShown.frondsOf (s.swarmAbort gid reason port) := by
  rw [State.swarmAbort, there]
  dsimp only
  rw [if_neg live]
  have logged {u v : State} (h : u.frondsOf v) (e : Nat) : u.frondsOf (if v.on Reg.SWM_ABORT_LOG_VALID then v
      else ((((v.wr Reg.SWM_ABORT_LOG_VALID 1).wr Reg.SWM_ABORT_LOG_REASON reason).wr Reg.SWM_ABORT_LOG_GID gid).wr Reg.SWM_ABORT_LOG_EPOCH e).wr
        Reg.SWM_ABORT_LOG_PORT port) :=
    frondsOf_ite h (frondsOf_wr (frondsOf_wr (frondsOf_wr (frondsOf_wr (frondsOf_wr h _ _) _ _) _ _) _ _) _ _)
  have counted {u v : State} (h : u.frondsOf v) (c : Prop) [Decidable c] (f : Fld) (ev : Nat) : u.frondsOf (if c then v.tally f ev else v) :=
    frondsOf_ite (frondsOf_tally h f ev) h
  refine logged (counted (counted (frondsOf_tally (frondsOf_raise ?_ _ _) _ _) _ _ _) _ _ _) _
  have told {u : State} (l : List Nat) (h : SwarmHeader) (m : List Nat) (key : Nat) : u.frondsOf (m.foldl (fun s id => s.finishDesc f.qpn id St.aborted false reason)
      (l.foldl (fun s t => s.swarmSend t h []) (u.dropSwarmIo gid key))) :=
    (foldl_sw (fun u id => finishDesc_sw u f.qpn id St.aborted false reason 0) m _).trans
      ((foldl_sw (fun u t => swarmSend_sw u t h []) l _).trans (dropSwarmIo_sw ..))
  split
  · exact frondsOf_trans (told _ _ _ _) (Eq.refl _)
  · exact told _ _ _ _

theorem swarmAbort_frond {s : State} {gid : Nat} {f : Frond} (there : mget s.sw.fronds gid = some f) (live : f.st ≠ .aborted) (reason port g : Nat) :
    mget (s.swarmAbort gid reason port).sw.fronds g
      = mget (mset s.sw.fronds gid (f.abort ((f.cur.map (·.number)).getD f.epoch) reason)) g :=
  congrArg (fun w : Swarm => mget w.fronds g) (swarmAbort_fronds there live reason port)

theorem swarmAbort_aborted {s : State} {gid : Nat} {f : Frond} (there : mget s.sw.fronds gid = some f) (aborted : f.st = .aborted) (reason port : Nat) :
    s.swarmAbort gid reason port = s := by
  rw [State.swarmAbort, there]
  exact if_pos aborted

/-! ### Collective descriptors -/

/-- A send descriptor that send processing has come to starts. -/
theorem runSend_runs {s : State} {fn i n op : Nat} {x : Qp} {d : Desc} (named : s.qpnOf fn i = some n) (there : s.qp n = some x)
    (start : x.startable op = some d) (f : Nat → Qp → Desc → State) : s.runSend fn i op f = .next (settle ((f n x d).peerWait n)) := by
  rw [State.runSend, named_qp named there]
  dsimp only
  rw [start]
  rfl

/-- The state in which a collective descriptor has been sent, with references on the keys that it reads and writes. -/
def State.sentCollective (s : State) (n : Nat) (x : Qp) (d : Desc) : State :=
  let u := s.modDesc n d.id fun z => { z with st := .sent, localRef := s.descReads x d, outRef := s.descWrites x d }
  let u := if s.descReads x d then u.takeRef (keyIndex d.lkey) else u
  if s.descWrites x d then u.takeRef (keyIndex d.rkey) else u

theorem startCollective_joins {s : State} {n : Nat} {x : Qp} {d : Desc} (admits : s.admits 4 = true) (sound : s.collectiveFault n x d = none) :
    s.startCollective n x d = (s.sentCollective n x d).joinEpoch n d.gid d := by
  rw [State.startCollective, if_neg (by rw [admits]; decide), sound]
  rfl

theorem collective_joins {s : State} {c : Instr} {op fn i n : Nat} {x : Qp} {d : Desc} (clocks : s.clocks)
    (runs : exec c s = s.clocked (s.runSend fn i op s.startCollective)) (named : s.qpnOf fn i = some n) (there : s.qp n = some x)
    (start : x.startable op = some d) (admits : s.admits 4 = true) (sound : s.collectiveFault n x d = none) :
    exec c s = .next (settle (((s.sentCollective n x d).joinEpoch n d.gid d).peerWait n)) := by
  rw [runs, s.clocked_runs clocks, runSend_runs named there start, startCollective_joins admits sound]

section
variable {s : State} {n gid : Nat} {d : Desc} {f : Frond} (there : mget s.sw.fronds gid = some f) (idle : f.cur = none)
include there idle

theorem joinEpoch_begins (free : s.slotFree = true) : mget (s.joinEpoch n gid d).sw.fronds gid
    = some { f with st := .active, cur := some { s.newEpoch f.epoch d.opId with member := some (n, d.id) } } := by
  rw [State.joinEpoch, there]
  dsimp only
  rw [idle]
  dsimp only
  rw [if_neg (by rw [free]; decide)]
  exact mget_mset_same _ _ _

theorem joinEpoch_full (full : s.slotFree = false) : s.joinEpoch n gid d = s.swarmAbort gid 7 127 none none (some d.swarmHeader) := by
  rw [State.joinEpoch, there]
  dsimp only
  rw [idle]
  exact if_pos (by rw [full]; rfl)

end

/-! ### Swarm packets -/

section
variable {s : State} {port : Nat} {p : Packet} {h : SwarmHeader} {y : InPkt} {row : Nat → Bool} {taken : State} (body : p.body = .swarm h)
  (admits : s.admits 4 = true) (there : s.rt.delivered.find? (fun z => z.port == port && z.pkt.same p) = some y) (plain : y.tag = none)
  (took : { s with rt := { s.rt with delivered := s.rt.delivered.erase y } } = taken) (mine : row h.kind = true)
include body admits there plain took mine

/-- A delivered swarm packet of its row leaves the delivered ones, and acts or joins the queue of port 88. -/
theorem runSwarm_takes : s.runSwarm port p row = .next (settle (if h.kind = 0 then { taken with sw := { taken.sw with up := taken.sw.up ++ [(port, p)] } }
    else ((taken.swarmPacket port h p.payload).getD taken).returnCredit port p)) := by
  rw [State.runSwarm, body, there]
  dsimp only
  rw [if_neg (by rw [mine, admits]; decide), plain, State.endTag, Option.bind_none]
  subst took
  dsimp only
  split <;> rfl

end

section
variable {s : State} {port : Nat} {p : Packet} {h : SwarmHeader} (body : p.body = .swarm h) (sole : s.sw.up = [(port, p)])
include body sole

theorem upDrain_acts {v : State} (acts : s.swarmPacket port h p.payload = some v) :
    s.upDrain 1 = State.returnCredit { v with sw := { v.sw with up := [] } } port p := by
  rw [State.upDrain, sole]
  dsimp only
  rw [body]
  dsimp only
  rw [acts]
  rfl

theorem upDrain_waits (waits : s.swarmPacket port h p.payload = none) : s.upDrain 1 = s := by
  rw [State.upDrain, sole]
  dsimp only
  rw [body]
  dsimp only
  rw [waits]

end

/-! ### Staging cells and epoch timers -/

section
variable {s : State} {gid : Nat} {f : Frond} (clocks : s.clocks) (there : mget s.sw.fronds gid = some f)
include clocks there

theorem stagingCellFree_frees {cell : Nat} (held : f.held.contains cell = true) :
    exec (.stagingCellFree gid cell) s = .next (settle (s.setFrond gid { f with held := f.held.filter (· != cell) })) := by
  rw [exec_stagingCellFree, execStagingCellFree, s.clocked_runs clocks, there]
  exact if_pos held

theorem epochTimeout_aborts (busy : f.cur.isSome = true) : exec (.epochTimeout gid) s = .next (settle (s.swarmAbort gid 1 127)) := by
  rw [exec_epochTimeout, execEpochTimeout, s.clocked_runs clocks, there]
  exact if_pos busy

end

/-- Settles O46: each command by its lemma, and the abort by `swarmAbort_frond`. -/
theorem swarmEventsAct : Obligations.SwarmEventsAct := by
  unfold Obligations.SwarmEventsAct
  refine ⟨fun s fn i n gid port cell x d f p h y v clocks => ?_, fun s gid reason port f there => ⟨fun aborted => ?_, fun live => ?_, fun g other => ?_⟩⟩
  · intro joins taken there acts
    refine ⟨⟨?_, ?_, ?_, ?_⟩, ⟨?_, ?_⟩, ?_, fun body sole => ⟨upDrain_acts body sole, upDrain_waits body sole⟩,
      fun frond => ⟨stagingCellFree_frees clocks frond, epochTimeout_aborts clocks frond, fun idle free => joinEpoch_begins frond idle free,
        fun idle full => joinEpoch_full frond idle full⟩⟩
    · exact fun named queue start admits sound => collective_joins (c := .barrier fn i) clocks rfl named queue start admits sound
    · exact fun named queue start admits sound => collective_joins (c := .reduce fn i) clocks rfl named queue start admits sound
    · exact fun named queue start admits sound => collective_joins (c := .allreduce fn i) clocks rfl named queue start admits sound
    · exact fun named queue start admits sound => collective_joins (c := .broadcast fn i) clocks rfl named queue start admits sound
    · rintro ⟨body, admits, delivered, plain⟩ kind acted
      rw [exec_swarmDownPacket, execSwarmDownPacket, s.clocked_runs clocks, runSwarm_takes body admits delivered plain rfl (by rw [kind]; rfl),
        if_neg (by rw [kind]; decide), show State.swarmPacket _ port h p.payload = _ from acted]
      rfl
    · rintro ⟨body, admits, delivered, plain⟩ kind acted
      rw [exec_swarmAbortPacket, execSwarmAbortPacket, s.clocked_runs clocks, runSwarm_takes body admits delivered plain rfl (by rw [kind]; rfl),
        if_neg (by rw [kind]; decide), show State.swarmPacket _ port h p.payload = _ from acted]
      rfl
    · rintro ⟨body, admits, delivered, plain⟩ kind
      rw [exec_swarmUpPacket, execSwarmUpPacket, s.clocked_runs clocks, runSwarm_takes body admits delivered plain rfl (by rw [kind]; rfl), if_pos kind]
  · exact swarmAbort_aborted there aborted reason port
  · rw [swarmAbort_frond there live]
    exact mget_mset_same _ _ _
  · by_cases aborted : f.st = .aborted
    · rw [swarmAbort_aborted there aborted]
    · rw [swarmAbort_frond there aborted]
      exact mget_mset_other _ _ _ _ other

end Sys2Proof.Machine

/-! PROOFS. The starts of send descriptors, and the windows that they bind (R51, R53, R81, R90 to R93, R126). -/

namespace Sys2Proof.Machine

/-! ### What a change of a descriptor leaves -/

/-- Two states with the same keys and registers. -/
def State.sameKeys (s u : State) : Prop := u.km = s.km ∧ u.regs = s.regs

theorem modDesc_keys (s : State) (n j : Nat) (f : Desc → Desc) : s.sameKeys (s.modDesc n j f) := by
  unfold State.modDesc State.modQp
  split <;> exact ⟨rfl, rfl⟩

/-- The local check looks at keys and registers only. -/
theorem checkLocal_congr {s u : State} (same : s.sameKeys u) (k fn pd right a n : Nat) :
    u.checkLocal k fn pd right a n = s.checkLocal k fn pd right a n := by
  obtain ⟨km, regs⟩ := same
  have key (i : Nat) : u.key i = s.key i := by rw [State.key, km]; rfl
  have shown (f : Fld) (i j : Nat) : u.rd f i j = s.rd f i j := by rw [State.rd, State.reg, regs]; rfl
  have limit : u.keyLimit = s.keyLimit := by
    unfold State.keyLimit
    rw [show u.useBytes 5 = s.useBytes 5 by simp only [State.useBytes, State.partsOf, State.partOf, shown]]
  unfold State.checkLocal State.keyThere
  rw [key, limit]

theorem modDesc_key (s : State) (n j i : Nat) (f : Desc → Desc) : (s.modDesc n j f).key i = s.key i := by
  rw [State.key, (modDesc_keys s n j f).1]
  rfl

/-! ### Transfers -/

theorem startable_opcode {x : Qp} {op : Nat} {d : Desc} (start : x.startable op = some d) : d.opcode = op := by
  unfold Qp.startable at start
  split at start
  · dsimp only at start
    split at start
    next may => exact Option.some.inj start ▸ may.2.1
    · cases start
  · cases start

section
variable (s : State) (n right : Nat) (x : Qp) (d : Desc)

/-- The state in which a descriptor's packets are being built. -/
def State.buildsDesc (j : Nat) : State := s.modDesc n j ({ · with st := .building 0 })

theorem startTransfer_unchecked : s.startTransfer n x d right false = s.buildsDesc n d.id := rfl

theorem startTransfer_checked {len : Nat} (length : (if d.opcode = 0x20 then d.msgLen else d.len) = len)
    (sound : s.checkLocal d.lkey x.fn x.pd right d.laddr len = none) :
    s.startTransfer n x d right true = (s.takeLocal n d).buildsDesc n d.id := by
  rw [State.startTransfer, if_neg (by decide), length, sound]
  rfl

theorem startTransfer_fails {len dt : Nat} (length : (if d.opcode = 0x20 then d.msgLen else d.len) = len)
    (bad : s.checkLocal d.lkey x.fn x.pd right d.laddr len = some dt) : s.startTransfer n x d right true = s.failDesc n d.id 0x04 false dt := by
  rw [State.startTransfer, if_neg (by decide), length, bad]
  rfl

end

section
variable (s : State) (n : Nat) (x : Qp) (d : Desc) (tagged : d.opcode = 0x20)

/-- The state in which a tagged send has chosen its protocol. -/
def State.choosesProtocol (r : Bool) : State := s.modDesc n d.id ({ · with rndv := r })

theorem startTagged_eq {r : Bool} (chosen : s.byRendezvous d = r) :
    s.startTagged n x d = (s.choosesProtocol n d r).startTransfer n x { d with rndv := r } (if r then 2 else 0) true := chosen ▸ rfl

theorem choosesProtocol_checks (r : Bool) (k fn pd right a m : Nat) :
    (s.choosesProtocol n d r).checkLocal k fn pd right a m = s.checkLocal k fn pd right a m := checkLocal_congr (modDesc_keys ..) ..

include tagged

theorem tagged_begins {r : Bool} {right : Nat} (sound : s.checkLocal d.lkey x.fn x.pd right d.laddr d.msgLen = none) :
    s.startTransfer n x { d with rndv := r } right true = (s.takeLocal n d).buildsDesc n d.id :=
  startTransfer_checked s n right x { d with rndv := r } (len := d.msgLen) (if_pos tagged) sound

theorem tagged_fails {r : Bool} {right dt : Nat} (bad : s.checkLocal d.lkey x.fn x.pd right d.laddr d.msgLen = some dt) :
    s.startTransfer n x { d with rndv := r } right true = s.failDesc n d.id 0x04 false dt :=
  startTransfer_fails s n right x { d with rndv := r } (len := d.msgLen) (if_pos tagged) bad

section
variable {r : Bool} (chosen : s.byRendezvous d = r)
include chosen

theorem startTagged_begins (sound : s.checkLocal d.lkey x.fn x.pd (if r then 2 else 0) d.laddr d.msgLen = none) :
    s.startTagged n x d = ((s.choosesProtocol n d r).takeLocal n d).buildsDesc n d.id := by
  rw [startTagged_eq s n x d chosen, tagged_begins _ n x d tagged ((choosesProtocol_checks ..).trans sound)]

theorem startTagged_fails {dt : Nat} (bad : s.checkLocal d.lkey x.fn x.pd (if r then 2 else 0) d.laddr d.msgLen = some dt) :
    s.startTagged n x d = (s.choosesProtocol n d r).failDesc n d.id 0x04 false dt := by
  rw [startTagged_eq s n x d chosen, tagged_fails _ n x d tagged ((choosesProtocol_checks ..).trans bad)]

end

end

/-! ### Windows -/

section
variable {s : State} {n : Nat} {q : Qp} {d : Desc} (first : q.firstSent d = true)
include first

theorem bindWindow_fails {dt : Nat} (bad : s.checkBind q d = some dt) : s.bindWindow n q d = s.failDesc n d.id 0x04 false dt := by
  rw [State.bindWindow, if_neg (by rw [first]; decide), bad]
  rfl

theorem bindWindow_binds (sound : s.checkBind q d = none) {v : State} {p : KeyEntry} (brought : s.bringKey (keyIndex d.rkey) = v)
    (parent : v.key (keyIndex d.lkey) = p) :
    s.bindWindow n q d = (v.setKey (keyIndex d.rkey) { v.key (keyIndex d.rkey) with
      bound := true, rights := d.op0.toNat % 2 ^ 8, base := d.laddr, length := d.len, parent := keyIndex d.lkey, store := p.store,
      storeAddr := if p.store then p.storeAddr + (d.laddr - p.base) else 0 }).finishDesc n d.id 0 false 0 (BitVec.ofNat 64 d.rkey) := by
  rw [State.bindWindow, if_neg (by rw [first]; decide), sound]
  dsimp only
  rw [brought, parent, bits_from0]
  rfl

theorem unbindWindow_revokes (sound : s.checkWindow d.rkey q.fn q.pd = none) (current : (s.key (keyIndex d.rkey)).generation = keyGen d.rkey)
    (bound : (s.key (keyIndex d.rkey)).bound = true) {u : State} (revoked : s.revoke (keyIndex d.rkey) = u) :
    (s.unbindWindow n q d).key (keyIndex d.rkey)
      = { u.key (keyIndex d.rkey) with unbind := (u.key (keyIndex d.rkey)).unbind ++ [(n, d.id)] } := by
  rw [State.unbindWindow, if_neg (by rw [first]; decide), sound]
  dsimp only
  rw [if_neg (by rw [current, bound]; simp), revoked, modDesc_key, key_setKey_same]

end

/-- A revoked entry is unbound, drains, and has the next generation. -/
theorem revoke_key (s : State) (i : Nat) : ((s.revoke i).key i).bound = false ∧ ((s.revoke i).key i).draining = true
    ∧ ((s.revoke i).key i).generation = nextGen (s.key i).generation := by
  obtain ⟨o, same⟩ := bringKey_key s i
  rw [State.revoke, key_setKey_same, same]
  exact ⟨rfl, rfl, rfl⟩

theorem unbindWindow_entry {s u : State} {n : Nat} {q : Qp} {d : Desc} {e : KeyEntry} (first : q.firstSent d = true)
    (sound : s.checkWindow d.rkey q.fn q.pd = none) (current : (s.key (keyIndex d.rkey)).generation = keyGen d.rkey)
    (bound : (s.key (keyIndex d.rkey)).bound = true) (revoked : s.revoke (keyIndex d.rkey) = u)
    (same : (s.unbindWindow n q d).key (keyIndex d.rkey) = e) :
    e.bound = false ∧ e.draining = true ∧ (n, d.id) ∈ e.unbind ∧ e.generation = nextGen (s.key (keyIndex d.rkey)).generation := by
  obtain ⟨unbound, drains, next⟩ := revoke_key s (keyIndex d.rkey)
  rw [revoked] at unbound drains next
  rw [unbindWindow_revokes first sound current bound revoked] at same
  subst same
  exact ⟨unbound, drains, List.mem_append_right _ (List.mem_singleton.2 rfl), next⟩

/-! ### The commands -/

section
variable (s : State) (n : Nat) (x : Qp) (d : Desc)

/-- What a GET starts. -/
def State.startGet (s : State) (n : Nat) (x : Qp) (d : Desc) : State :=
  if d.len = 0 then
    match s.checkLocal d.lkey x.fn x.pd rLocalWrite d.laddr 0 with
    | some dt => s.failDesc n d.id St.localProt false dt
    | none => s.finishDesc n d.id St.success
  else s.startTransfer n x d rLocalWrite true

section
variable (get : d.opcode ≠ 0x20)
include get

theorem startGet_begins (some_ : d.len ≠ 0) (sound : s.checkLocal d.lkey x.fn x.pd 1 d.laddr d.len = none) :
    s.startGet n x d = (s.takeLocal n d).buildsDesc n d.id := by
  rw [State.startGet, if_neg some_]
  exact startTransfer_checked _ _ _ _ _ (if_neg get) sound

theorem startGet_fails {dt : Nat} (bad : s.checkLocal d.lkey x.fn x.pd 1 d.laddr d.len = some dt) :
    s.startGet n x d = s.failDesc n d.id 0x04 false dt := by
  by_cases zero : d.len = 0
  · rw [zero] at bad
    rw [State.startGet, if_pos zero, show s.checkLocal d.lkey x.fn x.pd rLocalWrite d.laddr 0 = some dt from bad]
    rfl
  · rw [State.startGet, if_neg zero]
    exact startTransfer_fails _ _ _ _ _ (if_neg get) bad

end

theorem startGet_empty (zero : d.len = 0) (sound : s.checkLocal d.lkey x.fn x.pd 1 d.laddr 0 = none) :
    s.startGet n x d = s.finishDesc n d.id 0 := by
  rw [State.startGet, if_pos zero, show s.checkLocal d.lkey x.fn x.pd rLocalWrite d.laddr 0 = none from sound]
  rfl

/-- What a PUT starts. -/
def State.startPut (s : State) (n : Nat) (x : Qp) (d : Desc) : State := s.startTransfer n x d 0 (d.len != 0)

theorem startPut_empty (zero : d.len = 0) : s.startPut n x d = s.buildsDesc n d.id := by
  rw [State.startPut, zero]
  exact startTransfer_unchecked ..

section
variable (put : d.opcode ≠ 0x20) (some_ : d.len ≠ 0)
include put some_

theorem startPut_begins (sound : s.checkLocal d.lkey x.fn x.pd 0 d.laddr d.len = none) :
    s.startPut n x d = (s.takeLocal n d).buildsDesc n d.id := by
  rw [State.startPut, bne_iff_ne.2 some_]
  exact startTransfer_checked _ _ _ _ _ (if_neg put) sound

theorem startPut_fails {dt : Nat} (bad : s.checkLocal d.lkey x.fn x.pd 0 d.laddr d.len = some dt) :
    s.startPut n x d = s.failDesc n d.id 0x04 false dt := by
  rw [State.startPut, bne_iff_ne.2 some_]
  exact startTransfer_fails _ _ _ _ _ (if_neg put) bad

end

end

section
variable {s : State} {fn i n op : Nat} {x : Qp} {d : Desc} (clocks : s.clocks) (named : s.qpnOf fn i = some n) (there : s.qp n = some x)
include clocks named there

/-- A command that runs send processing for an opcode starts the descriptor that has it. -/
theorem send_starts {c : Instr} {f : Nat → Qp → Desc → State} {u : State} (runs : exec c s = s.clocked (s.runSend fn i op f))
    (start : x.startable op = some d) (acts : f n x d = u) : exec c s = .next (settle (u.peerWait n)) := by
  rw [runs, s.clocked_runs clocks, runSend_runs named there start, acts]

end

/-- Settles O28: each opcode by `send_starts`, and the windows by what their entry becomes. -/
theorem sendDescriptorsStart : Obligations.SendDescriptorsStart := by
  unfold Obligations.SendDescriptorsStart
  refine ⟨fun s fn i n x d clocks named there => ?_, fun s n q d first => ⟨fun sound => bindWindow_binds first sound rfl rfl,
    fun dt bad => bindWindow_fails first bad, fun sound current bound => unbindWindow_entry first sound current bound rfl rfl⟩⟩
  have starts {c : Instr} {op : Nat} {f : Nat → Qp → Desc → State} (runs : exec c s = s.clocked (s.runSend fn i op f))
      (start : x.startable op = some d) {u : State} (acts : f n x d = u) : exec c s = .next (settle (u.peerWait n)) :=
    send_starts clocks named there runs start acts
  have atomic {c : Instr} {op : Nat} (runs : exec c s = s.clocked (s.runSend fn i op s.startAtomic)) (start : x.startable op = some d) :
      exec c s = .next (settle ((s.buildsDesc n d.id).peerWait n)) := starts runs start rfl
  have untagged {op : Nat} (start : x.startable op = some d) (other : op ≠ 0x20) : d.opcode ≠ 0x20 := startable_opcode start ▸ other
  refine ⟨fun start => starts (exec_nop ..) start rfl, fun start => ?_, fun start => ?_,
    atomic (exec_atomicFadd ..), atomic (exec_atomicCswap ..), atomic (exec_atomicSwap ..), atomic (exec_atomicAnd ..),
    atomic (exec_atomicOr ..), atomic (exec_atomicXor ..), atomic (exec_atomicSmin ..), atomic (exec_atomicSmax ..), fun start => ?_,
    fun start => starts (exec_bindWindow ..) start rfl, fun start => starts (exec_unbindWindow ..) start rfl⟩
  · have put := untagged start (by decide)
    exact ⟨fun zero => starts (f := s.startPut) (exec_put ..) start (startPut_empty s n x d zero),
      fun some_ sound => starts (f := s.startPut) (exec_put ..) start (startPut_begins s n x d put some_ sound),
      fun some_ dt bad => starts (f := s.startPut) (exec_put ..) start (startPut_fails s n x d put some_ bad)⟩
  · have get := untagged start (by decide)
    exact ⟨fun some_ sound => starts (f := s.startGet) (exec_get ..) start (startGet_begins s n x d get some_ sound),
      fun zero sound => starts (f := s.startGet) (exec_get ..) start (startGet_empty s n x d zero sound),
      fun dt bad => starts (f := s.startGet) (exec_get ..) start (startGet_fails s n x d get bad)⟩
  · have tagged := startable_opcode start
    exact ⟨fun sound => starts (exec_sendTagged ..) start (startTagged_begins s n x d tagged rfl sound),
      fun dt bad => starts (exec_sendTagged ..) start (startTagged_fails s n x d tagged rfl bad)⟩

end Sys2Proof.Machine

/-! PROOFS. Descriptors are read, and receives are posted (R49, R52, R54, R117, R120, R142). -/

namespace Sys2Proof.Machine

/-! ### The read of a descriptor -/

/-- Reads of host memory under one number leave everything but the outputs. -/
theorem hostReads_leave (link k : Nat) (ps : List (Nat × Nat)) (u : State) :
    ∃ o, ps.foldl (fun s p => s.emit (.hostRead link p.1 p.2 k)) u = { u with out := o } := by
  induction ps generalizing u with
  | nil => exact ⟨u.out, rfl⟩
  | cons p ps ih =>
    obtain ⟨o, first⟩ : ∃ o, u.emit (.hostRead link p.1 p.2 k) = { u with out := o } := by
      unfold State.emit
      split
      · exact ⟨u.out, rfl⟩
      · exact ⟨_, rfl⟩
    obtain ⟨o', rest⟩ := ih { u with out := o }
    exact ⟨o', by rw [List.foldl_cons, first, rest]⟩

/-- The state after the reads of a descriptor have been sent. -/
def State.readsDesc (v : State) (q : Qp) (ps : List (Nat × Nat)) : State :=
  ps.foldl (fun s p => s.emit (.hostRead (q.fn / 256) p.1 p.2 v.tp.nextId)) v.newId

/-- The state with a descriptor's data. -/
def State.gotDesc (v : State) (q : Qp) (ps : List (Nat × Nat)) : State :=
  ((v.readsDesc q ps).count 0x1C1 (q.fn / 256) 64 q.owner).count 0x1CE 0 1 q.owner

section
variable (v : State) (q : Qp) (ps : List (Nat × Nat))

theorem gotDesc_mt : (v.gotDesc q ps).mt = v.mt := by
  obtain ⟨o, reads⟩ := hostReads_leave (q.fn / 256) v.tp.nextId ps v.newId
  rw [State.gotDesc, count_mt, count_mt, State.readsDesc, reads]
  rfl

theorem gotDesc_qp (n : Nat) : (v.gotDesc q ps).qp n = v.qp n := by
  obtain ⟨o, reads⟩ := hostReads_leave (q.fn / 256) v.tp.nextId ps v.newId
  rw [State.qp, State.gotDesc, count_tp, count_tp, State.readsDesc, reads]
  rfl

end

section
variable {s v : State} {n a : Nat} {q : Qp} {recv : Bool} {ps : List (Nat × Nat)} {se : List Bool} {c : Nat × Nat}
  (place : s.translate (.descriptor n recv) q.fn a 64 accRead = (v, .ok ps se c))
include place

theorem readDesc_takes (b : List Byte) (take : State → List Word → State) :
    s.readDesc n q recv a (.data b) take = take (v.gotDesc q ps) (toWords 8 (slice b 0 64)) := by
  rw [State.readDesc, place]
  rfl

theorem readDesc_fails (take : State → List Word → State) :
    s.readDesc n q recv a .error take = (v.readsDesc q ps).readFails n 0x0D := by
  rw [State.readDesc, place]
  rfl

end

theorem modQp_at {s : State} {n : Nat} {q : Qp} (there : s.qp n = some q) (f : Qp → Qp) : s.modQp n f = s.setQp n (f q) := by
  rw [State.modQp, there]

/-! ### Send descriptors -/

/-- A descriptor joins the send queue. -/
def State.joinsSend (s : State) (n : Nat) (x : Qp) (d : Desc) : State :=
  (s.setQp n { x with sqRead := x.sqRead + 1, nextId := x.nextId + 1, sq := x.sq ++ [d] }).postRecord n x false (x.sqRead + 1)

section
variable {s v : State} {fn i n : Nat} {x : Qp} {b : List Byte} {ps : List (Nat × Nat)} {se : List Bool} {c : Nat × Nat} (pins : s.pins)
  (named : s.qpnOf fn i = some n) (there : s.qp n = some x) (live : x.readDead = false) (admits : s.admits 6 = true) (ready : x.st = .ready)
include pins named there live admits ready

section
variable (waits : x.sqProd ≠ x.sqRead)
  (place : s.translate (.descriptor n false) x.fn (x.sqBase + 64 * (x.sqRead % 2 ^ x.sqLog)) 64 accRead = (v, .ok ps se c))
include waits place

/-- The reading of a send descriptor comes down to `readDesc`. -/
theorem sendRead_reads (r : HostRes) {take : State → List Word → State} {u : State}
    (takes : s.readDesc n x false (x.sqBase + 64 * (x.sqRead % 2 ^ x.sqLog)) r take = u)
    (same : take = fun s ws =>
      let d := descOf x.nextId ws
      let add (s : State) (d : Desc) : State :=
        (s.modQp n fun x => { x with sqRead := x.sqRead + 1, nextId := x.nextId + 1, sq := x.sq ++ [d] }).postRecord n x false
          (x.sqRead + 1)
      if x.st = .error then (add s { d with st := .done, status := St.flushed }).drainSq n
      else if !sendOk x (s.func fn).minor ws then (add s d).failDesc n d.id St.badDescriptor
      else ((add s d).needPeer n d).peerWait n) :
    exec (.sendDescriptorRead fn i r) s = .next (settle u) := by
  have goes : ¬(x.sqProd = x.sqRead ∨ x.readDead = true ∨ (x.st ≠ .ready ∧ x.st ≠ .error) ∨ (!s.admits 6) = true) := by
    rw [live, ready, admits]
    simpa using waits
  rw [exec_sendDescriptorRead, execSendDescriptorRead, s.atPins_runs pins.1 pins.2, named_qp named there]
  dsimp only
  rw [if_neg goes, ← takes, same]
  rfl

theorem sendRead_joins (same : v.qp n = some x)
    (sound : sendOk x ((v.gotDesc x ps).func fn).minor (toWords 8 (slice b 0 64)) = true) {d : Desc}
    (spelt : descOf x.nextId (toWords 8 (slice b 0 64)) = d) :
    exec (.sendDescriptorRead fn i (.data b)) s = .next (settle ((((v.gotDesc x ps).joinsSend n x d).needPeer n d).peerWait n)) := by
  have there_ : (v.gotDesc x ps).qp n = some x := (gotDesc_qp v x ps n).trans same
  refine sendRead_reads pins named there live admits ready waits place _ ((readDesc_takes place b _).trans ?_) rfl
  dsimp only
  rw [if_neg (by rw [ready]; decide), if_neg (by rw [sound]; decide), spelt, modQp_at there_]
  rfl

theorem sendRead_fails {u : State} (reads : v.readsDesc x ps = u) :
    exec (.sendDescriptorRead fn i .error) s = .next (settle (u.readFails n 0x0D)) :=
  sendRead_reads pins named there live admits ready waits place _ (reads ▸ readDesc_fails place _) rfl

end

/-! ### Receive descriptors -/

/-- A receive joins those that are to be posted. -/
def State.joinsRecv (s : State) (n : Nat) (x : Qp) (r : Recv) : State :=
  (s.setQp n { x with rqRead := x.rqRead + 1, nextId := x.nextId + 1, rq := x.rq ++ [r], postedFull := false }).postRecord n x true (x.rqRead + 1)

end

/-- Posting goes on, and the next receive gets its number. -/
def State.numbersRecv (s : State) (m : Match) : State := { s.postingOpens with mt := { m with nextSeq := m.nextSeq + 1 } }

theorem numbersRecv_qp {s : State} {n : Nat} {q : Qp} (there : s.qp n = some q) (m : Match) :
    (s.numbersRecv m).qp n = some { q with postedFull := false } := by
  refine (mget_map (fun q : Qp => { q with postedFull := false }) s.tp.qps n).trans ?_
  rw [show mget s.tp.qps n = some q from there]
  rfl

section
variable {s v : State} {fn i n : Nat} {x : Qp} {b : List Byte} {ps : List (Nat × Nat)} {se : List Bool} {c : Nat × Nat} (pins : s.pins)
  (named : s.qpnOf fn i = some n) (there : s.qp n = some x) (live : x.readDead = false) (admits : s.admits 6 = true) (ready : x.st = .ready)
  (waits : x.rqProd ≠ x.rqRead) (open_ : s.postingHeld = false)
  (place : s.translate (.descriptor n true) x.fn (x.rqBase + 64 * (x.rqRead % 2 ^ x.rqLog)) 64 accRead = (v, .ok ps se c))
include pins named there live admits ready waits open_ place

theorem recvRead_joins (same : v.qp n = some x) {u : State} (got : v.gotDesc x ps = u)
    (sound : recvOk (u.func fn).minor (toWords 8 (slice b 0 64)) = true) {r : Recv}
    (spelt : recvOf x.nextId v.mt.nextSeq x.rqRead (toWords 8 (slice b 0 64)) = r) (plain : r.handler = 0) (empty : r.len = 0) :
    exec (.recvDescriptorRead fn i (.data b)) s = .next (settle (((u.numbersRecv v.mt).joinsRecv n x r).pumpQp n)) := by
  have goes : ¬(x.rqProd = x.rqRead ∨ x.readDead = true ∨ x.st = .reset ∨ (!s.admits 6) = true) := by
    rw [live, ready, admits]
    simpa using waits
  have live_ : ¬x.st = .error := by rw [ready]; decide
  have units : u.mt = v.mt := by rw [← got, gotDesc_mt]
  have there_ : u.qp n = some x := by rw [← got, gotDesc_qp, same]
  have passes : ¬(!recvOk (u.func fn).minor (toWords 8 (slice b 0 64))) = true := by
    rw [sound]
    decide
  rw [← units] at spelt ⊢
  rw [exec_recvDescriptorRead, execRecvDescriptorRead, s.atPins_runs pins.1 pins.2, named_qp named there]
  dsimp only
  rw [if_neg goes, if_neg (by rw [open_]; simp), readDesc_takes place, got]
  rw [if_neg live_, if_neg live_, spelt]
  refine (congrArg (fun w => Host.Outcome.next (settle w)) (if_neg passes)).trans ?_
  rw [State.handlerFault, if_pos plain]
  dsimp only
  rw [if_pos empty]
  exact congrArg (fun w => Host.Outcome.next (settle ((State.postRecord w n x true (x.rqRead + 1)).pumpQp n)))
    (modQp_at (numbersRecv_qp there_ u.mt) _)

end

/-! ### Posting -/

theorem modQp_queues (s : State) (n : Nat) (f : Qp → Qp) : (s.modQp n f).tp.todo = s.tp.todo ∧ (s.modQp n f).tp.writes = s.tp.writes
    ∧ (s.modQp n f).mt = s.mt ∧ (s.modQp n f).sw = s.sw := by
  unfold State.modQp
  split <;> exact ⟨rfl, rfl, rfl, rfl⟩

/-- A posted receive adds nothing that a further round could take up. -/
theorem posted_quiet {s u w : State} (quiet : s.quiet = true) {n j fn k h l : Nat} {o : Owner} {f : Recv → Recv} {p : Posted}
    (counted : s.count k h l o = u) (posted : ((u.modRecv n j f).post1 p).matchShown fn = w) : w.quiet = true := by
  obtain ⟨todo, writes, mt, sw⟩ := modQp_queues u n (·.modRecv j f)
  have before : u.quiet = true := (quiet_congr (by rw [← counted, count_tp]) (by rw [← counted, count_mt]) (by rw [← counted, count_sw])).trans quiet
  rw [← posted]
  exact quiet_of before todo writes (congrArg (·.unexp) mt) sw

section
variable {s : State} {fn i n : Nat} {x : Qp} {r : Recv} (clocks : s.clocks) (named : s.qpnOf fn i = some n) (there : s.qp n = some x)
  (staged : x.rq.find? (·.st == .staged) = some r) (ready : x.st = .ready) (room : s.postCapacity ≠ 0)
include clocks named there staged ready room

section
variable {rec0 : Unexp} (found : s.selectUnexp (classFor r.anySource r.anyTag) n r.ctx r.source r.tag = some rec0)
include found

theorem recvTagged_finds : exec (.recvTagged fn i) s = (if rec0.rts ∧ rec0.handle.isNone ∧ s.runOpen x r rec0.length then .next s
    else .next (settle ((s.matchOp n x.owner).takeRecord n r.id rec0))) := by
  rw [exec_recvTagged, execRecvTagged, s.clocked_runs clocks, named_qp named there]
  dsimp only
  rw [staged]
  dsimp only
  rw [if_neg (by rw [ready]; simp), if_neg room, found]
  rfl

theorem recvTagged_takes (goes : (rec0.rts && rec0.handle.isNone && s.runOpen x r rec0.length) = false) :
    exec (.recvTagged fn i) s = .next (settle ((s.matchOp n x.owner).takeRecord n r.id rec0)) := by
  rw [recvTagged_finds clocks named there staged ready room found, if_neg]
  rintro ⟨rts, fresh, run⟩
  rw [rts, fresh, run] at goes
  cases goes

theorem recvTagged_waits (waits : (rec0.rts && rec0.handle.isNone && s.runOpen x r rec0.length) = true) :
    exec (.recvTagged fn i) s = .next s := by
  rw [recvTagged_finds clocks named there staged ready room found, if_pos]
  simpa [and_assoc] using waits

end

theorem recvTagged_posts (none_ : s.selectUnexp (classFor r.anySource r.anyTag) n r.ctx r.source r.tag = none) (quiet : s.quiet = true) {p : Posted}
    (entry : { qpn := n, recv := r.id, cls := classFor r.anySource r.anyTag, ctx := r.ctx, source := r.source, tag := r.tag, seq := r.seq } = p)
    {w : State} (posted : (((s.matchOp n x.owner).modRecv n r.id ({ · with st := .posted })).post1 p).matchShown x.fn = w)
    (open_ : w.postingHeld = false) : exec (.recvTagged fn i) s = .next w := by
  rw [exec_recvTagged, execRecvTagged, s.clocked_runs clocks, named_qp named there]
  dsimp only
  rw [staged]
  dsimp only
  rw [if_neg (by rw [ready]; simp), if_neg room, none_]
  dsimp only
  rw [entry, posted, open_, if_neg (by decide), settle_quiet w (posted_quiet quiet rfl posted)]
  rfl

end

/-- Settles O27: the reads of descriptors, then the first receive that is to be posted. -/
theorem descriptorsAreReadAndPosted : Obligations.DescriptorsAreReadAndPosted := by
  unfold Obligations.DescriptorsAreReadAndPosted
  refine ⟨fun s v fn i n x b ps se c pins named there live admits => ⟨?_, ?_, ?_⟩, fun s fn i n x r clocks named there staged ready room => ⟨?_, ?_⟩⟩
  · exact fun waits ready place same sound => sendRead_joins pins named there live admits ready waits place same sound rfl
  · refine fun waits ready open_ place same sound plain empty => ?_
    have closed : s.postingHeld = false := by simpa using open_
    exact recvRead_joins pins named there live admits ready waits closed place same rfl sound rfl plain empty
  · exact fun waits ready place => sendRead_fails pins named there live admits ready waits place rfl
  · exact fun rec0 found => ⟨recvTagged_takes clocks named there staged ready room found, recvTagged_waits clocks named there staged ready room found⟩
  · refine fun none_ quiet open_ => ?_
    exact recvTagged_posts clocks named there staged ready room none_ quiet rfl rfl ((Bool.not_eq_true' _).mp open_)

end Sys2Proof.Machine

/-! PROOFS. Packets that arrive at a port (R230, R235, R237, R242), and what its registers keep meanwhile. -/

namespace Sys2Proof.Machine

/-! ### Registers of ports -/

/-- A row of registers of the ports, outside those that raising and counting write. -/
abbrev Fld.ofPort (f : Fld) : Prop := 0x201000 ≤ f.base ∧ f.base < 0x2900000 ∧ f.s1 ≤ 0x10000 ∧ f.s2 ≤ 0x100

theorem eventAddr_ofPort {f : Fld} (h : f.ofPort) {p j : Nat} (port : p < 72) (low : j < 16) : eventAddr (f.addr p j) = false := by
  obtain ⟨above, below, row, step⟩ := h
  have far : f.s1 * p ≤ 0x10000 * 72 := Nat.mul_le_mul row port.le
  have near_ : f.s2 * j ≤ 0x100 * 16 := Nat.mul_le_mul step low.le
  have from_ : 0x201000 ≤ f.addr p j := by unfold Fld.addr; omega
  have to_ : f.addr p j < 0x3C00000 := by unfold Fld.addr; omega
  simp [eventAddr, show ¬f.addr p j < 0x101000 by omega, show ¬f.addr p j < 0x201000 by omega, to_]

section
variable (s : State) (f : Fld) {g : Fld} {p : Nat} (ev unit n : Nat) (o : Owner) (port : p < 72) (h : g.ofPort)
include port h

theorem count_port_rd : (s.count ev unit n o).rd g p = s.rd g p := count_rd _ _ _ _ _ _ _ _ (eventAddr_ofPort h port (by decide))

theorem tally_port_rd (apart : f.beside g) : (s.tally f ev unit o n p).rd g p = s.rd g p := by
  rw [State.tally, count_port_rd _ _ _ _ _ port h, rd_sat_beside _ _ _ _ apart]

theorem raise_port_rd (k info : Nat) (inj sup : Bool) : (s.raise k info inj sup).rd g p = s.rd g p :=
  raise_rd _ _ _ _ _ _ _ _ (eventAddr_ofPort h port (by decide))

end

theorem portUp_congr {s u : State} {p : Nat} (same : u.rd Reg.LNK_STATUS_STATE p = s.rd Reg.LNK_STATUS_STATE p) : u.portUp p = s.portUp p := by
  rw [State.portUp, same]
  rfl

theorem tally_portUp (s : State) (f : Fld) {p : Nat} (ev unit n : Nat) (o : Owner) (port : p < 72) (apart : f.beside Reg.LNK_STATUS_STATE) :
    (s.tally f ev unit o n p).portUp p = s.portUp p := portUp_congr (tally_port_rd s f ev unit n o port (by decide) apart)

/-- Blocks with a bad sync header leave the registers of the link as they are. -/
theorem syncBad_rd {g : Fld} {p : Nat} (port : p < 72) (h : g.ofPort) (apart : ∀ l < 2, Reg.LAN_LANE_ERR_SYNC_BAD.apart p l g p 0) (ls : List Nat) (s : State) :
    (s.syncBad p ls).rd g p = s.rd g p := by
  induction ls generalizing s with
  | nil => rfl
  | cons l ls ih =>
    refine (ih _).trans ?_
    dsimp only
    split
    next counts => exact tally_rd _ _ _ _ _ _ _ _ _ _ _ (eventAddr_ofPort h port (by decide)) (apart l counts.1)
    · rfl

theorem syncBad_portUp {p : Nat} (port : p < 72) (ls : List Nat) (s : State) : (s.syncBad p ls).portUp p = s.portUp p :=
  portUp_congr (syncBad_rd port (by decide) (fun l low => .inl (by
    simp only [Fld.addr, Reg.LAN_LANE_ERR_SYNC_BAD, Reg.LNK_STATUS_STATE]
    omega)) ls s)

theorem creditDue_portUp (s : State) (p v c q : Nat) : (s.creditDue p v c).portUp q = s.portUp q := rfl

/-! ### The bytes of a link header (R228) -/

section
variable {v lsn len : Nat}

theorem linkHeader_lsn (r : Bool) (seq : lsn < 2 ^ 24) : beAt (linkHeader v lsn len r) 1 3 = lsn := by
  rw [beAt, show slice (linkHeader v lsn len r) 1 3 = beBytes 3 lsn from rfl, ofBE_beBytes]
  exact Nat.mod_eq_of_lt seq

theorem linkHeader_len (r : Bool) (short : len < 65536) : beAt (linkHeader v lsn len r) 4 2 = len := by
  rw [beAt, show slice (linkHeader v lsn len r) 4 2 = beBytes 2 len from rfl, ofBE_beBytes]
  exact Nat.mod_eq_of_lt short

theorem linkHeader_lane (r : Bool) (lane : v < 8) : at_ (linkHeader v lsn len r) 0 = 16 + v := by
  show (byte (16 + v % 8)).toNat = _
  rw [byte, BitVec.toNat_ofNat]
  omega

end

/-! ### What arrives at a port without a loop -/

section
variable {s : State} {p : Nat} (plain : s.rd Reg.LAN_PORT_CFG_LOOP p = 0)
include plain

theorem near_plain : s.near p = false := by
  rw [State.near, plain]
  rfl

theorem arrives_plain (o : Output) (x : Looped) (same : Looped → Bool) : s.arrives p o x same = (s, some x) := by
  rw [State.arrives, near_plain plain, plain]
  rfl

end

/-! ### Frames (R235, R237, R242) -/

/-- What a whole frame of a lane does, by the distance of its LSN from the one expected. -/
def State.framePlaced (s : State) (p v lsn : Nat) (b cap : List Byte) : State :=
  let c := (b.length + 63) / 64
  let e := s.rd Reg.LNK_RX_EXPECT_LSN p
  let d := (lsn + 2 ^ 24 - e) % 2 ^ 24
  let nak := fun (s : State) => if s.portUp p then s.linkNak p else s
  let outside := decide (2048 ≤ d ∧ d < 2 ^ 23)
  let u := (s.count 0x082 p).count 0x083 p c
  if (u.port p).free v < c then nak (u.violation p (if outside then 6 else 7) cap)
  else if d = 0 then ((u.wr Reg.LNK_RX_EXPECT_LSN (e + 1) p).wr Reg.LNK_RX_NAK_ARMED 1 p).accept p v c b cap
  else if d < 2048 then nak ((u.creditDue p v c).tally Reg.LNK_ERR_DUPLICATES 0x086 p none 1 p)
  else if outside then (u.creditDue p v c).violation p 6 cap
  else (u.creditDue p v c).tally Reg.LNK_ERR_DUPLICATES 0x086 p none 1 p

theorem mirror_off {s : State} (off : s.on Reg.GLB_SPARE_XBAR_CTRL_MIRROR_EN = false) (p dir : Nat) (b : List Byte) (stomped : Bool) :
    s.mirror p dir b stomped = s := by
  rw [State.mirror, if_neg]
  rw [off]
  simp

section
variable {s : State} {p v lsn : Nat} {f : LinkFrame} {b : List Byte} (up : s.portUp p = true) (aligned : s.on Reg.LAN_PORT_STATUS_ALIGNED p = true)
  (sound : soundFrame f v lsn b)
include up aligned sound

theorem frameIn_placed (unmirrored : s.on Reg.GLB_SPARE_XBAR_CTRL_MIRROR_EN = false) :
    s.frameIn p f = s.framePlaced p v lsn b (slice (f.header ++ b) 0 32) := by
  obtain ⟨header, bytes, errored, begun, crc, long, short, lane, seq⟩ := sound
  have length : beAt f.header 4 2 = b.length := header ▸ linkHeader_len false (by omega)
  have first : at_ f.header 0 = 16 + v := header ▸ linkHeader_lane false lane
  have number : beAt f.header 1 3 = lsn := header ▸ linkHeader_lsn false seq
  have eight : f.header.length = 8 := header ▸ rfl
  have fresh : bitAt f.header 6 7 = false := by
    rw [header]
    show (byte 0).getLsbD 7 = false
    decide
  have whole : (f.errored.isEmpty && f.header.length == 8 && f.bytes.length == beAt f.header 4 2) = true := by
    rw [errored, eight, length, bytes]
    simp
  have good : (f.crc == crcLink (f.header ++ f.bytes)) = true := by
    rw [bytes, crc]
    exact beq_self_eq_true _
  have stomped : (f.crc == ~~~crcLink (f.header ++ f.bytes)) = false := by
    rw [bytes, crc, beq_eq_false_iff_ne]
    intro same
    simpa using congrArg (·.getLsbD 0) same
  have legal : decide (at_ f.header 0 / 8 = 2 ∧ 16 ≤ beAt f.header 4 2 ∧ beAt f.header 4 2 ≤ 4160 ∧ at_ f.header 6 % 128 = 0 ∧ at_ f.header 7 = 0)
      = true := by
    rw [first, length, header]
    exact decide_eq_true ⟨by omega, long, short, rfl, rfl⟩
  unfold State.frameIn
  dsimp only
  rw [whole, good, stomped, legal, length, first, number, fresh, errored, begun, bytes, show s.syncBad p [] = s from rfl, up,
    show s.parses p = true from aligned]
  simp only [Bool.not_true, Bool.not_false, Bool.and_true, Bool.and_false, Bool.false_eq_true, or_self, and_false, false_and, if_false, if_true,
    mirror_off unmirrored, show (16 + v) % 8 = v by omega]
  rfl

end

section
variable {s : State} {p v lsn : Nat} {f : LinkFrame} {b : List Byte} (port : p < 72) (up : s.portUp p = true)
  (aligned : s.on Reg.LAN_PORT_STATUS_ALIGNED p = true)
include port up aligned

/-- A frame that is neither good nor stomped is counted, and answered with a NAK. -/
theorem frameIn_bad (begun : f.begun = false)
    (good : (f.errored.isEmpty && f.header.length == 8 && f.bytes.length == beAt f.header 4 2 && f.crc == crcLink (f.header ++ f.bytes)) = false)
    (stomped : (f.errored.isEmpty && f.header.length == 8 && f.bytes.length == beAt f.header 4 2 && f.crc == ~~~crcLink (f.header ++ f.bytes)) = false) :
    s.frameIn p f = ((s.syncBad p f.errored).tally Reg.LNK_ERR_CRC_BAD 0x084 p none 1 p).linkNak p := by
  have kept : (s.syncBad p f.errored).parses p = true := by
    rw [State.parses, State.on, syncBad_rd port (by decide) fun l low => .inl (by
      simp only [Fld.addr, Reg.LAN_LANE_ERR_SYNC_BAD, Reg.LAN_PORT_STATUS_ALIGNED]
      omega)]
    exact aligned
  have still : ((s.syncBad p f.errored).tally Reg.LNK_ERR_CRC_BAD 0x084 p none 1 p).portUp p = true := by
    rw [tally_portUp _ _ _ _ _ _ port (by decide), syncBad_portUp port, up]
  unfold State.frameIn
  dsimp only
  rw [good, stomped, up, kept, begun]
  simp only [Bool.not_true, Bool.not_false, Bool.false_eq_true, or_self, and_self, false_and, if_false, if_true, still]

section
variable (sound : soundFrame f v lsn b)
include sound

theorem frameIn_errored {es : List Nat} (some_ : es ≠ []) :
    s.frameIn p { f with errored := es } = ((s.syncBad p es).tally Reg.LNK_ERR_CRC_BAD 0x084 p none 1 p).linkNak p := by
  obtain ⟨-, -, -, begun, -⟩ := sound
  have none_ : es.isEmpty = false := by simpa using some_
  exact frameIn_bad (f := { f with errored := es }) port up aligned begun (by rw [none_]; rfl) (by rw [none_]; rfl)

theorem frameIn_crc {x : BitVec 32} (ne : x ≠ f.crc) (no : x ≠ ~~~f.crc) :
    s.frameIn p { f with crc := x } = (s.tally Reg.LNK_ERR_CRC_BAD 0x084 p none 1 p).linkNak p := by
  obtain ⟨-, bytes, errored, begun, crc, -⟩ := sound
  refine (frameIn_bad (f := { f with crc := x }) port up aligned begun ?_ ?_).trans ?_
  · rw [show (x == crcLink (f.header ++ f.bytes)) = false by rw [bytes, ← crc]; simpa using ne, Bool.and_false]
  · rw [show (x == ~~~crcLink (f.header ++ f.bytes)) = false by rw [bytes, ← crc]; simpa using no, Bool.and_false]
  · rw [errored]
    rfl

end

end

section
variable {s : State} {p v lsn : Nat} {b cap : List Byte} {c e d : Nat} {u : State}
  (cells : (b.length + 63) / 64 = c) (expect : s.rd Reg.LNK_RX_EXPECT_LSN p = e) (far : (lsn + 2 ^ 24 - e) % 2 ^ 24 = d)
  (counted : (s.count 0x082 p).count 0x083 p c = u)
include cells expect far counted

theorem framePlaced_eq : s.framePlaced p v lsn b cap = (
    let nak := fun (s : State) => if s.portUp p then s.linkNak p else s
    let outside := decide (2048 ≤ d ∧ d < 2 ^ 23)
    if (s.port p).free v < c then nak (u.violation p (if outside then 6 else 7) cap)
    else if d = 0 then ((u.wr Reg.LNK_RX_EXPECT_LSN (e + 1) p).wr Reg.LNK_RX_NAK_ARMED 1 p).accept p v c b cap
    else if d < 2048 then nak ((u.creditDue p v c).tally Reg.LNK_ERR_DUPLICATES 0x086 p none 1 p)
    else if outside then (u.creditDue p v c).violation p 6 cap
    else (u.creditDue p v c).tally Reg.LNK_ERR_DUPLICATES 0x086 p none 1 p) := by
  have same : u.port p = s.port p := by rw [State.port, State.port, ← counted, count_ports, count_ports]
  rw [State.framePlaced, expect, cells]
  dsimp only
  rw [counted, far, same]

theorem framePlaced_full (full : (s.port p).free v < c) : s.framePlaced p v lsn b cap
    = if (u.violation p (if 2048 ≤ d ∧ d < 2 ^ 23 then 6 else 7) cap).portUp p
      then (u.violation p (if 2048 ≤ d ∧ d < 2 ^ 23 then 6 else 7) cap).linkNak p
      else u.violation p (if 2048 ≤ d ∧ d < 2 ^ 23 then 6 else 7) cap := by
  rw [framePlaced_eq cells expect far counted]
  dsimp only
  rw [if_pos full]
  simp only [decide_eq_true_eq]

section
variable (room : c ≤ (s.port p).free v)
include room

theorem framePlaced_next (next : d = 0) : s.framePlaced p v lsn b cap
    = ((u.wr Reg.LNK_RX_EXPECT_LSN (e + 1) p).wr Reg.LNK_RX_NAK_ARMED 1 p).accept p v c b cap := by
  rw [framePlaced_eq cells expect far counted]
  dsimp only
  rw [if_neg (by omega), if_pos next]

theorem framePlaced_lost (some_ : 0 < d) (few : d < 2048) (port : p < 72) (up : s.portUp p = true) :
    s.framePlaced p v lsn b cap = ((u.creditDue p v c).tally Reg.LNK_ERR_DUPLICATES 0x086 p none 1 p).linkNak p := by
  have still : ((u.creditDue p v c).tally Reg.LNK_ERR_DUPLICATES 0x086 p none 1 p).portUp p = true := by
    rw [tally_portUp _ _ _ _ _ _ port (by decide), creditDue_portUp, ← counted,
      portUp_congr (count_port_rd _ _ _ _ _ port (by decide)), portUp_congr (count_port_rd _ _ _ _ _ port (by decide))]
    exact up
  rw [framePlaced_eq cells expect far counted]
  dsimp only
  rw [if_neg (by omega), if_neg (by omega), if_pos few, if_pos still]

theorem framePlaced_outside (from_ : 2048 ≤ d) (to_ : d < 2 ^ 23) : s.framePlaced p v lsn b cap = (u.creditDue p v c).violation p 6 cap := by
  rw [framePlaced_eq cells expect far counted]
  dsimp only
  rw [if_neg (by omega), if_neg (by omega), if_neg (by omega), if_pos (decide_eq_true ⟨from_, to_⟩)]

theorem framePlaced_again (behind : 2 ^ 23 ≤ d) :
    s.framePlaced p v lsn b cap = (u.creditDue p v c).tally Reg.LNK_ERR_DUPLICATES 0x086 p none 1 p := by
  rw [framePlaced_eq cells expect far counted]
  dsimp only
  rw [if_neg (by omega), if_neg (by omega), if_neg (by omega), if_neg (by rw [decide_eq_true_eq]; omega)]

end

end

section
variable {s : State} {p : Nat} {f : LinkFrame} (pins : s.pins) (plain : s.rd Reg.LAN_PORT_CFG_LOOP p = 0)
include pins plain

theorem linkPacketReceive_takes : exec (.linkPacketReceive p f) s = .next (s.frameIn p f) := by
  rw [exec_linkPacketReceive, execLinkPacketReceive, s.atPins_runs pins.1 pins.2, arrives_plain plain]
  rfl

end

end Sys2Proof.Machine

/-! PROOFS. Link-control blocks as a port takes them, and what an ACK_CREDIT block releases and credits (R232, R233, R236 to R241). -/

namespace Sys2Proof.Machine

theorem beAt_lt (l : List Byte) (i n : Nat) : beAt l i n < 256 ^ n := by
  have below := ofLE_lt (slice l i n).reverse
  rwa [List.length_reverse, slice_length, ← ofBE_eq_ofLE_reverse] at below

/-! ### Blocks that a port takes -/

theorem blockIn_plain {s : State} {p : Nat} (plain : s.rd Reg.LAN_PORT_CFG_LOOP p = 0) (type : Nat) (b : List Byte) (k : List Byte → State → State) :
    s.blockIn p type b k = k b s := by
  rw [State.blockIn, arrives_plain plain]

theorem onBlock_takes {s : State} {p type : Nat} {b : List Byte} (aligned : s.on Reg.LAN_PORT_STATUS_ALIGNED p = true) (takes : s.takesBlock p type b)
    (some_ : type ≠ 0) (breach : State → Option Breach) (f : State → State) : s.onBlock p type b true breach f = f s := by
  obtain ⟨length, crc, kind, low, clean, agreed⟩ := takes
  have whole : ctrlWhole b = true := by
    rw [ctrlWhole, length, crc]
    simp
  rw [State.onBlock, List.drop_eq_nil_of_le length.le]
  rw [List.map_nil, show s.syncBad p [] = s from rfl, if_neg (by rw [State.parses, aligned]; simp), if_neg (by rw [whole]; simp),
    if_neg (by omega), if_neg (by simp [kind]), if_neg (fun h => by have := agreed h.1; omega), if_pos clean]

/-! ### The credits of a lane (R241) -/

theorem toSigned_range (w v : Nat) : -(2 ^ w : Int) ≤ toSigned (w + 1) v ∧ toSigned (w + 1) v < 2 ^ w := by
  have below : v % 2 ^ (w + 1) < 2 ^ (w + 1) := Nat.mod_lt _ (Nat.two_pow_pos _)
  have half : (2 ^ (w + 1) : Int) = 2 ^ w + 2 ^ w := by rw [Int.pow_succ]; omega
  have cast : ((2 ^ w : Nat) : Int) = 2 ^ w := by push_cast; rfl
  have cast' : ((2 ^ (w + 1) : Nat) : Int) = 2 ^ (w + 1) := by push_cast; rfl
  have above : ((v % 2 ^ (w + 1) : Nat) : Int) < 2 ^ (w + 1) := by rw [← cast']; exact Int.ofNat_lt.2 below
  rw [toSigned, Nat.add_sub_cancel]
  split
  next large =>
    have : (2 ^ w : Int) ≤ ((v % 2 ^ (w + 1) : Nat) : Int) := by rw [← cast]; exact Int.ofNat_le.2 large
    omega
  next small =>
    have : ((v % 2 ^ (w + 1) : Nat) : Int) < 2 ^ w := by rw [← cast]; exact Int.ofNat_lt.2 (by omega)
    omega

theorem laneFld_fits : ∀ v < 8, (laneFld Reg.LNK_AVAIL_LO_AVAIL0 v).lo + (laneFld Reg.LNK_AVAIL_LO_AVAIL0 v).w ≤ 64 := by decide

theorem laneFld_beside : ∀ v < 8, ∀ w < 8, v ≠ w → (laneFld Reg.LNK_AVAIL_LO_AVAIL0 v).beside (laneFld Reg.LNK_AVAIL_LO_AVAIL0 w) := by
  intro v lane w lane' ne
  refine ⟨rfl, rfl, ?_⟩
  show 0x2000048 + 8 * (w / 4) ≠ 0x2000048 + 8 * (v / 4)
    ∨ 0 = 0 ∧ 16 * (v % 4) + 16 ≤ 64 ∧ (16 * (w % 4) + 16 ≤ 16 * (v % 4) ∨ 16 * (v % 4) + 16 ≤ 16 * (w % 4))
  omega

section
variable (s : State) (p : Nat) {v w : Nat} (lane : v < 8) {x : Int}
include lane

theorem avail_setAvail_same (low : -(2 ^ 15) ≤ x) (high : x < 2 ^ 15) : (s.setAvail p v x).avail p v = x := by
  rw [State.avail, State.setAvail, rd_wr_same _ _ _ _ _ (laneFld_fits v lane), show (laneFld Reg.LNK_AVAIL_LO_AVAIL0 v).w = 15 + 1 from rfl,
    Nat.mod_eq_of_lt (ofInt_lt ..), toSigned_ofInt, Int.bmod_eq_of_le (by omega) (by omega)]

theorem avail_setAvail_other (lane' : w < 8) (ne : v ≠ w) : (s.setAvail p v x).avail p w = s.avail p w := by
  rw [State.avail, State.setAvail, rd_wr_beside _ _ _ _ (laneFld_beside v lane w lane' ne)]
  rfl

theorem rd_setAvail {g : Fld} (apart : ∀ v < 8, (laneFld Reg.LNK_AVAIL_LO_AVAIL0 v).beside g) : (s.setAvail p v x).rd g p = s.rd g p :=
  rd_wr_beside _ _ _ _ (apart v lane)

end

/-- What changes of some lanes' credits leave: only registers change, and of these none apart from AVAIL. -/
def State.onlyAvail (s t : State) (p : Nat) : Prop :=
  t.ports = s.ports ∧ t.out = s.out ∧ ∀ g : Fld, (∀ v < 8, (laneFld Reg.LNK_AVAIL_LO_AVAIL0 v).beside g) → t.rd g p = s.rd g p

theorem onlyAvail_setAvail {s t : State} {p v : Nat} (same : s.onlyAvail t p) (lane : v < 8) (x : Int) : s.onlyAvail (t.setAvail p v x) p := by
  obtain ⟨ports, out, regs⟩ := same
  exact ⟨ports, out, fun g apart => (rd_setAvail t p lane apart).trans (regs g apart)⟩

/-- The lanes' credits become given values, one lane after the other. -/
theorem avail_foldl {s : State} {p : Nat} {x : Nat → Int} (range : ∀ v < 8, -(2 ^ 15) ≤ x v ∧ x v < 2 ^ 15) {k : Nat} (few : k ≤ 8) :
    s.onlyAvail ((List.range k).foldl (fun s v => s.setAvail p v (x v)) s) p
      ∧ (∀ v < k, ((List.range k).foldl (fun s v => s.setAvail p v (x v)) s).avail p v = x v)
      ∧ ∀ v < 8, k ≤ v → ((List.range k).foldl (fun s v => s.setAvail p v (x v)) s).avail p v = s.avail p v := by
  induction k with
  | zero => exact ⟨⟨rfl, rfl, fun _ _ => rfl⟩, fun v low => absurd low (by omega), fun _ _ _ => rfl⟩
  | succ k ih =>
    obtain ⟨only, below, above⟩ := ih (by omega)
    simp only [List.range_succ, List.foldl_append, List.foldl_cons, List.foldl_nil]
    refine ⟨onlyAvail_setAvail only (by omega) _, fun v low => ?_, fun v lane high => ?_⟩
    · by_cases last : k = v
      · subst last
        exact avail_setAvail_same _ _ (by omega) (range k (by omega)).1 (range k (by omega)).2
      · exact (avail_setAvail_other _ _ (by omega) (by omega) last).trans (below v (by omega))
    · exact (avail_setAvail_other _ _ (by omega) lane (by omega)).trans (above v lane (by omega))

/-! ### ACK_CREDIT (R236 to R241) -/

section
variable {s : State} {p : Nat} {b : List Byte}
  (fits : ∀ v < 8, s.avail p v + (beAt b (6 + 2 * v) 2 : Nat) ≤ (nth (s.port p).adv v : Nat) ∧ nth (s.port p).adv v < 4096)
include fits

theorem credits_range : ∀ v < 8, -(2 ^ 15) ≤ s.avail p v + (beAt b (6 + 2 * v) 2 : Nat) ∧ s.avail p v + (beAt b (6 + 2 * v) 2 : Nat) < 2 ^ 15 := by
  intro v lane
  have low : -(2 ^ 15) ≤ s.avail p v := (toSigned_range 15 (s.rd (laneFld Reg.LNK_AVAIL_LO_AVAIL0 v) p)).1
  obtain ⟨high, adv⟩ := fits v lane
  omega

/-- Credits that stay within what a lane advertises are added as they are. -/
theorem addCredits_adds :
    s.addCredits p b = ((List.range 8).foldl (fun s' v => s'.setAvail p v (s.avail p v + (beAt b (6 + 2 * v) 2 : Nat))) s, false) := by
  suffices steps : ∀ k ≤ 8, (List.range k).foldl (fun (a : State × Bool) v =>
      if ((nth (s.port p).adv v : Nat) : Int) < a.1.avail p v + (beAt b (6 + 2 * v) 2 : Nat)
      then (a.1.setAvail p v ((nth (s.port p).adv v : Nat) : Int), true)
      else (a.1.setAvail p v (a.1.avail p v + (beAt b (6 + 2 * v) 2 : Nat)), a.2)) (s, false)
      = ((List.range k).foldl (fun s' v => s'.setAvail p v (s.avail p v + (beAt b (6 + 2 * v) 2 : Nat))) s, false) from steps 8 le_rfl
  intro k few
  induction k with
  | zero => rfl
  | succ k ih =>
    have untouched := (avail_foldl (s := s) (p := p) (credits_range fits) (k := k) (by omega)).2.2 k (by omega) le_rfl
    simp only [List.range_succ, List.foldl_append, List.foldl_cons, List.foldl_nil]
    rw [ih (by omega)]
    dsimp only
    rw [untouched, if_neg (by have := (fits k (by omega)).1; omega)]

end

/-- The packets that an acknowledgement leaves in the replay buffer. -/
def Port.unacked (y : Port) (a acked : Nat) : List Replay :=
  y.replay.filter fun r => decide ((a + 2 ^ 24 - acked) % 2 ^ 24 < (r.lsn + 2 ^ 24 - acked) % 2 ^ 24)

section
variable (s : State) (p a : Nat)

theorem release_replay : ((s.release p a).port p).replay = (s.port p).unacked a (s.rd Reg.LNK_LEDGER_ACKED_LSN p) := by
  rw [State.release, port_wr, State.replayShown, port_wr, port_setPort_same]
  rfl

theorem release_adv : ((s.release p a).port p).adv = (s.port p).adv := by
  rw [State.release, port_wr, State.replayShown, port_wr, port_setPort_same]

theorem release_other {q : Nat} (other : q ≠ p) : (s.release p a).port q = s.port q := by
  rw [State.release, port_wr, State.replayShown, port_wr, port_setPort_other _ _ _ _ other]

theorem release_out : (s.release p a).out = s.out := rfl

theorem release_acked : (s.release p a).rd Reg.LNK_LEDGER_ACKED_LSN p = a % 2 ^ 24 := by
  rw [State.release, rd_wr_same _ _ _ _ _ (by decide)]
  rfl

theorem release_cells : (s.release p a).rd Reg.LNK_LEDGER_REPLAY_CELLS p
    = (((s.release p a).port p).replay.map (·.cells)).sum % 2 ^ Reg.LNK_LEDGER_REPLAY_CELLS.w := by
  rw [State.release, rd_wr_beside _ _ _ _ (by decide), State.replayShown, rd_wr_same _ _ _ _ _ (by decide), port_wr, port_wr]

theorem release_rd {g : Fld} (shown : Reg.LNK_LEDGER_REPLAY_CELLS.beside g) (acked : Reg.LNK_LEDGER_ACKED_LSN.beside g) :
    (s.release p a).rd g p = s.rd g p := by
  rw [State.release, rd_wr_beside _ _ _ _ acked, State.replayShown, rd_wr_beside _ _ _ _ shown]
  rfl

theorem release_avail {v : Nat} (lane : v < 8) : (s.release p a).avail p v = s.avail p v := by
  have apart : ∀ v < 8, Reg.LNK_LEDGER_REPLAY_CELLS.beside (laneFld Reg.LNK_AVAIL_LO_AVAIL0 v)
      ∧ Reg.LNK_LEDGER_ACKED_LSN.beside (laneFld Reg.LNK_AVAIL_LO_AVAIL0 v) := by decide
  rw [State.avail, release_rd _ _ _ (apart v lane).1 (apart v lane).2]
  rfl

end

section
variable {s : State} {p : Nat} {b : List Byte} (pins : s.pins) (up : s.portUp p = true) (plain : s.rd Reg.LAN_PORT_CFG_LOOP p = 0)
  (aligned : s.on Reg.LAN_PORT_STATUS_ALIGNED p = true) (takes : s.takesBlock p 1 b)
include pins up plain aligned takes

/-- A valid acknowledgement whose credits fit releases, credits, and replays where the block is a NAK. -/
theorem ackCredit_acts {t : State} (valid : s.ackCode p (beAt b 2 3) = 0) (adds : (s.release p (beAt b 2 3)).addCredits p b = (t, false)) :
    exec (.ackCredit p b) s = .next (if bitAt b 1 7 = true ∧ t.portUp p = true then t.replayEvent p else t) := by
  rw [exec_ackCredit, execAckCredit, s.atPins_runs pins.1 pins.2]
  dsimp only
  rw [blockIn_plain plain, up, onBlock_takes aligned takes (by decide), valid, if_neg (by decide), if_pos rfl, adds]
  dsimp only
  rw [if_neg (show ¬(false = true) by decide), if_neg (show ¬(0 = 5) by decide)]
  simp only [true_and]
  rfl

end

theorem ackCode_valid {s : State} {p a : Nat} (sent : (a + 2 ^ 24 - s.rd Reg.LNK_LEDGER_ACKED_LSN p) % 2 ^ 24
    ≤ ((s.rd Reg.LNK_LEDGER_NEXT_LSN p + 2 ^ 24 - 1) % 2 ^ 24 + 2 ^ 24 - s.rd Reg.LNK_LEDGER_ACKED_LSN p) % 2 ^ 24) : s.ackCode p a = 0 := if_pos sent

/-- What releasing and crediting leave. -/
theorem credited_parts {s t : State} {p a : Nat} {b : List Byte} (small : a < 2 ^ 24)
    (fits : ∀ v < 8, s.avail p v + (beAt b (6 + 2 * v) 2 : Nat) ≤ (nth (s.port p).adv v : Nat) ∧ nth (s.port p).adv v < 4096)
    (adds : (s.release p a).addCredits p b = (t, false)) :
    t.rd Reg.LNK_LEDGER_ACKED_LSN p = a ∧ (t.port p).replay = (s.port p).unacked a (s.rd Reg.LNK_LEDGER_ACKED_LSN p)
      ∧ (∀ v < 8, t.avail p v = s.avail p v + (beAt b (6 + 2 * v) 2 : Nat))
      ∧ t.rd Reg.LNK_LEDGER_REPLAY_CELLS p = (((t.port p).replay.map (·.cells)).sum) % 2 ^ Reg.LNK_LEDGER_REPLAY_CELLS.w
      ∧ t.out = s.out ∧ (∀ q, q ≠ p → t.port q = s.port q) ∧ t.portUp p = s.portUp p := by
  have fits' : ∀ v < 8, (s.release p a).avail p v + (beAt b (6 + 2 * v) 2 : Nat) ≤ (nth ((s.release p a).port p).adv v : Nat)
      ∧ nth ((s.release p a).port p).adv v < 4096 := fun v lane => by
    rw [release_avail _ _ _ lane, release_adv]
    exact fits v lane
  obtain ⟨⟨ports, out, regs⟩, lanes, -⟩ := avail_foldl (credits_range fits') (k := 8) le_rfl
  rw [← (Prod.mk.inj ((addCredits_adds fits').symm.trans adds)).1]
  have port (q : Nat) := congrArg (fun m : Map Port => mgetD m q {}) ports
  refine ⟨?_, ?_, fun v lane => ?_, ?_, out.trans (release_out ..), fun q other => (port q).trans (release_other _ _ _ other), ?_⟩
  · rw [regs _ (by decide), release_acked, Nat.mod_eq_of_lt small]
  · exact (congrArg Port.replay (port p)).trans (release_replay ..)
  · rw [lanes v lane, release_avail _ _ _ lane]
  · rw [regs _ (by decide), release_cells]
    exact congrArg (fun y : Port => (y.replay.map (·.cells)).sum % _) (port p).symm
  · rw [portUp_congr (regs _ (by decide)), portUp_congr (release_rd _ _ _ (by decide) (by decide))]

theorem linkNak_disarmed {s : State} {p : Nat} (off : s.on Reg.LNK_RX_NAK_ARMED p = false) : s.linkNak p = s := by
  rw [State.linkNak, if_neg]
  rw [off]
  decide

/-- Settles O32: frames by `framePlaced`, acknowledgements by `credited_parts`. -/
theorem packetsAreClassified : Obligations.PacketsAreClassified := by
  unfold Obligations.PacketsAreClassified
  refine ⟨fun s p v lsn f b pins port up plain sound unmirrored aligned => ?_, fun s p b pins port up plain aligned takes => ?_⟩
  · have runs (f : LinkFrame) {t : State} (placed : s.frameIn p f = t) : exec (.linkPacketReceive p f) s = .next t := by
      rw [linkPacketReceive_takes pins plain, placed]
    have whole := frameIn_placed up aligned sound unmirrored
    refine ⟨fun room => ⟨fun next => ?_, fun some_ few => ?_, fun from_ to_ => ?_, fun behind => ?_⟩, fun full => ?_, fun es some_ => ?_,
      fun x ne no => ?_, linkNak_disarmed⟩
    · exact runs f (whole.trans (framePlaced_next rfl rfl rfl rfl room next))
    · exact runs f (whole.trans (framePlaced_lost rfl rfl rfl rfl room some_ few port up))
    · exact runs f (whole.trans (framePlaced_outside rfl rfl rfl rfl room from_ to_))
    · exact runs f (whole.trans (framePlaced_again rfl rfl rfl rfl room behind))
    · exact runs f (whole.trans (framePlaced_full rfl rfl rfl rfl full))
    · exact runs _ (frameIn_errored port up aligned sound some_)
    · exact runs _ (frameIn_crc port up aligned sound ne no)
  · intro a acked last y sent fits
    have fits' : ∀ v < 8, (s.release p a).avail p v + (beAt b (6 + 2 * v) 2 : Nat) ≤ (nth ((s.release p a).port p).adv v : Nat)
        ∧ nth ((s.release p a).port p).adv v < 4096 := fun v lane => by
      rw [release_avail _ _ _ lane, release_adv]
      exact fits v lane
    obtain ⟨t, adds⟩ : ∃ t, (s.release p a).addCredits p b = (t, false) := ⟨_, addCredits_adds fits'⟩
    obtain ⟨number, replay, lanes, cells, out, others, still⟩ := credited_parts (beAt_lt b 2 3) fits adds
    have acts := ackCredit_acts pins up plain aligned takes (ackCode_valid sent) adds
    rw [still, up] at acts
    refine ⟨fun ack => ⟨t, ?_, number, replay, lanes, cells, out, others⟩, fun nak => ?_⟩
    · rw [acts, if_neg (by rw [ack]; decide)]
    · rw [acts, if_pos ⟨nak, rfl⟩, adds]

end Sys2Proof.Machine

/-! PROOFS. Link-control blocks that a port does not take (R233, R250, R257). -/

namespace Sys2Proof.Machine

/-- A number beyond those of the 72 ports: its LAN_PORT_STATUS lies where counter 1 does. -/
def beyondPorts : Nat := 0x13F0

/-- A state in which the registers at that number say that the link is up, aligned and locked, and counter 1 counts blocks with a bad sync
header. -/
def countedAlignment : State :=
  { regs := [(0x3C00008, 1), (0x3C00108, 4), (0x3C01008, 0xFF101), (0x15F00028, 2)] }

/-- The count of bad link-control blocks at that number after a command. -/
def badBlocks : Host.Outcome State Fault Refusal → Nat
  | .next u => u.rd Reg.LNK_ERR_CTRL_BAD beyondPorts
  | _ => 0

/-- Refutes O33: its last part does not ask for one of the 72 ports. The registers of number 0x13F0 lie among the performance counters: a
block with a bad sync header advances counter 1 from 1 to 2, which clears the bit read as ALIGNED, so the block is not parsed and not
counted in CTRL_BAD, where the statement counts it. -/
theorem not_controlBlocksAct : ¬ Obligations.ControlBlocksAct := by
  unfold Obligations.ControlBlocksAct
  intro h
  have pins : countedAlignment.pins := ⟨rfl, rfl⟩
  obtain ⟨-, mark, -⟩ := (h.2 countedAlignment beyondPorts (List.replicate 33 0) pins (by decide +kernel) (by decide +kernel)
    (by decide +kernel)).1 (.inl (by decide))
  have counted := congrArg badBlocks mark
  exact absurd counted (by decide +kernel)

end Sys2Proof.Machine

/-! PROOFS. The timers of a port, the order in which its link-control blocks leave, and its failover (R227, R236, R240, R243, R247, R251 to
R256, R260). -/

namespace Sys2Proof.Machine

/-! ### What leaves a port adds to the outputs, and keeps its credit -/

/-- Outputs have been added, and the credit that a port owes is as before. -/
def State.sent (s t : State) (p : Nat) : Prop := (∃ l, t.out = s.out ++ l) ∧ (t.port p).credit = (s.port p).credit

theorem sent_refl (s : State) (p : Nat) : s.sent s p := ⟨⟨[], (List.append_nil _).symm⟩, rfl⟩

theorem sent_trans {s t u : State} {p : Nat} (first : s.sent t p) (second : t.sent u p) : s.sent u p := by
  obtain ⟨⟨l, out⟩, credit⟩ := first
  obtain ⟨⟨m, out'⟩, credit'⟩ := second
  exact ⟨⟨l ++ m, by rw [out', out, List.append_assoc]⟩, credit'.trans credit⟩

theorem sent_same {s t : State} {p : Nat} (out : t.out = s.out) (ports : t.ports = s.ports) : s.sent t p :=
  ⟨⟨[], by rw [out, List.append_nil]⟩, congrArg (fun m : Map Port => (mgetD m p {}).credit) ports⟩

theorem sent_emit (s : State) (p : Nat) (o : Output) : s.sent (s.emit o) p := by
  unfold State.emit
  split
  · exact sent_refl ..
  · exact ⟨⟨[o], rfl⟩, rfl⟩

theorem sent_setPort {s : State} {p : Nat} {x : Port} (credit : x.credit = (s.port p).credit) : s.sent (s.setPort p x) p :=
  ⟨⟨[], (List.append_nil _).symm⟩, by rw [port_setPort_same, credit]⟩

section
variable (s : State) (p lane : Nat)

theorem sent_emitLane (l : List Bool) : s.sent (s.emitLane p lane l) p := by
  unfold State.emitLane
  split
  · exact sent_refl ..
  · exact sent_emit ..

theorem sent_toPins (o : Output) (x : Looped) : s.sent (s.toPins p o x) p := by
  unfold State.toPins
  split
  · exact sent_setPort rfl
  · exact sent_emit ..

theorem sent_exDraw (rate : Fld) : s.sent (s.exDraw p rate).1 p := by
  unfold State.exDraw
  dsimp only
  split
  · exact sent_refl ..
  · exact sent_setPort rfl

theorem sent_exBlock (l : List Bool) : s.sent (s.exBlock p lane l).1 p := by
  have draw := sent_exDraw s p Reg.LNK_EXER_CFG_BLOCK_LOG2
  unfold State.exBlock
  dsimp only
  split
  · refine sent_trans ?_ (sent_same rfl rfl)
    refine sent_trans ?_ (sent_emit ..)
    exact sent_trans draw (sent_same rfl rfl)
  · exact draw

theorem sent_heard (l : List Bool) : s.sent (s.heard p lane l).1 p := by
  unfold State.heard
  split
  · exact sent_refl ..
  · exact sent_setPort rfl

theorem sent_sendMarker : s.sent (s.sendMarker p lane) p := by
  unfold State.sendMarker
  dsimp only
  refine sent_trans ?_ (sent_emitLane ..)
  refine sent_trans ?_ (sent_toPins ..)
  refine sent_trans ?_ (sent_exBlock ..)
  exact sent_setPort rfl

theorem sent_sendMarkers : s.sent (s.sendMarkers p) p := by
  unfold State.sendMarkers
  dsimp only
  refine sent_trans ?_ (sent_setPort rfl)
  exact sent_trans (sent_sendMarker s p 0) (sent_sendMarker _ p 1)

/-- The stream of a port goes on by a block, before the markers that may be due. -/
def State.streams (s : State) (p : Nat) (ctrl : Bool) (b : List Byte) : State × List Byte :=
  let y := s.port p
  let lane := y.block % 2
  let x := y.tx.getD lane {}
  let r := scramble x.scr (txBits b)
  let e := (s.setPort p { y with
    block := y.block + 1
    sinceMark := y.sinceMark + 1
    tx := y.tx.set lane { x with scr := r.1, bip := bipOver x.bip r.2 } }).exBlock p lane r.2
  (e.1.emitLane p lane (syncBits ctrl ++ e.2)).heard p lane e.2

theorem sendBlock_eq (ctrl : Bool) (b : List Byte) : s.sendBlock p ctrl b
    = (if markerPeriod ≤ ((s.streams p ctrl b).1.port p).sinceMark then (s.streams p ctrl b).1.sendMarkers p else (s.streams p ctrl b).1,
      (s.streams p ctrl b).2) := rfl

theorem sent_streams (ctrl : Bool) (b : List Byte) : s.sent (s.streams p ctrl b).1 p := by
  unfold State.streams
  dsimp only
  refine sent_trans ?_ (sent_heard ..)
  refine sent_trans ?_ (sent_emitLane ..)
  refine sent_trans ?_ (sent_exBlock ..)
  exact sent_setPort rfl

theorem sent_sendBlock (ctrl : Bool) (b : List Byte) : s.sent (s.sendBlock p ctrl b).1 p := by
  have stream := sent_streams s p ctrl b
  rw [sendBlock_eq]
  dsimp only
  split
  · exact sent_trans stream (sent_sendMarkers ..)
  · exact stream

theorem sent_sendBlocks (ctrl : Bool) (b : List Byte) : s.sent (s.sendBlocks p ctrl b).1 p := by
  unfold State.sendBlocks
  suffices steps : ∀ (l : List Nat) (a : State × List Byte), a.1.sent (l.foldl (fun a i =>
      ((a.1.sendBlock p ctrl (slice b (8 * i) 8)).1, a.2 ++ (a.1.sendBlock p ctrl (slice b (8 * i) 8)).2)) a).1 p from steps _ (s, [])
  intro l
  induction l with
  | nil => exact fun a => sent_refl ..
  | cons i l ih => exact fun a => sent_trans (sent_sendBlock a.1 p ctrl (slice b (8 * i) 8)) (ih _)

end

/-- A link-control block that leaves by the pins is an output. -/
theorem sendControl_sends {s : State} {p type : Nat} (far : s.near p = false) (free : s.bt.isolated = false) (body : List Byte) :
    .control p (controlBlock type body) ∈ (s.sendControl p type body).out
      ∧ ((s.sendControl p type body).port p).credit = (s.port p).credit := by
  have sends : s.sendControl p type body = ((s.emit (.control p (controlBlock type body))).sendBlocks p true (controlBlock type body)).1 := by
    rw [State.sendControl, if_neg (by rw [far]; simp), State.sendItem, if_neg (by rw [far]; decide)]
  have out : (s.emit (.control p (controlBlock type body))).out = s.out ++ [.control p (controlBlock type body)] :=
    congrArg State.out (emits_eq [()] (fun _ => .control p (controlBlock type body)) free)
  obtain ⟨⟨l, more⟩, credit⟩ := sent_sendBlocks (s.emit (.control p (controlBlock type body))) p true (controlBlock type body)
  rw [sends, more, out, credit]
  exact ⟨by simp, (sent_emit ..).2⟩

/-! ### ACK_CREDIT as it leaves (R227, R236) -/

theorem ackBody_port (s : State) (p : Nat) (b : List Byte) {v : Nat} (lane : v < 8) :
    nth ((s.ackBody p b).1.port p).credit v = nth (s.port p).credit v - min 4096 (nth (s.port p).credit v) := by
  have credit : ((s.ackBody p b).1.port p).credit
      = (List.range 8).map fun v => nth (s.port p).credit v - min 4096 (nth (s.port p).credit v) := by
    rw [State.ackBody, port_setPort_same]
  rw [credit, nth, List.getD_eq_getElem?_getD, List.getElem?_map, List.getElem?_range lane]
  rfl

theorem ackCredit_leaves {s : State} {p : Nat} (f : Byte) (far : s.near p = false) (free : s.bt.isolated = false) :
    .control p (controlBlock 1 ([f] ++ beBytes 3 ((s.rd Reg.LNK_RX_EXPECT_LSN p + 2 ^ 24 - 1) % 2 ^ 24) ++ [0]
        ++ (List.range 8).flatMap fun v => beBytes 2 (min 4096 (nth (s.port p).credit v)))) ∈ (s.controlLeaves p (1, [f])).out
      ∧ ∀ v < 8, nth ((s.controlLeaves p (1, [f])).port p).credit v = nth (s.port p).credit v - min 4096 (nth (s.port p).credit v) := by
  obtain ⟨u, shorter⟩ : ∃ u, s.setPort p { s.port p with ctrl := (s.port p).ctrl.erase (1, [f]) } = u := ⟨_, rfl⟩
  have credit : (u.port p).credit = (s.port p).credit := by rw [← shorter, port_setPort_same]
  have leaves : s.controlLeaves p (1, [f]) = (u.ackBody p [f]).1.sendControl p 1 (u.ackBody p [f]).2 := by rw [← shorter]; rfl
  have near' : (u.ackBody p [f]).1.near p = false := by rw [← shorter]; exact far
  have free' : (u.ackBody p [f]).1.bt.isolated = false := by rw [← shorter]; exact free
  have body : (u.ackBody p [f]).2 = [f] ++ beBytes 3 ((s.rd Reg.LNK_RX_EXPECT_LSN p + 2 ^ 24 - 1) % 2 ^ 24) ++ [0]
      ++ (List.range 8).flatMap fun v => beBytes 2 (min 4096 (nth (s.port p).credit v)) := by
    rw [State.ackBody, credit, ← shorter]
    rfl
  obtain ⟨out, kept⟩ := sendControl_sends (type := 1) near' free' (u.ackBody p [f]).2
  rw [leaves, kept]
  rw [body] at out ⊢
  exact ⟨out, fun v lane => by rw [ackBody_port u p [f] lane, credit]⟩

/-! ### The next block to leave (R227) -/

theorem ctrlRank_zero {k : Nat} (h : ctrlRank k = 0) : k = 3 := by
  by_contra ne
  unfold ctrlRank at h
  split at h <;> omega

theorem findSome_range {α : Type} {f : Nat → Option α} {x : α} {n : Nat} (found : (List.range n).findSome? f = some x) :
    ∃ k, f k = some x ∧ ∀ j < k, f j = none := by
  induction n with
  | zero => cases found
  | succ n ih =>
    rw [List.range_succ, List.findSome?_append] at found
    cases before : (List.range n).findSome? f with
    | some y =>
      rw [before] at found
      exact ih (before.trans found)
    | none =>
      rw [before] at found
      rw [List.findSome?_eq_none_iff] at before
      refine ⟨n, ?_, fun j low => before j (List.mem_range.2 low)⟩
      cases here : f n with
      | some y => simpa [here] using found
      | none => simp [here] at found

theorem nextControl_foremost {y : Port} {x : Nat × List Byte} (next : y.nextControl = some x) :
    x ∈ y.ctrl ∧ ∀ z ∈ y.ctrl, ctrlRank x.1 ≤ ctrlRank z.1 := by
  obtain ⟨k, found, before⟩ := findSome_range next
  have rank : ctrlRank x.1 = k := by simpa using List.find?_some found
  refine ⟨List.mem_of_find?_eq_some found, fun z waits => ?_⟩
  by_contra lower
  have none_ := List.find?_eq_none.1 (before (ctrlRank z.1) (by omega)) z waits
  simp at none_

/-! ### Timers -/

section
variable {s : State} {p : Nat} (clocks : s.clocks)
include clocks

section
variable (up : s.portUp p = true)
include up

theorem linkAckTimer_acts : exec (.linkAckTimer p) s = .next (s.linkAck p false) := by
  rw [exec_linkAckTimer, execLinkAckTimer, s.clocked_runs clocks]
  exact if_pos up

theorem replayTimeout_acts (waits : (s.port p).replay ≠ []) : exec (.replayTimeout p) s = .next (s.replayEvent p) := by
  rw [exec_replayTimeout, execReplayTimeout, s.clocked_runs clocks]
  exact if_pos ⟨up, by simpa using waits⟩

theorem resyncPeriod_acts : exec (.resyncPeriod p) s = .next (s.sendMark p) := by
  rw [exec_resyncPeriod, execResyncPeriod, s.clocked_runs clocks]
  exact if_pos up

theorem lockLossTimeout_acts (lost : (s.port p).lockLost = true) : exec (.lockLossTimeout p) s = .next (s.linkDown p 2) := by
  rw [exec_lockLossTimeout, execLockLossTimeout, s.clocked_runs clocks]
  exact if_pos ⟨up, lost⟩

end

theorem trainTimer_acts (training : s.rd Reg.LNK_STATUS_STATE p = 1) (stage : s.rd Reg.LAN_PORT_STATUS_STAGE p = 5) :
    exec (.trainTimer p) s = .next ((s.setPort p { s.port p with offer := s.offers p }).control p 6
      (s.trainBody p ((s.port p).train.isSome && s.rd Reg.LNK_STATUS_VERSION p != 0) (s.offers p) (s.laneCells p))) := by
  rw [exec_trainTimer, execTrainTimer, s.clocked_runs clocks]
  exact if_pos ⟨training, stage⟩

theorem holdoffExpiry_acts (held : s.rd Reg.LNK_STATUS_STATE p = 3) (auto : s.on Reg.LNK_CFG_AUTO_RETRAIN p = true)
    (may : s.trainable p = true) : exec (.holdoffExpiry p) s = .next (s.beginTraining p) := by
  rw [exec_holdoffExpiry, execHoldoffExpiry, s.clocked_runs clocks, if_pos ⟨held, auto⟩, State.tryTrain, if_pos may]
  rfl

theorem failoverTimeout_acts (waits : (s.port p).failover.isSome = true) :
    exec (.failoverTimeout p) s = .next ((s.tally Reg.LNK_FAILOVER_TIMEOUTS 0x08E p none 1 p).discardUnacked p) := by
  rw [exec_failoverTimeout, execFailoverTimeout, s.clocked_runs clocks]
  exact if_pos waits

theorem trainingTimeout_acts (training : s.rd Reg.LNK_STATUS_STATE p = 1) : Leads (.trainingTimeout p) s fun t =>
    t.rd Reg.LNK_STATUS_STATE p = 3 ∧ t.rd Reg.LAN_PORT_STATUS_TRAIN_TIMEOUT_SEEN p = 1 ∧ t.ports = s.ports ∧ t.out = s.out := by
  have away : Reg.LNK_STATUS_STATE.addr p 0 ≠ Reg.LAN_PORT_STATUS_TRAIN_TIMEOUT_SEEN.addr p 0 := by
    simp only [Fld.addr, Reg.LNK_STATUS_STATE, Reg.LAN_PORT_STATUS_TRAIN_TIMEOUT_SEEN]
    omega
  refine ⟨(s.wr Reg.LNK_STATUS_STATE 3 p).wr Reg.LAN_PORT_STATUS_TRAIN_TIMEOUT_SEEN 1 p, ?_, ?_, rd_wr_same _ _ _ _ _ (by decide), rfl, rfl⟩
  · rw [exec_trainingTimeout, execTrainingTimeout, s.clocked_runs clocks]
    exact if_pos training
  · rw [rd_wr_apart _ _ (.inl away)]
    exact rd_wr_same _ _ _ _ _ (by decide)

theorem reorderRelease_acts {x : InPkt} (held : (s.port p).exHeld = [x]) : Leads (.reorderRelease p) s fun t => (t.port p).exHeld = []
    ∧ mgetD (t.port p).egress x.pkt.net.vl [] = x :: mgetD (s.port p).egress x.pkt.net.vl [] ∧ t.regs = s.regs := by
  have released : s.releaseHeld p = s.setPort p { s.port p with
      exHeld := [], egress := mset (s.port p).egress x.pkt.net.vl (x :: mgetD (s.port p).egress x.pkt.net.vl []) } := by
    rw [State.releaseHeld, held]
    rfl
  refine ⟨s.releaseHeld p, ?_, ?_⟩
  · rw [exec_reorderRelease, execReorderRelease, s.clocked_runs clocks]
    rfl
  · dsimp only
    rw [released, port_setPort_same]
    exact ⟨rfl, mgetD_mset_same .., rfl⟩

end

/-! ### Failover (R252, R254) -/

section
variable {s : State} {p : Nat}

theorem failOver_nothing (replay : (s.port p).replay = []) (handed : (s.port p).handed = []) : s.failOver p = s :=
  if_pos ⟨by rw [replay]; rfl, by rw [handed]; rfl⟩

theorem foldl_idle {α β : Type} {f : α → β → α} {l : List β} {a : α} (idle : ∀ a, ∀ b ∈ l, f a b = a) : l.foldl f a = a := by
  induction l with
  | nil => rfl
  | cons b l ih =>
    rw [List.foldl_cons, idle a b List.mem_cons_self]
    exact ih fun a c mem => idle a c (List.mem_cons_of_mem _ mem)

theorem discardUnacked_counts (some_ : (s.port p).replay ++ (s.port p).handed ≠ [])
    (plain : ∀ r ∈ (s.port p).replay ++ (s.port p).handed, ∀ h, (Packet.ofBytes r.bytes r.stomped).body ≠ .swarm h) :
    s.discardUnacked p = ((s.setPort p { s.port p with replay := [], resend := [], handed := [], failover := none }).wr
      Reg.LNK_LEDGER_REPLAY_CELLS 0 p).tally Reg.LNK_FAILOVER_DISCARDED 0x08C p none ((s.port p).replay ++ (s.port p).handed).length p := by
  rw [State.discardUnacked]
  dsimp only
  rw [if_neg (by simpa using some_), foldl_idle fun u r mem => ?_]
  · rw [State.replayShown, port_setPort_same]
    rfl
  · split
    next h swarm => exact absurd swarm (plain r mem h)
    · rfl

variable (some_ : (s.port p).replay ++ (s.port p).handed ≠ [])
include some_

theorem failOver_asks {q : Nat} (good : s.goodPartner p = some q) (own : s.rd Reg.LNK_STATUS_VERSION p = 2)
    (partner : s.rd Reg.LNK_STATUS_VERSION q = 2) :
    s.failOver p = (s.setPort p { s.port p with
        failover := some ⟨(s.port p).failSeq, q⟩, failSeq := ((s.port p).failSeq + 1) % 65536, resend := [] }).control q 7
      ([0, byte (s.rd Reg.LNK_STATUS_FAR_PORT p), 0, 0, 0] ++ beBytes 2 (s.port p).failSeq) := by
  have waits : ¬((s.port p).replay.isEmpty = true ∧ (s.port p).handed.isEmpty = true) := by simpa using some_
  rw [State.failOver, if_neg waits, good]
  exact if_pos ⟨own, partner⟩

theorem failOver_discards (none_ : s.goodPartner p = none ∨ s.rd Reg.LNK_STATUS_VERSION p ≠ 2) : s.failOver p = s.discardUnacked p := by
  have waits : ¬((s.port p).replay.isEmpty = true ∧ (s.port p).handed.isEmpty = true) := by simpa using some_
  rw [State.failOver, if_neg waits]
  cases good : s.goodPartner p with
  | none => rfl
  | some q => exact if_neg fun both => none_.elim (fun none_ => by rw [good] at none_; cases none_) fun old => old both.1

end

end Sys2Proof.Machine

/-! PROOFS. Links that come up and go down (R248, R252). -/

namespace Sys2Proof.Machine

/-- What every step of a fold keeps, the fold keeps. -/
theorem foldl_same {α β γ : Type} {f : α → β → α} {l : List β} {a : α} (k : α → γ) (step : ∀ a, ∀ b ∈ l, k (f a b) = k a) :
    k (l.foldl f a) = k a := by
  induction l generalizing a with
  | nil => rfl
  | cons b l ih =>
    rw [List.foldl_cons, ih fun a c mem => step a c (List.mem_cons_of_mem _ mem)]
    exact step a b List.mem_cons_self

theorem emit_out {s : State} (free : s.bt.isolated = false) (o : Output) : (s.emit o).out = s.out ++ [o] :=
  congrArg State.out (if_neg (by simp [free]))

/-! ### Down (R252) -/

/-- A port as its link goes down. -/
def Port.downed (y : Port) : Port :=
  { y with egress := [], exHeld := [], deficit := [], serving := [], mark := none, markDebit := [], frag := 0, fragBytes := [],
           lockLost := false, readySent := false, readyGot := false, ctrl := [], loop := [], retrained := false }

/-- A mirror copy that waits for a port that goes down is dropped. -/
def State.dropsMirror (s : State) (p : Nat) : State :=
  if s.rt.mirrored.any (·.1 == p) then
    ({ s with rt := { s.rt with mirrored := none } }).sat Reg.GLB_SPARE_XBAR_STATUS_MIRROR_DROPPED 1 else s

/-- The registers and the event of a link that goes down. -/
def State.showsDown (s : State) (p cause : Nat) : State :=
  let s := ((s.wr Reg.LNK_STATUS_STATE 3 p).wr Reg.LNK_STATUS_DOWN_CAUSE cause p).wr Reg.LNK_STATUS_DOWN_SEEN 1 p
  ((s.emit (.transmit p false)).raise (0x040 + p) cause).tally Reg.LNK_LEAK_DOWNS 0x08A p none 1 p

/-- The state of a link that has gone down, before anything follows from it. -/
def State.goesDown (s : State) (p cause : Nat) : State := ((s.setPort p (s.port p).downed).dropsMirror p).showsDown p cause

theorem linkDown_eq {s : State} {p : Nat} (up : s.portUp p = true) (cause : Nat) {u v : State} (down : s.goesDown p cause = u)
    (fails : u.failOver p = v) : s.linkDown p cause = settle ((((s.port p).egress.flatMap (·.2) ++ (s.port p).exHeld).foldl
      (fun r x => r.decideAgain p x) (((List.range 72).filter fun q => (v.port q).failover.any (·.via == p)).foldl State.discardUnacked v)).swarmLinkDown p) := by
  subst down fails
  exact if_neg (by rw [up]; decide)

theorem linkDown_noop {s : State} {p : Nat} (down : s.portUp p = false) (cause : Nat) : s.linkDown p cause = s := if_pos (by rw [down]; rfl)

section
variable (s : State) (p : Nat)

theorem dropsMirror_parts : (s.dropsMirror p).ports = s.ports ∧ (s.dropsMirror p).out = s.out ∧ (s.dropsMirror p).bt = s.bt
    ∧ (s.dropsMirror p).tp = s.tp ∧ (s.dropsMirror p).mt = s.mt ∧ (s.dropsMirror p).sw = s.sw := by
  unfold State.dropsMirror
  split <;> exact ⟨rfl, rfl, rfl, rfl, rfl, rfl⟩

theorem dropsMirror_rd {g : Fld} (h : g.ofPort) : (s.dropsMirror p).rd g p = s.rd g p := by
  unfold State.dropsMirror
  split
  · refine rd_wr_apart _ _ (.inl ?_)
    obtain ⟨above, -⟩ := h
    simp only [Fld.addr, Reg.GLB_SPARE_XBAR_STATUS_MIRROR_DROPPED]
    omega
  · rfl

end

section
variable (s : State) (p cause : Nat)

theorem showsDown_parts : (s.showsDown p cause).ports = s.ports ∧ (s.showsDown p cause).tp = s.tp ∧ (s.showsDown p cause).mt = s.mt
    ∧ (s.showsDown p cause).sw = s.sw := by
  have emitted (u : State) (o : Output) : (u.emit o).ports = u.ports ∧ (u.emit o).tp = u.tp ∧ (u.emit o).mt = u.mt ∧ (u.emit o).sw = u.sw := by
    unfold State.emit
    split <;> exact ⟨rfl, rfl, rfl, rfl⟩
  obtain ⟨ports, tp, mt, sw⟩ :=
    emitted (((s.wr Reg.LNK_STATUS_STATE 3 p).wr Reg.LNK_STATUS_DOWN_CAUSE cause p).wr Reg.LNK_STATUS_DOWN_SEEN 1 p) (.transmit p false)
  rw [State.showsDown, tally_ports, raise_ports, tally_tp, raise_tp, tally_mt, raise_mt, tally_sw, raise_sw]
  exact ⟨ports, tp, mt, sw⟩

theorem showsDown_out (free : s.bt.isolated = false) : (s.showsDown p cause).out = s.out ++ [.transmit p false] := by
  rw [State.showsDown, tally_out, raise_out]
  exact emit_out (s := (((s.wr Reg.LNK_STATUS_STATE 3 p).wr Reg.LNK_STATUS_DOWN_CAUSE cause p).wr Reg.LNK_STATUS_DOWN_SEEN 1 p)) free _

variable {p} (port : p < 72)
include port

theorem showsDown_rd {g : Fld} (h : g.ofPort) (apart : Reg.LNK_LEAK_DOWNS.beside g) : (s.showsDown p cause).rd g p
    = (((s.wr Reg.LNK_STATUS_STATE 3 p).wr Reg.LNK_STATUS_DOWN_CAUSE cause p).wr Reg.LNK_STATUS_DOWN_SEEN 1 p).rd g p := by
  have emitted (u : State) (o : Output) : (u.emit o).rd g p = u.rd g p := by
    unfold State.emit
    split <;> rfl
  rw [State.showsDown, tally_port_rd _ _ _ _ _ _ port h apart, raise_port_rd _ port h, emitted]

theorem showsDown_state : (s.showsDown p cause).rd Reg.LNK_STATUS_STATE p = 3 := by
  rw [showsDown_rd s cause port (by decide) (by decide), rd_wr_beside _ _ _ _ (by decide), rd_wr_beside _ _ _ _ (by decide),
    rd_wr_same _ _ _ _ _ (by decide)]
  rfl

theorem showsDown_seen : (s.showsDown p cause).rd Reg.LNK_STATUS_DOWN_SEEN p = 1 := by
  rw [showsDown_rd s cause port (by decide) (by decide), rd_wr_same _ _ _ _ _ (by decide)]
  rfl

theorem showsDown_cause (small : cause < 8) : (s.showsDown p cause).rd Reg.LNK_STATUS_DOWN_CAUSE p = cause := by
  rw [showsDown_rd s cause port (by decide) (by decide), rd_wr_beside _ _ _ _ (by decide), rd_wr_same _ _ _ _ _ (by decide)]
  exact Nat.mod_eq_of_lt (by show cause < 16; omega)

end

section
variable (s : State) {p cause : Nat}

theorem goesDown_ports : (s.goesDown p cause).ports = mset s.ports p (s.port p).downed := by
  rw [State.goesDown, (showsDown_parts ..).1, (dropsMirror_parts ..).1]
  rfl

theorem goesDown_port : (s.goesDown p cause).port p = (s.port p).downed := by
  rw [State.port, goesDown_ports]
  exact port_setPort_same ..

theorem goesDown_other {q : Nat} (other : q ≠ p) : (s.goesDown p cause).port q = s.port q := by
  rw [State.port, goesDown_ports]
  exact port_setPort_other _ _ _ _ other

theorem goesDown_queues : (s.goesDown p cause).tp = s.tp ∧ (s.goesDown p cause).mt = s.mt ∧ (s.goesDown p cause).sw = s.sw := by
  obtain ⟨-, tp, mt, sw⟩ := showsDown_parts ((s.setPort p (s.port p).downed).dropsMirror p) p cause
  obtain ⟨-, -, -, tp', mt', sw'⟩ := dropsMirror_parts (s.setPort p (s.port p).downed) p
  exact ⟨tp.trans tp', mt.trans mt', sw.trans sw'⟩

theorem goesDown_out (free : s.bt.isolated = false) : (s.goesDown p cause).out = s.out ++ [.transmit p false] := by
  obtain ⟨-, out, bt, -⟩ := dropsMirror_parts (s.setPort p (s.port p).downed) p
  rw [State.goesDown, showsDown_out _ _ _ (by rw [bt]; exact free), out]
  rfl

theorem goesDown_expect (port : p < 72) : (s.goesDown p cause).rd Reg.LNK_RX_EXPECT_LSN p = s.rd Reg.LNK_RX_EXPECT_LSN p := by
  rw [State.goesDown, showsDown_rd _ _ port (by decide) (by decide), rd_wr_beside _ _ _ _ (by decide), rd_wr_beside _ _ _ _ (by decide),
    rd_wr_beside _ _ _ _ (by decide), dropsMirror_rd _ _ (by decide)]
  rfl

/-- A link with nothing that waits and no swarm traffic goes down, and nothing follows. -/
theorem linkDown_idle (up : s.portUp p = true) (quiet : s.quiet = true) (fronds : s.sw.fronds = []) (egress : (s.port p).egress = [])
    (held : (s.port p).exHeld = []) (replay : (s.port p).replay = []) (handed : (s.port p).handed = [])
    (none_ : ∀ q < 72, (s.port q).failover = none) (port : p < 72) : s.linkDown p cause = s.goesDown p cause := by
  obtain ⟨u, down⟩ : ∃ u, s.goesDown p cause = u := ⟨_, rfl⟩
  have own : u.port p = (s.port p).downed := down ▸ goesDown_port s
  have stays : u.failOver p = u := failOver_nothing (by rw [own]; exact replay) (by rw [own]; exact handed)
  have others : ((List.range 72).filter fun q => (u.port q).failover.any (·.via == p)) = [] := by
    rw [List.filter_eq_nil_iff]
    intro q low
    have still : (u.port q).failover = none := by
      by_cases same : q = p
      · rw [same, own]
        exact none_ p port
      · rw [← down, goesDown_other s same]
        exact none_ q (List.mem_range.1 low)
    rw [still]
    exact Bool.false_ne_true
  obtain ⟨tp, mt, sw⟩ := goesDown_queues s (p := p) (cause := cause)
  rw [down] at tp mt sw
  have swarm : u.swarmLinkDown p = u := by
    rw [State.swarmLinkDown, sw, fronds]
    rfl
  rw [linkDown_eq up cause down stays, egress, held, others, down]
  exact (congrArg settle swarm).trans (settle_still quiet tp mt sw)

end

/-! ### Up (R248) -/

/-- A row of registers of the link layer. -/
abbrev Fld.ofLink (f : Fld) : Prop := f.ofPort ∧ 0x2000000 ≤ f.base

section
variable (s : State) {p : Nat} {g : Fld} (port : p < 72) (h : g.ofLink)
include port h

/-- Judging cables and partners leaves the registers of links. -/
theorem judgeAll_rd : s.judgeAll.rd g p = s.rd g p := by
  unfold State.judgeAll
  dsimp only
  refine (foldl_same (k := fun s : State => s.rd g p) fun u q low => ?_).trans (foldl_same (k := fun s : State => s.rd g p) fun u q _ => ?_)
  · have away (v : Nat) : (u.wr Reg.RTE_PARTNER_MISMATCH v 1 q).rd g p = u.rd g p := by
      refine rd_wr_apart _ _ (.inl ?_)
      have := List.mem_range.1 low
      obtain ⟨-, above⟩ := h
      simp only [Fld.addr, Reg.RTE_PARTNER_MISMATCH]
      omega
    split
    · exact away 0
    · split
      · rfl
      · exact (raise_port_rd _ port h.1 _ _ _ _).trans (away 1)
    · rfl
  · exact raise_port_rd _ port h.1 _ _ _ _

end

/-- The registers that tell of the far end. -/
def State.farShown (s : State) (p : Nat) (b : List Byte) : State :=
  (((s.wr Reg.LNK_STATUS_FAR_COORD_VALID (flag (bitAt b 2 7) 1) p).wr Reg.LNK_STATUS_FAR_PORT (at_ b 2 % 128) p).wr
    Reg.LNK_STATUS_FAR_COORD (beAt b 3 3 % 2 ^ 20) p).wr Reg.LNK_FAR_SERIAL_SERIAL (beAt b 8 8) p

theorem latchFar_eq (s : State) (p : Nat) (b : List Byte) :
    s.latchFar p b = ((s.farShown p b).setPort p { (s.farShown p b).port p with latched := true }).judgeAll := rfl

section
variable (s : State) {p : Nat} (b : List Byte) (port : p < 72)
include port

theorem latchFar_shows {g : Fld} (h : g.ofLink) : (s.latchFar p b).rd g p = (s.farShown p b).rd g p := by
  rw [latchFar_eq, judgeAll_rd _ port h]
  rfl

theorem latchFar_rd {g : Fld} (h : g.ofLink) (valid : Reg.LNK_STATUS_FAR_COORD_VALID.beside g) (far : Reg.LNK_STATUS_FAR_PORT.beside g)
    (coord : Reg.LNK_STATUS_FAR_COORD.beside g) (serial : Reg.LNK_FAR_SERIAL_SERIAL.beside g) : (s.latchFar p b).rd g p = s.rd g p := by
  rw [latchFar_shows s b port h, State.farShown, rd_wr_beside _ _ _ _ serial, rd_wr_beside _ _ _ _ coord, rd_wr_beside _ _ _ _ far,
    rd_wr_beside _ _ _ _ valid]

theorem latchFar_coord : (s.latchFar p b).rd Reg.LNK_STATUS_FAR_COORD p = beAt b 3 3 % 2 ^ 20 := by
  rw [latchFar_shows s b port (by decide), State.farShown, rd_wr_beside _ _ _ _ (by decide), rd_wr_same _ _ _ _ _ (by decide)]
  exact Nat.mod_mod ..

end

theorem onlyAvail_rd {s t : State} {p : Nat} (only : s.onlyAvail t p) {g : Fld} (apart : ∀ v < 8, (laneFld Reg.LNK_AVAIL_LO_AVAIL0 v).beside g) :
    t.rd g p = s.rd g p := only.2.2 g apart

/-- The ledger of a link that comes up, before its credits. -/
def State.freshLedger (s : State) (p : Nat) : State :=
  (((s.wr Reg.LNK_LEDGER_NEXT_LSN 0 p).wr Reg.LNK_LEDGER_ACKED_LSN 0xFFFFFF p).wr Reg.LNK_RX_EXPECT_LSN 0 p).wr Reg.LNK_RX_NAK_ARMED 1 p

theorem freshLedger_rd (s : State) (p : Nat) : (s.freshLedger p).rd Reg.LNK_LEDGER_NEXT_LSN p = 0
    ∧ (s.freshLedger p).rd Reg.LNK_LEDGER_ACKED_LSN p = 2 ^ 24 - 1 ∧ (s.freshLedger p).rd Reg.LNK_RX_EXPECT_LSN p = 0
    ∧ (s.freshLedger p).rd Reg.LNK_RX_NAK_ARMED p = 1 := by
  refine ⟨?_, ?_, ?_, rd_wr_same _ _ _ _ _ (by decide)⟩
  · rw [State.freshLedger, rd_wr_beside _ _ _ _ (by decide), rd_wr_beside _ _ _ _ (by decide), rd_wr_beside _ _ _ _ (by decide),
      rd_wr_same _ _ _ _ _ (by decide)]
    rfl
  · rw [State.freshLedger, rd_wr_beside _ _ _ _ (by decide), rd_wr_beside _ _ _ _ (by decide), rd_wr_same _ _ _ _ _ (by decide)]
    rfl
  · rw [State.freshLedger, rd_wr_beside _ _ _ _ (by decide), rd_wr_same _ _ _ _ _ (by decide)]
    rfl

/-- A port as its link comes up. -/
def State.upPort (s : State) (p : Nat) (b : List Byte) : Port :=
  { s.port p with
    replay := [], resend := [], adv := (List.range 8).map (advertised b), markDebit := [], mark := none, credit := [], frag := 0, fragBytes := [],
    rxCells := if (s.port p).offered.isEmpty then s.laneCells p else (s.port p).offered, lockLost := s.lockMissing p, block := 0 }

/-- A link that comes up has a fresh ledger and the credits that its far end advertises. -/
theorem linkUp_eq (s : State) (p : Nat) (b : List Byte) {u : State}
    (starts : ((s.discardUnacked p).setPort p ((s.discardUnacked p).upPort p b)).freshLedger p = u) : s.linkUp p b
    = (((List.range 8).foldl (fun s v => s.setAvail p v (nth ((List.range 8).map (advertised b)) v : Nat)) u).wr
        Reg.LNK_STATUS_STATE 2 p).latchFar p b := starts ▸ rfl

theorem nth_map_range {f : Nat → Nat} {v n : Nat} (low : v < n) : nth ((List.range n).map f) v = f v := by
  rw [nth, List.getD_eq_getElem?_getD, List.getElem?_map, List.getElem?_range low]
  rfl

theorem linkUp_shows (s : State) {p : Nat} (b : List Byte) (port : p < 72) :
    (s.linkUp p b).rd Reg.LNK_LEDGER_NEXT_LSN p = 0 ∧ (s.linkUp p b).rd Reg.LNK_RX_EXPECT_LSN p = 0
      ∧ (s.linkUp p b).rd Reg.LNK_LEDGER_ACKED_LSN p = 2 ^ 24 - 1 ∧ (s.linkUp p b).rd Reg.LNK_RX_NAK_ARMED p = 1
      ∧ (s.linkUp p b).rd Reg.LNK_STATUS_FAR_COORD p = beAt b 3 3 % 2 ^ 20 ∧ ∀ v < 8, (s.linkUp p b).avail p v = (advertised b v : Int) := by
  have up := linkUp_eq s p b rfl
  generalize (s.discardUnacked p).setPort p ((s.discardUnacked p).upPort p b) = u at up
  have range : ∀ v < 8, -(2 ^ 15) ≤ ((nth ((List.range 8).map (advertised b)) v : Nat) : Int)
      ∧ ((nth ((List.range 8).map (advertised b)) v : Nat) : Int) < 2 ^ 15 := fun v lane => by
    have small : advertised b v < 4096 := Nat.mod_lt _ (by decide)
    rw [nth_map_range lane]
    omega
  obtain ⟨only, lanes, -⟩ := avail_foldl (s := u.freshLedger p) (p := p) range (k := 8) le_rfl
  obtain ⟨next, acked, expect, armed⟩ := freshLedger_rd u p
  rw [up]
  refine ⟨?_, ?_, ?_, ?_, latchFar_coord _ b port, fun v lane => ?_⟩
  · rw [latchFar_rd _ _ port (by decide) (by decide) (by decide) (by decide) (by decide), rd_wr_beside _ _ _ _ (by decide),
      onlyAvail_rd only (by decide), next]
  · rw [latchFar_rd _ _ port (by decide) (by decide) (by decide) (by decide) (by decide), rd_wr_beside _ _ _ _ (by decide),
      onlyAvail_rd only (by decide), expect]
  · rw [latchFar_rd _ _ port (by decide) (by decide) (by decide) (by decide) (by decide), rd_wr_beside _ _ _ _ (by decide),
      onlyAvail_rd only (by decide), acked]
  · rw [latchFar_rd _ _ port (by decide) (by decide) (by decide) (by decide) (by decide), rd_wr_beside _ _ _ _ (by decide),
      onlyAvail_rd only (by decide), armed]
  · have link : ∀ v < 8, (laneFld Reg.LNK_AVAIL_LO_AVAIL0 v).ofLink := by decide
    have valid : ∀ v < 8, Reg.LNK_STATUS_FAR_COORD_VALID.beside (laneFld Reg.LNK_AVAIL_LO_AVAIL0 v) := by decide
    have far : ∀ v < 8, Reg.LNK_STATUS_FAR_PORT.beside (laneFld Reg.LNK_AVAIL_LO_AVAIL0 v) := by decide
    have coord : ∀ v < 8, Reg.LNK_STATUS_FAR_COORD.beside (laneFld Reg.LNK_AVAIL_LO_AVAIL0 v) := by decide
    have serial : ∀ v < 8, Reg.LNK_FAR_SERIAL_SERIAL.beside (laneFld Reg.LNK_AVAIL_LO_AVAIL0 v) := by decide
    have state : ∀ v < 8, Reg.LNK_STATUS_STATE.beside (laneFld Reg.LNK_AVAIL_LO_AVAIL0 v) := by decide
    have last := lanes v lane
    rw [nth_map_range lane] at last
    rw [← last, State.avail, latchFar_rd _ _ port (link v lane) (valid v lane) (far v lane) (coord v lane) (serial v lane),
      rd_wr_beside _ _ _ _ (state v lane)]
    rfl

/-- Settles O34: the timers, the order of the waiting blocks, the ACK_CREDIT block that leaves, links that go down and come up, and the
failover. -/
theorem linkTimersAndState : Obligations.LinkTimersAndState := by
  unfold Obligations.LinkTimersAndState
  refine ⟨fun s p clocks => ⟨linkAckTimer_acts clocks, replayTimeout_acts clocks, resyncPeriod_acts clocks, trainTimer_acts clocks,
      lockLossTimeout_acts clocks, holdoffExpiry_acts clocks, failoverTimeout_acts clocks, trainingTimeout_acts clocks,
      fun x held => reorderRelease_acts clocks held⟩,
    fun y x next => ?_, fun s p f far free => ackCredit_leaves f far free, fun s p cause b port => ⟨?_, ?_, ?_, ?_⟩,
    fun s p q => ⟨failOver_nothing, fun some_ good => failOver_asks some_ good.1 good.2.1 good.2.2, failOver_discards, discardUnacked_counts⟩⟩
  · obtain ⟨waits, foremost⟩ := nextControl_foremost next
    exact ⟨waits, foremost, fun ⟨b, report⟩ => ctrlRank_zero (Nat.le_zero.1 (foremost _ report))⟩
  · intro up small quiet fronds egress held replay handed none_ free t
    have down : t = s.goesDown p cause := linkDown_idle s up quiet fronds egress held replay handed none_ port
    rw [down, goesDown_port s]
    exact ⟨showsDown_state _ _ port, showsDown_cause _ _ port small, showsDown_seen _ _ port, goesDown_out s free, rfl, rfl,
      fun q other => goesDown_other s other⟩
  · intro up small free
    refine ⟨s.goesDown p cause, showsDown_state _ _ port, showsDown_cause _ _ port small, showsDown_seen _ _ port, goesDown_out s free,
      fun q other => goesDown_other s other, ?_⟩
    rw [goesDown_port s]
    exact ⟨rfl, rfl, rfl, rfl, rfl, rfl, rfl, goesDown_expect s port, linkDown_eq up cause rfl rfl⟩
  · exact fun down => linkDown_noop down cause
  · exact fun _ _ _ _ _ => linkUp_shows s b port

end Sys2Proof.Machine

/-! PROOFS. Management packets and the operations of the fabric manager (R153, R218, R221 to R226). -/

namespace Sys2Proof.Machine

/-! ### The keeper's queue (R222, R223) -/

/-- A directed packet's header with the port that it came from. -/
def arrivedFrom (h : MgmtHeader) (port : Nat) : MgmtHeader :=
  if h.directed ∧ port < 72 ∧ 0 < h.hopPtr then { h with returnHops := setNth h.returnHops (h.hopPtr - 1) port } else h

/-- Recording where a packet came from changes its list of ports only. -/
theorem arrivedFrom_same (h : MgmtHeader) (port : Nat) : (arrivedFrom h port).directed = h.directed ∧ (arrivedFrom h port).hopPtr = h.hopPtr
    ∧ (arrivedFrom h port).hopCount = h.hopCount ∧ (arrivedFrom h port).response = h.response ∧ (arrivedFrom h port).mop = h.mop
    ∧ (arrivedFrom h port).mversion = h.mversion := by
  unfold arrivedFrom
  split <;> exact ⟨rfl, rfl, rfl, rfl, rfl, rfl⟩

section
variable {s u : State} {x : InPkt} {l : List InPkt} {h : MgmtHeader} {q : Packet} (clocks : s.clocks) (queue : s.rt.keeper = x :: l)
  (body : x.pkt.body = .mgmt h) (rest : { s with rt := { s.rt with keeper := l } } = u)
  (recorded : { x.pkt with body := .mgmt (arrivedFrom h x.port), net := { x.pkt.net with
    phase := false, hops := 0, detoursLeft := s.rd Reg.RTE_ADAPT_MAX_DETOURS 1 } } = q)
include clocks queue body rest recorded

theorem mgmtDirectedForward_runs : exec .mgmtDirectedForward s
    = .next (if h.directed = false ∨ h.hopPtr = h.hopCount then u.takeMgmt { x with pkt := q } else u.sendMgmt q) := by
  obtain ⟨directed, ptr, count, -⟩ := arrivedFrom_same h x.port
  rw [exec_mgmtDirectedForward, execMgmtDirectedForward, s.clocked_runs clocks, queue]
  dsimp only
  rw [body]
  dsimp only
  rw [apply_ite Host.Outcome.next, ← rest, ← recorded]
  have same : ((!(arrivedFrom h x.port).directed) = true ∨ (arrivedFrom h x.port).hopPtr = (arrivedFrom h x.port).hopCount)
      = (h.directed = false ∨ h.hopPtr = h.hopCount) := by
    rw [directed, ptr, count, Bool.not_eq_true']
  exact if_congr (iff_of_eq same) rfl rfl

end

section
variable {u : State} {x : InPkt} {k : MgmtHeader} (body : x.pkt.body = .mgmt k)
include body

theorem takeMgmt_manager (answer : k.response = true ∨ k.mop = 9) : u.takeMgmt x = u.emit (.manager x.pkt.toBytes) := by
  rw [State.takeMgmt, body]
  exact if_pos answer

variable (request : k.response = false) (plain : k.mop ≠ 9)
include request plain

theorem takeMgmt_version (old : k.mversion ≠ 1) : u.takeMgmt x = u.mgmtReply x k 0x0E := by
  rw [State.takeMgmt, body]
  dsimp only
  rw [if_neg (by simp [request, plain]), if_pos old]
  rfl

theorem takeMgmt_unknown (version : k.mversion = 1) (none_ : k.mop = 0 ∨ 10 < k.mop) : u.takeMgmt x = u.mgmtReply x k 0x0C := by
  rw [State.takeMgmt, body]
  dsimp only
  rw [if_neg (by simp [request, plain]), if_neg (by simp [version]), if_pos none_]
  rfl

theorem takeMgmt_waits (version : k.mversion = 1) (some_ : ¬(k.mop = 0 ∨ 10 < k.mop)) :
    u.takeMgmt x = { u with rt := { u.rt with mgmtIn := u.rt.mgmtIn ++ [x] } } := by
  rw [State.takeMgmt, body]
  dsimp only
  rw [if_neg (by simp [request, plain]), if_neg (by simp [version]), if_neg some_]

end

/-! ### Operations (R224, R225) -/

/-- A site of the keeper's memory. -/
def SoftSite.ofKeeper (x : SoftSite) : Bool :=
  match x with
  | .keeper _ => true
  | _ => false

/-- The state in which the keeper has read the first request that waits: a corrected error there is gone. -/
def State.mgmtReads (s : State) (l : List InPkt) : State := State.corrected { s with rt := { s.rt with mgmtIn := l } } SoftSite.ofKeeper 0x014

section
variable {s u : State} {x : InPkt} {l : List InPkt} {h : MgmtHeader} {mop : Nat} {needs : Bool} {f : InPkt → MgmtHeader → List Byte → State → MgmtDone}
  (queue : s.rt.mgmtIn = x :: l) (body : x.pkt.body = .mgmt h) (read : s.mgmtReads l = u)
include queue body read

theorem mgmtOp_eq : s.mgmtOp mop needs f = (
    if h.mop ≠ mop then .next s
    else if !h.directed ∧ !u.on Reg.RTE_MGMT_JOINED then .next (u.mgmtReply x h St.invalidState)
    else if needs ∧ u.rt.token ≠ some (BitVec.ofNat 64 h.token) then .next (u.mgmtReply x h St.protNak)
    else .next (settle ((f x h x.pkt.payload u).1.mgmtReply x h (f x h x.pkt.payload u).2.1 (f x h x.pkt.payload u).2.2))) := by
  rw [State.mgmtOp, queue]
  dsimp only
  rw [body, ← read]
  rfl

variable (joined : h.directed = true ∨ u.on Reg.RTE_MGMT_JOINED = true) (own : h.mop = mop)
include joined own

theorem mgmtOp_runs (may : needs = true → u.rt.token = some (BitVec.ofNat 64 h.token)) {r : MgmtDone} (acts : f x h x.pkt.payload u = r) :
    s.mgmtOp mop needs f = .next (settle (r.1.mgmtReply x h r.2.1 r.2.2)) := by
  have admitted : ¬((!h.directed) = true ∧ (!u.on Reg.RTE_MGMT_JOINED) = true) := by
    rcases joined with directed | on <;> simp [*]
  rw [mgmtOp_eq queue body read, if_neg (by simp [own]), if_neg admitted, if_neg (by rintro ⟨needs, other⟩; exact other (may needs)), acts]

theorem mgmtOp_refuses (needs_ : needs = true) (other : u.rt.token ≠ some (BitVec.ofNat 64 h.token)) :
    s.mgmtOp mop needs f = .next (u.mgmtReply x h 0x03) := by
  have admitted : ¬((!h.directed) = true ∧ (!u.on Reg.RTE_MGMT_JOINED) = true) := by
    rcases joined with directed | on <;> simp [*]
  rw [mgmtOp_eq queue body read, if_neg (by simp [own]), if_neg admitted, if_pos ⟨needs_, other⟩]
  rfl

end

section
variable {s u : State} {x : InPkt} {l : List InPkt} {h : MgmtHeader} {b : List Byte} (clocks : s.clocks) (queue : s.rt.mgmtIn = x :: l)
  (body : x.pkt.body = .mgmt h) (read : s.mgmtReads l = u) (joined : h.directed = true ∨ u.on Reg.RTE_MGMT_JOINED = true)
include clocks queue body read joined

/-- A command of an operation answers the first request that waits, if it asks for that. -/
theorem operation_runs {c : Instr} {mop : Nat} {needs : Bool} {f : InPkt → MgmtHeader → List Byte → State → MgmtDone}
    (runs : exec c s = s.clocked (s.mgmtOp mop needs f)) (own : h.mop = mop)
    (may : needs = true → u.rt.token = some (BitVec.ofNat 64 h.token)) {r : MgmtDone} (acts : f x h x.pkt.payload u = r) :
    exec c s = .next (settle (r.1.mgmtReply x h r.2.1 r.2.2)) := by
  rw [runs, s.clocked_runs clocks, mgmtOp_runs queue body read joined own may acts]

theorem claim_takes (payload : x.pkt.payload = b) (length : b.length = 8) (some_ : BitVec.ofNat 64 (word8 b 0) ≠ 0)
    (free : u.rt.token = none ∨ u.rt.token = some (BitVec.ofNat 64 h.token)) (routed : h.directed = false) (own : h.mop = 1) :
    exec .claim s = .next (settle ((State.wr { u with rt := { u.rt with
      token := some (BitVec.ofNat 64 (word8 b 0)), ownerPath := [], ownerEid := x.pkt.net.srcEid } } Reg.RTE_MGMT_OWNED 1).mgmtReply x h 0 [])) := by
  refine operation_runs clocks queue body read joined (exec_claim s) own (by simp) (r := (_, 0, [])) ?_
  have open_ : ¬(u.rt.token.elim false (· != BitVec.ofNat 64 h.token) = true) := by
    rcases free with free | free <;> rw [free] <;> simp
  rw [payload]
  dsimp only
  rw [if_neg (not_or.2 ⟨not_not.2 length, some_⟩), if_neg open_, routed]
  rfl

theorem claim_refused (payload : x.pkt.payload = b) (length : b.length = 8) (some_ : BitVec.ofNat 64 (word8 b 0) ≠ 0) {w : Word}
    (held : u.rt.token = some w) (other : u.rt.token ≠ some (BitVec.ofNat 64 h.token)) (own : h.mop = 1) :
    exec .claim s = .next (settle (u.mgmtReply x h 0x03 [])) := by
  refine operation_runs clocks queue body read joined (exec_claim s) own (by simp) (r := (u, 0x03, [])) ?_
  have differs : w ≠ BitVec.ofNat 64 h.token := fun same => other (by rw [held, same])
  rw [payload]
  dsimp only
  rw [if_neg (not_or.2 ⟨not_not.2 length, some_⟩), held, if_pos (by simpa using differs)]
  rfl

theorem readReg_reads (payload : x.pkt.payload = b) (length : b.length = 16) {off n : Nat} (at_ : word8 b 0 = off) (count : word8 b 8 = n)
    (range : off % 8 = 0 ∧ 1 ≤ n ∧ n ≤ 64 ∧ off + 8 * n ≤ 2 ^ 26) (own : h.mop = 3) :
    exec .readReg s = .next (settle ((u.mgmtRead off n).1.mgmtReply x h 0 (u.mgmtRead off n).2)) := by
  refine operation_runs clocks queue body read joined (exec_readReg s) own (by simp) (r := ((u.mgmtRead off n).1, 0, (u.mgmtRead off n).2)) ?_
  have named : regRange b = some (off, n) := by
    rw [regRange, at_, count]
    exact if_pos ⟨by omega, range⟩
  rw [payload]
  dsimp only
  rw [named]
  dsimp only
  rw [if_neg (by simp [length])]
  rfl

variable (token : u.rt.token = some (BitVec.ofNat 64 h.token))

theorem release_refused (other : u.rt.token ≠ some (BitVec.ofNat 64 h.token)) (own : h.mop = 2) :
    exec .release s = .next (u.mgmtReply x h 0x03) := by
  rw [exec_release, execRelease, s.clocked_runs clocks, mgmtOp_refuses queue body read joined own rfl other]

include token

theorem release_drops (payload : x.pkt.payload = []) (own : h.mop = 2) :
    exec .release s = .next (settle (u.dropOwner.mgmtReply x h 0 [])) := by
  refine operation_runs clocks queue body read joined (exec_release s) own (fun _ => token) (r := (u.dropOwner, 0, [])) ?_
  rw [payload]
  rfl

theorem writeReg_writes (payload : x.pkt.payload = b) {off n : Nat} (at_ : word8 b 0 = off) (count : word8 b 8 = n)
    (length : b.length = 16 + 8 * n) (range : off % 8 = 0 ∧ 1 ≤ n ∧ n ≤ 64 ∧ off + 8 * n ≤ 2 ^ 26) (own : h.mop = 4) :
    exec .writeReg s = .next (settle (State.mgmtReply ((List.range n).foldl (fun (t : State) i =>
      t.regWrite (.keeper 0) (off + 8 * i) 8 (BitVec.ofNat 64 (word8 b (16 + 8 * i)))) u) x h 0 [])) := by
  refine operation_runs clocks queue body read joined (exec_writeReg s) own (fun _ => token) (r := (_, 0, [])) ?_
  have named : regRange b = some (off, n) := by
    rw [regRange, at_, count]
    exact if_pos ⟨by omega, range⟩
  rw [payload, named]
  dsimp only
  rw [if_neg (by simp [length])]
  rfl

theorem assign_swaps (payload : x.pkt.payload = b) (length : b.length = 20) (none_ : beAt b 16 4 = 0)
    (idle : u.on Reg.RTE_SWAP_PENDING = false) {t : State}
    (written : (u.regWrite (.keeper 0) 0x1001000 8 (BitVec.ofNat 64 (word8 b 0))).regWrite (.keeper 0) 0x1001008 8 (BitVec.ofNat 64 (word8 b 8)) = t)
    (shape : t.reg 0x1001000 0x111104104100000 = BitVec.ofNat 64 (word8 b 0)) (base : t.reg 0x1001008 0 = BitVec.ofNat 64 (word8 b 8))
    (swapped : t.swap.rd Reg.RTE_SWAP_STATUS = 0) (own : h.mop = 5) :
    exec .assign s = .next (settle (((t.swap.wr Reg.RTE_MGMT_JOINED 1).announce u).mgmtReply x h 0 [])) := by
  refine operation_runs clocks queue body read joined (exec_assign s) own (fun _ => token)
    (r := ((t.swap.wr Reg.RTE_MGMT_JOINED 1).announce u, 0, [])) ?_
  rw [payload]
  dsimp only
  rw [none_, idle, written, if_neg (by simp [length]), if_neg (by simp [shape, base]), if_neg (by rw [swapped]; decide)]
  rfl

theorem eidWrite_writes (payload : x.pkt.payload = b) (length : b.length = 12) (one : beAt b 4 4 = 1) {first : Nat} (at_ : beAt b 0 4 = first)
    (low : first < 2 ^ 20) (own : h.mop = 6) : exec .eidWrite s = .next (settle (((u.eidFresh first).wr
      (subFld Reg.RTE_EID_WORD_WORD (first % 2) 32) (beAt b 8 4 &&& 0x8F7FFFFF) (first / 2)).mgmtReply x h 0 [])) := by
  refine operation_runs clocks queue body read joined (exec_eidWrite s) own (fun _ => token) (r := (_, 0, [])) ?_
  rw [payload]
  dsimp only
  rw [one, at_, if_neg (by omega)]
  rfl

theorem frondWrite_writes (payload : x.pkt.payload = b) (length : b.length = 72) {r : State × Nat}
    (written : u.frondWrite (beAt b 0 2) ((List.range 8).map fun i => BitVec.ofNat 64 (word8 b (8 + 8 * i))) = r) (own : h.mop = 7) :
    exec .frondWrite s = .next (settle (r.1.mgmtReply x h r.2 [])) := by
  refine operation_runs clocks queue body read joined (exec_frondWrite s) own (fun _ => token) (r := (r.1, r.2, [])) ?_
  rw [payload]
  dsimp only
  rw [if_neg (by simp [length]), written]

theorem swap_swaps (payload : x.pkt.payload = b) (length : b.length = 8) (now : word8 b 0 = 0) (idle : u.on Reg.RTE_SWAP_PENDING = false)
    (free : u.on Reg.RTE_SWAP_BUSY = false) {w : State} (set_ : (u.wr Reg.RTE_SWAP_AT_TIME 0).wr Reg.RTE_SWAP_TIME_TIME 0 = w)
    (swapped : (w.swap.announce u).rd Reg.RTE_SWAP_STATUS = 0) (own : h.mop = 8) :
    exec .swap s = .next (settle ((w.swap.announce u).mgmtReply x h 0 [])) := by
  refine operation_runs clocks queue body read joined (exec_swap s) own (fun _ => token) (r := (w.swap.announce u, 0, [])) ?_
  have pending : w.on Reg.RTE_SWAP_PENDING = false := by
    rw [← set_, on_wr_beside _ _ _ _ (by decide), on_wr_beside _ _ _ _ (by decide), idle]
  have busy : w.on Reg.RTE_SWAP_BUSY = false := by
    rw [← set_, on_wr_beside _ _ _ _ (by decide), on_wr_beside _ _ _ _ (by decide), free]
  have untimed : w.on Reg.RTE_SWAP_AT_TIME = false := by
    rw [← set_, on_wr_beside _ _ _ _ (by decide), State.on, rd_wr_same _ _ _ _ _ (by decide)]
    rfl
  have goes : w.swapGo = w.swap := by
    rw [State.swapGo, if_neg (by simp [pending, busy]), if_neg (by simp [untimed])]
  rw [payload]
  dsimp only
  rw [now, idle, if_neg (by simp [length]), if_pos rfl, set_, goes, if_neg (by rintro ⟨-, bad⟩; exact bad swapped)]
  rfl

end

section
variable {s u : State} {x : InPkt} {l : List InPkt} {h : MgmtHeader} (clocks : s.clocks) (queue : s.rt.mgmtIn = x :: l)
  (body : x.pkt.body = .mgmt h) (read : s.mgmtReads l = u) (joined : h.directed = true ∨ u.on Reg.RTE_MGMT_JOINED = true)
include clocks queue body read joined

theorem echo_answers (own : h.mop = 10) : exec .echo s = .next (settle (u.mgmtReply x h 0 x.pkt.payload)) :=
  operation_runs clocks queue body read joined (exec_echo s) own (by simp) (r := (u, 0, x.pkt.payload)) rfl

end

/-- Settles O38: the keeper's queue by `takeMgmt`, each operation by its lemma. -/
theorem managementPacketsAct : Obligations.ManagementPacketsAct := by
  unfold Obligations.ManagementPacketsAct
  refine ⟨fun s x l h clocks queue body => ?_, fun s x l h clocks queue body => ?_⟩
  · intro k n q u
    have runs := mgmtDirectedForward_runs clocks queue body (u := u) rfl (q := q) rfl
    obtain ⟨-, -, -, response, mop, version⟩ := arrivedFrom_same h x.port
    refine ⟨fun directed more => ?_, fun here => ?_⟩
    · rw [runs, if_neg (by simp [directed, more])]
    · rw [if_pos here] at runs
      refine ⟨fun answer => ?_, fun request plain old => ?_, fun request plain current none_ => ?_, fun request current some_ => ?_⟩
      · rw [runs, takeMgmt_manager (k := k) rfl (by rw [show k.response = h.response from response, show k.mop = h.mop from mop]; exact answer)]
      · rw [runs, takeMgmt_version (k := k) rfl (response.trans request) (fun e => plain (mop.symm.trans e)) (fun e => old (version.symm.trans e))]
      · rw [runs, takeMgmt_unknown (k := k) rfl (response.trans request) (fun e => plain (mop.symm.trans e)) (version.trans current)
          (by rw [show k.mop = h.mop from mop]; exact none_)]
      · have known : h.mop ≠ 9 ∧ ¬(h.mop = 0 ∨ 10 < h.mop) := by
          simp only [List.mem_cons, List.not_mem_nil, or_false] at some_
          omega
        rw [runs, takeMgmt_waits (k := k) rfl (response.trans request) (fun e => known.1 (mop.symm.trans e)) (version.trans current)
          (by rw [show k.mop = h.mop from mop]; exact known.2)]
  · intro b u
    have read : s.mgmtReads l = u := rfl
    refine ⟨fun sound => corrected_none _ _ _ sound, fun joined => ⟨?_, ?_, ?_, ?_, ?_, ?_, ?_, ?_, ?_, ?_, ?_⟩⟩
    · exact fun length some_ free routed own => claim_takes clocks queue body read joined rfl length some_ free routed own
    · exact fun length some_ w held other own => claim_refused clocks queue body read joined rfl length some_ held other own
    · exact fun token payload own => release_drops clocks queue body read joined token payload own
    · exact fun other own => release_refused clocks queue body read joined other own
    · exact fun length range own => readReg_reads clocks queue body read joined rfl length rfl rfl range own
    · exact fun token length range own => writeReg_writes clocks queue body read joined token rfl rfl rfl length range own
    · exact fun token length none_ idle shape base swapped own =>
        assign_swaps clocks queue body read joined token rfl length none_ idle rfl shape base swapped own
    · exact fun token length one low own => eidWrite_writes clocks queue body read joined token rfl length one rfl low own
    · exact fun token length own => frondWrite_writes clocks queue body read joined token rfl length rfl own
    · exact fun token length now idle free swapped own => swap_swaps clocks queue body read joined token rfl length now idle free rfl swapped own
    · exact fun own => echo_answers clocks queue body read joined own

end Sys2Proof.Machine

/-! PROOFS. Delivered WT packets, and new PUTs (R60, R74, R77, R94, R95, R97, R109). -/

namespace Sys2Proof.Machine

/-! ### Delivered packets -/

/-- An untagged packet leaves the delivered ones and has its effect. -/
theorem runPacket_takes {s t : State} {port : Nat} {p : Packet} {h : WtHeader} {x : InPkt} {row : Nat → Bool} (body : p.body = .wt h)
    (admits : s.admits 3 = true) (found : s.rt.delivered.find? (fun y => y.port == port && y.pkt.same p) = some x) (untagged : x.tag = none)
    (acts : s.rxPacket port x.pkt h = t) (goes : t.tp.todo.contains .wait = false) (mine : row h.opcode = true) :
    s.runPacket port p row = .next (settle { t with rt := { t.rt with delivered := t.rt.delivered.erase x } }) := by
  rw [State.runPacket, body, found]
  dsimp only
  rw [if_neg (by rw [mine, admits]; decide), untagged]
  have same : State.rxPacket (((s.stamp none 3).stamp none 4).stamp none 5) port x.pkt h = t := acts
  rw [same, if_neg (by rw [goes]; decide)]
  rfl

/-! ### Requests in a connection's window -/

section
variable {s : State} {n k : Nat} {q : Qp} {c : Conn} {p : Packet} {h : WtHeader} (put : h.opcode = 0x01)

theorem rxRequest_outside (outside : classify c.epsn c.bitmap h.psn = .outside) :
    s.rxRequest n k q c p h = (s.tally Reg.TPT_VIOLATION_WINDOW 0x1C5 0 q.owner, .none) := by
  rw [State.rxRequest]
  exact if_pos outside

include put

theorem rxRequest_again (again : classify c.epsn c.bitmap h.psn = .duplicate ∨ classify c.epsn c.bitmap h.psn = .old) :
    s.rxRequest n k q c p h = (s.noteRequest n k h.solicitAck, .none) := by
  have known : classify c.epsn c.bitmap h.psn ≠ .outside ∧ classify c.epsn c.bitmap h.psn ≠ .new := by
    rcases again with again | again <;> rw [again] <;> decide
  rw [State.rxRequest, if_neg known.1, if_pos known.2, if_neg (by rw [put]; decide), if_neg (by rw [put]; decide)]

theorem rxRequest_new (new : classify c.epsn c.bitmap h.psn = .new) : s.rxRequest n k q c p h = (s.rxPut n k q c p h, .none) := by
  rw [State.rxRequest, new, put, if_neg (by decide), if_neg (by decide), if_neg (show ¬(isMatched 1 && c.latched h.psn) = true from Bool.false_ne_true)]
  exact if_pos rfl

end

/-! ### New PUTs (R94, R97, R109) -/

section
variable {s : State} {n k : Nat} {q : Qp} {c : Conn} {p : Packet} {h : WtHeader} (fresh : s.grant n k h = none)
include fresh

theorem checkOnce_fresh (right len : Nat) : s.checkOnce n k h q right len = s.checkRemote h.key q.fn q.pd right h.address len := by
  rw [State.checkOnce, fresh]
  rfl

theorem rxPut_refused {d : Nat} (bad : s.checkRemote h.key q.fn q.pd rWrite h.address p.payload.length = some d) :
    s.rxPut n k q c p h = (s.keyFails q.owner 0x03 d p.net.srcEid h.key h.destQpn h.opcode).nakNew p h q c 0x03 := by
  rw [State.rxPut, checkOnce_fresh fresh, bad]
  rfl

variable (sound : s.checkRemote h.key q.fn q.pd rWrite h.address p.payload.length = none)
include sound

theorem rxPut_empty (empty : p.payload = []) : s.rxPut n k q c p h = (s.modConn n k (·.accept h.psn 1)).noteRequest n k h.solicitAck := by
  rw [State.rxPut, checkOnce_fresh fresh, sound, empty]
  rfl

/-- A PUT that falls into the store takes its reference and queues its placement. -/
theorem rxPut_store (some_ : p.payload ≠ []) (store : (s.key (keyIndex h.key)).store = true) :
    s.rxPut n k q c p h = State.place ((s.takeRef (keyIndex h.key)).modConn n k fun c => { c.accept h.psn 1 with unplaced := c.unplaced ++ [h.psn] })
      { use := .put n k h.psn h.solicitAck, key := some (keyIndex h.key), store := true, fn := q.fn, source := remoteSource p.net.srcEid,
        pieces := [((s.key (keyIndex h.key)).storeAt h.address, p.payload)] } := by
  rw [State.rxPut, checkOnce_fresh fresh, sound]
  dsimp only
  rw [if_neg (by simpa using some_), State.landing, if_pos store]
  dsimp only
  rw [State.useRef, fresh]
  rfl

end

theorem modConn_parts (s : State) (n k : Nat) (f : Conn → Conn) : (s.modConn n k f).tp.nextId = s.tp.nextId ∧ (s.modConn n k f).km = s.km := by
  unfold State.modConn State.modQp
  split <;> exact ⟨rfl, rfl⟩

theorem takeRef_nextId (s : State) (i : Nat) : (s.takeRef i).tp.nextId = s.tp.nextId := by rw [State.takeRef, setKey_tp, bringKey_tp]

theorem takeRef_inUse (s : State) (i : Nat) : ((s.takeRef i).key i).inUse = (s.key i).inUse + 1 := by
  obtain ⟨o, same⟩ := bringKey_key s i
  rw [State.takeRef, key_setKey_same, same]

/-- A placement that is queued stands under the next number; keys stay as they are. -/
theorem place_shows {s u v : State} {n k i : Nat} {f : Conn → Conn} {pl : Placement} (taken : s.takeRef i = u) (queued : (u.modConn n k f).place pl = v) :
    mget v.tp.placements s.tp.nextId = some pl ∧ (v.key i).inUse = (s.key i).inUse + 1 := by
  obtain ⟨next, km⟩ := modConn_parts u n k f
  have number : (u.modConn n k f).tp.nextId = s.tp.nextId := by rw [next, ← taken, takeRef_nextId]
  refine ⟨?_, ?_⟩
  · rw [← queued, ← number]
    exact mget_mset_same ..
  · have keys : v.km = u.km := by rw [← queued, ← km]; rfl
    rw [State.key, keys, ← takeRef_inUse, taken]
    rfl

/-- Settles O39: the commands by `runPacket_takes`, requests by the class of their PSN, and a PUT by its checks. -/
theorem receivedPacketsAct : Obligations.ReceivedPacketsAct := by
  unfold Obligations.ReceivedPacketsAct
  refine ⟨fun s port p h x clocks body admits found untagged => ?_, fun s n k q c p h put fresh => ?_⟩
  · intro t goes takes
    have runs {i : Instr} {row : Nat → Bool} (acts : exec i s = s.clocked (s.runPacket port p row)) {op : Nat} (mine : row op = true)
        (own : h.opcode = op) : exec i s = .next (settle { t with rt := { t.rt with delivered := t.rt.delivered.erase x } }) := by
      rw [acts, s.clocked_runs clocks, runPacket_takes body admits found untagged rfl goes (by rw [own]; exact mine)]
    exact ⟨runs (exec_wtPut ..) rfl, runs (exec_getReq ..) rfl, runs (exec_getResp ..) rfl, runs (exec_atomicReq ..) rfl,
      runs (exec_atomicResp ..) rfl, runs (exec_eager ..) rfl, runs (exec_rts ..) rfl, runs (exec_fin ..) rfl, runs (exec_ack ..) rfl,
      runs (exec_nak ..) rfl⟩
  · intro cls b e
    refine ⟨rxRequest_outside, rxRequest_again put, fun new => ⟨?_, ?_, ?_⟩⟩
    · exact fun d bad => (rxRequest_new put new).trans (congrArg (·, OrderWait.none) (rxPut_refused fresh bad))
    · exact fun sound empty => (rxRequest_new put new).trans (congrArg (·, OrderWait.none) (rxPut_empty fresh sound empty))
    · intro sound some_ store
      obtain ⟨queued, taken⟩ := place_shows (s := s) (n := n) (k := k) (i := keyIndex h.key)
        (f := fun c => { c.accept h.psn 1 with unplaced := c.unplaced ++ [h.psn] }) rfl (rxPut_store (q := q) (c := c) fresh sound some_ store).symm
      rw [rxRequest_new put new]
      exact ⟨_, rfl, rfl, rfl, rfl, queued, taken⟩

end Sys2Proof.Machine


/-! PROOFS. How routers pass packets on (O36, R195, R205, R207, R208, R215, R218, R227). -/

namespace Sys2Proof.Machine

/-! ### Arrival at a router -/

/-- The checks of R195, in their order. -/
theorem arrival_unjoined {s : State} {x : InPkt} (unjoined : s.on Reg.RTE_MGMT_JOINED = false)
    (listed : ∀ h, x.pkt.body = .mgmt h → h.directed = false) : s.arrival x = .discard .noRoute := by
  refine if_pos ⟨by rw [unjoined]; rfl, ?_⟩
  cases body : x.pkt.body with
  | mgmt h => exact congrArg not (listed h body)
  | _ => rfl

section Joined

variable {s : State} {x : InPkt} (joined : s.on Reg.RTE_MGMT_JOINED = true)
include joined

theorem arrival_hopLimit (hops : x.pkt.net.hops = 15) : s.arrival x = .discard .hopLimit := by
  unfold State.arrival
  dsimp only
  rw [if_neg (fun h => by rw [joined] at h; exact absurd h.1 (by decide)), if_pos hops]

theorem arrival_turn (hops : x.pkt.net.hops ≠ 15) (phase : x.pkt.net.phase = true) (down : s.descends 1 (s.rowOf x.port) = true) :
    s.arrival x = .discard .turnViolation := by
  unfold State.arrival
  dsimp only
  rw [if_neg (fun h => by rw [joined] at h; exact absurd h.1 (by decide)), if_neg hops, if_pos ⟨phase, down⟩]

variable (hops : x.pkt.net.hops ≠ 15) (phase : x.pkt.net.phase = false) (through : hopByHop x.pkt = false)
include hops phase through

theorem arrival_route (away : x.pkt.net.destCoord ≠ s.coord) :
    s.arrival x = .route { x.pkt with net := { x.pkt.net with phase := s.climbs 1 (s.rowOf x.port), hops := x.pkt.net.hops + 1 } }
      (s.climbs 1 (s.rowOf x.port)) := by
  unfold State.arrival
  dsimp only
  rw [if_neg (fun h => by rw [joined] at h; exact absurd h.1 (by decide)), if_neg hops,
    if_neg (fun h => by rw [phase] at h; exact absurd h.1 (by decide)), if_neg (by rw [through]; decide), if_neg away, phase]
  simp

theorem arrival_misdelivered (here : x.pkt.net.destCoord = s.coord) (kind : x.pkt.net.kind = 0)
    (foreign : s.isOwnEid x.pkt.net.destEid = false) : s.arrival x = .discard .misdelivered := by
  unfold State.arrival
  dsimp only
  rw [if_neg (fun h => by rw [joined] at h; exact absurd h.1 (by decide)), if_neg hops,
    if_neg (fun h => by rw [phase] at h; exact absurd h.1 (by decide)), if_neg (by rw [through]; decide), if_pos here,
    if_pos ⟨kind, by rw [foreign]; rfl⟩]

end Joined

/-- The first unchecked packet of a lane, with the checked ones before it. -/
theorem firstUnchecked {before rest : List InPkt} {x : InPkt} (checked : ∀ y ∈ before, y.checked = true) (fresh : x.checked = false) :
    (before ++ x :: rest).dropWhile (·.checked) = x :: rest ∧ (before ++ x :: rest).takeWhile (·.checked) = before := by
  constructor
  · rw [List.dropWhile_append_of_pos checked, List.dropWhile_cons_of_neg (by rw [fresh]; decide)]
  · rw [List.takeWhile_append_of_pos checked, List.takeWhile_cons_of_neg (by rw [fresh]; decide), List.append_nil]

/-- A lane of a port, as a read of its buffer leaves the port, with other contents. -/
def State.withLane (s : State) (p lane : Nat) (l : List InPkt) : State :=
  (s.bufferMet p).setPort p { (s.bufferMet p).port p with lanes := mset (s.port p).lanes lane l }

/-- A phase that the checks set is counted (R196). -/
def State.countsFix (s : State) (x : InPkt) (fixed : Bool) : State :=
  if fixed then s.tally Reg.RTE_COUNT_PHASE_FIXED 0x0C5 (inputUnit x.port) else s

section Arrival

variable {s : State} {p lane : Nat} {x : InPkt} {before rest : List InPkt} (clocks : s.clocks) (admits : s.admits 2 = true)
  (queue : mgetD (s.port p).lanes lane [] = before ++ x :: rest) (checked : ∀ y ∈ before, y.checked = true) (fresh : x.checked = false)
include clocks admits queue checked fresh

theorem routerArrival_discards {why : Discard} (out : (s.bufferMet p).arrival x = .discard why) :
    exec (.routerArrival p lane) s = .next ((s.withLane p lane (before ++ rest)).discard why x) := by
  obtain ⟨drop, take⟩ := firstUnchecked (rest := rest) checked fresh
  rw [exec_routerArrival, execRouterArrival, s.clocked_runs clocks]
  dsimp only
  rw [if_pos admits, queue, drop, take]
  dsimp only
  rw [out]
  rfl

theorem routerArrival_delivers {q : Packet} {b : Bool} (out : (s.bufferMet p).arrival x = .deliver q b) :
    exec (.routerArrival p lane) s
      = .next (((s.withLane p lane (before ++ rest)).countsFix x b).deliverLocal { x with pkt := q, checked := true }) := by
  obtain ⟨drop, take⟩ := firstUnchecked (rest := rest) checked fresh
  rw [exec_routerArrival, execRouterArrival, s.clocked_runs clocks]
  dsimp only
  rw [if_pos admits, queue, drop, take]
  dsimp only
  rw [out]
  rfl

theorem routerArrival_routes {q : Packet} {b : Bool} (out : (s.bufferMet p).arrival x = .route q b) :
    exec (.routerArrival p lane) s
      = .next ((s.withLane p lane (before ++ { x with pkt := q, checked := true } :: rest)).countsFix x b) := by
  obtain ⟨drop, take⟩ := firstUnchecked (rest := rest) checked fresh
  rw [exec_routerArrival, execRouterArrival, s.clocked_runs clocks]
  dsimp only
  rw [if_pos admits, queue, drop, take]
  dsimp only
  rw [out]
  rfl

end Arrival

/-! ### Routing decisions (R205) -/

theorem routingDecision_takes {s : State} {p lane : Nat} {x : InPkt} {rest : List InPkt} (clocks : s.clocks) (admits : s.admits 2 = true)
    (port : p < 72) (queue : mgetD (s.port p).lanes lane [] = x :: rest) (checked : x.checked = true) :
    exec (.routingDecision p lane) s
      = .next ((s.setPort p { s.port p with lanes := mset (s.port p).lanes lane rest }).decideOutput x) := by
  rw [exec_routingDecision, execRoutingDecision, s.clocked_runs clocks, if_neg (by rw [admits]; decide), if_pos port]
  dsimp only
  rw [queue]
  exact if_pos checked

theorem decideOutput_none {s t : State} {x : InPkt} (choice : s.choose x = (t, none)) :
    s.decideOutput x = t.discard (if x.pkt.net.ordered then .orderedBroken else .noRoute) x := by
  unfold State.decideOutput
  rw [choice]

theorem decideOutput_some {s t : State} {x : InPkt} {c : Cand} (choice : s.choose x = (t, some c))
    (keeps : t.egressDrop c.out x.pkt.net = none) :
    s.decideOutput x = (t.stamp x.tag 1).toEgress c.out { x with detour := c.detour } := by
  unfold State.decideOutput
  rw [choice]
  dsimp only
  rw [keeps]

/-! ### What leaves a port (R227, R305) -/

section Egress

variable {s : State} {p : Nat} (clocks : s.clocks) (admits : s.admits 0 = true) (running : s.stopped p = false)
include clocks admits running

/-- An up or a training port takes its next step. -/
theorem egressSelect_steps (ready : s.portUp p = true ∨ s.rd Reg.LNK_STATUS_STATE p = 1) :
    exec (.egressSelect p) s = .next (s.egressStep p) := by
  rw [exec_egressSelect, execEgressSelect, s.clocked_runs clocks, if_neg (by rw [admits, running]; decide), if_neg]
  · rfl
  · rintro ⟨down, idle⟩
    obtain up | training := ready
    · rw [up] at down
      exact absurd down (by decide)
    · exact idle training

theorem egressSelect_control {cb : Nat × List Byte} (ready : s.portUp p = true ∨ s.rd Reg.LNK_STATUS_STATE p = 1)
    (waits : (s.port p).nextControl = some cb) : exec (.egressSelect p) s = .next (s.controlLeaves p cb) := by
  rw [egressSelect_steps clocks admits running ready, State.egressStep, waits]

theorem egressSelect_training (training : s.rd Reg.LNK_STATUS_STATE p = 1) (none_ : (s.port p).nextControl = none) :
    exec (.egressSelect p) s = .next (s.sendControl p 0 []) := by
  have down : s.portUp p = false := by rw [State.portUp, training]; rfl
  rw [egressSelect_steps clocks admits running (.inr training), State.egressStep, none_]
  dsimp only
  rw [down]
  rfl

theorem egressSelect_packet (up : s.portUp p = true) (none_ : (s.port p).nextControl = none) :
    exec (.egressSelect p) s = .next (s.nextPacketOut p) := by
  rw [egressSelect_steps clocks admits running (.inl up), State.egressStep, none_]
  dsimp only
  rw [if_pos up]

end Egress

theorem nextPacketOut_resend {s : State} {p : Nat} {r : Replay} {l : List Replay} (resend : (s.port p).resend = [r.lsn])
    (replay : (s.port p).replay = r :: l) (may : s.maySend p r.vl r.cells false = true) :
    s.nextPacketOut p = ((s.setPort p { s.port p with resend := [] }).bufferMet p).sendReplay p r := by
  have found : ([r.lsn].findSome? fun k => (r :: l).find? fun y => y.lsn == k) = some r := by simp
  unfold State.nextPacketOut
  dsimp only
  rw [resend, replay, found]
  dsimp only
  rw [if_pos may, List.filter_cons_of_neg (by simp), List.filter_nil]

section Fresh

variable {s : State} {p : Nat} (admits : s.admits 1 = true) (resend : (s.port p).resend = [])
include admits resend

theorem nextPacketOut_handed {r : Replay} {l : List Replay} (handed : (s.port p).handed = r :: l)
    (may : s.maySend p r.vl r.cells true = true) :
    s.nextPacketOut p = (s.setPort p { s.port p with handed := l }).sendHanded p r := by
  unfold State.nextPacketOut
  dsimp only
  rw [resend, List.findSome?_nil]
  dsimp only
  rw [if_neg (by rw [admits]; decide), handed]
  dsimp only
  rw [if_pos may]

variable (handed : (s.port p).handed = [])
include handed

theorem nextPacketOut_idle {t : State} (pick : (s.mirrorFits p).pickLane p = (t, none)) : s.nextPacketOut p = t.sendControl p 0 [] := by
  unfold State.nextPacketOut
  dsimp only
  rw [resend, List.findSome?_nil]
  dsimp only
  rw [if_neg (by rw [admits]; decide), handed]
  dsimp only
  rw [pick]
  rfl

theorem nextPacketOut_lane {t : State} {v : Nat} {x : InPkt} (pick : (s.mirrorFits p).pickLane p = (t, some v))
    (head : t.egressHead p v = some x) : s.nextPacketOut p = t.handToLink p v x := by
  unfold State.nextPacketOut
  dsimp only
  rw [resend, List.findSome?_nil]
  dsimp only
  rw [if_neg (by rw [admits]; decide), handed]
  dsimp only
  rw [pick]
  dsimp only [Option.bind_some]
  rw [head]
  rfl

end Fresh

/-! ### The mirror's copy (R41) -/

theorem mirrorFits_empty {s : State} (empty : s.rt.mirrored = none) (p : Nat) : s.mirrorFits p = s := by
  unfold State.mirrorFits
  rw [empty]

theorem mirrorFits_keeps {s : State} {p : Nat} {r : Replay} (copy : s.rt.mirrored = some (p, r))
    (may : s.maySend p r.vl r.cells true = true) : s.mirrorFits p = s := by
  unfold State.mirrorFits
  rw [copy]
  exact if_neg (by rw [may]; simp)

theorem mirrorFits_drops {s : State} {p : Nat} {r : Replay} (copy : s.rt.mirrored = some (p, r))
    (full : s.maySend p r.vl r.cells true = false) :
    s.mirrorFits p = ({ s with rt := { s.rt with mirrored := none } } : State).sat Reg.GLB_SPARE_XBAR_STATUS_MIRROR_DROPPED 1 := by
  unfold State.mirrorFits
  rw [copy]
  exact if_pos ⟨rfl, by rw [full]; rfl⟩

theorem egressHead_copy {s : State} {p : Nat} {r : Replay} (copy : s.rt.mirrored = some (p, r)) :
    s.egressHead p r.vl
      = some { port := 95, pkt := Packet.ofBytes r.bytes r.stomped, cells := r.cells, raw := some r.bytes } := by
  unfold State.egressHead State.mirrorHead
  rw [copy]
  dsimp only
  rw [if_pos ⟨rfl, rfl⟩]
  rfl

/-! ### Throttling (R215) -/

/-- Taking a set bit away clears that bit only. -/
theorem testBit_clear {n g : Nat} (shown : n.testBit g = true) (h : Nat) : (n - 2 ^ g).testBit h = (n.testBit h && decide (h ≠ g)) := by
  have odd : n / 2 ^ g = 2 * (n / 2 ^ (g + 1)) + 1 := by
    have bit := Nat.testBit_eq_decide_div_mod_eq.symm.trans shown
    rw [decide_eq_true_eq] at bit
    rw [Nat.pow_succ, ← Nat.div_div_eq_div_mul]
    omega
  have low : n % 2 ^ g < 2 ^ g := Nat.mod_lt _ (Nat.two_pow_pos g)
  have low' : n % 2 ^ g < 2 ^ (g + 1) := low.trans (Nat.pow_lt_pow_right (by decide) (Nat.lt_succ_self g))
  have high : 2 ^ g + n % 2 ^ g < 2 ^ (g + 1) := by rw [Nat.pow_succ]; omega
  have whole : n = 2 ^ (g + 1) * (n / 2 ^ (g + 1)) + (2 ^ g + n % 2 ^ g) := by
    conv_lhs => rw [← Nat.div_add_mod n (2 ^ g), odd]
    ring
  have less : n - 2 ^ g = 2 ^ (g + 1) * (n / 2 ^ (g + 1)) + n % 2 ^ g := by omega
  have keep : n.testBit h = (2 ^ (g + 1) * (n / 2 ^ (g + 1)) + (2 ^ g + n % 2 ^ g)).testBit h := congrArg (Nat.testBit · h) whole
  rw [less, keep, Nat.testBit_two_pow_mul_add _ low', Nat.testBit_two_pow_mul_add _ high]
  obtain below | rfl | above := Nat.lt_trichotomy h g
  · rw [if_pos (by omega), if_pos (by omega), Nat.testBit_two_pow_add_gt below, decide_eq_true (by omega), Bool.and_true]
  · rw [if_pos (by omega), if_pos (by omega), Nat.testBit_lt_two_pow low]
    simp
  · rw [if_neg (by omega), if_neg (by omega), decide_eq_true (by omega), Bool.and_true]

theorem throttled_iff (s : State) (g : Nat) : s.throttled g = (s.rd Reg.RTE_THROTTLE_ACTIVE).testBit g := by
  rw [Nat.testBit_eq_decide_div_mod_eq]
  rfl

theorem throttleRelease_leads {s : State} {g : Nat} (clocks : s.clocks) (low : g < 16) (shown : s.throttled g = true)
    (cells : s.groupCells g < s.rd Reg.RTE_THROTTLE_LO_CELLS) :
    Leads (.throttleRelease g) s fun t => t.throttled g = false ∧ ∀ h < 16, h ≠ g → t.throttled h = s.throttled h := by
  have small : s.rd Reg.RTE_THROTTLE_ACTIVE - 2 ^ g < 2 ^ Reg.RTE_THROTTLE_ACTIVE.w := (Nat.sub_le _ _).trans_lt (rd_lt s Reg.RTE_THROTTLE_ACTIVE 0 0)
  have after (h : Nat) : (s.wr Reg.RTE_THROTTLE_ACTIVE (s.rd Reg.RTE_THROTTLE_ACTIVE - 2 ^ g)).throttled h
      = (s.throttled h && decide (h ≠ g)) := by
    rw [throttled_iff, throttled_iff, rd_wr_same _ _ _ _ _ (by decide), Nat.mod_eq_of_lt small]
    exact testBit_clear ((throttled_iff s g).symm.trans shown) h
  refine ⟨s.wr Reg.RTE_THROTTLE_ACTIVE (s.rd Reg.RTE_THROTTLE_ACTIVE - 2 ^ g), ?_, ?_, fun h _ other => ?_⟩
  · rw [exec_throttleRelease, execThrottleRelease, s.clocked_runs clocks, if_pos ⟨low, shown, cells⟩]
    rfl
  · rw [after]
    simp
  · rw [after, decide_eq_true other, Bool.and_true]

/-! ### Waggle summaries (R207, R208) -/

theorem sendSummary_other (s : State) {p q : Nat} (other : p ≠ q) : (s.sendSummary p).port q = s.port q := by
  unfold State.sendSummary
  split
  · rfl
  · exact port_setPort_other _ _ _ _ other.symm

theorem sendSummary_waits (s : State) (p : Nat) : (5, []) ∈ ((s.sendSummary p).port p).ctrl := by
  unfold State.sendSummary
  split
  next waits => exact List.contains_iff_mem.mp waits
  · rw [State.control, port_setPort_same]
    exact List.mem_append_right _ (List.mem_singleton_self _)

/-- A summary that waits stays while others are made. -/
theorem sendSummary_keeps {s : State} {q : Nat} (waits : (5, []) ∈ (s.port q).ctrl) (p : Nat) : (5, []) ∈ ((s.sendSummary p).port q).ctrl := by
  by_cases same : p = q
  · rw [← same]
    exact sendSummary_waits s p
  · rw [sendSummary_other s same]
    exact waits

theorem sendSummary_parts (s : State) (p : Nat) : (s.sendSummary p).regs = s.regs ∧ (s.sendSummary p).rt = s.rt := by
  unfold State.sendSummary
  split <;> exact ⟨rfl, rfl⟩

theorem summaries_wait {l : List Nat} {s : State} {q : Nat} (due : q ∈ l ∨ (5, []) ∈ (s.port q).ctrl) :
    (5, []) ∈ ((l.foldl State.sendSummary s).port q).ctrl := by
  induction l generalizing s with
  | nil => exact due.resolve_left List.not_mem_nil
  | cons p l ih =>
    refine ih ?_
    obtain mem | waits := due
    · obtain rfl | later := List.mem_cons.mp mem
      · exact .inr (sendSummary_waits s q)
      · exact .inl later
    · exact .inr (sendSummary_keeps waits p)

/-- The link that carries this period's summary to a neighbour. -/
def State.summaryDue (s : State) (d v : Nat) : Option Nat :=
  (s.summaryPorts d v)[s.rt.waggleTurn % max 1 (s.summaryPorts d v).length]?

/-- The links of this period's summaries. -/
def State.summariesDue (s : State) : List Nat :=
  (List.range 4).flatMap fun d => (List.range (s.widthOf 1 d)).filterMap fun v => s.summaryDue d v

theorem mem_summariesDue {s : State} {q : Nat} : q ∈ s.summariesDue ↔ ∃ d v, d < 4 ∧ v < s.widthOf 1 d ∧ s.summaryDue d v = some q := by
  simp only [State.summariesDue, List.mem_flatMap, List.mem_filterMap, List.mem_range]
  exact ⟨fun ⟨d, low, v, wide, due⟩ => ⟨d, v, low, wide, due⟩, fun ⟨d, v, low, wide, due⟩ => ⟨d, low, v, wide, due⟩⟩

theorem wagglePeriod_sends {s : State} (clocks : s.clocks) :
    exec .wagglePeriod s
      = .next (s.summariesDue.foldl State.sendSummary { s with rt := { s.rt with waggleTurn := s.rt.waggleTurn + 1 } }) := by
  rw [exec_wagglePeriod, execWagglePeriod, s.clocked_runs clocks]
  rfl

theorem waggleCode_old {s : State} {w q v : Nat} {m : Summary} (summary : mget s.rt.summaries w = some m)
    (linked : ∃ p < 72, s.neighbour 1 p = some w ∧ s.portUp p = true) :
    s.waggleCode w q v = if 1600 * s.rd Reg.RTE_WAGGLE_PERIOD < s.root - m.since then 8
      else if v % 2 = 0 then at_ m.depth (4 * q + v / 2) / 16 else at_ m.depth (4 * q + v / 2) % 16 := by
  obtain ⟨p, low, next, up⟩ := linked
  unfold State.waggleCode
  rw [if_neg, summary]
  · rfl
  · intro all
    have := List.all_eq_true.mp all p (List.mem_range.mpr low)
    rw [next, up] at this
    simp at this

/-! ### Swaps (R218, R219) -/

theorem timedSwap_runs {s : State} (clocks : s.clocks) (pending : s.on Reg.RTE_SWAP_PENDING = true)
    (due : s.rd Reg.RTE_SWAP_TIME_TIME ≤ s.time) :
    exec .timedSwap s = .next ((s.wr Reg.RTE_SWAP_PENDING 0).swap.announce s) := by
  rw [exec_timedSwap, execTimedSwap, s.clocked_runs clocks, if_pos ⟨pending, due⟩]
  rfl

/-- A swap whose shadow set breaks a rule reports it and does nothing else. -/
theorem swap_refused {s : State} (bad : s.shadowOk = false) :
    s.swap = (s.wr Reg.RTE_SWAP_STATUS St.badDescriptor).configError Reg.RTE_SWAP_GO.base := by
  unfold State.swap
  exact if_pos (by rw [bad]; rfl)

theorem swap_refused_status {s : State} (bad : s.shadowOk = false) : s.swap.rd Reg.RTE_SWAP_STATUS = 0x0C := by
  rw [swap_refused bad, State.configError, raise_rd _ _ _ _ _ _ _ _ (by decide), rd_wr_same _ _ _ _ _ (by decide)]
  decide

theorem swap_refused_sets {s : State} (bad : s.shadowOk = false) {a : Nat} (low : 0x1001000 ≤ a) (high : a < 0x1003000) :
    mget s.swap.regs a = mget s.regs a := by
  rw [swap_refused bad, State.configError]
  obtain ⟨r, f, l, eq, keeps⟩ := raise_sameBut (s.wr Reg.RTE_SWAP_STATUS St.badDescriptor) (configSource Reg.RTE_SWAP_GO.base)
    (St.badDescriptor + shownOffset Reg.RTE_SWAP_GO.base / 8 % 2 ^ 23 * 256) false false
  rw [eq]
  refine (keeps a (by simp [eventAddr]; omega)).trans ?_
  exact mget_mset_other _ _ _ _ (by simp [Fld.addr, Reg.RTE_SWAP_STATUS]; omega)

/-- The period of the waggles: each neighbour's link of this turn has its summary waiting, and nothing else changes. -/
theorem wagglePeriod_leads {s : State} (clocks : s.clocks) :
    Leads .wagglePeriod s fun t => t.rt.waggleTurn = s.rt.waggleTurn + 1 ∧ t.regs = s.regs ∧ t.rt.summaries = s.rt.summaries
      ∧ (∀ d v q, d < 4 → v < s.widthOf 1 d → s.summaryDue d v = some q → (5, []) ∈ (t.port q).ctrl)
      ∧ (∀ q, (∀ d v, d < 4 → v < s.widthOf 1 d → s.summaryDue d v ≠ some q) → t.port q = s.port q) := by
  have rt : (s.summariesDue.foldl State.sendSummary { s with rt := { s.rt with waggleTurn := s.rt.waggleTurn + 1 } }).rt
      = { s.rt with waggleTurn := s.rt.waggleTurn + 1 } := foldl_same State.rt fun a b _ => (sendSummary_parts a b).2
  refine ⟨_, wagglePeriod_sends clocks, by rw [rt], foldl_same State.regs fun a b _ => (sendSummary_parts a b).1, by rw [rt],
    fun d v q low wide due => summaries_wait (.inl (mem_summariesDue.mpr ⟨d, v, low, wide, due⟩)), fun q none_ => ?_⟩
  refine foldl_same (State.port · q) fun a b mem => sendSummary_other a fun same => ?_
  obtain ⟨d, v, low, wide, due⟩ := mem_summariesDue.mp mem
  exact none_ d v low wide (same ▸ due)

/-- Settles O36: the clauses are the checks of R195, the decision of R205, the order of R227 and R305, the copy of R41, and the
periods of R208, R215 and R218; only the release of a group's bit, the fold over the links of the summaries and the registers that a
refused swap may reach need an argument of their own. -/
theorem routersPassPacketsOn : Obligations.RoutersPassPacketsOn := by
  unfold Obligations.RoutersPassPacketsOn
  refine ⟨?_, ?_, ?_⟩
  · intro s p lane x before rest clocks n directed u put
    refine ⟨corrected_none s _ _, ?_⟩
    intro fix
    refine ⟨fun unjoined listed => arrival_unjoined unjoined fun h body => ?_, fun joined => ⟨arrival_hopLimit joined, arrival_turn joined,
      arrival_route joined, arrival_misdelivered joined⟩, fun admits queue checked fresh => ⟨fun _ => routerArrival_discards clocks admits queue checked fresh,
      fun _ _ => routerArrival_delivers clocks admits queue checked fresh, fun _ _ => routerArrival_routes clocks admits queue checked fresh⟩⟩
    simpa only [directed, body] using listed
  · intro s p lane g x rest c r l t cb clocks y
    refine ⟨routingDecision_takes clocks, decideOutput_none, decideOutput_some, fun admits running => egressSelect_control clocks admits running,
      fun admits running => egressSelect_training clocks admits running, fun admits running up waits => ?_, (mirrorFits_empty · p),
      fun copy => ⟨fun may => ⟨mirrorFits_keeps copy may, egressHead_copy copy⟩, mirrorFits_drops copy⟩, throttleRelease_leads clocks⟩
    rw [egressSelect_packet clocks admits running up waits, Host.Outcome.next.injEq, Host.Outcome.next.injEq, Host.Outcome.next.injEq]
    exact ⟨nextPacketOut_resend, fun fresh resend => nextPacketOut_handed fresh resend, fun fresh resend handed => nextPacketOut_idle fresh resend handed,
      fun fresh resend handed v pick head => congrArg Host.Outcome.next (nextPacketOut_lane fresh resend handed pick head)⟩
  · intro s clocks
    refine ⟨wagglePeriod_leads clocks, fun w q v m summary linked => ?_, timedSwap_runs clocks,
      fun bad => ⟨swap_refused_status bad, fun _ => swap_refused_sets bad⟩⟩
    rw [waggleCode_old summary linked]
    exact ⟨fun old => if_pos old, fun fresh => if_neg (Nat.not_lt.mpr fresh)⟩

end Sys2Proof.Machine


/-! PROOFS. Lanes that lock to their markers (R272, R273). -/

namespace Sys2Proof.Machine

/-- Port 0 trains. Lane 0 holds its marker lock and shows logical lane 1, but the port has kept no mark of it; lane 1 holds its block
lock. -/
def forgottenMark : State :=
  { regs := [(0x2000028, 1), (0x2810108, 0x30), (0x2810188, 4)] }

/-- LANES_SWAPPED of port 0 after a command. -/
def swappedAfter : Host.Outcome State Fault Refusal → Nat
  | .next u => u.rd Reg.LAN_PORT_STATUS_LANES_SWAPPED 0
  | _ => 0

/-- Refutes O35: nothing ties the logical lane that a locked lane shows to the mark that its port has kept of it. Where lane 0 shows
logical lane 1 and no mark of it is kept, lane 1 may lock to the marks of logical lane 1 as well. LANES_SWAPPED then goes to 1, after lane 0,
and the statement wants 0, after lane 1. -/
theorem not_lanesLockAndMeasure : ¬ Obligations.LanesLockAndMeasure := by
  unfold Obligations.LanesLockAndMeasure
  intro h
  obtain ⟨-, -, -, lock, -⟩ := h.1 forgottenMark 0 1 1 0 (by decide) (by decide) (by decide) ⟨rfl, rfl⟩ (by decide +kernel)
  obtain ⟨t, run, -, -, aligned⟩ := lock (by decide +kernel) (by decide +kernel) (by decide +kernel)
  obtain ⟨-, -, swapped⟩ := aligned (by decide +kernel)
  have shown : swappedAfter (exec (.amLockAcquired 0 1 1 0) forgottenMark) = 1 := by decide +kernel
  rw [run] at shown
  exact absurd (swapped.symm.trans shown) (by decide)

end Sys2Proof.Machine


/-! PROOFS. The canonical forms of the register file and the memories (O60, R6, R16, R103, R318, R439): what they are, and that the
primitive changes of the state keep them. -/

namespace Sys2Proof.Machine

/-- The register file lists its addresses in rising order, and the store, the flash and every hive's SRAM stand in their canonical form. -/
structure Canonical (s : State) : Prop where
  regs : Map.wf s.regs = true
  store : Memory.wf 0 s.store = true
  flash : Memory.wf 0xFF s.flash = true
  sram : ∀ p ∈ s.fg.sram, Memory.wf 0 p.2 = true

theorem canonical_iff (s : State) : Canonical s ↔ s.regsWf = true ∧ s.memoryWf = true := by
  simp only [State.regsWf, State.memoryWf, Bool.and_eq_true, List.all_eq_true]
  exact ⟨fun ⟨regs, store, flash, sram⟩ => ⟨regs, ⟨store, flash⟩, sram⟩, fun ⟨regs, ⟨store, flash⟩, sram⟩ => ⟨regs, store, flash, sram⟩⟩

/-- The state of a pair is canonical. -/
def CanonicalFst {α : Type} (p : State × α) : Prop := Canonical p.1

/-- The state that may be there is canonical. -/
def CanonicalOpt (o : Option State) : Prop := ∀ t, o = some t → Canonical t

/-- What an instruction makes of the state while it may still have to wait, and what it does once it issues, keep the forms. -/
def Sound (r : State × Option (State → State)) : Prop := Canonical r.1 ∧ ∀ k, r.2 = some k → ∀ u, Canonical u → Canonical (k u)

/-- What a command yields, if anything, is canonical. -/
def Yields (o : Host.Outcome State Fault Refusal) : Prop := ∀ t, o = .next t → Canonical t

/-! ### Maps and memories -/

/-- What a write of one key leaves in a map is the new entry, or was there before. -/
theorem mem_mset {β : Type} {m : Map β} {a : Nat} {v : β} {p : Nat × β} (mem : p ∈ mset m a v) : p.2 = v ∨ p ∈ m := by
  induction m with
  | nil => exact .inl (congrArg Prod.snd (List.mem_singleton.mp mem))
  | cons c m ih =>
    unfold mset at mem
    split at mem
    · exact (List.mem_cons.mp mem).imp (congrArg Prod.snd) id
    split at mem
    · exact (List.mem_cons.mp mem).imp (congrArg Prod.snd) (List.mem_cons_of_mem _)
    · obtain rfl | mem := List.mem_cons.mp mem
      · exact .inr List.mem_cons_self
      · exact (ih mem).imp id (List.mem_cons_of_mem _)

theorem mem_of_mget {β : Type} {m : Map β} {a : Nat} {v : β} (found : mget m a = some v) : (a, v) ∈ m := by
  induction m with
  | nil => exact absurd found (by simp [mget])
  | cons c m ih =>
    unfold mget at found
    split at found
    next same =>
      rw [← same, ← Option.some.inj found]
      exact List.mem_cons_self
    · exact List.mem_cons_of_mem _ (ih found)

theorem wf_filter {β : Type} {m : Map β} (wf : Map.wf m = true) (keep : Nat × β → Bool) : Map.wf (m.filter keep) = true := by
  unfold Map.wf at wf ⊢
  exact decide_eq_true ((of_decide_eq_true wf).sublist (List.filter_sublist.map _))

theorem memory_wf_filter {d : Byte} {m : List Host.Cell} (wf : Memory.wf d m = true) (keep : Host.Cell → Bool) :
    Memory.wf d (m.filter keep) = true := by
  simp only [Memory.wf, Bool.and_eq_true, decide_eq_true_eq] at wf ⊢
  obtain ⟨rising, listed⟩ := wf
  refine ⟨rising.sublist (List.filter_sublist.map _), ?_⟩
  rw [List.all_eq_true] at listed ⊢
  exact fun c mem => listed c (List.mem_filter.mp mem).1

theorem wf_foldl_mset {β : Type} {m : Map β} (wf : Map.wf m = true) (l : List (Nat × β)) :
    Map.wf (l.foldl (fun m p => mset m p.1 p.2) m) = true := by
  induction l generalizing m with
  | nil => exact wf
  | cons p l ih => exact ih (mset_wf m p.1 p.2 wf)

/-! ### Ways of putting states together -/

section

variable {s t : State}

/-- A state that differs from a canonical one elsewhere is canonical. -/
theorem Canonical.frame (wf : Canonical s) {root time : Nat} {tp : Transport} {km : Keys} {mt : Match} {sw : Swarm} {rt : Route} {ports : Map Port}
    {sc : Sched} {xl : Xlate} {ft : Faults} {lch : Lichen} {bt : Boot} {ctr : Counters} {spare : Spare} {poison : List Nat} {soft : List Soft}
    {out : List Output} {free : Nat} {pending : List Instr} : Canonical { s with
      root := root, time := time, tp := tp, km := km, mt := mt, sw := sw, rt := rt, ports := ports, sc := sc, xl := xl, ft := ft, lch := lch
      bt := bt, ctr := ctr, spare := spare, poison := poison, soft := soft, out := out, free := free, pending := pending } :=
  ⟨wf.regs, wf.store, wf.flash, wf.sram⟩

/-- So is one whose foragers differ from the other's, but not in their SRAM. -/
theorem Canonical.frameFg (wf : Canonical s) {root time : Nat} {tp : Transport} {km : Keys} {mt : Match} {sw : Swarm} {rt : Route}
    {ports : Map Port} {sc : Sched} {xl : Xlate} {ft : Faults} {lch : Lichen} {bt : Boot} {ctr : Counters} {spare : Spare} {poison : List Nat}
    {soft : List Soft} {out : List Output} {free : Nat} {pending : List Instr} {threads : Map Thread} {cycles : Map Nat} {rodata code : List Byte}
    {entry : Nat} {waiting : List (Nat × Nat)} : Canonical { s with
      root := root, time := time, tp := tp, km := km, mt := mt, sw := sw, rt := rt, ports := ports, sc := sc, xl := xl, ft := ft, lch := lch
      bt := bt, ctr := ctr, spare := spare, poison := poison, soft := soft, out := out, free := free, pending := pending
      fg := { s.fg with threads := threads, cycles := cycles, fwRodata := rodata, fwCode := code, fwEntry := entry, waiting := waiting } } :=
  ⟨wf.regs, wf.store, wf.flash, wf.sram⟩

theorem Canonical.withRegs (wf : Canonical s) {r : Map Word} (rising : Map.wf r = true) : Canonical { s with regs := r } :=
  ⟨rising, wf.store, wf.flash, wf.sram⟩

theorem Canonical.ite {c : Prop} [Decidable c] (wf : Canonical s) (k : Canonical t) : Canonical (if c then s else t) := by
  split
  · exact wf
  · exact k

/-- A change that is made in one case only. -/
theorem Canonical.maybe {c : Prop} [Decidable c] (wf : Canonical s) (change : Canonical s → Canonical t) : Canonical (if c then t else s) :=
  Canonical.ite (change wf) wf

/-- What follows from a state that is named more than once. -/
theorem Canonical.andThen (wf : Canonical s) (rest : Canonical s → Canonical t) : Canonical t := rest wf

theorem Canonical.foldl {α : Type} {f : State → α → State} {l : List α} (wf : Canonical s)
    (step : ∀ {u a}, Canonical u → Canonical (f u a)) : Canonical (l.foldl f s) := by
  induction l generalizing s with
  | nil => exact wf
  | cons a l ih => exact ih (step wf)

theorem CanonicalFst.mk {α : Type} {a : α} (wf : Canonical s) : CanonicalFst (s, a) := wf

theorem CanonicalFst.fst {α : Type} {p : State × α} (wf : CanonicalFst p) : Canonical p.1 := wf

theorem CanonicalFst.of_eq {α : Type} {p : State × α} {a : α} (eq : p = (t, a)) (wf : CanonicalFst p) : Canonical t := by
  rw [eq] at wf
  exact wf.fst

theorem CanonicalFst.ite {α : Type} {c : Prop} [Decidable c] {p q : State × α} (h : CanonicalFst p) (k : CanonicalFst q) :
    CanonicalFst (if c then p else q) := by
  split
  · exact h
  · exact k

theorem CanonicalFst.foldl {α β : Type} {f : State × β → α → State × β} {l : List α} {p : State × β} (wf : CanonicalFst p)
    (step : ∀ {q a}, CanonicalFst q → CanonicalFst (f q a)) : CanonicalFst (l.foldl f p) := by
  induction l generalizing p with
  | nil => exact wf
  | cons a l ih => exact ih (step wf)

theorem CanonicalOpt.none : CanonicalOpt none := fun _ eq => nomatch eq

theorem CanonicalOpt.some (wf : Canonical s) : CanonicalOpt (some s) := fun _ eq => Option.some.inj eq ▸ wf

theorem CanonicalOpt.of_eq {o : Option State} (eq : o = Option.some t) (wf : CanonicalOpt o) : Canonical t := wf t eq

theorem CanonicalOpt.ite {c : Prop} [Decidable c] {o p : Option State} (h : CanonicalOpt o) (k : CanonicalOpt p) :
    CanonicalOpt (if c then o else p) := by
  split
  · exact h
  · exact k

theorem CanonicalOpt.getD {o : Option State} (h : CanonicalOpt o) (k : Canonical t) : Canonical (o.getD t) := by
  cases o with
  | none => exact k
  | some u => exact h u rfl

theorem Sound.waits (wf : Canonical s) : Sound (s, Option.none) := ⟨wf, fun _ eq => nomatch eq⟩

theorem Sound.issues (wf : Canonical s) {k : State → State} (step : ∀ {u}, Canonical u → Canonical (k u)) : Sound (s, Option.some k) :=
  ⟨wf, fun _ eq _ wf' => Option.some.inj eq ▸ step wf'⟩

theorem Sound.of_eq {r : State × Option (State → State)} {o : Option (State → State)} (eq : r = (t, o)) (h : Sound r) : Canonical t := by
  rw [eq] at h
  exact h.1

theorem Sound.step {r : State × Option (State → State)} {k : State → State} (eq : r = (t, Option.some k)) (h : Sound r) {u : State}
    (wf : Canonical u) : Canonical (k u) := by
  rw [eq] at h
  exact h.2 k rfl u wf

theorem Sound.ite {c : Prop} [Decidable c] {q r : State × Option (State → State)} (h : Sound q) (k : Sound r) :
    Sound (if c then q else r) := by
  split
  · exact h
  · exact k

theorem Yields.next (wf : Canonical s) : Yields (.next s) := fun _ eq => Host.Outcome.next.inj eq ▸ wf

theorem Yields.ite {c : Prop} [Decidable c] {o p : Host.Outcome State Fault Refusal} (h : Yields o) (k : Yields p) :
    Yields (if c then o else p) := by
  split
  · exact h
  · exact k

theorem Yields.clocked {o : Host.Outcome State Fault Refusal} (wf : Canonical s) (k : Yields o) : Yields (s.clocked o) :=
  .ite (.next wf) k

theorem Yields.atPins {o : Host.Outcome State Fault Refusal} (wf : Canonical s) (k : Yields o) : Yields (s.atPins o) :=
  .ite (.next wf) k

/-! ### The primitive changes -/

theorem Canonical.wr (wf : Canonical s) {f : Fld} {v i j : Nat} : Canonical (s.wr f v i j) := wf.withRegs (wr_wf s f v i j wf.regs)

theorem Canonical.filterRegs (wf : Canonical s) {keep : Nat × Word → Bool} : Canonical { s with regs := s.regs.filter keep } :=
  wf.withRegs (wf_filter wf.regs keep)

theorem Canonical.resetRegs (wf : Canonical s) {lo hi : Nat} : Canonical (s.resetRegs lo hi) := wf.filterRegs

theorem Canonical.storeWrite (wf : Canonical s) {a : Nat} {l : List Byte} : Canonical (s.storeWrite a l) :=
  ⟨wf.regs, writeN_wf 0 s.store a l wf.store, wf.flash, wf.sram⟩

theorem Canonical.flashErase (wf : Canonical s) {a n : Nat} : Canonical (s.flashErase a n) :=
  ⟨wf.regs, wf.store, memory_wf_filter wf.flash _, wf.sram⟩

theorem Canonical.flashWrite (wf : Canonical s) {a : Nat} {l : List Byte} : Canonical (s.flashWrite a l) :=
  ⟨wf.regs, wf.store, writeN_wf 0xFF s.flash a l wf.flash, wf.sram⟩

/-- One hive's SRAM in its canonical form leaves all of them so. -/
theorem sram_mset {m : Map (List Host.Cell)} (wf : ∀ p ∈ m, Memory.wf 0 p.2 = true) {k : Nat} {l : List Host.Cell} (new : Memory.wf 0 l = true) :
    ∀ p ∈ mset m k l, Memory.wf 0 p.2 = true := fun p mem => (mem_mset mem).elim (fun eq => eq ▸ new) (wf p)

theorem Canonical.sramOf (wf : Canonical s) (k : Nat) : Memory.wf 0 (s.sramOf k) = true := by
  unfold State.sramOf mgetD
  cases found : mget s.fg.sram k with
  | none => rfl
  | some m => exact wf.sram (k, m) (mem_of_mget found)

theorem Canonical.sramWrite (wf : Canonical s) {k a : Nat} {l : List Byte} : Canonical (s.sramWrite k a l) :=
  ⟨wf.regs, wf.store, wf.flash, sram_mset wf.sram (writeN_wf 0 (s.sramOf k) a l (wf.sramOf k))⟩

theorem Canonical.copySet (wf : Canonical s) {src dst : Nat} : Canonical (s.copySet src dst) :=
  wf.resetRegs.withRegs (wf_foldl_mset wf.resetRegs.regs _)

theorem Canonical.zeroise_store (wf : Canonical s) : Canonical { s with store := [], poison := [] } :=
  ⟨wf.regs, rfl, wf.flash, wf.sram⟩

end

end Sys2Proof.Machine


/-! PROOFS. The canonical forms are kept (O60): counters and event sources, memory, translation and the key table. Each lemma is about the
model function of its name. -/

namespace Sys2Proof.Machine

/-! ### Registers -/

theorem Canonical.sat {s : State} {f : Fld} {n i j : Nat} (wf : Canonical s) : Canonical (s.sat f n i j) := wf.wr

theorem Canonical.high {s : State} {f : Fld} {v i j : Nat} (wf : Canonical s) : Canonical (s.high f v i j) := wf.wr

/-! ### Output, free values, identifiers -/

theorem Canonical.emit {s : State} {o : Output} (wf : Canonical s) : Canonical (s.emit o) := Canonical.ite wf wf.frame

theorem Canonical.takeFree {s : State} (wf : Canonical s) : Canonical s.takeFree := wf.frame

/-! ### Store, hive SRAM, flash -/

theorem Canonical.clearPoison {s : State} {a n : Nat} (wf : Canonical s) : Canonical (s.clearPoison a n) := wf.frame

/-! ### Parts of the state by number -/

theorem Canonical.setPort {s : State} {p : Nat} {x : Port} (wf : Canonical s) : Canonical (s.setPort p x) := wf.frame

theorem Canonical.setThread {s : State} {t : Nat} {x : Thread} (wf : Canonical s) : Canonical (s.setThread t x) := wf.frameFg

theorem Canonical.setFunc {s : State} {fn : Nat} {x : Func} (wf : Canonical s) : Canonical (s.setFunc fn x) := wf.frame

theorem Canonical.setQp {s : State} {q : Nat} {x : Qp} (wf : Canonical s) : Canonical (s.setQp q x) := wf.frame

theorem Canonical.newId {s : State} (wf : Canonical s) : Canonical s.newId := wf.frame

theorem Canonical.softGone {s : State} {corrected : Bool} {p : SoftSite → Bool} (wf : Canonical s) : Canonical (s.softGone corrected p) := wf.frame

/-! ### Answers of meanings -/

theorem Canonical.ok {s : State} (wf : Canonical s) : Yields (ok s) := Yields.next wf

/-! ### Lifetime-log records (R425 to R427) -/

theorem Canonical.addRecord {s : State} {type body body2 : Nat} {injected copy free : Bool} (wf : Canonical s) :
    Canonical (addRecord s type body body2 injected copy free) :=
  Canonical.ite wf.frame wf.frame.wr

theorem Canonical.eventRecord {s : State} {k info cls : Nat} {injected fired : Bool} (wf : Canonical s) :
    Canonical (eventRecord s k info cls injected fired) := by
  unfold Machine.eventRecord
  dsimp only
  refine Canonical.ite ?_ (wf.maybe (·.addRecord))
  split
  · exact wf.maybe (·.frame)
  · exact wf.maybe (·.addRecord.maybe (·.frame))

/-! ### Occurrences -/

theorem Canonical.capture {s : State} {valid inj cls src info time : Fld} {k i c : Nat} {injected : Bool} (wf : Canonical s) :
    Canonical (capture s valid inj cls src info time k i c injected) :=
  Canonical.ite wf wf.wr.wr.wr.wr.wr.wr

theorem Canonical.raise1 {s : State} {k info : Nat} {injected suppress : Bool} (wf : Canonical s) :
    Canonical (raise1 s k info injected suppress) := by
  unfold Machine.raise1
  dsimp only
  split
  · exact wf
  · exact (wf.wr.capture.maybe (·.capture)).sat.frame.eventRecord.maybe (·.frame)

/-! ### Counters (R480 to R483) -/

theorem Canonical.advance {s : State} {c n : Nat} (wf : Canonical s) : CanonicalFst (advance s c n) :=
  CanonicalFst.ite (CanonicalFst.mk wf.wr) (CanonicalFst.mk wf.wr.wr)

theorem Canonical.cascade {f : Nat} {l : List Item} {s : State} (wf : Canonical s) : Canonical (cascade f l s) := by
  fun_induction Machine.cascade f l s with
  | case1 => exact wf
  | case2 => exact wf
  | case3 _ _ _ _ _ _ _ _ ih => exact ih wf
  | case4 _ _ _ _ _ _ _ _ _ ih => exact ih wf.raise1
  | case5 _ _ _ _ _ _ _ _ ih => exact ih ((CanonicalFst.mk wf).foldl fun wf' => CanonicalFst.mk wf'.fst.advance.fst).fst

theorem Canonical.raise {s : State} {k info : Nat} {injected suppress : Bool} (wf : Canonical s) : Canonical (s.raise k info injected suppress) :=
  wf.cascade

theorem Canonical.corrected {s : State} {p : SoftSite → Bool} {source : Nat} (wf : Canonical s) : Canonical (s.corrected p source) := by
  unfold State.corrected
  split
  · exact wf.softGone.raise
  · exact wf

theorem Canonical.sramMet {s : State} {h a n : Nat} (wf : Canonical s) : CanonicalFst (s.sramMet h a n) := by
  unfold State.sramMet
  dsimp only
  split
  · exact CanonicalFst.mk wf.corrected.raise
  · exact CanonicalFst.mk wf.corrected

theorem Canonical.count {s : State} {ev unit n : Nat} {o : Owner} (wf : Canonical s) : Canonical (s.count ev unit n o) := Canonical.ite wf wf.cascade

theorem Canonical.tally {s : State} {f : Fld} {ev unit : Nat} {o : Owner} {n i j : Nat} (wf : Canonical s) : Canonical (s.tally f ev unit o n i j) :=
  wf.sat.count

theorem Canonical.configError {s : State} {a status : Nat} (wf : Canonical s) : Canonical (s.configError a status) := wf.raise

/-! ### Reservations (R365) -/

theorem Canonical.clearResv {s : State} {tg : Target} {a n : Nat} (wf : Canonical s) : Canonical (s.clearResv tg a n) := wf.frameFg

/-! ### Store accesses (R103, R105) -/

theorem Canonical.commit {s : State} {a : Nat} {l : List Byte} (wf : Canonical s) : Canonical (s.commit a l) :=
  Canonical.ite wf wf.storeWrite.clearPoison.clearResv.count

theorem Canonical.reportPoison {s : State} {a n : Nat} (wf : Canonical s) : Canonical (s.reportPoison a n) := by
  unfold State.reportPoison
  split
  · exact wf.raise
  · exact wf

theorem Canonical.storeCorrects {s : State} {a n : Nat} (wf : Canonical s) : Canonical (s.storeCorrects a n) := wf.corrected

theorem Canonical.fetchStore {s : State} {a n : Nat} (wf : Canonical s) : CanonicalFst (s.fetchStore a n) :=
  CanonicalFst.ite (CanonicalFst.mk wf.reportPoison) (CanonicalFst.mk wf.storeCorrects.count)

/-! ### CXL.mem (R107, R108) -/

theorem Canonical.cxlRead {s : State} {link addr : Nat} (wf : Canonical s) : Canonical (s.cxlRead link addr) := by
  unfold State.cxlRead
  dsimp only
  split
  · exact wf.emit
  · exact (Canonical.ite wf.reportPoison wf.storeCorrects).count.emit

theorem Canonical.cxlWrite {s : State} {link addr : Nat} {bytes : List (Option Byte)} (wf : Canonical s) :
    Canonical (s.cxlWrite link addr bytes) := by
  unfold State.cxlWrite
  dsimp only
  split
  · exact wf.emit
  · exact Canonical.ite wf.commit (wf.foldl (fun wf' => wf'.storeWrite.clearResv)).count

theorem Canonical.cxlServe {s : State} {r : CxlReq} (wf : Canonical s) : Canonical (s.cxlServe r) := by
  unfold State.cxlServe
  dsimp only
  refine Canonical.ite wf.frame ?_
  split
  · exact wf.cxlRead
  · exact wf.cxlWrite

theorem Canonical.cxlPump {s : State} (wf : Canonical s) : Canonical s.cxlPump := wf.frame.foldl (fun wf' => wf'.cxlServe)

/-! ### Lock words (R371 to R380) -/

theorem Canonical.compatAct {s : State} {a value source : Nat} (wf : Canonical s) : CanonicalFst (s.compatAct a value source) := by
  unfold State.compatAct
  dsimp only
  split
  · exact CanonicalFst.mk wf.commit
  · exact CanonicalFst.mk wf.tally
  · exact CanonicalFst.mk wf

theorem Canonical.placeStore {s : State} {a : Nat} {l : List Byte} {source : Nat} (wf : Canonical s) : Canonical (s.placeStore a l source) :=
  Canonical.ite (wf.foldl (fun wf' => Canonical.ite (Canonical.ite wf'.compatAct.fst wf'.tally) wf'.commit)) wf.commit

/-! ### For whom things happen (R483) -/

theorem Canonical.linkLogs {s : State} {link : Nat} {r : HostRes} (wf : Canonical s) : Canonical (s.linkLogs link r) := by
  unfold State.linkLogs
  split
  · exact wf.raise.raise
  · exact wf.raise
  · exact wf

/-! ### Intervals (R484) -/

theorem Canonical.drawInterval {s : State} {packet : Bool} (wf : Canonical s) : Canonical (s.drawInterval packet) := Canonical.ite wf.frame wf.frame

theorem Canonical.tagsShown {s : State} (wf : Canonical s) : Canonical s.tagsShown := wf.wr.wr

theorem Canonical.sample {s : State} {packet : Bool} {o : Owner} {what : Nat} {whr : Word} {thread t0 : Nat} (wf : Canonical s) :
    CanonicalFst (s.sample packet o what whr thread t0) :=
  CanonicalFst.ite (CanonicalFst.mk wf) (CanonicalFst.ite (CanonicalFst.mk (Canonical.ite wf.frame wf.frame)) (CanonicalFst.ite (CanonicalFst.mk
    wf.drawInterval.sat) (CanonicalFst.mk wf.drawInterval.frame.tagsShown)))

theorem Canonical.stampAt {s : State} {tag : Option Nat} {k time : Nat} (wf : Canonical s) : Canonical (s.stampAt tag k time) := by
  unfold State.stampAt
  dsimp only
  split
  · exact wf
  · exact wf.frame

theorem Canonical.stamp {s : State} {tag : Option Nat} {k : Nat} (wf : Canonical s) : Canonical (s.stamp tag k) := wf.stampAt

theorem Canonical.tagPort {s : State} {tag : Option Nat} {p : Nat} (wf : Canonical s) : Canonical (s.tagPort tag p) := by
  unfold State.tagPort
  dsimp only
  split
  · exact wf
  · exact wf.frame

theorem Canonical.endTag {s : State} {tag : Option Nat} {truncated : Bool} (wf : Canonical s) : Canonical (s.endTag tag truncated) := by
  unfold State.endTag
  dsimp only
  split
  · exact wf
  · exact Canonical.ite wf.frame.tagsShown wf.frame.tagsShown.commit.wr

theorem Canonical.execSampleHoldExpiry {tag : Nat} {s : State} (wf : Canonical s) : Yields (execSampleHoldExpiry tag s) :=
  Yields.clocked wf wf.endTag.ok

/-! ### Walks, faults and the caches (R381 to R399) -/

theorem Canonical.xlShown {s : State} (wf : Canonical s) : Canonical s.xlShown := wf.wr.wr

theorem Canonical.xlFault {s : State} {fn va kind status detail level addr : Nat} (wf : Canonical s) :
    Canonical (s.xlFault fn va kind status detail level addr) :=
  (Canonical.ite (wf.maybe (·.raise)) (wf.maybe (·.raise)).wr.wr.wr.wr.wr.wr.wr.wr).tally

theorem Canonical.modOpened {s : State} {w : Walk} {f : Opened → Opened} (wf : Canonical s) : Canonical (s.modOpened w f) := by
  unfold State.modOpened
  dsimp only
  split
  · exact wf
  · exact wf.frame

theorem Canonical.installLeaf {s : State} {c : Cached} (wf : Canonical s) : Canonical (s.installLeaf c) := wf.frame.xlShown

theorem Canonical.installNode {s : State} {c : Cached} (wf : Canonical s) : Canonical (s.installNode c) := wf.frame.xlShown

theorem Canonical.installNodes {s : State} {w : Walk} (wf : Canonical s) : Canonical (s.installNodes w) :=
  Canonical.ite wf (wf.foldl (fun wf' => wf'.installNode))

theorem Canonical.walkFails {s : State} {id : Nat} {w : Walk} {status detail level addr : Nat} (wf : Canonical s) :
    Canonical (s.walkFails id w status detail level addr) :=
  (Canonical.ite wf.frame wf.frame.installNodes).andThen fun wf1 => Canonical.ite wf1 wf1.xlFault.modOpened

theorem Canonical.walkEnds {s : State} {id : Nat} {w : Walk} {v : Word} (wf : Canonical s) : Canonical (s.walkEnds id w v) :=
  (Canonical.ite wf.frame.installNodes wf.frame.installNodes.installLeaf).modOpened

theorem Canonical.walkRead {s : State} {id : Nat} {w : Walk} (wf : Canonical s) : Canonical (s.walkRead id w) := by
  unfold State.walkRead
  dsimp only
  split
  · exact wf.walkFails
  · exact wf.frame.emit

theorem Canonical.walkCas {s : State} {id : Nat} {w : Walk} {v : Word} (wf : Canonical s) : Canonical (s.walkCas id w v) := by
  unfold State.walkCas
  dsimp only
  split
  · exact wf.walkFails
  · exact wf.frame.emit.count

theorem Canonical.useNode {s : State} {c : Cached} (wf : Canonical s) : Canonical (s.useNode c) := wf.frame

theorem Canonical.descend {f : Nat} {s : State} (wf : Canonical s) {id : Nat} {w : Walk} {node : Nat} : Canonical (s.descend f id w node) := by
  induction f generalizing s w node with
  | zero => exact wf.walkRead
  | succ f ih =>
    unfold State.descend
    dsimp only
    split
    · exact Canonical.ite wf.walkRead (ih wf.useNode)
    · exact wf.walkRead

theorem Canonical.ownSlot {s : State} {id : Nat} {w : Walk} (wf : Canonical s) : Canonical (s.ownSlot id w) := wf.walkRead

theorem Canonical.judge {s : State} {id : Nat} {w : Walk} {v : Word} (wf : Canonical s) : Canonical (s.judge id w v) := by
  unfold State.judge
  dsimp only
  refine Canonical.ite wf.walkFails ?_
  refine Canonical.ite (Canonical.ite wf.walkFails (Canonical.ite wf.ownSlot wf.descend)) ?_
  refine Canonical.ite wf.walkFails ?_
  refine Canonical.ite wf.ownSlot ?_
  split
  · exact wf.walkFails
  · exact Canonical.ite wf.walkCas wf.walkEnds

theorem Canonical.startWalk {s : State} {a : Opened} {va : Nat} {prefetch : Bool} {leaf : Option Cached} (wf : Canonical s) :
    Canonical (s.startWalk a va prefetch leaf) := by
  unfold State.startWalk
  dsimp only
  split
  · exact wf.newId.tally.walkCas
  · exact wf.newId.tally.descend

theorem Canonical.useLeaf {s : State} {a : Opened} {va : Nat} {c : Cached} (wf : Canonical s) : CanonicalFst (s.useLeaf a va c) := by
  unfold State.useLeaf
  split
  · exact CanonicalFst.mk wf.xlFault
  · exact CanonicalFst.ite (CanonicalFst.mk wf.startWalk) (CanonicalFst.mk wf)

theorem Canonical.page {s : State} {a : Opened} {va : Nat} (wf : Canonical s) : CanonicalFst (s.page a va) := by
  unfold State.page
  dsimp only
  split
  · exact CanonicalFst.mk wf
  · split
    · exact CanonicalFst.mk wf
    · refine CanonicalFst.ite (CanonicalFst.mk wf) ?_
      refine CanonicalFst.ite (CanonicalFst.mk wf.xlFault) ?_
      split
      · exact wf.frame.useLeaf
      · exact CanonicalFst.mk wf.startWalk

theorem Canonical.pages {f : Nat} {s : State} (wf : Canonical s) {a : Opened} {va n : Nat} {acc : List (Nat × Nat)} {se : List Bool} :
    CanonicalFst (s.pages f a va n acc se) := by
  induction f generalizing s a va n acc se with
  | zero => exact CanonicalFst.mk wf
  | succ f ih =>
    unfold State.pages
    refine CanonicalFst.ite (CanonicalFst.mk wf) ?_
    split
    next _ _ eq => exact ih (CanonicalFst.of_eq eq wf.page)
    next _ _ _ eq => exact CanonicalFst.mk (CanonicalFst.of_eq eq wf.page)
    next _ eq => exact CanonicalFst.mk (CanonicalFst.of_eq eq wf.page)

theorem Canonical.awaitNext {s : State} {a : Opened} (wf : Canonical s) : Canonical (s.awaitNext a) := Canonical.ite wf wf.frame

theorem Canonical.translate {s : State} {who : Client} {fn va n kind : Nat} (wf : Canonical s) : CanonicalFst (s.translate who fn va n kind) := by
  unfold State.translate
  dsimp only
  refine CanonicalFst.ite (CanonicalFst.mk wf.xlFault) ?_
  split
  · exact CanonicalFst.mk wf.pages.fst.frame
  · exact CanonicalFst.mk (Canonical.ite wf.pages.fst wf.pages.fst.frame).awaitNext
  · exact CanonicalFst.mk (Canonical.ite wf.pages.fst wf.pages.fst.frame)

theorem Canonical.forgetAccesses {s : State} {who : Client → Bool} (wf : Canonical s) : Canonical (s.forgetAccesses who) := Canonical.ite wf wf.frame

/-! ### Invalidation (R383, R397, R399) -/

theorem Canonical.discardContext {s : State} {fn : Nat} (wf : Canonical s) : Canonical (s.discardContext fn) := wf.frame.xlShown

theorem Canonical.contextWritten {s : State} {fn : Nat} (wf : Canonical s) : Canonical (s.contextWritten fn) := wf.discardContext.frame

theorem Canonical.discardRange {s : State} {fn va n : Nat} (wf : Canonical s) : Canonical (s.discardRange fn va n) := wf.frame.xlShown

theorem Canonical.awaitHolders {s : State} {fn va n : Nat} (wf : Canonical s) : Canonical (s.awaitHolders fn va n) := wf.frame

/-! ### The key table (R84 to R95) -/

theorem Canonical.keyShown {s : State} (wf : Canonical s) : Canonical s.keyShown := wf.wr.wr.wr.wr

theorem Canonical.backKey {s : State} {i : Nat} {old new : KeyEntry} (wf : Canonical s) : Canonical (s.backKey i old new) := by
  unfold State.backKey
  refine Canonical.ite wf ?_
  split
  · exact wf.storeWrite.clearPoison.clearResv
  · exact wf

theorem Canonical.setKey {s : State} {i : Nat} {e : KeyEntry} (wf : Canonical s) : Canonical (s.setKey i e) := wf.frame.backKey.keyShown

theorem Canonical.cacheKey {s : State} {i : Nat} (wf : Canonical s) : Canonical (s.cacheKey i) := by
  unfold State.cacheKey
  refine Canonical.ite wf.setKey ?_
  split
  · exact wf.setKey.setKey
  · exact wf.setKey

theorem Canonical.bringKey {s : State} {i : Nat} (wf : Canonical s) : Canonical (s.bringKey i) := Canonical.ite wf wf.cacheKey

theorem Canonical.takeRef {s : State} {i : Nat} (wf : Canonical s) : Canonical (s.takeRef i) := wf.bringKey.setKey

theorem Canonical.dropRef {s : State} {i : Nat} (wf : Canonical s) : Canonical (s.dropRef i) := wf.setKey

theorem Canonical.keyFails {s : State} {o : Owner} {status detail srcEid key destQpn opcode : Nat} (wf : Canonical s) :
    Canonical (s.keyFails o status detail srcEid key destQpn opcode) :=
  Canonical.ite wf.tally wf.tally.wr.wr.wr.wr.wr.wr.wr

theorem Canonical.issueIndex {s : State} (wf : Canonical s) : Canonical s.issueIndex := Canonical.ite wf.frame wf.frame

theorem Canonical.quota {s : State} {fn : Nat} {d : ℤ} (wf : Canonical s) : Canonical (s.quota fn d) := wf.wr

theorem Canonical.newKey {s : State} {i : Nat} {e : KeyEntry} (wf : Canonical s) : Canonical (s.newKey i e) := wf.issueIndex.setKey.cacheKey.quota

theorem Canonical.freeKey {s : State} {i : Nat} (wf : Canonical s) : Canonical (s.freeKey i) := wf.setKey.frame.quota

theorem Canonical.revoke {s : State} {i : Nat} (wf : Canonical s) : Canonical (s.revoke i) := wf.bringKey.setKey

theorem Canonical.drainEnds {s : State} {i : Nat} (wf : Canonical s) : Canonical (s.drainEnds i) := wf.setKey

theorem Canonical.dropUnbinds {s : State} {n : Nat} (wf : Canonical s) : Canonical (s.dropUnbinds n) := wf.frame

/-! ### Endpoints (R191 to R193) -/

theorem Canonical.eidMet {s : State} {e : Nat} (wf : Canonical s) : Canonical (s.eidMet e) := wf.corrected.maybe (·.raise)

theorem Canonical.eidFresh {s : State} {e : Nat} (wf : Canonical s) : Canonical (s.eidFresh e) := wf.softGone.softGone

theorem Canonical.returnCredit {s : State} {port : Nat} {p : Packet} (wf : Canonical s) : Canonical (s.returnCredit port p) := wf.maybe (·.setPort)

/-! ### Ports that are up, and partners (R190, R216, R217, R252) -/

theorem Canonical.judgeAll {s : State} (wf : Canonical s) : Canonical s.judgeAll := by
  unfold State.judgeAll
  dsimp only
  refine Canonical.foldl (wf.foldl (fun wf' => wf'.raise)).frame (fun wf' => ?_)
  split
  · exact wf'.wr
  · exact Canonical.ite wf' wf'.wr.configError
  · exact wf'

theorem Canonical.samplePacket {s : State} {x : InPkt} (wf : Canonical s) : CanonicalFst (s.samplePacket x) := CanonicalFst.mk wf.sample.fst

theorem Canonical.toEgress {s : State} {port : Nat} {x : InPkt} (wf : Canonical s) : Canonical (s.toEgress port x) :=
  Canonical.ite wf.corrected.softGone.raise.returnCredit.endTag wf.corrected.setPort

/-! ### Injection (R194, R209, R215) -/

theorem Canonical.throttleCheck {s : State} {g : Nat} (wf : Canonical s) : Canonical (s.throttleCheck g) := wf.maybe (·.wr)

theorem Canonical.injectWt {s : State} {g : Nat} {p : Packet} {hive : Bool} (wf : Canonical s) : Canonical (s.injectWt g p hive) :=
  wf.frame.throttleCheck

theorem Canonical.injectOwn {s : State} {p : Packet} {hive : Bool} (wf : Canonical s) : Canonical (s.injectOwn p hive) := wf.frame

end Sys2Proof.Machine


/-! PROOFS. The canonical forms are kept (O60): queue pairs, the requester and matching. Each lemma is about the
model function of its name. -/

namespace Sys2Proof.Machine

/-! ### Queue pairs and their parts -/

theorem Canonical.modQp {s : State} {n : Nat} {f : Qp → Qp} (wf : Canonical s) : Canonical (s.modQp n f) := by
  unfold State.modQp
  split
  · exact wf.setQp
  · exact wf

theorem Canonical.modConn {s : State} {n k : Nat} {f : Conn → Conn} (wf : Canonical s) : Canonical (s.modConn n k f) := wf.modQp

theorem Canonical.modDesc {s : State} {n id : Nat} {f : Desc → Desc} (wf : Canonical s) : Canonical (s.modDesc n id f) := wf.modQp

theorem Canonical.modRecv {s : State} {n id : Nat} {f : Recv → Recv} (wf : Canonical s) : Canonical (s.modRecv n id f) := wf.modQp

theorem Canonical.drive {s : State} {e : Effect} (wf : Canonical s) : Canonical (s.drive e) := wf.frame

theorem Canonical.ctxShown {s : State} (wf : Canonical s) : Canonical s.ctxShown := wf.wr.wr.wr

/-! ### Messages and posted writes -/

theorem Canonical.msix {s : State} {fn vec : Nat} (wf : Canonical s) : CanonicalFst (s.msix fn vec) :=
  CanonicalFst.ite (CanonicalFst.mk wf) (CanonicalFst.ite (CanonicalFst.mk wf.setFunc) (CanonicalFst.mk wf.emit))

theorem Canonical.hostWrites {s : State} {link : Nat} {ps : List (Nat × List Byte)} {o : Owner} (wf : Canonical s) :
    Canonical (s.hostWrites link ps o) :=
  wf.foldl (fun wf' => wf'.emit.count)

theorem Canonical.post {s : State} {w : PendWrite} (wf : Canonical s) : Canonical (s.post w) := wf.frame

theorem Canonical.qevent {s : State} {fn type status obj : Nat} (wf : Canonical s) : Canonical (s.qevent fn type status obj) := wf.post

theorem Canonical.cqLost {s : State} {fn c qpn : Nat} {cq : Cq} {o : Owner} (wf : Canonical s) : Canonical (s.cqLost fn c qpn cq o) :=
  Canonical.ite wf.tally.drive wf.tally.drive.setFunc.qevent

theorem Canonical.writeOut {s : State} {w : PendWrite} (wf : Canonical s) : CanonicalFst (s.writeOut w) := by
  unfold State.writeOut
  dsimp only
  split
  · split
    · exact CanonicalFst.mk wf
    · refine CanonicalFst.ite (CanonicalFst.mk wf.cqLost) ?_
      split
      next _ eq => exact CanonicalFst.mk (CanonicalFst.of_eq eq wf.translate)
      next _ _ _ eq => exact CanonicalFst.mk (CanonicalFst.of_eq eq wf.translate).cqLost
      next _ _ _ _ eq => exact CanonicalFst.mk ((CanonicalFst.of_eq eq wf.translate).hostWrites.setFunc.count.maybe (·.msix.fst))
  · split
    · exact CanonicalFst.mk wf.tally
    · refine CanonicalFst.ite (CanonicalFst.mk wf.tally) ?_
      split
      next _ eq => exact CanonicalFst.mk (CanonicalFst.of_eq eq wf.translate)
      next _ _ _ eq => exact CanonicalFst.mk (CanonicalFst.of_eq eq wf.translate).tally
      next _ _ _ _ eq => exact CanonicalFst.mk (CanonicalFst.of_eq eq wf.translate).hostWrites.setFunc.msix.fst
  · refine CanonicalFst.ite (CanonicalFst.mk wf) ?_
    split
    next _ eq => exact CanonicalFst.mk (CanonicalFst.of_eq eq wf.translate)
    next _ _ _ eq => exact CanonicalFst.mk (CanonicalFst.of_eq eq wf.translate).drive
    next _ _ _ _ eq => exact CanonicalFst.mk (CanonicalFst.of_eq eq wf.translate).hostWrites

theorem Canonical.drainWrites {l : List PendWrite} {held : List Nat} {s : State} (wf : Canonical s) : Canonical (State.drainWrites l held s) := by
  induction l generalizing held s with
  | nil => exact wf
  | cons w l ih =>
    unfold State.drainWrites
    refine Canonical.ite (ih wf.post) ?_
    split
    next _ eq => exact ih (CanonicalFst.of_eq eq wf.writeOut).forgetAccesses
    next _ eq => exact ih (CanonicalFst.of_eq eq wf.writeOut).post

theorem Canonical.drainPass {s : State} (wf : Canonical s) : Canonical s.drainPass := wf.frame.drainWrites

/-! ### Completions in order -/

theorem Canonical.sendCompletion {s : State} {n : Nat} {q : Qp} {d : Desc} (wf : Canonical s) : Canonical (s.sendCompletion n q d) :=
  Canonical.ite wf wf.post

theorem Canonical.drainSq {s : State} {n : Nat} (wf : Canonical s) : Canonical (s.drainSq n) := by
  unfold State.drainSq
  dsimp only
  split
  · exact wf
  · exact (wf.setQp.foldl (fun wf' => wf'.sendCompletion)).maybe (·.setQp.qevent)

theorem Canonical.dropLocal {s : State} {n id : Nat} (wf : Canonical s) : Canonical (s.dropLocal n id) := by
  unfold State.dropLocal
  dsimp only
  split
  · exact (wf.modDesc.maybe (·.dropRef)).maybe (·.dropRef)
  · exact wf

theorem Canonical.finishDesc {s : State} {n id status : Nat} {remote : Bool} {detail : Nat} {result : Word} (wf : Canonical s) :
    Canonical (s.finishDesc n id status remote detail result) :=
  wf.dropLocal.modDesc.drainSq

theorem Canonical.recvCompletion {s : State} {n : Nat} {q : Qp} {r : Recv} (wf : Canonical s) : Canonical (s.recvCompletion n q r) := wf.post

theorem Canonical.completeRecv {s : State} {n : Nat} {q : Qp} {r : Recv} (wf : Canonical s) : Canonical (s.completeRecv n q r) :=
  wf.setQp.recvCompletion

theorem Canonical.drainRqList {l : List Nat} {n : Nat} {s : State} (wf : Canonical s) : Canonical (State.drainRqList l n s) := by
  induction l generalizing s with
  | nil => exact wf.modQp
  | cons id l ih =>
    unfold State.drainRqList
    split
    · exact ih wf
    · exact Canonical.ite wf.setQp (Canonical.ite (Canonical.ite (ih wf.tally.completeRecv) wf.setQp) (ih wf.completeRecv))

theorem Canonical.drainRq {s : State} {n : Nat} (wf : Canonical s) : Canonical (s.drainRq n) := by
  unfold State.drainRq
  split
  · exact wf.drainRqList
  · exact wf

theorem Canonical.dropRecvRef {s : State} {n id : Nat} (wf : Canonical s) : Canonical (s.dropRecvRef n id) := by
  unfold State.dropRecvRef
  split
  · exact wf.maybe (·.modRecv.dropRef)
  · exact wf

theorem Canonical.finishRecv {s : State} {n id status detail : Nat} (wf : Canonical s) : Canonical (s.finishRecv n id status detail) :=
  wf.dropRecvRef.modQp.drainRq

/-! ### Matching structures that follow a queue pair -/

theorem Canonical.matchShown {s : State} {fn : Nat} (wf : Canonical s) : Canonical (s.matchShown fn) := wf.wr.high.wr.wr

theorem Canonical.freeRecord {s : State} {id : Nat} (wf : Canonical s) : Canonical (s.freeRecord id) := by
  unfold State.freeRecord
  dsimp only
  split
  · exact wf.frame.matchShown
  · exact wf

theorem Canonical.missOut {s : State} {h k : Nat} (wf : Canonical s) : Canonical (s.missOut h k) := wf.frame.wr

/-! ### ERROR and flushing (R64, R65) -/

theorem Canonical.flushRefs {s : State} {l : List Desc} (wf : Canonical s) : Canonical (s.flushRefs l) :=
  wf.foldl (fun wf' => (wf'.maybe (·.dropRef)).maybe (·.dropRef))

theorem Canonical.dropPlacements {s : State} {n : Nat} {keep : Nat → Bool} (wf : Canonical s) : Canonical (s.dropPlacements n keep) := wf.frame

theorem Canonical.dropMatching {s : State} {n fn : Nat} (wf : Canonical s) : Canonical (s.dropMatching n fn) := wf.frame.matchShown

theorem Canonical.flushRq {s : State} {n : Nat} (wf : Canonical s) : Canonical (s.flushRq n) := by
  unfold State.flushRq
  dsimp only
  split
  · exact wf
  · exact Canonical.ite wf.dropMatching (wf.dropMatching.foldl (fun wf' => wf'.maybe (·.dropRef))).setQp.drainRq

theorem Canonical.dropGrants {s : State} {n : Nat} {k : Option Nat} (wf : Canonical s) : Canonical (s.dropGrants n k) :=
  wf.frame.foldl (fun wf' => wf'.dropRef)

theorem Canonical.stopTraffic {s : State} {n : Nat} {q : Qp} (wf : Canonical s) : Canonical (s.stopTraffic n q) :=
  (Canonical.ite wf.dropGrants (wf.dropGrants.foldl (fun wf' => wf'.returnCredit))).setQp.missOut

theorem Canonical.enterError {s : State} {n status : Nat} {causing : Option Nat} (wf : Canonical s) : Canonical (s.enterError n status causing) := by
  unfold State.enterError
  dsimp only
  split
  · exact wf
  · refine Canonical.ite wf ?_
    split
    · exact wf.stopTraffic
    · exact (wf.stopTraffic.setQp.flushRefs.dropPlacements.foldl (fun wf' => wf'.drive)).qevent.drainSq.flushRq

theorem Canonical.failDesc {s : State} {n id status : Nat} {remote : Bool} {detail : Nat} (wf : Canonical s) :
    Canonical (s.failDesc n id status remote detail) :=
  wf.dropLocal.modDesc.enterError

theorem Canonical.failRecv {s : State} {n id status detail : Nat} (wf : Canonical s) : Canonical (s.failRecv n id status detail) :=
  wf.dropRecvRef.modQp.drainRq.enterError

/-! ### Shapers and policers (R290 to R296) -/

theorem Canonical.police {s : State} {fn pd pre len : Nat} (wf : Canonical s) : CanonicalFst (s.police fn pd pre len) :=
  CanonicalFst.ite (CanonicalFst.mk wf.setFunc.tally) (CanonicalFst.ite (CanonicalFst.mk wf.setFunc) (CanonicalFst.ite (CanonicalFst.mk
    wf.setFunc.tally) (CanonicalFst.mk wf.setFunc.tally)))

theorem Canonical.sendReq {s : State} {q : Qp} {dest : Nat} {h : WtHeader} {payload : List Byte} (wf : Canonical s) :
    CanonicalFst (s.sendReq q dest h payload) := by
  unfold State.sendReq
  dsimp only
  refine CanonicalFst.ite (CanonicalFst.mk wf) ?_
  split
  · exact CanonicalFst.mk wf.eidMet
  · split
    next _ eq => exact CanonicalFst.mk (CanonicalFst.of_eq eq wf.eidMet.police)
    next _ _ eq => exact CanonicalFst.mk (CanonicalFst.of_eq eq wf.eidMet.police).injectWt

theorem Canonical.sendRsp {s : State} {q : Qp} {dest : Nat} {h : WtHeader} {payload : List Byte} (wf : Canonical s) :
    Canonical (s.sendRsp q dest h payload) := by
  unfold State.sendRsp
  dsimp only
  split
  · exact wf.eidMet.injectWt
  · exact wf.eidMet

/-! ### Connections and trackers (R60, R61, R73) -/

theorem Canonical.addTrack {s : State} {n k : Nat} {t : Track} (wf : Canonical s) : Canonical (s.addTrack n k t) := wf.modConn

theorem Canonical.modTrack {s : State} {n k psn : Nat} {f : Track → Track} (wf : Canonical s) : Canonical (s.modTrack n k psn f) := wf.modConn

theorem Canonical.failTrack {s : State} {n : Nat} {t : Track} {status : Nat} {remote : Bool} {detail : Nat} (wf : Canonical s) :
    Canonical (s.failTrack n t status remote detail) := by
  unfold State.failTrack
  split
  · split
    · exact Canonical.ite wf.enterError wf.failDesc
    · exact wf.enterError
  · exact wf.failRecv
  · exact wf.enterError

theorem Canonical.launch {s : State} {n k psn : Nat} {payload : List Byte} (wf : Canonical s) : Canonical (s.launch n k psn payload) := by
  unfold State.launch
  dsimp only
  split
  · split
    · exact wf
    · split
      next _ eq => exact (CanonicalFst.of_eq eq wf.sendReq).failTrack
      next _ eq => exact (CanonicalFst.of_eq eq wf.sendReq).modTrack
  · exact wf

/-! ### Local reads (R81, R109, R394, R492) -/

theorem Canonical.readHost {s : State} {fn : Nat} {cover : Nat × Nat} {len : Nat} {ps : List (Nat × Nat)} {use : ReadFor} (wf : Canonical s) :
    Canonical (s.readHost fn cover len ps use) :=
  wf.newId.frame.foldl (fun wf' => wf'.emit)

theorem Canonical.fetchLocal {s : State} {fn key va len : Nat} {use : ReadFor} (wf : Canonical s) :
    CanonicalFst (s.fetchLocal fn key va len use) := by
  unfold State.fetchLocal
  dsimp only
  refine CanonicalFst.ite (CanonicalFst.mk wf) ?_
  refine CanonicalFst.ite (CanonicalFst.mk wf) ?_
  refine CanonicalFst.ite ?_ ?_
  · split
    next _ _ eq => exact CanonicalFst.mk (CanonicalFst.of_eq eq wf.fetchStore)
    next _ eq => exact CanonicalFst.mk (CanonicalFst.of_eq eq wf.fetchStore)
  · split
    next _ eq => exact CanonicalFst.mk (CanonicalFst.of_eq eq wf.translate)
    next _ _ _ eq => exact CanonicalFst.mk (CanonicalFst.of_eq eq wf.translate)
    next _ _ _ _ eq => exact CanonicalFst.mk (CanonicalFst.of_eq eq wf.translate).readHost

/-! ### Resends (R69, R76, R134) -/

theorem Canonical.resend {s : State} {n k psn : Nat} (wf : Canonical s) : CanonicalFst (s.resend n k psn) := by
  unfold State.resend
  split
  · split
    · exact CanonicalFst.mk wf.launch
    · split
      next _ _ eq => exact CanonicalFst.mk (CanonicalFst.of_eq eq wf.fetchLocal).launch
      next _ eq => exact CanonicalFst.mk (CanonicalFst.of_eq eq wf.fetchLocal).takeRef.modTrack
      next _ eq => exact CanonicalFst.mk (CanonicalFst.of_eq eq wf.fetchLocal)
      next _ _ _ eq => exact CanonicalFst.mk (CanonicalFst.of_eq eq wf.fetchLocal).failTrack
  · exact CanonicalFst.mk wf

/-! ### Acknowledgement of requests (R75, R131, R137) -/

theorem Canonical.checkDone {s : State} {n id : Nat} (wf : Canonical s) : Canonical (s.checkDone n id) := by
  unfold State.checkDone
  split
  · exact wf.maybe (·.finishDesc)
  · exact wf

theorem Canonical.retire {s : State} {n k : Nat} {t : Track} (wf : Canonical s) : Canonical (s.retire n k t) := by
  unfold State.retire
  dsimp only
  split
  · exact wf.modConn.modDesc.checkDone
  · exact wf.modConn

/-! ### Building packets (R53, R71, R73, R126, R128, R137) -/

theorem Canonical.shape {s : State} {n k psn : Nat} {payload : List Byte} {len : Nat} (wf : Canonical s) :
    Canonical (s.shape n k psn payload len) := by
  unfold State.shape
  dsimp only
  split
  · exact wf
  · exact Canonical.ite wf.setQp.launch (Canonical.ite wf.setQp.launch wf.setQp.tally)

theorem Canonical.noteHold {s : State} {n g : Nat} (wf : Canonical s) : Canonical (s.noteHold n g) := by
  unfold State.noteHold
  split
  · exact Canonical.ite wf wf.setQp.tally
  · exact wf

theorem Canonical.buildDesc {s : State} {n : Nat} {q : Qp} {d : Desc} {at0 : Nat} (wf : Canonical s) : Canonical (s.buildDesc n q d at0) := by
  unfold State.buildDesc
  dsimp only
  split
  · exact wf
  · refine Canonical.ite wf ?_
    split
    · exact wf.maybe (·.addTrack.modDesc.shape)
    · refine Canonical.ite wf ?_
      split
      next _ _ eq => exact (CanonicalFst.of_eq eq wf.fetchLocal).addTrack.modDesc.shape
      next _ eq => exact (CanonicalFst.of_eq eq wf.fetchLocal).modDesc
      next _ eq => exact (CanonicalFst.of_eq eq wf.fetchLocal)
      next _ _ _ eq => exact (CanonicalFst.of_eq eq wf.fetchLocal).failDesc

theorem Canonical.buildFin {s : State} {n : Nat} {q : Qp} {f : Nat × Nat × Nat × Nat} (wf : Canonical s) : Canonical (s.buildFin n q f) := by
  unfold State.buildFin
  dsimp only
  split
  · exact wf.setQp
  · exact Canonical.ite wf wf.setQp.addTrack.launch

theorem Canonical.buildFetch {s : State} {n : Nat} {q : Qp} {r : Recv} (wf : Canonical s) : Canonical (s.buildFetch n q r) := by
  unfold State.buildFetch
  dsimp only
  split
  · exact wf
  · exact Canonical.ite wf wf.addTrack.modRecv.launch

theorem Canonical.makePeer {s : State} {n k : Nat} {c : Conn} (wf : Canonical s) : Canonical (s.makePeer n k c) := wf.frame.modQp.ctxShown

theorem Canonical.newPeer {s : State} {n eid qpn : Nat} (wf : Canonical s) : Canonical (s.newPeer n eid qpn) := wf.makePeer

theorem Canonical.peersFor {s : State} {n : Nat} {q : Qp} (wf : Canonical s) : Canonical (s.peersFor n q) := by
  unfold State.peersFor
  dsimp only
  refine Canonical.ite wf ?_
  refine Canonical.foldl wf (fun wf' => ?_)
  split
  · exact wf'.maybe (·.newPeer)
  · exact wf'

theorem Canonical.build {s : State} {n : Nat} {q : Qp} {a3 : Build} (wf : Canonical s) : Canonical (s.build n q a3) := by
  unfold State.build
  split
  · exact wf.buildFin
  · exact wf.buildFetch
  · exact wf.buildDesc

theorem Canonical.sendStep {s : State} {n : Nat} (wf : Canonical s) : Canonical (s.sendStep n) := by
  unfold State.sendStep
  dsimp only
  split
  · exact wf
  · refine Canonical.ite wf ?_
    split
    · exact (wf.peersFor.setQp.foldl (fun wf' => wf'.noteHold)).build
    · exact wf.peersFor.setQp.foldl (fun wf' => wf'.noteHold)

/-! ### Starting descriptors (R51, R63, R91) -/

theorem Canonical.takeLocal {s : State} {n : Nat} {d : Desc} (wf : Canonical s) : Canonical (s.takeLocal n d) := wf.modDesc.takeRef

theorem Canonical.startTransfer {s : State} {n : Nat} {q : Qp} {d : Desc} {right : Nat} {checked : Bool} (wf : Canonical s) :
    Canonical (s.startTransfer n q d right checked) := by
  unfold State.startTransfer
  dsimp only
  refine Canonical.ite wf.modDesc ?_
  split
  · exact wf.failDesc
  · exact wf.takeLocal.modDesc

theorem Canonical.startTagged {s : State} {n : Nat} {q : Qp} {d : Desc} (wf : Canonical s) : Canonical (s.startTagged n q d) := by
  unfold State.startTagged
  exact wf.modDesc.startTransfer

theorem Canonical.bindWindow {s : State} {n : Nat} {q : Qp} {d : Desc} (wf : Canonical s) : Canonical (s.bindWindow n q d) := by
  unfold State.bindWindow
  dsimp only
  refine Canonical.ite wf ?_
  split
  · exact wf.failDesc
  · exact wf.bringKey.setKey.finishDesc

theorem Canonical.unbindWindow {s : State} {n : Nat} {q : Qp} {d : Desc} (wf : Canonical s) : Canonical (s.unbindWindow n q d) := by
  unfold State.unbindWindow
  dsimp only
  refine Canonical.ite wf ?_
  split
  · exact wf.failDesc
  · exact Canonical.ite wf.finishDesc wf.revoke.setKey.modDesc

/-! ### Per-peer states (R61, R62) -/

theorem Canonical.needPeer {s : State} {n : Nat} {d : Desc} (wf : Canonical s) : Canonical (s.needPeer n d) := by
  unfold State.needPeer
  split
  · exact wf
  · exact wf.maybe (·.newPeer)

theorem Canonical.peerWait {s : State} {n : Nat} (wf : Canonical s) : Canonical (s.peerWait n) := by
  unfold State.peerWait
  split
  · exact wf
  · split
    · exact Canonical.ite wf wf.setQp.qevent
    · exact wf

/-! ### Posted receives and unexpected records -/

theorem Canonical.post1 {s : State} {p : Posted} (wf : Canonical s) : Canonical (s.post1 p) := wf.frame

theorem Canonical.unlinkPosted {s : State} {n : Nat} {ids : List Nat} (wf : Canonical s) : Canonical (s.unlinkPosted n ids) := wf.frame.wr

theorem Canonical.matchOp {s : State} {n : Nat} {o : Owner} (wf : Canonical s) : Canonical (s.matchOp n o) := wf.count

/-! ### The unexpected pool (R129, R130) -/

theorem Canonical.addRecordU {s : State} {u : Unexp} (wf : Canonical s) : Canonical (s.addRecordU u) := wf.frame.matchShown

/-! ### Placement (R97, R109) -/

theorem Canonical.place {s : State} {p : Placement} (wf : Canonical s) : Canonical (s.place p) := wf.newId.frame

theorem Canonical.landing {s : State} {use : PlaceFor} {key fn va n : Nat} (wf : Canonical s) : CanonicalFst (s.landing use key fn va n) := by
  unfold State.landing
  dsimp only
  refine CanonicalFst.ite (CanonicalFst.mk wf) ?_
  split
  next _ eq => exact CanonicalFst.mk (CanonicalFst.of_eq eq wf.translate)
  next _ _ _ eq => exact CanonicalFst.mk (CanonicalFst.of_eq eq wf.translate)
  next _ _ _ _ eq => exact CanonicalFst.mk (CanonicalFst.of_eq eq wf.translate)

theorem Canonical.placeAt {s : State} {t : Target1} {use : PlaceFor} {key : Option Nat} {fn source : Nat} {b : List Byte} (wf : Canonical s) :
    Canonical (s.placeAt t use key fn source b) := by
  unfold State.placeAt
  split
  · exact wf.place
  · exact wf.place
  · exact wf

theorem Canonical.issue {s : State} {p : Placement} {o : Owner} (wf : Canonical s) : Canonical (s.issue p o) :=
  Canonical.ite (wf.foldl (fun wf' => wf'.placeStore)) wf.hostWrites

/-! ### Receives that finish (R131, R132, R137, R142) -/

theorem Canonical.eagerDone {s : State} {n id : Nat} (wf : Canonical s) : Canonical (s.eagerDone n id) := by
  unfold State.eagerDone
  split
  · exact wf.maybe (·.finishRecv)
  · exact wf

theorem Canonical.fetchDone {s : State} {n id : Nat} (wf : Canonical s) : Canonical (s.fetchDone n id) := by
  unfold State.fetchDone
  dsimp only
  split
  · exact wf.maybe (·.foldl (fun wf' => wf'.finishRecv))
  · exact wf

theorem Canonical.nameSender {s : State} {n id srcEid : Nat} {tag : Word} (wf : Canonical s) : Canonical (s.nameSender n id srcEid tag) := wf.modRecv

theorem Canonical.startFetch {s : State} {n id k addr key psn len srcEid : Nat} {tag : Word} (wf : Canonical s) :
    Canonical (s.startFetch n id k addr key psn len srcEid tag) := by
  unfold State.startFetch
  dsimp only
  split
  · exact wf
  · split
    · exact wf.unlinkPosted.nameSender.failRecv
    · exact (wf.unlinkPosted.foldl (fun wf' => wf'.maybe (·.takeRef))).modQp.maybe (·.fetchDone)

/-! ### Records taken by a receive (R131) -/

theorem Canonical.copyRecord {s : State} {n : Nat} {q : Qp} {r : Recv} {u : Unexp} (wf : Canonical s) : CanonicalFst (s.copyRecord n q r u) := by
  unfold State.copyRecord
  dsimp only
  refine CanonicalFst.ite (CanonicalFst.mk wf.freeRecord.eagerDone) ?_
  split
  next _ eq => exact CanonicalFst.mk (CanonicalFst.of_eq eq wf.landing)
  next _ _ _ eq => exact CanonicalFst.mk (CanonicalFst.of_eq eq wf.landing).freeRecord.failRecv
  next _ _ eq => exact CanonicalFst.mk (CanonicalFst.of_eq eq wf.landing).modRecv.placeAt

theorem Canonical.takeRecord {s : State} {n id : Nat} {u : Unexp} (wf : Canonical s) : Canonical (s.takeRecord n id u) := by
  unfold State.takeRecord
  dsimp only
  split
  · exact wf
  · refine Canonical.ite wf.frame.takeFree.modRecv.finishRecv ?_
    refine Canonical.ite wf.freeRecord.startFetch ?_
    split
    · exact wf.freeRecord.nameSender.failRecv
    · exact (Canonical.ite wf wf.takeRef).frame.modRecv

theorem Canonical.copyTaken {s : State} {n : Nat} (wf : Canonical s) : Canonical (s.copyTaken n) := by
  unfold State.copyTaken
  refine Canonical.foldl wf (fun wf' => ?_)
  refine Canonical.ite wf' ?_
  split
  · exact wf'.copyRecord.fst
  · exact wf'.freeRecord

end Sys2Proof.Machine


/-! PROOFS. The canonical forms are kept (O60): the responder, the swarm engine, and what follows within a step. Each lemma is about the
model function of its name. -/

namespace Sys2Proof.Machine

/-! ### Answers (R68, R72, R75) -/

theorem Canonical.answer {s : State} {p : Packet} {h : WtHeader} {opcode code hint psn sack low : Nat} {q : Option Qp} (wf : Canonical s) :
    Canonical (s.answer p h opcode code hint psn sack low q) := by
  unfold State.answer
  dsimp only
  split
  · exact wf
  · split
    · exact wf.eidMet.injectWt
    · exact wf.eidMet

theorem Canonical.nak {s : State} {p : Packet} {h : WtHeader} {q : Option Qp} {c : Option Conn} {status hint : Nat} (wf : Canonical s) :
    Canonical (s.nak p h q c status hint) := by
  unfold State.nak
  dsimp only
  split
  · exact Canonical.ite wf.answer wf.answer
  · exact wf.answer

theorem Canonical.stateMiss {s : State} {p : Packet} {h : WtHeader} {q : Option Qp} {c : Option Conn} {hint : Option Nat} (wf : Canonical s) :
    Canonical (s.stateMiss p h q c hint) :=
  (wf.maybe (·.takeFree)).nak.tally

theorem Canonical.sendAck {s : State} {n k : Nat} (wf : Canonical s) : Canonical (s.sendAck n k) := by
  unfold State.sendAck
  dsimp only
  split
  · exact wf.sendRsp.modConn
  · exact wf

theorem Canonical.noteRequest {s : State} {n k : Nat} {solicit : Bool} (wf : Canonical s) : Canonical (s.noteRequest n k solicit) := by
  unfold State.noteRequest
  split
  · exact Canonical.ite wf (Canonical.ite wf.sendAck wf.modConn)
  · exact wf

/-! ### Contexts on die and the miss buffer (R66 to R68, R84) -/

theorem Canonical.touch {s : State} {n : Nat} (wf : Canonical s) : Canonical (s.touch n) := by
  unfold State.touch
  dsimp only
  split
  · exact wf.modQp.frame.modQp
  · exact wf.modQp.frame

theorem Canonical.missIn {s : State} {q : Qp} {k port : Nat} {p : Packet} {h : WtHeader} {c : Option Conn} {fetch : Bool} (wf : Canonical s) :
    Canonical (s.missIn q k port p h c fetch) :=
  Canonical.ite wf.stateMiss.returnCredit (wf.setQp.frame.wr.maybe (·.returnCredit)).high.count

/-! ### The result cache (R78) -/

theorem Canonical.freeResults {s : State} {n k low : Nat} (wf : Canonical s) : Canonical (s.freeResults n k low) := wf.frame.ctxShown

theorem Canonical.dropResults {s : State} {n : Nat} {k : Option Nat} (wf : Canonical s) : Canonical (s.dropResults n k) := wf.frame.ctxShown

/-! ### Requests that the key table checks (R94 to R96, R102, R105, R109) -/

theorem Canonical.nakNew {s : State} {p : Packet} {h : WtHeader} {q : Qp} {c : Conn} {status : Nat} (wf : Canonical s) :
    Canonical (s.nakNew p h q c status) := by
  unfold State.nakNew
  exact wf.modConn.nak

theorem Canonical.waitGranted {s : State} {n k : Nat} {h : WtHeader} (wf : Canonical s) : Canonical (s.waitGranted n k h) :=
  (Canonical.ite wf wf.takeRef.frame).drive

theorem Canonical.useRef {s : State} {n k : Nat} {h : WtHeader} (wf : Canonical s) : Canonical (s.useRef n k h) := by
  unfold State.useRef
  dsimp only
  split
  · exact wf.frame
  · exact wf.takeRef

theorem Canonical.endGrant {s : State} {n k : Nat} {h : WtHeader} (wf : Canonical s) : Canonical (s.endGrant n k h) := by
  unfold State.endGrant
  dsimp only
  split
  · exact wf.frame.dropRef
  · exact wf

theorem Canonical.refuse {s : State} {p : Packet} {h : WtHeader} {q : Qp} {c : Conn} {status detail : Nat} (wf : Canonical s) :
    Canonical (s.refuse p h q c status detail) :=
  wf.keyFails.nakNew

theorem Canonical.rxPut {s : State} {n k : Nat} {q : Qp} {c : Conn} {p : Packet} {h : WtHeader} (wf : Canonical s) :
    Canonical (s.rxPut n k q c p h) := by
  unfold State.rxPut
  dsimp only
  split
  · exact wf.refuse
  · refine Canonical.ite wf.modConn.noteRequest ?_
    split
    next _ eq => exact (CanonicalFst.of_eq eq wf.landing).waitGranted
    next _ _ _ eq => exact (CanonicalFst.of_eq eq wf.landing).endGrant.refuse
    next _ _ eq => exact (CanonicalFst.of_eq eq wf.landing).useRef.modConn.placeAt

theorem Canonical.sendResponses {f : Nat} {s : State} (wf : Canonical s) {q : Qp} {c : Conn} {psn a : Nat} {b : List Byte} :
    Canonical (sendResponses f s q c psn a b) := by
  induction f generalizing s psn a b with
  | zero => exact wf
  | succ f ih => exact Canonical.ite wf.sendRsp (ih wf.sendRsp)

theorem Canonical.rxGet {s : State} {n k : Nat} {q : Qp} {c : Conn} {p : Packet} {h : WtHeader} (wf : Canonical s) :
    Canonical (s.rxGet n k q c p h) := by
  unfold State.rxGet
  dsimp only
  split
  · exact wf.refuse
  · refine Canonical.ite wf.modConn.sendResponses ?_
    refine Canonical.ite wf.waitGranted ?_
    refine Canonical.ite ?_ ?_
    · split
      next _ _ eq => exact (CanonicalFst.of_eq eq wf.fetchStore).endGrant.modConn.sendResponses
      next _ eq => exact (CanonicalFst.of_eq eq wf.fetchStore).endGrant.refuse
    · split
      next _ eq => exact (CanonicalFst.of_eq eq wf.translate).waitGranted
      next _ _ _ eq => exact (CanonicalFst.of_eq eq wf.translate).endGrant.refuse
      next _ _ _ _ eq => exact (CanonicalFst.of_eq eq wf.translate).modConn.useRef.readHost

theorem Canonical.rxAtomic {s : State} {n k : Nat} {q : Qp} {c : Conn} {p : Packet} {h : WtHeader} (wf : Canonical s) :
    Canonical (s.rxAtomic n k q c p h) := by
  unfold State.rxAtomic
  dsimp only
  refine Canonical.ite wf.nakNew ?_
  split
  · exact wf.refuse
  · refine Canonical.ite wf.endGrant.refuse ?_
    refine Canonical.ite wf.endGrant.refuse ?_
    refine Canonical.ite wf.endGrant.refuse ?_
    refine Canonical.ite wf.endGrant.stateMiss ?_
    refine Canonical.ite wf.waitGranted ?_
    refine Canonical.ite wf.useRef.modConn.newId.frame.ctxShown ?_
    split
    next _ eq => exact (CanonicalFst.of_eq eq wf.translate).waitGranted
    next _ _ _ eq => exact (CanonicalFst.of_eq eq wf.translate).endGrant.refuse
    next _ _ _ _ eq =>
      have wf' := CanonicalFst.of_eq eq wf.translate
      split
      · exact wf'.useRef.modConn.newId.frame.ctxShown.emit.count
      · exact wf'.useRef.modConn.newId.frame.ctxShown.emit

theorem Canonical.sendAtomicResp {s : State} {n k psn : Nat} {v : Word} (wf : Canonical s) : Canonical (s.sendAtomicResp n k psn v) := by
  unfold State.sendAtomicResp
  dsimp only
  split
  · exact Canonical.ite wf wf.sendRsp
  · exact wf

theorem Canonical.atomicDone {s : State} {id : Nat} {a : AtomicOp} {old : Nat} (wf : Canonical s) : Canonical (s.atomicDone id a old) :=
  wf.frame.dropRef.sendAtomicResp

theorem Canonical.lateNak {s : State} {n k psn key opcode detail : Nat} (wf : Canonical s) : Canonical (s.lateNak n k psn key opcode detail) := by
  unfold State.lateNak
  dsimp only
  split
  · exact Canonical.ite wf.keyFails wf.keyFails.sendRsp
  · exact wf

theorem Canonical.atomicFails {s : State} {id : Nat} {a : AtomicOp} {detail : Nat} (wf : Canonical s) : Canonical (s.atomicFails id a detail) :=
  wf.frame.ctxShown.dropRef.lateNak

/-! ### Matched messages (R116, R122, R131 to R137) -/

theorem Canonical.refuseFull {s : State} {n k : Nat} {q : Qp} {c : Conn} {p : Packet} {h : WtHeader} {latch : Bool} (wf : Canonical s) :
    Canonical (s.refuseFull n k q c p h latch) :=
  Canonical.ite wf.nak.tally (Canonical.ite wf.nak.tally.modConn wf.nak.tally.modConn.modQp.qevent)

theorem Canonical.unlatch {s : State} {n k psn : Nat} (wf : Canonical s) : Canonical (s.unlatch n k psn) := wf.modQp

theorem Canonical.eagerToRecv {s : State} {n k : Nat} {q : Qp} {r : Recv} {p : Packet} {h : WtHeader} {seen : State → State} (wf : Canonical s)
    (step : ∀ {u}, Canonical u → Canonical (seen u)) : Canonical (s.eagerToRecv n k q r p h seen) := by
  unfold State.eagerToRecv
  dsimp only
  refine Canonical.ite (step wf.modConn).modRecv.noteRequest.eagerDone ?_
  split
  next _ eq => exact (CanonicalFst.of_eq eq wf.landing).drive
  next _ _ _ eq => exact (step (CanonicalFst.of_eq eq wf.landing)).failRecv
  next _ _ _ _ eq => exact (step (CanonicalFst.of_eq eq wf.landing).modConn).modRecv.placeAt

theorem Canonical.enterUnexpected {s : State} {n k : Nat} {q : Qp} {c : Conn} {p : Packet} {h : WtHeader} (wf : Canonical s) :
    Canonical (s.enterUnexpected n k q c p h) :=
  Canonical.ite wf.refuseFull wf.newId.addRecordU.modConn.unlatch.noteRequest

theorem Canonical.rxFirst {s : State} {n k : Nat} {q : Qp} {c : Conn} {p : Packet} {h : WtHeader} (wf : Canonical s) :
    Canonical (s.rxFirst n k q c p h) := by
  unfold State.rxFirst
  dsimp only
  split
  · exact wf.matchOp.enterUnexpected
  · refine Canonical.ite wf.frame.matchOp.modConn.unlatch.noteRequest ?_
    split
    · exact wf
    · refine Canonical.ite wf.matchOp.modConn.unlatch.noteRequest.startFetch ?_
      split
      · exact wf.matchOp.unlinkPosted.nameSender.failRecv
      · exact wf.eagerToRecv (fun wf' => (wf'.matchOp.unlinkPosted.modRecv.maybe (·.takeRef)).modConn.unlatch)

theorem Canonical.rxLater {s : State} {n k : Nat} {q : Qp} {p : Packet} {h : WtHeader} {m : RxMsg} (wf : Canonical s) :
    Canonical (s.rxLater n k q p h m) := by
  unfold State.rxLater
  dsimp only
  split
  · split
    · exact wf.eagerToRecv (fun wf' => wf'.modConn)
    · exact wf.modConn.modConn.noteRequest
  · exact wf.frame.modConn.modConn.noteRequest
  · exact wf

theorem Canonical.rxFin {s : State} {n k : Nat} {q : Qp} {h : WtHeader} (wf : Canonical s) : Canonical (s.rxFin n k q h) := by
  unfold State.rxFin
  dsimp only
  split
  · exact wf.modConn.noteRequest.andThen fun wf1 => Canonical.ite wf1.failDesc wf1.finishDesc
  · exact wf.modConn.noteRequest.tally

/-! ### Responses at the requester (R74 to R76, R95) -/

theorem Canonical.rxGetResp {s : State} {n k : Nat} {q : Qp} {c : Conn} {p : Packet} {h : WtHeader} (wf : Canonical s) :
    Canonical (s.rxGetResp n k q c p h) := by
  unfold State.rxGetResp
  dsimp only
  split
  · exact wf
  · refine Canonical.ite wf ?_
    split
    · refine Canonical.ite (wf.modTrack.modConn.maybe (·.retire)) ?_
      split
      next _ eq => exact (CanonicalFst.of_eq eq wf.landing).drive
      next _ _ _ eq => exact (CanonicalFst.of_eq eq wf.landing).failDesc
      next _ _ eq => exact (CanonicalFst.of_eq eq wf.landing).modDesc.placeAt.modTrack.modConn.maybe (·.retire)
    · refine Canonical.ite (wf.modTrack.modConn.maybe (·.retire)) ?_
      split
      next _ eq => exact (CanonicalFst.of_eq eq wf.landing).drive
      next _ _ _ eq => exact (CanonicalFst.of_eq eq wf.landing).failRecv
      next _ _ eq => exact (CanonicalFst.of_eq eq wf.landing).modRecv.placeAt.modTrack.modConn.maybe (·.retire)
    · exact wf

theorem Canonical.rxAtomicResp {s : State} {n k : Nat} {c : Conn} {h : WtHeader} (wf : Canonical s) : Canonical (s.rxAtomicResp n k c h) := by
  unfold State.rxAtomicResp
  dsimp only
  split
  · exact wf
  · refine Canonical.retire ?_
    split
    · exact wf.modDesc
    · exact wf

theorem Canonical.rxAck {s : State} {n k : Nat} {c : Conn} {h : WtHeader} (wf : Canonical s) : Canonical (s.rxAck n k c h) :=
  (wf.maybe (·.modConn)).foldl (fun wf' => wf'.retire)

theorem Canonical.rxNak {s : State} {n k : Nat} {q : Qp} {c : Conn} {h : WtHeader} (wf : Canonical s) : Canonical (s.rxNak n k q c h) := by
  unfold State.rxNak
  dsimp only
  refine Canonical.ite ?_ ?_
  · split
    · exact wf.rxAck.modTrack.modConn
    · exact wf.rxAck
  · refine Canonical.ite wf.rxAck.modConn ?_
    split
    · exact wf.rxAck.failTrack
    · exact wf.rxAck

/-! ### Arrival of a WT packet -/

theorem Canonical.peerState {s : State} {n k : Nat} {q : Qp} {p : Packet} {h : WtHeader} (wf : Canonical s) :
    CanonicalFst (s.peerState n k q p h) := by
  unfold State.peerState
  dsimp only
  split
  · exact CanonicalFst.ite (CanonicalFst.mk wf) (CanonicalFst.ite (CanonicalFst.mk wf.dropGrants.modConn.modQp.dropResults) (CanonicalFst.mk
      wf.stateMiss))
  · exact CanonicalFst.ite (CanonicalFst.mk wf.stateMiss) (CanonicalFst.ite (CanonicalFst.mk wf.stateMiss) (CanonicalFst.mk wf.makePeer))

theorem Canonical.rxRequest {s : State} {n k : Nat} {q : Qp} {c : Conn} {p : Packet} {h : WtHeader} (wf : Canonical s) :
    CanonicalFst (s.rxRequest n k q c p h) := by
  unfold State.rxRequest
  dsimp only
  refine CanonicalFst.ite (CanonicalFst.mk wf.tally) ?_
  refine CanonicalFst.ite ?_ ?_
  · refine CanonicalFst.mk ?_
    refine Canonical.ite wf.rxGet ?_
    refine Canonical.ite ?_ wf.noteRequest
    split
    · split
      · exact wf.sendAtomicResp
      · exact wf
    · exact wf
  · refine CanonicalFst.ite (CanonicalFst.mk wf.refuseFull) ?_
    refine CanonicalFst.ite (CanonicalFst.mk wf.rxPut) ?_
    refine CanonicalFst.ite (CanonicalFst.mk wf.rxGet) ?_
    refine CanonicalFst.ite (CanonicalFst.mk wf.rxAtomic) ?_
    refine CanonicalFst.ite (CanonicalFst.mk wf.rxFin) ?_
    refine CanonicalFst.ite (CanonicalFst.mk wf.nakNew) ?_
    refine CanonicalFst.ite (CanonicalFst.ite (CanonicalFst.mk wf) (CanonicalFst.ite (CanonicalFst.mk wf) (CanonicalFst.mk wf.rxFirst))) ?_
    split
    · exact CanonicalFst.mk wf.rxLater
    · exact CanonicalFst.mk wf

theorem Canonical.rxOnDie {s : State} {n : Nat} {p : Packet} {h : WtHeader} (wf : Canonical s) : CanonicalFst (s.rxOnDie n p h) := by
  unfold State.rxOnDie
  dsimp only
  split
  · exact CanonicalFst.mk wf
  · refine CanonicalFst.ite (CanonicalFst.mk wf.tally) ?_
    refine CanonicalFst.ite (CanonicalFst.mk wf.tally.nak) ?_
    refine CanonicalFst.ite (CanonicalFst.mk wf.tally.nak) ?_
    refine CanonicalFst.ite (CanonicalFst.mk (wf.maybe (·.nak))) ?_
    refine CanonicalFst.ite (CanonicalFst.mk (wf.maybe (·.stateMiss))) ?_
    refine CanonicalFst.ite ?_ ?_
    · refine (Canonical.ite wf wf.freeResults).andThen fun wf1 => CanonicalFst.ite (CanonicalFst.mk (CanonicalFst.ite wf1.peerState (CanonicalFst.mk
        wf1)).fst) ?_
      split
      · exact (Canonical.ite wf wf.freeResults).andThen fun wf1 => (CanonicalFst.ite wf1.peerState (CanonicalFst.mk wf1)).fst.rxRequest
      · exact (Canonical.ite wf wf.freeResults).andThen fun wf1 => CanonicalFst.mk (CanonicalFst.ite wf1.peerState (CanonicalFst.mk wf1)).fst
    · split
      · exact CanonicalFst.mk (Canonical.ite wf wf.freeResults)
      · exact (Canonical.ite wf wf.freeResults).andThen fun wf1 => CanonicalFst.mk (Canonical.ite wf1.rxGetResp (Canonical.ite wf1.rxAtomicResp
          (Canonical.ite wf1.rxAck wf1.rxNak)))

theorem Canonical.unwait {s : State} {n k : Nat} {x : Nat × Packet} (wf : Canonical s) : Canonical (s.unwait n k x) := by
  unfold State.unwait
  dsimp only
  split
  · exact Canonical.ite (Canonical.ite wf wf.returnCredit).setQp.missOut wf
  · exact wf

theorem Canonical.noWait {s : State} (wf : Canonical s) : Canonical s.noWait := wf.frame

theorem Canonical.pump {f : Nat} {s : State} (wf : Canonical s) {n k : Nat} : Canonical (s.pump f n k) := by
  induction f generalizing s with
  | zero => exact wf
  | succ f ih =>
    unfold State.pump
    split
    · exact wf
    · refine Canonical.ite wf ?_
      split
      · exact wf
      · split
        · exact Canonical.ite wf.rxOnDie.fst.noWait (Canonical.ite wf.rxOnDie.fst (ih wf.rxOnDie.fst.unwait))
        · exact wf

theorem Canonical.pumpQp {s : State} {n : Nat} (wf : Canonical s) : Canonical (s.pumpQp n) := by
  unfold State.pumpQp
  split
  · exact wf.foldl (fun wf' => wf'.pump)
  · exact wf

theorem Canonical.pumpAll {s : State} (wf : Canonical s) : Canonical s.pumpAll := wf.foldl (fun wf' => wf'.pumpQp)

theorem Canonical.rxPacket {s : State} {port : Nat} {p : Packet} {h : WtHeader} (wf : Canonical s) : Canonical (s.rxPacket port p h) := by
  unfold State.rxPacket
  dsimp only
  split
  · exact (Canonical.ite wf.tally.nak (Canonical.ite wf (Canonical.ite wf.stateMiss wf.nak))).returnCredit
  · refine Canonical.ite wf.missIn ?_
    refine Canonical.ite wf.missIn ?_
    refine Canonical.ite wf.missIn.pump ?_
    split
    next _ eq =>
      have wf' := CanonicalFst.of_eq eq wf.touch.rxOnDie
      exact Canonical.ite wf' wf'.returnCredit.pump
    next _ _ eq =>
      have wf' := CanonicalFst.of_eq eq wf.touch.rxOnDie
      split
      · exact wf'.missIn.maybe (·.tally)
      · exact wf'

/-! ### Frond entries (R151 to R154) -/

theorem Canonical.setFrond {s : State} {gid : Nat} {f : Frond} (wf : Canonical s) : Canonical (s.setFrond gid f) := wf.frame

theorem Canonical.slotsShown {s : State} (wf : Canonical s) : Canonical s.slotsShown := wf.wr.high

/-! ### Packets (R154, R165, R168) -/

theorem Canonical.swarmSend {s : State} {edge : Nat} {h : SwarmHeader} {payload : List Byte} (wf : Canonical s) :
    Canonical (s.swarmSend edge h payload) := by
  unfold State.swarmSend
  dsimp only
  refine Canonical.ite wf.frame ?_
  split
  · exact wf
  · exact wf.samplePacket.fst.toEgress

/-! ### Aborts (R182 to R184) -/

theorem Canonical.dropSwarmIo {s : State} {gid lkey : Nat} (wf : Canonical s) : Canonical (s.dropSwarmIo gid lkey) :=
  wf.frame.foldl (fun wf' => wf'.takeRef)

theorem Canonical.swarmAbort {s : State} {gid reason port : Nat} {epoch except0 : Option Nat} {like : Option SwarmHeader} (wf : Canonical s) :
    Canonical (s.swarmAbort gid reason port epoch except0 like) := by
  unfold State.swarmAbort
  split
  · exact wf
  · refine Canonical.ite wf ?_
    extract_lets number ids shown key dropped of h sent finished told
    have wf' : Canonical told := by
      have wf' : Canonical finished := (wf.setFrond.slotsShown.dropSwarmIo.foldl (fun wf' => wf'.swarmSend)).foldl (fun wf' => wf'.finishDesc)
      dsimp only [told]
      split
      · exact wf'.qevent
      · exact wf'
    clear_value told
    exact ((wf'.raise.tally.maybe (·.tally)).maybe (·.tally)).andThen fun wf1 => Canonical.ite wf1 wf1.wr.wr.wr.wr.wr

theorem Canonical.swarmStray {s : State} (wf : Canonical s) : Canonical s.swarmStray := wf.tally

theorem Canonical.swarmLinkDown {s : State} {port : Nat} (wf : Canonical s) : Canonical (s.swarmLinkDown port) :=
  wf.foldl (fun wf' => wf'.maybe (·.swarmAbort))

/-! ### Results (R156, R165, R177) -/

theorem Canonical.epochEnds {s : State} {gid : Nat} (wf : Canonical s) : Canonical (s.epochEnds gid) := by
  unfold State.epochEnds
  split
  · split
    · exact wf.maybe (·.setFrond.slotsShown)
    · exact wf
  · exact wf

theorem Canonical.memberPlaced {s : State} {gid : Nat} (wf : Canonical s) : Canonical (s.memberPlaced gid) := by
  unfold State.memberPlaced
  dsimp only
  split
  · split
    · refine Canonical.epochEnds ?_
      split
      · exact wf.setFrond.maybe (·.finishDesc)
      · exact wf.setFrond
    · exact wf
  · exact wf

theorem Canonical.deliver {s : State} {gid : Nat} {f : Frond} {e : Epoch} {k : Nat} {payload : List Byte} (wf : Canonical s) :
    Canonical (s.deliver gid f e k payload) :=
  (wf.setFrond.foldl (fun wf' => wf'.swarmSend)).epochEnds

theorem Canonical.stageFails {s : State} {gid : Nat} {f : Frond} {e : Epoch} {k : Nat} (wf : Canonical s) : Canonical (s.stageFails gid f e k) :=
  wf.reportPoison.swarmAbort

theorem Canonical.stageStart {s : State} {f : Frond} {e : Epoch} {k : Nat} (wf : Canonical s) : Canonical (s.stageStart f e k) :=
  Canonical.ite wf wf.clearPoison

theorem Canonical.segmentDone {s : State} {gid k : Nat} (wf : Canonical s) : Canonical (s.segmentDone gid k) := by
  unfold State.segmentDone
  dsimp only
  split
  · split
    · split
      · exact Canonical.ite wf (Canonical.ite wf.stageFails (Canonical.ite wf.deliver (wf.setFrond.foldl (fun wf' => wf'.swarmSend))))
      · exact wf
    · exact wf
  · exact wf

theorem Canonical.setCur {s : State} {gid : Nat} {e : Epoch} (wf : Canonical s) : Canonical (s.setCur gid e) := by
  unfold State.setCur
  split
  · exact wf.setFrond
  · exact wf

theorem Canonical.memberGives {s : State} {gid k : Nat} {b : List Byte} (wf : Canonical s) : Canonical (s.memberGives gid k b) := by
  unfold State.memberGives
  dsimp only
  split
  · exact Canonical.ite wf (Canonical.ite wf.stageFails (Canonical.ite wf.stageStart.swarmAbort (Canonical.ite wf.stageStart.setCur
      wf.stageStart.setCur.count).segmentDone))
  · exact wf

theorem Canonical.memberStep {s : State} {gid : Nat} (wf : Canonical s) : CanonicalFst (s.memberStep gid) := by
  unfold State.memberStep
  dsimp only
  split
  · exact CanonicalFst.mk wf
  · split
    · split
      · exact CanonicalFst.mk wf
      · split
        · refine CanonicalFst.ite (CanonicalFst.mk wf.setCur.memberPlaced) ?_
          split
          next _ eq => exact CanonicalFst.mk (CanonicalFst.of_eq eq wf.landing)
          next _ _ _ eq => exact CanonicalFst.mk (CanonicalFst.of_eq eq wf.landing).failDesc.drive
          next _ _ eq => exact CanonicalFst.mk (CanonicalFst.of_eq eq wf.landing).setCur.placeAt
        · refine CanonicalFst.ite (CanonicalFst.mk wf) ?_
          refine CanonicalFst.ite ?_ ?_
          · refine CanonicalFst.mk (Canonical.memberGives ?_)
            split
            · exact wf.setCur
            · exact wf
          · split
            next _ _ eq =>
              have wf' := CanonicalFst.of_eq eq wf.fetchLocal
              refine CanonicalFst.mk (Canonical.memberGives ?_)
              split
              · exact wf'.setCur
              · exact wf'
            next _ eq =>
              have wf' := CanonicalFst.of_eq eq wf.fetchLocal
              refine CanonicalFst.mk ?_
              split
              · exact wf'.setCur
              · exact wf'
            next _ eq => exact CanonicalFst.mk (CanonicalFst.of_eq eq wf.fetchLocal)
            next _ _ _ eq => exact CanonicalFst.mk (CanonicalFst.of_eq eq wf.fetchLocal).failDesc.drive
    · exact CanonicalFst.mk wf

theorem Canonical.memberTurn {s : State} (wf : Canonical s) : CanonicalFst s.memberTurn :=
  (CanonicalFst.mk wf).foldl (fun wf' => CanonicalFst.mk wf'.fst.memberStep.fst)

theorem Canonical.memberRun {f : Nat} {s : State} (wf : Canonical s) : Canonical (State.memberRun f s) := by
  induction f generalizing s with
  | zero => exact wf
  | succ f ih =>
    unfold State.memberRun
    split
    next _ eq => exact ih (CanonicalFst.of_eq eq wf.memberTurn)
    next _ eq => exact CanonicalFst.of_eq eq wf.memberTurn

/-! ### Swarm packets (R154, R164 to R169, R183, R184) -/

theorem Canonical.upCounted {s : State} {e : Epoch} {h : SwarmHeader} (wf : Canonical s) : Canonical (s.upCounted e h) := Canonical.ite wf wf.count

theorem Canonical.upCurrent {s : State} {gid : Nat} {f : Frond} {e : Epoch} {child port : Nat} {h : SwarmHeader} {b : List Byte} (wf : Canonical s) :
    Canonical (s.upCurrent gid f e child port h b) := by
  unfold State.upCurrent
  refine Canonical.ite wf.swarmAbort ?_
  refine Canonical.ite wf.stageFails ?_
  split
  · exact wf.swarmAbort
  · exact wf.stageStart.setFrond.upCounted.segmentDone

theorem Canonical.upNextEpoch {s : State} {gid : Nat} {f : Frond} {child port : Nat} {h : SwarmHeader} {b : List Byte} (wf : Canonical s) :
    Canonical (s.upNextEpoch gid f child port h b) := by
  unfold State.upNextEpoch
  dsimp only
  split
  · refine Canonical.ite wf.swarmAbort ?_
    refine Canonical.ite wf.stageFails ?_
    split
    · exact wf.swarmAbort
    · exact wf.stageStart.setFrond.upCounted.slotsShown
  · refine Canonical.ite wf.swarmAbort ?_
    refine Canonical.ite wf.swarmAbort ?_
    refine Canonical.ite wf.stageFails ?_
    split
    · exact wf.swarmAbort
    · exact wf.stageStart.setFrond.upCounted.slotsShown

theorem Canonical.upPacket {s : State} {gid : Nat} {f : Frond} {child port : Nat} {h : SwarmHeader} {b : List Byte} (wf : Canonical s) :
    CanonicalOpt (s.upPacket gid f child port h b) := by
  unfold State.upPacket
  dsimp only
  refine CanonicalOpt.ite (CanonicalOpt.some wf.swarmStray) ?_
  split
  · exact CanonicalOpt.ite (CanonicalOpt.ite CanonicalOpt.none (CanonicalOpt.some wf.upCurrent)) (CanonicalOpt.ite (CanonicalOpt.ite
      (CanonicalOpt.some wf.swarmAbort) (CanonicalOpt.ite CanonicalOpt.none (CanonicalOpt.some wf.upNextEpoch))) (CanonicalOpt.some wf.swarmStray))
  · exact CanonicalOpt.ite (CanonicalOpt.some wf.swarmStray) (CanonicalOpt.ite (CanonicalOpt.some wf.swarmAbort) (CanonicalOpt.ite (CanonicalOpt.some
      wf.swarmAbort) (CanonicalOpt.ite CanonicalOpt.none (CanonicalOpt.some wf.setFrond.slotsShown.upCurrent))))

theorem Canonical.downPacket {s : State} {gid : Nat} {f : Frond} {edge port : Nat} {h : SwarmHeader} {b : List Byte} (wf : Canonical s) :
    Canonical (s.downPacket gid f edge port h b) := by
  unfold State.downPacket
  split
  · exact Canonical.ite wf.swarmStray (Canonical.ite wf.swarmAbort (Canonical.ite wf.swarmAbort wf.deliver))
  · exact wf.swarmStray

theorem Canonical.abortPacket {s : State} {gid : Nat} {f : Frond} {edge port : Nat} {h : SwarmHeader} (wf : Canonical s) :
    Canonical (s.abortPacket gid f edge port h) :=
  Canonical.ite wf.setFrond wf.swarmAbort

theorem Canonical.badSwarm {s : State} {gid : Nat} {f : Frond} {port : Nat} {h : SwarmHeader} (wf : Canonical s) :
    Canonical (s.badSwarm gid f port h) :=
  Canonical.ite wf.swarmAbort wf.swarmStray

theorem Canonical.swarmPacket {s : State} {port : Nat} {h : SwarmHeader} {b : List Byte} (wf : Canonical s) :
    CanonicalOpt (s.swarmPacket port h b) := by
  unfold State.swarmPacket
  split
  · exact CanonicalOpt.some wf.swarmStray
  · split
    · exact CanonicalOpt.some wf.swarmStray
    · exact CanonicalOpt.ite (CanonicalOpt.some wf.swarmStray) (CanonicalOpt.ite (CanonicalOpt.some wf.badSwarm) (CanonicalOpt.ite wf.upPacket
        (CanonicalOpt.ite (CanonicalOpt.some wf.downPacket) (CanonicalOpt.some wf.abortPacket))))

theorem Canonical.upDrain {f : Nat} {s : State} (wf : Canonical s) : Canonical (State.upDrain f s) := by
  induction f generalizing s with
  | zero => exact wf
  | succ f ih =>
    unfold State.upDrain
    split
    · exact wf
    next p l _ =>
      dsimp only
      split
      next _ eq =>
        refine ih (Canonical.returnCredit (Canonical.frame (CanonicalOpt.of_eq eq ?_)))
        split
        · exact wf.swarmPacket
        · exact CanonicalOpt.some wf
      · exact wf

/-! ### What follows within a step -/

theorem Canonical.effects {f : Nat} {s : State} (wf : Canonical s) : Canonical (State.effects f s) := by
  induction f generalizing s with
  | zero => exact wf
  | succ f ih =>
    unfold State.effects
    split
    · exact wf
    · exact ih wf.frame
    · exact ih wf.frame.enterError
    · exact ih wf.frame.swarmAbort

theorem Canonical.round {s : State} (wf : Canonical s) : Canonical s.round :=
  (wf.effects.foldl (fun wf' => wf'.copyTaken)).upDrain.memberRun.andThen fun wf1 => (Canonical.ite wf1 wf1.drainPass).effects

theorem Canonical.rounds {f : Nat} {s : State} (wf : Canonical s) : Canonical (State.rounds f s) := by
  induction f generalizing s with
  | zero => exact wf
  | succ f ih => exact Canonical.ite wf (ih wf.round)

theorem Canonical.settle {s : State} (wf : Canonical s) : Canonical (settle s) := wf.rounds

end Sys2Proof.Machine


/-! PROOFS. The canonical forms are kept (O60): the commands of functions, doorbells and descriptors. Each lemma is about the
model function of its name. -/

namespace Sys2Proof.Machine

/-! ### The handshake (R42, R43) -/

theorem Canonical.abiGo {s : State} {fn : Nat} (wf : Canonical s) : Canonical (s.abiGo fn) :=
  Canonical.ite wf.wr.wr (Canonical.ite wf.wr.wr wf.setFunc.wr.wr.wr.wr)

/-! ### Submission and completion (R46) -/

theorem Canonical.cmdDone {s : State} {fn status result : Nat} (wf : Canonical s) : Canonical (s.cmdDone fn status result) := wf.wr.wr.wr.wr.setFunc

theorem Canonical.cmdGo {s : State} {fn : Nat} (wf : Canonical s) : Canonical (s.cmdGo fn) :=
  Canonical.ite wf.tally (Canonical.ite wf.wr.wr.setFunc.cmdDone wf.wr.wr.setFunc.newId.emit)

theorem Canonical.execCmdBlockReadDone {fn : Nat} {r : HostRes} {s : State} (wf : Canonical s) : Yields (execCmdBlockReadDone fn r s) := by
  unfold Machine.execCmdBlockReadDone
  dsimp only
  refine Yields.atPins wf ?_
  split
  · refine Yields.ite wf.ok ?_
    split
    · exact wf.linkLogs.cmdDone.ok
    · exact wf.linkLogs.cmdDone.ok
    · exact wf.linkLogs.cmdDone.ok
    · exact Yields.ite wf.linkLogs.cmdDone.ok (Yields.ite wf.linkLogs.cmdDone.ok wf.linkLogs.setFunc.ok)
  · exact wf.ok

theorem Canonical.runCmd {s : State} {fn cmd : Nat} {f : List Word → State} (wf : Canonical s) (run : ∀ {ws}, Canonical (f ws)) :
    Yields (s.runCmd fn cmd f) := by
  unfold State.runCmd
  split
  · exact run.settle.ok
  · exact wf.ok

/-! ### Protection domains, completion and event queues (R45, R46) -/

theorem Canonical.execCreatePd {fn : Nat} {s : State} (wf : Canonical s) : Yields (execCreatePd fn s) :=
  Yields.clocked wf (wf.runCmd (Canonical.ite wf.cmdDone (Canonical.ite wf.cmdDone (Canonical.ite wf.cmdDone wf.setFunc.cmdDone))))

theorem Canonical.execDestroyPd {fn : Nat} {s : State} (wf : Canonical s) : Yields (execDestroyPd fn s) :=
  Yields.clocked wf (wf.runCmd (Canonical.ite wf.cmdDone (Canonical.ite wf.cmdDone wf.setFunc.cmdDone)))

theorem Canonical.execCreateCq {fn : Nat} {s : State} (wf : Canonical s) : Yields (execCreateCq fn s) :=
  Yields.clocked wf (wf.runCmd (Canonical.ite wf.cmdDone (Canonical.ite wf.cmdDone wf.setFunc.cmdDone)))

theorem Canonical.execDestroyCq {fn : Nat} {s : State} (wf : Canonical s) : Yields (execDestroyCq fn s) :=
  Yields.clocked wf (wf.runCmd (Canonical.ite wf.cmdDone (Canonical.ite wf.cmdDone wf.setFunc.cmdDone)))

theorem Canonical.execCreateEq {fn : Nat} {s : State} (wf : Canonical s) : Yields (execCreateEq fn s) :=
  Yields.clocked wf (wf.runCmd (Canonical.ite wf.cmdDone (Canonical.ite wf.cmdDone wf.setFunc.cmdDone)))

/-! ### Queue pairs (R46, R60 to R65) -/

theorem Canonical.execCreateQp {fn qpn : Nat} {s : State} (wf : Canonical s) : Yields (execCreateQp fn qpn s) :=
  Yields.clocked wf (Yields.ite wf.ok (wf.runCmd (Canonical.ite wf.cmdDone (Canonical.ite wf.cmdDone (Canonical.ite wf.cmdDone
    wf.setFunc.setQp.touch.ctxShown.cmdDone)))))

theorem Canonical.runQpCmd {s : State} {fn cmd : Nat} {f : List Word → Nat → Qp → State} (wf : Canonical s)
    (run : ∀ {ws n q}, Canonical (f ws n q)) : Yields (s.runQpCmd fn cmd f) := by
  refine wf.runCmd ?_
  intro ws
  refine Canonical.ite wf.cmdDone ?_
  split
  · exact run
  · exact wf.cmdDone

theorem Canonical.runModify {s : State} {fn target : Nat} {f : List Word → Nat → Qp → State} (wf : Canonical s)
    (run : ∀ {ws n q}, Canonical (f ws n q)) : Yields (s.runModify fn target f) := by
  unfold State.runModify
  split
  · exact Yields.ite (wf.runQpCmd run) wf.ok
  · exact wf.ok

theorem Canonical.execModifyQpInit {fn : Nat} {s : State} (wf : Canonical s) : Yields (execModifyQpInit fn s) :=
  Yields.clocked wf (wf.runModify (Canonical.ite wf.setQp.cmdDone wf.cmdDone))

theorem Canonical.execModifyQpReady {fn : Nat} {s : State} (wf : Canonical s) : Yields (execModifyQpReady fn s) :=
  Yields.clocked wf (wf.runModify (Canonical.ite wf.cmdDone (Canonical.ite wf.cmdDone (Canonical.ite wf.cmdDone wf.setQp.cmdDone))))

theorem Canonical.execModifyQpPaused {fn : Nat} {s : State} (wf : Canonical s) : Yields (execModifyQpPaused fn s) :=
  Yields.clocked wf (wf.runModify (Canonical.ite wf.cmdDone (Canonical.ite wf.setQp.drainSq.cmdDone wf.cmdDone)))

theorem Canonical.execModifyQpError {fn : Nat} {s : State} (wf : Canonical s) : Yields (execModifyQpError fn s) :=
  Yields.clocked wf (wf.runModify (Canonical.ite wf.cmdDone wf.enterError.cmdDone))

theorem Canonical.stopHandler {s : State} {n : Nat} {call : Option Nat} (wf : Canonical s) : Canonical (s.stopHandler n call) := by
  unfold State.stopHandler
  dsimp only
  refine Canonical.foldl wf (fun wf' => ?_)
  split
  · exact wf'.maybe (·.setThread)
  · refine Canonical.ite ?_ wf'
    refine Canonical.modQp (Canonical.setThread ?_)
    refine Canonical.foldl wf' (fun wf'' => ?_)
    split
    · exact wf''.dropRef
    · exact wf''
  · exact wf'

theorem Canonical.beginReset {s : State} {n : Nat} (wf : Canonical s) : Canonical (s.beginReset n) := by
  unfold State.beginReset
  dsimp only
  split
  · exact wf
  · split
    · exact wf.stopTraffic.stopHandler
    · exact (wf.stopTraffic.stopHandler.setQp.flushRefs.dropPlacements.foldl (fun wf' => wf'.drive)).drainSq.flushRq

theorem Canonical.execModifyQpReset {fn : Nat} {s : State} (wf : Canonical s) : Yields (execModifyQpReset fn s) := by
  unfold Machine.execModifyQpReset
  dsimp only
  refine Yields.clocked wf ?_
  refine Canonical.runModify wf ?_
  intro _ _ _
  refine Canonical.ite wf.cmdDone ?_
  split
  · exact (Canonical.ite wf wf.beginReset).andThen fun wf1 => Canonical.ite wf1 wf1.frame.setQp.dropResults.matchShown.cmdDone
  · exact Canonical.ite wf wf.beginReset

theorem Canonical.orphanQp {s : State} {n : Nat} (wf : Canonical s) : Canonical (s.orphanQp n) := wf.forgetAccesses.frame

theorem Canonical.removeQp {s : State} {n : Nat} (wf : Canonical s) : Canonical (s.removeQp n) := by
  unfold State.removeQp
  dsimp only
  split
  · exact wf
  · exact (wf.stopTraffic.stopHandler.dropUnbinds.flushRefs.foldl (fun wf' => wf'.maybe
      (·.dropRef))).dropPlacements.orphanQp.setFunc.frame.matchShown.dropResults

theorem Canonical.execDestroyQp {fn : Nat} {s : State} (wf : Canonical s) : Yields (execDestroyQp fn s) :=
  Yields.clocked wf (wf.runQpCmd (Canonical.ite wf.removeQp.cmdDone wf.cmdDone))

theorem Canonical.execQueryQp {fn : Nat} {s : State} (wf : Canonical s) : Yields (execQueryQp fn s) := Yields.clocked wf (wf.runQpCmd wf.cmdDone)

/-! ### Regions and windows (R87 to R89) -/

theorem Canonical.execRegMr {fn : Nat} {s : State} (wf : Canonical s) : Yields (execRegMr fn s) := by
  unfold Machine.execRegMr
  dsimp only
  refine Yields.clocked wf ?_
  refine Canonical.runCmd wf ?_
  intro _
  refine Canonical.ite wf.cmdDone ?_
  refine Canonical.ite wf.cmdDone ?_
  refine Canonical.ite wf.cmdDone ?_
  refine Canonical.ite wf.cmdDone ?_
  split
  · exact wf.cmdDone
  · exact wf.newKey.cmdDone

theorem Canonical.waitForKey {s : State} {fn i : Nat} (wf : Canonical s) : Canonical (s.waitForKey fn i) := wf.setFunc

theorem Canonical.execDeregMr {fn : Nat} {s : State} (wf : Canonical s) : Yields (execDeregMr fn s) := by
  unfold Machine.execDeregMr
  dsimp only
  refine Yields.clocked wf ?_
  refine Canonical.runCmd wf ?_
  intro _
  refine Canonical.ite wf.cmdDone ?_
  split
  · exact wf.cmdDone
  · exact (Canonical.ite wf wf.revoke).setKey.andThen fun wf1 => Canonical.ite wf.cmdDone (Canonical.ite wf1.freeKey.cmdDone wf1.waitForKey)

theorem Canonical.execAllocWindow {fn : Nat} {s : State} (wf : Canonical s) : Yields (execAllocWindow fn s) := by
  unfold Machine.execAllocWindow
  dsimp only
  refine Yields.clocked wf ?_
  refine Canonical.runCmd wf ?_
  intro _
  refine Canonical.ite wf.cmdDone ?_
  refine Canonical.ite wf.cmdDone ?_
  refine Canonical.ite wf.cmdDone ?_
  split
  · exact wf.cmdDone
  · exact wf.newKey.cmdDone

theorem Canonical.execFreeWindow {fn : Nat} {s : State} (wf : Canonical s) : Yields (execFreeWindow fn s) := by
  unfold Machine.execFreeWindow
  dsimp only
  refine Yields.clocked wf ?_
  refine Canonical.runCmd wf ?_
  intro _
  refine Canonical.ite wf.cmdDone ?_
  split
  · exact wf.cmdDone
  · exact Canonical.ite wf.cmdDone wf.setKey.freeKey.cmdDone

/-! ### Handlers (R145, R350 to R352) -/

theorem Canonical.execRegHandler {fn : Nat} {image : HostRes} {s : State} (wf : Canonical s) : Yields (execRegHandler fn image s) := by
  unfold Machine.execRegHandler
  dsimp only
  refine Yields.clocked wf ?_
  refine Canonical.runCmd wf ?_
  intro _
  refine Canonical.ite wf.cmdDone ?_
  refine Canonical.ite wf.cmdDone ?_
  refine Canonical.ite wf.cmdDone ?_
  split
  next _ eq => exact (CanonicalFst.of_eq eq wf.translate)
  next _ _ _ eq => exact (CanonicalFst.of_eq eq wf.translate).cmdDone
  next _ _ _ _ eq =>
    have wf' := CanonicalFst.of_eq eq wf.translate
    split
    · exact (wf'.newId.foldl (fun wf'' => wf''.emit)).linkLogs.cmdDone
    · exact (wf'.newId.foldl (fun wf'' => wf''.emit)).linkLogs.cmdDone
    · exact (wf'.newId.foldl (fun wf'' => wf''.emit)).linkLogs.cmdDone
    · split
      · exact (wf'.newId.foldl (fun wf'' => wf''.emit)).linkLogs.cmdDone
      · exact (wf'.newId.foldl (fun wf'' => wf''.emit)).linkLogs.takeFree.setFunc.frame.cmdDone

theorem Canonical.execDeregHandler {fn : Nat} {s : State} (wf : Canonical s) : Yields (execDeregHandler fn s) :=
  Yields.clocked wf (wf.runCmd (Canonical.ite wf.cmdDone (Canonical.ite wf.cmdDone wf.setFunc.frame.cmdDone)))

/-! ### Shapers and policers (R293, R296) -/

theorem Canonical.execSetShaper {fn : Nat} {s : State} (wf : Canonical s) : Yields (execSetShaper fn s) :=
  Yields.clocked wf (wf.runQpCmd (Canonical.ite wf.cmdDone (Canonical.ite wf.cmdDone wf.setQp.cmdDone)))

theorem Canonical.execSetPolicer {fn : Nat} {s : State} (wf : Canonical s) : Yields (execSetPolicer fn s) := by
  unfold Machine.execSetPolicer
  dsimp only
  refine Yields.clocked wf ?_
  refine Canonical.runCmd wf ?_
  intro _
  refine Canonical.ite wf.cmdDone ?_
  refine Canonical.ite wf.cmdDone ?_
  split
  · exact wf.cmdDone
  · exact wf.setFunc.cmdDone

/-! ### Invalidation (R398, R399) -/

theorem Canonical.invalidate {s : State} {fn ctx va n : Nat} {whole : Bool} (wf : Canonical s) : Canonical (s.invalidate fn ctx va n whole) :=
  (Canonical.ite wf.awaitHolders.discardContext wf.awaitHolders.discardRange).andThen fun wf1 => Canonical.ite wf1.cmdDone wf1.setFunc

theorem Canonical.execInvXltContext {fn : Nat} {s : State} (wf : Canonical s) : Yields (execInvXltContext fn s) := by
  unfold Machine.execInvXltContext
  refine Yields.clocked wf ?_
  split
  · refine Yields.ite wf.ok ?_
    refine Canonical.runCmd wf ?_
    intro _
    refine Canonical.ite wf.cmdDone ?_
    split
    · exact wf.invalidate
    · exact wf.cmdDone
  · exact wf.ok

theorem Canonical.execInvXltRange {fn : Nat} {s : State} (wf : Canonical s) : Yields (execInvXltRange fn s) := by
  unfold Machine.execInvXltRange
  dsimp only
  refine Yields.clocked wf ?_
  split
  · refine Yields.ite wf.ok ?_
    refine Canonical.runCmd wf ?_
    intro _
    refine Canonical.ite wf.cmdDone ?_
    split
    · exact wf.invalidate
    · exact wf.cmdDone
  · exact wf.ok

theorem Canonical.execXltInvalidationDrain {fn : Nat} {s : State} (wf : Canonical s) : Yields (execXltInvalidationDrain fn s) := by
  unfold Machine.execXltInvalidationDrain
  refine Yields.clocked wf ?_
  split
  · exact Yields.ite wf.cmdDone.ok wf.ok
  · exact wf.ok

theorem Canonical.execCommandTimeExpiry {fn : Nat} {s : State} (wf : Canonical s) : Yields (execCommandTimeExpiry fn s) := by
  unfold Machine.execCommandTimeExpiry
  refine Yields.clocked wf ?_
  split
  · exact Yields.ite wf.cmdDone.ok (Yields.ite wf.cmdDone.ok (Yields.ite wf.forgetAccesses.cmdDone.ok (Yields.ite wf.cmdDone.ok wf.ok)))
  · exact wf.ok

/-! ### Doorbells (R42, R47, R48, R57, R58, R493) -/

theorem Canonical.doorbellIgnored {s : State} {fn : Nat} (wf : Canonical s) : Canonical (s.doorbellIgnored fn) := wf.tally

theorem Canonical.sendBell {s : State} {fn q size : Nat} {v : Word} (wf : Canonical s) : Yields (s.sendBell fn q size v) := by
  cases known : s.doorbellQp fn q size with
  | none =>
    rw [State.sendBell, known]
    exact wf.doorbellIgnored.ok
  | some p =>
    rw [sendBell_known known]
    cases judgeProducer p.2.sqProd p.2.sqRead (2 ^ p.2.sqLog) (v.toNat % 2 ^ 32) with
    | ignored => exact Yields.next wf
    | visible n => exact Yields.next wf.setQp
    | overrun => exact Yields.next wf.enterError.settle

theorem Canonical.postedFullEvents {s : State} (wf : Canonical s) : Canonical s.postedFullEvents := by
  unfold State.postedFullEvents
  refine Canonical.foldl wf (fun wf' => ?_)
  split
  · exact wf'.maybe (·.setQp.qevent)
  · exact wf'

theorem Canonical.postingOpens {s : State} (wf : Canonical s) : Canonical s.postingOpens := wf.frame

theorem Canonical.recvBell {s : State} {fn q size : Nat} {v : Word} (wf : Canonical s) : Yields (s.recvBell fn q size v) := by
  unfold State.recvBell
  split
  · exact wf.doorbellIgnored.ok
  · refine Yields.ite wf.doorbellIgnored.ok ?_
    split
    · exact wf.ok
    · exact (wf.setQp.maybe (·.postedFullEvents)).settle.ok
    · exact wf.enterError.settle.ok

theorem Canonical.cqBell {s : State} {fn c size : Nat} {v : Word} (wf : Canonical s) : Yields (s.cqBell fn c size v) := by
  unfold State.cqBell
  dsimp only
  split
  · exact wf.doorbellIgnored.ok
  · exact Yields.ite wf.doorbellIgnored.ok (wf.setFunc.maybe (·.msix.fst)).ok

theorem Canonical.eqBell {s : State} {fn size : Nat} {v : Word} (wf : Canonical s) : Yields (s.eqBell fn size v) := by
  unfold State.eqBell
  dsimp only
  split
  · exact wf.doorbellIgnored.ok
  · exact Yields.ite wf.doorbellIgnored.ok wf.setFunc.ok

theorem Canonical.bar2Write {s : State} {fn off size : Nat} {v : Word} (wf : Canonical s) : Yields (s.bar2Write fn off size v) := by
  unfold State.bar2Write
  split
  · exact wf.sendBell
  · exact wf.recvBell
  · exact wf.cqBell
  · exact wf.eqBell
  · exact wf.doorbellIgnored.ok

theorem Canonical.execSendDoorbell {fn q size : Nat} {v : Word} {s : State} (wf : Canonical s) : Yields (execSendDoorbell fn q size v s) :=
  Yields.atPins wf wf.bar2Write

theorem Canonical.execRecvDoorbell {fn q size : Nat} {v : Word} {s : State} (wf : Canonical s) : Yields (execRecvDoorbell fn q size v s) :=
  Yields.atPins wf wf.bar2Write

theorem Canonical.execCqDoorbell {fn c size : Nat} {v : Word} {s : State} (wf : Canonical s) : Yields (execCqDoorbell fn c size v s) :=
  Yields.atPins wf wf.bar2Write

theorem Canonical.execEqDoorbell {fn size : Nat} {v : Word} {s : State} (wf : Canonical s) : Yields (execEqDoorbell fn size v s) :=
  Yields.atPins wf wf.bar2Write

/-! ### Descriptor reads (R44, R49 to R54, R115, R146, R155) -/

theorem Canonical.postRecord {s : State} {n : Nat} {q : Qp} {recv : Bool} {count : Nat} (wf : Canonical s) :
    Canonical (s.postRecord n q recv count) :=
  wf.post

theorem Canonical.readFails {s : State} {n status : Nat} (wf : Canonical s) : Canonical (s.readFails n status) := wf.modQp.enterError

theorem Canonical.readDesc {s : State} {n : Nat} {q : Qp} {recv : Bool} {a : Nat} {r : HostRes} {take : State → List Word → State}
    (wf : Canonical s) (go : ∀ {u ws}, Canonical u → Canonical (take u ws)) : Canonical (s.readDesc n q recv a r take) := by
  unfold State.readDesc
  split
  next _ eq => exact CanonicalFst.of_eq eq wf.translate
  next _ _ _ eq => exact (CanonicalFst.of_eq eq wf.translate).readFails
  next _ _ _ _ eq =>
    dsimp only
    generalize sent : List.foldl _ _ _ = u
    have wf' : Canonical u := sent ▸ (CanonicalFst.of_eq eq wf.translate).newId.foldl fun wf' => wf'.emit
    split
    · exact wf'.readFails
    · exact wf'.linkLogs.readFails
    · exact wf'.linkLogs.readFails
    · exact go wf'.count.count

theorem Canonical.execSendDescriptorRead {fn q : Nat} {r : HostRes} {s : State} (wf : Canonical s) : Yields (execSendDescriptorRead fn q r s) := by
  unfold Machine.execSendDescriptorRead
  dsimp only
  refine Yields.atPins wf ?_
  split
  · exact wf.ok
  · exact Yields.ite wf.ok (wf.readDesc (fun wf' => Canonical.ite wf'.modQp.postRecord.drainSq (Canonical.ite wf'.modQp.postRecord.failDesc
      wf'.modQp.postRecord.needPeer.peerWait))).settle.ok

theorem Canonical.execRecvDescriptorRead {fn q : Nat} {r : HostRes} {s : State} (wf : Canonical s) : Yields (execRecvDescriptorRead fn q r s) := by
  unfold Machine.execRecvDescriptorRead
  refine Yields.atPins wf ?_
  split
  · exact wf.ok
  · refine Yields.ite wf.ok (Yields.ite wf.postedFullEvents.settle.ok ?_)
    refine Canonical.ok (Canonical.settle (Canonical.readDesc wf (fun wf' => ?_)))
    extract_lets rv opened mt counted add flushed
    have posted {v : Recv} : Canonical (add counted v) := (Canonical.ite wf' wf'.postingOpens).frame.modQp.postRecord
    have flush : Canonical flushed := posted
    clear_value flushed add
    refine Canonical.ite (Canonical.ite flush flush.modQp.drainRq) (Canonical.ite posted.failRecv ?_)
    split
    · exact posted.failRecv
    · split
      · exact posted.failRecv
      · exact posted.pumpQp

theorem Canonical.execRecvTagged {fn q : Nat} {s : State} (wf : Canonical s) : Yields (execRecvTagged fn q s) := by
  unfold Machine.execRecvTagged
  dsimp only
  refine Yields.clocked wf ?_
  split
  · exact wf.ok
  · split
    · exact wf.ok
    · refine Yields.ite wf.ok ?_
      refine Yields.ite wf.finishRecv.settle.ok ?_
      split
      · exact Yields.ite wf.ok wf.matchOp.takeRecord.settle.ok
      · exact (wf.matchOp.modRecv.post1.matchShown.maybe (·.postedFullEvents)).settle.ok

/-! ### Send descriptors (R51, R63, R91) -/

theorem Canonical.runSend {s : State} {fn q op : Nat} {f : Nat → Qp → Desc → State} (wf : Canonical s) (run : ∀ {n x d}, Canonical (f n x d)) :
    Yields (s.runSend fn q op f) := by
  unfold State.runSend
  split
  · exact wf.ok
  · split
    · exact run.peerWait.settle.ok
    · exact wf.ok

theorem Canonical.execNop {fn q : Nat} {s : State} (wf : Canonical s) : Yields (execNop fn q s) := Yields.clocked wf (wf.runSend wf.finishDesc)

theorem Canonical.execPut {fn q : Nat} {s : State} (wf : Canonical s) : Yields (execPut fn q s) := Yields.clocked wf (wf.runSend wf.startTransfer)

theorem Canonical.execGet {fn q : Nat} {s : State} (wf : Canonical s) : Yields (execGet fn q s) := by
  unfold Machine.execGet
  refine Yields.clocked wf ?_
  refine Canonical.runSend wf ?_
  intro _ _ _
  refine Canonical.ite ?_ wf.startTransfer
  split
  · exact wf.failDesc
  · exact wf.finishDesc

theorem Canonical.startAtomic {s : State} {n : Nat} {x : Qp} {d : Desc} (wf : Canonical s) : Canonical (s.startAtomic n x d) := wf.startTransfer

theorem Canonical.execAtomicFadd {fn q : Nat} {s : State} (wf : Canonical s) : Yields (execAtomicFadd fn q s) :=
  Yields.clocked wf (wf.runSend wf.startAtomic)

theorem Canonical.execAtomicCswap {fn q : Nat} {s : State} (wf : Canonical s) : Yields (execAtomicCswap fn q s) :=
  Yields.clocked wf (wf.runSend wf.startAtomic)

theorem Canonical.execAtomicSwap {fn q : Nat} {s : State} (wf : Canonical s) : Yields (execAtomicSwap fn q s) :=
  Yields.clocked wf (wf.runSend wf.startAtomic)

theorem Canonical.execAtomicAnd {fn q : Nat} {s : State} (wf : Canonical s) : Yields (execAtomicAnd fn q s) :=
  Yields.clocked wf (wf.runSend wf.startAtomic)

theorem Canonical.execAtomicOr {fn q : Nat} {s : State} (wf : Canonical s) : Yields (execAtomicOr fn q s) :=
  Yields.clocked wf (wf.runSend wf.startAtomic)

theorem Canonical.execAtomicXor {fn q : Nat} {s : State} (wf : Canonical s) : Yields (execAtomicXor fn q s) :=
  Yields.clocked wf (wf.runSend wf.startAtomic)

theorem Canonical.execAtomicSmin {fn q : Nat} {s : State} (wf : Canonical s) : Yields (execAtomicSmin fn q s) :=
  Yields.clocked wf (wf.runSend wf.startAtomic)

theorem Canonical.execAtomicSmax {fn q : Nat} {s : State} (wf : Canonical s) : Yields (execAtomicSmax fn q s) :=
  Yields.clocked wf (wf.runSend wf.startAtomic)

theorem Canonical.execSendTagged {fn q : Nat} {s : State} (wf : Canonical s) : Yields (execSendTagged fn q s) :=
  Yields.clocked wf (wf.runSend wf.startTagged)

theorem Canonical.execBindWindow {fn q : Nat} {s : State} (wf : Canonical s) : Yields (execBindWindow fn q s) :=
  Yields.clocked wf (wf.runSend wf.bindWindow)

theorem Canonical.execUnbindWindow {fn q : Nat} {s : State} (wf : Canonical s) : Yields (execUnbindWindow fn q s) :=
  Yields.clocked wf (wf.runSend wf.unbindWindow)

/-! ### Packet building and the shaper (R73, R290) -/

theorem Canonical.execSendPacketBuild {fn q : Nat} {s : State} (wf : Canonical s) : Yields (execSendPacketBuild fn q s) := by
  unfold Machine.execSendPacketBuild
  refine Yields.clocked wf ?_
  split
  · exact wf.sendStep.settle.ok
  · exact wf.ok

theorem Canonical.execShaperRelease {fn q : Nat} {s : State} (wf : Canonical s) : Yields (execShaperRelease fn q s) := by
  unfold Machine.execShaperRelease
  dsimp only
  refine Yields.clocked wf ?_
  split
  · exact wf.ok
  · split
    · exact wf.ok
    · exact Yields.ite wf.setQp.launch.settle.ok (Yields.ite wf.setQp.launch.settle.ok wf.setQp.ok)

/-! ### Per-peer states (R61, R62) -/

theorem Canonical.execPeerStateFreed {fn q : Nat} {s : State} (wf : Canonical s) : Yields (execPeerStateFreed fn q s) := by
  unfold Machine.execPeerStateFreed
  refine Yields.clocked wf ?_
  split
  · exact wf.ok
  · split
    · exact wf.needPeer.peerWait.settle.ok
    · exact wf.ok

theorem Canonical.execContextWaitDeadline {fn q : Nat} {s : State} (wf : Canonical s) : Yields (execContextWaitDeadline fn q s) := by
  unfold Machine.execContextWaitDeadline
  refine Yields.clocked wf ?_
  split
  · exact wf.ok
  · split
    · exact Yields.ite wf.failDesc.settle.ok wf.ok
    · exact wf.ok

theorem Canonical.execSeStateIdleExpiry {qpn peerEid peerQpn : Nat} {s : State} (wf : Canonical s) :
    Yields (execSeStateIdleExpiry qpn peerEid peerQpn s) := by
  unfold Machine.execSeStateIdleExpiry
  dsimp only
  refine Yields.clocked wf ?_
  split
  · exact Yields.ite wf.setQp.dropResults.ok wf.ok
  · exact wf.ok

/-! ### Timers of request packets (R69, R70, R76, R134, R135, R140) -/

theorem Canonical.execRetransmitTimeout {qpn peerEid peerQpn psn : Nat} {s : State} (wf : Canonical s) :
    Yields (execRetransmitTimeout qpn peerEid peerQpn psn s) := by
  unfold Machine.execRetransmitTimeout
  dsimp only
  refine Yields.clocked wf ?_
  split
  · refine Yields.ite wf.ok ?_
    refine Yields.ite wf.failTrack.settle.ok ?_
    split
    next _ eq => exact (CanonicalFst.of_eq eq wf.resend).settle.ok
    next _ eq => exact (CanonicalFst.of_eq eq wf.resend).modTrack.count.settle.ok
  · exact wf.ok

theorem Canonical.resendHeld {s : State} {n k psn : Nat} (wf : Canonical s) : Canonical (s.resendHeld n k psn) := by
  unfold State.resendHeld
  split
  next _ eq => exact (CanonicalFst.of_eq eq wf.resend).modTrack
  next _ eq => exact (CanonicalFst.of_eq eq wf.resend)

theorem Canonical.execStateMissHintExpiry {qpn peerEid peerQpn psn : Nat} {s : State} (wf : Canonical s) :
    Yields (execStateMissHintExpiry qpn peerEid peerQpn psn s) := by
  unfold Machine.execStateMissHintExpiry
  dsimp only
  refine Yields.clocked wf ?_
  split
  · exact Yields.ite wf.resendHeld.settle.ok wf.ok
  · exact wf.ok

theorem Canonical.execStateMissDeadline {qpn peerEid peerQpn psn : Nat} {s : State} (wf : Canonical s) :
    Yields (execStateMissDeadline qpn peerEid peerQpn psn s) := by
  unfold Machine.execStateMissDeadline
  refine Yields.clocked wf ?_
  split
  · exact Yields.ite wf.failTrack.settle.ok wf.ok
  · exact wf.ok

theorem Canonical.execFullHintExpiry {qpn peerEid peerQpn : Nat} {s : State} (wf : Canonical s) :
    Yields (execFullHintExpiry qpn peerEid peerQpn s) := by
  unfold Machine.execFullHintExpiry
  dsimp only
  refine Yields.clocked wf ?_
  split
  · exact (wf.foldl (fun wf' => wf'.resendHeld)).settle.ok
  · exact wf.ok

theorem Canonical.execReceiverFullDeadline {qpn peerEid peerQpn psn : Nat} {s : State} (wf : Canonical s) :
    Yields (execReceiverFullDeadline qpn peerEid peerQpn psn s) := by
  unfold Machine.execReceiverFullDeadline
  refine Yields.clocked wf ?_
  split
  · exact Yields.ite wf.failTrack.settle.ok wf.ok
  · exact wf.ok

theorem Canonical.execRndvWaitExpiry {qpn peerEid peerQpn psn : Nat} {s : State} (wf : Canonical s) :
    Yields (execRndvWaitExpiry qpn peerEid peerQpn psn s) := by
  unfold Machine.execRndvWaitExpiry
  refine Yields.clocked wf ?_
  split
  · split
    · exact Yields.ite wf.failDesc.settle.ok wf.ok
    · exact wf.ok
  · exact wf.ok

end Sys2Proof.Machine


/-! PROOFS. The canonical forms are kept (O60): placements, host data and walks, and the forager threads. Each lemma is about the
model function of its name. -/

namespace Sys2Proof.Machine

/-! ### Arriving packets -/

theorem Canonical.tagPlaced {t s : State} {tag : Option Nat} (wf : Canonical t) : CanonicalFst (t.tagPlaced s tag) := by
  unfold State.tagPlaced
  dsimp only
  split
  · exact CanonicalFst.mk wf.frame
  · exact CanonicalFst.mk wf

theorem Canonical.runPacket {s : State} {port : Nat} {p : Packet} {row : Nat → Bool} (wf : Canonical s) : Yields (s.runPacket port p row) := by
  unfold State.runPacket
  dsimp only
  split
  · exact Yields.ite wf.ok (Yields.ite wf.stamp.stamp.stamp.rxPacket.settle.ok
      (Yields.ite wf.stamp.stamp.stamp.rxPacket.frame.tagPlaced.fst.settle.ok
      wf.stamp.stamp.stamp.rxPacket.frame.tagPlaced.fst.settle.stamp.endTag.ok))
  · exact wf.ok

theorem Canonical.execWtPut {port : Nat} {p : Packet} {s : State} (wf : Canonical s) : Yields (execWtPut port p s) := Yields.clocked wf wf.runPacket

theorem Canonical.execGetReq {port : Nat} {p : Packet} {s : State} (wf : Canonical s) : Yields (execGetReq port p s) := Yields.clocked wf wf.runPacket

theorem Canonical.execGetResp {port : Nat} {p : Packet} {s : State} (wf : Canonical s) : Yields (execGetResp port p s) :=
  Yields.clocked wf wf.runPacket

theorem Canonical.execAtomicReq {port : Nat} {p : Packet} {s : State} (wf : Canonical s) : Yields (execAtomicReq port p s) :=
  Yields.clocked wf wf.runPacket

theorem Canonical.execAtomicResp {port : Nat} {p : Packet} {s : State} (wf : Canonical s) : Yields (execAtomicResp port p s) :=
  Yields.clocked wf wf.runPacket

theorem Canonical.execAck {port : Nat} {p : Packet} {s : State} (wf : Canonical s) : Yields (execAck port p s) := Yields.clocked wf wf.runPacket

theorem Canonical.execNak {port : Nat} {p : Packet} {s : State} (wf : Canonical s) : Yields (execNak port p s) := Yields.clocked wf wf.runPacket

theorem Canonical.execEager {port : Nat} {p : Packet} {s : State} (wf : Canonical s) : Yields (execEager port p s) := Yields.clocked wf wf.runPacket

theorem Canonical.execRts {port : Nat} {p : Packet} {s : State} (wf : Canonical s) : Yields (execRts port p s) := Yields.clocked wf wf.runPacket

theorem Canonical.execFin {port : Nat} {p : Packet} {s : State} (wf : Canonical s) : Yields (execFin port p s) := Yields.clocked wf wf.runPacket

theorem Canonical.execContextFetchDone {qpn peerEid peerQpn : Nat} {uncorrected : Bool} {s : State} (wf : Canonical s) :
    Yields (execContextFetchDone qpn peerEid peerQpn uncorrected s) := by
  unfold Machine.execContextFetchDone
  dsimp only
  refine Yields.clocked wf ?_
  split
  · refine Yields.ite wf.ok ?_
    refine Yields.ite ?_ ?_
    · refine Canonical.ok (Canonical.settle ?_)
      refine Canonical.foldl wf.setQp.raise (fun wf' => ?_)
      refine Canonical.unwait ?_
      split
      · exact wf'.nak
      · exact wf'
    · refine Canonical.ok (Canonical.settle (Canonical.pump ?_))
      refine Canonical.foldl wf.setQp.touch (fun wf' => ?_)
      split
      · exact Canonical.ite wf' wf'.cacheKey
      · exact wf'
  · exact wf.ok

/-! ### Timers of the responder (R75, R78) -/

theorem Canonical.execAckDelayExpiry {qpn peerEid peerQpn : Nat} {s : State} (wf : Canonical s) :
    Yields (execAckDelayExpiry qpn peerEid peerQpn s) := by
  unfold Machine.execAckDelayExpiry
  dsimp only
  refine Yields.clocked wf ?_
  split
  · exact Yields.ite wf.sendAck.ok wf.ok
  · exact wf.ok

theorem Canonical.execResultHoldExpiry {qpn peerEid peerQpn psn : Nat} {s : State} (wf : Canonical s) :
    Yields (execResultHoldExpiry qpn peerEid peerQpn psn s) :=
  Yields.clocked wf wf.frame.ctxShown.ok

/-! ### Placements (R75, R97, R109, R131, R137, R161) -/

theorem Canonical.placedPsn {s : State} {n k psn : Nat} (wf : Canonical s) : Canonical (s.placedPsn n k psn) := wf.modConn

theorem Canonical.execPlacementIssued {id : Nat} {s : State} (wf : Canonical s) : Yields (execPlacementIssued id s) := by
  unfold Machine.execPlacementIssued
  refine Yields.clocked wf ?_
  split
  · exact wf.ok
  · refine Yields.ite wf.ok ?_
    extract_lets issued stamped tp gone dropped
    have wf' : Canonical dropped := by
      have wf' : Canonical gone := wf.issue.stamp.stamp.endTag.frame
      dsimp only [dropped]
      split
      · exact wf'.dropRef
      · exact wf'
    clear_value dropped
    refine Canonical.ok (Canonical.settle ?_)
    split
    · exact wf'.placedPsn.noteRequest
    · exact wf'.modDesc.checkDone
    · exact wf'.modRecv.fetchDone
    · exact wf'.placedPsn.modRecv.noteRequest.eagerDone
    · exact wf'.modRecv.freeRecord.eagerDone
    · exact wf'.memberPlaced

/-! ### Host reads and atomics (R97, R102, R109, R492) -/

theorem Canonical.sourceReturn {s : State} {n id off key : Nat} {r : HostRes} {len : Nat} (wf : Canonical s) :
    Canonical (s.sourceReturn n id off key r len) := by
  unfold State.sourceReturn
  dsimp only
  split
  · refine Canonical.ite wf.modDesc.dropRef ?_
    split
    · exact wf.modDesc.modDesc
    · exact wf.modDesc.failDesc
    · exact wf.modDesc.failDesc
    · exact wf.modDesc.failDesc
  · exact wf.dropRef

theorem Canonical.execHostReadDataReturn {id : Nat} {r : HostRes} {s : State} (wf : Canonical s) :
    Yields (Machine.execHostReadDataReturn id r s) := by
  unfold Machine.execHostReadDataReturn
  refine Yields.atPins wf ?_
  split
  · exact wf.ok
  next x _ =>
    extract_lets tp s1 s2
    have wf2 : Canonical s2 := by
      dsimp only [s2]
      split
      · exact (Canonical.frame wf).count
      · exact (Canonical.frame wf).linkLogs
    clear_value s2
    refine Canonical.ok (Canonical.settle ?_)
    split
    · exact wf2.sourceReturn
    · dsimp only
      split
      · exact wf2.dropRef.launch
      · exact wf2.dropRef.failTrack
      · exact wf2.dropRef
    · split
      · split
        · exact wf2.dropRef.maybe (·.sendResponses)
        · exact wf2.dropRef
      · exact wf2.dropRef.lateNak
    · split
      · exact wf2.memberGives
      · split
        · split
          · exact wf2.failDesc.drive
          · exact wf2
        · exact wf2

theorem Canonical.atomicCas {s : State} {id : Nat} {a : AtomicOp} {seen tries : Nat} (wf : Canonical s) : Canonical (s.atomicCas id a seen tries) :=
  wf.frame.emit.count

theorem Canonical.execHostAtomicResponse {id : Nat} {r : HostRes} {s : State} (wf : Canonical s) : Yields (execHostAtomicResponse id r s) := by
  unfold Machine.execHostAtomicResponse
  dsimp only
  refine Yields.atPins wf ?_
  split
  · exact wf.ok
  · refine Yields.ite wf.ok ?_
    split
    · exact Yields.ite wf.count.atomicDone.settle.ok (Yields.ite wf.count.atomicCas.ok (Yields.ite wf.count.atomicFails.settle.ok
        wf.count.atomicCas.ok))
    · exact wf.atomicFails.settle.ok
    · exact wf.linkLogs.atomicFails.settle.ok
    · exact wf.linkLogs.atomicFails.settle.ok

theorem Canonical.countAtomic {s : State} {a : Nat} {o : Owner} (wf : Canonical s) : Canonical (s.countAtomic a o) :=
  wf.takeFree.count.maybe (·.count)

theorem Canonical.execStoreAtomicDone {id : Nat} {s : State} (wf : Canonical s) : Yields (execStoreAtomicDone id s) := by
  unfold Machine.execStoreAtomicDone
  dsimp only
  refine Yields.clocked wf ?_
  split
  · exact wf.ok
  · exact Yields.ite wf.ok (Yields.ite wf.reportPoison.atomicFails.settle.ok wf.storeCorrects.commit.countAtomic.atomicDone.settle.ok)

/-! ### Drains (R89, R93, R111, R112) -/

theorem Canonical.execKeyDrainComplete {idx : Nat} {s : State} (wf : Canonical s) : Yields (execKeyDrainComplete idx s) := by
  unfold Machine.execKeyDrainComplete
  dsimp only
  refine Yields.clocked wf ?_
  refine Yields.ite wf.ok ?_
  split
  · exact wf.freeKey.cmdDone.settle.ok
  · refine Yields.ite wf.drainEnds.ok ?_
    refine Canonical.ok (Canonical.settle ?_)
    refine Canonical.foldl wf.drainEnds (fun wf' => ?_)
    split
    · exact wf'.maybe (·.finishDesc)
    · exact wf'

theorem Canonical.execKeyDrainStall {idx : Nat} {s : State} (wf : Canonical s) : Yields (execKeyDrainStall idx s) :=
  Yields.clocked wf (Yields.ite wf.setKey.raise.ok wf.ok)

/-! ### CXL.mem (R107, R108) -/

theorem Canonical.execCxlMemRead {link addr : Nat} {s : State} (wf : Canonical s) : Yields (execCxlMemRead link addr s) :=
  Yields.atPins wf wf.cxlServe.ok

theorem Canonical.execCxlMemWrite {link addr : Nat} {bytes : List (Option Byte)} {s : State} (wf : Canonical s) :
    Yields (execCxlMemWrite link addr bytes s) :=
  Yields.atPins wf wf.cxlServe.ok

/-! ### Matching's events (R124, R129) -/

theorem Canonical.execPostingResume {s : State} (wf : Canonical s) : Yields (execPostingResume s) :=
  Yields.clocked wf (Canonical.ite wf wf.postingOpens).ok

theorem Canonical.execPoolResizeApply {s : State} (wf : Canonical s) : Yields (execPoolResizeApply s) :=
  Yields.clocked wf (Yields.ite wf.frame.wr.ok wf.ok)

/-! ### Handlers (R147, R148, R314, R320, R346) -/

theorem Canonical.execHandlerStart {fn q t : Nat} {s : State} (wf : Canonical s) : Yields (execHandlerStart fn q t s) := by
  unfold Machine.execHandlerStart
  dsimp only
  refine Yields.clocked wf ?_
  refine Yields.ite wf.ok ?_
  split
  · exact wf.ok
  · split
    · exact wf.ok
    · split
      · exact wf.ok
      · exact Yields.ite wf.ok wf.sramWrite.clearResv.setThread.modQp.tally.ok

/-! ### Walks (R387 to R393) -/

theorem Canonical.execWalkReadResponse {id : Nat} {r : HostRes} {s : State} (wf : Canonical s) : Yields (execWalkReadResponse id r s) := by
  unfold Machine.execWalkReadResponse
  refine Yields.atPins wf ?_
  split
  · refine Yields.ite wf.ok ?_
    split
    · exact wf.count.judge.pumpAll.settle.ok
    · exact wf.walkFails.pumpAll.settle.ok
    · exact wf.linkLogs.walkFails.pumpAll.settle.ok
    · exact wf.linkLogs.walkFails.pumpAll.settle.ok
  · exact wf.ok

theorem Canonical.execAdCasResponse {id : Nat} {r : HostRes} {s : State} (wf : Canonical s) : Yields (execAdCasResponse id r s) := by
  unfold Machine.execAdCasResponse
  dsimp only
  refine Yields.atPins wf ?_
  split
  · split
    · exact Yields.ite wf.count.walkEnds.pumpAll.settle.ok (Yields.ite wf.count.tally.frame.xlShown.walkFails.pumpAll.settle.ok
        wf.count.tally.frame.xlShown.walkRead.pumpAll.settle.ok)
    · exact wf.walkFails.pumpAll.settle.ok
    · exact wf.linkLogs.walkFails.pumpAll.settle.ok
    · exact wf.linkLogs.walkFails.pumpAll.settle.ok
    · exact wf.ok
  · exact wf.ok

theorem Canonical.execWalkTimeout {id : Nat} {s : State} (wf : Canonical s) : Yields (execWalkTimeout id s) := by
  unfold Machine.execWalkTimeout
  refine Yields.clocked wf ?_
  split
  · exact wf.walkFails.pumpAll.settle.ok
  · exact wf.ok

theorem Canonical.execPrefetchWalk {fn va : Nat} {s : State} (wf : Canonical s) : Yields (execPrefetchWalk fn va s) :=
  Yields.clocked wf (Yields.ite wf.startWalk.settle.ok wf.ok)

/-! ### Threads and registers (R313 to R317) -/

theorem Canonical.setReg {s : State} {t : Nat} {r : GReg} {v : Word} (wf : Canonical s) : Canonical (s.setReg t r v) := wf.setThread

theorem Canonical.modThread {s : State} {t : Nat} {f : Thread → Thread} (wf : Canonical s) : Canonical (s.modThread t f) := wf.setThread

/-! ### The end of a program (R347 to R349) -/

theorem Canonical.finishPacket {s : State} {t : Nat} (wf : Canonical s) : Canonical (s.finishPacket t) := by
  unfold State.finishPacket
  dsimp only
  split
  · exact wf
  · exact wf.stamp.endTag.modThread.andThen fun wf1 => Canonical.ite (Canonical.ite wf1.missOut wf1.missOut.returnCredit) wf1.returnCredit

theorem Canonical.endThread {s : State} {t : Nat} (wf : Canonical s) : Canonical (s.endThread t) := by
  unfold State.endThread
  dsimp only
  refine Canonical.setThread (Canonical.forgetAccesses (Canonical.finishPacket (Canonical.endTag ?_)))
  refine Canonical.foldl wf (fun wf' => ?_)
  refine Canonical.endTag ?_
  split
  · exact wf'.dropRef
  · exact wf'

theorem Canonical.endRun {s : State} {t : Nat} {r : Run} {fault : Option Nat} (wf : Canonical s) : Canonical (s.endRun t r fault) := by
  unfold State.endRun
  dsimp only
  split
  · exact wf.endThread.modQp
  · refine Canonical.settle ?_
    refine Canonical.ite wf.endThread.modQp.flushRq ?_
    refine Canonical.drainRq ?_
    split
    · exact wf.endThread.modQp.tally.modRecv
    · exact wf.endThread.modQp.modRecv

/-! ### Traps (R344, R345) -/

theorem Canonical.logHandlerTrap {s : State} {r : Run} {x : Trap} (wf : Canonical s) : Canonical (s.logHandlerTrap r x) :=
  Canonical.ite wf wf.wr.wr.wr.wr.wr.wr.wr.wr

theorem Canonical.handlerTrap {s : State} {t : Nat} {r : Run} {x : Trap} (wf : Canonical s) : Canonical (s.handlerTrap t r x) := by
  unfold State.handlerTrap
  exact (Canonical.ite wf.logHandlerTrap.tally wf.logHandlerTrap.tally).endRun

theorem Canonical.stopThread {s : State} {t : Nat} {x : Trap} (wf : Canonical s) : Canonical (s.stopThread t x) :=
  (Canonical.ite wf wf.wr.wr.wr.wr.wr.wr.wr.wr).modThread.raise

theorem Canonical.trap {s : State} {t : Nat} {x : Trap} (wf : Canonical s) : Canonical (s.trap t x) := by
  unfold State.trap
  dsimp only
  split
  · exact wf.endTag.forgetAccesses.modThread.handlerTrap
  · exact wf.endTag.forgetAccesses.modThread.andThen fun wf1 => Canonical.ite wf1.stopThread (Canonical.ite wf1.setThread wf1.setThread.stopThread)

theorem Canonical.trapAt {s : State} {t : Nat} {w : BitVec 32} {cause info detail : Nat} (wf : Canonical s) :
    Canonical (s.trapAt t w cause info detail) :=
  wf.trap

/-! ### Going on (R327) -/

theorem Canonical.goOn {s : State} {t : Nat} (wf : Canonical s) : Canonical (s.goOn t) :=
  wf.stamp.endTag.modThread.andThen fun wf1 => Canonical.ite wf1 wf1.trap

theorem Canonical.result {s : State} {t : Nat} {rd : GReg} {v : Word} (wf : Canonical s) : Canonical (s.result t rd v) := wf.setReg.goOn

theorem Canonical.jump {s : State} {t : Nat} {w : BitVec 32} {target : ℤ} {link : GReg} (wf : Canonical s) : Canonical (s.jump t w target link) :=
  Canonical.ite wf.stamp.endTag.setThread wf.trapAt

/-! ### Issue (R313, R324, R333, R337, R346) -/

theorem Canonical.fetched {s : State} {t : Nat} (wf : Canonical s) : Canonical (s.fetched t) := wf.corrected

theorem Canonical.issued {s : State} {t : Nat} {w : BitVec 32} (wf : Canonical s) : Canonical (s.issued t w) := by
  unfold State.issued
  exact (wf.fetched.count.sample.fst.maybe (·.stamp)).forgetAccesses.modThread

theorem Canonical.instr {s : State} {t : Nat} {i : Instr} {prep : BitVec 32 → State → State × Option (State → State)} (wf : Canonical s)
    (sound : ∀ {w u}, Canonical u → Sound (prep w u)) : Yields (s.instr t i prep) := by
  unfold State.instr
  refine Yields.ite wf.ok ?_
  split
  · exact wf.modThread.trap.ok
  refine Yields.ite wf.trapAt.ok (Yields.ite wf.issued.trapAt.ok (Yields.ite wf.issued.trapAt.ok (Yields.ite wf.issued.modThread.trapAt.ok
    (Yields.ite wf.modThread.ok ?_))))
  split
  next u k eq => exact (Sound.step eq (sound wf) (Sound.of_eq eq (sound wf)).issued).ok
  next u eq => exact (Sound.of_eq eq (sound wf)).ok

theorem Canonical.instr1 {s : State} {t : Nat} {i : Instr} {k : BitVec 32 → State → State} (wf : Canonical s)
    (step : ∀ {w u}, Canonical u → Canonical (k w u)) : Yields (s.instr1 t i k) := wf.instr fun wf' => Sound.issues wf' step

theorem Canonical.alu2 {s : State} {t : Nat} {i : Instr} {rd ra rb : GReg} {f : Word → Word → Word} (wf : Canonical s) :
    Yields (s.alu2 t i rd ra rb f) :=
  wf.instr1 (fun wf' => wf'.result)

theorem Canonical.alu1 {s : State} {t : Nat} {i : Instr} {rd ra : GReg} {f : Word → Word} (wf : Canonical s) : Yields (s.alu1 t i rd ra f) :=
  wf.instr1 (fun wf' => wf'.result)

/-! ### Integer instructions (R325, R326) -/

theorem Canonical.execAdd {t : Nat} {rd ra rb : GReg} {s : State} (wf : Canonical s) : Yields (execAdd t rd ra rb s) := wf.alu2

theorem Canonical.execSub {t : Nat} {rd ra rb : GReg} {s : State} (wf : Canonical s) : Yields (execSub t rd ra rb s) := wf.alu2

theorem Canonical.execAnd {t : Nat} {rd ra rb : GReg} {s : State} (wf : Canonical s) : Yields (execAnd t rd ra rb s) := wf.alu2

theorem Canonical.execOr {t : Nat} {rd ra rb : GReg} {s : State} (wf : Canonical s) : Yields (execOr t rd ra rb s) := wf.alu2

theorem Canonical.execXor {t : Nat} {rd ra rb : GReg} {s : State} (wf : Canonical s) : Yields (execXor t rd ra rb s) := wf.alu2

theorem Canonical.execSll {t : Nat} {rd ra rb : GReg} {s : State} (wf : Canonical s) : Yields (execSll t rd ra rb s) := wf.alu2

theorem Canonical.execSrl {t : Nat} {rd ra rb : GReg} {s : State} (wf : Canonical s) : Yields (execSrl t rd ra rb s) := wf.alu2

theorem Canonical.execSra {t : Nat} {rd ra rb : GReg} {s : State} (wf : Canonical s) : Yields (execSra t rd ra rb s) := wf.alu2

theorem Canonical.execSlt {t : Nat} {rd ra rb : GReg} {s : State} (wf : Canonical s) : Yields (execSlt t rd ra rb s) := wf.alu2

theorem Canonical.execSltu {t : Nat} {rd ra rb : GReg} {s : State} (wf : Canonical s) : Yields (execSltu t rd ra rb s) := wf.alu2

theorem Canonical.execMul {t : Nat} {rd ra rb : GReg} {s : State} (wf : Canonical s) : Yields (execMul t rd ra rb s) := wf.alu2

theorem Canonical.execMulhu {t : Nat} {rd ra rb : GReg} {s : State} (wf : Canonical s) : Yields (execMulhu t rd ra rb s) := wf.alu2

theorem Canonical.execMulh {t : Nat} {rd ra rb : GReg} {s : State} (wf : Canonical s) : Yields (execMulh t rd ra rb s) := wf.alu2

theorem Canonical.execDivu {t : Nat} {rd ra rb : GReg} {s : State} (wf : Canonical s) : Yields (execDivu t rd ra rb s) := wf.alu2

theorem Canonical.execRemu {t : Nat} {rd ra rb : GReg} {s : State} (wf : Canonical s) : Yields (execRemu t rd ra rb s) := wf.alu2

theorem Canonical.execMin {t : Nat} {rd ra rb : GReg} {s : State} (wf : Canonical s) : Yields (execMin t rd ra rb s) := wf.alu2

theorem Canonical.execMax {t : Nat} {rd ra rb : GReg} {s : State} (wf : Canonical s) : Yields (execMax t rd ra rb s) := wf.alu2

theorem Canonical.execMinu {t : Nat} {rd ra rb : GReg} {s : State} (wf : Canonical s) : Yields (execMinu t rd ra rb s) := wf.alu2

theorem Canonical.execMaxu {t : Nat} {rd ra rb : GReg} {s : State} (wf : Canonical s) : Yields (execMaxu t rd ra rb s) := wf.alu2

theorem Canonical.execClz {t : Nat} {rd ra rb : GReg} {s : State} (wf : Canonical s) : Yields (execClz t rd ra rb s) := wf.alu1

theorem Canonical.execCtz {t : Nat} {rd ra rb : GReg} {s : State} (wf : Canonical s) : Yields (execCtz t rd ra rb s) := wf.alu1

theorem Canonical.execPopc {t : Nat} {rd ra rb : GReg} {s : State} (wf : Canonical s) : Yields (execPopc t rd ra rb s) := wf.alu1

theorem Canonical.execBswap {t : Nat} {rd ra rb : GReg} {s : State} (wf : Canonical s) : Yields (execBswap t rd ra rb s) := wf.alu1

theorem Canonical.execBswap4 {t : Nat} {rd ra rb : GReg} {s : State} (wf : Canonical s) : Yields (execBswap4 t rd ra rb s) := wf.alu1

theorem Canonical.execCrc8 {t : Nat} {rd ra rb : GReg} {s : State} (wf : Canonical s) : Yields (execCrc8 t rd ra rb s) := wf.alu2

theorem Canonical.execAddi {t : Nat} {rd ra : GReg} {imm : BitVec 16} {s : State} (wf : Canonical s) : Yields (execAddi t rd ra imm s) := wf.alu1

theorem Canonical.execAndi {t : Nat} {rd ra : GReg} {imm : BitVec 16} {s : State} (wf : Canonical s) : Yields (execAndi t rd ra imm s) := wf.alu1

theorem Canonical.execOri {t : Nat} {rd ra : GReg} {imm : BitVec 16} {s : State} (wf : Canonical s) : Yields (execOri t rd ra imm s) := wf.alu1

theorem Canonical.execXori {t : Nat} {rd ra : GReg} {imm : BitVec 16} {s : State} (wf : Canonical s) : Yields (execXori t rd ra imm s) := wf.alu1

theorem Canonical.execSlti {t : Nat} {rd ra : GReg} {imm : BitVec 16} {s : State} (wf : Canonical s) : Yields (execSlti t rd ra imm s) := wf.alu1

theorem Canonical.execSltiu {t : Nat} {rd ra : GReg} {imm : BitVec 16} {s : State} (wf : Canonical s) : Yields (execSltiu t rd ra imm s) := wf.alu1

theorem Canonical.execShifti {t : Nat} {rd ra : GReg} {imm : BitVec 16} {s : State} (wf : Canonical s) : Yields (execShifti t rd ra imm s) := wf.alu1

theorem Canonical.execLih {t : Nat} {rd : GReg} {imm : BitVec 21} {s : State} (wf : Canonical s) : Yields (execLih t rd imm s) :=
  wf.instr1 (fun wf' => wf'.result)

/-! ### Branches and jumps (R327) -/

theorem Canonical.branch {s : State} {t : Nat} {i : Instr} {rb ra : GReg} {imm : BitVec 16} {c : Word → Word → Bool} (wf : Canonical s) :
    Yields (s.branch t i rb ra imm c) :=
  wf.instr1 (fun wf' => Canonical.ite wf'.jump wf'.goOn)

theorem Canonical.execBeq {t : Nat} {rb ra : GReg} {imm : BitVec 16} {s : State} (wf : Canonical s) : Yields (execBeq t rb ra imm s) := wf.branch

theorem Canonical.execBne {t : Nat} {rb ra : GReg} {imm : BitVec 16} {s : State} (wf : Canonical s) : Yields (execBne t rb ra imm s) := wf.branch

theorem Canonical.execBlt {t : Nat} {rb ra : GReg} {imm : BitVec 16} {s : State} (wf : Canonical s) : Yields (execBlt t rb ra imm s) := wf.branch

theorem Canonical.execBge {t : Nat} {rb ra : GReg} {imm : BitVec 16} {s : State} (wf : Canonical s) : Yields (execBge t rb ra imm s) := wf.branch

theorem Canonical.execBltu {t : Nat} {rb ra : GReg} {imm : BitVec 16} {s : State} (wf : Canonical s) : Yields (execBltu t rb ra imm s) := wf.branch

theorem Canonical.execBgeu {t : Nat} {rb ra : GReg} {imm : BitVec 16} {s : State} (wf : Canonical s) : Yields (execBgeu t rb ra imm s) := wf.branch

theorem Canonical.execJal {t : Nat} {rd : GReg} {imm : BitVec 21} {s : State} (wf : Canonical s) : Yields (execJal t rd imm s) :=
  wf.instr1 (fun wf' => wf'.jump)

theorem Canonical.execJalr {t : Nat} {rd ra : GReg} {imm : BitVec 16} {s : State} (wf : Canonical s) : Yields (execJalr t rd ra imm s) :=
  wf.instr1 (fun wf' => wf'.jump)

/-! ### Fences (R332, R333, R363) and EXIT (R347, R348) -/

theorem Canonical.fenceDone {s : State} {t : Nat} {rd : GReg} {fault : Bool} (wf : Canonical s) : Canonical (s.fenceDone t rd fault) :=
  Canonical.ite wf.modThread.trap wf.modThread.goOn

theorem Canonical.exitDone {s : State} {t : Nat} (wf : Canonical s) : Canonical (s.exitDone t) := by
  unfold State.exitDone
  dsimp only
  split
  · exact wf.stamp.endTag.endThread
  · exact Canonical.ite wf.stamp.endTag.handlerTrap wf.stamp.endTag.endRun

theorem Canonical.wake {s : State} {t : Nat} (wf : Canonical s) : Canonical (s.wake t) := by
  unfold State.wake
  dsimp only
  split
  · exact wf.maybe (·.fenceDone)
  · exact wf.maybe (·.exitDone)
  · exact wf

theorem Canonical.fence {s : State} {t : Nat} {i : Instr} {kind : Nat} {rd : GReg} (wf : Canonical s) : Yields (s.fence t i kind rd) :=
  wf.instr1 (fun wf' => wf'.modThread.wake)

theorem Canonical.execFenceFull {t : Nat} {rd : GReg} {s : State} (wf : Canonical s) : Yields (execFenceFull t rd s) := wf.fence

theorem Canonical.execFenceAcquire {t : Nat} {rd : GReg} {s : State} (wf : Canonical s) : Yields (execFenceAcquire t rd s) := wf.fence

theorem Canonical.execFenceRelease {t : Nat} {rd : GReg} {s : State} (wf : Canonical s) : Yields (execFenceRelease t rd s) := wf.fence

theorem Canonical.execFenceDevice {t : Nat} {rd : GReg} {s : State} (wf : Canonical s) : Yields (execFenceDevice t rd s) := wf.fence

/-! ### Control registers (R317) -/

theorem Canonical.execCsrr {t : Nat} {rd : GReg} {csr : BitVec 16} {s : State} (wf : Canonical s) : Yields (execCsrr t rd csr s) := by
  unfold Machine.execCsrr
  refine Canonical.instr1 wf (fun wf' => ?_)
  split
  · exact wf'.trapAt
  · exact wf'.trapAt
  · exact wf'.result

theorem Canonical.execCsrw {t : Nat} {ra : GReg} {csr : BitVec 16} {s : State} (wf : Canonical s) : Yields (execCsrw t ra csr s) := by
  unfold Machine.execCsrw
  refine Canonical.instr1 wf (fun wf' => ?_)
  split
  · exact wf'.trapAt
  · exact wf'.trapAt
  · exact wf'.modThread.goOn

/-! ### System instructions (R343) -/

theorem Canonical.execSysNop {t : Nat} {s : State} (wf : Canonical s) : Yields (execSysNop t s) := wf.instr1 (fun wf' => wf'.goOn)

theorem Canonical.execYieldSlot {t : Nat} {s : State} (wf : Canonical s) : Yields (execYieldSlot t s) := wf.instr1 (fun wf' => wf'.modThread.goOn)

theorem Canonical.execTrap {t : Nat} {ra : GReg} {s : State} (wf : Canonical s) : Yields (execTrap t ra s) := wf.instr1 (fun wf' => wf'.trapAt)

theorem Canonical.execExit {t : Nat} {s : State} (wf : Canonical s) : Yields (execExit t s) := wf.instr1 (fun wf' => wf'.modThread.wake)

theorem Canonical.execXret {t : Nat} {ra : GReg} {s : State} (wf : Canonical s) : Yields (execXret t ra s) :=
  wf.instr1 (fun wf' => Canonical.ite wf'.jump.modThread wf'.trapAt)

theorem Canonical.execWait {t : Nat} {rd : GReg} {s : State} (wf : Canonical s) : Yields (execWait t rd s) := wf.instr1 (fun wf' => wf'.modThread)

theorem Canonical.execThreadWake {t : Nat} {reason : Word} {s : State} (wf : Canonical s) : Yields (execThreadWake t reason s) := by
  unfold Machine.execThreadWake
  refine Yields.clocked wf ?_
  split
  · exact wf.result.ok
  · exact wf.ok

theorem Canonical.execHandlerBudgetExhausted {t : Nat} {s : State} (wf : Canonical s) : Yields (execHandlerBudgetExhausted t s) :=
  Yields.clocked wf (Yields.ite wf.trapAt.ok wf.ok)

end Sys2Proof.Machine


/-! PROOFS. The canonical forms are kept (O60): what forager instructions ask of other units. Each lemma is about the
model function of its name. -/

namespace Sys2Proof.Machine

/-! ### Addresses (R318 to R321, R354) -/

theorem Canonical.hostSpot {s : State} {t fn va n kind : Nat} {key : Option Nat} (wf : Canonical s) :
    CanonicalFst (s.hostSpot t fn va n kind key) := by
  unfold State.hostSpot
  refine CanonicalFst.ite (CanonicalFst.mk wf) ?_
  split
  next _ eq => exact CanonicalFst.mk (CanonicalFst.of_eq eq wf.translate)
  next _ _ _ eq => exact CanonicalFst.mk (CanonicalFst.of_eq eq wf.translate)
  next _ _ _ _ eq => exact CanonicalFst.mk (CanonicalFst.of_eq eq wf.translate)

theorem Canonical.keySpot {s : State} {t slot off n kind : Nat} (wf : Canonical s) : CanonicalFst (s.keySpot t slot off n kind) := by
  unfold State.keySpot
  dsimp only
  split
  · exact CanonicalFst.mk wf
  · exact CanonicalFst.ite (CanonicalFst.mk wf.cacheKey) (CanonicalFst.mk wf.cacheKey)

theorem Canonical.locate {s : State} {t : Nat} {a : Word} {n kind : Nat} (wf : Canonical s) : CanonicalFst (s.locate t a n kind) := by
  unfold State.locate
  dsimp only
  refine CanonicalFst.ite (CanonicalFst.ite (CanonicalFst.mk wf) wf.keySpot) ?_
  split
  · exact CanonicalFst.ite (CanonicalFst.ite (CanonicalFst.mk wf) (CanonicalFst.mk wf)) (CanonicalFst.ite (CanonicalFst.mk wf) (CanonicalFst.mk wf))
  · exact CanonicalFst.ite (CanonicalFst.mk wf) (CanonicalFst.mk wf)
  · exact CanonicalFst.ite (CanonicalFst.mk wf) (CanonicalFst.mk wf)
  · exact CanonicalFst.ite (CanonicalFst.mk wf) (CanonicalFst.mk wf)
  · exact CanonicalFst.ite (CanonicalFst.mk wf) (CanonicalFst.mk wf)
  · exact CanonicalFst.mk wf

theorem Canonical.resolve {s : State} {t : Nat} {a : Word} {n kind : Nat} (wf : Canonical s) : CanonicalFst (s.resolve t a n kind) := by
  unfold State.resolve
  split
  next _ _ eq => exact CanonicalFst.mk (CanonicalFst.of_eq eq wf.locate)
  next _ _ _ eq => exact CanonicalFst.mk (CanonicalFst.of_eq eq wf.locate)
  next _ _ _ _ eq => exact (CanonicalFst.of_eq eq wf.locate).hostSpot

/-! ### Accesses in progress (R357 to R360, R367) -/

theorem Canonical.addAccess {s : State} {t : Nat} {a : Access} (wf : Canonical s) : Canonical (s.addAccess t a) := by
  unfold State.addAccess
  dsimp only
  refine Canonical.setThread ?_
  split
  · exact wf.takeRef
  · exact wf

theorem Canonical.askHost {s : State} {t k : Nat} {a : Access} (wf : Canonical s) : Canonical (s.askHost t k a) := by
  unfold State.askHost
  split
  · exact wf.emit
  · exact wf

theorem Canonical.addWrites {s : State} {t : Nat} {x : Spot} {b : List Byte} {faddr : Nat} {place queued : Bool} (wf : Canonical s) :
    Canonical (s.addWrites t x b faddr place queued) :=
  wf.foldl (fun wf' => wf'.addAccess)

theorem Canonical.addLoads {s : State} {t : Nat} {x : Spot} {n faddr : Nat} {rd : GReg} {signed : Bool} (wf : Canonical s) :
    Canonical (s.addLoads t x n faddr rd signed) :=
  wf.modThread.foldl (fun wf' => wf'.addAccess.askHost)

/-! ### Loads and stores (R328, R331) -/

theorem Canonical.poisonTrap {s : State} {t : Nat} {w : BitVec 32} {x : Spot} {a : Word} (wf : Canonical s) : Canonical (s.poisonTrap t w x a) :=
  (wf.foldl (fun wf' => wf'.reportPoison)).trapAt

theorem Canonical.load {s : State} {t : Nat} {i : Instr} {rd ra : GReg} {imm : BitVec 16} {n : Nat} {signed : Bool} (wf : Canonical s) :
    Yields (s.load t i rd ra imm n signed) := by
  unfold State.load
  dsimp only
  refine Canonical.instr wf (fun wf' => ?_)
  split
  next _ eq =>
    have wf'' := CanonicalFst.of_eq eq wf'.resolve
    exact Sound.waits wf''
  next _ _ _ eq =>
    have wf'' := CanonicalFst.of_eq eq wf'.resolve
    exact Sound.issues wf'' fun wf''' => wf'''.trapAt
  next _ _ eq =>
    have wf'' := CanonicalFst.of_eq eq wf'.resolve
    exact Sound.ite (Sound.issues wf'' fun wf''' => wf'''.trapAt) (Sound.ite (Sound.waits wf''.modThread) (Sound.ite (Sound.issues wf'' fun wf''' =>
      wf'''.result) (Sound.ite (Sound.waits wf'') (Sound.ite (Sound.waits wf'') (Sound.ite (Sound.issues wf'' fun wf''' => wf'''.poisonTrap)
      (Sound.issues wf'' fun wf''' => Canonical.ite wf'''.addLoads wf'''.addLoads.goOn))))))

theorem Canonical.execLb {t : Nat} {rd ra : GReg} {imm : BitVec 16} {s : State} (wf : Canonical s) : Yields (execLb t rd ra imm s) := wf.load

theorem Canonical.execLbu {t : Nat} {rd ra : GReg} {imm : BitVec 16} {s : State} (wf : Canonical s) : Yields (execLbu t rd ra imm s) := wf.load

theorem Canonical.execLh {t : Nat} {rd ra : GReg} {imm : BitVec 16} {s : State} (wf : Canonical s) : Yields (execLh t rd ra imm s) := wf.load

theorem Canonical.execLhu {t : Nat} {rd ra : GReg} {imm : BitVec 16} {s : State} (wf : Canonical s) : Yields (execLhu t rd ra imm s) := wf.load

theorem Canonical.execLw {t : Nat} {rd ra : GReg} {imm : BitVec 16} {s : State} (wf : Canonical s) : Yields (execLw t rd ra imm s) := wf.load

theorem Canonical.execLwu {t : Nat} {rd ra : GReg} {imm : BitVec 16} {s : State} (wf : Canonical s) : Yields (execLwu t rd ra imm s) := wf.load

theorem Canonical.execLd {t : Nat} {rd ra : GReg} {imm : BitVec 16} {s : State} (wf : Canonical s) : Yields (execLd t rd ra imm s) := wf.load

theorem Canonical.storeI {s : State} {t : Nat} {i : Instr} {rb ra : GReg} {imm : BitVec 16} {n : Nat} (wf : Canonical s) :
    Yields (s.storeI t i rb ra imm n) := by
  unfold State.storeI
  dsimp only
  refine Canonical.instr wf (fun wf' => ?_)
  split
  next _ eq =>
    have wf'' := CanonicalFst.of_eq eq wf'.resolve
    exact Sound.waits wf''
  next _ _ _ eq =>
    have wf'' := CanonicalFst.of_eq eq wf'.resolve
    exact Sound.issues wf'' fun wf''' => wf'''.trapAt
  next _ _ eq =>
    have wf'' := CanonicalFst.of_eq eq wf'.resolve
    exact Sound.ite (Sound.issues wf'' fun wf''' => wf'''.trapAt) (Sound.ite (Sound.waits wf'') (Sound.issues wf'' fun wf''' => wf'''.addWrites.goOn))

theorem Canonical.execSb {t : Nat} {rb ra : GReg} {imm : BitVec 16} {s : State} (wf : Canonical s) : Yields (execSb t rb ra imm s) := wf.storeI

theorem Canonical.execSh {t : Nat} {rb ra : GReg} {imm : BitVec 16} {s : State} (wf : Canonical s) : Yields (execSh t rb ra imm s) := wf.storeI

theorem Canonical.execSw {t : Nat} {rb ra : GReg} {imm : BitVec 16} {s : State} (wf : Canonical s) : Yields (execSw t rb ra imm s) := wf.storeI

theorem Canonical.execSd {t : Nat} {rb ra : GReg} {imm : BitVec 16} {s : State} (wf : Canonical s) : Yields (execSd t rb ra imm s) := wf.storeI

/-! ### LR, SC, atomics (R329, R330) -/

theorem Canonical.pairI {s : State} {t : Nat} {i : Instr} {a : Word} {n kind : Nat} {atomic : Bool} {good : State → Spot → Bool}
    {k : Spot → State → State} (wf : Canonical s) (step : ∀ {x u}, Canonical u → Canonical (k x u)) :
    Yields (s.pairI t i a n kind atomic good k) := by
  have go {u : State} {x : Spot} {w : BitVec 32} (wf' : Canonical u) : Sound
      (if (u.thread t).deviceBusy x ∨ (u.thread t).clash x then (u, none)
      else if !x.device ∧ kind ≠ accWrite ∧ u.meetsPoison x then (u, some fun s => s.poisonTrap t w x a)
      else (u, some (k x))) :=
    Sound.ite (Sound.waits wf') (Sound.ite (Sound.issues wf' fun wf' => wf'.poisonTrap) (Sound.issues wf' step))
  refine wf.instr fun wf' => ?_
  have trap {u : State} {w : BitVec 32} {c d : Nat} (wf' : Canonical u) : Sound (u, some fun s => s.trapAt t w c a.toNat d) :=
    Sound.issues wf' fun wf' => wf'.trapAt
  dsimp only
  refine Sound.ite (trap wf') (Sound.ite (trap wf') ?_)
  split
  next _ _ _ eq => exact trap (CanonicalFst.of_eq eq wf'.locate)
  next _ _ eq => exact Sound.ite (go (CanonicalFst.of_eq eq wf'.locate)) (trap (CanonicalFst.of_eq eq wf'.locate))
  next _ _ _ _ eq =>
    have wf' := CanonicalFst.of_eq eq wf'.locate
    refine Sound.ite (trap wf') (Sound.ite (trap wf') ?_)
    split
    next _ eq => exact Sound.waits (CanonicalFst.of_eq eq wf'.hostSpot)
    next _ _ _ eq => exact trap (CanonicalFst.of_eq eq wf'.hostSpot)
    next _ _ eq => exact go (CanonicalFst.of_eq eq wf'.hostSpot)

theorem Canonical.issueAccess {s : State} {t : Nat} {a : Access} (wf : Canonical s) : Canonical (s.issueAccess t a) :=
  wf.modThread.addAccess.andThen fun wf1 => Canonical.ite wf1 wf1.goOn

theorem Canonical.execLr {t : Nat} {rd ra : GReg} {imm : BitVec 16} {s : State} (wf : Canonical s) : Yields (execLr t rd ra imm s) :=
  wf.pairI (fun wf' => wf'.issueAccess)

theorem Canonical.execSc {t : Nat} {rd ra rb : GReg} {s : State} (wf : Canonical s) : Yields (execSc t rd ra rb s) :=
  wf.pairI (fun wf' => wf'.issueAccess)

theorem Canonical.askAtomic {s : State} {t k : Nat} {a : Access} (wf : Canonical s) : Canonical (s.askAtomic t k a) := by
  unfold State.askAtomic
  split
  · split
    · exact wf.emit.count
    · exact wf.emit
  · exact wf

theorem Canonical.atom {s : State} {t : Nat} {i : Instr} {fn : Nat} {rd ra rb rc : GReg} {hi : BitVec 3} (wf : Canonical s) :
    Yields (s.atom t i fn rd ra rb rc hi) :=
  wf.pairI (fun wf' => wf'.issueAccess.askAtomic)

theorem Canonical.execAtomFadd {t : Nat} {rd ra rb rc : GReg} {hi : BitVec 3} {s : State} (wf : Canonical s) :
    Yields (execAtomFadd t rd ra rb rc hi s) :=
  wf.atom

theorem Canonical.execAtomCswap {t : Nat} {rd ra rb rc : GReg} {hi : BitVec 3} {s : State} (wf : Canonical s) :
    Yields (execAtomCswap t rd ra rb rc hi s) :=
  wf.atom

theorem Canonical.execAtomSwap {t : Nat} {rd ra rb rc : GReg} {hi : BitVec 3} {s : State} (wf : Canonical s) :
    Yields (execAtomSwap t rd ra rb rc hi s) :=
  wf.atom

theorem Canonical.execAtomAnd {t : Nat} {rd ra rb rc : GReg} {hi : BitVec 3} {s : State} (wf : Canonical s) :
    Yields (execAtomAnd t rd ra rb rc hi s) :=
  wf.atom

theorem Canonical.execAtomOr {t : Nat} {rd ra rb rc : GReg} {hi : BitVec 3} {s : State} (wf : Canonical s) : Yields (execAtomOr t rd ra rb rc hi s) :=
  wf.atom

theorem Canonical.execAtomXor {t : Nat} {rd ra rb rc : GReg} {hi : BitVec 3} {s : State} (wf : Canonical s) :
    Yields (execAtomXor t rd ra rb rc hi s) :=
  wf.atom

theorem Canonical.execAtomSmin {t : Nat} {rd ra rb rc : GReg} {hi : BitVec 3} {s : State} (wf : Canonical s) :
    Yields (execAtomSmin t rd ra rb rc hi s) :=
  wf.atom

theorem Canonical.execAtomSmax {t : Nat} {rd ra rb rc : GReg} {hi : BitVec 3} {s : State} (wf : Canonical s) :
    Yields (execAtomSmax t rd ra rb rc hi s) :=
  wf.atom

/-! ### Packet windows (R334 to R338) -/

theorem Canonical.execPwld {t : Nat} {rd ra : GReg} {imm : BitVec 16} {s : State} (wf : Canonical s) : Yields (execPwld t rd ra imm s) :=
  wf.instr1 (fun wf' => Canonical.ite wf'.trapAt wf'.result)

theorem Canonical.execPwst {t : Nat} {rb ra : GReg} {imm : BitVec 16} {s : State} (wf : Canonical s) : Yields (execPwst t rb ra imm s) :=
  wf.instr1 (fun wf' => Canonical.ite wf'.trapAt wf'.setThread.goOn)

theorem Canonical.execPnext {t : Nat} {rd : GReg} {s : State} (wf : Canonical s) : Yields (execPnext t rd s) :=
  wf.instr1 (fun wf' => wf'.finishPacket.modThread)

theorem Canonical.execPdone {t : Nat} {rd : GReg} {s : State} (wf : Canonical s) : Yields (execPdone t rd s) :=
  wf.instr1 (fun wf' => wf'.finishPacket.result)

theorem Canonical.execEidlk {t : Nat} {rd ra : GReg} {s : State} (wf : Canonical s) : Yields (execEidlk t rd ra s) :=
  wf.instr1 (fun wf' => wf'.eidMet.result)

theorem Canonical.takePacket {s : State} {port : Nat} {p : Packet} {fromMiss : Bool} (wf : Canonical s) {t : State × Packet × Option Nat}
    (taken : s.takePacket port p fromMiss = some t) : Canonical t.1 := by
  unfold State.takePacket at taken
  split at taken
  · obtain ⟨x, -, rfl⟩ := Option.map_eq_some_iff.mp taken
    exact wf.modQp
  · obtain ⟨x, -, rfl⟩ := Option.map_eq_some_iff.mp taken
    exact wf.frame

theorem Canonical.execPacketHandoff {t : Nat} {p : Packet} {port handle : Nat} {fromMiss verified : Bool} {s : State} (wf : Canonical s) :
    Yields (execPacketHandoff t p port handle fromMiss verified s) := by
  unfold Machine.execPacketHandoff
  refine Yields.clocked wf ?_
  split
  · refine Yields.ite wf.ok ?_
    split
    · exact wf.ok
    next t _ _ eq =>
      have wf' : Canonical t := wf.takePacket eq
      exact (wf'.maybe (·.takeFree)).stamp.stamp.stamp.modThread.result.ok
  · exact wf.ok

theorem Canonical.execCrcVerdict {t : Nat} {ok0 : Bool} {s : State} (wf : Canonical s) : Yields (execCrcVerdict t ok0 s) := by
  unfold Machine.execCrcVerdict
  dsimp only
  refine Yields.clocked wf ?_
  split
  · exact wf.ok
  · refine Yields.ite wf.ok ?_
    refine Yields.ite wf.stamp.modThread.stamp.ok ?_
    refine Yields.ite ?_ ?_
    · refine Canonical.ok (Canonical.trap (Canonical.finishPacket (Canonical.modThread ?_)))
      refine Canonical.foldl wf.stamp (fun wf' => ?_)
      split
      · exact wf'.dropRef
      · exact wf'
    · refine Canonical.ok (Canonical.settle (Canonical.wake (Canonical.finishPacket (Canonical.modThread ?_))))
      refine Canonical.foldl wf.stamp (fun wf' => ?_)
      split
      · exact wf'.dropRef
      · exact wf'

/-! ### DMA (R339) -/

theorem Canonical.callFails {s : State} {t : Nat} {w : BitVec 32} {rd : GReg} {cause faddr detail done : Nat} (wf : Canonical s) :
    Canonical (s.callFails t w rd cause faddr detail done) :=
  Canonical.ite wf.trapAt wf.result

theorem Canonical.callDone {s : State} {t : Nat} {rd : GReg} {v : Word} (wf : Canonical s) : Canonical (s.callDone t rd v) :=
  Canonical.ite wf.modThread.wake wf.result

theorem Canonical.callRead {s : State} {t : Nat} {a : Word} {n : Nat} (wf : Canonical s) : CanonicalFst (s.callRead t a n) := by
  unfold State.callRead
  refine CanonicalFst.ite (CanonicalFst.mk wf) ?_
  split
  next _ eq => exact CanonicalFst.mk (CanonicalFst.of_eq eq wf.resolve)
  next _ _ _ eq => exact CanonicalFst.mk (CanonicalFst.of_eq eq wf.resolve)
  next _ _ eq =>
    have wf' := CanonicalFst.of_eq eq wf.resolve
    refine CanonicalFst.ite (CanonicalFst.mk wf') ?_
    refine CanonicalFst.ite (CanonicalFst.mk wf') ?_
    split <;> exact CanonicalFst.mk wf'

theorem Canonical.askNext {s : State} {t : Nat} (wf : Canonical s) : Canonical (s.askNext t) := by
  unfold State.askNext
  split
  · exact wf.askHost
  · exact wf

theorem Canonical.askSource {s : State} {t : Nat} {x : Spot} {n faddr : Nat} (wf : Canonical s) : Canonical (s.askSource t x n faddr) :=
  (wf.foldl (fun wf' => Canonical.ite wf'.addAccess wf'.addAccess.askHost)).askNext

theorem Canonical.copyPart {s : State} {t : Nat} {dst : Word} {n : Nat} {b : List Byte} (wf : Canonical s) : CanonicalFst (s.copyPart t dst n b) := by
  unfold State.copyPart
  dsimp only
  refine CanonicalFst.ite (CanonicalFst.mk wf) ?_
  split
  next _ _ eq =>
    have wf' := CanonicalFst.of_eq eq wf.resolve
    refine CanonicalFst.ite (CanonicalFst.mk wf') ?_
    split
    next _ _ eq =>
      have wf'' := CanonicalFst.of_eq eq wf'.resolve
      exact CanonicalFst.mk wf''.addWrites
    next _ _ eq =>
      have wf'' := CanonicalFst.of_eq eq wf'.resolve
      exact CanonicalFst.mk wf''
  next _ _ eq => exact CanonicalFst.mk (CanonicalFst.of_eq eq wf.resolve)

theorem Canonical.copyEnds {s : State} {t : Nat} {w : BitVec 32} {rd : GReg} {fail : Option (Nat × Nat × Nat)} {n : Nat} (wf : Canonical s) :
    Canonical (s.copyEnds t w rd fail n) := by
  unfold State.copyEnds
  split
  · exact wf.callFails
  · exact wf.callDone

theorem Canonical.copyTo {s : State} {t : Nat} {w : BitVec 32} {rd : GReg} {dst : Word} {fail : Option (Nat × Nat × Nat)} {b : List Byte}
    (wf : Canonical s) : Sound (s.copyTo t w rd dst fail b) := by
  unfold State.copyTo
  refine Sound.ite (Sound.issues wf fun wf' => wf'.copyEnds) ?_
  split
  next _ eq => exact Sound.waits (CanonicalFst.of_eq eq wf.resolve)
  next _ _ _ eq => exact Sound.issues (CanonicalFst.of_eq eq wf.resolve) fun wf' => wf'.takeFree.copyPart.fst.callFails
  next _ _ eq =>
    have wf' := CanonicalFst.of_eq eq wf.resolve
    exact Sound.ite (Sound.issues wf' fun wf' => wf'.callFails) (Sound.ite (Sound.waits wf')
      (Sound.ite (Sound.issues wf' fun wf' => wf'.copyPart.fst.copyEnds) (Sound.issues wf' fun wf' => wf'.addWrites.copyEnds)))

theorem Canonical.execCopy {t : Nat} {rd ra rb rc : GReg} {s : State} (wf : Canonical s) : Yields (execCopy t rd ra rb rc s) := by
  unfold Machine.execCopy
  refine wf.instr fun wf' => ?_
  refine Sound.ite (Sound.issues wf' fun wf' => wf'.callFails) ?_
  split
  next _ eq => exact Sound.waits (CanonicalFst.of_eq eq wf'.callRead)
  next _ _ eq => exact (CanonicalFst.of_eq eq wf'.callRead).copyTo
  next u _ _ _ eq =>
    have wf' := CanonicalFst.of_eq eq wf'.callRead
    dsimp only
    split
    next v x eq =>
      have wf' : Canonical v := by
        split at eq
        · exact nomatch eq
        · exact CanonicalFst.of_eq (Option.some.inj eq) wf'.callRead
      exact Sound.issues wf' fun wf' => wf'.takeFree.askSource.modThread
    · exact Sound.issues wf' fun wf' => wf'.takeFree.callFails
  next _ _ eq => exact Sound.issues (CanonicalFst.of_eq eq wf'.callRead) fun wf' => wf'.askSource.modThread

theorem Canonical.execPlace {t : Nat} {rd ra rb rc : GReg} {s : State} (wf : Canonical s) : Yields (execPlace t rd ra rb rc s) := by
  unfold Machine.execPlace
  dsimp only
  refine Canonical.instr wf (fun wf' => ?_)
  refine Sound.ite (Sound.issues wf' fun wf'' => wf''.callFails) ?_
  refine Sound.ite (Sound.issues wf' fun wf'' => wf''.result) ?_
  split
  next _ eq =>
    have wf'' := CanonicalFst.of_eq eq wf'.resolve
    exact Sound.waits wf''
  next _ _ _ eq =>
    have wf'' := CanonicalFst.of_eq eq wf'.resolve
    exact Sound.issues wf'' fun wf''' => wf'''.callFails
  next _ _ eq =>
    have wf'' := CanonicalFst.of_eq eq wf'.resolve
    exact Sound.ite (Sound.issues wf'' fun wf''' => wf'''.callFails) (Sound.ite (Sound.waits wf'') (Sound.issues wf'' fun wf''' =>
      wf'''.addWrites.stamp.result))

/-! ### PSEND (R338) -/

theorem Canonical.psendOut {s : State} {t : Nat} {p : Packet} (wf : Canonical s) : CanonicalFst (s.psendOut t p) := by
  unfold State.psendOut
  dsimp only
  split
  · refine CanonicalFst.ite (CanonicalFst.mk wf.eidMet.injectWt) ?_
    split
    · exact CanonicalFst.mk wf.eidMet.injectWt
    · refine CanonicalFst.ite (CanonicalFst.mk (Canonical.ite wf.eidMet wf.eidMet.tally.modThread)) ?_
      refine CanonicalFst.ite (CanonicalFst.mk (Canonical.ite wf.eidMet.setQp wf.eidMet.setQp.tally.modThread)) ?_
      split
      next _ eq => exact CanonicalFst.mk (CanonicalFst.of_eq eq wf.eidMet.setQp.modThread.police)
      next _ _ eq => exact CanonicalFst.mk (CanonicalFst.of_eq eq wf.eidMet.setQp.modThread.police).injectWt
  · exact CanonicalFst.mk wf.eidMet.injectOwn

theorem Canonical.execPsend {t : Nat} {rd ra rb rc : GReg} {s : State} (wf : Canonical s) : Yields (execPsend t rd ra rb rc s) := by
  unfold Machine.execPsend
  dsimp only
  refine Canonical.instr wf (fun wf' => ?_)
  refine Sound.ite (Sound.issues wf' fun wf'' => wf''.trapAt) ?_
  refine Sound.ite (Sound.waits wf') ?_
  split
  next _ eq =>
    have wf'' := CanonicalFst.of_eq eq wf'.callRead
    exact Sound.waits wf''
  next _ _ _ _ eq =>
    have wf'' := CanonicalFst.of_eq eq wf'.callRead
    exact Sound.issues wf'' fun wf''' => wf'''.callFails
  next _ _ eq =>
    have wf'' := CanonicalFst.of_eq eq wf'.callRead
    split
    next _ eq =>
      have wf''' := CanonicalFst.of_eq eq wf''.psendOut
      exact Sound.waits wf'''
    next _ eq =>
      have wf''' := CanonicalFst.of_eq eq wf''.psendOut
      exact Sound.issues wf''' fun wf'''' => wf''''.result
  next _ _ eq =>
    have wf'' := CanonicalFst.of_eq eq wf'.callRead
    exact Sound.issues wf'' fun wf''' => wf'''.askSource.modThread

/-! ### The match units (R340) -/

theorem Canonical.matchCall {s : State} {t : Nat} {i : Instr} {rd ra : GReg} {f : Envelope → State → State × Word} (wf : Canonical s)
    (step : ∀ {e u}, Canonical u → CanonicalFst (f e u)) : Yields (s.matchCall t i rd ra f) := by
  unfold State.matchCall
  refine wf.instr fun wf' => ?_
  dsimp only
  refine Sound.ite (Sound.issues wf' fun wf' => wf'.trapAt) (Sound.ite (Sound.issues wf' fun wf' => wf'.trapAt) ?_)
  split
  next _ _ eq =>
    have wf' := CanonicalFst.of_eq eq wf'.resolve
    refine Sound.ite (Sound.waits wf') ?_
    split
    · exact Sound.issues wf' fun wf' => wf'.result
    · exact Sound.issues wf' fun wf' => (step wf'.matchOp).fst.result
  next _ _ _ eq => exact Sound.issues (CanonicalFst.of_eq eq wf'.resolve) fun wf' => wf'.trapAt
  next _ eq => exact Sound.waits (CanonicalFst.of_eq eq wf'.resolve)

theorem Canonical.handleOf {s : State} {h : Option Word} (wf : Canonical s) : CanonicalFst (s.handleOf h) := by
  unfold State.handleOf
  split
  · exact CanonicalFst.mk wf
  · exact CanonicalFst.mk wf.takeFree

theorem Canonical.arrive {e : Envelope} {s : State} (wf : Canonical s) : CanonicalFst (State.arrive e s) := by
  unfold State.arrive
  dsimp only
  split
  · exact wf.frame.wr.handleOf
  · exact CanonicalFst.mk wf.newId.addRecordU

theorem Canonical.postCall {e : Envelope} {s : State} (wf : Canonical s) : CanonicalFst (State.postCall e s) := by
  unfold State.postCall
  dsimp only
  split
  · exact wf.freeRecord.frame.handleOf
  · exact CanonicalFst.mk wf.frame.post1.wr

theorem Canonical.cancelCall {e : Envelope} {s : State} (wf : Canonical s) : CanonicalFst (State.cancelCall e s) :=
  CanonicalFst.mk (wf.frame.foldl (fun wf' => wf'.freeRecord)).wr

theorem Canonical.execArrive {t : Nat} {rd ra : GReg} {s : State} (wf : Canonical s) : Yields (execArrive t rd ra s) :=
  wf.matchCall (fun wf' => wf'.arrive)

theorem Canonical.execPost {t : Nat} {rd ra : GReg} {s : State} (wf : Canonical s) : Yields (execPost t rd ra s) :=
  wf.matchCall (fun wf' => wf'.postCall)

theorem Canonical.execCancel {t : Nat} {rd ra : GReg} {s : State} (wf : Canonical s) : Yields (execCancel t rd ra s) :=
  wf.matchCall (fun wf' => wf'.cancelCall)

/-! ### Locks (R341, R371 to R374, R378) -/

theorem Canonical.lockWrite {s : State} {w value source : Nat} (wf : Canonical s) : Canonical (s.lockWrite w value source) := by
  unfold State.lockWrite
  split
  · exact wf.wr.wr
  · exact wf.tally
  · exact wf

theorem Canonical.lockCall {s : State} {t : Nat} {i : Instr} {rd ra : GReg} {claim : Bool} (wf : Canonical s) : Yields (s.lockCall t i rd ra claim) :=
  wf.instr (fun wf' => Sound.ite (Sound.issues wf' fun wf'' => wf''.tally.result) (Sound.ite (Sound.waits wf') (Sound.issues wf' fun wf'' =>
    wf''.lockWrite.result)))

theorem Canonical.execLclaim {t : Nat} {rd ra : GReg} {s : State} (wf : Canonical s) : Yields (execLclaim t rd ra s) := wf.lockCall

theorem Canonical.execLrel {t : Nat} {rd ra : GReg} {s : State} (wf : Canonical s) : Yields (execLrel t rd ra s) := wf.lockCall

theorem Canonical.compatCall {s : State} {t : Nat} {i : Instr} {rd ra : GReg} {claim : Bool} (wf : Canonical s) :
    Yields (s.compatCall t i rd ra claim) := by
  unfold State.compatCall
  dsimp only
  refine Canonical.instr wf (fun wf' => ?_)
  refine Sound.ite (Sound.issues wf' fun wf'' => wf''.trapAt) ?_
  split
  next _ eq =>
    have wf'' := CanonicalFst.of_eq eq wf'.resolve
    exact Sound.waits wf''
  next _ _ _ eq =>
    have wf'' := CanonicalFst.of_eq eq wf'.resolve
    exact Sound.issues wf'' fun wf''' => wf'''.trapAt
  next _ _ eq =>
    have wf'' := CanonicalFst.of_eq eq wf'.resolve
    exact Sound.ite (Sound.issues wf'' fun wf''' => wf'''.trapAt) (Sound.ite (Sound.waits wf'') (Sound.ite (Sound.issues wf'' fun wf''' =>
      wf'''.reportPoison.trapAt) (Sound.issues wf'' fun wf''' => wf'''.compatAct.fst.result)))

theorem Canonical.execLclaimw {t : Nat} {rd ra : GReg} {s : State} (wf : Canonical s) : Yields (execLclaimw t rd ra s) := wf.compatCall

theorem Canonical.execLrelw {t : Nat} {rd ra : GReg} {s : State} (wf : Canonical s) : Yields (execLrelw t rd ra s) := wf.compatCall

/-! ### Events (R342) -/

theorem Canonical.execEvraise {t : Nat} {ra rb : GReg} {s : State} (wf : Canonical s) : Yields (execEvraise t ra rb s) := by
  unfold Machine.execEvraise
  dsimp only
  refine Canonical.instr1 wf (fun wf' => ?_)
  split
  · exact Canonical.ite wf'.raise.goOn wf'.trapAt
  · exact Canonical.ite wf'.trapAt wf'.post.setThread.goOn.settle

end Sys2Proof.Machine


/-! PROOFS. The canonical forms are kept (O60): the wire, routing and the link. Each lemma is about the
model function of its name. -/

namespace Sys2Proof.Machine

/-! ### Test loops (R285) -/

theorem Canonical.toPins {s : State} {p : Nat} {o : Output} {x : Looped} (wf : Canonical s) : Canonical (s.toPins p o x) :=
  Canonical.ite wf.setPort wf.emit

theorem Canonical.emitLane {s : State} {p lane : Nat} {l : List Bool} (wf : Canonical s) : Canonical (s.emitLane p lane l) := Canonical.ite wf wf.emit

theorem Canonical.arrives {s : State} {p : Nat} {o : Output} {x : Looped} {same : Looped → Bool} (wf : Canonical s) :
    CanonicalFst (s.arrives p o x same) := by
  unfold State.arrives
  dsimp only
  refine CanonicalFst.ite ?_ (CanonicalFst.ite (CanonicalFst.mk (Canonical.ite wf wf.emit)) (CanonicalFst.mk wf))
  split
  · exact CanonicalFst.ite (CanonicalFst.mk wf.setPort) (CanonicalFst.mk wf)
  · exact CanonicalFst.mk wf

/-! ### Link exercise mode (R259, R260) -/

theorem Canonical.exDraw {s : State} {p : Nat} {rate : Fld} (wf : Canonical s) : CanonicalFst (s.exDraw p rate) :=
  CanonicalFst.ite (CanonicalFst.mk wf) (CanonicalFst.mk wf.setPort)

theorem Canonical.exBlock {s : State} {p lane : Nat} {l : List Bool} (wf : Canonical s) : CanonicalFst (s.exBlock p lane l) :=
  CanonicalFst.ite (CanonicalFst.mk wf.exDraw.fst.takeFree.emit.sat) (CanonicalFst.mk wf.exDraw.fst)

/-! ### Blocks and markers (R227, R266, R267, R269) -/

theorem Canonical.sendMarker {s : State} {p lane : Nat} (wf : Canonical s) : Canonical (s.sendMarker p lane) := wf.setPort.exBlock.fst.toPins.emitLane

theorem Canonical.sendMarkers {s : State} {p : Nat} (wf : Canonical s) : Canonical (s.sendMarkers p) := wf.sendMarker.sendMarker.setPort

theorem Canonical.heard {s : State} {p lane : Nat} {l : List Bool} (wf : Canonical s) : CanonicalFst (s.heard p lane l) :=
  CanonicalFst.ite (CanonicalFst.mk wf) (CanonicalFst.mk wf.setPort)

theorem Canonical.sendBlock {s : State} {p : Nat} {ctrl : Bool} {b : List Byte} (wf : Canonical s) : CanonicalFst (s.sendBlock p ctrl b) :=
  CanonicalFst.mk (wf.setPort.exBlock.fst.emitLane.heard.fst.maybe (·.sendMarkers))

theorem Canonical.sendBlocks {s : State} {p : Nat} {ctrl : Bool} {b : List Byte} (wf : Canonical s) : CanonicalFst (s.sendBlocks p ctrl b) :=
  (CanonicalFst.mk wf).foldl (fun wf' => CanonicalFst.mk wf'.fst.sendBlock.fst)

theorem Canonical.sendItem {s : State} {p : Nat} {ctrl : Bool} {o : Output} {b : List Byte} {item : List Byte → Looped} (wf : Canonical s) :
    Canonical (s.sendItem p ctrl o b item) :=
  Canonical.ite wf.sendBlocks.fst.setPort wf.emit.sendBlocks.fst

/-! ### Link-control blocks (R227, R229, R232) -/

theorem Canonical.control {s : State} {p type : Nat} {body : List Byte} (wf : Canonical s) : Canonical (s.control p type body) := wf.setPort

theorem Canonical.sendControl {s : State} {p type : Nat} {body : List Byte} (wf : Canonical s) : Canonical (s.sendControl p type body) :=
  Canonical.ite wf.sendBlocks.fst wf.sendItem

theorem Canonical.idleToMarker {s : State} {p : Nat} (wf : Canonical s) : Canonical (s.idleToMarker p) := wf.foldl (fun wf' => wf'.sendControl)

/-! ### Discards (R195, R206, R210) -/

theorem Canonical.discard {s : State} {why : Discard} {x : InPkt} (wf : Canonical s) : Canonical (s.discard why x) := by
  unfold State.discard
  dsimp only
  refine Canonical.endTag (Canonical.returnCredit ?_)
  refine Canonical.ite ?_ ?_
  · split <;> exact (Canonical.ite wf.raise wf).tally
  · refine Canonical.wr (Canonical.wr (Canonical.wr (Canonical.wr (Canonical.wr (Canonical.wr ?_)))))
    split <;> exact (Canonical.ite wf.raise wf).tally

/-! ### Local delivery (R21, R195, R223) -/

theorem Canonical.deliverLocal {s : State} {x : InPkt} (wf : Canonical s) : Canonical (s.deliverLocal x) := by
  unfold State.deliverLocal
  dsimp only
  split
  · exact wf.stamp.stamp.returnCredit.endTag.andThen fun wf1 => Canonical.ite wf1.tally wf1.frame
  · exact wf.stamp.stamp.frame

/-! ### Arrival (R195, R226) -/

theorem Canonical.bufferMet {s : State} {port : Nat} (wf : Canonical s) : Canonical (s.bufferMet port) := wf.corrected

theorem Canonical.execRouterArrival {port lane : Nat} {s : State} (wf : Canonical s) : Yields (execRouterArrival port lane s) := by
  unfold Machine.execRouterArrival
  dsimp only
  refine Yields.clocked wf ?_
  split
  · exact wf.ok
  · split
    · exact wf.bufferMet.setPort.discard.ok
    · exact (wf.bufferMet.setPort.maybe (·.tally)).deliverLocal.ok
    · exact (wf.bufferMet.setPort.maybe (·.tally)).ok

/-! ### Decisions (R205, R206, R297) -/

theorem Canonical.inputOf {s : State} {x : InPkt} {row : Nat} (wf : Canonical s) : CanonicalFst (s.inputOf x row) :=
  CanonicalFst.ite (CanonicalFst.mk wf) (CanonicalFst.ite (CanonicalFst.mk wf) (CanonicalFst.ite (CanonicalFst.mk wf) (CanonicalFst.mk wf.takeFree)))

theorem Canonical.choose {s : State} {x : InPkt} (wf : Canonical s) : CanonicalFst (s.choose x) := by
  unfold State.choose
  dsimp only
  refine CanonicalFst.ite (CanonicalFst.mk wf) ?_
  split
  · exact CanonicalFst.mk wf.inputOf.fst
  · exact CanonicalFst.mk wf.inputOf.fst.frame

theorem Canonical.decideOutput {s : State} {x : InPkt} (wf : Canonical s) : Canonical (s.decideOutput x) := by
  unfold State.decideOutput
  dsimp only
  split
  · exact wf.choose.fst.discard
  · split
    · exact (Canonical.ite wf.choose.fst.tally wf.choose.fst.tally).returnCredit.endTag
    · exact wf.choose.fst.stamp.toEgress

theorem Canonical.decideAgain {s : State} {port : Nat} {x : InPkt} (wf : Canonical s) : Canonical (s.decideAgain port x) := by
  unfold State.decideAgain
  refine Canonical.ite (Canonical.ite wf.sat wf.tally) ?_
  split
  · split
    · exact wf.toEgress
    · exact wf.endTag
  · exact Canonical.ite wf.discard wf.decideOutput
  · exact wf.decideOutput

theorem Canonical.enter {s : State} {x : InPkt} (wf : Canonical s) : Canonical (s.enter x) := by
  unfold State.enter
  dsimp only
  split
  · split
    · exact Canonical.ite wf.toEgress wf.discard
    · exact Canonical.ite wf.deliverLocal wf.decideOutput
  · refine Canonical.ite wf.deliverLocal ?_
    split
    · exact wf.discard
    · split
      · exact wf.toEgress
      · exact wf.endTag
  · exact Canonical.ite wf.decideOutput (Canonical.ite wf.discard wf.deliverLocal)

theorem Canonical.execRoutingDecision {port lane : Nat} {s : State} (wf : Canonical s) : Yields (execRoutingDecision port lane s) := by
  unfold Machine.execRoutingDecision
  dsimp only
  refine Yields.clocked wf ?_
  refine Yields.ite wf.ok ?_
  refine Yields.ite ?_ ?_
  · split
    · exact Yields.ite wf.setPort.decideOutput.ok wf.ok
    · exact wf.ok
  · split
    · exact wf.ok
    · exact (Canonical.ite wf.frame wf.frame).samplePacket.fst.enter.ok

/-! ### Injection throttling (R215) -/

theorem Canonical.execThrottleRelease {group : Nat} {s : State} (wf : Canonical s) : Yields (execThrottleRelease group s) :=
  Yields.clocked wf (Yields.ite wf.wr.ok wf.ok)

/-! ### Waggle summaries (R207, R208) -/

theorem Canonical.sendSummary {s : State} {p : Nat} (wf : Canonical s) : Canonical (s.sendSummary p) := Canonical.ite wf wf.control

theorem Canonical.takeSummary {s : State} {p : Nat} (wf : Canonical s) : CanonicalFst (s.takeSummary p) := CanonicalFst.mk wf.setPort

theorem Canonical.execWagglePeriod {s : State} (wf : Canonical s) : Yields (execWagglePeriod s) :=
  Yields.clocked wf (wf.frame.foldl (fun wf' => wf'.sendSummary)).ok

/-! ### Swaps (R188 to R190, R200, R214, R217 to R219) -/

theorem Canonical.forceTurns {s : State} (wf : Canonical s) : CanonicalFst s.forceTurns :=
  (CanonicalFst.mk wf).foldl (fun wf' => CanonicalFst.ite wf' (CanonicalFst.mk wf'.fst.wr.wr))

theorem Canonical.mirrorStop {s : State} (wf : Canonical s) : Canonical s.mirrorStop := wf.maybe (·.wr)

theorem Canonical.swap {s : State} (wf : Canonical s) : Canonical s.swap :=
  Canonical.ite wf.wr.configError (wf.copySet.foldl (fun wf' => wf'.maybe (·.wr))).forceTurns.fst.copySet.wr.wr.wr.judgeAll.mirrorStop

theorem Canonical.swapGo {s : State} (wf : Canonical s) : Canonical s.swapGo := Canonical.ite wf (Canonical.ite wf.wr wf.swap)

/-! ### Coordinates announced on the links (R248) -/

theorem Canonical.announce {s old : State} (wf : Canonical s) : Canonical (s.announce old) := Canonical.ite wf (wf.foldl (fun wf' => wf'.control))

theorem Canonical.execTimedSwap {s : State} (wf : Canonical s) : Yields (execTimedSwap s) :=
  Yields.clocked wf (Yields.ite wf.wr.swap.announce.ok wf.ok)

/-! ### Management packets (R222 to R226) -/

theorem Canonical.sendMgmt {s : State} {p : Packet} (wf : Canonical s) : Canonical (s.sendMgmt p) := by
  unfold State.sendMgmt
  dsimp only
  split
  · exact Canonical.ite wf.injectOwn (Canonical.ite (Canonical.ite wf.frame wf.samplePacket.fst.enter) wf)
  · exact wf

theorem Canonical.mgmtReply {s : State} {x : InPkt} {h : MgmtHeader} {status : Nat} {payload : List Byte} (wf : Canonical s) :
    Canonical (s.mgmtReply x h status payload) := by
  unfold State.mgmtReply
  dsimp only
  refine Canonical.ite (Canonical.ite wf.emit wf.sendMgmt) ?_
  split
  · exact wf.eidMet.sendMgmt
  · exact wf.eidMet

theorem Canonical.takeMgmt {s : State} {x : InPkt} (wf : Canonical s) : Canonical (s.takeMgmt x) := by
  unfold State.takeMgmt
  dsimp only
  split
  · exact Canonical.ite wf.emit (Canonical.ite wf.mgmtReply (Canonical.ite wf.mgmtReply wf.frame))
  · exact wf

theorem Canonical.execMgmtDirectedForward {s : State} (wf : Canonical s) : Yields (execMgmtDirectedForward s) := by
  unfold Machine.execMgmtDirectedForward
  dsimp only
  refine Yields.clocked wf ?_
  split
  · exact wf.ok
  · split
    · exact Yields.ite wf.frame.takeMgmt.ok wf.frame.sendMgmt.ok
    · exact wf.frame.ok

/-! ### Sending (R227 to R230, R234, R241) -/

theorem Canonical.setAvail {s : State} {p v : Nat} {x : ℤ} (wf : Canonical s) : Canonical (s.setAvail p v x) := wf.wr

theorem Canonical.frame0 {s : State} {p : Nat} {r : Replay} {replay corrupt : Bool} (wf : Canonical s) : Canonical (s.frame0 p r replay corrupt) := by
  unfold State.frame0
  exact (wf.setAvail.maybe (·.setPort)).count.count.sendItem

theorem Canonical.replayShown {s : State} {p : Nat} (wf : Canonical s) : Canonical (s.replayShown p) := wf.wr

theorem Canonical.sendNew0 {s : State} {p vl cells : Nat} {bytes : List Byte} {stomped corrupt : Bool} (wf : Canonical s) :
    Canonical (s.sendNew0 p vl cells bytes stomped corrupt) :=
  wf.setPort.replayShown.wr.frame0

theorem Canonical.sendFirst {s : State} {p vl cells : Nat} {bytes : List Byte} {stomped : Bool} (wf : Canonical s) :
    Canonical (s.sendFirst p vl cells bytes stomped) :=
  (wf.exDraw.fst.maybe (·.sat)).sendNew0

theorem Canonical.mirror {s : State} {p dir : Nat} {bytes : List Byte} {stomped : Bool} (wf : Canonical s) :
    Canonical (s.mirror p dir bytes stomped) :=
  Canonical.ite (Canonical.ite wf.frame wf.sat) wf

theorem Canonical.mirrorFits {s : State} {p : Nat} (wf : Canonical s) : Canonical (s.mirrorFits p) := by
  unfold State.mirrorFits
  dsimp only
  split
  · exact wf.maybe (·.frame.sat)
  · exact wf

theorem Canonical.sendNew {s : State} {p vl cells : Nat} {bytes : List Byte} {stomped : Bool} (wf : Canonical s) :
    Canonical (s.sendNew p vl cells bytes stomped) :=
  wf.sendFirst.mirror

theorem Canonical.sendReplay {s : State} {p : Nat} {r : Replay} (wf : Canonical s) : Canonical (s.sendReplay p r) := wf.frame0.mirror

theorem Canonical.linkAck {s : State} {p : Nat} {nak : Bool} (wf : Canonical s) : Canonical (s.linkAck p nak) := Canonical.ite wf.setPort wf.control

theorem Canonical.ackBody {s : State} {p : Nat} {b : List Byte} (wf : Canonical s) : CanonicalFst (s.ackBody p b) := CanonicalFst.mk wf.setPort

theorem Canonical.linkNak {s : State} {p : Nat} (wf : Canonical s) : Canonical (s.linkNak p) := wf.maybe (·.wr.linkAck)

theorem Canonical.sendMark {s : State} {p : Nat} (wf : Canonical s) : Canonical (s.sendMark p) := wf.setPort.control

/-! ### Failover (R254 to R256) -/

theorem Canonical.discardUnacked {s : State} {p : Nat} (wf : Canonical s) : Canonical (s.discardUnacked p) := by
  unfold State.discardUnacked
  dsimp only
  refine wf.setPort.replayShown.andThen fun wf1 => Canonical.foldl (Canonical.ite wf1 wf1.tally) (fun wf' => ?_)
  split
  · exact wf'.swarmAbort
  · exact wf'

theorem Canonical.failOver {s : State} {p : Nat} (wf : Canonical s) : Canonical (s.failOver p) := by
  unfold State.failOver
  dsimp only
  refine Canonical.ite wf ?_
  split
  · exact Canonical.ite wf.setPort.control wf.discardUnacked
  · exact wf.discardUnacked

theorem Canonical.linkDown {s : State} {p cause : Nat} (wf : Canonical s) : Canonical (s.linkDown p cause) :=
  Canonical.ite wf (((wf.setPort.maybe (·.frame.sat)).wr.wr.wr.emit.raise.tally.failOver.foldl (fun wf' => wf'.discardUnacked)).foldl
    (fun wf' => wf'.decideAgain)).swarmLinkDown.settle

/-! ### Violations (R257, R258) and replay events (R240, R251) -/

theorem Canonical.violation {s : State} {p code : Nat} {b : List Byte} {down : Option Nat} (wf : Canonical s) :
    Canonical (s.violation p code b down) := by
  unfold State.violation
  dsimp only
  refine Canonical.tally ?_
  refine Canonical.ite ?_ ?_
  · refine Canonical.raise ?_
    split
    · exact (Canonical.ite wf (wf.wr.wr.foldl (fun wf' => wf'.wr))).setPort.linkDown
    · exact (Canonical.ite wf (wf.wr.wr.foldl (fun wf' => wf'.wr))).setPort
  · split
    · exact (Canonical.ite wf (wf.wr.wr.foldl (fun wf' => wf'.wr))).setPort.linkDown
    · exact (Canonical.ite wf (wf.wr.wr.foldl (fun wf' => wf'.wr))).setPort

theorem Canonical.replayEvent {s : State} {p : Nat} (wf : Canonical s) : Canonical (s.replayEvent p) := wf.tally.setPort.maybe (·.linkDown)

/-! ### Receiving packets (R235, R237, R242, R257) -/

theorem Canonical.creditDue {s : State} {p v c : Nat} (wf : Canonical s) : Canonical (s.creditDue p v c) := wf.setPort

theorem Canonical.accept {s : State} {p v c : Nat} {b cap : List Byte} (wf : Canonical s) : Canonical (s.accept p v c b cap) :=
  Canonical.ite wf.creditDue.violation wf.samplePacket.fst.stamp.setPort

theorem Canonical.syncBad {s : State} {p : Nat} {lanes : List Nat} (wf : Canonical s) : Canonical (s.syncBad p lanes) :=
  wf.foldl (fun wf' => wf'.maybe (·.tally))

/-! ### Receiving link-control blocks (R232, R233, R257) -/

theorem Canonical.blockIn {s : State} {p type : Nat} {b : List Byte} {k : List Byte → State → State} (wf : Canonical s)
    (takes : ∀ {c u}, Canonical u → Canonical (k c u)) : Canonical (s.blockIn p type b k) := by
  unfold State.blockIn
  split
  next _ _ eq => exact takes (CanonicalFst.of_eq eq wf.arrives)
  next _ _ _ eq => exact CanonicalFst.of_eq eq wf.arrives

/-- The answer to a breach keeps the forms. -/
def Breach.Keeps (x : Breach) : Prop := ∀ {u}, Canonical u → Canonical (x.answer u)

theorem Canonical.onBlock {s : State} {p type : Nat} {b : List Byte} {live : Bool} {breach : State → Option Breach} {f : State → State}
    (wf : Canonical s) (answers : ∀ {u x}, breach u = some x → x.Keeps) (takes : ∀ {u}, Canonical u → Canonical (f u)) :
    Canonical (s.onBlock p type b live breach f) := by
  have wf' : Canonical (s.syncBad p ((b.drop 32).map (·.toNat))) := wf.syncBad
  unfold State.onBlock
  refine Canonical.ite wf' (Canonical.ite wf'.tally (Canonical.ite wf'.violation (Canonical.ite wf' (Canonical.ite wf'.violation
    (Canonical.ite (takes wf') ?_)))))
  split
  · exact wf'.violation
  next x eq => exact answers eq wf'.violation

/-- Where no rule judges a block beyond its format. -/
theorem Canonical.onPlainBlock {s : State} {p type : Nat} {b : List Byte} {live : Bool} {f : State → State} (wf : Canonical s)
    (takes : ∀ {u}, Canonical u → Canonical (f u)) : Canonical (s.onBlock p type b live (fun _ => none) f) :=
  wf.onBlock (fun eq => nomatch eq) takes

theorem Canonical.release {s : State} {p a : Nat} (wf : Canonical s) : Canonical (s.release p a) := wf.setPort.replayShown.wr

theorem Canonical.addCredits {s : State} {p : Nat} {b : List Byte} (wf : Canonical s) : CanonicalFst (s.addCredits p b) :=
  (CanonicalFst.mk wf).foldl (fun wf' => CanonicalFst.ite (CanonicalFst.mk wf'.fst.setAvail) (CanonicalFst.mk wf'.fst.setAvail))

theorem Canonical.markUp {s : State} {p : Nat} (wf : Canonical s) : Canonical (s.markUp p) := wf.maybe (·.sendMark)

theorem Canonical.execAckCredit {port : Nat} {b : List Byte} {s : State} (wf : Canonical s) : Yields (execAckCredit port b s) := by
  unfold Machine.execAckCredit
  extract_lets breach
  refine Yields.atPins wf (Canonical.ok (wf.blockIn fun {c u} wf' => wf'.onBlock ?_ ?_))
  · intro u x eq
    dsimp only [breach] at eq
    split at eq
    · exact nomatch eq
    · rw [← Option.some.inj eq]
      intro u wf'
      dsimp only
      split
      · exact wf'.markUp
      · exact wf'
  · intro u wf'
    have wf2 : Canonical (if u.ackCode port (beAt c 2 3) = 0 then u.release port (beAt c 2 3) else u) :=
      Canonical.ite wf'.release wf'
    have wf3 := wf2.addCredits (p := port) (b := c) |>.fst
    refine Canonical.ite wf'.violation.markUp ?_
    refine Canonical.ite (Canonical.replayEvent ?_) ?_ <;> exact Canonical.ite wf3.violation (wf3.maybe (·.violation))

theorem Canonical.execResyncMark {port : Nat} {b : List Byte} {s : State} (wf : Canonical s) : Yields (execResyncMark port b s) :=
  Yields.atPins wf (wf.blockIn fun wf' => wf'.onPlainBlock fun wf'' => wf''.setPort.control).ok

theorem Canonical.execResyncReport {port : Nat} {b : List Byte} {s : State} (wf : Canonical s) : Yields (execResyncReport port b s) := by
  unfold Machine.execResyncReport
  refine Yields.atPins wf (Canonical.ok (wf.blockIn fun wf' => wf'.onBlock ?_ ?_))
  · intro u x eq
    unfold State.reportBreach at eq
    split at eq
    · exact Option.some.inj eq ▸ fun wf' => wf'
    split at eq
    · exact Option.some.inj eq ▸ fun wf' => wf'
    · exact nomatch eq
  · intro u wf'
    dsimp only
    refine Canonical.ite wf'.violation ?_
    generalize set_ : List.foldl _ _ _ = r
    have wf2 : Canonical r.1 :=
      (set_ ▸ CanonicalFst.foldl (CanonicalFst.mk wf') fun wf' => CanonicalFst.mk wf'.fst.setAvail : CanonicalFst r).fst
    split
    · exact (wf2.setPort.maybe (·.tally)).violation
    · exact wf2.setPort.maybe (·.tally)

theorem Canonical.execWaggle {port : Nat} {b : List Byte} {s : State} (wf : Canonical s) : Yields (execWaggle port b s) :=
  Yields.atPins wf (wf.blockIn fun wf' => wf'.onPlainBlock fun wf'' =>
    Canonical.ite wf''.setPort (Canonical.ite wf''.setPort (Canonical.ite wf''.setPort.frame wf''.setPort))).ok

/-! ### Link-up (R247 to R250, R280) -/

theorem Canonical.eyeOff {s : State} {p lane : Nat} (wf : Canonical s) : Canonical (s.eyeOff p lane) := wf.wr.wr

theorem Canonical.beginTraining {s : State} {p : Nat} (wf : Canonical s) : Canonical (s.beginTraining p) :=
  (wf.wr.wr.wr.wr.wr.foldl (fun wf' => wf'.wr.wr.wr.wr.eyeOff)).setPort.andThen fun wf1 => Canonical.ite wf1 wf1.emit

theorem Canonical.tryTrain {s : State} {p : Nat} (wf : Canonical s) : Canonical (s.tryTrain p) := wf.maybe (·.beginTraining)

theorem Canonical.latchFar {s : State} {p : Nat} {b : List Byte} (wf : Canonical s) : Canonical (s.latchFar p b) := by
  unfold State.latchFar
  exact wf.wr.wr.wr.wr.setPort.judgeAll

theorem Canonical.linkUp {s : State} {p : Nat} {b : List Byte} (wf : Canonical s) : Canonical (s.linkUp p b) := by
  unfold State.linkUp
  exact (wf.discardUnacked.setPort.wr.wr.wr.wr.foldl (fun wf' => wf'.setAvail)).wr.latchFar

theorem Canonical.tryUp {s : State} {p : Nat} (wf : Canonical s) : Canonical (s.tryUp p) := by
  unfold State.tryUp
  dsimp only
  split
  · exact wf.maybe (·.linkUp)
  · exact wf

theorem Canonical.execTrain {port : Nat} {b : List Byte} {s : State} (wf : Canonical s) : Yields (execTrain port b s) := by
  unfold Machine.execTrain
  dsimp only
  refine Yields.atPins wf (Canonical.ok (wf.blockIn fun wf' => wf'.onBlock ?_ ?_))
  · intro u x eq
    unfold State.trainBreach at eq
    split at eq
    · exact Option.some.inj eq ▸ fun wf' => wf'
    · exact nomatch eq
  · intro u wf'
    refine Canonical.ite ?_ wf'.wr.wr.setPort.tryUp
    split
    · exact wf'.violation
    · exact wf'.setPort.latchFar

theorem Canonical.execTrainTimer {port : Nat} {s : State} (wf : Canonical s) : Yields (execTrainTimer port s) :=
  Yields.clocked wf (Yields.ite wf.setPort.control.ok wf.ok)

theorem Canonical.controlLeaves {s : State} {p : Nat} {x : Nat × List Byte} (wf : Canonical s) : Canonical (s.controlLeaves p x) := by
  unfold State.controlLeaves
  dsimp only
  split
  · exact wf.setPort.ackBody.fst.sendControl
  · exact wf.setPort.frame.sendControl
  · exact Canonical.ite wf.setPort.sendControl wf.setPort.takeSummary.fst.setPort.sendControl
  · exact wf.setPort.sendControl.setPort.maybe (·.setPort.tryUp)
  · exact wf.setPort.sendControl

theorem Canonical.execTrainingTimeout {port : Nat} {s : State} (wf : Canonical s) : Yields (execTrainingTimeout port s) :=
  Yields.clocked wf (Yields.ite wf.wr.wr.ok wf.ok)

theorem Canonical.execHoldoffExpiry {port : Nat} {s : State} (wf : Canonical s) : Yields (execHoldoffExpiry port s) :=
  Yields.clocked wf (Yields.ite wf.tryTrain.ok wf.ok)

theorem Canonical.linkEnabled {s : State} {p : Nat} (wf : Canonical s) : Canonical (s.linkEnabled p) := wf.maybe (·.tryTrain)

theorem Canonical.linkOff {s : State} {p : Nat} (wf : Canonical s) : Canonical (s.linkOff p) := (wf.linkDown.maybe (·.emit)).wr

/-! ### Timers (R236, R240, R243, R244, R251) -/

theorem Canonical.execLinkAckTimer {port : Nat} {s : State} (wf : Canonical s) : Yields (execLinkAckTimer port s) :=
  Yields.clocked wf (Yields.ite wf.linkAck.ok wf.ok)

theorem Canonical.execReplayTimeout {port : Nat} {s : State} (wf : Canonical s) : Yields (execReplayTimeout port s) :=
  Yields.clocked wf (Yields.ite wf.replayEvent.ok wf.ok)

theorem Canonical.execResyncPeriod {port : Nat} {s : State} (wf : Canonical s) : Yields (execResyncPeriod port s) :=
  Yields.clocked wf (Yields.ite wf.sendMark.ok wf.ok)

theorem Canonical.execLockLossTimeout {port : Nat} {s : State} (wf : Canonical s) : Yields (execLockLossTimeout port s) :=
  Yields.clocked wf (Yields.ite wf.linkDown.ok wf.ok)

/-! ### Failover over the partner (R254 to R256) -/

theorem Canonical.failoverAnswer {s : State} {port : Nat} {b : List Byte} {accept : Bool} (wf : Canonical s) :
    Canonical (s.failoverAnswer port b accept) :=
  Canonical.ite wf wf.control

theorem Canonical.execFailoverRequest {port : Nat} {b : List Byte} {s : State} (wf : Canonical s) : Yields (execFailoverRequest port b s) := by
  unfold Machine.execFailoverRequest
  refine Yields.atPins wf (Yields.ite wf.ok (Canonical.ok (wf.blockIn fun wf' => wf'.onBlock ?_ ?_)))
  · intro u x eq
    split at eq
    · exact nomatch eq
    · exact Option.some.inj eq ▸ fun wf' => wf'.failoverAnswer
  · intro u wf'
    exact (Canonical.ite wf'.linkDown wf'.violation).failoverAnswer

theorem Canonical.execFailoverResponse {port : Nat} {b : List Byte} {s : State} (wf : Canonical s) : Yields (execFailoverResponse port b s) := by
  unfold Machine.execFailoverResponse
  dsimp only
  refine Yields.atPins wf ?_
  refine Yields.ite wf.ok ?_
  refine Canonical.ok ?_
  refine Canonical.blockIn wf (fun wf' => ?_)
  refine Canonical.onBlock wf' (fun eq => nomatch eq) (fun wf'' => ?_)
  split
  · exact wf''
  · exact wf''.release.setPort.replayShown.setPort.andThen fun wf1 => Canonical.ite wf''.tally.discardUnacked (Canonical.ite wf1 wf1.tally)

theorem Canonical.execFailoverTimeout {port : Nat} {s : State} (wf : Canonical s) : Yields (execFailoverTimeout port s) :=
  Yields.clocked wf (Yields.ite wf.tally.discardUnacked.ok wf.ok)

/-! ### Held packets of link exercise mode (R260, R262) -/

theorem Canonical.releaseHeld {s : State} {p : Nat} {lane : Option Nat} (wf : Canonical s) : Canonical (s.releaseHeld p lane) := wf.setPort

theorem Canonical.execReorderRelease {port : Nat} {s : State} (wf : Canonical s) : Yields (execReorderRelease port s) :=
  Yields.clocked wf wf.releaseHeld.ok

theorem Canonical.exerciseStop {s : State} (wf : Canonical s) : Canonical s.exerciseStop :=
  Canonical.ite wf (wf.foldl (fun wf' => (wf'.maybe (·.wr)).releaseHeld))

theorem Canonical.dropOwner {s : State} (wf : Canonical s) : Canonical s.dropOwner := wf.frame.wr.exerciseStop

end Sys2Proof.Machine


/-! PROOFS. The canonical forms are kept (O60): lanes, the lifetime monitor and start-up. Each lemma is about the
model function of its name. -/

namespace Sys2Proof.Machine

/-! ### Stages and lock (R274, R280, R281) -/

theorem Canonical.lanesShown {s : State} {p : Nat} (wf : Canonical s) : Canonical (s.lanesShown p) :=
  Canonical.ite (Canonical.ite wf.setPort wf).wr (Canonical.ite wf.setPort wf)

theorem Canonical.execSignalDetect {port lane : Nat} {s : State} (wf : Canonical s) : Yields (execSignalDetect port lane s) :=
  Yields.atPins wf (Yields.ite wf.wr.lanesShown.ok wf.ok)

theorem Canonical.execCdrLock {port lane : Nat} {s : State} (wf : Canonical s) : Yields (execCdrLock port lane s) :=
  Yields.atPins wf (Yields.ite wf.wr.lanesShown.ok wf.ok)

theorem Canonical.execBlockLockAcquired {port lane : Nat} {s : State} (wf : Canonical s) : Yields (execBlockLockAcquired port lane s) :=
  Yields.atPins wf (Yields.ite wf.wr.lanesShown.ok wf.ok)

theorem Canonical.lockLossEvent {s : State} {p lane : Nat} (wf : Canonical s) : Canonical (s.lockLossEvent p lane) := wf.maybe (·.raise)

theorem Canonical.loseBlockLock {s : State} {p lane : Nat} (wf : Canonical s) : Canonical (s.loseBlockLock p lane) :=
  wf.maybe (·.wr.wr.eyeOff.lockLossEvent.tally.lanesShown)

theorem Canonical.execBlockLockLoss {port lane : Nat} {s : State} (wf : Canonical s) : Yields (execBlockLockLoss port lane s) :=
  Yields.clocked wf (Yields.ite wf.loseBlockLock.ok wf.ok)

theorem Canonical.execSignalLoss {port lane : Nat} {cdrOnly : Bool} {s : State} (wf : Canonical s) : Yields (execSignalLoss port lane cdrOnly s) :=
  Yields.clocked wf (Yields.ite wf.ok (Canonical.ite wf wf.wr).wr.lanesShown.ok)

/-! ### Alignment markers (R267, R269, R272, R273) -/

theorem Canonical.markerIn {s : State} {port lane : Nat} {marker : List Byte} {bip : Byte} (wf : Canonical s) :
    Canonical (s.markerIn port lane marker bip) :=
  Canonical.ite (Canonical.ite (Canonical.ite (wf.maybe (·.syncBad)).setPort (wf.maybe (·.syncBad)).setPort.tally).lanesShown
    (wf.maybe (·.syncBad)).setPort.tally) (wf.maybe (·.syncBad))

theorem Canonical.execAlignmentMarkerReceive {port lane : Nat} {marker : List Byte} {bip : Byte} {s : State} (wf : Canonical s) :
    Yields (execAlignmentMarkerReceive port lane marker bip s) := by
  unfold Machine.execAlignmentMarkerReceive
  refine Yields.atPins wf ?_
  split
  next _ _ _ _ eq => exact (CanonicalFst.of_eq eq wf.arrives).markerIn.ok
  next _ _ eq => exact (CanonicalFst.of_eq eq wf.arrives).ok

theorem Canonical.loseAmLock {s : State} {p lane : Nat} (wf : Canonical s) : Canonical (s.loseAmLock p lane) := wf.setPort.wr.wr.wr.lockLossEvent

theorem Canonical.execAmLockAcquired {port lane logical skew : Nat} {s : State} (wf : Canonical s) :
    Yields (execAmLockAcquired port lane logical skew s) :=
  Yields.atPins wf (Yields.ite (Yields.ite (wf.setPort.maybe (·.loseAmLock)).setPort.lanesShown.ok (Yields.ite wf.setPort.setPort.wr.wr.lanesShown.ok
    wf.setPort.setPort.wr.wr.wr.wr.wr.lanesShown.ok)) wf.ok)

theorem Canonical.execAmLockLoss {port lane : Nat} {s : State} (wf : Canonical s) : Yields (execAmLockLoss port lane s) :=
  Yields.clocked wf (Yields.ite wf.loseAmLock.lanesShown.ok wf.ok)

/-! ### Patterns (R282 to R284) -/

theorem Canonical.checkerLost {s : State} {p lane : Nat} (wf : Canonical s) : Canonical (s.checkerLost p lane) := wf.wr.wr

theorem Canonical.execCheckerLock {port lane : Nat} {s : State} (wf : Canonical s) : Yields (execCheckerLock port lane s) :=
  Yields.clocked wf (Yields.ite wf.wr.ok wf.ok)

theorem Canonical.execCheckerLockLoss {port lane : Nat} {s : State} (wf : Canonical s) : Yields (execCheckerLockLoss port lane s) :=
  Yields.clocked wf (Yields.ite wf.checkerLost.ok wf.ok)

theorem Canonical.setPattern {s : State} {p lane : Nat} {x : Pattern} (wf : Canonical s) : Canonical (s.setPattern p lane x) := wf.setPort

theorem Canonical.patternBurst {s : State} {p lane : Nat} (wf : Canonical s) : Canonical (s.patternBurst p lane) := wf.maybe (·.setPattern.emit)

theorem Canonical.checkerRestart {s : State} {p lane : Nat} (wf : Canonical s) : Canonical (s.checkerRestart p lane) := wf.setPattern.wr

theorem Canonical.countChecked {s : State} {p lane n : Nat} (wf : Canonical s) : Canonical (s.countChecked p lane n) := wf.setPattern.maybe (·.sat)

theorem Canonical.checkBit {s : State} {p lane : Nat} {b : Bool} (wf : Canonical s) : Canonical (s.checkBit p lane b) := by
  unfold State.checkBit
  dsimp only
  split
  · exact wf.setPattern.maybe (·.countChecked)
  · exact (wf.setPattern.maybe (·.countChecked)).wr
  · exact (wf.setPattern.maybe (·.countChecked)).sat
  · exact (wf.setPattern.maybe (·.countChecked)).sat.checkerLost

theorem Canonical.genBits {s : State} {p lane n : Nat} (wf : Canonical s) : CanonicalFst (s.genBits p lane n) :=
  CanonicalFst.mk (wf.maybe (·.takeFree)).setPattern

theorem Canonical.outsideBits {s : State} {p lane n : Nat} (wf : Canonical s) : Canonical (s.outsideBits p lane n) := wf.takeFree.sat.countChecked

theorem Canonical.patternLane {s : State} {p lane n : Nat} (wf : Canonical s) : Canonical (s.patternLane p lane n) :=
  (wf.maybe (·.outsideBits)).andThen fun wf1 => Canonical.ite wf1 (wf1.genBits.fst.emitLane.maybe (·.foldl (fun wf' => wf'.checkBit)))

theorem Canonical.patternTick {s : State} {ns : Nat} (wf : Canonical s) : Canonical (s.patternTick ns) := wf.foldl (fun wf' => wf'.patternLane)

theorem Canonical.execInjectIntervalBurst {port lane : Nat} {s : State} (wf : Canonical s) : Yields (execInjectIntervalBurst port lane s) :=
  Yields.clocked wf (Yields.ite wf.patternBurst.ok wf.ok)

/-! ### Eyes and retirement (R287, R288) -/

theorem Canonical.execEyeMonitorUpdate {port lane mv ui : Nat} {s : State} (wf : Canonical s) : Yields (execEyeMonitorUpdate port lane mv ui s) :=
  Yields.clocked wf (Yields.ite wf.setPort.wr.wr.ok wf.ok)

theorem Canonical.lanesOff {s : State} {p : Nat} (wf : Canonical s) : Canonical (s.lanesOff p) :=
  wf.wr.wr.foldl (fun wf' => wf'.wr.wr.wr.wr.eyeOff.checkerRestart)

theorem Canonical.retirePort {s : State} {p : Nat} (wf : Canonical s) : Canonical (s.retirePort p) := wf.linkOff.lanesOff

theorem Canonical.unretirePort {s : State} {p : Nat} (wf : Canonical s) : Canonical (s.unretirePort p) := wf.linkEnabled

/-! ### Retirement (R421 to R423) -/

theorem Canonical.retireShown {s : State} (wf : Canonical s) : Canonical s.retireShown := wf.wr.wr.wr

theorem Canonical.logRetire {s : State} {r : Retire} (wf : Canonical s) : Canonical (s.logRetire r) := wf.addRecord.frame.retireShown

theorem Canonical.logUnretire {s : State} {r : Retire} (wf : Canonical s) : Canonical (s.logUnretire r) := wf.addRecord.frame.retireShown

theorem Canonical.retireFor {s : State} {r : Retire} (wf : Canonical s) : Canonical (s.retireFor r) := wf.wr.retirePort.logRetire

theorem Canonical.retireBySoftware {s : State} {p : Nat} {on : Bool} (wf : Canonical s) : Canonical (s.retireBySoftware p on) :=
  Canonical.ite wf (Canonical.ite wf.retireFor wf.logUnretire.wr.unretirePort)

theorem Canonical.propose {s : State} {r : Retire} (wf : Canonical s) : Canonical (s.propose r) :=
  Canonical.ite wf (Canonical.ite wf.raise (Canonical.ite wf.sat wf.frame.retireShown.raise))

/-! ### Re-plan (R417 to R420) -/

theorem Canonical.replanDone {s : State} (wf : Canonical s) : Canonical s.replanDone := wf.wr.wr.sat.frame.addRecord.raise

theorem Canonical.replan {s : State} {m : Measurement} (wf : Canonical s) : Canonical (s.replan m) :=
  Canonical.ite wf (((((wf.wr.wr.wr.frame.wr.wr.wr.maybe (·.replanDone)).maybe (·.raise)).maybe (·.raise)).foldl (fun wf' => wf'.propose)).foldl
    (fun wf' => wf'.propose))

/-! ### The core rail (R419, R459, R460) -/

theorem Canonical.execVcoreStep {s : State} (wf : Canonical s) : Yields (execVcoreStep s) := Yields.clocked wf (Yields.ite wf.frame.emit.ok wf.ok)

theorem Canonical.execAvsRetryTimer {s : State} (wf : Canonical s) : Yields (execAvsRetryTimer s) :=
  Yields.clocked wf (Yields.ite wf.frame.sat.emit.ok wf.ok)

theorem Canonical.avsResponse {s : State} {good : Bool} {readMv : Nat} (wf : Canonical s) : CanonicalFst (s.avsResponse good readMv) :=
  CanonicalFst.ite (CanonicalFst.ite (CanonicalFst.ite (CanonicalFst.mk wf.frame.wr.frame.emit.replanDone) (CanonicalFst.mk wf.frame.wr))
    (CanonicalFst.ite (CanonicalFst.mk wf.frame) (CanonicalFst.mk wf.frame.wr.replanDone))) (CanonicalFst.ite (CanonicalFst.ite (CanonicalFst.mk
    wf.frame) (CanonicalFst.mk (wf.frame.wr.maybe (·.wr)))) (CanonicalFst.mk wf))

theorem Canonical.execReplanTimer {m : Measurement} {s : State} (wf : Canonical s) : Yields (execReplanTimer m s) :=
  Yields.clocked wf (Yields.ite wf.frame.replan.ok wf.ok)

/-! ### Answers to proposals (R422) -/

theorem Canonical.proposalGone {s : State} (wf : Canonical s) : Canonical s.proposalGone := wf.frame.retireShown

theorem Canonical.approve {s : State} {id : Nat} (wf : Canonical s) : Canonical (s.approve id) := by
  unfold State.approve
  split
  · exact wf
  · exact Canonical.ite wf.proposalGone.logRetire wf.proposalGone.retireFor

theorem Canonical.declineProposal {s : State} {id : Nat} (wf : Canonical s) : Canonical (s.declineProposal id) := by
  unfold State.declineProposal
  dsimp only
  split
  · exact wf
  · exact wf.proposalGone.frame

/-! ### The lifetime log (R424 to R427) -/

theorem Canonical.logWrite {s : State} {r : List Word} (wf : Canonical s) : Canonical (s.logWrite r) := wf.flashWrite.frame.wr

theorem Canonical.logOwn {s : State} {type body body2 : Nat} {copy : Bool} (wf : Canonical s) : Canonical (s.logOwn type body body2 copy) :=
  wf.logWrite

theorem Canonical.logOpen {s : State} (wf : Canonical s) : Canonical s.logOpen :=
  (wf.frame.flashErase.logOwn.foldl (fun wf' => wf'.logOwn)).flashErase

theorem Canonical.execLogRecordProgram {good : Bool} {s : State} (wf : Canonical s) : Yields (execLogRecordProgram good s) := by
  unfold Machine.execLogRecordProgram
  dsimp only
  refine Yields.atPins wf ?_
  split
  · exact wf.ok
  · exact Yields.ite wf.ok (Yields.ite wf.frame.wr.raise.raise.ok ((wf.maybe (·.frame.wr)).maybe (·.logOpen)).logWrite.frame.wr.ok)

/-! ### Restoring from the log (R425, R427) -/

theorem Canonical.restoreRecord {s : State} {r : List Word} (wf : Canonical s) : Canonical (s.restoreRecord r) :=
  Canonical.ite wf.wr.frame (Canonical.ite wf.wr.wr (Canonical.ite wf.wr.frame (Canonical.ite wf.wr.frame (wf.wr.maybe (·.frame.wr)))))

theorem Canonical.logRestore {s : State} (wf : Canonical s) : Canonical s.logRestore := by
  unfold State.logRestore
  dsimp only
  refine Canonical.retireShown (Canonical.frame ?_)
  split
  · exact Canonical.ite (wf.frame.wr.wr.foldl (fun wf' => wf'.restoreRecord)).sat.wr.wr.wr.frame.wr (wf.frame.wr.wr.foldl
      (fun wf' => wf'.restoreRecord)).sat.wr.wr.wr.frame.wr
  · exact (wf.frame.wr.wr.foldl (fun wf' => wf'.restoreRecord)).sat.wr.wr.wr.frame.wr

/-! ### Hours, temperature, calendar (R426, R428, R429) -/

theorem Canonical.execPohHour {s : State} (wf : Canonical s) : Yields (execPohHour s) := Yields.ite wf.ok wf.frame.sat.addRecord.ok

theorem Canonical.thermalCycle {s : State} {tj : Nat} (wf : Canonical s) : Canonical (s.thermalCycle tj) := by
  unfold State.thermalCycle
  dsimp only
  split
  · exact wf.frame
  · exact Canonical.ite wf.frame.sat wf.frame

theorem Canonical.setActive {s : State} {k : Nat} {on : Bool} (wf : Canonical s) : Canonical (s.setActive k on) := wf.wr

theorem Canonical.execThermalSample {tj : Nat} {s : State} (wf : Canonical s) : Yields (execThermalSample tj s) :=
  Yields.clocked wf (Yields.ite wf.ok (Yields.ite (Yields.ite wf.frame.wr.high.thermalCycle.ok wf.frame.wr.high.thermalCycle.setActive.raise.ok)
    wf.frame.wr.high.thermalCycle.setActive.ok))

theorem Canonical.calendarSet {s : State} {seconds : Nat} (wf : Canonical s) : Canonical (s.calendarSet seconds) := wf.wr.wr.wr.frame.addRecord

/-! ### The store (R38, R433, R443) -/

theorem Canonical.loadParts {s : State} (wf : Canonical s) : Canonical s.loadParts := by
  unfold State.loadParts
  dsimp only
  refine Canonical.foldl ?_ fun wf' => wf'.wr.wr.wr
  split
  · exact wf
  · exact (wf.configError : Canonical (s.configError 0x400))

theorem Canonical.zeroise {s : State} (wf : Canonical s) : Canonical s.zeroise := wf.zeroise_store.clearResv

/-! ### Equalisation (R277 to R279) -/

theorem Canonical.platformError {s : State} {a : Nat} (wf : Canonical s) : Canonical (s.platformError a) := wf.raise

theorem Canonical.eqPort {s : State} {r p : Nat} (wf : Canonical s) : Canonical (s.eqPort r p) := by
  unfold State.eqPort
  exact Canonical.ite wf.wr.wr.wr.wr wf.wr.wr.platformError

theorem Canonical.eqApply {s : State} {result r p : Nat} (wf : Canonical s) : Canonical (s.eqApply result r p) :=
  (Canonical.ite wf.eqPort wf.wr).maybe (·.wr)

theorem Canonical.eqLoad {s : State} (wf : Canonical s) : Canonical s.eqLoad :=
  ((Canonical.ite wf wf.platformError).foldl (fun wf' => wf'.eqApply)).wr.wr.wr.wr.wr

/-! ### Forager firmware (R353) -/

theorem Canonical.startHive {s : State} {h : Nat} (wf : Canonical s) : Canonical (s.startHive h) := by
  have wf' : Canonical { s with fg := { s.fg with
      sram := mset s.fg.sram h (Memory.writeN 0 [] 0 s.fg.fwCode), cycles := mset s.fg.cycles h 0 } } :=
    ⟨wf.regs, wf.store, wf.flash, sram_mset wf.sram (writeN_wf 0 [] 0 s.fg.fwCode rfl)⟩
  exact wf'.foldl fun wf' => wf'.setThread

theorem Canonical.loadForagers {s : State} {base : Nat} (wf : Canonical s) : Canonical (s.loadForagers base) :=
  wf.frameFg.foldl (fun wf' => wf'.startHive)

/-! ### ALIVE (R413) -/

theorem Canonical.setAlive {s : State} {level : Bool} (wf : Canonical s) : Canonical (s.setAlive level) := Canonical.ite wf wf.frame.emit

theorem Canonical.aliveCheck {s : State} (wf : Canonical s) : Canonical s.aliveCheck :=
  Canonical.ite wf (Canonical.ite (wf.maybe (·.wr.wr.setAlive)) (Canonical.ite wf wf.wr.setAlive))

theorem Canonical.aliveStart {s : State} (wf : Canonical s) : Canonical s.aliveStart := Canonical.ite wf wf.wr.wr.setAlive.aliveCheck

/-! ### Chip-level resets (R430 to R433) -/

theorem Canonical.wipe {s : State} {kind : Nat} (wf : Canonical s) : Canonical (s.wipe kind) := by
  unfold State.wipe
  extract_lets off low warm keep open0 bins t0 t1 t2
  have rising : Map.wf (if keep then s.regs.filter fun p => keptReg p.1 else []) = true := by
    split
    · exact wf_filter wf.regs _
    · rfl
  have wf0 : Canonical t0 := ⟨rising, rfl, wf.flash, fun _ mem => nomatch mem⟩
  have wf1 : Canonical t1 := Canonical.ite wf0.wr wf0
  have wf2 : Canonical t2 := Canonical.ite wf1.wr wf1
  exact wf2.maybe (·.wr.frame)

/-! ### The boot sequence (R437) -/

theorem Canonical.bootFinish {s : State} (wf : Canonical s) : Canonical s.bootFinish :=
  (wf.wr.foldl (fun wf' => wf'.emit)).aliveStart.eqLoad.wr.foldl (fun wf' => wf'.tryTrain)

theorem Canonical.measure {s : State} (wf : Canonical s) : CanonicalFst s.measure := CanonicalFst.mk wf.takeFree.takeFree.takeFree.takeFree

theorem Canonical.retryPorts {s : State} (wf : Canonical s) : Canonical s.retryPorts := wf.foldl (fun wf' => wf'.emit)

theorem Canonical.boot {s : State} (wf : Canonical s) : Canonical s.boot := by
  unfold State.boot
  extract_lets f faults boots s1 s2 s3 s4 s5 s6 s7 boots' s8 fact s9 s10
  have wf2 : Canonical s2 := Canonical.foldl (Canonical.retryPorts wf.frame) fun wf' => wf'.raise
  have wf4 : Canonical s4 := wf2.wr.wr.wr.foldl fun wf' => wf'.wr
  have wf7 : Canonical s7 := wf4.wr.wr.wr.wr
  have wf8 : Canonical s8 := Canonical.ite wf7.frame wf7
  have wf10 : Canonical s10 := wf8.wr.wr.wr.wr.wr
  split
  next slot ra rb _ =>
    extract_lets s11
    have wf11 : Canonical s11 := wf10.wr.wr
    split
    · exact wf11.wr.wr.maybe (·.emit)
    · extract_lets w s12 boots s13 s14 s15 life s16 s17
      have wf14 : Canonical s14 := wf11.wr.wr.wr.frame.wr.logRestore.loadParts.zeroise.loadForagers
      have wf17 : Canonical s17 := wf14.wr.frame.addRecord
      split
      next u m eq =>
        have wf' : Canonical u := CanonicalFst.of_eq eq wf17.measure
        exact Canonical.ite wf'.replan wf'.replan.bootFinish

theorem Canonical.chipReset {s : State} {kind : Nat} (wf : Canonical s) : Canonical (s.chipReset kind) := Canonical.ite wf (wf.wipe.maybe (·.boot))

theorem Canonical.execAvsResponse {good : Bool} {readMv : Nat} {s : State} (wf : Canonical s) : Yields (execAvsResponse good readMv s) :=
  Yields.atPins wf (wf.avsResponse.fst.maybe (·.bootFinish)).ok

theorem Canonical.execPowerOnReset {s : State} (wf : Canonical s) : Yields (execPowerOnReset s) := wf.frame.wipe.ok

theorem Canonical.execStandbyPowerLoss {s : State} (wf : Canonical s) : Yields (execStandbyPowerLoss s) := wf.frame.wipe.ok

theorem Canonical.execChipReset {lowNs : Nat} {taken : Bool} {s : State} (wf : Canonical s) : Yields (execChipReset lowNs taken s) :=
  Yields.ite wf.ok wf.frame.chipReset.ok

theorem Canonical.releaseReset {s : State} {boardId : Byte} {mode : BitVec 2} {sensorTj : Nat} (wf : Canonical s) :
    Canonical (s.releaseReset boardId mode sensorTj) :=
  wf.frame.maybe (·.boot)

theorem Canonical.execChipResetNRelease {boardId : Byte} {mode : BitVec 2} {sensorTj : Nat} {s : State} (wf : Canonical s) :
    Yields (execChipResetNRelease boardId mode sensorTj s) :=
  Yields.ite wf.ok (Yields.ite wf.frame.wr.ok wf.frame.releaseReset.ok)

theorem Canonical.execRailUndervoltage {rail lowNs : Nat} {s : State} (wf : Canonical s) : Yields (execRailUndervoltage rail lowNs s) :=
  Yields.ite wf.ok (Canonical.ite (wf.wr.maybe (·.wr)) (wf.wr.maybe (·.wr)).wr).frame.chipReset.ok

theorem Canonical.execRailRestored {back : RailsBack} {mode : BitVec 2} {sensorTj : Nat} {s : State} (wf : Canonical s) :
    Yields (execRailRestored back mode sensorTj s) :=
  Yields.ite wf.ok (Yields.ite wf.frame.wr.ok wf.frame.wr.releaseReset.ok)

theorem Canonical.execThermalTrip {tj : Nat} {s : State} (wf : Canonical s) : Yields (execThermalTrip tj s) :=
  Yields.ite wf.ok wf.emit.setAlive.raise.wr.frame.chipReset.ok

theorem Canonical.warmReset {s : State} {kind : Nat} (wf : Canonical s) : Canonical (s.warmReset kind) := Canonical.ite wf wf.chipReset

end Sys2Proof.Machine


/-! PROOFS. The canonical forms are kept (O60): swarm commands, resets, reactions and scheduling. Each lemma is about the
model function of its name. -/

namespace Sys2Proof.Machine

/-! ### Collective descriptors (R155 to R160) -/

theorem Canonical.joinEpoch {s : State} {n gid : Nat} {d : Desc} (wf : Canonical s) : Canonical (s.joinEpoch n gid d) := by
  unfold State.joinEpoch
  dsimp only
  split
  · exact wf
  · split
    · exact Canonical.ite wf.setFrond wf.swarmAbort
    · exact Canonical.ite wf.swarmAbort wf.setFrond.slotsShown

theorem Canonical.startCollective {s : State} {n : Nat} {x : Qp} {d : Desc} (wf : Canonical s) : Canonical (s.startCollective n x d) := by
  unfold State.startCollective
  dsimp only
  refine Canonical.ite wf ?_
  split
  · exact Canonical.ite wf.finishDesc (wf.failDesc.maybe (·.drive))
  · exact ((wf.modDesc.maybe (·.takeRef)).maybe (·.takeRef)).joinEpoch

theorem Canonical.execBarrier {fn q : Nat} {s : State} (wf : Canonical s) : Yields (execBarrier fn q s) :=
  Yields.clocked wf (wf.runSend wf.startCollective)

theorem Canonical.execReduce {fn q : Nat} {s : State} (wf : Canonical s) : Yields (execReduce fn q s) :=
  Yields.clocked wf (wf.runSend wf.startCollective)

theorem Canonical.execAllreduce {fn q : Nat} {s : State} (wf : Canonical s) : Yields (execAllreduce fn q s) :=
  Yields.clocked wf (wf.runSend wf.startCollective)

theorem Canonical.execBroadcast {fn q : Nat} {s : State} (wf : Canonical s) : Yields (execBroadcast fn q s) :=
  Yields.clocked wf (wf.runSend wf.startCollective)

/-! ### Swarm packets (R154, R164 to R169, R183, R184) -/

theorem Canonical.runSwarm {s : State} {port : Nat} {p : Packet} {row : Nat → Bool} (wf : Canonical s) : Yields (s.runSwarm port p row) := by
  unfold State.runSwarm
  split
  · refine Yields.ite wf.ok (Yields.ite wf.endTag.frame.settle.ok (Canonical.settle (Canonical.returnCredit ?_)).ok)
    exact wf.endTag.frame.swarmPacket.getD wf.endTag.frame
  · exact wf.ok

theorem Canonical.execSwarmUpPacket {port : Nat} {p : Packet} {s : State} (wf : Canonical s) : Yields (execSwarmUpPacket port p s) :=
  Yields.clocked wf wf.runSwarm

theorem Canonical.execSwarmDownPacket {port : Nat} {p : Packet} {s : State} (wf : Canonical s) : Yields (execSwarmDownPacket port p s) :=
  Yields.clocked wf wf.runSwarm

theorem Canonical.execSwarmAbortPacket {port : Nat} {p : Packet} {s : State} (wf : Canonical s) : Yields (execSwarmAbortPacket port p s) :=
  Yields.clocked wf wf.runSwarm

theorem Canonical.execStagingCellFree {gid cell : Nat} {s : State} (wf : Canonical s) : Yields (execStagingCellFree gid cell s) := by
  unfold Machine.execStagingCellFree
  refine Yields.clocked wf ?_
  split
  · exact Yields.ite wf.setFrond.settle.ok wf.ok
  · exact wf.ok

theorem Canonical.execEpochTimeout {gid : Nat} {s : State} (wf : Canonical s) : Yields (execEpochTimeout gid s) := by
  unfold Machine.execEpochTimeout
  refine Yields.clocked wf ?_
  split
  · exact Yields.ite wf.swarmAbort.settle.ok wf.ok
  · exact wf.ok

/-! ### Frond writes and reads (R153, R186) -/

theorem Canonical.frondWrite {s : State} {gid : Nat} {ws : List Word} (wf : Canonical s) : CanonicalFst (s.frondWrite gid ws) := by
  unfold State.frondWrite
  dsimp only
  refine CanonicalFst.ite (CanonicalFst.mk wf) ?_
  refine CanonicalFst.ite ?_ ?_
  · refine CanonicalFst.mk (Canonical.frame ?_)
    split
    · exact wf.maybe (·.swarmAbort)
    · exact wf
  · refine CanonicalFst.mk ?_
    split
    · refine Canonical.qevent (Canonical.setFrond ?_)
      split
      · exact wf.maybe (·.swarmAbort)
      · exact wf
    · refine Canonical.setFrond ?_
      split
      · exact wf.maybe (·.swarmAbort)
      · exact wf

theorem Canonical.frondCtrl {s : State} {v : Word} (wf : Canonical s) : Canonical (s.frondCtrl v) :=
  (Canonical.ite wf.frondWrite.fst.wr wf).andThen fun wf1 => Canonical.ite (wf1.foldl (fun wf' => wf'.wr)).wr.wr.wr.wr wf1

theorem Canonical.swarmReset {s : State} (wf : Canonical s) : Canonical s.swarmReset :=
  (wf.frame.foldl (fun wf' => wf'.returnCredit)).foldl (fun wf' => (wf'.dropSwarmIo.foldl (fun wf'' => wf''.finishDesc)).frame)

/-! ### Locks (R375, R377) -/

theorem Canonical.orphan {s : State} {src : Nat → Bool} (wf : Canonical s) : Canonical (s.orphan src) := (wf.foldl (fun wf' => wf'.wr)).raise

/-! ### Functions (R434) -/

theorem Canonical.dropKeyAccesses {s : State} {mine : Nat → Bool} (wf : Canonical s) : Canonical (s.dropKeyAccesses mine) :=
  wf.foldl (fun wf' => wf'.maybe (·.modThread.wake))

theorem Canonical.dropRequests {s : State} {fn : Nat} (wf : Canonical s) : Canonical (s.dropRequests fn) := (wf.foldl (fun wf' => wf'.endTag)).frame

theorem Canonical.functionReset0 {s : State} {fn : Nat} {block : Bool} (wf : Canonical s) : Canonical (s.functionReset0 fn block) :=
  (((((wf.dropRequests.foldl (fun wf' => wf'.removeQp)).foldl (fun wf' => wf'.drive)).frame.dropKeyAccesses.foldl
    (fun wf' => wf'.setKey)).frame.maybe (·.wr)).resetRegs.discardContext.maybe (·.wr)).andThen fun wf1 => Canonical.ite wf1
    wf1.matchShown.ctxShown.keyShown

theorem Canonical.voidNonce {s : State} (wf : Canonical s) : Canonical s.voidNonce := wf.frame

theorem Canonical.functionResets {s : State} {mine : Nat → Bool} {block : Bool} (wf : Canonical s) : Canonical (s.functionResets mine block) :=
  (wf.voidNonce.foldl (fun wf' => wf'.functionReset0)).orphan.settle

theorem Canonical.execFunctionLevelReset {fn : Nat} {s : State} (wf : Canonical s) : Yields (execFunctionLevelReset fn s) :=
  Yields.atPins wf (Yields.ite wf.ok wf.functionResets.ok)

/-! ### Host ports (R435, R438) -/

theorem Canonical.hostLinkDown {s : State} {l : Nat} (wf : Canonical s) : Canonical (s.hostLinkDown l) := Canonical.ite wf wf.frame.raise

theorem Canonical.execHostPortReset {h : Nat} {s : State} (wf : Canonical s) : Yields (execHostPortReset h s) :=
  Yields.atPins wf (Yields.ite wf.ok (Yields.ite wf.frame.ok wf.frame.hostLinkDown.hostLinkDown.frame.resetRegs.functionResets.ok))

theorem Canonical.execPerstRelease {h : Nat} {s : State} (wf : Canonical s) : Yields (execPerstRelease h s) :=
  Yields.atPins wf (Yields.ite wf.ok (Yields.ite wf.frame.ok wf.frame.emit.ok))

theorem Canonical.execHostLinkDown {link : Nat} {s : State} (wf : Canonical s) : Yields (execHostLinkDown link s) :=
  Yields.clocked wf (Yields.ite wf.hostLinkDown.ok wf.ok)

theorem Canonical.execHostLinkUp {link : Nat} {cxl : Bool} {s : State} (wf : Canonical s) : Yields (execHostLinkUp link cxl s) :=
  Yields.atPins wf (Yields.ite wf.ok wf.frame.ok)

/-! ### Block resets (R414, R436) -/

theorem Canonical.resetPort {s : State} {p : Nat} (wf : Canonical s) : Canonical (s.resetPort p) :=
  ((wf.maybe (·.emit)).linkDown.resetRegs.resetRegs.setPort.eqApply.maybe (·.wr)).andThen fun wf1 => Canonical.ite wf1.wr.wr.wr (Canonical.ite wf1.wr
    wf1.tryTrain)

theorem Canonical.resetHive {s : State} {h : Nat} (wf : Canonical s) : Canonical (s.resetHive h) := by
  unfold State.resetHive
  dsimp only
  refine Canonical.settle (Canonical.orphan (Canonical.wr ?_))
  generalize stopped : List.foldl _ s _ = u
  have wf' : Canonical u := stopped ▸ wf.foldl fun wf' => Canonical.ite wf'.stopHandler.enterError.flushRq wf'.stopHandler.enterError
  generalize emptied : List.foldl _ u _ = v
  have wf' : Canonical v := emptied ▸ wf'.foldl fun wf' => by
    refine Canonical.setThread (Canonical.finishPacket (Canonical.endTag (wf'.foldl fun wf' => Canonical.endTag ?_)))
    split
    · exact wf'.dropRef
    · exact wf'
  exact ⟨wf'.regs, wf'.store, wf'.flash, sram_mset wf'.sram rfl⟩

theorem Canonical.resetRoute {s : State} (wf : Canonical s) : Canonical s.resetRoute :=
  (wf.foldl (fun wf' => wf'.endTag.returnCredit)).frame.resetRegs.resetRegs.dropOwner.judgeAll.announce

theorem Canonical.resetSwarm {s : State} (wf : Canonical s) : Canonical s.resetSwarm := wf.swarmReset.resetRegs.slotsShown.settle

theorem Canonical.resetFunctions {s : State} (wf : Canonical s) : Canonical s.resetFunctions := wf.functionResets

theorem Canonical.resetStore {s : State} (wf : Canonical s) : Canonical s.resetStore :=
  (wf.resetFunctions.resetSwarm.zeroise.frame.foldl (fun wf' => wf'.maybe (·.wr))).resetRegs.matchShown.keyShown.cxlPump

theorem Canonical.resetHost {s : State} (wf : Canonical s) : Canonical s.resetHost :=
  wf.resetFunctions.resetRegs.resetRegs.resetRegs.ctxShown.keyShown.xlShown

theorem Canonical.blockReset {s : State} {u : Nat} (wf : Canonical s) : Canonical (s.blockReset u) :=
  Canonical.ite wf (Canonical.ite wf.frame.voidNonce.wr.resetPort (Canonical.ite wf.frame.voidNonce.wr.resetHive (Canonical.ite
    wf.frame.voidNonce.wr.resetRoute (Canonical.ite wf.frame.voidNonce.wr.resetSwarm (Canonical.ite wf.frame.voidNonce.wr.resetStore
    wf.frame.voidNonce.wr.resetHost))))).frame

theorem Canonical.execBlockResetComplete {unit : Nat} {s : State} (wf : Canonical s) : Yields (execBlockResetComplete unit s) :=
  Yields.clocked wf (Yields.ite wf.ok (wf.frame.wr.maybe (·.startHive)).ok)

/-! ### Reactions (R402, R407, R408) -/

theorem Canonical.faultInt {s : State} {k : Nat} (wf : Canonical s) : Canonical (s.faultInt k) := Canonical.ite wf.msix.fst wf.msix.fst.sat

theorem Canonical.notify {s : State} {word : Nat} (wf : Canonical s) : Canonical (s.notify word) := by
  unfold State.notify
  dsimp only
  split
  · exact wf.frame.emit
  · exact wf.frame

theorem Canonical.execHostNotifySent {s : State} (wf : Canonical s) : Yields (execHostNotifySent s) := by
  unfold Machine.execHostNotifySent
  dsimp only
  split
  · exact wf.ok
  · refine Canonical.ok ?_
    split
    · exact wf.frame
    · exact wf.frame.emit

theorem Canonical.forwardEvent {s : State} {r : Reaction} (wf : Canonical s) : Canonical (s.forwardEvent r) := by
  unfold State.forwardEvent
  dsimp only
  refine Canonical.ite wf ?_
  refine Canonical.ite wf.takeFree.emit ?_
  refine Canonical.ite wf.takeFree.sendMgmt ?_
  split
  · exact wf.takeFree.eidMet.sendMgmt
  · exact wf.takeFree.eidMet

theorem Canonical.aerReport {s : State} {corrected : Bool} {l : Nat} (wf : Canonical s) : Canonical (s.aerReport corrected l) :=
  Canonical.ite wf.frame wf.frame.emit

theorem Canonical.react {s : State} {r : Reaction} (wf : Canonical s) : Canonical (s.react r) :=
  (((((wf.emit.maybe (·.faultInt)).maybe (·.emit)).maybe (·.aliveCheck)).maybe (·.foldl (fun wf' => wf'.aerReport))).maybe (·.notify)).maybe
    (·.forwardEvent)

theorem Canonical.execReactionDispatch {s : State} (wf : Canonical s) : Yields (execReactionDispatch s) :=
  Yields.clocked wf (Yields.ite (wf.frame.foldl (fun wf' => wf'.react)).warmReset.ok ((wf.frame.foldl (fun wf' => wf'.react)).foldl
    (fun wf' => wf'.blockReset)).ok)

theorem Canonical.execAliveEdge {s : State} (wf : Canonical s) : Yields (execAliveEdge s) := Yields.ite wf.setAlive.ok wf.ok

theorem Canonical.execMsixVectorUnmask {fn vec : Nat} {s : State} (wf : Canonical s) : Yields (execMsixVectorUnmask fn vec s) :=
  Yields.atPins wf (Yields.ite wf.ok (wf.setFunc.maybe (·.msix.fst)).ok)

theorem Canonical.execStackFail {st : Nat} {s : State} (wf : Canonical s) : Yields (execStackFail st s) :=
  Yields.clocked wf (Yields.ite wf.ok wf.raise.ok)

theorem Canonical.execKeeperCoreError {core : Nat} {s : State} (wf : Canonical s) : Yields (execKeeperCoreError core s) :=
  Yields.clocked wf (Yields.ite wf.ok wf.raise.ok)

theorem Canonical.execStoreTempHigh {st temp : Nat} {s : State} (wf : Canonical s) : Yields (execStoreTempHigh st temp s) :=
  Yields.clocked wf (Yields.ite wf.ok wf.raise.ok)

/-! ### Clocks (R32, R33) -/

theorem Canonical.execRefbMonitorWindow {offset : ℤ} {absent : Bool} {s : State} (wf : Canonical s) :
    Yields (execRefbMonitorWindow offset absent s) :=
  Yields.clocked wf (Yields.ite wf.ok (Yields.ite (Yields.ite (Canonical.ite wf wf.wr).wr.wr.ok (Canonical.ite wf wf.wr).wr.wr.setActive.raise.ok)
    (Canonical.ite wf wf.wr).wr.setActive.ok))

theorem Canonical.execRootUnlock {s : State} (wf : Canonical s) : Yields (execRootUnlock s) := Yields.ite wf.ok wf.frame.wr.wr.ok

theorem Canonical.execRootRelock {s : State} (wf : Canonical s) : Yields (execRootRelock s) :=
  Yields.ite wf.ok (Canonical.ite (wf.frame.wr.maybe (·.boot)) wf.frame.wr.raise).ok

theorem Canonical.execRefclkBStop {s : State} (wf : Canonical s) : Yields (execRefclkBStop s) :=
  Yields.ite wf.ok (wf.frame.foldl (fun wf' => wf'.emit)).ok

theorem Canonical.execRefclkBRestore {s : State} (wf : Canonical s) : Yields (execRefclkBRestore s) :=
  Yields.ite wf.ok (wf.frame.foldl (fun wf' => wf'.emit)).ok

/-! ### Owners of shared resources (R34 to R37) -/

theorem Canonical.setGateOwner {s : State} {p v : Nat} (wf : Canonical s) : Canonical (s.setGateOwner p v) := wf.wr

/-! ### Time gates (R301 to R304) -/

theorem Canonical.gateDebug {s : State} {p : Nat} (wf : Canonical s) : Canonical (s.gateDebug p) := wf.maybe (·.emit)

theorem Canonical.gateShown {s : State} {p : Nat} (wf : Canonical s) : Canonical (s.gateShown p) := (wf.maybe (·.wr)).gateDebug

theorem Canonical.gateGo {s : State} {p : Nat} (wf : Canonical s) : Canonical (s.gateGo p) :=
  Canonical.ite wf (Canonical.ite wf.wr.configError wf.wr.wr.setPort)

theorem Canonical.execGateListActivate {port : Nat} {s : State} (wf : Canonical s) : Yields (execGateListActivate port s) :=
  Yields.clocked wf (Yields.ite (wf.foldl (fun wf' => wf'.wr.wr)).setPort.wr.wr.sat.gateShown.ok wf.ok)

theorem Canonical.execGateEntryAdvance {port : Nat} {s : State} (wf : Canonical s) : Yields (execGateEntryAdvance port s) :=
  Yields.clocked wf wf.gateShown.ok

/-! ### The egress scheduler (R305) -/

theorem Canonical.pickLane {s : State} {p : Nat} (wf : Canonical s) : CanonicalFst (s.pickLane p) := by
  unfold State.pickLane
  dsimp only
  split
  · exact CanonicalFst.mk wf
  · exact CanonicalFst.mk wf.setPort

theorem Canonical.popEgress {s : State} {p v : Nat} (wf : Canonical s) : Canonical (s.popEgress p v) := (wf.maybe (·.frame)).setPort

theorem Canonical.handOver {s : State} {p v : Nat} {x : InPkt} (wf : Canonical s) : Canonical (s.handOver p v x) :=
  ((CanonicalFst.ite (CanonicalFst.mk wf) wf.exDraw).fst.andThen fun wf1 => (CanonicalFst.ite (CanonicalFst.mk wf1) wf1.exDraw).fst).andThen
    fun wf2 => (Canonical.ite (wf2.maybe (·.tally)).sendFirst (wf2.maybe (·.tally)).sendNew).stamp.stamp.tagPort.releaseHeld.andThen fun wf3 =>
    (CanonicalFst.ite (CanonicalFst.mk wf) wf.exDraw).fst.sat.releaseHeld.andThen fun wf4 => (Canonical.ite wf.sat wf.swarmStray).andThen fun wf5 =>
    Canonical.ite (Canonical.ite wf5 wf5.returnCredit).endTag (Canonical.ite (Canonical.ite wf4 wf4.returnCredit).endTag (Canonical.ite
    wf2.sat.releaseHeld.setPort (Canonical.ite wf3 wf3.returnCredit).endTag))

theorem Canonical.handToLink {s : State} {p v : Nat} {x : InPkt} (wf : Canonical s) : Canonical (s.handToLink p v x) := wf.popEgress.handOver

theorem Canonical.sendHanded {s : State} {p : Nat} {r : Replay} (wf : Canonical s) : Canonical (s.sendHanded p r) := wf.handOver

theorem Canonical.idle {s : State} {p : Nat} (wf : Canonical s) : Canonical (s.idle p) := wf.sendControl

theorem Canonical.nextPacketOut {s : State} {port : Nat} (wf : Canonical s) : Canonical (s.nextPacketOut port) := by
  unfold State.nextPacketOut
  dsimp only
  split
  · exact Canonical.ite wf.setPort.bufferMet.sendReplay wf.idle
  · refine Canonical.ite wf.idle ?_
    split
    · exact Canonical.ite wf.setPort.sendHanded wf.idle
    · split
      · exact wf.mirrorFits.pickLane.fst.handToLink
      · exact wf.mirrorFits.pickLane.fst.idle

theorem Canonical.egressStep {s : State} {p : Nat} (wf : Canonical s) : Canonical (s.egressStep p) := by
  unfold State.egressStep
  split
  · exact wf.controlLeaves
  · exact Canonical.ite wf.nextPacketOut wf.idle

theorem Canonical.toMarker {f : Nat} {s : State} {p : Nat} (wf : Canonical s) : Canonical (State.toMarker f s p) := by
  induction f generalizing s with
  | zero => exact wf.idleToMarker
  | succ f ih => exact Canonical.ite wf.egressStep (ih wf.egressStep)

theorem Canonical.execAlignmentMarkerInsert {port : Nat} {s : State} (wf : Canonical s) : Yields (execAlignmentMarkerInsert port s) :=
  Yields.clocked wf (Yields.ite wf.toMarker.ok wf.ok)

theorem Canonical.execEgressSelect {port : Nat} {s : State} (wf : Canonical s) : Yields (execEgressSelect port s) :=
  Yields.clocked wf (Yields.ite wf.ok (Yields.ite wf.ok wf.egressStep.ok))

/-! ### Packets that arrive on a link (R230, R235) -/

theorem Canonical.passOn {s : State} {port v c : Nat} {b : List Byte} (wf : Canonical s) : Canonical (s.passOn port v c b) := by
  unfold State.passOn
  dsimp only
  refine Canonical.ite wf ?_
  split
  · split
    · exact wf
    · exact wf.samplePacket.fst.stamp.andThen fun wf1 => Canonical.ite wf (Canonical.ite (Canonical.ite wf1.tally
        wf1).choose.fst.stamp.toEgress.pickLane.fst.handToLink wf)
  · exact wf

theorem Canonical.frameIn {s : State} {port : Nat} {f : LinkFrame} (wf : Canonical s) : Canonical (s.frameIn port f) :=
  ((wf.syncBad.maybe (·.tally)).mirror.count.count.maybe (·.wr)).andThen fun wf1 => Canonical.ite wf.syncBad (Canonical.ite
    ((wf.syncBad.maybe (·.passOn)).tally.maybe (·.linkNak)) (Canonical.ite (((wf.syncBad.maybe (·.tally)).maybe (·.violation)).maybe (·.linkNak))
    (Canonical.ite (wf1.violation.maybe (·.linkNak)) (Canonical.ite (Canonical.ite (wf1.wr.wr.maybe (·.passOn)).creditDue wf1.wr.wr.accept)
    (Canonical.ite (wf1.creditDue.tally.maybe (·.linkNak)) (Canonical.ite wf1.creditDue.violation wf1.creditDue.tally))))))

theorem Canonical.execLinkPacketReceive {port : Nat} {f : LinkFrame} {s : State} (wf : Canonical s) : Yields (execLinkPacketReceive port f s) := by
  unfold Machine.execLinkPacketReceive
  refine Yields.atPins wf ?_
  split
  next _ _ eq => exact (CanonicalFst.of_eq eq wf.arrives).frameIn.ok
  next _ _ eq => exact (CanonicalFst.of_eq eq wf.arrives).ok

/-! ### Fabric time (R298 to R300) -/

theorem Canonical.servo {s : State} {th : ℤ} (wf : Canonical s) : Canonical (s.servo th) :=
  Canonical.ite (wf.wr.frame.wr.wr.foldl (fun wf' => wf'.gateShown)).sat.raise (Canonical.ite wf.wr.frame.wr (wf.wr.frame.maybe (·.wr)))

theorem Canonical.execTimeSyncTimer {s : State} (wf : Canonical s) : Yields (execTimeSyncTimer s) :=
  Yields.clocked wf (Yields.ite wf.ok (Yields.ite (wf.maybe (·.frame.wr.wr)).frame.control.ok (wf.maybe (·.frame.wr.wr)).frame.ok))

theorem Canonical.execTimeRequest {port : Nat} {b : List Byte} {s : State} (wf : Canonical s) : Yields (execTimeRequest port b s) :=
  Yields.atPins wf (Yields.ite wf.ok (wf.blockIn fun wf' => wf'.onPlainBlock fun wf'' => wf''.control).ok)

theorem Canonical.execTimeResponse {port : Nat} {b : List Byte} {s : State} (wf : Canonical s) : Yields (execTimeResponse port b s) := by
  unfold Machine.execTimeResponse
  dsimp only
  refine Yields.atPins wf ?_
  refine Yields.ite wf.ok ?_
  refine Canonical.ok ?_
  refine Canonical.blockIn wf (fun wf' => ?_)
  refine Canonical.onBlock wf' (fun eq => nomatch eq) (fun wf'' => ?_)
  split
  · exact wf''.maybe (·.frame.servo)
  · exact wf''

theorem Canonical.execTimepulseEdge {s : State} (wf : Canonical s) : Yields (execTimepulseEdge s) := Yields.atPins wf (Yields.ite wf.servo.ok wf.ok)

/-! ### The comb arbiters (R306 to R311) -/

theorem Canonical.execArbiterDecision {u cycle : Nat} {reqs : List (Nat × Nat)} {s : State} (wf : Canonical s) :
    Yields (execArbiterDecision u cycle reqs s) := by
  unfold Machine.execArbiterDecision
  dsimp only
  refine Yields.clocked wf ?_
  split
  · exact wf.frame.ok
  · exact (wf.frame.frame.high.count.maybe (·.tally)).ok

theorem Canonical.execBackoffExpiry {u r : Nat} {s : State} (wf : Canonical s) : Yields (execBackoffExpiry u r s) := Yields.clocked wf wf.frame.ok

end Sys2Proof.Machine


/-! PROOFS. The canonical forms are kept (O60): register accesses and the accesses of foragers. Each lemma is about the
model function of its name. -/

namespace Sys2Proof.Machine

/-! ### Shared resources (R34 to R37) -/

theorem Canonical.claimed {s : State} {good : Bool} {en st : Fld} {a i : Nat} (wf : Canonical s) : Canonical (s.claimed good en st a i) :=
  Canonical.ite wf.wr.wr wf.wr.configError

theorem Canonical.claimSpare {s : State} {en : Fld} {code : Nat} {was want : Bool} (wf : Canonical s) : Canonical (s.claimSpare en code was want) :=
  Canonical.ite wf (Canonical.ite wf.wr (wf.maybe (·.wr)).claimed)

theorem Canonical.claimPulse {s : State} {en : Fld} {code : Nat} {was want : Bool} (wf : Canonical s) : Canonical (s.claimPulse en code was want) :=
  Canonical.ite wf (Canonical.ite wf.wr (wf.maybe (·.wr)).claimed)

theorem Canonical.gateSwitch {s : State} {p : Nat} {was want : Bool} (wf : Canonical s) : Canonical (s.gateSwitch p was want) :=
  Canonical.ite wf (Canonical.ite wf.wr.gateShown (wf.maybe (·.setGateOwner)).claimed.gateShown)

theorem Canonical.exerciseSwitch {s : State} {p : Nat} {was want : Bool} (wf : Canonical s) : Canonical (s.exerciseSwitch p was want) :=
  Canonical.ite wf (Canonical.ite wf.wr.releaseHeld (Canonical.ite wf.wr.configError (wf.maybe (·.setGateOwner.setPort)).claimed))

theorem Canonical.swarmSwitch {s : State} {was want : Bool} (wf : Canonical s) : Canonical (s.swarmSwitch was want) :=
  Canonical.ite wf (Canonical.ite wf.wr (Canonical.ite wf.wr wf.configError))

theorem Canonical.samplerSwitch {s : State} {was want : Bool} (wf : Canonical s) : Canonical (s.samplerSwitch was want) :=
  Canonical.ite wf (Canonical.ite wf.frame.tagsShown.wr (wf.claimed.maybe (·.drawInterval.drawInterval)))

theorem Canonical.compatSwitch {s : State} {n : Nat} {was want : Bool} (wf : Canonical s) : Canonical (s.compatSwitch n was want) :=
  Canonical.ite wf (Canonical.ite wf.wr (Canonical.ite wf.wr wf.configError))

theorem Canonical.resRelease {s : State} {n : Nat} (wf : Canonical s) : Canonical (s.resRelease n) :=
  Canonical.ite (Canonical.ite wf.configError wf.wr) (Canonical.ite (Canonical.ite wf.configError wf.wr) (Canonical.ite (Canonical.ite wf.configError
    wf.setGateOwner) wf))

/-! ### Locks (R376, R380) -/

theorem Canonical.logForce {s : State} {compat : Bool} {ident source place src info : Nat} (wf : Canonical s) :
    Canonical (s.logForce compat ident source place src info) :=
  Canonical.ite wf.raise.tally wf.raise.tally.wr.wr.wr.wr.wr.wr

theorem Canonical.forceWord {s : State} {w src : Nat} (wf : Canonical s) : Canonical (s.forceWord w src) := wf.wr.wr.wr.logForce

theorem Canonical.forceCompat {s : State} {a src : Nat} (wf : Canonical s) : Canonical (s.forceCompat a src) :=
  Canonical.ite wf.configError wf.commit.logForce

theorem Canonical.lockWordWrite {s : State} {req : Requester} {w value : Nat} (wf : Canonical s) : Canonical (s.lockWordWrite req w value) :=
  Canonical.ite wf.lockWrite wf.tally

/-! ### The commands of BOOT_RESET_CTRL and BOOT_FLASH_CMD (R430, R436, R442, R444) -/

theorem Canonical.svnCommit {s : State} (wf : Canonical s) : Canonical s.svnCommit := Canonical.ite wf wf.frame.wr

theorem Canonical.resetCtrl {s : State} {w : Word} (wf : Canonical s) : Canonical (s.resetCtrl w) :=
  (wf.maybe (·.svnCommit)).andThen fun wf1 => Canonical.ite wf1.warmReset (wf1.maybe (·.blockReset))

theorem Canonical.flashGo {s : State} {op : Nat} (wf : Canonical s) : Canonical (s.flashGo op) :=
  Canonical.ite wf (Canonical.ite wf.configError (Canonical.ite wf wf.frame.wr))

/-! ### Crossings (R23, R24) -/

theorem Canonical.quiesceSwitch {s : State} {n : Nat} {was want : Bool} (wf : Canonical s) : Canonical (s.quiesceSwitch n was want) :=
  Canonical.ite wf (Canonical.ite wf.frame wf.frame.wr.pumpAll.cxlPump.settle)

/-! ### The sampler's records (R487, R489) -/

theorem Canonical.sampleCopy {s : State} {index : Nat} (wf : Canonical s) : Canonical (s.sampleCopy index) := by
  have unfolded := Eq.refl State.sampleCopy
  conv at unfolded => rhs; delta State.sampleCopy
  rw [unfolded]
  dsimp only
  split
  · exact wf
  · exact wf.foldl (fun wf' => wf'.wr)

theorem Canonical.viewCopy {s : State} {slot : Nat} {index : Word} (wf : Canonical s) : Canonical (s.viewCopy slot index) := wf.frame

/-! ### What a write does beyond its fields -/

theorem Canonical.actPlatform {s : State} {w : Write} (wf : Canonical s) : Canonical (s.actPlatform w) := by
  unfold State.actPlatform
  dsimp only
  refine Canonical.ite wf.quiesceSwitch ?_
  refine Canonical.ite (wf.maybe (·.resRelease)) ?_
  refine Canonical.ite wf.claimSpare.claimSpare ?_
  refine Canonical.ite wf.resetCtrl ?_
  refine Canonical.ite wf.flashGo ?_
  refine Canonical.ite wf.wr.aliveCheck ?_
  refine Canonical.ite wf.aliveCheck ?_
  refine Canonical.ite (wf.maybe (·.raise)) ?_
  refine Canonical.ite (wf.maybe (·.aliveStart)) ?_
  refine Canonical.ite ?_ (Canonical.ite ((wf.maybe (·.approve)).maybe (·.declineProposal)) (wf.maybe (·.calendarSet)))
  refine Canonical.ite ?_ wf
  split
  · exact wf.replan
  · exact wf.measure.fst.replan

theorem Canonical.actHost {s : State} {w : Write} (wf : Canonical s) : Canonical (s.actHost w) :=
  (Canonical.ite wf.eidFresh wf).andThen fun wf1 => (Canonical.ite wf.wr wf).andThen fun wf2 => Canonical.ite (Canonical.ite wf.abiGo (Canonical.ite
    wf.cmdGo wf)) (Canonical.ite (Canonical.ite wf.wr (Canonical.ite wf.frame.wr wf.wr)) (Canonical.ite (wf.foldl (fun wf' => wf'.drainRq)).settle
    (Canonical.ite wf.swarmSwitch.slotsShown (Canonical.ite wf.frondCtrl.settle (Canonical.ite (wf.foldl (fun wf' => wf'.throttleCheck))
    (Canonical.ite (Canonical.ite wf1.eidFresh wf1) (Canonical.ite (Canonical.ite wf.dropOwner wf) (Canonical.ite (Canonical.ite wf2.swapGo.announce
    wf2) wf))))))))

theorem Canonical.actLink {s : State} {w : Write} (wf : Canonical s) : Canonical (s.actLink w) :=
  Canonical.ite (Canonical.ite (Canonical.ite wf.linkOff.settle (wf.maybe (·.linkEnabled))) (wf.maybe (·.exerciseSwitch))) (Canonical.ite
    (Canonical.ite (Canonical.ite (wf.maybe (·.lanesOff)) (wf.maybe (·.lanesOff)).retireBySoftware.settle) (Canonical.ite
    ((Canonical.ite wf wf.checkerRestart).maybe (·.patternBurst)) wf)) (Canonical.ite (Canonical.ite wf wf.frame) (Canonical.ite
    wf.claimPulse.claimPulse.gateDebug (Canonical.ite (wf.maybe (·.frame)) (Canonical.ite (wf.gateSwitch.maybe (·.gateGo)) (Canonical.ite
    wf.contextWritten.settle (Canonical.ite (wf.maybe (·.forceWord)) (Canonical.ite wf.forceCompat (Canonical.ite wf.compatSwitch (Canonical.ite
    (wf.maybe (·.lockWordWrite)) (Canonical.ite (wf.maybe (·.filterRegs)) (Canonical.ite wf.samplerSwitch (Canonical.ite (wf.maybe (·.frame))
    (wf.maybe (·.sampleCopy)))))))))))))))

theorem Canonical.act {s : State} {w : Write} (wf : Canonical s) : Canonical (s.act w) :=
  Canonical.ite wf.actPlatform (Canonical.ite wf.actHost wf.actLink)

/-! ### Accesses (R474 to R479) -/

theorem Canonical.captureAccess {s : State} {req : Requester} {kind off size : Nat} (wf : Canonical s) :
    Canonical (s.captureAccess req kind off size) :=
  Canonical.ite wf wf.wr.wr.wr.wr.wr

theorem Canonical.writeAt {s : State} {req : Requester} {off size a : Nat} {new mask : Word} {meas : Option Measurement} (wf : Canonical s) :
    Canonical (s.writeAt req off size a new mask meas) := by
  unfold State.writeAt
  split
  · exact wf
  · have wf' {store : Word} {same : Prop} [Decidable same] : Canonical (if same then s else { s with regs := mset s.regs a store }) :=
      Canonical.ite wf (wf.withRegs (mset_wf _ _ _ wf.regs))
    exact Canonical.ite wf.sat.captureAccess (wf'.maybe (·.configError)).act

theorem Canonical.regWrite {s : State} {req : Requester} {off size : Nat} {v : Word} {meas : Option Measurement} (wf : Canonical s) :
    Canonical (s.regWrite req off size v meas) := by
  unfold State.regWrite
  dsimp only
  refine Canonical.ite wf ?_
  refine Canonical.ite wf.captureAccess.emit ?_
  split
  · exact wf.maybe (·.viewCopy)
  · split
    · exact wf
    · exact wf.writeAt

theorem Canonical.readAt {s : State} {req : Requester} {size a : Nat} (wf : Canonical s) : CanonicalFst (s.readAt req size a) := by
  unfold State.readAt
  split
  · exact CanonicalFst.mk wf
  · exact CanonicalFst.ite (CanonicalFst.mk wf.tally) (CanonicalFst.mk (wf.maybe (·.withRegs (mset_wf _ _ _ wf.regs))))

theorem Canonical.regRead {s : State} {req : Requester} {off size : Nat} (wf : Canonical s) : CanonicalFst (s.regRead req off size) := by
  unfold State.regRead
  dsimp only
  refine CanonicalFst.ite (CanonicalFst.mk wf) ?_
  refine CanonicalFst.ite (CanonicalFst.mk wf.captureAccess.emit) ?_
  split
  · exact CanonicalFst.mk wf
  · split
    · exact CanonicalFst.mk wf
    · exact CanonicalFst.mk wf.readAt.fst

/-! ### BAR4 (R411, R473) -/

theorem Canonical.bar4Write {s : State} {fn off : Nat} {w : Word} (wf : Canonical s) : Canonical (s.bar4Write fn off w) :=
  Canonical.ite wf (Canonical.ite wf.setFunc (wf.setFunc.maybe (·.msix.fst)))

theorem Canonical.bar4Access {s : State} {fn off size : Nat} {v : Option Word} (wf : Canonical s) : Canonical (s.bar4Access fn off size v) := by
  unfold State.bar4Access
  dsimp only
  refine Canonical.ite wf ?_
  refine Canonical.ite wf.emit ?_
  split
  · exact wf.bar4Write
  · exact (wf.maybe (·.takeFree)).emit

/-! ### The rows that are accesses -/

theorem Canonical.execRegisterWrite {req : Requester} {off size : Nat} {v : Word} {s : State} (wf : Canonical s) :
    Yields (execRegisterWrite req off size v s) := by
  unfold Machine.execRegisterWrite
  split
  · exact wf.bar4Access.ok
  · exact wf.regWrite.ok

theorem Canonical.execRegisterReadClear {req : Requester} {off size : Nat} {s : State} (wf : Canonical s) :
    Yields (execRegisterReadClear req off size s) := by
  unfold Machine.execRegisterReadClear
  dsimp only
  split
  · exact wf.bar4Access.ok
  · refine Canonical.ok ?_
    split
    · exact wf.regRead.fst.emit
    · exact wf.regRead.fst

theorem Canonical.execRegisterAccessTimeout {req : Requester} {off : Nat} {write : Bool} {s : State} (wf : Canonical s) :
    Yields (execRegisterAccessTimeout req off write s) := by
  unfold Machine.execRegisterAccessTimeout
  dsimp only
  refine Yields.ite wf.ok ?_
  split
  · exact wf.ok
  · exact (Canonical.ite wf wf.emit).raise.ok

theorem Canonical.write8 {s : State} {req : Requester} {off : Nat} {v : Word} (wf : Canonical s) : Yields (s.write8 req off v) := wf.regWrite.ok

theorem Canonical.writeArr {s : State} {req : Requester} {f : Fld} {i n : Nat} {v : Word} (wf : Canonical s) : Yields (s.writeArr req f i n v) :=
  Yields.ite wf.write8 wf.ok

theorem Canonical.execQuiesce {req : Requester} {n : Nat} {v : Word} {s : State} (wf : Canonical s) : Yields (execQuiesce req n v s) := wf.writeArr

theorem Canonical.execResume {req : Requester} {n : Nat} {v : Word} {s : State} (wf : Canonical s) : Yields (execResume req n v s) := wf.writeArr

theorem Canonical.execQuiesceDrained {n : Nat} {s : State} (wf : Canonical s) : Yields (execQuiesceDrained n s) :=
  Yields.clocked wf (Yields.ite wf.frame.wr.ok wf.ok)

theorem Canonical.execQuiesceTimeout {n : Nat} {s : State} (wf : Canonical s) : Yields (execQuiesceTimeout n s) :=
  Yields.clocked wf (Yields.ite wf.frame.wr.raise.ok wf.ok)

theorem Canonical.execResRelease {req : Requester} {v : Word} {s : State} (wf : Canonical s) : Yields (execResRelease req v s) := wf.write8

theorem Canonical.execLoopEn {req : Requester} {v : Word} {s : State} (wf : Canonical s) : Yields (execLoopEn req v s) := wf.write8

theorem Canonical.execLoopDisable {req : Requester} {v : Word} {s : State} (wf : Canonical s) : Yields (execLoopDisable req v s) := wf.write8

theorem Canonical.execMirrorEn {req : Requester} {v : Word} {s : State} (wf : Canonical s) : Yields (execMirrorEn req v s) := wf.write8

theorem Canonical.execMirrorDisable {req : Requester} {v : Word} {s : State} (wf : Canonical s) : Yields (execMirrorDisable req v s) := wf.write8

theorem Canonical.execAbiRequest {req : Requester} {fn : Nat} {v : Word} {s : State} (wf : Canonical s) : Yields (execAbiRequest req fn v s) :=
  Yields.ite wf.write8 wf.ok

theorem Canonical.execFrondCtrlWrite {req : Requester} {v : Word} {s : State} (wf : Canonical s) : Yields (execFrondCtrlWrite req v s) := wf.write8

theorem Canonical.execFrondCtrlRead {req : Requester} {v : Word} {s : State} (wf : Canonical s) : Yields (execFrondCtrlRead req v s) := wf.write8

theorem Canonical.execSwarmEnable {req : Requester} {v : Word} {s : State} (wf : Canonical s) : Yields (execSwarmEnable req v s) := wf.write8

theorem Canonical.execRouteSwap {req : Requester} {v : Word} {s : State} (wf : Canonical s) : Yields (execRouteSwap req v s) := wf.write8

theorem Canonical.execSwapCancel {req : Requester} {v : Word} {s : State} (wf : Canonical s) : Yields (execSwapCancel req v s) := wf.write8

theorem Canonical.execRteMgmtRelease {req : Requester} {v : Word} {s : State} (wf : Canonical s) : Yields (execRteMgmtRelease req v s) := wf.write8

theorem Canonical.execLinkEnable {req : Requester} {port : Nat} {v : Word} {s : State} (wf : Canonical s) : Yields (execLinkEnable req port v s) :=
  wf.writeArr

theorem Canonical.execLinkDisable {req : Requester} {port : Nat} {v : Word} {s : State} (wf : Canonical s) : Yields (execLinkDisable req port v s) :=
  wf.writeArr

theorem Canonical.execExerciseEnable {req : Requester} {port : Nat} {v : Word} {s : State} (wf : Canonical s) :
    Yields (execExerciseEnable req port v s) :=
  wf.writeArr

theorem Canonical.execInjectOne {req : Requester} {port lane : Nat} {v : Word} {s : State} (wf : Canonical s) :
    Yields (execInjectOne req port lane v s) :=
  Yields.ite wf.write8 wf.ok

theorem Canonical.execPortRetire {req : Requester} {port : Nat} {v : Word} {s : State} (wf : Canonical s) : Yields (execPortRetire req port v s) :=
  wf.writeArr

theorem Canonical.execPortUnretire {req : Requester} {port : Nat} {v : Word} {s : State} (wf : Canonical s) :
    Yields (execPortUnretire req port v s) :=
  wf.writeArr

theorem Canonical.execPulseInClaim {req : Requester} {v : Word} {s : State} (wf : Canonical s) : Yields (execPulseInClaim req v s) := wf.write8

theorem Canonical.execDebugOutClaim {req : Requester} {v : Word} {s : State} (wf : Canonical s) : Yields (execDebugOutClaim req v s) := wf.write8

theorem Canonical.execGateGo {req : Requester} {port : Nat} {v : Word} {s : State} (wf : Canonical s) : Yields (execGateGo req port v s) :=
  wf.writeArr

theorem Canonical.execGateEnable {req : Requester} {port : Nat} {v : Word} {s : State} (wf : Canonical s) : Yields (execGateEnable req port v s) :=
  wf.writeArr

theorem Canonical.execGateDisable {req : Requester} {port : Nat} {v : Word} {s : State} (wf : Canonical s) : Yields (execGateDisable req port v s) :=
  wf.writeArr

theorem Canonical.execLckWordClaim {req : Requester} {w : Nat} {v : Word} {s : State} (wf : Canonical s) : Yields (execLckWordClaim req w v s) :=
  Yields.ite wf.ok wf.writeArr

theorem Canonical.execLckWordRelease {req : Requester} {w : Nat} {v : Word} {s : State} (wf : Canonical s) : Yields (execLckWordRelease req w v s) :=
  wf.writeArr

theorem Canonical.execLckForce {req : Requester} {v : Word} {s : State} (wf : Canonical s) : Yields (execLckForce req v s) := wf.write8

theorem Canonical.execLckCompatForce {req : Requester} {v : Word} {s : State} (wf : Canonical s) : Yields (execLckCompatForce req v s) := wf.write8

theorem Canonical.execCompatRangeEnable {req : Requester} {n : Nat} {v : Word} {s : State} (wf : Canonical s) :
    Yields (execCompatRangeEnable req n v s) :=
  wf.writeArr

theorem Canonical.execXltCtxWrite {req : Requester} {n : Nat} {v : Word} {s : State} (wf : Canonical s) : Yields (execXltCtxWrite req n v s) :=
  wf.writeArr

theorem Canonical.execEvtStatusClear {req : Requester} {k : Nat} {v : Word} {s : State} (wf : Canonical s) : Yields (execEvtStatusClear req k v s) :=
  wf.writeArr

theorem Canonical.execFaultInject {req : Requester} {v : Word} {s : State} (wf : Canonical s) : Yields (execFaultInject req v s) := wf.write8

theorem Canonical.execAliveStart {req : Requester} {v : Word} {s : State} (wf : Canonical s) : Yields (execAliveStart req v s) := wf.write8

theorem Canonical.execFltLock {req : Requester} {v : Word} {s : State} (wf : Canonical s) : Yields (execFltLock req v s) := wf.write8

theorem Canonical.execHandlerPolicyLock {req : Requester} {v : Word} {s : State} (wf : Canonical s) : Yields (execHandlerPolicyLock req v s) :=
  wf.write8

theorem Canonical.execAdminLock {req : Requester} {v : Word} {s : State} (wf : Canonical s) : Yields (execAdminLock req v s) := wf.write8

theorem Canonical.execReplan {req : Requester} {v : Word} {m : Measurement} {s : State} (wf : Canonical s) : Yields (execReplan req v m s) :=
  wf.regWrite.ok

theorem Canonical.execProposalApprove {req : Requester} {v : Word} {s : State} (wf : Canonical s) : Yields (execProposalApprove req v s) := wf.write8

theorem Canonical.execProposalDecline {req : Requester} {v : Word} {s : State} (wf : Canonical s) : Yields (execProposalDecline req v s) := wf.write8

theorem Canonical.execCalendarSet {req : Requester} {v : Word} {s : State} (wf : Canonical s) : Yields (execCalendarSet req v s) := wf.write8

theorem Canonical.execWarmChipReset {req : Requester} {v : Word} {s : State} (wf : Canonical s) : Yields (execWarmChipReset req v s) := wf.write8

theorem Canonical.execBlockGo {req : Requester} {v : Word} {s : State} (wf : Canonical s) : Yields (execBlockGo req v s) := wf.write8

theorem Canonical.execSvnCommit {req : Requester} {v : Word} {s : State} (wf : Canonical s) : Yields (execSvnCommit req v s) := wf.write8

theorem Canonical.execFlashErase {req : Requester} {v : Word} {s : State} (wf : Canonical s) : Yields (execFlashErase req v s) := wf.write8

theorem Canonical.execFlashProgram {req : Requester} {v : Word} {s : State} (wf : Canonical s) : Yields (execFlashProgram req v s) := wf.write8

theorem Canonical.execFlashRead {req : Requester} {v : Word} {s : State} (wf : Canonical s) : Yields (execFlashRead req v s) := wf.write8

theorem Canonical.execFlashVerify {req : Requester} {v : Word} {s : State} (wf : Canonical s) : Yields (execFlashVerify req v s) := wf.write8

theorem Canonical.execCounterSet {req : Requester} {n : Nat} {v : Word} {s : State} (wf : Canonical s) : Yields (execCounterSet req n v s) :=
  wf.writeArr

theorem Canonical.execClearAll {req : Requester} {v : Word} {s : State} (wf : Canonical s) : Yields (execClearAll req v s) := wf.write8

theorem Canonical.execFreeze {req : Requester} {v : Word} {s : State} (wf : Canonical s) : Yields (execFreeze req v s) := wf.write8

theorem Canonical.execSamplerEnable {req : Requester} {v : Word} {s : State} (wf : Canonical s) : Yields (execSamplerEnable req v s) := wf.write8

theorem Canonical.execSampleIndexCopy {req : Requester} {v : Word} {s : State} (wf : Canonical s) : Yields (execSampleIndexCopy req v s) := wf.write8

/-! ### The end of accesses -/

theorem Canonical.dropAccesses {s : State} {t : Nat} {gone : Access → Bool} (wf : Canonical s) : Canonical (s.dropAccesses t gone) := by
  unfold State.dropAccesses
  dsimp only
  refine Canonical.foldl wf.modThread (fun wf' => ?_)
  split
  · exact wf'.dropRef
  · exact wf'

theorem Canonical.modAccess {s : State} {t k : Nat} {f : Access → Access} (wf : Canonical s) : Canonical (s.modAccess t k f) := wf.modThread

theorem Canonical.completeAccess {s : State} {t : Nat} {a : Access} {v : Word} (wf : Canonical s) : Canonical (s.completeAccess t a v) := by
  unfold State.completeAccess
  dsimp only
  split
  · exact wf.dropAccesses.stamp.stamp.stamp.endTag
  · exact wf.dropAccesses.stamp.stamp.stamp.endTag.andThen fun wf1 => Canonical.ite wf1.result wf1.setReg

theorem Canonical.finishCall {s : State} {t : Nat} {a : Access} {b : List Byte} (wf : Canonical s) : Canonical (s.finishCall t a b) := by
  unfold State.finishCall
  dsimp only
  split
  · split
    next u eq => exact Sound.of_eq eq wf.copyTo
    next u k eq => exact Sound.step eq wf.copyTo (Sound.of_eq eq wf.copyTo).dropAccesses
  · split
    next u eq => exact CanonicalFst.of_eq eq wf.psendOut
    next u eq => exact (CanonicalFst.of_eq eq wf.psendOut).dropAccesses.result
  · exact wf.dropAccesses

theorem Canonical.finishGroup {s : State} {t : Nat} {a : Access} (wf : Canonical s) : Canonical (s.finishGroup t a) :=
  Canonical.ite wf (Canonical.ite wf.finishCall wf.completeAccess)

theorem Canonical.failCall {s : State} {t : Nat} {a : Access} {detail : Nat} (wf : Canonical s) : Canonical (s.failCall t a detail) := by
  unfold State.failCall
  dsimp only
  split
  · exact wf.dropAccesses.takeFree.copyPart.fst.callFails
  · exact wf.dropAccesses.result
  · exact wf.dropAccesses

theorem Canonical.failAccess {s : State} {t : Nat} {a : Access} {detail : Nat} (wf : Canonical s) : Canonical (s.failAccess t a detail) :=
  wf.dropAccesses.endTag.andThen fun wf1 => Canonical.ite wf.failCall (Canonical.ite wf1 wf1.trap)

/-! ### Failing device accesses (R368 to R370) -/

theorem Canonical.logTimeout {s : State} {t : Nat} {a : Access} {err : Bool} (wf : Canonical s) : Canonical (s.logTimeout t a err) :=
  Canonical.ite wf wf.wr.wr.wr.wr.wr.wr.wr

theorem Canonical.failStore {s : State} {t : Nat} {a : Access} {err : Bool} (wf : Canonical s) : Canonical (s.failStore t a err) :=
  wf.logTimeout.raise.tally.modThread.dropAccesses.andThen fun wf1 => Canonical.ite wf1 wf1.wake

theorem Canonical.failLoad {s : State} {t : Nat} {a : Access} {err : Bool} (wf : Canonical s) : Canonical (s.failLoad t a err) :=
  wf.tally.logTimeout.failAccess

/-! ### Performing an access -/

theorem Canonical.readAccess {s : State} {t : Nat} {a : Access} {r : HostRes} (wf : Canonical s) : CanonicalFst (s.readAccess t a r) := by
  unfold State.readAccess
  split
  · split
    next _ eq => exact CanonicalFst.mk (CanonicalFst.of_eq eq wf.sramMet)
    next _ eq => exact CanonicalFst.mk (CanonicalFst.of_eq eq wf.sramMet)
  · refine CanonicalFst.ite (CanonicalFst.mk wf) ?_
    split
    next _ _ eq => exact CanonicalFst.mk (CanonicalFst.of_eq eq wf.fetchStore)
    next _ eq => exact CanonicalFst.mk (CanonicalFst.of_eq eq wf.fetchStore)
  · split
    next _ _ eq => exact CanonicalFst.mk (CanonicalFst.of_eq eq wf.regRead)
    next _ eq =>
      have wf' := CanonicalFst.of_eq eq wf.regRead
      exact CanonicalFst.mk wf
  · split
    · exact CanonicalFst.mk wf.count
    · exact CanonicalFst.mk wf
    · exact CanonicalFst.mk wf.linkLogs
    · exact CanonicalFst.mk wf.linkLogs
  · exact CanonicalFst.mk wf

theorem Canonical.writeMemory {s : State} {t : Nat} {target : Target} {addr : Nat} {b : List Byte} (wf : Canonical s) :
    Canonical (s.writeMemory t target addr b) := by
  unfold State.writeMemory
  split
  · exact wf.sramWrite.clearResv
  · exact wf.placeStore
  · exact wf

theorem Canonical.storePiece {s : State} {t : Nat} {a : Access} (wf : Canonical s) : Canonical (s.storePiece t a) :=
  Canonical.ite (wf.maybe (·.tally)) wf.writeMemory

theorem Canonical.performLoad {s : State} {t : Nat} {a : Access} {r : HostRes} (wf : Canonical s) : Canonical (s.performLoad t a r) := by
  unfold State.performLoad
  dsimp only
  split
  · exact Canonical.ite wf (wf.modAccess.maybe (·.askNext)).finishGroup
  · refine Canonical.ite wf ?_
    split
    next _ _ eq => exact ((CanonicalFst.of_eq eq wf.readAccess).modAccess.maybe (·.askNext)).finishGroup
    next _ _ eq =>
      have wf' := CanonicalFst.of_eq eq wf.readAccess
      exact Canonical.ite wf'.failLoad wf'.failAccess
    next _ eq => exact (CanonicalFst.of_eq eq wf.readAccess)

theorem Canonical.performStore {s : State} {t : Nat} {a : Access} (wf : Canonical s) : Canonical (s.performStore t a) := by
  unfold State.performStore
  dsimp only
  split
  · exact wf.dropAccesses.regWrite
  · exact wf.dropAccesses.writeMemory
  · exact Canonical.ite wf (Canonical.ite wf.storePiece.modAccess wf.storePiece.dropAccesses)
  · exact Canonical.ite wf.emit.count.modAccess.emit wf.emit.count.dropAccesses
  · exact wf.dropAccesses

theorem Canonical.performLr {s : State} {t : Nat} {a : Access} (wf : Canonical s) : Canonical (s.performLr t a) := by
  unfold State.performLr
  split
  next _ _ eq => exact (CanonicalFst.of_eq eq wf.readAccess).modThread.completeAccess
  next _ _ eq => exact (CanonicalFst.of_eq eq wf.readAccess).failAccess
  next _ eq => exact (CanonicalFst.of_eq eq wf.readAccess)

theorem Canonical.performSc {s : State} {t : Nat} {a : Access} (wf : Canonical s) : Canonical (s.performSc t a) :=
  Canonical.ite wf (wf.maybe (·.writeMemory)).modThread.completeAccess

theorem Canonical.accessCas {s : State} {t : Nat} {a : Access} {seen tries : Nat} (wf : Canonical s) : Canonical (s.accessCas t a seen tries) := by
  unfold State.accessCas
  dsimp only
  split
  · exact wf.modAccess.emit.count
  · exact wf

theorem Canonical.performAtomic {s : State} {t : Nat} {a : Access} {r : HostRes} (wf : Canonical s) : Canonical (s.performAtomic t a r) := by
  unfold State.performAtomic
  dsimp only
  split
  · split
    · exact Canonical.ite wf.count.completeAccess (Canonical.ite wf.count.accessCas (Canonical.ite wf.count.failAccess wf.count.accessCas))
    · exact Canonical.ite wf.failLoad wf.failAccess
    · exact Canonical.ite wf.linkLogs.failLoad wf.linkLogs.failAccess
    · exact Canonical.ite wf.linkLogs.failLoad wf.linkLogs.failAccess
  · split
    next _ _ eq =>
      have wf' := CanonicalFst.of_eq eq wf.readAccess
      refine Canonical.completeAccess ?_
      split
      · exact wf'.commit.countAtomic
      · exact wf'.writeMemory
    next _ _ eq => exact (CanonicalFst.of_eq eq wf.readAccess).failAccess
    next _ eq => exact (CanonicalFst.of_eq eq wf.readAccess)

theorem Canonical.execForagerAccessResponse {t k : Nat} {r : HostRes} {s : State} (wf : Canonical s) :
    Yields (execForagerAccessResponse t k r s) := by
  unfold Machine.execForagerAccessResponse
  dsimp only
  refine Yields.clocked wf ?_
  split
  · exact wf.ok
  · refine Yields.ite (wf.maybe (·.finishGroup.wake.settle)).ok ?_
    refine Yields.ite wf.ok ?_
    refine Yields.ite wf.performLoad.wake.settle.ok ?_
    refine Yields.ite wf.ok ?_
    refine Canonical.ok (Canonical.settle (Canonical.wake ?_))
    split
    · exact wf.performStore
    · exact wf.performLr
    · exact wf.performSc
    · exact wf.performAtomic
    · exact wf

theorem Canonical.execDeviceStoreAck {t k : Nat} {s : State} (wf : Canonical s) : Yields (execDeviceStoreAck t k s) := by
  unfold Machine.execDeviceStoreAck
  refine Yields.clocked wf ?_
  split
  · exact wf.ok
  · exact Yields.ite wf.dropAccesses.wake.settle.ok wf.ok

theorem Canonical.execDeviceAccessTimeout {t k : Nat} {err : Bool} {s : State} (wf : Canonical s) : Yields (execDeviceAccessTimeout t k err s) := by
  unfold Machine.execDeviceAccessTimeout
  dsimp only
  refine Yields.clocked wf ?_
  split
  · exact wf.ok
  · refine Yields.ite wf.ok ?_
    refine Yields.ite ?_ (Yields.ite wf.failStore.settle.ok (Yields.ite wf.ok wf.failLoad.settle.ok))
    refine Yields.ite ?_ ?_
    · refine Canonical.ok (Canonical.settle (Canonical.failStore ?_))
      split
      · exact wf.raise
      · exact wf
    · refine Canonical.ok (Canonical.settle (Canonical.finishGroup (Canonical.modAccess ?_)))
      split
      · exact wf.raise
      · exact wf

end Sys2Proof.Machine


/-! PROOFS. The canonical forms are kept (O60): management, debug, the dispatch and the tick. Each lemma is about the
model function of its name. -/

namespace Sys2Proof.Machine

/-! ### Management operations (R222 to R226) -/

theorem Canonical.mgmtOp {s : State} {mop : Nat} {needsToken : Bool} {f : InPkt → MgmtHeader → List Byte → State → MgmtDone}
    (wf : Canonical s) (run : ∀ {x h b u}, Canonical u → CanonicalFst (f x h b u)) : Yields (s.mgmtOp mop needsToken f) := by
  unfold State.mgmtOp
  split
  · exact wf.ok
  · split
    · exact Yields.ite wf.ok (Yields.ite wf.frame.corrected.mgmtReply.ok (Yields.ite wf.frame.corrected.mgmtReply.ok
        (run wf.frame.corrected).fst.mgmtReply.settle.ok))
    · exact wf.ok

theorem Canonical.execClaim {s : State} (wf : Canonical s) : Yields (execClaim s) :=
  Yields.clocked wf (wf.mgmtOp (fun wf' => CanonicalFst.ite (CanonicalFst.mk wf') (CanonicalFst.ite (CanonicalFst.mk wf') (CanonicalFst.mk
    wf'.frame.wr))))

theorem Canonical.execRelease {s : State} (wf : Canonical s) : Yields (execRelease s) :=
  Yields.clocked wf (wf.mgmtOp (fun wf' => CanonicalFst.ite (CanonicalFst.mk wf'.dropOwner) (CanonicalFst.mk wf')))

theorem Canonical.mgmtRead {s : State} {off n : Nat} (wf : Canonical s) : CanonicalFst (s.mgmtRead off n) :=
  (CanonicalFst.mk wf).foldl (fun wf' => CanonicalFst.mk wf'.fst.regRead.fst)

theorem Canonical.execReadReg {s : State} (wf : Canonical s) : Yields (execReadReg s) := by
  unfold Machine.execReadReg
  dsimp only
  refine Yields.clocked wf ?_
  refine Canonical.mgmtOp wf (fun wf' => ?_)
  split
  · exact CanonicalFst.ite (CanonicalFst.mk wf') (CanonicalFst.mk wf'.mgmtRead.fst)
  · exact CanonicalFst.mk wf'

theorem Canonical.execWriteReg {s : State} (wf : Canonical s) : Yields (execWriteReg s) := by
  unfold Machine.execWriteReg
  refine Yields.clocked wf ?_
  refine Canonical.mgmtOp wf (fun wf' => ?_)
  split
  · exact CanonicalFst.ite (CanonicalFst.mk wf') (CanonicalFst.mk (wf'.foldl (fun wf'' => wf''.regWrite)))
  · exact CanonicalFst.mk wf'

theorem Canonical.setFuncEids {s : State} {b : List Byte} {n : Nat} (wf : Canonical s) : Canonical (s.setFuncEids b n) :=
  wf.foldl (fun wf' => wf'.wr.wr)

theorem Canonical.execAssign {s : State} (wf : Canonical s) : Yields (execAssign s) :=
  Yields.clocked wf (wf.mgmtOp (fun wf' => CanonicalFst.ite (CanonicalFst.mk wf') (CanonicalFst.ite (CanonicalFst.mk wf'.regWrite.regWrite)
    (CanonicalFst.ite (CanonicalFst.mk wf'.regWrite.regWrite.swap) (CanonicalFst.mk wf'.regWrite.regWrite.swap.setFuncEids.wr.announce)))))

theorem Canonical.execEidWrite {s : State} (wf : Canonical s) : Yields (execEidWrite s) :=
  Yields.clocked wf (wf.mgmtOp (fun wf' => CanonicalFst.ite (CanonicalFst.mk wf') (CanonicalFst.mk (wf'.foldl (fun wf'' => wf''.eidFresh.wr)))))

theorem Canonical.execFrondWrite {s : State} (wf : Canonical s) : Yields (execFrondWrite s) :=
  Yields.clocked wf (wf.mgmtOp (fun wf' => CanonicalFst.ite (CanonicalFst.mk wf') (CanonicalFst.mk wf'.frondWrite.fst)))

theorem Canonical.execSwap {s : State} (wf : Canonical s) : Yields (execSwap s) :=
  Yields.clocked wf (wf.mgmtOp (fun wf' => CanonicalFst.ite (CanonicalFst.mk wf') (CanonicalFst.ite (CanonicalFst.mk wf'.wr.wr.swapGo.announce)
    (CanonicalFst.mk wf'.wr.wr.swapGo.announce))))

theorem Canonical.execEcho {s : State} (wf : Canonical s) : Yields (execEcho s) := Yields.clocked wf (wf.mgmtOp (fun wf' => CanonicalFst.mk wf'))

/-! ### Flash commands (R444) -/

theorem Canonical.flashEnd {s : State} {op addr data : Nat} {good : Bool} (wf : Canonical s) : CanonicalFst (s.flashEnd op addr data good) :=
  CanonicalFst.ite (CanonicalFst.ite (CanonicalFst.mk wf) (CanonicalFst.ite (CanonicalFst.mk wf) (CanonicalFst.ite (CanonicalFst.mk wf.flashErase)
    (CanonicalFst.mk wf.raise)))) (CanonicalFst.ite (CanonicalFst.ite (CanonicalFst.mk wf) (CanonicalFst.ite (CanonicalFst.mk wf) (CanonicalFst.ite
    (CanonicalFst.mk wf.flashWrite) (CanonicalFst.mk wf.raise)))) (CanonicalFst.ite (CanonicalFst.ite (CanonicalFst.mk wf) (CanonicalFst.ite
    (CanonicalFst.mk wf.wr) (CanonicalFst.mk wf.raise))) (CanonicalFst.ite (CanonicalFst.mk wf) (CanonicalFst.ite (CanonicalFst.mk wf.wr)
    (CanonicalFst.mk wf.raise)))))

theorem Canonical.execFlashCommandDone {ok0 : Bool} {s : State} (wf : Canonical s) : Yields (execFlashCommandDone ok0 s) := by
  unfold Machine.execFlashCommandDone
  dsimp only
  refine Yields.atPins wf ?_
  split
  · exact wf.ok
  · exact wf.flashEnd.fst.frame.wr.wr.ok

/-! ### JTAG and the debug unlock (R447, R448) -/

theorem Canonical.jtagLoad {s : State} {i : JtagInstr} (wf : Canonical s) : Canonical (s.jtagLoad i) := wf.frame.maybe (·.warmReset)

theorem Canonical.execJtagInstructionLoad {i : JtagInstr} {s : State} (wf : Canonical s) : Yields (execJtagInstructionLoad i s) :=
  Yields.ite wf.jtagLoad.ok wf.ok

theorem Canonical.execDbgChallenge {nonce : List Byte} {s : State} (wf : Canonical s) : Yields (execDbgChallenge nonce s) :=
  Yields.clocked wf (Yields.ite wf.ok (Yields.ite wf.jtagLoad.ok wf.jtagLoad.frame.emit.ok))

theorem Canonical.execDbgResponse {scope : Byte} {key sig : List Byte} {s : State} (wf : Canonical s) : Yields (execDbgResponse scope key sig s) :=
  Yields.clocked wf (Yields.ite wf.ok (Yields.ite wf.jtagLoad.frame.wr.warmReset.ok wf.jtagLoad.frame.ok))

theorem Canonical.execDbgLockoutExpiry {s : State} (wf : Canonical s) : Yields (execDbgLockoutExpiry s) := Yields.clocked wf wf.frame.ok

/-! ### The SMBus target (R467) -/

theorem Canonical.execSetOffset {bytes : List Byte} {pecOk : Bool} {s : State} (wf : Canonical s) : Yields (execSetOffset bytes pecOk s) :=
  Yields.ite wf.ok (Yields.ite wf.emit.ok (Yields.ite wf.frame.ok wf.ok))

theorem Canonical.execRead {pecOk : Bool} {s : State} (wf : Canonical s) : Yields (execRead pecOk s) :=
  Yields.ite wf.ok (Yields.ite wf.emit.ok (Yields.ite wf.emit.ok (Yields.ite (Yields.ite wf.readAt.fst.emit.ok wf.emit.ok) wf.regRead.fst.emit.ok)))

theorem Canonical.execWrite {bytes : List Byte} {pecOk : Bool} {s : State} (wf : Canonical s) : Yields (execWrite bytes pecOk s) :=
  Yields.ite wf.ok (Yields.ite wf.emit.ok (Yields.ite wf.ok wf.regWrite.ok))

/-! ### The crossbar loopback test (R40) -/

theorem Canonical.execLoopPacketGenerate {s : State} (wf : Canonical s) : Yields (execLoopPacketGenerate s) :=
  Yields.clocked wf (Yields.ite wf.ok wf.frame.emit.ok)

theorem Canonical.execLoopPacketCheck {rx : List Byte} {s : State} (wf : Canonical s) : Yields (execLoopPacketCheck rx s) := by
  unfold Machine.execLoopPacketCheck
  dsimp only
  refine Yields.clocked wf ?_
  split
  · exact wf.ok
  · exact (Canonical.ite wf.frame.sat wf.frame.sat.sat).ok

/-! ### The dispatch -/

theorem Canonical.exec {i : Instr} {s : State} (wf : Canonical s) : Yields (exec i s) := by
  unfold Machine.exec
  split
  · exact wf.execAdd
  · exact wf.execSub
  · exact wf.execAnd
  · exact wf.execOr
  · exact wf.execXor
  · exact wf.execSll
  · exact wf.execSrl
  · exact wf.execSra
  · exact wf.execSlt
  · exact wf.execSltu
  · exact wf.execMul
  · exact wf.execMulhu
  · exact wf.execMulh
  · exact wf.execDivu
  · exact wf.execRemu
  · exact wf.execMin
  · exact wf.execMax
  · exact wf.execMinu
  · exact wf.execMaxu
  · exact wf.execClz
  · exact wf.execCtz
  · exact wf.execPopc
  · exact wf.execBswap
  · exact wf.execBswap4
  · exact wf.execCrc8
  · exact wf.execAddi
  · exact wf.execAndi
  · exact wf.execOri
  · exact wf.execXori
  · exact wf.execSlti
  · exact wf.execSltiu
  · exact wf.execShifti
  · exact wf.execLih
  · exact wf.execLb
  · exact wf.execLbu
  · exact wf.execLh
  · exact wf.execLhu
  · exact wf.execLw
  · exact wf.execLwu
  · exact wf.execLd
  · exact wf.execSb
  · exact wf.execSh
  · exact wf.execSw
  · exact wf.execSd
  · exact wf.execLr
  · exact wf.execSc
  · exact wf.execAtomFadd
  · exact wf.execAtomCswap
  · exact wf.execAtomSwap
  · exact wf.execAtomAnd
  · exact wf.execAtomOr
  · exact wf.execAtomXor
  · exact wf.execAtomSmin
  · exact wf.execAtomSmax
  · exact wf.execBeq
  · exact wf.execBne
  · exact wf.execBlt
  · exact wf.execBge
  · exact wf.execBltu
  · exact wf.execBgeu
  · exact wf.execJal
  · exact wf.execJalr
  · exact wf.execFenceFull
  · exact wf.execFenceAcquire
  · exact wf.execFenceRelease
  · exact wf.execFenceDevice
  · exact wf.execCsrr
  · exact wf.execCsrw
  · exact wf.execPwld
  · exact wf.execPwst
  · exact wf.execPnext
  · exact wf.execPsend
  · exact wf.execPdone
  · exact wf.execEidlk
  · exact wf.execCopy
  · exact wf.execPlace
  · exact wf.execArrive
  · exact wf.execPost
  · exact wf.execCancel
  · exact wf.execLclaim
  · exact wf.execLrel
  · exact wf.execLclaimw
  · exact wf.execLrelw
  · exact wf.execEvraise
  · exact wf.execSysNop
  · exact wf.execYieldSlot
  · exact wf.execTrap
  · exact wf.execExit
  · exact wf.execXret
  · exact wf.execWait
  · exact wf.execRegisterWrite
  · exact wf.execRegisterReadClear
  · exact wf.execQuiesce
  · exact wf.execResume
  · exact wf.execQuiesceDrained
  · exact wf.execQuiesceTimeout
  · exact wf.execRegisterAccessTimeout
  · exact wf.execRefbMonitorWindow
  · exact wf.execRootUnlock
  · exact wf.execRootRelock
  · exact wf.execRefclkBStop
  · exact wf.execResRelease
  · exact wf.execLoopEn
  · exact wf.execLoopDisable
  · exact wf.execLoopPacketGenerate
  · exact wf.execLoopPacketCheck
  · exact wf.execMirrorEn
  · exact wf.execMirrorDisable
  · exact wf.execAbiRequest
  · exact wf.execCmdBlockReadDone
  · exact wf.execCommandTimeExpiry
  · exact wf.execCreatePd
  · exact wf.execDestroyPd
  · exact wf.execCreateCq
  · exact wf.execDestroyCq
  · exact wf.execCreateEq
  · exact wf.execCreateQp
  · exact wf.execModifyQpInit
  · exact wf.execModifyQpReady
  · exact wf.execModifyQpPaused
  · exact wf.execModifyQpError
  · exact wf.execModifyQpReset
  · exact wf.execDestroyQp
  · exact wf.execQueryQp
  · exact wf.execRegMr
  · exact wf.execDeregMr
  · exact wf.execAllocWindow
  · exact wf.execFreeWindow
  · exact wf.execRegHandler
  · exact wf.execDeregHandler
  · exact wf.execSetShaper
  · exact wf.execSetPolicer
  · exact wf.execInvXltContext
  · exact wf.execInvXltRange
  · exact wf.execXltInvalidationDrain
  · exact wf.execSendDoorbell
  · exact wf.execRecvDoorbell
  · exact wf.execCqDoorbell
  · exact wf.execEqDoorbell
  · exact wf.execSendDescriptorRead
  · exact wf.execRecvDescriptorRead
  · exact wf.execNop
  · exact wf.execPut
  · exact wf.execGet
  · exact wf.execAtomicFadd
  · exact wf.execAtomicCswap
  · exact wf.execAtomicSwap
  · exact wf.execAtomicAnd
  · exact wf.execAtomicOr
  · exact wf.execAtomicXor
  · exact wf.execAtomicSmin
  · exact wf.execAtomicSmax
  · exact wf.execSendTagged
  · exact wf.execBindWindow
  · exact wf.execUnbindWindow
  · exact wf.execBarrier
  · exact wf.execReduce
  · exact wf.execAllreduce
  · exact wf.execBroadcast
  · exact wf.execRecvTagged
  · exact wf.execSendPacketBuild
  · exact wf.execPeerStateFreed
  · exact wf.execContextWaitDeadline
  · exact wf.execSeStateIdleExpiry
  · exact wf.execWtPut
  · exact wf.execGetReq
  · exact wf.execGetResp
  · exact wf.execAtomicReq
  · exact wf.execAtomicResp
  · exact wf.execAck
  · exact wf.execNak
  · exact wf.execEager
  · exact wf.execRts
  · exact wf.execFin
  · exact wf.execContextFetchDone
  · exact wf.execAckDelayExpiry
  · exact wf.execRetransmitTimeout
  · exact wf.execStateMissHintExpiry
  · exact wf.execStateMissDeadline
  · exact wf.execResultHoldExpiry
  · exact wf.execPlacementIssued
  · exact wf.execHostReadDataReturn
  · exact wf.execHostAtomicResponse
  · exact wf.execStoreAtomicDone
  · exact wf.execKeyDrainComplete
  · exact wf.execKeyDrainStall
  · exact wf.execCxlMemRead
  · exact wf.execCxlMemWrite
  · exact wf.execPostingResume
  · exact wf.execPoolResizeApply
  · exact wf.execFullHintExpiry
  · exact wf.execReceiverFullDeadline
  · exact wf.execRndvWaitExpiry
  · exact wf.execHandlerStart
  · exact wf.execFrondCtrlWrite
  · exact wf.execFrondCtrlRead
  · exact wf.execSwarmEnable
  · exact wf.execSwarmUpPacket
  · exact wf.execSwarmDownPacket
  · exact wf.execSwarmAbortPacket
  · exact wf.execStagingCellFree
  · exact wf.execEpochTimeout
  · exact wf.execRouterArrival
  · exact wf.execRoutingDecision
  · exact wf.execEgressSelect
  · exact wf.execWagglePeriod
  · exact wf.execRouteSwap
  · exact wf.execTimedSwap
  · exact wf.execSwapCancel
  · exact wf.execThrottleRelease
  · exact wf.execMgmtDirectedForward
  · exact wf.execClaim
  · exact wf.execRelease
  · exact wf.execReadReg
  · exact wf.execWriteReg
  · exact wf.execAssign
  · exact wf.execEidWrite
  · exact wf.execFrondWrite
  · exact wf.execSwap
  · exact wf.execEcho
  · exact wf.execRteMgmtRelease
  · exact wf.execLinkPacketReceive
  · exact wf.execAckCredit
  · exact wf.execResyncMark
  · exact wf.execResyncReport
  · exact wf.execTimeRequest
  · exact wf.execTimeResponse
  · exact wf.execWaggle
  · exact wf.execTrain
  · exact wf.execFailoverRequest
  · exact wf.execFailoverResponse
  · exact wf.execLinkAckTimer
  · exact wf.execReplayTimeout
  · exact wf.execResyncPeriod
  · exact wf.execTrainTimer
  · exact wf.execLockLossTimeout
  · exact wf.execHoldoffExpiry
  · exact wf.execFailoverTimeout
  · exact wf.execTrainingTimeout
  · exact wf.execLinkEnable
  · exact wf.execLinkDisable
  · exact wf.execExerciseEnable
  · exact wf.execReorderRelease
  · exact wf.execSignalDetect
  · exact wf.execCdrLock
  · exact wf.execBlockLockAcquired
  · exact wf.execBlockLockLoss
  · exact wf.execAlignmentMarkerInsert
  · exact wf.execAlignmentMarkerReceive
  · exact wf.execAmLockAcquired
  · exact wf.execAmLockLoss
  · exact wf.execCheckerLock
  · exact wf.execCheckerLockLoss
  · exact wf.execInjectOne
  · exact wf.execInjectIntervalBurst
  · exact wf.execEyeMonitorUpdate
  · exact wf.execPortRetire
  · exact wf.execPortUnretire
  · exact wf.execShaperRelease
  · exact wf.execTimeSyncTimer
  · exact wf.execTimepulseEdge
  · exact wf.execPulseInClaim
  · exact wf.execDebugOutClaim
  · exact wf.execGateGo
  · exact wf.execGateEnable
  · exact wf.execGateDisable
  · exact wf.execGateListActivate
  · exact wf.execGateEntryAdvance
  · exact wf.execArbiterDecision
  · exact wf.execBackoffExpiry
  · exact wf.execThreadWake
  · exact wf.execPacketHandoff
  · exact wf.execCrcVerdict
  · exact wf.execForagerAccessResponse
  · exact wf.execHandlerBudgetExhausted
  · exact wf.execDeviceStoreAck
  · exact wf.execDeviceAccessTimeout
  · exact wf.execLckWordClaim
  · exact wf.execLckWordRelease
  · exact wf.execLckForce
  · exact wf.execLckCompatForce
  · exact wf.execCompatRangeEnable
  · exact wf.execWalkReadResponse
  · exact wf.execAdCasResponse
  · exact wf.execWalkTimeout
  · exact wf.execXltCtxWrite
  · exact wf.execPrefetchWalk
  · exact wf.execReactionDispatch
  · exact wf.execEvtStatusClear
  · exact wf.execFaultInject
  · exact wf.execAliveStart
  · exact wf.execFltLock
  · exact wf.execHandlerPolicyLock
  · exact wf.execAdminLock
  · exact wf.execReplan
  · exact wf.execReplanTimer
  · exact wf.execVcoreStep
  · exact wf.execAvsResponse
  · exact wf.execAvsRetryTimer
  · exact wf.execProposalApprove
  · exact wf.execProposalDecline
  · exact wf.execCalendarSet
  · exact wf.execPohHour
  · exact wf.execThermalSample
  · exact wf.execLogRecordProgram
  · exact wf.execThermalTrip
  · exact wf.execPowerOnReset
  · exact wf.execChipReset
  · exact wf.execWarmChipReset
  · exact wf.execBlockGo
  · exact wf.execBlockResetComplete
  · exact wf.execHostPortReset
  · exact wf.execPerstRelease
  · exact wf.execFunctionLevelReset
  · exact wf.execSvnCommit
  · exact wf.execFlashErase
  · exact wf.execFlashProgram
  · exact wf.execFlashRead
  · exact wf.execFlashVerify
  · exact wf.execFlashCommandDone
  · exact wf.execDbgChallenge
  · exact wf.execDbgResponse
  · exact wf.execDbgLockoutExpiry
  · exact wf.execJtagInstructionLoad
  · exact wf.execRailUndervoltage
  · exact wf.execRailRestored
  · exact wf.execSetOffset
  · exact wf.execRead
  · exact wf.execWrite
  · exact wf.execCounterSet
  · exact wf.execClearAll
  · exact wf.execFreeze
  · exact wf.execSamplerEnable
  · exact wf.execSampleHoldExpiry
  · exact wf.execSampleIndexCopy
  · exact wf.execChipResetNRelease
  · exact wf.execHostLinkDown
  · exact wf.execHostLinkUp
  · exact wf.execRefclkBRestore
  · exact wf.execStackFail
  · exact wf.execKeeperCoreError
  · exact wf.execStoreTempHigh
  · exact wf.execSignalLoss
  · exact wf.execStandbyPowerLoss
  · exact wf.execAliveEdge
  · exact wf.execMsixVectorUnmask
  · exact wf.execHostNotifySent

/-! ### The tick -/

theorem Canonical.countCreditWaits {s : State} (wf : Canonical s) : Canonical s.countCreditWaits := wf.foldl (fun wf' => wf'.maybe (·.count))

theorem Canonical.calendarSecond {s : State} (wf : Canonical s) : Canonical s.calendarSecond := wf.frame.wr

theorem Canonical.tickRunning {s : State} (wf : Canonical s) : Canonical s.tickRunning :=
  wf.frameFg.count.countCreditWaits.patternTick.andThen fun wf1 => Canonical.ite wf1.calendarSecond wf1.frame

theorem Canonical.tickStandby {s : State} (wf : Canonical s) : Canonical s.tickStandby := Canonical.ite wf.wr.takeFree.calendarSecond wf.wr.frame

theorem Canonical.tick {s : State} (wf : Canonical s) : Canonical (tick s) := Canonical.ite wf (Canonical.ite wf.tickStandby wf.tickRunning)

end Sys2Proof.Machine


/-! PROOFS. Every command and every step keeps the canonical forms (O60). -/

namespace Sys2Proof.Machine

theorem Canonical.reset : Canonical State.reset := ⟨rfl, rfl, rfl, fun _ mem => nomatch mem⟩

theorem Canonical.step {s : State} (wf : Canonical s) : Yields (step s) := by
  unfold Machine.step
  split
  · exact Yields.next wf.tick
  · exact wf.frame.exec

/-- Settles O60: `Canonical` is the invariant; it is kept by the primitive changes of the state, hence by each function of the model in turn,
up to the dispatch and the tick. -/
theorem stepsKeepTheCanonicalForms : Obligations.StepsKeepTheCanonicalForms :=
  ⟨(canonical_iff _).mp Canonical.reset,
    fun _ _ t regs memory eq => (canonical_iff t).mp (((canonical_iff _).mpr ⟨regs, memory⟩).exec t eq),
    fun _ t regs memory eq => (canonical_iff t).mp (((canonical_iff _).mpr ⟨regs, memory⟩).step t eq)⟩

end Sys2Proof.Machine
